-- ==== Sys2Proof/Word.lean ====
section
/-! DEFINITION. The word types of the OR8 and their plainest arithmetic: bytes, saturation, and the two's-complement
reading of a field. Tray time, counts and register fields are natural numbers below a stated width. -/

namespace Sys2Proof

/-- One byte of device, host or flash memory. -/
abbrev Byte := BitVec 8

/-- A sparse table: key and value pairs, keys strictly rising; a key that is not listed reads a default. -/
abbrev SMap (α : Type) := List (Nat × α)

end Sys2Proof
end

