-- ==== Sys2Proof/Syntax.lean ====
section
/-! DEFINITION. The commands of the OR8: one constructor per row of spec/opcode_table.json, with the operands a command
carries from outside (which unit it concerns, what was written, sampled or received). Everything else a command depends on
stands in State. -/

namespace Sys2Proof

/-- A value taken from a pin, converter or comparator at a control-tick boundary (R25, R234): the signal's code, its index,
the value, and whether its two capture stages disagreed. -/
structure Sample where
  sig : Nat
  idx : Nat
  val : Nat
  uncertain : Bool
  deriving DecidableEq, Repr

/-- What a cold reset finds (R37, R403, R472, R507): the cores that fail their self-test, as a bit map; the strap inputs; whether
LPDDR5X stayed in self-refresh on held supplies; and the supplies measured, in 10 mV, AUX12 first. -/
structure Restart where
  bad : Nat
  strap : Nat
  lpHeld : Bool
  supplies : List Nat
  deriving DecidableEq, Repr

/-- What a cold reset that powers the tray anew finds beside its supplies (R500, R401): the ROM's bad steps and the strap. -/
structure RomFind where
  bad : Nat
  strap : Nat
  deriving DecidableEq, Repr

/-- A read of one word or of both of a 64-bit register (R6): BAR0 address of either word, and 4 or 8 bytes. -/
structure WideRead where
  a : Nat
  width : Nat
  deriving DecidableEq, Repr

/-- A write of a W1C register (R8): the value written, and the bits the hardware sets in the same cycle. -/
structure ClearWrite where
  value : Nat
  hw : Nat
  deriving DecidableEq, Repr

/-- A brake comparator's edge (R116): V_sense in 0.1 mV, and how far into the control tick it is sampled, in 250 ps. -/
structure BrakeEdge where
  v : Nat
  dt : Nat
  deriving DecidableEq, Repr

/-- A period boundary (R88): tile, tray time, and the SYNC_IN period in ps where the tile follows it. -/
structure PeriodEdge where
  k : Nat
  t : Nat
  period : Nat
  deriving DecidableEq, Repr

/-- What is seen of a switching period's pulses: per channel id the sensed current at each ns from the PWM rising edge (R85), and the peak
of its survey pulse (R117). -/
structure PeriodSeen where
  waves : List (Nat × List Int)
  survey : List (Nat × Nat)
  deriving DecidableEq, Repr

/-- The other samples of a VSEN sampling instant: IMON by channel id (R93) and other sense pairs as 6 × tile + pair (R95), in 0.1 mV. -/
structure LoopSamples where
  imon : List (Nat × Nat)
  pairs : List (Nat × Int)
  deriving DecidableEq, Repr

/-- What SYNC_IN has shown in holdover (R89): good periods in a row since the last command, and the phase to close in ps. -/
structure SyncBack where
  good : Nat
  phase : Int
  deriving DecidableEq, Repr

/-- What a look at a receive pair shows (R135): swing in mV peak to peak, its longest run of symbol times without a level transition, and
for how many ns both have held. -/
structure EnergyLook where
  swing : Nat
  gap : Nat
  ns : Nat
  deriving DecidableEq, Repr

/-- The commands: those with operands first, then those without, each in the order of the table. (The compiled form of a constructor
with operands has a number, and the numbers end before the table does.) -/
inductive Instr where
  /-- A write to a register field without a row of its own acts by its access type (RW, RWS, RWT, W1C, WO, KO). (R7). Requester of R65, BAR0 address, 4 or 8 bytes, value, and the bits the hardware sets in the same cycle. -/
  | registerWrite (req a width value hw : Nat)
  /-- A 32-bit read of a 64-bit register's lower word latches the upper word for that requester's next read. (R6). Requester and read. -/
  | upperWordLatch (req : Nat) (r : WideRead)
  /-- A read of an RC field returns its value and clears it, unless the hardware sets it in the same cycle. (R8). Requester, BAR0 address, and the bits or the count the hardware sets in the same cycle. -/
  | rcRead (req a hw : Nat)
  /-- A write to BLOCK_STGCANCEL withdraws the requester's writes staged against its stamp. (R55). Requester and base address of the block. -/
  | stgCancel (req blk : Nat)
  /-- A write of TIM_TXCTL.begin opens a transaction when none is open. (R56). Requester and the word written. -/
  | txBegin (req value : Nat)
  /-- The owner's write to a register holding RWT fields places values in the open transaction or aborts it. (R57). Requester, BAR0 address, width in bytes, value. -/
  | txWrite (req a width value : Nat)
  /-- The owner's write of TIM_TXSTAMP while OPEN sets the commit apply-at stamp. (R58). Requester and value. -/
  | txStampWrite (req value : Nat)
  /-- A write of TIM_TXCTL.commit ends the writes and moves the transaction to COMMITTING. (R58). Requester and the word written. -/
  | txCommit (req value : Nat)
  /-- A write of TIM_TXCTL.abort by the owner or keeper aborts the transaction. (R59). Requester and the word written. -/
  | txAbort (req value : Nat)
  /-- At each control-tick boundary the fixed region begins its fixed schedule for the tick. (R42). What the pins and converters show at the new boundary. -/
  | controlTick (ins : List Sample)
  /-- An ordered survey repeats the items that do not disturb regulation. (R39). The supplies measured, in 10 mV, AUX12 first. -/
  | surveyOrder (supplies : List Nat)
  /-- A TIME message on the up lane gives the parent's job time to the discipline loop. (R268). Timing lane. -/
  | time (m : Nat)
  /-- A TIME_UP message from a child supplies t3 for the delay exchange. (R269). Timing lane. -/
  | timeUp (m : Nat)
  /-- A DELAY message from the parent completes a round-trip measurement of the up lane. (R269). Timing lane. -/
  | delay (m : Nat)
  /-- Each timing lane's delay is measured at link-up and every 1 s. (R269). Timing lane. -/
  | tlaneRttMeasure (m : Nat)
  /-- A management core's push queues the JRN_MGMTREC buffer as a Firn record. (R589). -/
  | jrnMgmtPush (req : Nat)
  /-- When the watermark or 1 ms is reached, a drain engine writes records into a posted BUFFER and posts DRAIN. (R462). Firn class, host memory could not be written. -/
  | drain (c : Nat) (fail : Bool)
  /-- A write to JRN_ACK advances the acknowledgement within the ring or is discarded. (R590). -/
  | jrnAckWrite (req c value : Nat)
  /-- A write of JRN_CAPCTL.arm moves capture to ARMED. (R74). Requester. -/
  | captureArm (req : Nat)
  /-- A trigger marks the trigger frame and moves capture to POST, or is counted or recorded in other states. (R74). True for a write of JRN_CAPCTL.trigger, and its requester. -/
  | captureTrigger (reg : Bool) (req : Nat)
  /-- A write of JRN_CAPCTL.release moves a frozen capture to DISARMED. (R74). Requester. -/
  | captureRelease (req : Nat)
  /-- In each switching period every active channel runs its peak-current pulse. (R84). The boundary, and what is seen of the pulses. -/
  | switchingPeriod (e : PeriodEdge) (p : PeriodSeen)
  /-- At each VSEN sample the rail loop computes new channel current commands. (R98). Rail, VSEN sample in 0.1 mV, and the other samples since the last. -/
  | voltageLoopUpdate (r : Nat) (v : Int) (x : LoopSamples)
  /-- A missing or out-of-range SYNC_IN period puts the tile into holdover. (R89). Tile and period in ps, 0 for none seen. -/
  | syncHoldover (k period : Nat)
  /-- After 1,000 good periods the tile returns to SYNC_IN. (R89). Tile, period in ps, and what SYNC_IN has shown. -/
  | syncResume (k period : Nat) (x : SyncBack)
  /-- A failed sense path moves the rail to its alternate pair or trips the rail. (R96). Regulated rail. -/
  | senseSwitch (r : Nat)
  /-- A clamped channel or the brake flag brings every working phase in at the next period boundary. (R102). Regulated rail. -/
  | fastAdd (r : Nat)
  /-- A channel test fires, and the channel is tri-stated, marked failed and the loop rescaled. (R105). Channel id (tile * 80 + channel), cause, and the quantities of the test as the record shows them (R121): IMON, rise and expected rise. -/
  | phaseFault (c cause imon rise expected : Nat)
  /-- Once its stage is ready and its zero measured, the bench channel joins the active set. (R106). Channel id, and the rail it joins. -/
  | benchJoin (c r : Nat)
  /-- The bench channel's weight reaches 1 and the replacement completes. (R106). Channel id. -/
  | phaseSwap (c : Nat)
  /-- A rail asserts its enable when the group clock reaches its on_delay and earlier rails are GOOD. (R303). Group, and sequenced rail of it. -/
  | railEnable (g r : Nat)
  /-- The tile reports a soft-started rail good and it becomes REGULATING. (R111). Regulated rail. -/
  | tileRailGood (r : Nat)
  /-- Fold-back binding too long or a soft-start timeout trips the rail. (R113). Regulated rail. -/
  | softstartTrip (r : Nat)
  /-- Sustained overvoltage, undervoltage or sense failure trips a regulating rail. (R115). Regulated rail. -/
  | railTrip (r : Nat)
  /-- A discharging rail below 50 mV or at the off-timeout is turned OFF. (R114). Regulated rail. -/
  | dischargeEnd (r : Nat)
  /-- The rail comparator raises the brake flag when V_sense falls below V_t − brake. (R116). Regulated rail and V_sense in 0.1 mV. -/
  | brakeAssert (r : Nat) (e : BrakeEdge)
  /-- The brake flag clears when V_sense rises past the hysteresis. (R116). Regulated rail and V_sense in 0.1 mV. -/
  | brakeClear (r : Nat) (e : BrakeEdge)
  /-- A link with SWJ_CTL.enable and a REGULATING core rail leaves OFF for DETECT. (R134). Link: 0 to 7 a slot's, 8 to 12 a timing lane's. -/
  | enable (n : Nat)
  /-- Every 1 ms the OR8 looks for partner energy on the receive pair. (R135). Link, and what its receive pair shows. -/
  | energyCheck (n : Nat) (x : EnergyLook)
  /-- A received training frame updates alignment, control-block state and error counts. (R136). Physical lane, position of the first symbol, 2,125 levels. -/
  | trainingFrame (lane pos : Nat) (levels : List Int)
  /-- A rate not trained within 2 ms is abandoned for the next slower rate or LOSS. (R139). Physical lane. -/
  | trainTimeout (lane : Nat)
  /-- At each frame start a downstream frame is assembled, coded and sent. (R128). Physical lane. -/
  | frameTransmit (lane : Nat)
  /-- A received upstream frame is decoded and its control word, map or messages taken. (R129). Physical lane, frame index, arrival in 10 ps, levels. -/
  | upstreamFrame (lane fidx arrive : Nat) (levels : List Int)
  /-- A message unacknowledged for 3 ticks causes all unacknowledged messages to be resent. (R132). Link. -/
  | messageResend (n : Nat)
  /-- A CAP message carries a capability page; with all pages acknowledged the link enters RUN. (R140). Slot. -/
  | cap (n : Nat)
  /-- A HINT message sets hint phase floor and guard terms for the slot. (R169). Slot. -/
  | hint (n : Nat)
  /-- A STEP message closes the current step-index entry and opens a new one. (R195). Slot. -/
  | step (n : Nat)
  /-- An AGEING report is held and may raise the slot's ageing trim. (R181). Slot. -/
  | ageing (n : Nat)
  /-- A FREQ_ACK reports the result of applying a frequency index. (R151). Slot. -/
  | freqAck (n : Nat)
  /-- A TIPOFF_ACK reports the fate of a tip-off barrier. (R133). Slot. -/
  | tipoffAck (n : Nat)
  /-- At least every 1 ms the OR8 queues a TIME message to each accelerator. (R152). Slot. -/
  | timeSend (n : Nat)
  /-- At RUN entry and every 1 s the Swija round trip and one-way delay are measured. (R141). Slot. -/
  | rttMeasure (n : Nat)
  /-- A write of SWJ_CTL.rtt_now measures the round trip at once. (R141). Requester and slot. -/
  | rttNow (req n : Nat)
  /-- A write of SWJ_CTL.retrain takes the link to DETECT. (R160). Requester and slot. -/
  | retrain (req n : Nat)
  /-- Uncorrectable frames beyond switch_thr or a committed force_spare start a planned lane switch. (R155). Link. -/
  | plannedSwitch (n : Nat)
  /-- With the spare trained, both lanes carry frames and SWITCH names the boundary. (R155). Link. -/
  | spareTrained (n : Nat)
  /-- At the named boundary both ends take frames from the spare and power down the primary. (R155). Link. -/
  | laneSwitch (n : Nat)
  /-- No correctable frame for 16 frame periods declares loss and starts the spare. (R156). Link. -/
  | linkLoss (n : Nat)
  /-- Every 1 s without a lane in RUN, training is tried again. (R158). Link. -/
  | lossRetry (n : Nat)
  /-- With action = 1, loss beyond the timeout holds PROTECT off on the slot's group. (R158). Slot. -/
  | lossTimeout (n : Nat)
  /-- The escalation ceiling is released hold ms after the last qualifying interval. (R180). Slot. -/
  | escalationRelease (n : Nat)
  /-- A cap still unmet 10 s after the index reached 0 writes CAP_ACT reason 5. (R177). Scope: a slot, or 8 for the tray. -/
  | capUnmet (n : Nat)
  /-- At the end of each 100 ms the trim falls if every group reported good margin. (R181). Slot. -/
  | ageTrimPeriod (n : Nat)
  /-- A group silent for 300 ms sets the trim to max(trim, 0). (R181). Slot. -/
  | ageReportTimeout (n : Nat)
  /-- At the end of each 1,000-tick window the accuracy monitor judges the slot and may suspend it. (R211). Slot. -/
  | accuracyWindow (n : Nat)
  /-- At the end of the suspension hold the slot returns to ACTIVE or holds again. (R211). Slot. -/
  | suspendHoldEnd (n : Nat)
  /-- A keeper write of FAB_LOADCTL.load starts loading a structure image into the idle bank. (R254). Requester. -/
  | imageLoad (req : Nat)
  /-- A write of FAB_LOADCTL.discard sets the load state to EMPTY. (R264). Requester. -/
  | loadDiscard (req : Nat)
  /-- An error in one copy of the live tables is served from the other copy and rewritten. (R260). Section type and entry, whether both copies are in error, and what a cold reset finds. -/
  | tableEccError (sect entry : Nat) (both : Bool) (r : Restart)
  /-- At its send instant a tray sends its aggregated REPORT on the parent lane. (R276). Job identity. -/
  | reportSend (j : Nat)
  /-- A child REPORT decoded in time is aggregated into the tray's report. (R276). Timing lane. -/
  | report (m : Nat)
  /-- A child silent for miss_limit epochs is detached and counted excluded. (R281). Job identity and child lane. -/
  | childDetach (j m : Nat)
  /-- The root decides MIN or HOLD, the index and whether the tip-off fires. (R277). Job identity. -/
  | huddleDecide (j : Nat)
  /-- A decoded RESULT is forwarded, FREQs and TIPOFFs are queued and the result recorded. (R278). Timing lane. -/
  | result (m : Nat)
  /-- At E + 40 µs the new index, class and envelope share come into force. (R278). Job identity. -/
  | resultApply (j : Nat)
  /-- No RESULT by E + 36 µs holds the previous result. (R279). Job identity. -/
  | resultLost (j : Nat)
  /-- A TRIGGER is passed on once and triggers the tray's capture. (R287). Timing lane. -/
  | trigger (m : Nat)
  /-- A lockstep frame carries a pass to the follower or a signature back, compared at each side. (R290). Timing lane. -/
  | lockstep (m : Nat)
  /-- A group starts its power-up when on is in force, its dependencies are UP and no fault is latched. (R302). Group. -/
  | groupPowerUp (g : Nat)
  /-- A rail's deglitched power-good changes level after the deglitch time. (R299). Sequenced rail. -/
  | pgChange (r : Nat)
  /-- A rail qualified continuously for qual µs becomes GOOD. (R301). Sequenced rail. -/
  | railQualified (r : Nat)
  /-- A rail not GOOD within on_timeout has failed to come up. (R301). Sequenced rail. -/
  | railOnTimeout (r : Nat)
  /-- A group starts its power-down at its common stop. (R304). Group. -/
  | groupPowerDown (g : Nat)
  /-- A rail deasserts its enable when the group clock reaches its off_delay and earlier rails have fallen. (R304). Sequenced rail. -/
  | railDisable (r : Nat)
  /-- A disabled rail's VMON or power-good shows it has fallen. (R304). Sequenced rail. -/
  | railFallen (r : Nat)
  /-- A rail not fallen within off_timeout gets active discharge. (R305). Sequenced rail. -/
  | railOffTimeout (r : Nat)
  /-- A rail still not fallen is given up with a fault latched. (R305). Sequenced rail. -/
  | railGivenUp (r : Nat)
  /-- A GOOD rail loses power-good, leaves its VMON window or its tile trips. (R306). Sequenced rail. -/
  | railFault (r : Nat)
  /-- 1 ms after a retried rail has fallen its enable is asserted again. (R307). Sequenced rail. -/
  | retryReenable (r : Nat)
  /-- A write of 1 to SEQ_FAULTMAP clears a rail latch and possibly the group's PROTECT off. (R310). Requester, register of the map, and the write. -/
  | faultClear (req m : Nat) (w : ClearWrite)
  /-- A write of 1 to SEQ_FIRST.valid rearms first-fault capture. (R311). Requester, and the write of SEQ_FIRST. -/
  | firstRearm (req : Nat) (w : ClearWrite)
  /-- Inrush lasting t_flt or dissipating beyond e_max trips the channel. (R328). Feed-tile channel. -/
  | inrushTrip (c : Nat)
  /-- Gate and drop conditions held 100 µs move a channel to ON with power-good. (R329). Feed-tile channel. -/
  | channelOn (c : Nat)
  /-- An ON channel at i_lim or p_lim enters LIMIT. (R330). Feed-tile channel. -/
  | channelLimit (c : Nat)
  /-- The shunt comparator at i_fast trips the channel off. (R331). Channel, ticks of tray time into the control tick, current in 1/16 A. -/
  | fastTrip (c dt : Nat) (i : Int)
  /-- Reverse current at i_rev trips a feed channel. (R331). Channel, ticks of tray time into the control tick, current in 1/16 A. -/
  | reverseTrip (c dt : Nat) (i : Int)
  /-- At the next boundary a trip records PROTECT_TRIP and issues its PROTECT orders. (R333). Feed-tile channel. -/
  | tripProtectOrders (c : Nat)
  /-- A write of 1 to FED_TRIPMAP clears a channel's trip latch. (R332). Requester, and the write of FED_TRIPMAP. -/
  | tripClear (req : Nat) (w : ClearWrite)
  /-- Current or output while commanded off marks a channel DAMAGED. (R334). Feed-tile channel. -/
  | damageDetect (c : Nat)
  /-- A feed whose VIN has qualified becomes usable and may be selected. (R336). Feed. -/
  | feedUsable (f : Nat)
  /-- A feed leaving its window for dg µs becomes unusable and a loss switch starts. (R337). Feed. -/
  | feedUnusable (f : Nat)
  /-- A broken diode in use sends the device to throttle or shutdown. (R350). Diode: 0 primary, 1 spare. -/
  | diodeBroken (d : Nat)
  /-- The diode at or below 115 °C for 1 s releases the cold reset. (R352). -/
  | thermalRelease (r : Restart)
  /-- An open or shorted TEMP_IN input reads 150 °C and is recorded. (R354). External temperature input. -/
  | tempInputFault (i : Nat)
  /-- No present thermal value for 1,000 boundaries makes the map lost. (R355). Slot. -/
  | mapLost (n : Nat)
  /-- THM lowers or raises its slot frequency ceiling on its 10 ms and 100 ms timers. (R357). Slot. -/
  | thermalCeilingStep (n : Nat)
  /-- A write of 1 to THM_TLATCH clears a critical latch if the source has cooled. (R358). Requester, and the write of THM_TLATCH. -/
  | tlatchClear (req : Nat) (w : ClearWrite)
  /-- A kicking channel reaching stall speed runs, or at kick time stalls. (R362). Channel: fans 0 to 15, pumps 16 to 19. -/
  | fanKickEnd (f : Nat)
  /-- A running channel below stall speed for 1 s enters STALLED. (R362). Channel: fans 0 to 15, pumps 16 to 19. -/
  | fanStall (f : Nat)
  /-- After the retry time a stalled channel kicks again or turns off. (R362). Channel: fans 0 to 15, pumps 16 to 19. -/
  | fanRetry (f : Nat)
  /-- Flow still low flow_to seconds later holds the zone's slots off. (R364). Zone. -/
  | flowPowerOff (z : Nat)
  /-- An input wet for 100 ms applies the zone leak responses and latches. (R366). Leak input. -/
  | leakWet (i : Nat)
  /-- An input open for 1 s applies the limited leak response. (R365). Leak input. -/
  | leakOpen (i : Nat)
  /-- A write of 1 to THM_LEAKMAP clears a dry input's latch and responses. (R366). Requester, and the write of THM_LEAKMAP. -/
  | leakmapClear (req : Nat) (w : ClearWrite)
  /-- ACCn_PRSNT_N held 10 ms changes slot presence. (R379). Slot. -/
  | presenceChange (n : Nat)
  /-- ACCn_ALERT_N held 1 ms starts or ends an alert, optionally asserting reset. (R391). Slot. -/
  | alertChange (n : Nat)
  /-- Once every gate holds, the reset gate deasserts ACC_RST_N and starts the boot watchdog. (R381). Slot. -/
  | accResetRelease (n : Nat)
  /-- A write of strap or boot values drives them at once in reset or holds them until the next assertion. (R382). Requester, slot, value written to ACU_SCFG. -/
  | strapWrite (req n value : Nat)
  /-- The custody engine reads the flash's JEDEC identification and SFDP. (R383). Core, slot, keep bit. -/
  | readId (req n keep : Nat)
  /-- The custody engine compares the slot flash with the golden manifest. (R386). Core, slot, keep bit. -/
  | verify (req n keep : Nat)
  /-- The custody engine checks the slot flash against its own manifest. (R386). Core, slot, keep bit. -/
  | check (req n keep : Nat)
  /-- The custody engine writes the golden image into the slot flash. (R387). Core, slot, keep bit, skip_same. -/
  | reflash (req n keep skip : Nat)
  /-- The custody engine ends ownership of the slot flash. (R384). Core, slot. -/
  | release (req n : Nat)
  /-- The slot leaves BOOT_FAILED. (R389). Core, slot. -/
  | clear (req n : Nat)
  /-- A custody operation ends with its code and an ACC_CUSTODY record. (R386). Slot, JEDEC identification and SFDP size in KiB as read (0: no valid SFDP), erase unit in bytes, flash error of R386 or 0, bytes read or written. -/
  | custodyOpDone (n id kib unit err bytes : Nat)
  /-- When the group becomes UP with verify_gate and the golden checks have ended, the engine verifies and may re-flash. (R388). Slot. -/
  | custodyAuto (n : Nat)
  /-- No link RUN within boot_to asserts reset and counts an attempt or enters BOOT_FAILED. (R389). Slot. -/
  | bootTimeout (n : Nat)
  /-- A failed keeper check discards the queue and the next slot is tried. (R403). The image could not be read from flash. -/
  | imageReject (readErr : Bool)
  /-- A write of KPR_CORECTL.release starts a logical service core at its vector. (R408). Requester, value written to KPR_CORECTL. -/
  | coreRelease (req value : Nat)
  /-- A write to KPR_KEYLOCK sets a lock on DS or a derived key. (R400). Requester, value written to KPR_KEYLOCK. -/
  | keylock (req value : Nat)
  /-- The keeper's checks of golden copies end and entries become valid or invalid. (R431). Golden copies (2 × entry + copy) that could not be read. -/
  | goldenCheckDone (bad : List Nat)
  /-- The keeper returns the caller's grant entries. (R411). Calling core. -/
  | grantQuery (core : Nat)
  /-- The keeper checks an image and writes it into the non-ACTIVE slot. (R436). Calling core. -/
  | stage (core : Nat)
  /-- The full check from flash ends and the target becomes VERIFIED or EMPTY. (R436). Blocks of the target whose erase or program failed twice. -/
  | stageDone (bad : List Nat)
  /-- The VERIFIED target becomes ACTIVE and goes on trial. (R435). Calling core. -/
  | activate (core : Nat)
  /-- The other slot is retired, ending the trial. (R437). Calling core. -/
  | confirm (core : Nat)
  /-- The target returns to EMPTY. (R435). Calling core. -/
  | abandon (core : Nat)
  /-- The keeper loads and commits a structure image as transaction owner. (R411). Calling core. -/
  | structCommit (core : Nat)
  /-- The keeper signs an attestation report for the caller. (R414). Calling core. -/
  | attest (core : Nat)
  /-- The keeper writes a larger minimum svn to the ledger. (R406). Calling core. -/
  | svnRaise (core : Nat)
  /-- The keeper programs SVN floor fuse rows. (R406). Calling core. -/
  | svnFuse (core : Nat)
  /-- The keeper performs a lifecycle transition and orders a cold reset. (R418). Calling core, and what the cold reset finds. -/
  | lcRequest (core : Nat) (r : Restart)
  /-- The keeper programs a blank key slot. (R411). Calling core. -/
  | keyEnroll (core : Nat)
  /-- The keeper revokes a key slot on a valid token. (R411). Calling core. -/
  | keyRevoke (core : Nat)
  /-- The keeper programs a core's retire row. (R408). Calling core. -/
  | coreRetire (core : Nat)
  /-- The keeper returns the attestation public key and endorsement. (R412). Calling core. -/
  | attPublic (core : Nat)
  /-- PERST_N, hot reset, link down or FLR resets the PCI Express function. (R448). Cause of R467: 1 PERST_N, 2 hot reset, 3 link down, 4 FLR. -/
  | functionReset (cause : Nat)
  /-- A write of HIF_RCTL.en checks and starts a ring pair. (R455). Requester, ring pair, value written to HIF_RCTL. -/
  | ringEnable (req p value : Nat)
  /-- A doorbell write makes the decoder serve the ring. (R459). Requester, ring pair, value written to HIF_DB. -/
  | doorbell (req p value : Nat)
  /-- A ring ORDER request is decoded, tagged HOST, numbered and acknowledged. (R458). Ring pair. -/
  | order (p : Nat)
  /-- A BUFFER request gives a drain ring host memory for records. (R462). Ring pair. -/
  | buffer (p : Nat)
  /-- A SERVICE request is copied into the service queue and a core interrupted. (R461). Ring pair. -/
  | service (p : Nat)
  /-- A PING request is answered with PONG. (R457). Ring pair. -/
  | ping (p : Nat)
  /-- A PAUSED ring resumes decoding when a response slot frees. (R460). Ring pair. -/
  | ringResume (p : Nat)
  /-- After coal_us the ring's vector is raised for coalesced responses. (R463). Ring pair. -/
  | interruptCoalesce (p : Nat)
  /-- A write of HIF_SVCPUSH posts the firmware's response descriptor. (R461). Requester, value written to HIF_SVCPUSH. -/
  | svcpush (req value : Nat)
  /-- A keeper write to HIF_B2SEG maps a BAR2 segment or is discarded. (R452). Requester, segment, 64-bit value written. -/
  | b2segWrite (req seg value : Nat)
  /-- A write of HIF_DMACTL.go starts a DMA transfer checked against grants. (R464). Requester, engine, value written to HIF_DMACTL. -/
  | dmaStart (req e value : Nat)
  /-- A DMA transfer ends in DONE or ERROR. (R464). Engine, error of the host side (0, 2 or 3), bytes moved before it. -/
  | dmaDone (e err n : Nat)
  /-- A go from the host or two-wire path starts checking the recovery image. (R465). Requester, value written to HIF_RCVCTL. -/
  | recoveryGo (req value : Nat)
  /-- A read of the tray window returns a snapshot of one tick. (R479). Target port, bytes read. -/
  | trayWindowRead (port n : Nat)
  /-- A write to the tray window sets the pointer and the alert mask. (R481). Target port, data bytes of the transaction. -/
  | trayWindowWrite (port : Nat) (bs : List Nat)
  /-- Clears STATUS_WORD bits 2 to 0. (R484). PEC byte received, if any. -/
  | clearFaults (pec : Option Nat)
  /-- Returns the capability byte 0xD0. (R484). The controller acknowledges a further byte. -/
  | capability (more : Bool)
  /-- Returns the status word of target port 0. (R484). The controller acknowledges a further byte. -/
  | statusWord (more : Bool)
  /-- Returns 0x44. (R484). The controller acknowledges a further byte. -/
  | pmbusRevision (more : Bool)
  /-- Returns HZF. (R484). The controller acknowledges a further byte. -/
  | mfrId (more : Bool)
  /-- Returns OR8. (R484). The controller acknowledges a further byte. -/
  | mfrModel (more : Bool)
  /-- Returns B1. (R484). The controller acknowledges a further byte. -/
  | mfrRevision (more : Bool)
  /-- Returns the device serial. (R484). The controller acknowledges a further byte. -/
  | mfrSerial (more : Bool)
  /-- A rack manager order is decoded at STOP, tagged RACK and numbered. (R485). Block bytes, PEC byte if any, and whether the command byte came while the management plane ran. -/
  | trayOrder (body : List Nat) (pec : Option Nat) (acked : Bool)
  /-- Returns the result of the last TRAY_ORDER. (R484). The controller acknowledges a further byte. -/
  | orderResult (more : Bool)
  /-- Returns the deciding source and value in force for a target. (R484). Block bytes written; the controller acknowledges a further byte. -/
  | readInforce (body : List Nat) (more : Bool)
  /-- Returns TIM_NOW at the command byte. (R484). The controller acknowledges a further byte. -/
  | trayTime (more : Bool)
  /-- Sets the offset in the recovery window. (R484). Bytes written, PEC byte if any. -/
  | rcvAddr (body : List Nat) (pec : Option Nat)
  /-- Writes a block of recovery image data and advances the offset. (R488). Block bytes, PEC byte if any. -/
  | rcvData (body : List Nat) (pec : Option Nat)
  /-- Sets HIF_RCVLEN. (R484). Bytes written, PEC byte if any. -/
  | rcvLen (body : List Nat) (pec : Option Nat)
  /-- Starts the recovery check for the two-wire path. (R488). PEC byte received, if any. -/
  | rcvGo (pec : Option Nat)
  /-- Returns the recovery state as seen by this path. (R484). The controller acknowledges a further byte. -/
  | rcvStat (more : Bool)
  /-- An unknown command code is NACKed. (R483). Command code. -/
  | unknownCommand (code : Nat)
  /-- SCL low for more than 35 ms ends the port's transfer or transaction. (R476). Port. -/
  | sclLowTimeout (n : Nat)
  /-- SDA low for more than 35 ms while SCL is high flags a stuck bus. (R477). Port. -/
  | sdaStuck (n : Nat)
  /-- A write of TWI_CCMD.go starts a controller transfer. (R489). Requester, port, value written to TWI_CCMD, and how a recovery of the bus ends (0 SDA still low, 1 SDA freed, 2 arbitration lost). -/
  | controllerTransfer (req n value recov : Nat)
  /-- A controller transfer ends with its result code. (R489). Port, outcome on the bus (0 done, 1 address or 2 data not acknowledged, 3 arbitration lost), bytes sent, arbitrations lost, bytes received. -/
  | transferDone (n out sent lost : Nat) (rx : List Nat)
  /-- The identification engine reads every external regulator and judges it. (R490). Value read for each entry, 0 where none answered. -/
  | regulatorIdent (vals : List Nat)
  /-- At the boundary after the last line the row map sends the row to its spare. (R499). Row address. -/
  | repairDone (row : Nat)
  /-- LPDDR5X training ends with the rate and good channels set. (R502). Per channel: rate code (4: failed at 6,400 MT/s), attempts, read eye, write eye. -/
  | lpTrainDone (res : List (Nat × Nat × Nat × Nat))
  /-- Every 32 ms MR4 is read and refresh adjusted. (R501). MR4 code of each channel. -/
  | mr4Poll (vals : List Nat)
  /-- Too many uncorrectable words in 1 s mark a channel FAILED. (R506). Channel. -/
  | channelFail (c : Nat)
  /-- A region's wipe ends. (R509). Region, and addresses of rows that read back with an error. -/
  | wipeDone (r : Nat) (rows : List Nat)
  /-- A counter wraps, sets its overflow bit and may interrupt a core. (R521). Counter, its events in that clock, and the program counter of the instruction retired on its core. -/
  | counterWrap (i n pc : Nat)
  /-- A write to PMC_CNT sets the counter plus the events of that clock. (R519). Requester, counter, value, and the events of the same clock. -/
  | pmcCntWrite (req i value n : Nat)
  /-- A write of PMC_CTL.snap copies every counter at the next boundary. (R520). Requester and the word written. -/
  | snap (req value : Nat)
  /-- A write to PMC_BWWIN restarts the windows. (R523). Requester and the word written. -/
  | bwwinWrite (req value : Nat)
  /-- A write of TAM_DSEL or TAM_ASEL selects a source or is refused. (R526). Requester, BAR0 address of TAM_DSEL or TAM_ASEL, and the word written. -/
  | testMuxSelect (req a value : Nat)
  /-- A go from BAR0 or JTAG submits a test-unlock token for checking. (R528). Requester and the word written; for the JTAG path, the bytes shifted through TOKEN. -/
  | unlock (req value : Nat) (jtag : Option (List Nat))
  /-- An instruction loaded into the TAP takes effect or loads as BYPASS. (R529). Instruction code shifted in, and what a cold reset would find. -/
  | jtagInstruction (code : Nat) (r : Restart)
  /-- TRST_N or cold reset resets the TAP. (R529). What a cold reset would find. -/
  | tapReset (r : Restart)
  /-- A write of CRP_SBCTL.enter is checked and standby accepted or refused. (R543). Requester and the word written. -/
  | standbyEnter (req value : Nat)
  /-- An enabled wake source starts the power-on sequence. (R545). Wake source, and what the cold reset finds: the supplies' survey, and the rest. -/
  | wake (src : Nat) (supplies : List Nat) (r : RomFind)
  /-- AUX12 rising past 9.5 V starts the island and a cold reset. (R545). -/
  | auxPowerOn (r : Restart)
  /-- SUPPLY_PG falling for 2 µs makes a cold reset. (R537). -/
  | supplyPgLost (r : Restart)
  /-- A PLL loses lock, making a cold reset for PLL 0. (R539). PLL, and what a cold reset would find. -/
  | pllLockLost (k : Nat) (r : Restart)
  /-- A cold reset resets every plane except the island and wipes on-chip memory. (R546). -/
  | coldReset (r : Restart)
  /-- A management reset resets the management plane, which restarts under load. (R550). Whether the keeper core halted on a double trap, and the cores that fail their self-test. -/
  | managementReset (halted : Bool) (bad : Nat)
  /-- A write of the key to CRP_WDOGKICK restarts the watchdog period. (R549). Requester and the word written. -/
  | wdogKick (req value : Nat)
  /-- An unkicked watchdog makes a management reset. (R549). Cores that fail their self-test. -/
  | wdogExpire (bad : Nat)
  /-- Crossing wander beyond ±900 ps raises an alarm. (R553). Crossing, and its wander in ps. -/
  | xingAlarm (x : Nat) (w : Int)
  /-- Crossing wander at ±1,100 ps makes a cold reset. (R553). Crossing, its wander in ps, and what the cold reset finds. -/
  | xingReset (x : Nat) (w : Int) (r : Restart)
  /-- A power-fail warning starts shutdown and hold-up. (R554). Whether AUXPF_N is the cause, AUX12 in 10 mV, and whether a ledger record is being programmed. -/
  | powerFail (ext : Bool) (aux12 : Nat) (ledger : Bool)
  /-- AUX12 back for 10 ms makes a cold reset once the keeper has halted. (R556). -/
  | pfailRecovery (r : Restart)
  /-- The PCI Express link finishes training or moves between L0, L0p and L1, updating HIF_STAT.link, setting HIF_EVT.link and writing HOST_LINK. (R444). The link as HIF_STAT codes it; Bus Master Enable, MSI-X Enable and Function Mask as bits 0 to 2. -/
  | hostLinkStateChange (link rate width flit cfg : Nat)
  /-- The endpoint detects a correctable or uncorrectable error on a received TLP, counts it in HIF_AERCOR or HIF_AERUNC and writes HOST_ERROR. (R447). Uncorrectable, AER status bit, and what it ends: DMA engine 0 to 15, 16 + p ring pair p, 80 or more nothing. -/
  | pcieError (unc : Bool) (aer engine : Nat)
  /-- A host request to BAR2 is mapped through HIF_B2SEG, or returns 0, or is discarded and recorded as DISCARDED_WRITE, or returns 0xFF bytes on an uncorrectable word. (R452). Write, BAR2 offset, bytes, data. -/
  | bar2Access (isWrite : Bool) (ofs n data : Nat)
  /-- A management core access to the device physical space is filtered by grants, served with ECC, or recorded in the Firn when it falls on an unused address. (R36). Core, direction, device physical address, bytes, data, and the cores that fail their self-test should a management reset follow. -/
  | deviceMemoryAccess (req : Nat) (isWrite : Bool) (a n data bad : Nat)
  /-- A service-core register read that no grant passes returns 0 and is recorded as DISCARDED_WRITE with the read bit set. (R410). Core, BAR0 address and width in bytes. -/
  | grantFilteredRead (req a width : Nat)
  /-- Keeper SRAM and management SRAM are scrubbed in cycles that no other requester uses, completing a pass at least every 10 s. (R497). Region 0 or 4. -/
  | idleCycleScrub (r : Nat)
  /-- The LPDDR5X patrol scrubber reads and corrects usable memory at lowest priority, once every scrub_h hours, advancing MEM_LPSCRUB. (R505). Bytes read. -/
  | lpddr5xPatrolScrub (n : Nat)
  /-- A PLL started on demand reaches lock, so its consumers may proceed and a CLOCK_EVENT with locked is written. (R539). PLL, and its lock time in ns. -/
  | pllLocked (k ns : Nat)
  /-- A feed-tile channel in LIMIT trips when t_flt has elapsed or its energy exceeds e_max since it entered LIMIT. (R330). Feed-tile channel. -/
  | limitTrip (c : Nat)
  /-- A mailbox doorbell with a call code that is not defined is answered with status 1 and recorded as GATE_CALL. (R411). Calling core. -/
  | unknownGateCall (core : Nat)
  /-- A ring request whose major is not 1, or whose type the ring's role does not accept, is answered with RING_ERROR code 3 or 4 and its sequence number is consumed. (R459). Ring pair. -/
  | unacceptedRequest (p : Nat)
  /-- At the first boundary at or after a stamp, staged values and complete field sets take effect. (R51). -/
  | stageApply
  /-- At the transaction's boundary of effect blocks check the values and all take effect together or the transaction aborts. (R58). -/
  | txEffect
  /-- A transaction left OPEN beyond TIM_TXTIMEOUT control ticks aborts. (R59). -/
  | txTimeout
  /-- A live commit that finds no safe boundary within FAB_COMMITCFG.wait ticks aborts with cause 3. (R258). -/
  | commitWaitTimeout
  /-- At an order's effect boundary it becomes its source's standing order and the state in force is recomputed. (R30). -/
  | orderEffect
  /-- After 1,000 ticks within 100 ps in ACQUIRE the discipline loop enters LOCKED. (R44). -/
  | discLock
  /-- After 16 ticks beyond 500 ps while LOCKED the loop returns to ACQUIRE. (R44). -/
  | discReacquire
  /-- After 8 ticks with no valid time word the loop enters HOLDOVER. (R44). -/
  | discHoldover
  /-- A tray LOCKED for 10 s continuously becomes settled. (R271). -/
  | settled
  /-- A core held on a full management port queue resumes when a slot frees. (R66). -/
  | mgmtQueueResume
  /-- At the first tick after the Firn window wipe the writer writes FIRN_START and the waiting records. (R62). -/
  | firnStart
  /-- A staged record is moved from the Firn window into its class region in LPDDR5X. (R68). -/
  | recordMove
  /-- Once space allows, one LOSS record reports the records lost in a class. (R69). -/
  | loss
  /-- After the post-trigger frames are written capture moves to FROZEN. (R74). -/
  | captureFreeze
  /-- The rotation pointer advances after each whole second of tray time. (R91). -/
  | rotationAdvance
  /-- A hint's terms end hold µs after its event. (R169). -/
  | hintExpire
  /-- Every 1,000 ticks the cap loop lowers or raises each slot's and the tray's index. (R177). -/
  | capLoop
  /-- The Moraine wipe ends and slots may leave OFF. (R199). -/
  | moraineWipeDone
  /-- A load ends VERIFIED or FAILED with its code. (R255). -/
  | loadDone
  /-- At each epoch end each tray latches its own contribution for each valid job. (R275). -/
  | epochEnd
  /-- After every group is down 100 ms under policy 3 the sequencer restarts. (R309). -/
  | systemRestart
  /-- FAULT_N low for 2 boundaries is an external fault that may hold every group off. (R312). -/
  | faultIn
  /-- FAULT_N high for 10 ms withdraws the external-fault PROTECT off. (R312). -/
  | faultInRelease
  /-- The primary usable for ret s causes a revert switch. (R337). -/
  | feedRevert
  /-- After the old feed is confirmed off and the dead time passes the new feed enters INRUSH. (R337). -/
  | newFeedInrush
  /-- 10 ticks after the new feed is ON, P_in reporting resumes. (R339). -/
  | pinHoldEnd
  /-- Two diode conversions past a threshold change the device thermal level. (R349). -/
  | devTempLevel
  /-- Grace seconds without switching from a broken diode lead to thermal shutdown. (R350). -/
  | diodeGraceExpire
  /-- Shutdown qualifies and the sequencer shutdown of R316 begins. (R352). -/
  | thermalShutdown
  /-- 1 ms after qualification the island holds every plane in cold reset with fans at 100 %. (R352). -/
  | thermalHardReset
  /-- Each 1 s flow window judges whether a zone's flow is low or restored. (R364). -/
  | flowWindow
  /-- When keeper checks 7 and 8 pass the gated queue drains. (R405). -/
  | keeperChecksPass
  /-- The keeper copies standing ledger records to the other half. (R426). -/
  | ledgerCompact
  /-- The function enters D3hot and traffic halts. (R449). -/
  | d3hotEntry
  /-- The function returns to D0 and halted work resumes. (R449). -/
  | d0Return
  /-- At least every 100 µs the decoder examines every enabled ring's control block. (R459). -/
  | ringPoll
  /-- The recovery image is ACCEPTED and run, or REJECTED. (R465). -/
  | recoveryCheckDone
  /-- A read at the Alert Response Address returns the command-set address. (R482). -/
  | alertResponse
  /-- An uncorrectable word or repeated correctable errors start a row repair. (R498). -/
  | rowRepair
  /-- LPDDR5X initialisation ends and memory becomes READY. (R507). -/
  | lpInitDone
  /-- Every 100 ms oscillator tracking retunes each channel. (R502). -/
  | wckTracking
  /-- Counting starts at the first boundary at or after PMC_START. (R518). -/
  | pmcStart
  /-- Counting stops at the first boundary at or after PMC_STOP. (R518). -/
  | pmcStop
  /-- At each window end the bytes of every port are latched. (R523). -/
  | bwWindowEnd
  /-- The token check ends and private access may open. (R528). -/
  | tokenCheckDone
  /-- 1 ms after acceptance the island holds every plane in reset and stops supplies and PLLs. (R543). -/
  | standbyHold
  /-- REF100 without edges for 1 µs makes PLL 0 hold. (R540). -/
  | refLost
  /-- REF100 returns and PLL 0 slews back. (R540). -/
  | refBack
  /-- A prediction reset resets the prediction plane and wipes the Moraine. (R546). -/
  | predictionReset
  /-- AUX12 at 7.0 V stops the island and releases its pins. (R554). -/
  | auxDropout
  /-- The 32.768 kHz crystal becomes valid, so CRP_CLKSTAT.xtal_ok is set and CRP_RTC starts counting. (R545). -/
  | xtalValid
  deriving DecidableEq, Repr

end Sys2Proof
end

