-- ==== Sys2Proof/Config.lean ====
section
/-! DEFINITION. What an implementation fixes and what the spec leaves open: constants without a body, so that no proof can
see a value. Each is named in a row of the assumption log. -/

namespace Sys2Proof

/-- FREE VALUE. A value the spec leaves open, by the counter `V.freeCtr` of State. -/
opaque Config.freeValue : Nat → Nat

/-- FREE VALUE. The rounding the spec does not state, at a division that is not exact: true rounds up. By the operands. -/
opaque Config.roundUp : Nat → Nat → Bool

/-- Hazafen's PCI-SIG vendor identifier (HIF_PCIID.vendor, "Fixed"). -/
opaque Config.pciVendor : Nat

/-- Path latencies of a Swija endpoint by rate code, in 10 ps (SWJ_TXLAT, SWJ_RXLAT, "per rate"). -/
opaque Config.swjTxLat : Nat → Nat
opaque Config.swjRxLat : Nat → Nat

/-- A byte of the mask ROM (R36): the spec gives its use and not its contents. -/
opaque Config.romByte : Nat → Nat

/-- SHAKE256 (FIPS 202) of a byte string, as many bytes as asked. -/
opaque Config.shake256 : List Nat → Nat → List Nat

/-- XMSS verification (RFC 8391): public key bytes, message bytes, signature bytes. -/
opaque Config.xmssVerify : List Nat → List Nat → List Nat → Bool

/-- XMSS signing with the attestation key: key material, index, message; 2,820 bytes. -/
opaque Config.xmssSign : List Nat → Nat → List Nat → List Nat

/-- Where the attestation store keeps the root (0), the public seed (1) and the endorsement (2), from its start (R412, R423, log
122). -/
opaque Config.attPlace : Nat → Nat

/-- ENTROPY. Bytes of the random source, by a counter. -/
opaque Config.entropy : Nat → Nat

/-- The standard group's own bindings (R232, R243): number, class, kind, index, field and cell of each. -/
opaque Config.groupBindings : List (Nat × Nat × Nat × Nat × Nat × Nat)

/-- The tree depth of the tray that is a job's huddle root, by job key (R273, R276, log 84). -/
opaque Config.rootDepth : Nat → Nat

/-- FREE VALUE. Bytes that a running custody operation has read or written, by slot and tray time (R393, R395, log 213). -/
opaque Config.custodyBytes : Nat → Nat → Nat

/-- FREE VALUE. Bytes that an engine's transfer has moved when it ends before its time, by engine and tray time (R447, R464, R470, log 213). -/
opaque Config.dmaMoved : Nat → Nat → Nat

/-- FREE VALUE. Bytes that a port had sent or received when a transfer ended before its end, by port and tray time (R494, log
213). -/
opaque Config.portBytes : Nat → Nat → Nat

/-- FREE VALUE. Bytes that the STAGE under way has programmed or checked, by tray time (R442, log 213). -/
opaque Config.stageBytes : Nat → Nat

/-- The control tick, counted modulo 40, with which the 25 kHz PWM period of channel f begins (R359, R361, log 214). -/
opaque Config.pwmPhase : Nat → Nat

/-- The fabric cycle in which the standard group's schedule issues port p of slot n (R230, R232, R233). -/
opaque Config.portCycle : Nat → Nat → Nat

end Sys2Proof
end

