-- ==== Sys2Proof/Machine/Arith.lean ====
section
/-! DEFINITION. Integer helpers shared by every chapter: two's complement, saturation, the rounded shifts of R200, bit
fields and little-endian byte strings. -/

namespace Sys2Proof.Machine

/-- The signed value of the low `w` bits of `n`. -/
def toSigned (w n : Nat) : Int :=
  let m := n % 2 ^ w
  if m < 2 ^ (w - 1) then (m : Int) else (m : Int) - (2 ^ w : Nat)

/-- The `w`-bit two's-complement pattern of `i`. -/
def ofSigned (w : Nat) (i : Int) : Nat := (i % (2 ^ w : Nat)).toNat

/-- `i` held to the range `lo` to `hi`. -/
def clampInt (lo hi i : Int) : Int := max lo (min hi i)

/-- `n` held to the range `lo` to `hi`. -/
def clampNat (lo hi n : Nat) : Nat := max lo (min hi n)

/-- Saturation to a signed field of `w` bits. -/
def satSigned (w : Nat) (i : Int) : Int := clampInt (-(2 ^ (w - 1) : Nat)) ((2 ^ (w - 1) : Nat) - 1) i

/-- Saturation to an unsigned field of `w` bits. -/
def satUnsigned (w : Nat) (i : Int) : Nat := (clampInt 0 ((2 ^ w : Nat) - 1) i).toNat

/-- floor(a ÷ b) for a positive divisor; 0 where b is 0. -/
def floorDiv (a : Int) (b : Nat) : Int := if b = 0 then 0 else a / (b : Int)

/-- ceil(a ÷ b) on natural numbers; 0 where b is 0. -/
def ceilDiv (a b : Nat) : Nat := if b = 0 then 0 else (a + b - 1) / b

/-- Nearest integer to a ÷ b, halves away from zero (R200's round). -/
def roundDiv (a : Int) (b : Nat) : Int :=
  if b = 0 then 0
  else if 0 ≤ a then (2 * a + b) / (2 * b) else -((2 * (-a) + b) / (2 * b))

/-- Bits `lsb` to `lsb + w - 1` of `v`. -/
def bits (v lsb w : Nat) : Nat := v / 2 ^ lsb % 2 ^ w

/-- Bit `i` of `v`. -/
def bit (v i : Nat) : Bool := v.testBit i

/-- One as a bit. -/
def ofBool (b : Bool) : Nat := if b then 1 else 0

/-- `v` with bit `i` set. -/
def setBit (v i : Nat) : Nat := v ||| 2 ^ i

/-- `v` with bit `i` cleared. -/
def clearBit (v i : Nat) : Nat := if v.testBit i then v - 2 ^ i else v

/-- `v` with every bit of `m` cleared. -/
def clearBits (v m : Nat) : Nat := v ^^^ (v &&& m)

/-- The indices below `n` whose bit is set in `v`. -/
def bitsOf (n v : Nat) : List Nat := (List.range n).filter (fun i => v.testBit i)

/-- The bit map of those of the first `n` indices that satisfy `p`. -/
def maskOf (n : Nat) (p : Nat → Bool) : Nat :=
  (List.range n).foldl (fun m i => if p i then setBit m i else m) 0

/-- `v` as `n` bytes, least significant first. -/
def leBytes : Nat → Nat → List Nat
  | 0, _ => []
  | n + 1, v => v % 256 :: leBytes n (v / 256)

/-- The number that bytes spell, least significant first. -/
def ofLe : List Nat → Nat
  | [] => 0
  | b :: bs => b + 256 * ofLe bs

/-- `n` bytes from byte `o` on, read past the end as 0. -/
def sliceBytes (bs : List Nat) (o n : Nat) : List Nat := (List.range n).map (fun i => bs.getD (o + i) 0)

/-- The little-endian number of `n` bytes at byte `o`. -/
def leAt (bs : List Nat) (o n : Nat) : Nat := ofLe (sliceBytes bs o n)

/-- The number of set bits of `v` among its low `n`. -/
def popCount (n v : Nat) : Nat := (bitsOf n v).length

/-- The sum of `f` over the first `n` indices. -/
def sumTo (n : Nat) (f : Nat → Nat) : Nat := (List.range n).foldl (fun a i => a + f i) 0

/-- The least of `f` over the first `n` indices, or `d` when there is none smaller. -/
def minTo (n : Nat) (d : Nat) (f : Nat → Nat) : Nat := (List.range n).foldl (fun a i => min a (f i)) d

/-- The integer square root (R205 uses it where a chapter asks for one). -/
def isqrt (n : Nat) : Nat := Nat.sqrt n

end Sys2Proof.Machine
end

