-- ==== Sys2Proof/Machine/LinkPhy.lean ====
section
/-! DEFINITION. The line code of a Swija or timing lane (R126, R128, R129, R136, R137): Reed-Solomon RS(425,400) over
GF(2^10), the PRBS31 scrambler, Gray-coded PAM4, CRC-32, and frames as symbols. -/

namespace Sys2Proof.Machine

/-- Product in GF(2^10) with field polynomial x^10 + x^3 + 1 (R128). -/
def gfMul (a b : Nat) : Nat :=
  ((List.range 10).foldl (fun (acc : Nat × Nat) i =>
    let r := if b.testBit i then acc.1 ^^^ acc.2 else acc.1
    let d := acc.2 * 2
    (r, if 1024 ≤ d then (d - 1024) ^^^ 9 else d)) (0, a)).1

/-- Power in GF(2^10), by the ten bits of an exponent below 1,024, the highest first. -/
def gfPow (a n : Nat) : Nat :=
  (List.range 10).foldl (fun r i => if n.testBit (9 - i) then gfMul (gfMul r r) a else gfMul r r) 1

/-- Inverse of a nonzero element: its 1,022nd power. -/
def gfInv (a : Nat) : Nat := gfPow a 1022

/-- Value of a polynomial, highest coefficient first, at x. -/
def gfEval (p : List Nat) (x : Nat) : Nat := p.foldl (fun a c => gfMul a x ^^^ c) 0

/-- The generator polynomial with roots α^0 to α^24, highest coefficient first (R128). -/
def rsGenerator : List Nat :=
  (List.range 25).foldl (fun g i =>
    let shifted := g ++ [0]
    let scaled := 0 :: g.map (gfMul (gfPow 2 i))
    List.zipWith (· ^^^ ·) shifted scaled) [1]

/-- The 25 parity symbols of 400 data symbols: the remainder of the data times x^25 by the generator. -/
def rsParity (data : List Nat) : List Nat :=
  data.foldl (fun (rem : List Nat) d =>
    let f := d ^^^ rem.headD 0
    List.zipWith (fun a g => a ^^^ gfMul f g) (rem.drop 1 ++ [0]) (rsGenerator.drop 1)) (List.replicate 25 0)

/-- A codeword: data, then parity. -/
def rsEncode (data : List Nat) : List Nat := data ++ rsParity data

/-- The 25 syndromes of a received word. -/
def rsSyndromes (w : List Nat) : List Nat := (List.range 25).map (fun i => gfEval w (gfPow 2 i))

/-- One step of the Berlekamp-Massey algorithm; polynomials lowest coefficient first. -/
structure BmState where
  c : List Nat
  b : List Nat
  len : Nat
  m : Nat
  bd : Nat

/-- Sum of two polynomials, lowest coefficient first. -/
def polyAdd : List Nat → List Nat → List Nat
  | [], q => q
  | p, [] => p
  | a :: p, b :: q => (a ^^^ b) :: polyAdd p q

/-- Berlekamp-Massey over the first n syndromes. -/
def bmStep (synd : List Nat) (st : BmState) (n : Nat) : BmState :=
  let d := (List.range (st.len + 1)).foldl (fun a i => a ^^^ gfMul (st.c.getD i 0) (synd.getD (n - i) 0)) 0
  if d = 0 then { st with m := st.m + 1 }
  else
    let q := gfMul d (gfInv st.bd)
    let c' := polyAdd st.c (List.replicate st.m 0 ++ st.b.map (gfMul q))
    if 2 * st.len ≤ n then ⟨c', st.c, n + 1 - st.len, 1, d⟩ else { st with c := c', m := st.m + 1 }

/-- The error locator of a set of syndromes and its claimed degree. -/
def rsLocator (synd : List Nat) : List Nat × Nat :=
  let st := (List.range 25).foldl (bmStep synd) ⟨[1], [1], 0, 1, 1⟩
  (st.c, st.len)

/-- The value of a polynomial, lowest coefficient first. -/
def polyEval (p : List Nat) (x : Nat) : Nat := gfEval p.reverse x

/-- The error value at the position with locator X (Forney, first root α^0). -/
def rsErrorValue (synd loc : List Nat) (x : Nat) : Nat :=
  let xi := gfInv x
  let omega := (List.range 25).map (fun i => (List.range (i + 1)).foldl (fun a j => a ^^^ gfMul (synd.getD j 0) (loc.getD (i - j) 0)) 0)
  let deriv := loc.zipIdx.map (fun e => if e.2 % 2 = 1 then e.1 else 0)
  gfMul (gfMul x (polyEval omega xi)) (gfInv (polyEval (deriv.drop 1) xi))

/-- A decoded word and the number of symbols corrected; none where the word is beyond 12 symbol errors (R128). -/
def rsDecode (w : List Nat) : Option (List Nat × Nat) :=
  let synd := rsSyndromes w
  if synd.all (· == 0) then some (w, 0)
  else
    let (loc, len) := rsLocator synd
    let errs := (List.range 425).filter (fun p => polyEval loc (gfInv (gfPow 2 (424 - p))) == 0)
    if 12 < len || errs.length ≠ len then none
    else
      let fixed := w.zipIdx.map (fun e => if errs.contains e.2 then e.1 ^^^ rsErrorValue synd loc (gfPow 2 (424 - e.2)) else e.1)
      if (rsSyndromes fixed).all (· == 0) then some (fixed, len) else none

/-- The bits of a byte string, byte 0 bit 0 first. -/
def bytesToBits (bs : List Nat) : List Bool := bs.flatMap (fun b => (List.range 8).map (fun i => b.testBit i))

/-- The number whose bits these are, least significant first. -/
def bitsToNat : List Bool → Nat
  | [] => 0
  | b :: bs => ofBool b + 2 * bitsToNat bs

/-- `n` groups of `w` bits each, the first bit of a group its least significant. -/
def groupBits (w n : Nat) (l : List Bool) : List Nat := (List.range n).map (fun i => bitsToNat ((l.drop (w * i)).take w))

/-- PRBS31 x^31 + x^28 + 1: the register holds the last 31 bits, the newest in bit 0. One step gives the next bit. -/
def prbsNext (r : Nat) : Bool × Nat :=
  let b := r.testBit 30 != r.testBit 27
  (b, (r * 2 + ofBool b) % 2 ^ 31)

/-- The register of all ones (R128, R136). -/
def prbsOnes : Nat := 2 ^ 31 - 1

/-- `n` bits of PRBS31 and the register after them. -/
def prbsBits : Nat → Nat → List Bool × Nat
  | 0, r => ([], r)
  | n + 1, r =>
    let (b, r1) := prbsNext r
    let (bs, r2) := prbsBits n r1
    (b :: bs, r2)

/-- A register after `n` steps. -/
def prbsSkip : Nat → Nat → Nat
  | 0, r => r
  | n + 1, r => prbsSkip n (prbsNext r).2

/-- A Gray-coded PAM4 level from a pair of bits, the first the most significant (R128). -/
def pam4 (hi lo : Bool) : Int :=
  match hi, lo with
  | false, false => -3
  | false, true => -1
  | true, true => 1
  | true, false => 3

/-- The pair of bits of a received level. -/
def unPam4 (v : Int) : List Bool :=
  if v < -2 then [false, false] else if v < 0 then [false, true] else if v < 2 then [true, true] else [true, false]

/-- Bits in pairs as levels. -/
def toLevels : List Bool → List Int
  | a :: b :: r => pam4 a b :: toLevels r
  | [a] => [pam4 a false]
  | [] => []

/-- CRC-32 (IEEE 802.3, reflected) of a byte string (R129). -/
def crc32 (bs : List Nat) : Nat :=
  (bs.foldl (fun c b =>
    (List.range 8).foldl (fun x _ => if x % 2 = 1 then (x / 2) ^^^ 0xEDB88320 else x / 2) (c ^^^ b)) 0xFFFF_FFFF) ^^^ 0xFFFF_FFFF

/-- The frame payload of R129: 496 bytes and their CRC-32. -/
def framePayload (word body : List Nat) : List Nat :=
  let head := sliceBytes word 0 16 ++ sliceBytes body 0 480
  head ++ leBytes 4 (crc32 head)

/-- The levels of a data frame (R128). The scrambler runs on from all ones at frame 0 of the tick. -/
def frameLevels (fidx : Nat) (payload : List Nat) : List Int :=
  let sym := rsEncode (groupBits 10 400 (bytesToBits payload))
  let plain := sym.flatMap (fun v => (List.range 10).map (fun i => v.testBit i))
  let mask := (prbsBits 4250 (prbsSkip (4250 * fidx) prbsOnes)).1
  toLevels (List.zipWith (· != ·) plain mask)

/-- What a receiver makes of a data frame: the payload if the word is correctable, the symbols corrected, and whether the
CRC holds. -/
structure RxFrame where
  payload : Option (List Nat)
  corrected : Nat
  crcOk : Bool

/-- A received frame is descrambled, decoded and checked (R128, R129). -/
def frameDecode (fidx : Nat) (levels : List Int) : RxFrame :=
  let mask := (prbsBits 4250 (prbsSkip (4250 * fidx) prbsOnes)).1
  let plain := List.zipWith (· != ·) (levels.flatMap unPam4) mask
  match rsDecode (groupBits 10 425 plain) with
  | some (w, n) =>
    let bs := groupBits 8 500 ((w.take 400).flatMap (fun v => (List.range 10).map (fun i => v.testBit i)))
    let ok := crc32 (bs.take 496) == leAt bs 496 4
    ⟨some bs, n, ok⟩
  | none => ⟨none, 0, false⟩

/-- Frame period in ticks of 250 ps (R126). -/
def framePeriod (rate : Nat) : Nat := if rate = 0 then 40 else if rate = 1 then 80 else if rate = 2 then 160 else 320

/-- Frames that start in a control tick (R126): rate 3 alternates 13 and 12. -/
def framesIn (rate tick : Nat) : Nat :=
  if rate = 0 then 100 else if rate = 1 then 50 else if rate = 2 then 25 else if tick % 2 = 0 then 13 else 12

/-- The smallest frame count of a tick, message-region frames, and the largest map (R126). -/
def framesLeast (rate : Nat) : Nat := if rate = 0 then 100 else if rate = 1 then 50 else if rate = 2 then 25 else 12
def messageFrames (rate : Nat) : Nat := if rate = 0 then 31 else if rate = 1 then 15 else if rate = 2 then 7 else 3
def mapMax (rate : Nat) : Nat := if rate = 0 then 16384 else if rate = 1 then 8384 else if rate = 2 then 4288 else 2112

/-- A frame lies in the map region; after it comes the message region (R126). -/
def inMapRegion (rate fidx : Nat) : Bool := decide (fidx < framesLeast rate - messageFrames rate)
def inMessageRegion (rate fidx : Nat) : Bool := !inMapRegion rate fidx && decide (fidx < framesLeast rate)

/-- The marker of a training frame (R136). -/
def trainMarker : List Int := (List.range 8).flatMap (fun _ => [3, 3, -3, -3])

/-- A training control block (R137), bit 0 first. -/
def trainBlock (ackSeq seq rates rate txPreset reqPreset : Nat) (rateDown rxDone : Bool) : Nat :=
  0x5A + ofBool rxDone * 2 ^ 22 + ofBool rateDown * 2 ^ 23 + reqPreset % 16 * 2 ^ 24 + txPreset % 16 * 2 ^ 28 + rate % 4 * 2 ^ 34 +
    rates % 16 * 2 ^ 36 + seq % 256 * 2 ^ 40 + ackSeq % 256 * 2 ^ 48

/-- The levels of a training frame, with its PRBS31 bits from a running register (R136). -/
def trainLevels (block prbs : Nat) : List Int × Nat :=
  let cb := (List.range 128).map (fun i => block.testBit i)
  let (bs, r) := prbsBits 3802 prbs
  (trainMarker ++ toLevels (cb ++ cb ++ cb) ++ toLevels bs, r)

/-- The control block of a received training frame, each bit by majority of its three copies (R136). -/
def trainBlockOf (levels : List Int) : Nat :=
  let bs := ((levels.drop 32).take 192).flatMap unPam4
  (List.range 128).foldl (fun a i =>
    let n := ofBool (bs.getD i false) + ofBool (bs.getD (128 + i) false) + ofBool (bs.getD (256 + i) false)
    if 2 ≤ n then a + 2 ^ i else a) 0

/-- The self-synchronising PRBS31 checker (R136): seeded by the first 31 bits, it then counts each bit that differs from the
one the 31 received before it give. Answers the register, bits seen, bits checked and errors. -/
def prbsCheck (l : List Bool) (r seen : Nat) : Nat × Nat × Nat × Nat :=
  l.foldl (fun (a : Nat × Nat × Nat × Nat) b =>
    let expect := (prbsNext a.1).1
    let r' := (a.1 * 2 + ofBool b) % 2 ^ 31
    if a.2.1 < 31 then (r', a.2.1 + 1, a.2.2.1, a.2.2.2)
    else (r', a.2.1, a.2.2.1 + 1, a.2.2.2 + ofBool (expect != b))) (r, seen, 0, 0)

end Sys2Proof.Machine
end

