-- ==== Sys2Proof/Machine/Field.lean ====
section
/-! DEFINITION. What a register field is: its place in BAR0, its width and reset value, its access type (R7), and the
description of a register or an indexed array of registers (R5, R34). -/

namespace Sys2Proof.Machine

/-- A named scalar of the machine. `addr` is the BAR0 byte address of its register (R34); a scalar that no register shows
stands above 2^32, an input signal above 2^33. -/
structure Fld where
  addr : Nat
  lsb : Nat
  width : Nat
  reset : Nat
  deriving DecidableEq, Repr

/-- The key of a field in the register file: two fields share a key only if they are one field. -/
def Fld.key (f : Fld) : Nat := f.addr * 64 + f.lsb

/-- Access types (R7). -/
inductive Access where
  | rw | ro | wo | w1c | rc | rws | rwt | ko | koRws | koRwt
  deriving DecidableEq, Repr

/-- The field may be written by the keeper only (R9). -/
def Access.keeperOnly : Access → Bool
  | .ko => true | .koRws => true | .koRwt => true
  | _ => false

/-- The field is staged (R48). -/
def Access.staged : Access → Bool
  | .rws => true | .koRws => true
  | _ => false

/-- The field is transactional (R56). -/
def Access.transactional : Access → Bool
  | .rwt => true | .koRwt => true
  | _ => false

/-- A register, or an array of them: the address of its first copy, whether it is 64 bits wide, the count and stride of
each index, and its fields at given indices. -/
structure RegDesc where
  base : Nat
  wide : Bool
  dims : List (Nat × Nat)
  fields : List Nat → List (Access × Fld)

/-- A scalar no register shows: `id` names it, `i` is its index. -/
def ivar (id i w reset : Nat) : Fld := ⟨0x1_0000_0000 + id * 0x1_0000 + i, 0, w, reset⟩

/-- An input signal: `id` names it, `i` is its index. -/
def isig (id i w reset : Nat) : Fld := ⟨0x2_0000_0000 + id * 0x1_0000 + i, 0, w, reset⟩

/-- Default base of Firn class region c (R68): 4, 16 and 32 GiB from the start of LPDDR5X. -/
def jrnBase0 (c : Nat) : Nat :=
  if c = 0 then 0x10_0000_0000 else if c = 1 then 0x11_0000_0000 else 0x15_0000_0000

/-- Default size of Firn class region c (R68). -/
def jrnSize0 (c : Nat) : Nat :=
  if c = 0 then 0x1_0000_0000 else if c = 1 then 0x4_0000_0000 else 0x8_0000_0000

/-- The regulated rail held at local index j of tile k (R79). -/
def phtRailNumber (k j : Nat) : Nat :=
  if j = 0 then 2 * k else if j = 1 then 2 * k + 1
  else if j = 2 then 8 + 2 * k else if j = 3 then 8 + 2 * k + 1
  else if k < 2 then 16 else 17

/-- Default role of sense pair p of tile k (R83): 1 primary, 2 alternate. -/
def senseRole0 (k p : Nat) : Nat :=
  if p < 4 then 1 else if p = 4 then (if k % 2 = 0 then 1 else 2) else 2

/-- Default local rail of sense pair p (R83). -/
def senseRail0 (p : Nat) : Nat := if p < 5 then p else 0

/-- Default role of timing lane m (R265): 0 up, 1 to 3 down, 4 spare. -/
def laneRole0 (m : Nat) : Nat := if m = 0 then 1 else if m < 4 then 2 else 3

/-- Role of two-wire port n (R471): ports 0 and 1 are targets. -/
def portRole0 (n : Nat) : Nat := if n < 2 then 0 else 1

end Sys2Proof.Machine
end

