-- ==== Sys2Proof/Machine/Signals.lean ====
section
/-! DEFINITION. The input signals that CONTROL_TICK samples at a boundary: their codes, widths and, where a pin has a level
when nothing drives it, that level. What 12-bit converters read is their code; other readings are in the units of the registers that show them. -/

namespace Sys2Proof.Machine

/-- Tile bus voltage PHk_VIN in 0.1 mV. -/
def Sig.phVin (k : Nat) : Fld := isig 1 k 20 0
/-- The code of a sequenced rail's VMON conversion (R300), and its power-good pin. -/
def Sig.vmon (r : Nat) : Fld := isig 2 r 12 0
def Sig.pg (r : Nat) : Fld := isig 3 r 1 0
/-- Feed-tile channel: the codes of its input and output voltage and, signed, of its shunt voltage (R326); gate-source voltage in 0.1 V. -/
def Sig.fedVin (c : Nat) : Fld := isig 4 c 12 0
def Sig.fedVout (c : Nat) : Fld := isig 5 c 12 0
def Sig.fedI (c : Nat) : Fld := isig 6 c 12 0
def Sig.fedVgs (c : Nat) : Fld := isig 7 c 8 0
/-- The code of an external temperature input, a ratio of TEMP_REF in 1/4,096 (R353). -/
def Sig.tempIn (i : Nat) : Fld := isig 8 i 12 2048
/-- Device diode temperature in 1/64 °C signed; 0 primary, 1 spare; and whether the conversion found the diode broken. -/
def Sig.diode (d : Nat) : Fld := isig 9 d 16 1600
def Sig.diodeBroken (d : Nat) : Fld := isig 10 d 1 0
/-- Fan or pump tach input: [0] a falling edge since the last boundary (R359), [1] the pin's level at the boundary (R227). -/
def Sig.tach (f : Nat) : Fld := isig 11 f 2 0
/-- Leak input: 0 dry, 1 wet, 2 open. -/
def Sig.leak (i : Nat) : Fld := isig 12 i 2 0
/-- Flow input: [15:0] pulses since the last boundary (R364), [16] the pin's level at the boundary (R227). -/
def Sig.flow (i : Nat) : Fld := isig 13 i 17 0
/-- Slot pins: presence and alert, asserted 1. -/
def Sig.present (n : Nat) : Fld := isig 14 n 1 0
def Sig.alert (n : Nat) : Fld := isig 15 n 1 0
/-- FAULT_N as an input, asserted 1. -/
def Sig.faultN : Fld := isig 16 0 1 0
/-- AUX12 in 10 mV, AUXPF_N and SUPPLY_PG as asserted levels. -/
def Sig.aux12 : Fld := isig 17 0 16 1200
def Sig.auxPf : Fld := isig 18 0 1 0
def Sig.supplyPg : Fld := isig 19 0 1 1
/-- Feed comparator (R243 class 0x06). -/
def Sig.fedCmp (c : Nat) : Fld := isig 20 c 1 0
/-- Stamp of the last SYNC_IN edge of a tile (R92), and its cycle-monitor flag as the two capture stages saw it; that flag's level is the monitor's
own. -/
def Sig.syncStamp (k : Nat) : Fld := isig 21 k 32 0
def Sig.cycMon (k : Nat) : Fld := isig 22 k 1 0

/-- Brake flag of a slot as its two capture stages saw it; the level is the flag's own. -/
def Sig.brake (n : Nat) : Fld := isig 23 n 1 0

/-- PERST_N deasserted, WAKE_N asserted, and PCIE_REFCLK present (R538, R544). -/
def Sig.perstOff : Fld := isig 24 0 1 0
def Sig.wakeN : Fld := isig 25 0 1 0
def Sig.refclk : Fld := isig 26 0 1 0

/-- A read of service slot sl of the boot flash gives an error (R404). -/
def Sig.bootErr (sl : Nat) : Fld := isig 27 sl 1 0

/-- The bus of two-wire port n is taken by another device, between START and STOP (R494). -/
def Sig.busTaken (n : Nat) : Fld := isig 28 n 1 0

/-- Samples whose two capture stages disagreed in the present tick (R234), by the same codes. -/
def Sig.uncertain (code idx : Nat) : Fld := isig (0x100 + code) idx 1 0

/-- Codes, index counts and widths of the sampled signals. -/
def signalTable : List (Nat × Nat × Nat) :=
  [(1, 4, 20), (2, 128, 12), (3, 128, 1), (4, 16, 12), (5, 16, 12), (6, 16, 12), (7, 16, 8), (8, 16, 12), (9, 2, 16), (10, 2, 1),
   (11, 20, 2), (12, 8, 2), (13, 8, 17), (14, 8, 1), (15, 8, 1), (16, 1, 1), (17, 1, 16), (18, 1, 1), (19, 1, 1), (20, 16, 1),
   (21, 4, 32), (22, 4, 1), (23, 8, 1), (24, 1, 1), (25, 1, 1), (26, 1, 1), (27, 2, 1), (28, 16, 1)]

/-- A sample names a signal that exists and a value its converter can give (R1). -/
def sampleInRange (code idx val : Nat) : Bool :=
  signalTable.any (fun e => e.1 == code && decide (idx < e.2.1) && decide (val < 2 ^ e.2.2))

end Sys2Proof.Machine
end

