-- ==== Sys2Proof/Machine/Internal.lean ====
section
/-! DEFINITION. The scalars that the rules give the machine and no register shows. Each is a field with an id of its own; its
docstring names the rule. Time values are tray times in ticks; 0 means "not running" where a rule has such a state. -/

namespace Sys2Proof.Machine

/-- A plane is held in reset (R35): 0 Cirque, 1 prediction, 2 record, 3 management. -/
def V.planeHeld (p : Nat) : Fld := ivar 0x001 p 1 0
/-- When a plane's reset is released, plus 1: 0 while no release is set (R35, R550); and the cores that then fail their self-test. -/
def V.heldUntil (p : Nat) : Fld := ivar 0x003 p 64 0
def V.heldBad : Fld := ivar 0x004 0 8 0
/-- MODEL'S OWN. The counter that the free values are applied to. -/
def V.freeCtr : Fld := ivar 0x002 0 64 0
/-- Capture frames written since arming, up to the ring's capacity (R72, R74). -/
def V.capValid : Fld := ivar 0x010 0 32 0
/-- Ring index of the next capture frame (R72). -/
def V.capNext : Fld := ivar 0x011 0 32 0
/-- Frames written after the trigger frame (R74). -/
def V.capPost : Fld := ivar 0x012 0 32 0
/-- Trigger sources raised in this control tick and not yet taken (R74), coded as in the CAPTURE record. -/
def V.capRaised : Fld := ivar 0x013 0 8 0
/-- Originating job time of a job-wide trigger raised in this tick. -/
def V.capJobTime : Fld := ivar 0x014 0 64 0
/-- Cell of a fabric trigger raised in this tick, or 0xFFFF. -/
def V.capCell : Fld := ivar 0x015 0 16 0xFFFF
/-- Uncertain samples counted in this tick (R72 bytes 16-19). -/
def V.capVariance : Fld := ivar 0x016 0 32 0
/-- Unacknowledged records stored in the ring of class c (R68, R69). -/
def V.stored (c : Nat) : Fld := ivar 0x018 c 64 0
/-- The Firn window wipe has ended (R510). -/
def V.windowWiped : Fld := ivar 0x019 0 1 0
/-- Tray time at which a class first had an undrained record since its last drain (R70). -/
def V.drainSince (c : Nat) : Fld := ivar 0x01A c 64 0
/-- Control tick of the last capture trigger, plus 1 (R74). -/
def V.capTrigTick : Fld := ivar 0x01C 0 64 0
/-- The CAPTURE record that the triggers of this control tick bring (R74): its sources, none while 0; capture's state when the first of them
came, the ring index of the trigger frame, the tray time, and the record type that triggered. -/
def V.capSrcs : Fld := ivar 0x01E 0 8 0
def V.capWas : Fld := ivar 0x01E 1 2 0
def V.capFrame : Fld := ivar 0x01E 2 32 0xFFFF_FFFF
def V.capAt : Fld := ivar 0x01E 3 64 0
def V.capTyp : Fld := ivar 0x01E 4 8 0
/-- Flags of the frame of the present tick (R72): [0] trigger, [2] nested trigger. -/
def V.capFlags : Fld := ivar 0x01D 0 8 0
/-- An image commit is due at the present boundary: the bindings are latched once it is decided (R229, R256). -/
def V.latchOwed : Fld := ivar 0x01B 0 1 0

/-- Consecutive control ticks with a phase error at or under 100 ps in ACQUIRE (R44). -/
def V.discGood : Fld := ivar 0x020 0 32 0
/-- Consecutive control ticks with a phase error beyond 500 ps while LOCKED (R44). -/
def V.discBad : Fld := ivar 0x021 0 32 0
/-- Consecutive control ticks with no valid time word (R44). -/
def V.discMissing : Fld := ivar 0x022 0 32 0
/-- Tray time since which the loop has been LOCKED, plus 1; 0 while it is not (R271). -/
def V.lockedSince : Fld := ivar 0x023 0 64 0
/-- Rate corrections summed over every control tick up to tick i mod 2^20, in ppb modulo 2^64 (R44, HOLDOVER). -/
def V.rateCum (i : Nat) : Fld := ivar 0x200 i 64 0
/-- The last phase error in 10 ps, not saturated, signed (R45). -/
def V.pherr : Fld := ivar 0x024 0 96 0
/-- The integral term of the discipline loop in ppb times 2^16, signed. -/
def V.discInt : Fld := ivar 0x026 0 64 0
/-- A time word was taken in this control tick. -/
def V.discSeen : Fld := ivar 0x027 0 1 0

/-! Phase tiles (chapter 3). Rails are numbered as in R79; a channel's id is tile * 80 + channel. -/

/-- V_base in 1/16 of 0.1 mV (R97, R111). -/
def V.vbase (r : Nat) : Fld := ivar 0x030 r 32 0
/-- acc of R98, 16.16, signed. -/
def V.acc (r : Nat) : Fld := ivar 0x031 r 32 0
/-- e of the last sample (R98), signed. -/
def V.ePrev (r : Nat) : Fld := ivar 0x032 r 32 0
/-- V_t and V_sense at the last VSEN sample, in 0.1 mV. -/
def V.vt (r : Nat) : Fld := ivar 0x033 r 32 0
def V.vsense (r : Nat) : Fld := ivar 0x034 r 32 0
/-- Sum and number of the VSEN samples of the present tick (R119). -/
def V.vsum (r : Nat) : Fld := ivar 0x035 r 32 0
def V.vcnt (r : Nat) : Fld := ivar 0x036 r 8 0
/-- Tray time plus 1 since which V_sense has stood above V_t + ov, and below V_t - uv_fault (R115). -/
def V.ovSince (r : Nat) : Fld := ivar 0x037 r 64 0
def V.uvSince (r : Nat) : Fld := ivar 0x038 r 64 0
/-- Active channels drive PWM low (R115). -/
def V.ovClamp (r : Nat) : Fld := ivar 0x039 r 1 0
/-- Tray time plus 1 since which the active pair has differed from VMON, or read out of range (R96). -/
def V.senseBad (r : Nat) : Fld := ivar 0x03A r 64 0
/-- Consecutive samples with an active channel clamped at cmd_max (R99, R102). -/
def V.climitRun (r : Nat) : Fld := ivar 0x03B r 16 0
/-- Some sample of the present tick was clamped (R99). -/
def V.climitTick (r : Nat) : Fld := ivar 0x03C r 1 0
/-- N_act at the next period boundary, plus 1; 0 for no change (R101, R102). -/
def V.nactNext (r : Nat) : Fld := ivar 0x03D r 8 0
/-- Consecutive ticks of the drop condition (R101), and ticks before N_law may drop after a fast add (R102). -/
def V.dropRun (r : Nat) : Fld := ivar 0x03E r 16 0
def V.noDrop (r : Nat) : Fld := ivar 0x03F r 16 0
/-- Tray time plus 1 since which the fold-back limit has bound (R113), and at which step 2 of R111 began. -/
def V.foldSince (r : Nat) : Fld := ivar 0x040 r 64 0
def V.ssSince (r : Nat) : Fld := ivar 0x041 r 64 0
/-- Pre-bias voltage, charge of the ramp in 1/64 A times µs, signed, and whether the accelerator was held in reset throughout (R118). -/
def V.vpre (r : Nat) : Fld := ivar 0x042 r 32 0
def V.rampQ (r : Nat) : Fld := ivar 0x043 r 64 0
def V.rampHeld (r : Nat) : Fld := ivar 0x044 r 1 0
/-- The tile reports the rail good to the sequencer (R111), or a trip not yet taken by it (R115). -/
def V.tileGood (r : Nat) : Fld := ivar 0x045 r 1 0
def V.tileTrip (r : Nat) : Fld := ivar 0x046 r 1 0
/-- A survey response holds the rail off (R38). -/
def V.surveyHold (r : Nat) : Fld := ivar 0x047 r 1 0
/-- Rotation pointer (R91), and the second of tray time at which pointers last advanced. -/
def V.rotPtr (r : Nat) : Fld := ivar 0x048 r 16 0
def V.rotSecond : Fld := ivar 0x049 0 64 0
/-- A channel failed on the rail in this tick: the fault flag to the fabric (R105). -/
def V.faultEvt (r : Nat) : Fld := ivar 0x04A r 1 0
/-- Tray time of the last rise of the brake flag (R116). -/
def V.brakeAt (r : Nat) : Fld := ivar 0x04B r 64 0
/-- Latest IMON sample of a channel in 0.1 mV (R93), and the sum and number of its current samples of the tick. -/
def V.imon (c : Nat) : Fld := ivar 0x050 c 16 6000
def V.chiSum (c : Nat) : Fld := ivar 0x051 c 32 0
def V.chiCnt (c : Nat) : Fld := ivar 0x052 c 8 0
/-- Latest current of a channel in 1/64 A, signed. -/
def V.chNow (c : Nat) : Fld := ivar 0x053 c 16 0
/-- The channel's place in the rotation order (R90): its own number until it replaces another. -/
def V.place (c : Nat) : Fld := ivar 0x054 c 16 c
/-- The failed channel this bench channel replaces, plus 1 (R106), and the tray time of the failure. -/
def V.repFor (c : Nat) : Fld := ivar 0x055 c 16 0
def V.repT0 (c : Nat) : Fld := ivar 0x056 c 64 0
/-- Tray time plus 1 at which the channel's weight began to rise (R106, R109). -/
def V.joinAt (c : Nat) : Fld := ivar 0x057 c 64 0
/-- The channel's inductance has been surveyed since cold reset (R111, R117). -/
def V.surveyed (c : Nat) : Fld := ivar 0x058 c 1 0
/-- The channel's role in the committed image (R109). -/
def V.imgRole (c : Nat) : Fld := ivar 0x059 c 2 0
/-- Consecutive good SYNC_IN periods in holdover (R89). -/
def V.syncGood (k : Nat) : Fld := ivar 0x05A k 16 0
/-- Fabric outputs in force at the rails (R97, R101, R243): base set-point with its bound flag, guard and phase floor. -/
def V.outBase (r : Nat) : Fld := ivar 0x05B r 32 0
def V.outBaseBound (r : Nat) : Fld := ivar 0x05C r 1 0
def V.outGuard (r : Nat) : Fld := ivar 0x05D r 32 0
def V.outFloor (r : Nat) : Fld := ivar 0x05E r 8 0

/-- Tray time plus 1 at which the channel's enable was asserted, 0 deasserted; it is measuring its zero; and the samples taken for it with their
sum in 0.1 mV (R93). -/
def V.enAt (c : Nat) : Fld := ivar 0x190 c 64 0
def V.zeroing (c : Nat) : Fld := ivar 0x191 c 1 0
def V.zeroN (c : Nat) : Fld := ivar 0x192 c 8 0
def V.zeroSum (c : Nat) : Fld := ivar 0x193 c 32 0
/-- Consecutive IMON samples outside the window of R94, and consecutive monitored on-times with too small a rise, both up to 2; the last measured
and expected rise in 1/64 A, signed (R103). -/
def V.imonOut (c : Nat) : Fld := ivar 0x194 c 2 0
def V.monLow (c : Nat) : Fld := ivar 0x195 c 2 0
def V.monRise (c : Nat) : Fld := ivar 0x196 c 32 0
def V.monExp (c : Nat) : Fld := ivar 0x197 c 32 0
/-- The channel's pulse of the present switching period (R84): on-time in ns, 0 for none; where its last pulse ended, in ps from the period's
boundary, signed; and ns from its PWM rising edge, plus 1, at which its current reached zero in SOFTSTART (R111). -/
def V.pulseOn (c : Nat) : Fld := ivar 0x198 c 16 0
def V.pulseEnd (c : Nat) : Fld := ivar 0x199 c 64 0
def V.zeroAt (c : Nat) : Fld := ivar 0x19A c 16 0
/-- The channel's weight is to ramp once it is active (R109). -/
def V.rampIn (c : Nat) : Fld := ivar 0x19B c 1 0
/-- Survey pulses fired on the channel (R117); the channel of the rail that is being surveyed, plus 1, and the tray time of its last pulse,
plus 1. -/
def V.pulseN (c : Nat) : Fld := ivar 0x19C c 8 0
def V.pulseCh (r : Nat) : Fld := ivar 0x19D r 16 0
def V.pulseAt (r : Nat) : Fld := ivar 0x19E r 64 0
/-- Step 2 of R111 has begun; 1 in the tick in which V_base reached the set-point, 2 afterwards; and V_sense at that sample. -/
def V.rampOn (r : Nat) : Fld := ivar 0x19F r 1 0
def V.rampDone (r : Nat) : Fld := ivar 0x1A0 r 2 0
def V.rampV (r : Nat) : Fld := ivar 0x1A1 r 32 0
/-- Offsets are to be re-spread at the next period boundary (R90), and a fast add takes effect there (R102). -/
def V.spreadDue (r : Nat) : Fld := ivar 0x1A2 r 1 0
def V.fastAdd (r : Nat) : Fld := ivar 0x1A3 r 1 0
/-- How far below 0 the rail's last VSEN sample read, in 0.1 mV (R96). -/
def V.senseBelow (r : Nat) : Fld := ivar 0x1A4 r 32 0
/-- Tray time plus 1 at which a channel's zero was measured, whose bootstrap pulse then runs (R106), and until which it is tri-stated after a survey
pulse (R117); PHT_CHL.l holds a measured value (R86). -/
def V.zeroDone (c : Nat) : Fld := ivar 0x1B0 c 64 0
def V.restTo (c : Nat) : Fld := ivar 0x1B1 c 64 0
def V.measured (c : Nat) : Fld := ivar 0x1B2 c 1 0
/-- The rail's bench channels have been released to work (R109). -/
def V.benchOut (r : Nat) : Fld := ivar 0x1B3 r 1 0
/-- Tray time plus 1 since which V_sense has stood above vmax + ov while regulating (R115). -/
def V.vmaxSince (r : Nat) : Fld := ivar 0x1B4 r 64 0
/-- V_OUT and I of a channel at its trip (R343). -/
def V.tripV (c : Nat) : Fld := ivar 0x1A9 c 16 0
def V.tripI (c : Nat) : Fld := ivar 0x1AA c 32 0
/-- P_in as reported at the end of a tick, by tick mod 32; and the value a switch holds (R339). -/
def V.pinHist (i : Nat) : Fld := ivar 0x1AB i 32 0
def V.pinHeld : Fld := ivar 0x1AC 0 32 0
/-- Since when SUPPLY_PG has been low (R537), and AUX12 at 9.5 V or above (R556), plus 1; and a write of CRP_SBCTL.enter waits for the boundary
(R543). -/
def V.supLow : Fld := ivar 0x1AD 0 64 0
def V.auxBack : Fld := ivar 0x1AE 0 64 0
def V.sbAsk : Fld := ivar 0x1AF 0 1 0
/-- Samples of a sense pair in the present tick (R95), by 6 × tile + pair. -/
def V.pairCnt (p : Nat) : Fld := ivar 0x1A5 p 8 0
/-- Tray time plus 1 of a tile's last period boundary; the period of holdover; and the phase still to close on return, both in ps, the phase signed
(R88, R89). -/
def V.perAt (k : Nat) : Fld := ivar 0x1A6 k 64 0
def V.holdPeriod (k : Nat) : Fld := ivar 0x1A7 k 32 0
def V.syncPhase (k : Nat) : Fld := ivar 0x1A8 k 32 0

/-- Largest V_t − V_sense of the tick (u of R164), and N_act before and after a change not yet seen by a sample (R100). -/
def V.uMax (r : Nat) : Fld := ivar 0x028 r 16 0
def V.scaleOld (r : Nat) : Fld := ivar 0x029 r 8 0
def V.scaleNew (r : Nat) : Fld := ivar 0x02A r 8 0

/-- Samples of the present tick, in the order taken (R72): the four of a channel's IMON, by channel id, and the sixteen of a VSEN
pair, by 6 × tile + pair. -/
def V.imonS (c i : Nat) : Fld := ivar 0x180 (4 * c + i) 16 0
def V.vsenS (p i : Nat) : Fld := ivar 0x181 (16 * p + i) 16 0

/-! Rail sequencing (chapter 9). Tray times are held plus 1; 0 means not running. -/

/-- When a rail's enable was last asserted and deasserted (R301, R304). -/
def V.seqOnAt (r : Nat) : Fld := ivar 0x090 r 64 0
def V.seqOffAt (r : Nat) : Fld := ivar 0x091 r 64 0
/-- Since when the latched power-good has differed from the deglitched one (R299), and the rail has qualified (R301). -/
def V.pgSince (r : Nat) : Fld := ivar 0x092 r 64 0
def V.qualAt (r : Nat) : Fld := ivar 0x093 r 64 0
/-- Delays and timeouts as latched at the group's common start (R302). -/
def V.latOn (r : Nat) : Fld := ivar 0x094 r 16 0
def V.latOff (r : Nat) : Fld := ivar 0x095 r 16 0
def V.latOnTo (r : Nat) : Fld := ivar 0x096 r 16 0
def V.latOffTo (r : Nat) : Fld := ivar 0x097 r 16 0
def V.latDisTo (r : Nat) : Fld := ivar 0x098 r 16 0
/-- The rail has lost its enable and has neither fallen nor been given up (R304); it needs RAIL_DIS_N of its group (R305). -/
def V.falling (r : Nat) : Fld := ivar 0x099 r 1 0
def V.disNeed (r : Nat) : Fld := ivar 0x09A r 1 0
/-- A retry of the rail runs (R307), and when the retried rail fell. -/
def V.inRetry (r : Nat) : Fld := ivar 0x09B r 1 0
def V.fallenAt (r : Nat) : Fld := ivar 0x09C r 64 0
/-- The rail, plus 1, whose policy 3 shutdown runs or has not been ended by a restart or a clear (R309). -/
def V.sysRail : Fld := ivar 0x09D 0 8 0
/-- Since when every group has been OFF or FAULT, and restarts made since cold reset (R309). -/
def V.sysDownAt : Fld := ivar 0x09E 0 64 0
def V.sysCount : Fld := ivar 0x09F 0 16 0
/-- Consecutive boundaries of the last low and of the present high level of FAULT_N (R312); an external fault is held. -/
def V.fnLow : Fld := ivar 0x0D5 0 32 0
def V.fnHigh : Fld := ivar 0x0D6 0 32 0
def V.fnActive : Fld := ivar 0x0D7 0 1 0
/-- Cause of R319 with which a group's power-down began. -/
def V.downCause (g : Nat) : Fld := ivar 0x0D9 g 8 0
/-- The shutdown of R316 runs: 1 for power fail, 2 for a thermal shutdown. -/
def V.pfailRun : Fld := ivar 0x0D8 0 2 0

/-! Feeds (chapter 10). Tray times are held plus 1; 0 means not running. -/

/-- When INRUSH or LIMIT began (R328, R330), and the sum of I × (VIN − VOUT) since, signed, in 1/16 A times 10 mV per sample. -/
def V.fedSince (c : Nat) : Fld := ivar 0x0E0 c 64 0
def V.fedE (c : Nat) : Fld := ivar 0x0E1 c 64 0
/-- Since when the conditions of R329 have held together. -/
def V.fedOkAt (c : Nat) : Fld := ivar 0x0E2 c 64 0
/-- When the channel was last commanded off; since when it leaks, or shows an output, while off (R334). -/
def V.fedOffAt (c : Nat) : Fld := ivar 0x0E3 c 64 0
def V.leakAt (c : Nat) : Fld := ivar 0x0E4 c 64 0
def V.outAt (c : Nat) : Fld := ivar 0x0E5 c 64 0
/-- Time of the last trip, whether its record and orders are due (R333), and the enable has dropped since (R332). -/
def V.tripAt (c : Nat) : Fld := ivar 0x0E6 c 64 0
def V.tripDue (c : Nat) : Fld := ivar 0x0E7 c 1 0
def V.fedDropped (c : Nat) : Fld := ivar 0x0E8 c 1 0
/-- The drain current the gate drive regulates to in INRUSH and LIMIT (R328), in 1/16 A. -/
def V.fedIreg (c : Nat) : Fld := ivar 0x0E9 c 32 0
/-- A channel's current at its latest sample in 1/16 A, signed (R326); a sample has reached a limit of ON, or E its bound (R328, R330). -/
def V.fedNow (c : Nat) : Fld := ivar 0x1BA c 32 0
def V.limitHit (c : Nat) : Fld := ivar 0x1BB c 1 0
def V.energyHit (c : Nat) : Fld := ivar 0x1BC c 1 0
/-- VOUT × I summed over the samples of the tick, signed, and their number (R327). -/
def V.fedSum (c : Nat) : Fld := ivar 0x0EA c 64 0
def V.fedCnt (c : Nat) : Fld := ivar 0x0EB c 8 0
/-- The channel escalated when it was found damaged (R335). -/
def V.escalated (c : Nat) : Fld := ivar 0x0EC c 1 0
/-- Since when a feed's VIN has lain inside and outside its window (R336), and it has been usable (R337). -/
def V.vinInAt (f : Nat) : Fld := ivar 0x0ED f 64 0
def V.vinOutAt (f : Nat) : Fld := ivar 0x0EE f 64 0
def V.usableAt (f : Nat) : Fld := ivar 0x0EF f 64 0
/-- The old feed of the switch has been judged (R337). -/
def V.swJudged : Fld := ivar 0x1BD 0 1 0
/-- A feed has been selected since cold reset, and no feed is usable since (R340). -/
def V.feedSeen : Fld := ivar 0x0F0 0 1 0
def V.noFeed : Fld := ivar 0x0F1 0 1 0
/-- The switch of R337: cause of one that waits for a clear boundary; 1 while the old feed is off and the new one is not on,
2 from the new feed's INRUSH; old feed, cause and t0; when the new feed went ON (R339). -/
def V.swPend : Fld := ivar 0x0F2 0 2 0
def V.swPhase : Fld := ivar 0x0F3 0 2 0
def V.swOld : Fld := ivar 0x0F4 0 2 0
def V.swCause : Fld := ivar 0x0F5 0 2 0
def V.swT0 : Fld := ivar 0x0F6 0 64 0
def V.swOnAt : Fld := ivar 0x0F7 0 64 0

/-! Thermal protection and cooling (chapter 11). Tray times are held plus 1. -/

/-- Previous conversion of a diode, consecutive valid conversions and consecutive broken ones (R348, R349). -/
def V.dioPrev (d : Nat) : Fld := ivar 0x100 d 16 0
def V.dioCount (d : Nat) : Fld := ivar 0x101 d 8 0
def V.dioBad (d : Nat) : Fld := ivar 0x102 d 8 0
/-- When the diode in use was found broken (R350), when shutdown qualified (R352), and the tray time that had passed since then when a cold reset
let tray time start again. -/
def V.graceAt : Fld := ivar 0x103 0 64 0
def V.thermAt : Fld := ivar 0x104 0 64 0
def V.thermGone : Fld := ivar 0x1BF 0 64 0
/-- The grace has expired, or both diodes are broken (R350). -/
def V.shutDue : Fld := ivar 0x105 0 1 0
/-- Consecutive boundaries without a present thermal value of the slot (R355). -/
def V.mapMissing (n : Nat) : Fld := ivar 0x106 n 16 0
/-- When THM's ceiling of a slot last changed, and since when no source of the slot has been hot (R357). -/
def V.ceilAt (n : Nat) : Fld := ivar 0x107 n 64 0
def V.coolAt (n : Nat) : Fld := ivar 0x108 n 64 0
/-- Last four tach intervals in µs, how many are held, and the control tick plus 1 of the last edge (R359). -/
def V.tachInt (f i : Nat) : Fld := ivar 0x109 (4 * f + i) 32 0
def V.tachCount (f : Nat) : Fld := ivar 0x10A f 3 0
def V.tachLast (f : Nat) : Fld := ivar 0x10B f 64 0
/-- When the channel entered its state, and since when it has run below stall speed; a KICK entered from STALLED; stalls since
cold reset (R362, R370). -/
def V.fanAt (f : Nat) : Fld := ivar 0x10C f 64 0
def V.slowAt (f : Nat) : Fld := ivar 0x10D f 64 0
def V.kickAgain (f : Nat) : Fld := ivar 0x10E f 1 0
def V.stallCount (f : Nat) : Fld := ivar 0x10F f 16 0
/-- The duty that a channel drives from its next PWM period on, in 0.1 % (R361). -/
def V.fanNext (f : Nat) : Fld := ivar 0x1BE f 10 1000
/-- Pulses of a flow input in the present window, and windows whose end was taken (R364). -/
def V.flowCnt (i : Nat) : Fld := ivar 0x110 i 32 0
def V.flowSecond : Fld := ivar 0x111 0 64 0
/-- Consecutive low windows of flow input i of zone z, index 8 × z + i; consecutive windows in which the zone's flow was not low; since when it is
low; the zone's slots are held off (R364). -/
def V.flowLowRun (zi : Nat) : Fld := ivar 0x112 zi 8 0
def V.flowOkRun (z : Nat) : Fld := ivar 0x113 z 8 0
def V.flowLowAt (z : Nat) : Fld := ivar 0x114 z 64 0
def V.flowOff (z : Nat) : Fld := ivar 0x115 z 1 0
/-- Since when a leak input has been wet, and open; its latch was set by a wet cable (R365, R366). -/
def V.wetAt (i : Nat) : Fld := ivar 0x116 i 64 0
def V.openAt (i : Nat) : Fld := ivar 0x117 i 64 0
def V.leakWas (i : Nat) : Fld := ivar 0x118 i 1 0
/-- Since when the diode in use has read at most 115 °C during a thermal reset (R352). -/
def V.coolSince : Fld := ivar 0x119 0 64 0

/-! Fuses (R397). Rows are programmed once; nothing resets them. The values of a shipped part are not given. -/

/-- State rows and wiped rows, bit c for lifecycle code c, 1 to 4 (R415). -/
def V.fuseState : Fld := ivar 0x800 0 8 2
def V.fuseWiped : Fld := ivar 0x801 0 8 2
/-- The device secret DS, 256 bits, and the serial. -/
def V.fuseDs : Fld := ivar 0x802 0 256 0
def V.fuseSerial : Fld := ivar 0x803 0 64 0
/-- Key slot s: digest, usage mask, whether the digest is programmed, revoke row. -/
def V.fuseKey (s : Nat) : Fld := ivar 0x804 s 256 0
def V.fuseUsage (s : Nat) : Fld := ivar 0x805 s 8 0
def V.fuseEnrolled (s : Nat) : Fld := ivar 0x806 s 1 (if s < 4 then 1 else 0)
def V.fuseRevoked (s : Nat) : Fld := ivar 0x807 s 1 0
/-- Rows of the SVN floor of image kind k, 0 to 32; core retire rows; attestation provisioned. -/
def V.fuseFloor (k : Nat) : Fld := ivar 0x808 k 8 0
def V.fuseRetire : Fld := ivar 0x809 0 6 0
def V.fuseAtt : Fld := ivar 0x80A 0 1 1

/-! Keeper, ROM and image store (chapters 13 and 14). -/

/-- Public key loaded into the signature engine's table, 64 bytes (R399). -/
def V.keyTable (s : Nat) : Fld := ivar 0x120 s 512 0
/-- Cores that failed their self-test at this start, by physical number (R403). -/
def V.coreBad : Fld := ivar 0x121 0 6 0
/-- Slots of the keeper kind tried at this start, bit per slot (R403, R432). -/
def V.keeperNext : Fld := ivar 0x122 0 8 0
/-- The keeper's golden checks of this start have ended (R431). -/
def V.goldDone : Fld := ivar 0x123 0 1 0
/-- The keeper waits for an image of a kind: bit 0 keeper, bit 1 service (R407, R434). -/
def V.awaiting : Fld := ivar 0x124 0 2 0
/-- Next attestation index of a block that this start has reserved; the block's end (R413). -/
def V.attEnd : Fld := ivar 0x125 0 64 0
/-- The STAGE under way (R436): kind, slot or copy, entry, source address and length, extent, and the core that asked. -/
def V.stKind : Fld := ivar 0x126 0 8 0
def V.stSlot : Fld := ivar 0x127 0 8 0
def V.stEntry : Fld := ivar 0x128 0 8 0
def V.stAddr : Fld := ivar 0x129 0 64 0
def V.stLen : Fld := ivar 0x12A 0 32 0
def V.stExtent : Fld := ivar 0x12B 0 32 0
/-- Measurements of the running keeper and service image, 256 bits (R414). -/
def V.measKeeper : Fld := ivar 0x12D 0 256 0
def V.measService : Fld := ivar 0x12E 0 256 0
/-- A golden copy that awaits its retirement until a custody operation ends, as 2 × entry + copy + 1 (R437). -/
def V.retireLater : Fld := ivar 0x12F 0 8 0

/-! Custody (chapter 12). Tray times are held plus 1. -/

/-- Since when presence, its absence, the alert and its absence have been seen at every boundary (R379). -/
def V.prsAt (n : Nat) : Fld := ivar 0x130 n 64 0
def V.prsOffAt (n : Nat) : Fld := ivar 0x131 n 64 0
def V.alertAt (n : Nat) : Fld := ivar 0x132 n 64 0
def V.alertOffAt (n : Nat) : Fld := ivar 0x133 n 64 0
/-- Since when the reset has been asserted and ACCn_FSEL low; 0 since before cold reset (R381, R384). -/
def V.rstAt (n : Nat) : Fld := ivar 0x134 n 64 0
def V.fselAt (n : Nat) : Fld := ivar 0x135 n 64 0
/-- Straps and boot select as driven, and since when (R381, R382). -/
def V.strapOut (n : Nat) : Fld := ivar 0x136 n 8 0
def V.bootOut (n : Nat) : Fld := ivar 0x137 n 2 0
def V.strapAt (n : Nat) : Fld := ivar 0x138 n 64 0
/-- The boot watchdog runs (R389), and the re-flash of fail_act has been used. -/
def V.bootAt (n : Nat) : Fld := ivar 0x139 n 64 0
def V.failTried (n : Nat) : Fld := ivar 0x13A n 1 0
/-- The flash was identified since ownership was taken and supports 8D-8D-8D (R386). -/
def V.flashKnown (n : Nat) : Fld := ivar 0x13B n 1 0
/-- The operation running: its number, keep, skip_same, and the core it is charged to (R386, R393). -/
def V.cusOp (n : Nat) : Fld := ivar 0x13C n 4 0
def V.cusKeep (n : Nat) : Fld := ivar 0x13D n 1 0
def V.cusSkip (n : Nat) : Fld := ivar 0x13E n 1 0
def V.cusCore (n : Nat) : Fld := ivar 0x13F n 4 0
/-- Step of the sequence of R388, or of R389's re-flash: 0 none, 1 VERIFY, 2 REFLASH, 3 VERIFY again, 4 REFLASH and 5 VERIFY of R389. -/
def V.cusAuto (n : Nat) : Fld := ivar 0x140 n 4 0
/-- What the engine owes the slot: 1 the sequence of R388, 2 the re-flash of R389. -/
def V.cusOwed (n : Nat) : Fld := ivar 0x141 n 2 0
/-- The slot's state is ABANDONED (R390) and the slot has BOOT_FAILED (R389). -/
def V.abandoned (n : Nat) : Fld := ivar 0x142 n 1 0
def V.bootFailed (n : Nat) : Fld := ivar 0x143 n 1 0
/-- A VERIFY has given MATCH since the group last became UP, and no REFLASH has started since (R381 gate e). -/
def V.matched (n : Nat) : Fld := ivar 0x144 n 1 0
/-- Bytes of an erase unit of the slot's flash, as last identified; 0 before (R383, R387). -/
def V.eraseUnit (n : Nat) : Fld := ivar 0x1C0 n 32 0

/-- Bytes of the image being loaded, and whether its source held an uncorrectable error (R254, R255). -/
def V.loadLen : Fld := ivar 0x145 0 32 0
def V.loadUe : Fld := ivar 0x146 0 1 0
/-- Doorbells in the order they reached the keeper (R411): core numbers, four bits each, the first lowest. -/
def V.gateOrder : Fld := ivar 0x147 0 64 0
/-- Version of the keeper image that the ROM last started (R420). -/
def V.keeperVersion : Fld := ivar 0x1C1 0 32 0
/-- The structure slot plus 1 whose image the keeper is to load and commit (R432). -/
def V.structOwed : Fld := ivar 0x1C2 0 2 0
/-- Regions whose first wipe since the 12 V auxiliary input returned has not ended (R500, R512). -/
def V.powerWipe : Fld := ivar 0x1C3 0 5 0
/-- The core whose STRUCT_COMMIT runs (R411): 0 none; and the seq of its request. -/
def V.structCore : Fld := ivar 0x148 0 4 0
def V.structSeq : Fld := ivar 0x149 0 32 0

/-- A trial slot of kind k was rejected in the selection under way, and the code of the last failed check (R432, R441). -/
def V.selRejected (k : Nat) : Fld := ivar 0x14A k 1 0
def V.selFail (k : Nat) : Fld := ivar 0x14B k 8 0

/-! Host interface (chapter 15). -/

/-- The function's MSI-X Enable and Function Mask bits, as the host last set them in configuration space. -/
def V.msixOn : Fld := ivar 0x150 0 1 0
def V.msixMask : Fld := ivar 0x151 0 1 0
/-- Messages sent on a vector since cold reset (R463). -/
def V.msixSent (v : Nat) : Fld := ivar 0x152 v 64 0
/-- Messages sent since event 0x071 was last counted (R522). -/
def V.msixNew : Fld := ivar 0x174 0 64 0
/-- The decoder looks at ring p: its doorbell rang, or a poll found requests (R459); the ring it served last, plus 1. -/
def V.ringDue (p : Nat) : Fld := ivar 0x153 p 1 0
def V.ringLast : Fld := ivar 0x154 0 8 0
/-- Expected request sequence number of ring p, and its next response sequence number (R455, R456). -/
def V.rqSeq (p : Nat) : Fld := ivar 0x155 p 32 0
def V.rsSeq (p : Nat) : Fld := ivar 0x156 p 32 0
/-- Responses posted since the ring's last message, and tray time plus 1 of the first of them (R463). -/
def V.coalCount (p : Nat) : Fld := ivar 0x157 p 16 0
def V.coalAt (p : Nat) : Fld := ivar 0x158 p 64 0
/-- RELEASEs of every standing HOST order are owed (R448). -/
def V.flrOwed : Fld := ivar 0x159 0 1 0
/-- Records lost in class c when the last DRAIN was posted (R457). -/
def V.drainLost (c : Nat) : Fld := ivar 0x15A c 64 0
/-- Records of class c that have been drained and not yet acknowledged (R462). -/
def V.drained (c : Nat) : Fld := ivar 0x15C c 64 0
/-- The recovery go of path p (0 host, 1 two-wire) was refused and its owner's attempt still runs (R465). -/
def V.rcvBusy (p : Nat) : Fld := ivar 0x15B p 1 0

/-! Counters (chapter 18). -/

/-- Counting is halted (R518); a snapshot is due at the next boundary (R520); the present bandwidth window's first instant (R523). -/
def V.pmcOff : Fld := ivar 0x175 0 1 0
def V.snapOwed : Fld := ivar 0x176 0 1 0
def V.bwFrom : Fld := ivar 0x177 0 64 0
/-- The token under check (R528), its first byte lowest, and its path: 0 BAR0, 1 JTAG. -/
def V.tokHeld : Fld := ivar 0x178 0 24608 0
def V.tokPath : Fld := ivar 0x179 0 1 0

/-! Two-wire ports (chapter 16). -/

/-- Window pointer of target port p, and the alert mask (R478, R481). -/
def V.winPtr (p : Nat) : Fld := ivar 0x160 p 8 0
def V.alertMask : Fld := ivar 0x161 0 16 0
/-- STATUS_WORD bits 2 to 0 (R484). -/
def V.twiStatus : Fld := ivar 0x162 0 3 0
/-- What ORDER_RESULT returns (R485). -/
def V.orderSeq : Fld := ivar 0x163 0 32 0
def V.orderCode : Fld := ivar 0x164 0 8 0
def V.orderBlk : Fld := ivar 0x165 0 8 0
def V.orderTgt : Fld := ivar 0x166 0 8 0
def V.orderScope : Fld := ivar 0x167 0 8 0
def V.orderVal : Fld := ivar 0x168 0 32 0
/-- Offset of RCV_DATA in the recovery window (R484). -/
def V.rcvOfs : Fld := ivar 0x169 0 32 0
/-- Events of kind w on port n since cold reset, by 8 * n + w (R492). -/
def V.twiCount (n w : Nat) : Fld := ivar 0x16A (8 * n + w) 32 0
/-- SDA of port n was stuck, and no recovery has succeeded since (R477). -/
def V.sdaBad (n : Nat) : Fld := ivar 0x16B n 1 0
/-- The identification engine has finished since cold reset (R490); a survey ordered later awaits its reads (R39). -/
def V.identDone : Fld := ivar 0x16C 0 1 0
def V.identOwed : Fld := ivar 0x16D 0 1 0
/-- A survey holds sequenced rail r off (R38, R490). -/
def V.identHold (r : Nat) : Fld := ivar 0x16E r 1 0

/-! Memory (chapter 17). -/

/-- Next line of the patrol scrubber of region r, as an offset (R497). -/
def V.scrubPos (r : Nat) : Fld := ivar 0x170 r 32 0
/-- LPDDR5X channels that training found good (R502), and channels marked FAILED, which are not trained again (R506). -/
def V.lpGood : Fld := ivar 0x171 0 48 0
def V.lpFailed : Fld := ivar 0x80B 0 48 0
/-- The cold reset under way may keep LPDDR5X (R507), and the good channels before it. -/
def V.lpKeep : Fld := ivar 0x80C 0 1 0
def V.lpGoodOld : Fld := ivar 0x80D 0 48 0
/-- Tray time plus 1 of the last oscillator tracking (R502); MR4 reported a change since. -/
def V.wckAt : Fld := ivar 0x172 0 64 0
def V.wckDue : Fld := ivar 0x173 0 1 0

/-! Power and resets (chapter 19). -/

/-- While the island holds every plane: since when WAKE_N has been asserted, the presence pins as last seen and as standby found them, and
since when they have differed from that (R544). -/
def V.wakeLow : Fld := ivar 0x17F 1 64 0
def V.prsNow : Fld := ivar 0x17F 2 8 0
def V.prsThen : Fld := ivar 0x17F 3 8 0
def V.wakePrs : Fld := ivar 0x17F 4 64 0
/-- The power-on sequence has run since AUX12 rose (R545). -/
def V.auxUp : Fld := ivar 0x80E 0 1 0
/-- The island holds every plane: in standby (R543), and after a thermal shutdown (R352). -/
def V.standby : Fld := ivar 0x80F 0 1 0
def V.thermHold : Fld := ivar 0x810 0 1 0
/-- Tray time plus 1 at which standby was accepted (R543), and of the power-fail warning (R554). -/
def V.sbAt : Fld := ivar 0x17A 0 64 0
def V.pfAt : Fld := ivar 0x17B 0 64 0
/-- Tray time at which the watchdog's present period began (R549). -/
def V.wdogAt : Fld := ivar 0x17C 0 64 0
/-- Prediction resets since cold reset (R558). -/
def V.predResets : Fld := ivar 0x17D 0 32 0
/-- Crossing x is in alarm (R553). -/
def V.xingOn (x : Nat) : Fld := ivar 0x17E x 1 0
/-- Part of a CRP_RTC cycle counted, in millionths (R545). -/
def V.rtcPart : Fld := ivar 0x811 0 32 0
/-- PLL 0 to 7 has locked since it was started (R538, R539). -/
def V.pllLock : Fld := ivar 0x17F 0 8 3

/-! Links (chapters 4 and 8). -/

/-- The receive pair of link n shows energy (R135), and tray time plus 1 of the last look. -/
def V.energy (n : Nat) : Fld := ivar 0x06A n 1 0
def V.lookAt (n : Nat) : Fld := ivar 0x06B n 64 0
/-- What the upstream control words last delivered to the fixed region gave (R142): bubbles and brake_ack of slot n. -/
def V.upBubbles (n : Nat) : Fld := ivar 0x06C n 8 0
def V.upBrake (n : Nat) : Fld := ivar 0x06D n 1 0
/-- How long the brake flag of rail r last stood, in ns (R159). -/
def V.brakeLast (r : Nat) : Fld := ivar 0x06E r 32 0

/-- The spare of a timing lane is marked failed (R155, R272). -/
def V.laneFail (n : Nat) : Fld := ivar 0x060 n 1 0
/-- The frequency index that the OR8 holds in force for a slot (DCW.freq, R130). -/
def V.freqHeld (n : Nat) : Fld := ivar 0x061 n 8 0
/-- A brake flag of the slot was asserted in the present tick (b of R164). -/
def V.brakeTick (r : Nat) : Fld := ivar 0x062 r 1 0
/-- Tray time, in 10 ps past the boundary of a tick, of the last round-trip measurement's result: none kept before the first. -/
def V.rttHad (n : Nat) : Fld := ivar 0x063 n 1 0

/-- Epochs whose end has been taken (R275). -/
def V.epochTaken : Fld := ivar 0x064 0 64 0

/-! Pacing and caps (chapter 5). Scope 8 is the tray. -/

/-- Slot power of each of the last 1,000 ticks (R167), by n * 1,024 + tick mod 1,000, and their sum. -/
def V.pw (n i : Nat) : Fld := ivar 0x0A0 (n * 1024 + i) 32 0
def V.pwSum (n : Nat) : Fld := ivar 0x0A1 n 48 0
/-- Energy of the present 1 ms bin in nJ, the last 60,000 bins of scope n (R176), and the bins closed since cold reset. -/
def V.binAcc (n : Nat) : Fld := ivar 0x0A2 n 48 0
def V.bin (n i : Nat) : Fld := ivar (0x0B0 + n) i 48 0
def V.binCount : Fld := ivar 0x0A3 0 64 0
/-- Control tick plus 1 of the last cap loop (R177). -/
def V.capLoopAt : Fld := ivar 0x0A4 0 64 0
/-- Milliseconds for which every cap of the scope has read under (R177), and tray time plus 1 of the last raise. -/
def V.underMs (n : Nat) : Fld := ivar 0x0A5 n 32 0
def V.raisedAt (n : Nat) : Fld := ivar 0x0A6 n 64 0
/-- The cap loop finds the scope over at index 0 (R167, R177), the tray time plus 1 since when, and whether that was reported. -/
def V.overAtZero (n : Nat) : Fld := ivar 0x0A7 n 1 0
def V.unmetSince (n : Nat) : Fld := ivar 0x0A8 n 64 0
def V.unmetTold (n : Nat) : Fld := ivar 0x0A9 n 1 0
/-- Brake assertions of the present cap-loop interval, and the tray time at which the escalation ceiling ends (R180). -/
def V.brakes (n : Nat) : Fld := ivar 0x0AA n 32 0
def V.escUntil (n : Nat) : Fld := ivar 0x0AB n 64 0
/-- Tray ballast B in mW (R172), whether a shortfall lasts (R174), ticks of P_in above U, and the envelope's first boundary. -/
def V.ballast : Fld := ivar 0x0AC 0 32 0
def V.shortfall : Fld := ivar 0x0AD 0 1 0
def V.overTicks : Fld := ivar 0x0AE 0 16 0
def V.envRuns : Fld := ivar 0x0AF 0 1 0
def V.floorClash : Fld := ivar 0x0C0 0 1 0
/-- CAP offers or prepares a rise for the slot (R179). -/
def V.rising (n : Nat) : Fld := ivar 0x0C1 n 1 0
/-- CAP prepares the rise that its cap loop is to make (R177, R179). -/
def V.capRise (n : Nat) : Fld := ivar 0x1B5 n 1 0
/-- The slot's frequency table is not strictly ascending (R175). -/
def V.badTable (n : Nat) : Fld := ivar 0x0C2 n 1 0
/-- Tray time plus 1 of a group's last AGEING report, whether it reported in this 100 ms and whether each report was good, by
n * 256 + group; periods with every group good; and no fall until every group has reported (R181). -/
def V.ageAt (n g : Nat) : Fld := ivar 0x0C3 (n * 256 + g) 64 0
def V.ageSeen (n g : Nat) : Fld := ivar 0x0C4 (n * 256 + g) 1 0
def V.ageBad (n g : Nat) : Fld := ivar 0x0C5 (n * 256 + g) 1 0
def V.ageRun (n : Nat) : Fld := ivar 0x0C6 n 16 0
def V.ageStale (n : Nat) : Fld := ivar 0x0C7 n 1 0
def V.ageWait (n g : Nat) : Fld := ivar 0x0C8 (n * 256 + g) 1 0
/-- Number of the last 100 ms period whose end was taken, plus 1 (R181). -/
def V.agePeriod (n : Nat) : Fld := ivar 0x0C9 n 64 0
/-- Tray time plus 1 since which the declared groups of a slot are awaited: its last entry to RUN. -/
def V.ageFrom (n : Nat) : Fld := ivar 0x0CA n 64 0
/-- F and G terms of the reserve policy in force for the slot (R246, R282), and the reserve class itself. -/
def V.slotClass (n : Nat) : Fld := ivar 0x0CB n 4 0
/-- Further terms from image cells, the EXT ports of R233: p 0 quota, 1 phase floor, 2 guard, 3 ramp budget. -/
def V.ext (n p : Nat) : Fld := ivar 0x0CC (4 * n + p) 32 (if p = 3 then 255 else 0)
/-- JOB's share of the envelope (R283) bounds ENV_UP and ENV_DOWN. -/
def V.jobEnvBound : Fld := ivar 0x0CD 0 1 0
def V.jobEnvUp : Fld := ivar 0x0CE 0 32 0
def V.jobEnvDown : Fld := ivar 0x0CF 0 32 0


/-! Fabric outputs in force at endpoints whose registers belong to other chapters (R243). -/

/-- Duty bound to a fan or pump (R243 class 0x43), and whether one is bound. -/
def V.outDuty (f : Nat) : Fld := ivar 0x0D1 f 16 0
def V.outDutyBound (f : Nat) : Fld := ivar 0x0D2 f 1 0
/-- Value of a capture probe (R243 class 0x46). -/
def V.probe (i : Nat) : Fld := ivar 0x0D3 i 32 0
/-- A cell with the variable mark raised a fabric trigger in this tick (R61, R243). -/
def V.capMark : Fld := ivar 0x0D4 0 1 0
/-- A latched sample in a rail's run of one level, or in FAULT_N's, was uncertain; and the decision under way takes such a sample (R299). -/
def V.pgDoubt (r : Nat) : Fld := ivar 0x1B7 r 1 0
def V.fnDoubt : Fld := ivar 0x1B8 0 1 0
def V.decDoubt : Fld := ivar 0x1B9 0 1 0
/-- A pass has been published (R264). -/
def V.passDone : Fld := ivar 0x1B6 0 1 0

end Sys2Proof.Machine
end

