-- ==== Sys2Proof/Machine/RecordTypes.lean ====
section
/-! DEFINITION. The record types of the Firn and their default classes (R64 and the record tables of the chapters). -/

namespace Sys2Proof.Machine

def Ty.FIRN_START : Nat := 0x1
def Ty.ORDER : Nat := 0x2
def Ty.STATE_CHANGE : Nat := 0x3
def Ty.PROTECT_TRIP : Nat := 0x4
def Ty.DISCARDED_WRITE : Nat := 0x5
def Ty.SURVEY : Nat := 0x6
def Ty.TX_COMMIT : Nat := 0x7
def Ty.TX_ABORT : Nat := 0x8
def Ty.TIME_STEP : Nat := 0x9
def Ty.LOSS : Nat := 0xa
def Ty.STAGE_APPLY : Nat := 0x10
def Ty.STAGE_INCOMPLETE : Nat := 0x11
def Ty.STAGE_LATE : Nat := 0x12
def Ty.STAGE_FULL : Nat := 0x13
def Ty.STAGE_CONFLICT : Nat := 0x14
def Ty.STAGE_PREEMPTED : Nat := 0x15
def Ty.STAGE_CANCEL : Nat := 0x16
def Ty.TX_FOREIGN : Nat := 0x17
def Ty.TIME_EVENT : Nat := 0x18
def Ty.CAPTURE : Nat := 0x19
def Ty.OVERRUN : Nat := 0x1a
def Ty.VARIANCE : Nat := 0x20
def Ty.FABRIC_TRACE : Nat := 0x21
def Ty.PHASE_FAULT : Nat := 0x40
def Ty.PHASE_SWAP : Nat := 0x41
def Ty.SENSE_SWITCH : Nat := 0x42
def Ty.SYNC_EVENT : Nat := 0x43
def Ty.RAIL_STATE : Nat := 0x44
def Ty.LINK_STATE : Nat := 0x48
def Ty.LANE_SWITCH : Nat := 0x49
def Ty.LINK_CAPS : Nat := 0x4a
def Ty.FREQ_APPLY : Nat := 0x4b
def Ty.FEC_ALARM : Nat := 0x4c
def Ty.BRAKE : Nat := 0x4d
def Ty.DROOP : Nat := 0x50
def Ty.ENVELOPE : Nat := 0x51
def Ty.CAP_ACT : Nat := 0x52
def Ty.AGE_TRIM : Nat := 0x53
def Ty.PRD_STATE : Nat := 0x58
def Ty.STEP_DISCONT : Nat := 0x59
def Ty.PRD_FAULT : Nat := 0x5a
def Ty.PRD_WINDOW : Nat := 0x5b
def Ty.IMG_LOAD : Nat := 0x60
def Ty.IMG_COMMIT : Nat := 0x61
def Ty.PARAM_REJECT : Nat := 0x62
def Ty.FAB_SNAPSHOT : Nat := 0x63
def Ty.FAB_FAULT : Nat := 0x64
def Ty.HUDDLE : Nat := 0x68
def Ty.TIPOFF : Nat := 0x69
def Ty.TLANE_STATE : Nat := 0x6a
def Ty.JOB_MEMBER : Nat := 0x6b
def Ty.HOP_LATE : Nat := 0x6c
def Ty.REPLAY_DONE : Nat := 0x6d
def Ty.LOCKSTEP_DIFF : Nat := 0x6e
def Ty.SEQ_GROUP : Nat := 0x70
def Ty.SEQ_FAULT : Nat := 0x71
def Ty.SEQ_RETRY : Nat := 0x72
def Ty.SEQ_CHATTER : Nat := 0x73
def Ty.SEQ_FAULTIN : Nat := 0x74
def Ty.FEED_STATE : Nat := 0x78
def Ty.FEED_SWITCH : Nat := 0x79
def Ty.FEED_DAMAGED : Nat := 0x7a
def Ty.DEV_TEMP : Nat := 0x80
def Ty.TEMP_LIMIT : Nat := 0x81
def Ty.FAN_STALL : Nat := 0x82
def Ty.LEAK : Nat := 0x83
def Ty.FLOW_LOW : Nat := 0x84
def Ty.DIODE_SWITCH : Nat := 0x85
def Ty.ACC_RESET : Nat := 0x88
def Ty.ACC_CUSTODY : Nat := 0x89
def Ty.ACC_BOOT : Nat := 0x8a
def Ty.ACC_ALERT : Nat := 0x8b
def Ty.ACC_PRESENT : Nat := 0x8c
def Ty.BOOT_STAGE : Nat := 0x90
def Ty.IMAGE_REJECT : Nat := 0x91
def Ty.GATE_CALL : Nat := 0x92
def Ty.ATTEST : Nat := 0x93
def Ty.LIFECYCLE : Nat := 0x94
def Ty.KEY_EVENT : Nat := 0x95
def Ty.SVN_MIN : Nat := 0x96
def Ty.CORE_EVENT : Nat := 0x97
def Ty.IMG_LEDGER : Nat := 0x98
def Ty.IMG_SELECT : Nat := 0x99
def Ty.IMG_FLASH : Nat := 0x9a
def Ty.IMG_COMPACT : Nat := 0x9b
def Ty.RING_EVENT : Nat := 0xa0
def Ty.HOST_LINK : Nat := 0xa1
def Ty.HOST_ERROR : Nat := 0xa2
def Ty.RECOVERY : Nat := 0xa3
def Ty.TWI_EVENT : Nat := 0xa8
def Ty.TWI_PEC : Nat := 0xa9
def Ty.TWI_IDENT : Nat := 0xaa
def Ty.MEM_ERROR : Nat := 0xb0
def Ty.MEM_REPAIR : Nat := 0xb1
def Ty.LP_TRAIN : Nat := 0xb2
def Ty.TEST_UNLOCK : Nat := 0xb8
def Ty.TEST_REFUSED : Nat := 0xb9
def Ty.RESET : Nat := 0xc0
def Ty.POWER_FAIL : Nat := 0xc1
def Ty.CLOCK_EVENT : Nat := 0xc2
def Ty.XING : Nat := 0xc3
def Ty.STANDBY : Nat := 0xc4

/-- Record types and their default retention class. -/
def typeClasses : List (Nat × Nat) :=
  [(0x1, 0), (0x2, 0), (0x3, 0), (0x4, 0), (0x5, 0), (0x6, 0), (0x7, 0), (0x8, 0), (0x9, 0), (0xa, 0), (0x10, 1), (0x11, 1), (0x12, 1), (0x13, 1), (0x14, 1), (0x15, 1), (0x16, 1), (0x17, 1), (0x18, 1), (0x19, 1), (0x1a, 1), (0x20, 2), (0x21, 2), (0x40, 0), (0x41, 0), (0x42, 0), (0x43, 1), (0x44, 1), (0x48, 0), (0x49, 0), (0x4a, 1), (0x4b, 1), (0x4c, 1), (0x4d, 1), (0x50, 1), (0x51, 1), (0x52, 1), (0x53, 1), (0x58, 1), (0x59, 1), (0x5a, 0), (0x5b, 2), (0x60, 0), (0x61, 0), (0x62, 1), (0x63, 1), (0x64, 0), (0x68, 1), (0x69, 0), (0x6a, 0), (0x6b, 0), (0x6c, 1), (0x6d, 0), (0x6e, 0), (0x70, 0), (0x71, 0), (0x72, 1), (0x73, 2), (0x74, 0), (0x78, 1), (0x79, 0), (0x7a, 0), (0x80, 0), (0x81, 1), (0x82, 0), (0x83, 0), (0x84, 0), (0x85, 0), (0x88, 0), (0x89, 0), (0x8a, 0), (0x8b, 1), (0x8c, 0), (0x90, 0), (0x91, 0), (0x92, 1), (0x93, 0), (0x94, 0), (0x95, 0), (0x96, 0), (0x97, 0), (0x98, 0), (0x99, 0), (0x9a, 1), (0x9b, 1), (0xa0, 1), (0xa1, 0), (0xa2, 1), (0xa3, 0), (0xa8, 1), (0xa9, 2), (0xaa, 1), (0xb0, 0), (0xb1, 1), (0xb2, 1), (0xb8, 0), (0xb9, 1), (0xc0, 0), (0xc1, 0), (0xc2, 1), (0xc3, 0), (0xc4, 0)]

end Sys2Proof.Machine
end

