-- ==== Sys2Proof/Machine/Table.lean ====
section
/-! DEFINITION. Operations over a sparse table in its one canonical form (keys strictly rising, no entry equal to what an
unlisted key reads as), and the device's byte memory as such a table of Host.Cell. -/

namespace Sys2Proof.Machine

/-- What a table lists at a key. -/
def tableFind? {α : Type} : List (Nat × α) → Nat → Option α
  | [], _ => none
  | (k, v) :: m, i => if k = i then some v else tableFind? m i

/-- The value at a key, `d` where none is listed. -/
def tableGet {α : Type} (d : α) (m : List (Nat × α)) (i : Nat) : α := (tableFind? m i).getD d

/-- The table with `v` at `i`, keys kept rising. -/
def tableInsert {α : Type} : List (Nat × α) → Nat → α → List (Nat × α)
  | [], i, v => [(i, v)]
  | (k, w) :: m, i, v =>
    if i < k then (i, v) :: (k, w) :: m
    else if i = k then (i, v) :: m
    else (k, w) :: tableInsert m i v

/-- The table without key `i`. -/
def tableErase {α : Type} : List (Nat × α) → Nat → List (Nat × α)
  | [], _ => []
  | (k, w) :: m, i => if k = i then m else (k, w) :: tableErase m i

/-- The table with `v` at `i`, listing nothing where `v` is the default `d`. -/
def tablePut {α : Type} [DecidableEq α] (d : α) (m : List (Nat × α)) (i : Nat) (v : α) : List (Nat × α) :=
  if v = d then tableErase m i else tableInsert m i v

/-- The table without the keys that satisfy `p`. -/
def tableDrop {α : Type} (p : Nat → Bool) (m : List (Nat × α)) : List (Nat × α) := m.filter (fun e => !p e.1)

/-- Keys strictly rising. -/
def tableSorted {α : Type} : List (Nat × α) → Bool
  | [] => true
  | [_] => true
  | (k, _) :: (j, w) :: m => decide (k < j) && tableSorted ((j, w) :: m)

/-- No entry equal to the default. -/
def tableNoDefault {α : Type} [DecidableEq α] (d : α) (m : List (Nat × α)) : Bool := m.all (fun e => e.2 != d)

/-- The canonical form. -/
def tableWf {α : Type} [DecidableEq α] (d : α) (m : List (Nat × α)) : Bool := tableSorted m && tableNoDefault d m

/-- What a byte of memory that nothing has written reads as (R71, R500: memory that becomes ready holds zeros). -/
def memDefault : Byte := 0

/-- One byte of memory. -/
def memByte (m : List Host.Cell) (a : Nat) : Nat := (tableGet memDefault m a).toNat

/-- Memory with one byte written. -/
def memSetByte (m : List Host.Cell) (a v : Nat) : List Host.Cell := tablePut memDefault m a (BitVec.ofNat 8 v)

/-- Memory with bytes written from address `a` up. -/
def memSetBytes : List Host.Cell → Nat → List Nat → List Host.Cell
  | m, _, [] => m
  | m, a, b :: bs => memSetBytes (memSetByte m a b) (a + 1) bs

/-- The canonical form of memory: addresses strictly rising, no byte equal to what an unlisted byte reads as. -/
def Memory.wf (m : List Host.Cell) : Bool := tableWf memDefault m

/-- `n` bytes from address `a` up. -/
def memBytes (m : List Host.Cell) (a n : Nat) : List Nat := (List.range n).map (fun i => memByte m (a + i))

end Sys2Proof.Machine
end

