-- ==== Sys2Proof/Machine/Tensor.lean ====
section
/-! DEFINITION. The tensor units' arithmetic (R200-R206, R251): formats, saturating trees, block scaling, requantisation,
activation tables and the operators. Every function also counts the additions and narrowings that saturated (PRD_SATCNT). -/

namespace Sys2Proof.Machine

/-- rshr(x, s) of R200. -/
def rshr (x : Int) (s : Nat) : Int :=
  if s = 0 then x else if 0 ≤ x then (x + 2 ^ (s - 1)) / 2 ^ s else -((-x + 2 ^ (s - 1)) / 2 ^ s)

/-- A saturated value and 1 if it saturated. -/
def satCount (w : Nat) (x : Int) : Int × Nat := (satSigned w x, ofBool (satSigned w x != x))

/-- Tensor formats (R251). -/
def Fmt.int4 : Nat := 0
def Fmt.int8 : Nat := 1
def Fmt.int16 : Nat := 2
def Fmt.int32 : Nat := 3
def Fmt.bs8 : Nat := 4

/-- Bits of a format's elements. -/
def fmtBits (f : Nat) : Nat := if f = 0 then 4 else if f = 1 then 8 else if f = 2 then 16 else if f = 3 then 32 else 8

/-- A tensor: format, dimensions, elements in index order (mantissas for BS8), and for BS8 one exponent for each block of 32 along a row,
and the length of a row: the innermost dimension of a weight (R251), the whole of a map region (R203). -/
structure Tens where
  fmt : Nat
  dims : List Nat
  vals : List Int
  exps : List Nat
  row : Nat
  deriving DecidableEq, Repr

/-- A tensor without blocks. -/
def plainTens (fmt : Nat) (dims : List Nat) (vals : List Int) : Tens := ⟨fmt, dims, vals, [], 1⟩

/-- Number of elements of dimensions. -/
def dimSize (d : List Nat) : Nat := d.foldl (· * ·) 1

/-- Length of the innermost dimension. -/
def Tens.inner (t : Tens) : Nat := t.dims.getLastD 1

/-- The block that element i lies in; outside BS8 there is one. -/
def Tens.blockAt (t : Tens) (i : Nat) : Nat := if t.fmt = Fmt.bs8 then i / t.row * ceilDiv t.row 32 + i % t.row / 32 else 0

/-- Exponent of the block that element i lies in; 127 outside BS8 (R202). -/
def Tens.expAt (t : Tens) (i : Nat) : Nat := if t.fmt = Fmt.bs8 then t.exps.getD (t.blockAt i) 127 else 127

/-- A factor of a product: mantissa, exponent and block. -/
structure Factor where
  m : Int
  e : Nat
  block : Nat

/-- Element i as a factor. -/
def Tens.factor (t : Tens) (i : Nat) : Factor := ⟨t.vals.getD i 0, t.expAt i, t.blockAt i⟩

/-- Element i as an integer; a BS8 value of exponent below 127 is rounded (R200). -/
def Tens.at' (t : Tens) (i : Nat) : Int :=
  let v := t.vals.getD i 0
  let e := t.expAt i
  if 127 ≤ e then v * 2 ^ (e - 127) else rshr v (127 - e)

/-- One level of the reduction tree: adjacent pairs added, each addition saturating (R201). -/
def treeLevel : List Int → List Int × Nat
  | a :: b :: r =>
    let (x, c) := satCount 32 (a + b)
    let (l, n) := treeLevel r
    (x :: l, c + n)
  | [a] => ([a], 0)
  | [] => ([], 0)

/-- The tree of R201, level by level; padding zeros change nothing. -/
def treeSum : Nat → List Int → Int × Nat
  | _, [] => (0, 0)
  | _, [a] => (a, 0)
  | 0, a :: _ => (a, 0)
  | k + 1, l =>
    let (m, n) := treeLevel l
    let (x, c) := treeSum k m
    (x, n + c)

/-- The sum of a list by the fixed tree. -/
def reduceSum (l : List Int) : Int × Nat := treeSum (l.length + 1) l

/-- Products of a row grouped by block pair, in index order: the exponents of the pair and its products (R202). -/
def blockPairs : List (Factor × Factor) → List ((Factor × Factor) × List Int)
  | [] => []
  | p :: r =>
    match blockPairs r with
    | (q, l) :: gs => if p.1.block = q.1.block ∧ p.2.block = q.2.block then (p, p.1.m * p.2.m :: l) :: gs else (p, [p.1.m * p.2.m]) :: (q, l) :: gs
    | [] => [(p, [p.1.m * p.2.m])]

/-- The sum of products of two rows (R201, R202); with BS8 operands the partials of the block pairs are aligned first. -/
def rowDot (bs8 : Bool) (eAcc : Int) (row : List (Factor × Factor)) : Int × Nat :=
  if !bs8 then reduceSum (row.map (fun p => p.1.m * p.2.m))
  else
    let parts := (blockPairs row).map (fun g =>
      let (p, c) := reduceSum g.2
      let sh : Int := (g.1.1.e : Int) - 127 + (g.1.2.e : Int) - 127 - eAcc
      if 0 ≤ sh then
        let (v, d) := satCount 32 (p * 2 ^ sh.toNat)
        (v, c + d)
      else (rshr p (-sh).toNat, c))
    let (v, n) := reduceSum (parts.map (·.1))
    (v, n + parts.foldl (fun a p => a + p.2) 0)

/-- An activation table of 64 segments (R205): pairs b_k and m_k. -/
def activate (table : List (Int × Int)) (x : Int) : Int × Nat :=
  let k := ((x + 32768) / 1024).toNat
  let (b, m) := table.getD k (0, 0)
  satCount 16 (b + rshr (m * (x - (1024 * (k : Int) - 32768))) 8)

/-- The end of a layer (R204): M, S, the activation, and the output type. -/
def layerEnd (m s fmt : Nat) (act : Option (List (Int × Int))) (acc : Int) : Int × Nat :=
  let (y, c1) := satCount 16 (rshr (satSigned 48 (acc * m)) s)
  let (z, c2) := match act with | some t => activate t y | none => (y, 0)
  let (r, c3) := satCount (fmtBits fmt) z
  (r, c1 + c2 + c3)

/-- Requantisation of an output channel: M and S. -/
abbrev Requant := Nat → Nat × Nat

/-- DENSE (R206): y = W x + b. -/
def opDense (w x bias : Tens) (bsx : Bool) (eAcc : Int) (rq : Requant) (fmt : Nat) (act : Option (List (Int × Int))) (outDims : List Nat) (wBase : Nat) : Tens × Nat :=
  let k := dimSize x.dims
  let n := dimSize outDims
  let rows := (List.range n).map (fun o =>
    let (s, c) := rowDot bsx eAcc ((List.range k).map (fun i => (w.factor (wBase + o * k + i), x.factor i)))
    let (a, d) := satCount 32 (s + bias.vals.getD o 0)
    let (y, e) := layerEnd (rq o).1 (rq o).2 fmt act a
    (y, c + d + e))
  (plainTens fmt outDims (rows.map (·.1)), rows.foldl (fun a r => a + r.2) 0)

/-- CONV1D (R206): along the record axis, the last but one; weights [out][kernel][in]. -/
def opConv (w x bias : Tens) (bsx : Bool) (eAcc : Int) (rq : Requant) (fmt : Nat) (act : Option (List (Int × Int))) (outDims : List Nat) (kernel stride wBase : Nat) : Tens × Nat :=
  let cin := x.inner
  let cout := outDims.getLastD 1
  let len := (x.dims.dropLast).getLastD 1
  let outer := dimSize x.dims.dropLast.dropLast
  let steps := (len - kernel) / (max stride 1) + 1
  let cells := (List.range (outer * steps * cout)).map (fun i =>
    let o := i % cout
    let t := i / cout % steps
    let j := i / cout / steps
    let (s, c) := rowDot bsx eAcc ((List.range (kernel * cin)).map (fun q =>
      (w.factor (wBase + o * kernel * cin + q), x.factor ((j * len + t * max stride 1 + q / cin) * cin + q % cin))))
    let (a, d) := satCount 32 (s + bias.vals.getD o 0)
    let (y, e) := layerEnd (rq o).1 (rq o).2 fmt act a
    (y, c + d + e))
  (plainTens fmt outDims (cells.map (·.1)), cells.foldl (fun a r => a + r.2) 0)

/-- Elementwise operators: 0 ADD and 1 MUL end as a layer does, bias first, 2 MAX narrows (R204, R206). -/
def opElem (kind : Nat) (a b bias : Tens) (rq : Requant) (fmt : Nat) (act : Option (List (Int × Int))) (outDims : List Nat) : Tens × Nat :=
  let c := outDims.getLastD 1
  let cells := (List.range (dimSize outDims)).map (fun i =>
    if kind < 2 then
      let (s, n) := satCount 32 (if kind = 0 then a.at' i + b.at' i else a.at' i * b.at' i)
      let (t, d) := satCount 32 (s + bias.vals.getD (i % c) 0)
      let (y, m) := layerEnd (rq (i % c)).1 (rq (i % c)).2 fmt act t
      (y, n + d + m)
    else satCount (fmtBits fmt) (max (a.at' i) (b.at' i)))
  (plainTens fmt outDims (cells.map (·.1)), cells.foldl (fun a r => a + r.2) 0)

/-- The elements of a tensor split at an axis: elements before it, along it and after it. -/
def axisSplit (dims : List Nat) (axis : Nat) : Nat × Nat × Nat :=
  (dimSize (dims.take axis), dims.getD axis 1, dimSize (dims.drop (axis + 1)))

/-- REDUCE (R206): sum or maximum along an axis. -/
def opReduce (isMax : Bool) (x : Tens) (axis fmt : Nat) (outDims : List Nat) : Tens × Nat :=
  let (pre, n, post) := axisSplit x.dims axis
  let cells := (List.range (pre * post)).map (fun i =>
    let l := (List.range n).map (fun k => x.at' ((i / post * n + k) * post + i % post))
    let (v, c) := if isMax then (l.foldl max (l.headD 0), 0) else reduceSum l
    let (y, d) := satCount (fmtBits fmt) v
    (y, c + d))
  (plainTens fmt outDims (cells.map (·.1)), cells.foldl (fun a r => a + r.2) 0)

/-- CONCAT (R206): two tensors joined along an axis. -/
def opConcat (a b : Tens) (axis fmt : Nat) (outDims : List Nat) : Tens × Nat :=
  let (pre, n, post) := axisSplit a.dims axis
  let m := (axisSplit b.dims axis).2.1
  let cells := (List.range (pre * (n + m) * post)).map (fun i =>
    let p := i / ((n + m) * post)
    let k := i / post % (n + m)
    let q := i % post
    satCount (fmtBits fmt) (if k < n then a.at' ((p * n + k) * post + q) else b.at' ((p * m + (k - n)) * post + q)))
  (plainTens fmt outDims (cells.map (·.1)), cells.foldl (fun a r => a + r.2) 0)

/-- SLICE (R206): a contiguous range along an axis. -/
def opSlice (x : Tens) (axis start len fmt : Nat) (outDims : List Nat) : Tens × Nat :=
  let (pre, n, post) := axisSplit x.dims axis
  let cells := (List.range (pre * len * post)).map (fun i =>
    satCount (fmtBits fmt) (x.at' ((i / (len * post) * n + start + i / post % len) * post + i % post)))
  (plainTens fmt outDims (cells.map (·.1)), cells.foldl (fun a r => a + r.2) 0)

/-- ACT (R206): a table over each element. -/
def opAct (x : Tens) (fmt : Nat) (act : Option (List (Int × Int))) (outDims : List Nat) : Tens × Nat :=
  let cells := (List.range (dimSize outDims)).map (fun i =>
    let (y, c) := match act with | some t => activate t (x.at' i) | none => (x.at' i, 0)
    let (z, d) := satCount (fmtBits fmt) y
    (z, c + d))
  (plainTens fmt outDims (cells.map (·.1)), cells.foldl (fun a r => a + r.2) 0)

/-- A block of 32 values block-scaled (R203): the exponent and the mantissas. -/
def blockScale (l : List Int) : Nat × List Int :=
  let top := l.foldl (fun a v => max a v.natAbs) 0
  let sh := ((List.range 17).find? (fun s => decide (roundDiv top (2 ^ s) ≤ 127))).getD 16
  (127 + sh, l.map (fun v => roundDiv v (2 ^ sh)))

/-- A map region as a BS8 tensor (R203). -/
def mapTensor (dims : List Nat) (vals : List Int) : Tens :=
  let blocks := (List.range (ceilDiv vals.length 32)).map (fun b => blockScale ((vals.drop (32 * b)).take 32))
  ⟨Fmt.bs8, dims, blocks.flatMap (·.2), blocks.map (·.1), max 1 vals.length⟩

end Sys2Proof.Machine
end

