-- ==== Sys2Proof/Machine/Types.lean ====
section
/-! DEFINITION. The structured data that State holds: records of the Firn, orders, staged and transactional writes, link
messages and the other objects that are lists rather than register fields. -/

namespace Sys2Proof.Machine

/-- A Firn record as a unit raises it (R61); the writer adds `seq` and `class_seq`. `pay` holds byte offset, byte count and
value; unnamed payload bytes are 0. -/
structure Rec where
  typ : Nat
  src : Nat
  pay : List (Nat × Nat × Nat)
  stamp : Option Nat := none
  orderSrc : Nat := 0
  variableMark : Bool := false
  cont : Bool := false
  cls : Option Nat := none
  /-- Pushed through the management port (R66, R589). -/
  port : Bool := false
  deriving DecidableEq, Repr

/-- A record in the staging area, with the numbers the writer gave it (R61, R62). -/
structure StagedRec where
  seq : Nat
  clsSeq : Nat
  cls : Nat
  spill : Bool
  stamp : Nat
  body : Rec
  deriving DecidableEq, Repr

/-- Records lost in a class and not yet reported (R69): count, cause of the first and its seq. -/
structure LossNote where
  count : Nat
  cause : Nat
  firstSeq : Nat
  deriving DecidableEq, Repr

/-- The Firn writer (R62, R66-R69). -/
structure Firn where
  /-- FIRN_START has been written. -/
  started : Bool := false
  /-- seq of the next record. -/
  seq : Nat := 0
  /-- class_seq of the next record of each class. -/
  clsSeq : SMap Nat := []
  /-- What waits for FIRN_START, oldest first: at most 1,024 records of the start-up buffer, and those of the management port. -/
  startup : List Rec := []
  /-- The staging area, oldest first, at most 262,144. -/
  area : List StagedRec := []
  /-- The management port's queue, oldest first, at most 256. -/
  mgmt : List Rec := []
  /-- Cores held on a full queue, with the record each is pushing. -/
  held : List (Nat × Rec) := []
  /-- JRN_LOST of each class. -/
  lost : SMap Nat := []
  /-- Losses not yet reported by a LOSS record. -/
  lossNotes : List (Nat × LossNote) := []
  /-- Slots each source has used in this control tick, by src word. -/
  used : SMap Nat := []
  /-- Records not written for want of a slot, by src word. -/
  missed : SMap Nat := []
  /-- The 64 src words that own the fixed region's slots (R249); empty before a commit gives them. -/
  slots : List Nat := []
  /-- Moves of types into stronger classes (R64, R249): type and class. -/
  moves : List (Nat × Nat) := []
  /-- JRN_STAT bits: 75 % reached, an OVERRUN was written, class 0 spilled. -/
  stageHi : Bool := false
  overrun : Bool := false
  c0Full : Bool := false
  /-- Types of the records raised in this control tick, for the capture triggers (R74). -/
  tickTypes : List Nat := []
  /-- Records lost in each class since cold reset, which a read of JRN_LOST does not clear (R457 DRAIN). -/
  lostEver : SMap Nat := []
  /-- Tray time plus 1 of the first PROTECT_TRIP not yet sent as a TRIGGER (R287). -/
  tripAt : Nat := 0
  deriving DecidableEq, Repr

/-- An order (R26-R29). `src` is 1 PROTECT, 2 RACK, 3 HOST, 4 LOCAL. -/
structure Order where
  blk : Nat
  target : Nat
  scope : Nat
  src : Nat
  release : Bool
  value : Nat
  window : Nat
  seq : Nat
  applyAt : Nat
  /-- It came from a cell that carries the variable mark (R61). -/
  mark : Bool
  deriving DecidableEq, Repr

/-- A protection that holds a PROTECT order (R183, R313, R340, R367). -/
inductive Holder where
  /-- A rail latch of the group (R308). -/
  | railLatch (g : Nat)
  /-- External FAULT_N (R312). -/
  | faultIn
  /-- A trip of a feed-tile channel (R333). -/
  | feedTrip (c : Nat)
  /-- A damaged feed-tile channel (R334). -/
  | feedDamaged (c : Nat)
  /-- No usable feed, held by branch channel c (R340). -/
  | noFeed (c : Nat)
  /-- Swija loss with action 1 (R158). -/
  | linkLoss (n : Nat)
  /-- A thermal critical latch by instance (R358). -/
  | thermal (i : Nat)
  /-- Device temperature level (R349). -/
  | device
  /-- A stalled fan or pump of zone z (R363). -/
  | fan (z : Nat)
  /-- A lost thermal map (R355). -/
  | mapLost (n : Nat)
  /-- A leak input (R366). -/
  | leak (i : Nat)
  /-- Low flow of zone z (R364). -/
  | flow (z : Nat)
  /-- CAP's brake escalation (R180). -/
  | escalation (n : Nat)
  /-- THM's thermal ceiling of a slot (R357). -/
  | thermalCeil (n : Nat)
  /-- A phase tile's reduced current limit (R108). -/
  | phaseLimit (r : Nat)
  /-- The TAP controller (R530). -/
  | tap
  /-- A fabric PROTECT order output (R243), by binding number, and whether its cell carries the variable mark (R61). -/
  | cell (b : Nat) (mark : Bool)
  /-- A policy 3 shutdown of every group (R309). -/
  | system
  /-- The shutdown of R316. -/
  | pfail
  deriving DecidableEq, Repr

/-- One protection's hold on a target. -/
structure Hold where
  holder : Holder
  blk : Nat
  target : Nat
  scope : Nat
  value : Nat
  deriving DecidableEq, Repr

/-- Standing orders, orders that wait for their boundary, and the protections behind the PROTECT orders. -/
structure Orders where
  /-- The LOCAL defaults of the committed image (R584), each as the order it installs. -/
  defaults : List Order := []
  /-- A commit has renewed the LOCAL defaults, and the ones to install at its boundary (R584), not yet taken with the orders due. -/
  renewed : Bool := false
  installs : List Order := []
  pend : List Order := []
  standing : List Order := []
  holds : List Hold := []
  /-- The PROTECT orders formed in one cycle, in the order in which they were formed, until they are numbered (R583). -/
  gathering : Bool := false
  fresh : List Order := []
  deriving DecidableEq, Repr

/-- A staged field value (R48): the block's base, the requester, the stamp, the field, its set (0 for a lone field) and
its position among all staged writes. -/
structure Staged where
  blk : Nat
  req : Nat
  stamp : Nat
  addr : Nat
  lsb : Nat
  width : Nat
  reset : Nat
  set : Nat
  val : Nat
  pos : Nat
  deriving DecidableEq, Repr

/-- The stamp register of one requester in one block (R48): none until it is written. -/
structure StampReg where
  blk : Nat
  req : Nat
  stamp : Nat
  deriving DecidableEq, Repr

/-- The staging buffers of every block. -/
structure Staging where
  vals : List Staged := []
  stamps : List StampReg := []
  next : Nat := 0
  deriving DecidableEq, Repr

/-- A field value held in the open transaction. -/
structure TxVal where
  addr : Nat
  lsb : Nat
  width : Nat
  reset : Nat
  val : Nat
  deriving DecidableEq, Repr

/-- The open transaction (R56-R59); its state, cause and owner are in TIM_TXSTAT. -/
structure Tx where
  vals : List TxVal := []
  openedAt : Nat := 0
  committedAt : Nat := 0
  /-- Ticks a live commit has waited past its first boundary (R258). -/
  waitFrom : Option Nat := none
  deriving DecidableEq, Repr

/-- The register bus: the last value each requester read, its latched upper words and its held lower words (R6), each by
requester and address. -/
structure Bus where
  data : SMap Nat := []
  upper : SMap Nat := []
  lower : SMap Nat := []
  deriving DecidableEq, Repr

/-- A message of a Swija link or timing lane (R132, R133, R268): its type and bytes 4 to 31. -/
structure Msg where
  typ : Nat
  pay : List Nat
  deriving DecidableEq, Repr

/-- A message sent and not yet acknowledged (R132): its mseq, the control tick it was last sent in, and whether it is to be
sent again. -/
structure SentMsg where
  msg : Msg
  mseq : Nat
  tick : Nat
  again : Bool
  deriving DecidableEq, Repr

/-- A message accepted and not yet acted on: arrival of its frame in 10 ps of tray time, and the tick its frame belongs to. -/
structure GotMsg where
  msg : Msg
  arrive : Nat
  tick : Nat
  deriving DecidableEq, Repr

/-- What an upstream tick carried, until it is delivered to the fixed region (R142, R144). -/
structure UpTick where
  tick : Nat
  /-- A control word of the tick has come; its fields, of the latest. -/
  heard : Bool := false
  offset : Nat := 0
  step : Nat := 0
  freq : Nat := 0
  bubbles : Nat := 0
  ballast : Nat := 0
  brakeAck : Nat := 0
  /-- A STEP came in the tick. -/
  began : Bool := false
  deriving DecidableEq, Repr

/-- A physical lane under training (R136-R139). Lanes 2n and 2n + 1 are slot n's primary and spare, lanes 16 to 20 the timing
lanes. `stage` is 0 unpowered, 1 training, 2 aligning, 3 carrying frames. -/
structure Lane where
  stage : Nat := 0
  t0 : Nat := 0
  rate : Nat := 0
  /-- Trained at the rate in force only (R155, R156). -/
  fixed : Bool := false
  /-- The running PRBS31 register of the transmitter (R136). -/
  prbsTx : Nat := 0x7FFF_FFFF
  txTick : Nat := 0
  txFidx : Nat := 0
  /-- The levels last driven. -/
  out : List Int := []
  aligned : Bool := false
  markPos : Nat := 0
  markRun : Nat := 0
  missRun : Nat := 0
  prbsRx : Nat := 0
  seen : Nat := 0
  /-- The receiver's sweep: presets 0 to 15, then 16 for the final count; 0 waiting, 1 discarding, 2 counting. -/
  sweep : Nat := 0
  phase : Nat := 0
  left : Nat := 0
  checked : Nat := 0
  errs : Nat := 0
  tally : List Nat := []
  reqPreset : Nat := 0
  reqSeq : Nat := 0
  /-- The receiver's criterion is met, or the rate is given up; frames sent since that said so. -/
  rxDone : Bool := false
  rateDown : Bool := false
  doneSent : Nat := 0
  downSent : Bool := false
  farDone : Nat := 0
  farDown : Bool := false
  farRates : Nat := 0
  /-- The transmitter's preset and the request it answers (R137). -/
  txPreset : Nat := 5
  /-- Pre-cursor, main and post-cursor tap that the transmitter drives, in 1/32 of full swing (R138). -/
  taps : Int × Int × Int := (-2, 30, 0)
  ackSeq : Nat := 0
  askPreset : Nat := 5
  askSeq : Nat := 0
  askAt : Nat := 0
  /-- Consecutive clean frames in ALIGN; where an upstream tick's last frame ends, in 10 ps past the boundary that began the tick. -/
  clean : Nat := 0
  upEnd : Nat := 0
  deriving DecidableEq, Repr

/-- A TIPOFF queued for a slot (R153, R284): job identity, barrier, tray instant X in ticks of 250 ps, and the job time T. -/
structure Tip where
  job : Nat
  barrier : Nat
  x : Nat
  t : Nat
  deriving DecidableEq, Repr

/-- The state of a link that no register shows (R132-R158). Links 0 to 7 are the slots', 8 to 12 the timing lanes'. -/
structure Link where
  queue : List Msg := []
  sent : List SentMsg := []
  txSeq : Nat := 0
  rxSeq : Nat := 0
  inbox : List GotMsg := []
  /-- Partner pages received, by page (R140), and own pages queued, as a bit map. -/
  pages : SMap (List Nat) := []
  ownPages : Nat := 0
  /-- Partner pages received in the present exchange, as a bit map; a survey repeats the exchange in RUN (R39). -/
  gotPages : Nat := 0
  again : Bool := false
  /-- A survey response holds the lane down (R38). -/
  held : Bool := false
  /-- The frame that both lanes carry in SWITCH (R155): tick, frame index, control word and messages. -/
  twin : Option (Nat × Nat × List Nat × List SentMsg) := none
  /-- Tray time of the last correctable frame before the loss that was last declared. -/
  lostFrom : Nat := 0
  /-- Tray times: entry to the state, the last correctable frame, the entry to LOSS that no RUN has followed (0 none), the last departure from
  RUN, the last retry, the last round trip. -/
  since : Nat := 0
  lastGood : Nat := 0
  lossAt : Nat := 0
  leftRun : Nat := 0
  retryAt : Nat := 0
  rttAt : Nat := 0
  timeAt : Nat := 0
  /-- A committed force_spare has not yet been acted on (R155), and the cause was the error rate. -/
  forced : Bool := false
  byRate : Bool := false
  /-- The tick at whose boundary both ends change lane. -/
  switchAt : Option Nat := none
  /-- Tray times of uncorrectable frames of the last 1 ms, and corrected symbols of one tick. -/
  uncAt : List Nat := []
  fecTick : Nat := 0
  fecCor : Nat := 0
  /-- tick_echo's tick and the arrival of the last upstream frame 0, in 10 ps; it was received on the lane in use since the entry to RUN, and its
  tick's frame 0 leaves at the boundary (R141). -/
  echoTick : Nat := 0
  echoArr : Nat := 0
  echoOk : Bool := false
  ups : List UpTick := []
  /-- TIPOFFs queued and not yet answered, and the tray times of apply-ats and fired tip-offs of the last 20 µs or still ahead (R155, R258). -/
  tips : List Tip := []
  marks : List Nat := []
  /-- Timing lanes: t1 and t2 of the last TIME, arrival of the last TIME_UP, in 1/1,024 tick of job time. -/
  t1 : Nat := 0
  t2 : Nat := 0
  t3 : Nat := 0
  t4 : Nat := 0
  depth : Nat := 0
  /-- A TIME_UP goes out in the next frame 0 (R269). -/
  upDue : Bool := false
  deriving DecidableEq, Repr

/-- A hint word whose event is pending or whose terms hold (R145, R169): its slot, kind, the boundaries of effect and end,
the event, and its terms. -/
structure Hint where
  slot : Nat
  kind : Nat
  arrival : Nat
  event : Nat
  start : Nat
  stop : Nat
  amps : Nat
  dur : Nat
  f : Nat
  g : Nat
  deriving DecidableEq, Repr

/-- An entry of a slot's step index (R195). `whole` says that it was opened while the slot was writing. -/
structure StepEntry where
  step : Nat
  start : Nat
  len : Nat
  closed : Bool
  whole : Bool
  deriving DecidableEq, Repr

/-- A forecast vector: the boundary at which it enters the fabric, and per horizon step mid and hi in 1/16 A (R208). -/
structure Forecast where
  entry : Nat
  mid : List Nat
  hi : List Nat
  deriving DecidableEq, Repr

/-- The first tick of a pair when decimating (R198): its offset and a record's fields; of each feature, the sum and the number of the present values. -/
structure HalfRec where
  offset : Nat
  flags : Nat
  vals : List Int
  feats : List (Int × Nat)
  deriving DecidableEq, Repr

/-- What an inference has computed so far: tensors by number, the weight set chosen for the next layer, saturations, records not
present and words found uncorrectable in the stages of this tick, and the output's two tensors. -/
structure RunState where
  done : List (Nat × Tens) := []
  set : Nat := 0
  sats : Nat := 0
  missing : Nat := 0
  bad : List Nat := []
  out : Option (Tens × Tens) := none
  deriving DecidableEq, Repr

/-- An inference under way (R207): the model's address, the boundary of its inputs, the inputs themselves (R192: scalars as presented,
map values as the model sees them, i_core of RAIL), and what its stages have computed. -/
structure Infer where
  model : Nat
  at_ : Nat
  step : Nat
  off : Nat
  scalars : List Int
  maps : List Nat
  base : Int
  run : RunState
  deriving DecidableEq, Repr

/-- What the prediction plane holds for a slot beside its registers (R191-R211). -/
structure PrdSlot where
  /-- Step index, newest first, at most 4,096. -/
  index : List StepEntry := []
  prevStep : Option Nat := none
  /-- Inferences in the pipeline, and the vectors that have entered in the last 200 ticks. -/
  fly : List Infer := []
  past : List Forecast := []
  /-- A STEP delivered while the slot did not run, with its tick (R212). -/
  born : Option (Nat × Nat) := none
  half : Option HalfRec := none
  /-- Offset of the odd tick last written when decimating (R198). -/
  oddDone : Option Nat := none
  /-- Last present map value of each index since the link entered RUN (R193). -/
  lastMap : SMap Nat := []
  /-- Accuracy window: ticks, sum of |m − mid|, misses; consecutive bad windows, whether the last was good, end of the hold. -/
  ticks : Nat := 0
  absSum : Nat := 0
  misses : Nat := 0
  badRun : Nat := 0
  lastGood : Bool := true
  holdUntil : Nat := 0
  /-- m − mid of the last tick (R194), and the weights have failed until the next commit of the model (R212). -/
  err : Int := 0
  weightsBad : Bool := false
  /-- The state that the monitor asks for at the next boundary, 0 for none (R211); a step discontinuity since the last boundary (R196); the cause
  for which the slot is or was last OFF (R213). -/
  owed : Nat := 0
  broke : Bool := false
  offCause : Nat := 5
  deriving DecidableEq, Repr

/-- A huddle report of a child lane for the epoch under way (R268, R276). -/
structure Report where
  lane : Nat
  offer : Nat
  missing : Bool
  counted : Nat
  excluded : Nat
  accs : Nat
  demand : Nat
  ready : Nat
  deriving DecidableEq, Repr

/-- A RESULT (R268, R278). -/
structure JobResult where
  epoch : Nat
  index : Nat
  hold : Bool
  cls : Nat
  fires : Bool
  accs : Nat
  barrier : Nat
  tipT : Nat
  demand : Nat
  deriving DecidableEq, Repr

/-- A job descriptor in force and its huddle (R273-R284): the fields of JOB_J* as they stood at the epoch boundary. -/
structure JobRun where
  valid : Bool := false
  root : Bool := false
  d : Nat := 0
  parent : Nat := 7
  children : Nat := 0
  slots : Nat := 0
  key : Nat := 0
  missLimit : Nat := 0
  sub : Nat := 0
  totAcc : Nat := 0
  totTrays : Nat := 0
  envUp : Nat := 0
  envDown : Nat := 0
  init : Nat := 0
  lead : Nat := 50
  /-- The contribution as each of the last two epochs' latest boundary found it (R275). -/
  latched : List (Nat × Report) := []
  /-- Epochs in a row without a RESULT (R281). -/
  noResult : Nat := 0
  /-- Own contribution of epoch `epoch`; none before the first end or under a new descriptor. -/
  own : Option Report := none
  epoch : Nat := 0
  reports : List Report := []
  /-- The tray has reported or decided, has taken a RESULT, or has given the RESULT up. -/
  sent : Bool := false
  taken : Bool := false
  lost : Bool := false
  /-- The RESULT repeated on the child lanes, and the one not yet in force. -/
  relay : Option Msg := none
  due : Option JobResult := none
  last : Option JobResult := none
  /-- Epochs without a report, trays last reported and detachment, by child lane. -/
  silent : SMap Nat := []
  trays : SMap Nat := []
  detached : Nat := 0
  shareUp : Nat := 0
  shareDown : Nat := 0
  shared : Bool := false
  /-- Originating times of TRIGGERs already passed on. -/
  triggers : List Nat := []
  deriving DecidableEq, Repr

/-- A forwarded pass of lockstep (R290): the follower's tick of arrival, pass, input values and signature. -/
structure LockFrame where
  tick : Nat
  pass : Nat
  vals : List Nat
  sig : Nat
  deriving DecidableEq, Repr

/-- A write of the gated keeper in its queue (R405): to memory or to a register, its address, data and width. -/
structure Queued where
  mem : Bool
  addr : Nat
  width : Nat
  data : Nat
  deriving DecidableEq, Repr

/-- A BUFFER request that a drain ring holds (R457, R462): ring, seq, tag, host address and bytes. -/
structure HostBuf where
  ring : Nat
  seq : Nat
  tag : Nat
  addr : Nat
  len : Nat
  deriving DecidableEq, Repr

/-- A row whose corrected errors are tracked (R498): its address and the tray times of the errors, newest first. -/
structure RowTrack where
  row : Nat
  stamps : List Nat
  deriving DecidableEq, Repr

/-- What the memory controller holds beside its registers (R496-R506). -/
structure MemUnit where
  /-- Addresses of 8-byte words that hold a correctable error. -/
  ce : List Nat := []
  tracks : List RowTrack := []
  /-- Rows whose repair is due, and rows being copied with the tray time the copy began. -/
  due : List Nat := []
  copies : List (Nat × Nat) := []
  /-- The row maps of repairs made in service: row address and spare row, at most 256; in the island. -/
  maps : List (Nat × Nat) := []
  /-- Uncorrectable words found in LPDDR5X: channel and tray time, newest first (R506). -/
  lpUe : List (Nat × Nat) := []
  deriving DecidableEq, Repr

/-- What PMC holds beside its registers (R517-R523): events since they were last added to the counters, by event number times
16 plus instance; Firn records accepted and lost as last counted, by class; and the bytes of the present bandwidth window, by
twice the port, plus 1 for writes. -/
structure PmcUnit where
  evts : SMap Nat := []
  seqSeen : SMap Nat := []
  lostSeen : SMap Nat := []
  bw : SMap Nat := []
  deriving DecidableEq, Repr

/-- An IOBIND item (R243). -/
structure Binding where
  num : Nat
  cls : Nat
  kind : Nat
  idx : Nat
  field : Nat
  cell : Nat
  deriving DecidableEq, Repr

/-- What the fabric holds beside its registers (R217-R239). -/
structure Fab where
  /-- Value of each cell at the end of the previous pass; after a commit, its initial value. -/
  prev : SMap Int := []
  /-- State words of each cell that keeps state, at most four. -/
  words : SMap (List Int) := []
  /-- Early and asynchronous bindings as latched at the boundary, by binding number. -/
  latched : SMap Int := []
  /-- The bindings of the standard group, as latched. -/
  groupIn : List (Binding × Int) := []
  /-- Output bindings' last published values, by binding number. -/
  outs : SMap Int := []
  /-- Inputs and parameters that each cell of R542's kinds was last issued with; empty before the first pass of an image. -/
  issued : SMap (List Int) := []
  /-- Replay: offset of the next record. Lockstep: bytes received, passes to run, and the last signatures by pass. -/
  replayAt : Nat := 0
  lockBytes : List Nat := []
  lockFrames : List LockFrame := []
  lockSigs : List (Nat × Nat) := []
  deriving DecidableEq, Repr

end Sys2Proof.Machine
end

