-- ==== Sys2Proof/Machine/Firn.lean ====
section
/-! DEFINITION. The Firn writer (R61-R69): what happens to a record between the unit that raises it and the staging area. -/

namespace Sys2Proof.Machine

/-- Records the start-up buffer holds (R62). -/
def startupRoom : Nat := 1024

/-- Records the staging area holds (R72). -/
def areaRoom : Nat := 262144

/-- Records the management port queues (R66). -/
def mgmtRoom : Nat := 256

/-- Management-port records accepted per control tick (R66). -/
def mgmtSlots : Nat := 8

/-- The default class of a record type; a type no table names has none (R64). -/
def defaultClass? (t : Nat) : Option Nat := (typeClasses.find? (fun e => e.1 == t)).map (·.2)

/-- A type's class after the image's moves, which only strengthen (R64). -/
def Firn.raised (f : Firn) (t c : Nat) : Nat :=
  if t < 0x10 then c
  else f.moves.foldl (fun a e => if e.1 = t then min a e.2 else a) c

/-- The retention class of a record (R64, R589): that of a fabric record (R243 class 0x47) whose type no table names is 1 (DESIGN CHOICE,
log 168). -/
def Firn.classOf (f : Firn) (r : Rec) : Nat :=
  match defaultClass? r.typ with
  | some c => f.raised r.typ c
  | none => f.raised r.typ (r.cls.getD 1)

/-- The src word comes from the fixed region (R23, R63): classes 0x1 to 0xA. -/
def fixedSource (src : Nat) : Bool := decide (0x1000 ≤ src) && decide (src < 0xB000)

/-- Slots per control tick of the fixed region (R66). -/
def fixedSlots : Nat := 64

/-- Slots that the fixed region has used in this control tick. -/
def Firn.usedFixed (f : Firn) : Nat := (f.used.filter (fun e => fixedSource e.1)).foldl (fun a e => a + e.2) 0

/-- Slots per control tick that a source may use (R66, R249): as many as the committed image gives it. Before an image allocates them, any
source takes a slot while one of the 64 is left (DESIGN CHOICE, log 43). Other units have no slots. -/
def Firn.slotsOf (f : Firn) (src : Nat) : Option Nat :=
  if !fixedSource src then none
  else if f.slots.isEmpty then some (tableGet 0 f.used src + (fixedSlots - f.usedFixed))
  else some ((f.slots.filter (· == src)).length)

/-- A record of a class is lost (R69): counted in JRN_LOST and noted for a LOSS record; class 3 is not counted. -/
def Firn.lose (f : Firn) (c cause seq n : Nat) : Firn :=
  if 3 ≤ c then f
  else
    let lost := tablePut 0 f.lost c ((tableGet 0 f.lost c + n) % 2 ^ 32)
    let old := f.lossNotes.find? (fun e => e.1 == c && e.2.cause == cause)
    let note : LossNote := match old with
      | some (_, x) => { x with count := x.count + n }
      | none => ⟨n, cause, seq⟩
    { f with lost := lost, lostEver := tablePut 0 f.lostEver c (tableGet 0 f.lostEver c + n), lossNotes := f.lossNotes.filter (fun e => !(e.1 == c && e.2.cause == cause)) ++ [(c, note)] }

/-- seq of an unknown record (R65). -/
def seqUnknown : Nat := 0xFFFF_FFFF_FFFF_FFFF

/-- The writer accepts a record (R62, R69): it takes the next seq and class_seq and goes to the staging area, unless the
area's fill costs it its place. -/
def Firn.accept (f : Firn) (now : Nat) (r : Rec) : Firn :=
  let c := f.classOf r
  let cs := tableGet 0 f.clsSeq c
  let f1 := { f with seq := f.seq + 1, clsSeq := tablePut 0 f.clsSeq c ((cs + 1) % 2 ^ 32), stageHi := f.stageHi || decide (3 * areaRoom ≤ 4 * f.area.length) }
  if areaRoom ≤ f.area.length || (decide (3 * areaRoom ≤ 4 * f.area.length) && decide (2 ≤ c)) then
    f1.lose c 2 f.seq 1
  else
    let w : StagedRec := ⟨f.seq, cs, c, false, r.stamp.getD now, r⟩
    { f1 with area := f.area ++ [w] }

/-- A record may trigger a capture by its type in the tick in which it is raised (R73, R74). -/
def Firn.seen (f : Firn) (r : Rec) : Firn := { f with tickTypes := f.tickTypes ++ [r.typ] }

/-- The writer accepts a record that no unit raised: an OVERRUN, its own FIRN_START, or one of the management port's queue (R62, R66). -/
def Firn.acceptNew (f : Firn) (now : Nat) (r : Rec) : Firn := (f.seen r).accept now r

/-- A unit raises a record at tray time `now` (R62, R66): before FIRN_START it waits in the start-up buffer; a source of
the fixed region with no slot left has it counted for OVERRUN. -/
def Firn.raise (f : Firn) (now : Nat) (r : Rec) : Firn :=
  let f := { f.seen r with tripAt := if r.typ = Ty.PROTECT_TRIP && f.tripAt = 0 then now + 1 else f.tripAt }
  if !f.started then
    if (f.startup.filter (fun x => !x.port)).length < startupRoom then { f with startup := f.startup ++ [{ r with stamp := some (r.stamp.getD now) }] }
    else f.lose (f.classOf r) 2 seqUnknown 1
  else
    let u := tableGet 0 f.used r.src
    match f.slotsOf r.src with
    | none => f.accept now r
    | some n =>
      if u < n then { f.accept now r with used := tablePut 0 f.used r.src (u + 1) }
      else { f with missed := tablePut 0 f.missed r.src (tableGet 0 f.missed r.src + 1) }

/-- The OVERRUN record of a source (R65, R66): `tick` is the control tick in which it is written (DESIGN CHOICE, log 169). -/
def overrunRec (src count tick : Nat) : Rec :=
  { typ := Ty.OVERRUN, src := src, pay := [(24, 2, src), (28, 4, count), (32, 8, tick)] }

/-- A source with records left over writes one OVERRUN in its next free slot (R66). -/
def Firn.payOverrun (f : Firn) (now src : Nat) : Firn :=
  let n := tableGet 0 f.missed src
  let u := tableGet 0 f.used src
  if n = 0 then f
  else match f.slotsOf src with
    | some m =>
      if u < m then
        { f.acceptNew now (overrunRec src n (now / 4000)) with
          used := tablePut 0 f.used src (u + 1), missed := tableErase f.missed src, overrun := true }
      else f
    | none => { f.acceptNew now (overrunRec src n (now / 4000)) with missed := tableErase f.missed src, overrun := true }

/-- A control tick begins (R66): every source has its slots again, sources that overran write their OVERRUN first, and up to
eight waiting records of the management port are accepted. -/
def Firn.newTick (f : Firn) (now : Nat) : Firn :=
  let f0 := { f with used := [] }
  if !f.started then f0
  else
    let f1 := (f.missed.map (·.1)).foldl (fun g src => g.payOverrun now src) f0
    let f2 := (f1.mgmt.take mgmtSlots).foldl (fun g r => g.acceptNew now r) f1
    { f2 with mgmt := f1.mgmt.drop mgmtSlots }

/-- Records that the management port's queue holds. -/
def Firn.queued (f : Firn) : Nat := f.mgmt.length + (f.startup.filter (·.port)).length

/-- A record enters the management port's queue; before FIRN_START it waits there among the others, in the order raised (R62, R66). -/
def Firn.enqueue (f : Firn) (r : Rec) : Firn :=
  if f.started then { f with mgmt := f.mgmt ++ [r] } else { f with startup := f.startup ++ [{ r with port := true }] }

/-- The writer's FIRN_START, then every waiting record in the order raised (R62). -/
def Firn.start (f : Firn) (now : Nat) (r : Rec) : Firn :=
  let f0 := { f with started := true, startup := [] }
  let f1 := f0.acceptNew now r
  f.startup.foldl (fun g x => if x.port then g.acceptNew now x else g.accept now x) f1

/-- A record as 64 bytes (R61). -/
def StagedRec.toBytes (w : StagedRec) : List Nat :=
  let flags := w.cls * 64 + w.body.orderSrc % 8 * 8 + ofBool w.body.variableMark * 4 + ofBool w.spill * 2 + ofBool w.body.cont
  let head := leBytes 8 w.stamp ++ leBytes 8 w.seq ++ leBytes 4 w.clsSeq ++ leBytes 2 w.body.src ++ [w.body.typ % 256, flags % 256]
  let payload := w.body.pay.foldl
    (fun (bs : List Nat) (e : Nat × Nat × Nat) =>
      (leBytes e.2.1 e.2.2).zipIdx.foldl (fun (b : List Nat) x => b.set (e.1 + x.2 - 24) x.1) bs)
    (List.replicate 40 0)
  head ++ payload

end Sys2Proof.Machine
end

