-- ==== Sys2Proof/Machine/RegsControl.lean ====
section
/-! DEFINITION. The register fields of the caps, the predictor, the fabric and the huddle (05-08), one name per field as the register tables of spec/ give them
(address, least significant bit, width, reset value), and per register the access type of every field. -/

namespace Sys2Proof.Machine

def CAP_CTL.hint_en : Fld := ⟨0x400000, 3, 1, 1⟩
def CAP_CTL.age_en : Fld := ⟨0x400000, 2, 1, 0⟩
def CAP_CTL.cap_en : Fld := ⟨0x400000, 1, 1, 1⟩
def CAP_CTL.env_en : Fld := ⟨0x400000, 0, 1, 0⟩
/-- CAP_CTL (R187). -/
def CAP_CTL.desc : RegDesc := ⟨0x400000, false, [], fun _ => [(.koRwt, CAP_CTL.hint_en), (.koRwt, CAP_CTL.age_en), (.koRwt, CAP_CTL.cap_en), (.koRwt, CAP_CTL.env_en)]⟩
def CAP_EVT.order : Fld := ⟨0x400004, 6, 1, 0⟩
def CAP_EVT.bal_short : Fld := ⟨0x400004, 5, 1, 0⟩
def CAP_EVT.env_over : Fld := ⟨0x400004, 4, 1, 0⟩
def CAP_EVT.cap_act : Fld := ⟨0x400004, 3, 1, 0⟩
def CAP_EVT.escal : Fld := ⟨0x400004, 2, 1, 0⟩
def CAP_EVT.age : Fld := ⟨0x400004, 1, 1, 0⟩
def CAP_EVT.ceil : Fld := ⟨0x400004, 0, 1, 0⟩
/-- CAP_EVT (R187). -/
def CAP_EVT.desc : RegDesc := ⟨0x400004, false, [], fun _ => [(.w1c, CAP_EVT.order), (.w1c, CAP_EVT.bal_short), (.w1c, CAP_EVT.env_over), (.w1c, CAP_EVT.cap_act), (.w1c, CAP_EVT.escal), (.w1c, CAP_EVT.age), (.w1c, CAP_EVT.ceil)]⟩
def CAP_EVTEN.en : Fld := ⟨0x400008, 0, 7, 0⟩
/-- CAP_EVTEN (R187). -/
def CAP_EVTEN.desc : RegDesc := ⟨0x400008, false, [], fun _ => [(.rw, CAP_EVTEN.en)]⟩
def CAP_PIN.p : Fld := ⟨0x400010, 0, 32, 0⟩
/-- CAP_PIN (R187). -/
def CAP_PIN.desc : RegDesc := ⟨0x400010, false, [], fun _ => [(.ro, CAP_PIN.p)]⟩
def CAP_ENVA.a : Fld := ⟨0x400014, 0, 32, 0⟩
/-- CAP_ENVA (R187). -/
def CAP_ENVA.desc : RegDesc := ⟨0x400014, false, [], fun _ => [(.ro, CAP_ENVA.a)]⟩
def CAP_ENVBAL.b : Fld := ⟨0x400018, 16, 16, 0⟩
def CAP_ENVBAL.short : Fld := ⟨0x400018, 0, 16, 0⟩
/-- CAP_ENVBAL (R187). -/
def CAP_ENVBAL.desc : RegDesc := ⟨0x400018, false, [], fun _ => [(.ro, CAP_ENVBAL.b), (.ro, CAP_ENVBAL.short)]⟩
def CAP_ENVQ.q_env : Fld := ⟨0x40001c, 24, 8, 0⟩
def CAP_ENVQ.h : Fld := ⟨0x40001c, 0, 24, 0⟩
/-- CAP_ENVQ (R187). -/
def CAP_ENVQ.desc : RegDesc := ⟨0x40001c, false, [], fun _ => [(.ro, CAP_ENVQ.q_env), (.ro, CAP_ENVQ.h)]⟩
def CAP_ENVCFG.band : Fld := ⟨0x400020, 16, 16, 0xc8⟩
def CAP_ENVCFG.gb : Fld := ⟨0x400020, 8, 8, 0x40⟩
def CAP_ENVCFG.qmax : Fld := ⟨0x400020, 0, 8, 0x40⟩
/-- CAP_ENVCFG (R187). -/
def CAP_ENVCFG.desc : RegDesc := ⟨0x400020, false, [], fun _ => [(.rws, CAP_ENVCFG.band), (.rws, CAP_ENVCFG.gb), (.koRwt, CAP_ENVCFG.qmax)]⟩
def CAP_ENVETA.eta : Fld := ⟨0x400024, 0, 8, 0xe6⟩
/-- CAP_ENVETA (R187). -/
def CAP_ENVETA.desc : RegDesc := ⟨0x400024, false, [], fun _ => [(.koRwt, CAP_ENVETA.eta)]⟩
def CAP_CAPCFG.margin : Fld := ⟨0x400028, 24, 8, 8⟩
def CAP_CAPCFG.hys : Fld := ⟨0x400028, 16, 8, 8⟩
def CAP_CAPCFG.dwell : Fld := ⟨0x400028, 0, 16, 0xc8⟩
/-- CAP_CAPCFG (R187). -/
def CAP_CAPCFG.desc : RegDesc := ⟨0x400028, false, [], fun _ => [(.koRwt, CAP_CAPCFG.margin), (.koRwt, CAP_CAPCFG.hys), (.koRwt, CAP_CAPCFG.dwell)]⟩
def CAP_TRAYAVG.p : Fld := ⟨0x400030, 0, 32, 0⟩
/-- CAP_TRAYAVG (R187). -/
def CAP_TRAYAVG.desc : RegDesc := ⟨0x400030, false, [], fun _ => [(.ro, CAP_TRAYAVG.p)]⟩
def CAP_TRAYFREQ.ceil : Fld := ⟨0x400034, 24, 8, 0xff⟩
def CAP_TRAYFREQ.idx_cap : Fld := ⟨0x400034, 16, 8, 0xff⟩
/-- CAP_TRAYFREQ (R187). -/
def CAP_TRAYFREQ.desc : RegDesc := ⟨0x400034, false, [], fun _ => [(.ro, CAP_TRAYFREQ.ceil), (.ro, CAP_TRAYFREQ.idx_cap)]⟩
def CAP_LORDA.target : Fld := ⟨0x400040, 28, 4, 0⟩
def CAP_LORDA.scope : Fld := ⟨0x400040, 24, 4, 0⟩
def CAP_LORDA.window : Fld := ⟨0x400040, 16, 6, 0⟩
def CAP_LORDA.release : Fld := ⟨0x400040, 0, 1, 0⟩
/-- CAP_LORDA (R187). -/
def CAP_LORDA.desc : RegDesc := ⟨0x400040, false, [], fun _ => [(.rws, CAP_LORDA.target), (.rws, CAP_LORDA.scope), (.rws, CAP_LORDA.window), (.rws, CAP_LORDA.release)]⟩
def CAP_LORDB.value : Fld := ⟨0x400044, 0, 24, 0⟩
/-- CAP_LORDB (R187). -/
def CAP_LORDB.desc : RegDesc := ⟨0x400044, false, [], fun _ => [(.rws, CAP_LORDB.value)]⟩
def CAP_SCFG.q_dmax (n : Nat) : Fld := ⟨(0x401000 + 0x100 * n), 24, 8, 0xc0⟩
def CAP_SCFG.q_bridge (n : Nat) : Fld := ⟨(0x401000 + 0x100 * n), 16, 8, 8⟩
def CAP_SCFG.q_brk (n : Nat) : Fld := ⟨(0x401000 + 0x100 * n), 8, 8, 0x20⟩
def CAP_SCFG.ramp_cfg (n : Nat) : Fld := ⟨(0x401000 + 0x100 * n), 0, 8, 0x10⟩
/-- CAP_SCFG (R188). -/
def CAP_SCFG.desc : RegDesc := ⟨0x401000, false, [(8, 0x100)], fun | [n] => [(.koRwt, CAP_SCFG.q_dmax n), (.koRwt, CAP_SCFG.q_bridge n), (.koRwt, CAP_SCFG.q_brk n), (.koRws, CAP_SCFG.ramp_cfg n)] | _ => []⟩
def CAP_DROOP.kq (n : Nat) : Fld := ⟨(0x401004 + 0x100 * n), 24, 8, 0x40⟩
def CAP_DROOP.dead (n : Nat) : Fld := ⟨(0x401004 + 0x100 * n), 16, 8, 0x64⟩
def CAP_DROOP.decay (n : Nat) : Fld := ⟨(0x401004 + 0x100 * n), 8, 8, 0x10⟩
def CAP_DROOP.droop_en (n : Nat) : Fld := ⟨(0x401004 + 0x100 * n), 0, 1, 1⟩
/-- CAP_DROOP (R188). -/
def CAP_DROOP.desc : RegDesc := ⟨0x401004, false, [(8, 0x100)], fun | [n] => [(.rws, CAP_DROOP.kq n), (.rws, CAP_DROOP.dead n), (.rws, CAP_DROOP.decay n), (.koRwt, CAP_DROOP.droop_en n)] | _ => []⟩
def CAP_CEILCFG.p_short (n : Nat) : Fld := ⟨(0x401008 + 0x100 * n), 16, 16, 0x960⟩
def CAP_CEILCFG.q_up (n : Nat) : Fld := ⟨(0x401008 + 0x100 * n), 8, 8, 2⟩
def CAP_CEILCFG.q_max (n : Nat) : Fld := ⟨(0x401008 + 0x100 * n), 0, 8, 0xc0⟩
/-- CAP_CEILCFG (R188). -/
def CAP_CEILCFG.desc : RegDesc := ⟨0x401008, false, [(8, 0x100)], fun | [n] => [(.koRwt, CAP_CEILCFG.p_short n), (.koRwt, CAP_CEILCFG.q_up n), (.koRwt, CAP_CEILCFG.q_max n)] | _ => []⟩
def CAP_WQ.wq (n : Nat) : Fld := ⟨(0x40100c + 0x100 * n), 0, 16, 0⟩
/-- CAP_WQ (R188). -/
def CAP_WQ.desc : RegDesc := ⟨0x40100c, false, [(8, 0x100)], fun | [n] => [(.koRwt, CAP_WQ.wq n)] | _ => []⟩
def CAP_HINT.pre_lead (n : Nat) : Fld := ⟨(0x401010 + 0x100 * n), 24, 8, 0x14⟩
def CAP_HINT.hold (n : Nat) : Fld := ⟨(0x401010 + 0x100 * n), 16, 8, 0x14⟩
def CAP_HINT.guard (n : Nat) : Fld := ⟨(0x401010 + 0x100 * n), 0, 16, 0⟩
/-- CAP_HINT (R188). -/
def CAP_HINT.desc : RegDesc := ⟨0x401010, false, [(8, 0x100)], fun | [n] => [(.koRwt, CAP_HINT.pre_lead n), (.koRwt, CAP_HINT.hold n), (.koRwt, CAP_HINT.guard n)] | _ => []⟩
def CAP_BRKESC.thr (n : Nat) : Fld := ⟨(0x401014 + 0x100 * n), 24, 8, 0x10⟩
def CAP_BRKESC.hold (n : Nat) : Fld := ⟨(0x401014 + 0x100 * n), 0, 16, 0x64⟩
/-- CAP_BRKESC (R188). -/
def CAP_BRKESC.desc : RegDesc := ⟨0x401014, false, [(8, 0x100)], fun | [n] => [(.koRwt, CAP_BRKESC.thr n), (.koRwt, CAP_BRKESC.hold n)] | _ => []⟩
def CAP_AGECFG.slack_lo (n : Nat) : Fld := ⟨(0x401018 + 0x100 * n), 24, 8, 0x14⟩
def CAP_AGECFG.slack_hi (n : Nat) : Fld := ⟨(0x401018 + 0x100 * n), 16, 8, 0x3c⟩
def CAP_AGECFG.step (n : Nat) : Fld := ⟨(0x401018 + 0x100 * n), 8, 8, 0x14⟩
def CAP_AGECFG.n_ok (n : Nat) : Fld := ⟨(0x401018 + 0x100 * n), 0, 8, 0x32⟩
/-- CAP_AGECFG (R188). -/
def CAP_AGECFG.desc : RegDesc := ⟨0x401018, false, [(8, 0x100)], fun | [n] => [(.koRwt, CAP_AGECFG.slack_lo n), (.koRwt, CAP_AGECFG.slack_hi n), (.koRwt, CAP_AGECFG.step n), (.koRwt, CAP_AGECFG.n_ok n)] | _ => []⟩
def CAP_AGELIM.trim_up_max (n : Nat) : Fld := ⟨(0x40101c + 0x100 * n), 16, 16, 0x12c⟩
def CAP_AGELIM.trim_dn_max (n : Nat) : Fld := ⟨(0x40101c + 0x100 * n), 0, 16, 0⟩
/-- CAP_AGELIM (R188). -/
def CAP_AGELIM.desc : RegDesc := ⟨0x40101c, false, [(8, 0x100)], fun | [n] => [(.koRwt, CAP_AGELIM.trim_up_max n), (.koRwt, CAP_AGELIM.trim_dn_max n)] | _ => []⟩
def CAP_AGEVM.vm_hi (n : Nat) : Fld := ⟨(0x401020 + 0x100 * n), 16, 16, 0x190⟩
def CAP_AGEVM.vm_lo (n : Nat) : Fld := ⟨(0x401020 + 0x100 * n), 0, 16, 0x96⟩
/-- CAP_AGEVM (R188). -/
def CAP_AGEVM.desc : RegDesc := ⟨0x401020, false, [(8, 0x100)], fun | [n] => [(.koRwt, CAP_AGEVM.vm_hi n), (.koRwt, CAP_AGEVM.vm_lo n)] | _ => []⟩
def CAP_QOUT.q_out (n : Nat) : Fld := ⟨(0x401030 + 0x100 * n), 24, 8, 0⟩
def CAP_QOUT.q_droop (n : Nat) : Fld := ⟨(0x401030 + 0x100 * n), 16, 8, 0⟩
def CAP_QOUT.q_ceil (n : Nat) : Fld := ⟨(0x401030 + 0x100 * n), 8, 8, 0⟩
def CAP_QOUT.q_bridge (n : Nat) : Fld := ⟨(0x401030 + 0x100 * n), 0, 8, 0⟩
/-- CAP_QOUT (R188). -/
def CAP_QOUT.desc : RegDesc := ⟨0x401030, false, [(8, 0x100)], fun | [n] => [(.ro, CAP_QOUT.q_out n), (.ro, CAP_QOUT.q_droop n), (.ro, CAP_QOUT.q_ceil n), (.ro, CAP_QOUT.q_bridge n)] | _ => []⟩
def CAP_ROUT.ramp_out (n : Nat) : Fld := ⟨(0x401034 + 0x100 * n), 24, 8, 0xff⟩
def CAP_ROUT.ramp_env (n : Nat) : Fld := ⟨(0x401034 + 0x100 * n), 16, 8, 0xff⟩
def CAP_ROUT.ramp_fc (n : Nat) : Fld := ⟨(0x401034 + 0x100 * n), 8, 8, 0xff⟩
def CAP_ROUT.ceil (n : Nat) : Fld := ⟨(0x401034 + 0x100 * n), 0, 8, 0xff⟩
/-- CAP_ROUT (R188). -/
def CAP_ROUT.desc : RegDesc := ⟨0x401034, false, [(8, 0x100)], fun | [n] => [(.ro, CAP_ROUT.ramp_out n), (.ro, CAP_ROUT.ramp_env n), (.ro, CAP_ROUT.ramp_fc n), (.ro, CAP_ROUT.ceil n)] | _ => []⟩
def CAP_FG.f (n : Nat) : Fld := ⟨(0x401038 + 0x100 * n), 24, 6, 0⟩
def CAP_FG.g (n : Nat) : Fld := ⟨(0x401038 + 0x100 * n), 0, 16, 0⟩
/-- CAP_FG (R188). -/
def CAP_FG.desc : RegDesc := ⟨0x401038, false, [(8, 0x100)], fun | [n] => [(.ro, CAP_FG.f n), (.ro, CAP_FG.g n)] | _ => []⟩
def CAP_FREQ.force (n : Nat) : Fld := ⟨(0x40103c + 0x100 * n), 24, 8, 0⟩
def CAP_FREQ.ceil (n : Nat) : Fld := ⟨(0x40103c + 0x100 * n), 16, 8, 0⟩
def CAP_FREQ.idx_cap (n : Nat) : Fld := ⟨(0x40103c + 0x100 * n), 8, 8, 0xff⟩
def CAP_FREQ.esc (n : Nat) : Fld := ⟨(0x40103c + 0x100 * n), 0, 8, 0xff⟩
/-- CAP_FREQ (R188). -/
def CAP_FREQ.desc : RegDesc := ⟨0x40103c, false, [(8, 0x100)], fun | [n] => [(.ro, CAP_FREQ.force n), (.ro, CAP_FREQ.ceil n), (.ro, CAP_FREQ.idx_cap n), (.ro, CAP_FREQ.esc n)] | _ => []⟩
def CAP_SP.p (n : Nat) : Fld := ⟨(0x401040 + 0x100 * n), 0, 32, 0⟩
/-- CAP_SP (R188). -/
def CAP_SP.desc : RegDesc := ⟨0x401040, false, [(8, 0x100)], fun | [n] => [(.ro, CAP_SP.p n)] | _ => []⟩
def CAP_S1MS.p (n : Nat) : Fld := ⟨(0x401044 + 0x100 * n), 0, 32, 0⟩
/-- CAP_S1MS (R188). -/
def CAP_S1MS.desc : RegDesc := ⟨0x401044, false, [(8, 0x100)], fun | [n] => [(.ro, CAP_S1MS.p n)] | _ => []⟩
def CAP_SAVG.p (n : Nat) : Fld := ⟨(0x401048 + 0x100 * n), 0, 32, 0⟩
/-- CAP_SAVG (R188). -/
def CAP_SAVG.desc : RegDesc := ⟨0x401048, false, [(8, 0x100)], fun | [n] => [(.ro, CAP_SAVG.p n)] | _ => []⟩
def CAP_BAL.elig (n : Nat) : Fld := ⟨(0x40104c + 0x100 * n), 31, 1, 0⟩
def CAP_BAL.active (n : Nat) : Fld := ⟨(0x40104c + 0x100 * n), 30, 1, 0⟩
def CAP_BAL.level (n : Nat) : Fld := ⟨(0x40104c + 0x100 * n), 0, 12, 0⟩
/-- CAP_BAL (R188). -/
def CAP_BAL.desc : RegDesc := ⟨0x40104c, false, [(8, 0x100)], fun | [n] => [(.ro, CAP_BAL.elig n), (.ro, CAP_BAL.active n), (.ro, CAP_BAL.level n)] | _ => []⟩
def CAP_AGE.trim (n : Nat) : Fld := ⟨(0x401050 + 0x100 * n), 0, 16, 0⟩
/-- CAP_AGE (R188). -/
def CAP_AGE.desc : RegDesc := ⟨0x401050, false, [(8, 0x100)], fun | [n] => [(.ro, CAP_AGE.trim n)] | _ => []⟩
def CAP_ESCCNT.count (n : Nat) : Fld := ⟨(0x401054 + 0x100 * n), 0, 32, 0⟩
/-- CAP_ESCCNT (R188). -/
def CAP_ESCCNT.desc : RegDesc := ⟨0x401054, false, [(8, 0x100)], fun | [n] => [(.rc, CAP_ESCCNT.count n)] | _ => []⟩
def CAP_ORD.valid (s t src : Nat) : Fld := ⟨(0x408000 + 0x100 * s + 0x10 * t + 0x4 * (src - 1)), 31, 1, 0⟩
def CAP_ORD.window (s t src : Nat) : Fld := ⟨(0x408000 + 0x100 * s + 0x10 * t + 0x4 * (src - 1)), 24, 6, 0⟩
def CAP_ORD.value (s t src : Nat) : Fld := ⟨(0x408000 + 0x100 * s + 0x10 * t + 0x4 * (src - 1)), 0, 24, 0⟩
/-- CAP_ORD (R190). -/
def CAP_ORD.desc : RegDesc := ⟨0x408000, false, [(9, 0x100), (9, 0x10), (4, 0x4)], fun | [s, t, src] => [(.ro, CAP_ORD.valid s t (src + 1)), (.ro, CAP_ORD.window s t (src + 1)), (.ro, CAP_ORD.value s t (src + 1))] | _ => []⟩
def CAP_INFORCE.src (s t : Nat) : Fld := ⟨(0x40a000 + 0x40 * s + 0x4 * t), 28, 4, 0⟩
def CAP_INFORCE.value (s t : Nat) : Fld := ⟨(0x40a000 + 0x40 * s + 0x4 * t), 0, 24, 0⟩
/-- CAP_INFORCE (R190). -/
def CAP_INFORCE.desc : RegDesc := ⟨0x40a000, false, [(9, 0x40), (9, 0x4)], fun | [s, t] => [(.ro, CAP_INFORCE.src s t), (.ro, CAP_INFORCE.value s t)] | _ => []⟩
def PRD_CTL.slot_en : Fld := ⟨0x500000, 0, 8, 0xff⟩
/-- PRD_CTL (R214). -/
def PRD_CTL.desc : RegDesc := ⟨0x500000, false, [], fun _ => [(.koRwt, PRD_CTL.slot_en)]⟩
def PRD_STAT.model : Fld := ⟨0x500004, 24, 8, 0⟩
def PRD_STAT.active : Fld := ⟨0x500004, 16, 8, 0⟩
def PRD_STAT.warming : Fld := ⟨0x500004, 8, 8, 0⟩
def PRD_STAT.suspended : Fld := ⟨0x500004, 0, 8, 0⟩
/-- PRD_STAT (R214). -/
def PRD_STAT.desc : RegDesc := ⟨0x500004, false, [], fun _ => [(.ro, PRD_STAT.model), (.ro, PRD_STAT.active), (.ro, PRD_STAT.warming), (.ro, PRD_STAT.suspended)]⟩
def PRD_EVT.fault : Fld := ⟨0x500008, 4, 1, 0⟩
def PRD_EVT.discont : Fld := ⟨0x500008, 3, 1, 0⟩
def PRD_EVT.suspend : Fld := ⟨0x500008, 2, 1, 0⟩
def PRD_EVT.state : Fld := ⟨0x500008, 1, 1, 0⟩
def PRD_EVT.wiped : Fld := ⟨0x500008, 0, 1, 0⟩
/-- PRD_EVT (R214). -/
def PRD_EVT.desc : RegDesc := ⟨0x500008, false, [], fun _ => [(.w1c, PRD_EVT.fault), (.w1c, PRD_EVT.discont), (.w1c, PRD_EVT.suspend), (.w1c, PRD_EVT.state), (.w1c, PRD_EVT.wiped)]⟩
def PRD_EVTEN.en : Fld := ⟨0x50000c, 0, 5, 0⟩
/-- PRD_EVTEN (R214). -/
def PRD_EVTEN.desc : RegDesc := ⟨0x50000c, false, [], fun _ => [(.rw, PRD_EVTEN.en)]⟩
def PRD_WIPE.busy : Fld := ⟨0x500010, 0, 1, 1⟩
/-- PRD_WIPE (R214). -/
def PRD_WIPE.desc : RegDesc := ⟨0x500010, false, [], fun _ => [(.ro, PRD_WIPE.busy)]⟩
def PRD_TUCYC.odd (u : Nat) : Fld := ⟨(0x500020 + 0x4 * u), 16, 16, 0⟩
def PRD_TUCYC.even (u : Nat) : Fld := ⟨(0x500020 + 0x4 * u), 0, 16, 0⟩
/-- PRD_TUCYC (R214). -/
def PRD_TUCYC.desc : RegDesc := ⟨0x500020, false, [(4, 0x4)], fun | [u] => [(.ro, PRD_TUCYC.odd u), (.ro, PRD_TUCYC.even u)] | _ => []⟩
def PRD_SSTAT.state (n : Nat) : Fld := ⟨(0x501000 + 0x100 * n), 29, 3, 0⟩
def PRD_SSTAT.model (n : Nat) : Fld := ⟨(0x501000 + 0x100 * n), 28, 1, 0⟩
def PRD_SSTAT.steps (n : Nat) : Fld := ⟨(0x501000 + 0x100 * n), 16, 8, 0⟩
def PRD_SSTAT.idx (n : Nat) : Fld := ⟨(0x501000 + 0x100 * n), 0, 13, 0⟩
/-- PRD_SSTAT (R215). -/
def PRD_SSTAT.desc : RegDesc := ⟨0x501000, false, [(8, 0x100)], fun | [n] => [(.ro, PRD_SSTAT.state n), (.ro, PRD_SSTAT.model n), (.ro, PRD_SSTAT.steps n), (.ro, PRD_SSTAT.idx n)] | _ => []⟩
def PRD_SCFG.h (n : Nat) : Fld := ⟨(0x501004 + 0x100 * n), 24, 8, 0⟩
def PRD_SCFG.j (n : Nat) : Fld := ⟨(0x501004 + 0x100 * n), 20, 4, 0⟩
def PRD_SCFG.warm (n : Nat) : Fld := ⟨(0x501004 + 0x100 * n), 8, 8, 4⟩
def PRD_SCFG.decim (n : Nat) : Fld := ⟨(0x501004 + 0x100 * n), 0, 2, 1⟩
/-- PRD_SCFG (R215). -/
def PRD_SCFG.desc : RegDesc := ⟨0x501004, false, [(8, 0x100)], fun | [n] => [(.ro, PRD_SCFG.h n), (.ro, PRD_SCFG.j n), (.koRwt, PRD_SCFG.warm n), (.ro, PRD_SCFG.decim n)] | _ => []⟩
def PRD_FCF.f_lead (n : Nat) : Fld := ⟨(0x501008 + 0x100 * n), 24, 8, 0x14⟩
def PRD_FCF.g_lead (n : Nat) : Fld := ⟨(0x501008 + 0x100 * n), 16, 8, 0x14⟩
def PRD_FCF.r_win (n : Nat) : Fld := ⟨(0x501008 + 0x100 * n), 8, 8, 0x28⟩
def PRD_FCF.r_floor (n : Nat) : Fld := ⟨(0x501008 + 0x100 * n), 0, 8, 8⟩
/-- PRD_FCF (R215). -/
def PRD_FCF.desc : RegDesc := ⟨0x501008, false, [(8, 0x100)], fun | [n] => [(.rws, PRD_FCF.f_lead n), (.rws, PRD_FCF.g_lead n), (.rws, PRD_FCF.r_win n), (.koRws, PRD_FCF.r_floor n)] | _ => []⟩
def PRD_FCG.g_max (n : Nat) : Fld := ⟨(0x50100c + 0x100 * n), 16, 16, 0x12c⟩
def PRD_FCG.g_k (n : Nat) : Fld := ⟨(0x50100c + 0x100 * n), 8, 8, 3⟩
def PRD_FCG.r_cut (n : Nat) : Fld := ⟨(0x50100c + 0x100 * n), 0, 8, 0xc⟩
/-- PRD_FCG (R215). -/
def PRD_FCG.desc : RegDesc := ⟨0x50100c, false, [(8, 0x100)], fun | [n] => [(.koRws, PRD_FCG.g_max n), (.rws, PRD_FCG.g_k n), (.rws, PRD_FCG.r_cut n)] | _ => []⟩
def PRD_FCS.g_dead (n : Nat) : Fld := ⟨(0x501010 + 0x100 * n), 16, 16, 0x640⟩
def PRD_FCS.slew_ok (n : Nat) : Fld := ⟨(0x501010 + 0x100 * n), 0, 16, 0x12c0⟩
/-- PRD_FCS (R215). -/
def PRD_FCS.desc : RegDesc := ⟨0x501010, false, [(8, 0x100)], fun | [n] => [(.rws, PRD_FCS.g_dead n), (.rws, PRD_FCS.slew_ok n)] | _ => []⟩
def PRD_ACC.chk_lead (n : Nat) : Fld := ⟨(0x501014 + 0x100 * n), 24, 8, 0xa⟩
def PRD_ACC.miss_max (n : Nat) : Fld := ⟨(0x501014 + 0x100 * n), 16, 8, 8⟩
def PRD_ACC.n_bad (n : Nat) : Fld := ⟨(0x501014 + 0x100 * n), 8, 8, 4⟩
def PRD_ACC.hold (n : Nat) : Fld := ⟨(0x501014 + 0x100 * n), 0, 8, 0xa⟩
/-- PRD_ACC (R215). -/
def PRD_ACC.desc : RegDesc := ⟨0x501014, false, [(8, 0x100)], fun | [n] => [(.rws, PRD_ACC.chk_lead n), (.rws, PRD_ACC.miss_max n), (.rws, PRD_ACC.n_bad n), (.rws, PRD_ACC.hold n)] | _ => []⟩
def PRD_ACCERR.err_max (n : Nat) : Fld := ⟨(0x501018 + 0x100 * n), 0, 16, 0xc80⟩
/-- PRD_ACCERR (R215). -/
def PRD_ACCERR.desc : RegDesc := ⟨0x501018, false, [(8, 0x100)], fun | [n] => [(.rws, PRD_ACCERR.err_max n)] | _ => []⟩
def PRD_OUT.f_fc (n : Nat) : Fld := ⟨(0x501020 + 0x100 * n), 24, 6, 0⟩
def PRD_OUT.ramp_fc (n : Nat) : Fld := ⟨(0x501020 + 0x100 * n), 16, 8, 0xff⟩
def PRD_OUT.g_fc (n : Nat) : Fld := ⟨(0x501020 + 0x100 * n), 0, 16, 0⟩
/-- PRD_OUT (R215). -/
def PRD_OUT.desc : RegDesc := ⟨0x501020, false, [(8, 0x100)], fun | [n] => [(.ro, PRD_OUT.f_fc n), (.ro, PRD_OUT.ramp_fc n), (.ro, PRD_OUT.g_fc n)] | _ => []⟩
def PRD_FC0.hi (n : Nat) : Fld := ⟨(0x501024 + 0x100 * n), 16, 16, 0⟩
def PRD_FC0.mid (n : Nat) : Fld := ⟨(0x501024 + 0x100 * n), 0, 16, 0⟩
/-- PRD_FC0 (R215). -/
def PRD_FC0.desc : RegDesc := ⟨0x501024, false, [(8, 0x100)], fun | [n] => [(.ro, PRD_FC0.hi n), (.ro, PRD_FC0.mid n)] | _ => []⟩
def PRD_FCPEAK.hi_max (n : Nat) : Fld := ⟨(0x501028 + 0x100 * n), 16, 16, 0⟩
def PRD_FCPEAK.h (n : Nat) : Fld := ⟨(0x501028 + 0x100 * n), 8, 8, 0⟩
/-- PRD_FCPEAK (R215). -/
def PRD_FCPEAK.desc : RegDesc := ⟨0x501028, false, [(8, 0x100)], fun | [n] => [(.ro, PRD_FCPEAK.hi_max n), (.ro, PRD_FCPEAK.h n)] | _ => []⟩
def PRD_ACCSTAT.misses (n : Nat) : Fld := ⟨(0x50102c + 0x100 * n), 16, 16, 0⟩
def PRD_ACCSTAT.mae (n : Nat) : Fld := ⟨(0x50102c + 0x100 * n), 0, 16, 0⟩
/-- PRD_ACCSTAT (R215). -/
def PRD_ACCSTAT.desc : RegDesc := ⟨0x50102c, false, [(8, 0x100)], fun | [n] => [(.ro, PRD_ACCSTAT.misses n), (.ro, PRD_ACCSTAT.mae n)] | _ => []⟩
def PRD_SATCNT.count (n : Nat) : Fld := ⟨(0x501030 + 0x100 * n), 0, 32, 0⟩
/-- PRD_SATCNT (R215). -/
def PRD_SATCNT.desc : RegDesc := ⟨0x501030, false, [(8, 0x100)], fun | [n] => [(.rc, PRD_SATCNT.count n)] | _ => []⟩
def PRD_HMISS.count (n : Nat) : Fld := ⟨(0x501034 + 0x100 * n), 0, 32, 0⟩
/-- PRD_HMISS (R215). -/
def PRD_HMISS.desc : RegDesc := ⟨0x501034, false, [(8, 0x100)], fun | [n] => [(.rc, PRD_HMISS.count n)] | _ => []⟩
def PRD_STEP.step (n : Nat) : Fld := ⟨(0x501038 + 0x100 * n), 0, 64, 0⟩
/-- PRD_STEP (R215). -/
def PRD_STEP.desc : RegDesc := ⟨0x501038, true, [(8, 0x100)], fun | [n] => [(.ro, PRD_STEP.step n)] | _ => []⟩
def PRD_WRITTEN.count (n : Nat) : Fld := ⟨(0x501040 + 0x100 * n), 0, 64, 0⟩
/-- PRD_WRITTEN (R215). -/
def PRD_WRITTEN.desc : RegDesc := ⟨0x501040, true, [(8, 0x100)], fun | [n] => [(.ro, PRD_WRITTEN.count n)] | _ => []⟩
def PRD_MACS.macs (n : Nat) : Fld := ⟨(0x501048 + 0x100 * n), 0, 32, 0⟩
/-- PRD_MACS (R215). -/
def PRD_MACS.desc : RegDesc := ⟨0x501048, false, [(8, 0x100)], fun | [n] => [(.ro, PRD_MACS.macs n)] | _ => []⟩
def PRD_WBYTES.bytes (n : Nat) : Fld := ⟨(0x50104c + 0x100 * n), 0, 32, 0⟩
/-- PRD_WBYTES (R215). -/
def PRD_WBYTES.desc : RegDesc := ⟨0x50104c, false, [(8, 0x100)], fun | [n] => [(.ro, PRD_WBYTES.bytes n)] | _ => []⟩
def PRD_FCVEC.hi (n h : Nat) : Fld := ⟨(0x508000 + 0x400 * n + 0x4 * h), 16, 16, 0⟩
def PRD_FCVEC.mid (n h : Nat) : Fld := ⟨(0x508000 + 0x400 * n + 0x4 * h), 0, 16, 0⟩
/-- PRD_FCVEC (R216). -/
def PRD_FCVEC.desc : RegDesc := ⟨0x508000, false, [(8, 0x400), (200, 0x4)], fun | [n, h] => [(.ro, PRD_FCVEC.hi n h), (.ro, PRD_FCVEC.mid n h)] | _ => []⟩
def FAB_STAT.committed : Fld := ⟨0x600000, 31, 1, 0⟩
def FAB_STAT.bank : Fld := ⟨0x600000, 30, 1, 0⟩
def FAB_STAT.load : Fld := ⟨0x600000, 28, 2, 0⟩
def FAB_STAT.std : Fld := ⟨0x600000, 24, 4, 1⟩
def FAB_STAT.cells : Fld := ⟨0x600000, 0, 12, 0⟩
/-- FAB_STAT (R264). -/
def FAB_STAT.desc : RegDesc := ⟨0x600000, false, [], fun _ => [(.ro, FAB_STAT.committed), (.ro, FAB_STAT.bank), (.ro, FAB_STAT.load), (.ro, FAB_STAT.std), (.ro, FAB_STAT.cells)]⟩
def FAB_EVT.snap : Fld := ⟨0x600004, 5, 1, 0⟩
def FAB_EVT.param_rej : Fld := ⟨0x600004, 4, 1, 0⟩
def FAB_EVT.variance : Fld := ⟨0x600004, 3, 1, 0⟩
def FAB_EVT.commit : Fld := ⟨0x600004, 2, 1, 0⟩
def FAB_EVT.load_fail : Fld := ⟨0x600004, 1, 1, 0⟩
def FAB_EVT.load_ok : Fld := ⟨0x600004, 0, 1, 0⟩
/-- FAB_EVT (R264). -/
def FAB_EVT.desc : RegDesc := ⟨0x600004, false, [], fun _ => [(.w1c, FAB_EVT.snap), (.w1c, FAB_EVT.param_rej), (.w1c, FAB_EVT.variance), (.w1c, FAB_EVT.commit), (.w1c, FAB_EVT.load_fail), (.w1c, FAB_EVT.load_ok)]⟩
def FAB_EVTEN.en : Fld := ⟨0x600008, 0, 6, 0⟩
/-- FAB_EVTEN (R264). -/
def FAB_EVTEN.desc : RegDesc := ⟨0x600008, false, [], fun _ => [(.rw, FAB_EVTEN.en)]⟩
def FAB_LOADERR.code : Fld := ⟨0x60000c, 24, 8, 0⟩
def FAB_LOADERR.item : Fld := ⟨0x60000c, 0, 24, 0⟩
/-- FAB_LOADERR (R264). -/
def FAB_LOADERR.desc : RegDesc := ⟨0x60000c, false, [], fun _ => [(.ro, FAB_LOADERR.code), (.ro, FAB_LOADERR.item)]⟩
def FAB_IMGVER.version : Fld := ⟨0x600010, 0, 32, 0⟩
/-- FAB_IMGVER (R264). -/
def FAB_IMGVER.desc : RegDesc := ⟨0x600010, false, [], fun _ => [(.ro, FAB_IMGVER.version)]⟩
def FAB_IMGSVN.svn : Fld := ⟨0x600014, 0, 32, 0⟩
/-- FAB_IMGSVN (R264). -/
def FAB_IMGSVN.desc : RegDesc := ⟨0x600014, false, [], fun _ => [(.ro, FAB_IMGSVN.svn)]⟩
def FAB_IMGDIG.dig (i : Nat) : Fld := ⟨(0x600020 + 0x4 * i), 0, 32, 0⟩
/-- FAB_IMGDIG (R264). -/
def FAB_IMGDIG.desc : RegDesc := ⟨0x600020, false, [(8, 0x4)], fun | [i] => [(.ro, FAB_IMGDIG.dig i)] | _ => []⟩
def FAB_LOADADDR.addr : Fld := ⟨0x600040, 0, 64, 0⟩
/-- FAB_LOADADDR (R264). -/
def FAB_LOADADDR.desc : RegDesc := ⟨0x600040, true, [], fun _ => [(.ko, FAB_LOADADDR.addr)]⟩
def FAB_LOADLEN.len : Fld := ⟨0x600048, 0, 32, 0⟩
/-- FAB_LOADLEN (R264). -/
def FAB_LOADLEN.desc : RegDesc := ⟨0x600048, false, [], fun _ => [(.ko, FAB_LOADLEN.len)]⟩
def FAB_LOADCTL.discard : Fld := ⟨0x60004c, 1, 1, 0⟩
def FAB_LOADCTL.load : Fld := ⟨0x60004c, 0, 1, 0⟩
/-- FAB_LOADCTL (R264). -/
def FAB_LOADCTL.desc : RegDesc := ⟨0x60004c, false, [], fun _ => [(.ko, FAB_LOADCTL.discard), (.ko, FAB_LOADCTL.load)]⟩
def FAB_COMMIT.live : Fld := ⟨0x600050, 1, 1, 0⟩
def FAB_COMMIT.go : Fld := ⟨0x600050, 0, 1, 0⟩
/-- FAB_COMMIT (R264). -/
def FAB_COMMIT.desc : RegDesc := ⟨0x600050, false, [], fun _ => [(.koRwt, FAB_COMMIT.live), (.koRwt, FAB_COMMIT.go)]⟩
def FAB_COMMITCFG.wait : Fld := ⟨0x600054, 0, 32, 0x2710⟩
/-- FAB_COMMITCFG (R264). -/
def FAB_COMMITCFG.desc : RegDesc := ⟨0x600054, false, [], fun _ => [(.ko, FAB_COMMITCFG.wait)]⟩
def FAB_PASS.pass : Fld := ⟨0x600058, 0, 64, 0⟩
/-- FAB_PASS (R264). -/
def FAB_PASS.desc : RegDesc := ⟨0x600058, true, [], fun _ => [(.ro, FAB_PASS.pass)]⟩
def FAB_SEED.seed : Fld := ⟨0x600060, 0, 64, 0⟩
/-- FAB_SEED (R264). -/
def FAB_SEED.desc : RegDesc := ⟨0x600060, true, [], fun _ => [(.koRwt, FAB_SEED.seed)]⟩
def FAB_VARCNT.count : Fld := ⟨0x600068, 0, 64, 0⟩
/-- FAB_VARCNT (R264). -/
def FAB_VARCNT.desc : RegDesc := ⟨0x600068, true, [], fun _ => [(.ro, FAB_VARCNT.count)]⟩
def FAB_VARLAST.cell : Fld := ⟨0x600070, 16, 12, 0⟩
def FAB_VARLAST.binding : Fld := ⟨0x600070, 0, 12, 0⟩
/-- FAB_VARLAST (R264). -/
def FAB_VARLAST.desc : RegDesc := ⟨0x600070, false, [], fun _ => [(.ro, FAB_VARLAST.cell), (.ro, FAB_VARLAST.binding)]⟩
def FAB_DSIG.sig : Fld := ⟨0x600078, 0, 64, 0⟩
/-- FAB_DSIG (R264). -/
def FAB_DSIG.desc : RegDesc := ⟨0x600078, true, [], fun _ => [(.ro, FAB_DSIG.sig)]⟩
def FAB_ISIG.sig : Fld := ⟨0x600080, 0, 64, 0⟩
/-- FAB_ISIG (R264). -/
def FAB_ISIG.desc : RegDesc := ⟨0x600080, true, [], fun _ => [(.ro, FAB_ISIG.sig)]⟩
def FAB_SNAPAT.pass : Fld := ⟨0x600088, 0, 64, 0⟩
/-- FAB_SNAPAT (R264). -/
def FAB_SNAPAT.desc : RegDesc := ⟨0x600088, true, [], fun _ => [(.rw, FAB_SNAPAT.pass)]⟩
def FAB_SNAPCTL.done : Fld := ⟨0x600090, 1, 1, 0⟩
def FAB_SNAPCTL.arm : Fld := ⟨0x600090, 0, 1, 0⟩
/-- FAB_SNAPCTL (R264). -/
def FAB_SNAPCTL.desc : RegDesc := ⟨0x600090, false, [], fun _ => [(.ro, FAB_SNAPCTL.done), (.rw, FAB_SNAPCTL.arm)]⟩
def FAB_SATCNT.count : Fld := ⟨0x600094, 0, 32, 0⟩
/-- FAB_SATCNT (R264). -/
def FAB_SATCNT.desc : RegDesc := ⟨0x600094, false, [], fun _ => [(.rc, FAB_SATCNT.count)]⟩
def FAB_PARAMREJ.count : Fld := ⟨0x600098, 0, 32, 0⟩
/-- FAB_PARAMREJ (R264). -/
def FAB_PARAMREJ.desc : RegDesc := ⟨0x600098, false, [], fun _ => [(.rc, FAB_PARAMREJ.count)]⟩
def FAB_ECCCNT.count : Fld := ⟨0x60009c, 0, 32, 0⟩
/-- FAB_ECCCNT (R264). -/
def FAB_ECCCNT.desc : RegDesc := ⟨0x60009c, false, [], fun _ => [(.rc, FAB_ECCCNT.count)]⟩
def FAB_TRACE.en (i : Nat) : Fld := ⟨(0x600100 + 0x4 * i), 31, 1, 0⟩
def FAB_TRACE.every (i : Nat) : Fld := ⟨(0x600100 + 0x4 * i), 30, 1, 0⟩
def FAB_TRACE.cell (i : Nat) : Fld := ⟨(0x600100 + 0x4 * i), 0, 12, 0⟩
/-- FAB_TRACE (R264). -/
def FAB_TRACE.desc : RegDesc := ⟨0x600100, false, [(16, 0x4)], fun | [i] => [(.rw, FAB_TRACE.en i), (.rw, FAB_TRACE.every i), (.rw, FAB_TRACE.cell i)] | _ => []⟩
def FAB_CELLVAL.value (c : Nat) : Fld := ⟨(0x602000 + 0x4 * c), 0, 32, 0⟩
/-- FAB_CELLVAL (R264). -/
def FAB_CELLVAL.desc : RegDesc := ⟨0x602000, false, [(4096, 0x4)], fun | [c] => [(.ro, FAB_CELLVAL.value c)] | _ => []⟩
def FAB_PARAM.value (p : Nat) : Fld := ⟨(0x608000 + 0x4 * p), 0, 32, 0⟩
/-- FAB_PARAM (R264). -/
def FAB_PARAM.desc : RegDesc := ⟨0x608000, false, [(1024, 0x4)], fun | [p] => [(.rws, FAB_PARAM.value p)] | _ => []⟩
def JOB_CTL.trig_send : Fld := ⟨0x800000, 5, 1, 0⟩
def JOB_CTL.depth : Fld := ⟨0x800000, 1, 4, 0⟩
def JOB_CTL.tree_root : Fld := ⟨0x800000, 0, 1, 0⟩
/-- JOB_CTL (R292). -/
def JOB_CTL.desc : RegDesc := ⟨0x800000, false, [], fun _ => [(.koRwt, JOB_CTL.trig_send), (.koRwt, JOB_CTL.depth), (.koRwt, JOB_CTL.tree_root)]⟩
def JOB_STAT.settled : Fld := ⟨0x800004, 31, 1, 0⟩
def JOB_STAT.hold : Fld := ⟨0x800004, 16, 8, 0⟩
def JOB_STAT.armed : Fld := ⟨0x800004, 8, 8, 0⟩
def JOB_STAT.valid : Fld := ⟨0x800004, 0, 8, 0⟩
/-- JOB_STAT (R292). -/
def JOB_STAT.desc : RegDesc := ⟨0x800004, false, [], fun _ => [(.ro, JOB_STAT.settled), (.ro, JOB_STAT.hold), (.ro, JOB_STAT.armed), (.ro, JOB_STAT.valid)]⟩
def JOB_EVT.lost : Fld := ⟨0x800008, 9, 1, 0⟩
def JOB_EVT.tip_late : Fld := ⟨0x800008, 8, 1, 0⟩
def JOB_EVT.lockstep : Fld := ⟨0x800008, 7, 1, 0⟩
def JOB_EVT.replay : Fld := ⟨0x800008, 6, 1, 0⟩
def JOB_EVT.hop : Fld := ⟨0x800008, 5, 1, 0⟩
def JOB_EVT.trig : Fld := ⟨0x800008, 4, 1, 0⟩
def JOB_EVT.member : Fld := ⟨0x800008, 3, 1, 0⟩
def JOB_EVT.tipoff : Fld := ⟨0x800008, 2, 1, 0⟩
def JOB_EVT.hold : Fld := ⟨0x800008, 1, 1, 0⟩
def JOB_EVT.lane : Fld := ⟨0x800008, 0, 1, 0⟩
/-- JOB_EVT (R292). -/
def JOB_EVT.desc : RegDesc := ⟨0x800008, false, [], fun _ => [(.w1c, JOB_EVT.lost), (.w1c, JOB_EVT.tip_late), (.w1c, JOB_EVT.lockstep), (.w1c, JOB_EVT.replay), (.w1c, JOB_EVT.hop), (.w1c, JOB_EVT.trig), (.w1c, JOB_EVT.member), (.w1c, JOB_EVT.tipoff), (.w1c, JOB_EVT.hold), (.w1c, JOB_EVT.lane)]⟩
def JOB_EVTEN.en : Fld := ⟨0x80000c, 0, 10, 0⟩
/-- JOB_EVTEN (R292). -/
def JOB_EVTEN.desc : RegDesc := ⟨0x80000c, false, [], fun _ => [(.rw, JOB_EVTEN.en)]⟩
def JOB_HOP.t_hop : Fld := ⟨0x800010, 0, 16, 0x5dc⟩
/-- JOB_HOP (R292). -/
def JOB_HOP.desc : RegDesc := ⟨0x800010, false, [], fun _ => [(.koRwt, JOB_HOP.t_hop)]⟩
def JOB_LCFG.role (m : Nat) : Fld := ⟨(0x800100 + 0x20 * m), 30, 2, (laneRole0 m)⟩
def JOB_LCFG.spare_for (m : Nat) : Fld := ⟨(0x800100 + 0x20 * m), 27, 3, 0⟩
def JOB_LCFG.force (m : Nat) : Fld := ⟨(0x800100 + 0x20 * m), 26, 1, 0⟩
def JOB_LCFG.en (m : Nat) : Fld := ⟨(0x800100 + 0x20 * m), 25, 1, 0⟩
def JOB_LCFG.rate_max (m : Nat) : Fld := ⟨(0x800100 + 0x20 * m), 16, 2, 0⟩
def JOB_LCFG.asym (m : Nat) : Fld := ⟨(0x800100 + 0x20 * m), 0, 16, 0⟩
/-- JOB_LCFG (R293). -/
def JOB_LCFG.desc : RegDesc := ⟨0x800100, false, [(5, 0x20)], fun | [m] => [(.koRwt, JOB_LCFG.role m), (.koRwt, JOB_LCFG.spare_for m), (.koRwt, JOB_LCFG.force m), (.koRwt, JOB_LCFG.en m), (.koRwt, JOB_LCFG.rate_max m), (.koRwt, JOB_LCFG.asym m)] | _ => []⟩
def JOB_LSTAT.state (m : Nat) : Fld := ⟨(0x800104 + 0x20 * m), 29, 3, 0⟩
def JOB_LSTAT.rate (m : Nat) : Fld := ⟨(0x800104 + 0x20 * m), 27, 2, 0⟩
def JOB_LSTAT.on_spare (m : Nat) : Fld := ⟨(0x800104 + 0x20 * m), 26, 1, 0⟩
/-- JOB_LSTAT (R293). -/
def JOB_LSTAT.desc : RegDesc := ⟨0x800104, false, [(5, 0x20)], fun | [m] => [(.ro, JOB_LSTAT.state m), (.ro, JOB_LSTAT.rate m), (.ro, JOB_LSTAT.on_spare m)] | _ => []⟩
def JOB_LRTT.rtt (m : Nat) : Fld := ⟨(0x800108 + 0x20 * m), 0, 32, 0⟩
/-- JOB_LRTT (R293). -/
def JOB_LRTT.desc : RegDesc := ⟨0x800108, false, [(5, 0x20)], fun | [m] => [(.ro, JOB_LRTT.rtt m)] | _ => []⟩
def JOB_LDELAY.delay (m : Nat) : Fld := ⟨(0x80010c + 0x20 * m), 0, 32, 0⟩
/-- JOB_LDELAY (R293). -/
def JOB_LDELAY.desc : RegDesc := ⟨0x80010c, false, [(5, 0x20)], fun | [m] => [(.ro, JOB_LDELAY.delay m)] | _ => []⟩
def JOB_LFEC.count (m : Nat) : Fld := ⟨(0x800110 + 0x20 * m), 0, 32, 0⟩
/-- JOB_LFEC (R293). -/
def JOB_LFEC.desc : RegDesc := ⟨0x800110, false, [(5, 0x20)], fun | [m] => [(.rc, JOB_LFEC.count m)] | _ => []⟩
def JOB_JCFG.valid (j : Nat) : Fld := ⟨(0x801000 + 0x100 * j), 31, 1, 0⟩
def JOB_JCFG.root (j : Nat) : Fld := ⟨(0x801000 + 0x100 * j), 30, 1, 0⟩
def JOB_JCFG.d (j : Nat) : Fld := ⟨(0x801000 + 0x100 * j), 26, 4, 0⟩
def JOB_JCFG.parent (j : Nat) : Fld := ⟨(0x801000 + 0x100 * j), 23, 3, 7⟩
def JOB_JCFG.children (j : Nat) : Fld := ⟨(0x801000 + 0x100 * j), 18, 5, 0⟩
def JOB_JCFG.slots (j : Nat) : Fld := ⟨(0x801000 + 0x100 * j), 10, 8, 0⟩
/-- JOB_JCFG (R294). -/
def JOB_JCFG.desc : RegDesc := ⟨0x801000, false, [(8, 0x100)], fun | [j] => [(.rwt, JOB_JCFG.valid j), (.rwt, JOB_JCFG.root j), (.rwt, JOB_JCFG.d j), (.rwt, JOB_JCFG.parent j), (.rwt, JOB_JCFG.children j), (.rwt, JOB_JCFG.slots j)] | _ => []⟩
def JOB_JKEY.miss_limit (j : Nat) : Fld := ⟨(0x801004 + 0x100 * j), 24, 8, 0x64⟩
def JOB_JKEY.init_ (j : Nat) : Fld := ⟨(0x801004 + 0x100 * j), 16, 8, 0⟩
def JOB_JKEY.key_ (j : Nat) : Fld := ⟨(0x801004 + 0x100 * j), 0, 16, 0⟩
/-- JOB_JKEY (R294). -/
def JOB_JKEY.desc : RegDesc := ⟨0x801004, false, [(8, 0x100)], fun | [j] => [(.rwt, JOB_JKEY.miss_limit j), (.rwt, JOB_JKEY.init_ j), (.rwt, JOB_JKEY.key_ j)] | _ => []⟩
def JOB_JTAG.tag (j : Nat) : Fld := ⟨(0x801008 + 0x100 * j), 0, 64, 0⟩
/-- JOB_JTAG (R294). -/
def JOB_JTAG.desc : RegDesc := ⟨0x801008, true, [(8, 0x100)], fun | [j] => [(.rwt, JOB_JTAG.tag j)] | _ => []⟩
def JOB_JSUB.sub (j : Nat) : Fld := ⟨(0x801010 + 0x100 * j), 0, 13, 0⟩
/-- JOB_JSUB (R294). -/
def JOB_JSUB.desc : RegDesc := ⟨0x801010, false, [(8, 0x100)], fun | [j] => [(.rwt, JOB_JSUB.sub j)] | _ => []⟩
def JOB_JTOT.acc (j : Nat) : Fld := ⟨(0x801014 + 0x100 * j), 16, 16, 0⟩
def JOB_JTOT.trays (j : Nat) : Fld := ⟨(0x801014 + 0x100 * j), 0, 13, 0⟩
/-- JOB_JTOT (R294). -/
def JOB_JTOT.desc : RegDesc := ⟨0x801014, false, [(8, 0x100)], fun | [j] => [(.rwt, JOB_JTOT.acc j), (.rwt, JOB_JTOT.trays j)] | _ => []⟩
def JOB_JENV.up (j : Nat) : Fld := ⟨(0x801018 + 0x100 * j), 16, 16, 0xffff⟩
def JOB_JENV.down (j : Nat) : Fld := ⟨(0x801018 + 0x100 * j), 0, 16, 0xffff⟩
/-- JOB_JENV (R294). -/
def JOB_JENV.desc : RegDesc := ⟨0x801018, false, [(8, 0x100)], fun | [j] => [(.rwt, JOB_JENV.up j), (.rwt, JOB_JENV.down j)] | _ => []⟩
def JOB_JTIPCTL.lead (j : Nat) : Fld := ⟨(0x80101c + 0x100 * j), 8, 8, 0x32⟩
def JOB_JTIPCTL.arm (j : Nat) : Fld := ⟨(0x80101c + 0x100 * j), 0, 1, 0⟩
/-- JOB_JTIPCTL (R294). -/
def JOB_JTIPCTL.desc : RegDesc := ⟨0x80101c, false, [(8, 0x100)], fun | [j] => [(.rwt, JOB_JTIPCTL.lead j), (.rws, JOB_JTIPCTL.arm j)] | _ => []⟩
def JOB_JTIPBAR.barrier (j : Nat) : Fld := ⟨(0x801020 + 0x100 * j), 0, 32, 0⟩
/-- JOB_JTIPBAR (R294). -/
def JOB_JTIPBAR.desc : RegDesc := ⟨0x801020, false, [(8, 0x100)], fun | [j] => [(.rws, JOB_JTIPBAR.barrier j)] | _ => []⟩
def JOB_JRES.index (j : Nat) : Fld := ⟨(0x801024 + 0x100 * j), 24, 8, 0⟩
def JOB_JRES.class_ (j : Nat) : Fld := ⟨(0x801024 + 0x100 * j), 16, 8, 0⟩
def JOB_JRES.decision (j : Nat) : Fld := ⟨(0x801024 + 0x100 * j), 15, 1, 0⟩
def JOB_JRES.detached (j : Nat) : Fld := ⟨(0x801024 + 0x100 * j), 14, 1, 0⟩
def JOB_JRES.offer (j : Nat) : Fld := ⟨(0x801024 + 0x100 * j), 0, 8, 0xff⟩
/-- JOB_JRES (R294). -/
def JOB_JRES.desc : RegDesc := ⟨0x801024, false, [(8, 0x100)], fun | [j] => [(.ro, JOB_JRES.index j), (.ro, JOB_JRES.class_ j), (.ro, JOB_JRES.decision j), (.ro, JOB_JRES.detached j), (.ro, JOB_JRES.offer j)] | _ => []⟩
def JOB_JEPOCH.epoch (j : Nat) : Fld := ⟨(0x801028 + 0x100 * j), 0, 64, 0⟩
/-- JOB_JEPOCH (R294). -/
def JOB_JEPOCH.desc : RegDesc := ⟨0x801028, true, [(8, 0x100)], fun | [j] => [(.ro, JOB_JEPOCH.epoch j)] | _ => []⟩
def JOB_JTIPT.t (j : Nat) : Fld := ⟨(0x801030 + 0x100 * j), 0, 64, 0⟩
/-- JOB_JTIPT (R294). -/
def JOB_JTIPT.desc : RegDesc := ⟨0x801030, true, [(8, 0x100)], fun | [j] => [(.ro, JOB_JTIPT.t j)] | _ => []⟩
def JOB_JSHARE.up (j : Nat) : Fld := ⟨(0x801038 + 0x100 * j), 16, 16, 0⟩
def JOB_JSHARE.down (j : Nat) : Fld := ⟨(0x801038 + 0x100 * j), 0, 16, 0⟩
/-- JOB_JSHARE (R294). -/
def JOB_JSHARE.desc : RegDesc := ⟨0x801038, false, [(8, 0x100)], fun | [j] => [(.ro, JOB_JSHARE.up j), (.ro, JOB_JSHARE.down j)] | _ => []⟩
def JOB_JHOLDS.count (j : Nat) : Fld := ⟨(0x80103c + 0x100 * j), 0, 32, 0⟩
/-- JOB_JHOLDS (R294). -/
def JOB_JHOLDS.desc : RegDesc := ⟨0x80103c, false, [(8, 0x100)], fun | [j] => [(.rc, JOB_JHOLDS.count j)] | _ => []⟩
def JOB_JMISS.count (j : Nat) : Fld := ⟨(0x801040 + 0x100 * j), 0, 32, 0⟩
/-- JOB_JMISS (R294). -/
def JOB_JMISS.desc : RegDesc := ⟨0x801040, false, [(8, 0x100)], fun | [j] => [(.rc, JOB_JMISS.count j)] | _ => []⟩
def JOB_JEXCL.trays (j : Nat) : Fld := ⟨(0x801044 + 0x100 * j), 0, 13, 0⟩
/-- JOB_JEXCL (R294). -/
def JOB_JEXCL.desc : RegDesc := ⟨0x801044, false, [(8, 0x100)], fun | [j] => [(.ro, JOB_JEXCL.trays j)] | _ => []⟩
def JOB_RPCTL.start : Fld := ⟨0x802000, 0, 1, 0⟩
/-- JOB_RPCTL (R295). -/
def JOB_RPCTL.desc : RegDesc := ⟨0x802000, false, [], fun _ => [(.koRwt, JOB_RPCTL.start)]⟩
def JOB_RPADDR.addr : Fld := ⟨0x802008, 0, 64, 0⟩
/-- JOB_RPADDR (R295). -/
def JOB_RPADDR.desc : RegDesc := ⟨0x802008, true, [], fun _ => [(.koRwt, JOB_RPADDR.addr)]⟩
def JOB_RPLEN.len : Fld := ⟨0x802010, 0, 64, 0⟩
/-- JOB_RPLEN (R295). -/
def JOB_RPLEN.desc : RegDesc := ⟨0x802010, true, [], fun _ => [(.koRwt, JOB_RPLEN.len)]⟩
def JOB_RPSTAT.state : Fld := ⟨0x802018, 30, 2, 0⟩
def JOB_RPSTAT.result : Fld := ⟨0x802018, 28, 2, 0⟩
/-- JOB_RPSTAT (R295). -/
def JOB_RPSTAT.desc : RegDesc := ⟨0x802018, false, [], fun _ => [(.ro, JOB_RPSTAT.state), (.ro, JOB_RPSTAT.result)]⟩
def JOB_RPFIRST.pass : Fld := ⟨0x802020, 0, 64, 0⟩
/-- JOB_RPFIRST (R295). -/
def JOB_RPFIRST.desc : RegDesc := ⟨0x802020, true, [], fun _ => [(.ro, JOB_RPFIRST.pass)]⟩
def JOB_LSCTL.lane : Fld := ⟨0x802030, 1, 3, 0⟩
def JOB_LSCTL.role : Fld := ⟨0x802030, 0, 1, 0⟩
/-- JOB_LSCTL (R295). -/
def JOB_LSCTL.desc : RegDesc := ⟨0x802030, false, [], fun _ => [(.koRwt, JOB_LSCTL.lane), (.koRwt, JOB_LSCTL.role)]⟩
def JOB_LSSTAT.state : Fld := ⟨0x802034, 30, 2, 0⟩
/-- JOB_LSSTAT (R295). -/
def JOB_LSSTAT.desc : RegDesc := ⟨0x802034, false, [], fun _ => [(.ro, JOB_LSSTAT.state)]⟩
def JOB_LSEN.en : Fld := ⟨0x802038, 0, 1, 0⟩
/-- JOB_LSEN (R295). -/
def JOB_LSEN.desc : RegDesc := ⟨0x802038, false, [], fun _ => [(.koRwt, JOB_LSEN.en)]⟩
def JOB_LSFIRST.pass : Fld := ⟨0x802040, 0, 64, 0⟩
/-- JOB_LSFIRST (R295). -/
def JOB_LSFIRST.desc : RegDesc := ⟨0x802040, true, [], fun _ => [(.ro, JOB_LSFIRST.pass)]⟩
def CAP_VTAB.hi (n m : Nat) : Fld := ⟨(0x404000 + 0x200 * n + 0x4 * m), 16, 16, 0⟩
def CAP_VTAB.lo (n m : Nat) : Fld := ⟨(0x404000 + 0x200 * n + 0x4 * m), 0, 16, 0⟩
/-- CAP_VTAB (R189). -/
def CAP_VTAB.desc : RegDesc := ⟨0x404000, false, [(8, 0x200), (128, 0x4)], fun | [n, m] => [(.koRwt, CAP_VTAB.hi n m), (.koRwt, CAP_VTAB.lo n m)] | _ => []⟩
/-- The registers of block CAP. -/
def descsCAP : List RegDesc :=
  [CAP_CTL.desc, CAP_EVT.desc, CAP_EVTEN.desc, CAP_PIN.desc, CAP_ENVA.desc, CAP_ENVBAL.desc, CAP_ENVQ.desc, CAP_ENVCFG.desc, CAP_ENVETA.desc, CAP_CAPCFG.desc, CAP_TRAYAVG.desc, CAP_TRAYFREQ.desc, CAP_LORDA.desc, CAP_LORDB.desc, CAP_SCFG.desc, CAP_DROOP.desc, CAP_CEILCFG.desc, CAP_WQ.desc, CAP_HINT.desc, CAP_BRKESC.desc, CAP_AGECFG.desc, CAP_AGELIM.desc, CAP_AGEVM.desc, CAP_QOUT.desc, CAP_ROUT.desc, CAP_FG.desc, CAP_FREQ.desc, CAP_SP.desc, CAP_S1MS.desc, CAP_SAVG.desc, CAP_BAL.desc, CAP_AGE.desc, CAP_ESCCNT.desc, CAP_ORD.desc, CAP_INFORCE.desc, CAP_VTAB.desc]
/-- The registers of block PRD. -/
def descsPRD : List RegDesc :=
  [PRD_CTL.desc, PRD_STAT.desc, PRD_EVT.desc, PRD_EVTEN.desc, PRD_WIPE.desc, PRD_TUCYC.desc, PRD_SSTAT.desc, PRD_SCFG.desc, PRD_FCF.desc, PRD_FCG.desc, PRD_FCS.desc, PRD_ACC.desc, PRD_ACCERR.desc, PRD_OUT.desc, PRD_FC0.desc, PRD_FCPEAK.desc, PRD_ACCSTAT.desc, PRD_SATCNT.desc, PRD_HMISS.desc, PRD_STEP.desc, PRD_WRITTEN.desc, PRD_MACS.desc, PRD_WBYTES.desc, PRD_FCVEC.desc]
/-- The registers of block FAB. -/
def descsFAB : List RegDesc :=
  [FAB_STAT.desc, FAB_EVT.desc, FAB_EVTEN.desc, FAB_LOADERR.desc, FAB_IMGVER.desc, FAB_IMGSVN.desc, FAB_IMGDIG.desc, FAB_LOADADDR.desc, FAB_LOADLEN.desc, FAB_LOADCTL.desc, FAB_COMMIT.desc, FAB_COMMITCFG.desc, FAB_PASS.desc, FAB_SEED.desc, FAB_VARCNT.desc, FAB_VARLAST.desc, FAB_DSIG.desc, FAB_ISIG.desc, FAB_SNAPAT.desc, FAB_SNAPCTL.desc, FAB_SATCNT.desc, FAB_PARAMREJ.desc, FAB_ECCCNT.desc, FAB_TRACE.desc, FAB_CELLVAL.desc, FAB_PARAM.desc]
/-- The registers of block JOB. -/
def descsJOB : List RegDesc :=
  [JOB_CTL.desc, JOB_STAT.desc, JOB_EVT.desc, JOB_EVTEN.desc, JOB_HOP.desc, JOB_LCFG.desc, JOB_LSTAT.desc, JOB_LRTT.desc, JOB_LDELAY.desc, JOB_LFEC.desc, JOB_JCFG.desc, JOB_JKEY.desc, JOB_JTAG.desc, JOB_JSUB.desc, JOB_JTOT.desc, JOB_JENV.desc, JOB_JTIPCTL.desc, JOB_JTIPBAR.desc, JOB_JRES.desc, JOB_JEPOCH.desc, JOB_JTIPT.desc, JOB_JSHARE.desc, JOB_JHOLDS.desc, JOB_JMISS.desc, JOB_JEXCL.desc, JOB_RPCTL.desc, JOB_RPADDR.desc, JOB_RPLEN.desc, JOB_RPSTAT.desc, JOB_RPFIRST.desc, JOB_LSCTL.desc, JOB_LSSTAT.desc, JOB_LSEN.desc, JOB_LSFIRST.desc]

end Sys2Proof.Machine
end

