-- ==== Sys2Proof/Machine/RegsPhase.lean ====
section
/-! DEFINITION. The register fields of the phase tiles and the Swija endpoints (03, 04), one name per field as the register tables of spec/ give them
(address, least significant bit, width, reset value), and per register the access type of every field. -/

namespace Sys2Proof.Machine

def PHT_ID.tile (k : Nat) : Fld := ⟨(0x200000 + 0x40000 * k), 0, 2, (k)⟩
/-- PHT_ID (R122). -/
def PHT_ID.desc : RegDesc := ⟨0x200000, false, [(4, 0x40000)], fun | [k] => [(.ro, PHT_ID.tile k)] | _ => []⟩
def PHT_SYNCCFG.src (k : Nat) : Fld := ⟨(0x200004 + 0x40000 * k), 16, 1, 0⟩
def PHT_SYNCCFG.fsw (k : Nat) : Fld := ⟨(0x200004 + 0x40000 * k), 0, 11, 0x3e8⟩
/-- PHT_SYNCCFG (R122). -/
def PHT_SYNCCFG.desc : RegDesc := ⟨0x200004, false, [(4, 0x40000)], fun | [k] => [(.koRwt, PHT_SYNCCFG.src k), (.koRwt, PHT_SYNCCFG.fsw k)] | _ => []⟩
def PHT_SYNCSTAT.lock (k : Nat) : Fld := ⟨(0x200008 + 0x40000 * k), 31, 1, 0⟩
def PHT_SYNCSTAT.holdover (k : Nat) : Fld := ⟨(0x200008 + 0x40000 * k), 30, 1, 0⟩
def PHT_SYNCSTAT.period (k : Nat) : Fld := ⟨(0x200008 + 0x40000 * k), 0, 21, 0⟩
/-- PHT_SYNCSTAT (R122). -/
def PHT_SYNCSTAT.desc : RegDesc := ⟨0x200008, false, [(4, 0x40000)], fun | [k] => [(.ro, PHT_SYNCSTAT.lock k), (.ro, PHT_SYNCSTAT.holdover k), (.ro, PHT_SYNCSTAT.period k)] | _ => []⟩
def PHT_EVT.sync (k : Nat) : Fld := ⟨(0x200010 + 0x40000 * k), 6, 1, 0⟩
def PHT_EVT.bench_empty (k : Nat) : Fld := ⟨(0x200010 + 0x40000 * k), 5, 1, 0⟩
def PHT_EVT.sense (k : Nat) : Fld := ⟨(0x200010 + 0x40000 * k), 4, 1, 0⟩
def PHT_EVT.trip (k : Nat) : Fld := ⟨(0x200010 + 0x40000 * k), 3, 1, 0⟩
def PHT_EVT.swap (k : Nat) : Fld := ⟨(0x200010 + 0x40000 * k), 2, 1, 0⟩
def PHT_EVT.fail (k : Nat) : Fld := ⟨(0x200010 + 0x40000 * k), 1, 1, 0⟩
def PHT_EVT.brake (k : Nat) : Fld := ⟨(0x200010 + 0x40000 * k), 0, 1, 0⟩
/-- PHT_EVT (R122). -/
def PHT_EVT.desc : RegDesc := ⟨0x200010, false, [(4, 0x40000)], fun | [k] => [(.w1c, PHT_EVT.sync k), (.w1c, PHT_EVT.bench_empty k), (.w1c, PHT_EVT.sense k), (.w1c, PHT_EVT.trip k), (.w1c, PHT_EVT.swap k), (.w1c, PHT_EVT.fail k), (.w1c, PHT_EVT.brake k)] | _ => []⟩
def PHT_EVTEN.en (k : Nat) : Fld := ⟨(0x200014 + 0x40000 * k), 0, 7, 0⟩
/-- PHT_EVTEN (R122). -/
def PHT_EVTEN.desc : RegDesc := ⟨0x200014, false, [(4, 0x40000)], fun | [k] => [(.rw, PHT_EVTEN.en k)] | _ => []⟩
def PHT_FAILMAP.map (k m : Nat) : Fld := ⟨(0x200020 + 0x40000 * k + 0x4 * m), 0, 32, 0⟩
/-- PHT_FAILMAP (R122). -/
def PHT_FAILMAP.desc : RegDesc := ⟨0x200020, false, [(4, 0x40000), (3, 0x4)], fun | [k, m] => [(.ro, PHT_FAILMAP.map k m)] | _ => []⟩
def PHT_RETCLR.channel (k : Nat) : Fld := ⟨(0x200030 + 0x40000 * k), 0, 7, 0⟩
/-- PHT_RETCLR (R122). -/
def PHT_RETCLR.desc : RegDesc := ⟨0x200030, false, [(4, 0x40000)], fun | [k] => [(.koRwt, PHT_RETCLR.channel k)] | _ => []⟩
def PHT_RAILCFG.nfloor (k j : Nat) : Fld := ⟨(0x201000 + 0x40000 * k + 0x100 * j), 16, 6, 0⟩
def PHT_RAILCFG.lead (k j : Nat) : Fld := ⟨(0x201000 + 0x40000 * k + 0x100 * j), 15, 1, 0⟩
def PHT_RAILCFG.brake_en (k j : Nat) : Fld := ⟨(0x201000 + 0x40000 * k + 0x100 * j), 14, 1, 0⟩
def PHT_RAILCFG.nwork (k j : Nat) : Fld := ⟨(0x201000 + 0x40000 * k + 0x100 * j), 8, 6, 0⟩
def PHT_RAILCFG.rail (k j : Nat) : Fld := ⟨(0x201000 + 0x40000 * k + 0x100 * j), 0, 5, (phtRailNumber k j)⟩
/-- PHT_RAILCFG (R123). -/
def PHT_RAILCFG.desc : RegDesc := ⟨0x201000, false, [(4, 0x40000), (5, 0x100)], fun | [k, j] => [(.koRwt, PHT_RAILCFG.nfloor k j), (.ro, PHT_RAILCFG.lead k j), (.koRwt, PHT_RAILCFG.brake_en k j), (.ro, PHT_RAILCFG.nwork k j), (.ro, PHT_RAILCFG.rail k j)] | _ => []⟩
def PHT_VSET.slew (k j : Nat) : Fld := ⟨(0x201004 + 0x40000 * k + 0x100 * j), 16, 16, 0⟩
def PHT_VSET.vset (k j : Nat) : Fld := ⟨(0x201004 + 0x40000 * k + 0x100 * j), 0, 16, 0⟩
/-- PHT_VSET (R123). -/
def PHT_VSET.desc : RegDesc := ⟨0x201004, false, [(4, 0x40000), (5, 0x100)], fun | [k, j] => [(.koRws, PHT_VSET.slew k j), (.koRws, PHT_VSET.vset k j)] | _ => []⟩
def PHT_VLIM.vmax (k j : Nat) : Fld := ⟨(0x201008 + 0x40000 * k + 0x100 * j), 16, 16, 0⟩
def PHT_VLIM.vmin (k j : Nat) : Fld := ⟨(0x201008 + 0x40000 * k + 0x100 * j), 0, 16, 0⟩
/-- PHT_VLIM (R123). -/
def PHT_VLIM.desc : RegDesc := ⟨0x201008, false, [(4, 0x40000), (5, 0x100)], fun | [k, j] => [(.koRwt, PHT_VLIM.vmax k j), (.koRwt, PHT_VLIM.vmin k j)] | _ => []⟩
def PHT_LOOPA.kp (k j : Nat) : Fld := ⟨(0x20100c + 0x40000 * k + 0x100 * j), 16, 16, 0⟩
def PHT_LOOPA.ki (k j : Nat) : Fld := ⟨(0x20100c + 0x40000 * k + 0x100 * j), 0, 16, 0⟩
/-- PHT_LOOPA (R123). -/
def PHT_LOOPA.desc : RegDesc := ⟨0x20100c, false, [(4, 0x40000), (5, 0x100)], fun | [k, j] => [(.rws, PHT_LOOPA.kp k j), (.rws, PHT_LOOPA.ki k j)] | _ => []⟩
def PHT_LOOPB.kd (k j : Nat) : Fld := ⟨(0x201010 + 0x40000 * k + 0x100 * j), 0, 16, 0⟩
/-- PHT_LOOPB (R123). -/
def PHT_LOOPB.desc : RegDesc := ⟨0x201010, false, [(4, 0x40000), (5, 0x100)], fun | [k, j] => [(.rws, PHT_LOOPB.kd k j)] | _ => []⟩
def PHT_LL.slope (k j : Nat) : Fld := ⟨(0x201014 + 0x40000 * k + 0x100 * j), 0, 16, 0⟩
/-- PHT_LL (R123). -/
def PHT_LL.desc : RegDesc := ⟨0x201014, false, [(4, 0x40000), (5, 0x100)], fun | [k, j] => [(.rws, PHT_LL.slope k j)] | _ => []⟩
def PHT_ADDDROP.dwell (k j : Nat) : Fld := ⟨(0x201018 + 0x40000 * k + 0x100 * j), 24, 8, 0x10⟩
def PHT_ADDDROP.add_thr (k j : Nat) : Fld := ⟨(0x201018 + 0x40000 * k + 0x100 * j), 12, 12, 0x3c0⟩
def PHT_ADDDROP.drop_thr (k j : Nat) : Fld := ⟨(0x201018 + 0x40000 * k + 0x100 * j), 0, 12, 0x280⟩
/-- PHT_ADDDROP (R123). -/
def PHT_ADDDROP.desc : RegDesc := ⟨0x201018, false, [(4, 0x40000), (5, 0x100)], fun | [k, j] => [(.rws, PHT_ADDDROP.dwell k j), (.rws, PHT_ADDDROP.add_thr k j), (.rws, PHT_ADDDROP.drop_thr k j)] | _ => []⟩
def PHT_PHFLOOR.nmin (k j : Nat) : Fld := ⟨(0x20101c + 0x40000 * k + 0x100 * j), 0, 6, 1⟩
/-- PHT_PHFLOOR (R123). -/
def PHT_PHFLOOR.desc : RegDesc := ⟨0x20101c, false, [(4, 0x40000), (5, 0x100)], fun | [k, j] => [(.rws, PHT_PHFLOOR.nmin k j)] | _ => []⟩
def PHT_RAILLIM.cmd_max (k j : Nat) : Fld := ⟨(0x201020 + 0x40000 * k + 0x100 * j), 16, 10, 0⟩
def PHT_RAILLIM.oc_trip (k j : Nat) : Fld := ⟨(0x201020 + 0x40000 * k + 0x100 * j), 0, 10, 0⟩
/-- PHT_RAILLIM (R123). -/
def PHT_RAILLIM.desc : RegDesc := ⟨0x201020, false, [(4, 0x40000), (5, 0x100)], fun | [k, j] => [(.koRwt, PHT_RAILLIM.cmd_max k j), (.koRwt, PHT_RAILLIM.oc_trip k j)] | _ => []⟩
def PHT_PROT.ov (k j : Nat) : Fld := ⟨(0x201024 + 0x40000 * k + 0x100 * j), 24, 8, 0⟩
def PHT_PROT.brake (k j : Nat) : Fld := ⟨(0x201024 + 0x40000 * k + 0x100 * j), 16, 8, 0⟩
def PHT_PROT.brake_hys (k j : Nat) : Fld := ⟨(0x201024 + 0x40000 * k + 0x100 * j), 8, 8, 0⟩
def PHT_PROT.uv_fault (k j : Nat) : Fld := ⟨(0x201024 + 0x40000 * k + 0x100 * j), 0, 8, 0⟩
/-- PHT_PROT (R123). -/
def PHT_PROT.desc : RegDesc := ⟨0x201024, false, [(4, 0x40000), (5, 0x100)], fun | [k, j] => [(.koRwt, PHT_PROT.ov k j), (.koRwt, PHT_PROT.brake k j), (.koRwt, PHT_PROT.brake_hys k j), (.koRwt, PHT_PROT.uv_fault k j)] | _ => []⟩
def PHT_SS.rate (k j : Nat) : Fld := ⟨(0x201028 + 0x40000 * k + 0x100 * j), 16, 16, 0⟩
def PHT_SS.timeout (k j : Nat) : Fld := ⟨(0x201028 + 0x40000 * k + 0x100 * j), 0, 16, 0⟩
/-- PHT_SS (R123). -/
def PHT_SS.desc : RegDesc := ⟨0x201028, false, [(4, 0x40000), (5, 0x100)], fun | [k, j] => [(.koRwt, PHT_SS.rate k j), (.koRwt, PHT_SS.timeout k j)] | _ => []⟩
def PHT_FOLD.pfold (k j : Nat) : Fld := ⟨(0x20102c + 0x40000 * k + 0x100 * j), 16, 16, 0⟩
def PHT_FOLD.vfloor (k j : Nat) : Fld := ⟨(0x20102c + 0x40000 * k + 0x100 * j), 8, 8, 0⟩
def PHT_FOLD.ftime (k j : Nat) : Fld := ⟨(0x20102c + 0x40000 * k + 0x100 * j), 0, 8, 0⟩
/-- PHT_FOLD (R123). -/
def PHT_FOLD.desc : RegDesc := ⟨0x20102c, false, [(4, 0x40000), (5, 0x100)], fun | [k, j] => [(.koRwt, PHT_FOLD.pfold k j), (.koRwt, PHT_FOLD.vfloor k j), (.koRwt, PHT_FOLD.ftime k j)] | _ => []⟩
def PHT_RSTAT.state (k j : Nat) : Fld := ⟨(0x201030 + 0x40000 * k + 0x100 * j), 29, 3, 0⟩
def PHT_RSTAT.climit (k j : Nat) : Fld := ⟨(0x201030 + 0x40000 * k + 0x100 * j), 28, 1, 0⟩
def PHT_RSTAT.brake (k j : Nat) : Fld := ⟨(0x201030 + 0x40000 * k + 0x100 * j), 27, 1, 0⟩
def PHT_RSTAT.alt (k j : Nat) : Fld := ⟨(0x201030 + 0x40000 * k + 0x100 * j), 26, 1, 0⟩
def PHT_RSTAT.bench_empty (k j : Nat) : Fld := ⟨(0x201030 + 0x40000 * k + 0x100 * j), 25, 1, 0⟩
def PHT_RSTAT.nact (k j : Nat) : Fld := ⟨(0x201030 + 0x40000 * k + 0x100 * j), 16, 6, 0⟩
def PHT_RSTAT.nbench (k j : Nat) : Fld := ⟨(0x201030 + 0x40000 * k + 0x100 * j), 8, 3, 0⟩
def PHT_RSTAT.cause (k j : Nat) : Fld := ⟨(0x201030 + 0x40000 * k + 0x100 * j), 0, 8, 0⟩
/-- PHT_RSTAT (R123). -/
def PHT_RSTAT.desc : RegDesc := ⟨0x201030, false, [(4, 0x40000), (5, 0x100)], fun | [k, j] => [(.ro, PHT_RSTAT.state k j), (.ro, PHT_RSTAT.climit k j), (.ro, PHT_RSTAT.brake k j), (.ro, PHT_RSTAT.alt k j), (.ro, PHT_RSTAT.bench_empty k j), (.ro, PHT_RSTAT.nact k j), (.ro, PHT_RSTAT.nbench k j), (.ro, PHT_RSTAT.cause k j)] | _ => []⟩
def PHT_RV.v (k j : Nat) : Fld := ⟨(0x201034 + 0x40000 * k + 0x100 * j), 0, 16, 0⟩
/-- PHT_RV (R123). -/
def PHT_RV.desc : RegDesc := ⟨0x201034, false, [(4, 0x40000), (5, 0x100)], fun | [k, j] => [(.ro, PHT_RV.v k j)] | _ => []⟩
def PHT_RI.i (k j : Nat) : Fld := ⟨(0x201038 + 0x40000 * k + 0x100 * j), 0, 32, 0⟩
/-- PHT_RI (R123). -/
def PHT_RI.desc : RegDesc := ⟨0x201038, false, [(4, 0x40000), (5, 0x100)], fun | [k, j] => [(.ro, PHT_RI.i k j)] | _ => []⟩
def PHT_RP.p (k j : Nat) : Fld := ⟨(0x20103c + 0x40000 * k + 0x100 * j), 0, 32, 0⟩
/-- PHT_RP (R123). -/
def PHT_RP.desc : RegDesc := ⟨0x20103c, false, [(4, 0x40000), (5, 0x100)], fun | [k, j] => [(.ro, PHT_RP.p k j)] | _ => []⟩
def PHT_RE.e (k j : Nat) : Fld := ⟨(0x201040 + 0x40000 * k + 0x100 * j), 0, 64, 0⟩
/-- PHT_RE (R123). -/
def PHT_RE.desc : RegDesc := ⟨0x201040, true, [(4, 0x40000), (5, 0x100)], fun | [k, j] => [(.ro, PHT_RE.e k j)] | _ => []⟩
def PHT_RCAP.c (k j : Nat) : Fld := ⟨(0x201048 + 0x40000 * k + 0x100 * j), 0, 32, 0⟩
/-- PHT_RCAP (R123). -/
def PHT_RCAP.desc : RegDesc := ⟨0x201048, false, [(4, 0x40000), (5, 0x100)], fun | [k, j] => [(.ro, PHT_RCAP.c k j)] | _ => []⟩
def PHT_RCEIL.i (k j : Nat) : Fld := ⟨(0x20104c + 0x40000 * k + 0x100 * j), 0, 32, 0xffffffff⟩
/-- PHT_RCEIL (R123). -/
def PHT_RCEIL.desc : RegDesc := ⟨0x20104c, false, [(4, 0x40000), (5, 0x100)], fun | [k, j] => [(.ro, PHT_RCEIL.i k j)] | _ => []⟩
def PHT_RATED.amps (k j : Nat) : Fld := ⟨(0x201050 + 0x40000 * k + 0x100 * j), 0, 16, 0⟩
/-- PHT_RATED (R123). -/
def PHT_RATED.desc : RegDesc := ⟨0x201050, false, [(4, 0x40000), (5, 0x100)], fun | [k, j] => [(.koRwt, PHT_RATED.amps k j)] | _ => []⟩
def PHT_CHCFG.role (k c : Nat) : Fld := ⟨(0x204000 + 0x40000 * k + 0x40 * c), 30, 2, 0⟩
def PHT_CHCFG.rail (k c : Nat) : Fld := ⟨(0x204000 + 0x40000 * k + 0x40 * c), 24, 3, 0⟩
def PHT_CHCFG.offset (k c : Nat) : Fld := ⟨(0x204000 + 0x40000 * k + 0x40 * c), 0, 10, 0⟩
/-- PHT_CHCFG (R124). -/
def PHT_CHCFG.desc : RegDesc := ⟨0x204000, false, [(4, 0x40000), (80, 0x40)], fun | [k, c] => [(.koRwt, PHT_CHCFG.role k c), (.koRwt, PHT_CHCFG.rail k c), (.ro, PHT_CHCFG.offset k c)] | _ => []⟩
def PHT_CHCOMP.slope_k (k c : Nat) : Fld := ⟨(0x204004 + 0x40000 * k + 0x40 * c), 8, 8, 0⟩
def PHT_CHCOMP.blank (k c : Nat) : Fld := ⟨(0x204004 + 0x40000 * k + 0x40 * c), 0, 4, 0⟩
/-- PHT_CHCOMP (R124). -/
def PHT_CHCOMP.desc : RegDesc := ⟨0x204004, false, [(4, 0x40000), (80, 0x40)], fun | [k, c] => [(.koRwt, PHT_CHCOMP.slope_k k c), (.koRwt, PHT_CHCOMP.blank k c)] | _ => []⟩
def PHT_CHTRIM.trim (k c : Nat) : Fld := ⟨(0x204008 + 0x40000 * k + 0x40 * c), 0, 8, 0⟩
/-- PHT_CHTRIM (R124). -/
def PHT_CHTRIM.desc : RegDesc := ⟨0x204008, false, [(4, 0x40000), (80, 0x40)], fun | [k, c] => [(.rws, PHT_CHTRIM.trim k c)] | _ => []⟩
def PHT_CHIMON.gain (k c : Nat) : Fld := ⟨(0x20400c + 0x40000 * k + 0x40 * c), 16, 16, 0x1f4⟩
def PHT_CHIMON.zero (k c : Nat) : Fld := ⟨(0x20400c + 0x40000 * k + 0x40 * c), 0, 16, 0x1770⟩
/-- PHT_CHIMON (R124). -/
def PHT_CHIMON.desc : RegDesc := ⟨0x20400c, false, [(4, 0x40000), (80, 0x40)], fun | [k, c] => [(.koRwt, PHT_CHIMON.gain k c), (.ro, PHT_CHIMON.zero k c)] | _ => []⟩
def PHT_CHL.l (k c : Nat) : Fld := ⟨(0x204010 + 0x40000 * k + 0x40 * c), 0, 16, 0⟩
/-- PHT_CHL (R124). -/
def PHT_CHL.desc : RegDesc := ⟨0x204010, false, [(4, 0x40000), (80, 0x40)], fun | [k, c] => [(.koRwt, PHT_CHL.l k c)] | _ => []⟩
def PHT_CHI.i (k c : Nat) : Fld := ⟨(0x204014 + 0x40000 * k + 0x40 * c), 0, 16, 0⟩
/-- PHT_CHI (R124). -/
def PHT_CHI.desc : RegDesc := ⟨0x204014, false, [(4, 0x40000), (80, 0x40)], fun | [k, c] => [(.ro, PHT_CHI.i k c)] | _ => []⟩
def PHT_CHSTAT.fails (k c : Nat) : Fld := ⟨(0x204018 + 0x40000 * k + 0x40 * c), 24, 8, 0⟩
def PHT_CHSTAT.cause (k c : Nat) : Fld := ⟨(0x204018 + 0x40000 * k + 0x40 * c), 20, 4, 0⟩
def PHT_CHSTAT.state (k c : Nat) : Fld := ⟨(0x204018 + 0x40000 * k + 0x40 * c), 16, 3, 0⟩
def PHT_CHSTAT.cmd (k c : Nat) : Fld := ⟨(0x204018 + 0x40000 * k + 0x40 * c), 0, 10, 0⟩
/-- PHT_CHSTAT (R124). -/
def PHT_CHSTAT.desc : RegDesc := ⟨0x204018, false, [(4, 0x40000), (80, 0x40)], fun | [k, c] => [(.ro, PHT_CHSTAT.fails k c), (.ro, PHT_CHSTAT.cause k c), (.ro, PHT_CHSTAT.state k c), (.ro, PHT_CHSTAT.cmd k c)] | _ => []⟩
def PHT_CHOC.count (k c : Nat) : Fld := ⟨(0x20401c + 0x40000 * k + 0x40 * c), 0, 32, 0⟩
/-- PHT_CHOC (R124). -/
def PHT_CHOC.desc : RegDesc := ⟨0x20401c, false, [(4, 0x40000), (80, 0x40)], fun | [k, c] => [(.rc, PHT_CHOC.count k c)] | _ => []⟩
def PHT_VSCFG.role (k p : Nat) : Fld := ⟨(0x208000 + 0x40000 * k + 0x10 * p), 30, 2, (senseRole0 k p)⟩
def PHT_VSCFG.rail (k p : Nat) : Fld := ⟨(0x208000 + 0x40000 * k + 0x10 * p), 0, 3, (senseRail0 p)⟩
/-- PHT_VSCFG (R125). -/
def PHT_VSCFG.desc : RegDesc := ⟨0x208000, false, [(4, 0x40000), (6, 0x10)], fun | [k, p] => [(.koRwt, PHT_VSCFG.role k p), (.koRwt, PHT_VSCFG.rail k p)] | _ => []⟩
def PHT_VSV.fault (k p : Nat) : Fld := ⟨(0x208004 + 0x40000 * k + 0x10 * p), 31, 1, 0⟩
def PHT_VSV.v (k p : Nat) : Fld := ⟨(0x208004 + 0x40000 * k + 0x10 * p), 0, 16, 0⟩
/-- PHT_VSV (R125). -/
def PHT_VSV.desc : RegDesc := ⟨0x208004, false, [(4, 0x40000), (6, 0x10)], fun | [k, p] => [(.ro, PHT_VSV.fault k p), (.ro, PHT_VSV.v k p)] | _ => []⟩
def SWJ_CTL.rate_max (n : Nat) : Fld := ⟨(0x300000 + 0x10000 * n), 8, 2, 0⟩
def SWJ_CTL.spare_en (n : Nat) : Fld := ⟨(0x300000 + 0x10000 * n), 4, 1, 1⟩
def SWJ_CTL.force_spare (n : Nat) : Fld := ⟨(0x300000 + 0x10000 * n), 3, 1, 0⟩
def SWJ_CTL.retrain (n : Nat) : Fld := ⟨(0x300000 + 0x10000 * n), 2, 1, 0⟩
def SWJ_CTL.rtt_now (n : Nat) : Fld := ⟨(0x300000 + 0x10000 * n), 1, 1, 0⟩
def SWJ_CTL.enable (n : Nat) : Fld := ⟨(0x300000 + 0x10000 * n), 0, 1, 0⟩
/-- SWJ_CTL (R160). -/
def SWJ_CTL.desc : RegDesc := ⟨0x300000, false, [(8, 0x10000)], fun | [n] => [(.koRwt, SWJ_CTL.rate_max n), (.koRwt, SWJ_CTL.spare_en n), (.koRwt, SWJ_CTL.force_spare n), (.wo, SWJ_CTL.retrain n), (.wo, SWJ_CTL.rtt_now n), (.koRwt, SWJ_CTL.enable n)] | _ => []⟩
def SWJ_STAT.state (n : Nat) : Fld := ⟨(0x300004 + 0x10000 * n), 29, 3, 0⟩
def SWJ_STAT.lane (n : Nat) : Fld := ⟨(0x300004 + 0x10000 * n), 28, 1, 0⟩
def SWJ_STAT.rate (n : Nat) : Fld := ⟨(0x300004 + 0x10000 * n), 26, 2, 0⟩
def SWJ_STAT.caps (n : Nat) : Fld := ⟨(0x300004 + 0x10000 * n), 25, 1, 0⟩
def SWJ_STAT.updelay (n : Nat) : Fld := ⟨(0x300004 + 0x10000 * n), 23, 2, 0⟩
def SWJ_STAT.spare_fail (n : Nat) : Fld := ⟨(0x300004 + 0x10000 * n), 22, 1, 0⟩
def SWJ_STAT.minor (n : Nat) : Fld := ⟨(0x300004 + 0x10000 * n), 8, 8, 0⟩
def SWJ_STAT.major (n : Nat) : Fld := ⟨(0x300004 + 0x10000 * n), 0, 8, 0⟩
/-- SWJ_STAT (R160). -/
def SWJ_STAT.desc : RegDesc := ⟨0x300004, false, [(8, 0x10000)], fun | [n] => [(.ro, SWJ_STAT.state n), (.ro, SWJ_STAT.lane n), (.ro, SWJ_STAT.rate n), (.ro, SWJ_STAT.caps n), (.ro, SWJ_STAT.updelay n), (.ro, SWJ_STAT.spare_fail n), (.ro, SWJ_STAT.minor n), (.ro, SWJ_STAT.major n)] | _ => []⟩
def SWJ_EVT.late (n : Nat) : Fld := ⟨(0x300008 + 0x10000 * n), 7, 1, 0⟩
def SWJ_EVT.fec (n : Nat) : Fld := ⟨(0x300008 + 0x10000 * n), 6, 1, 0⟩
def SWJ_EVT.caps (n : Nat) : Fld := ⟨(0x300008 + 0x10000 * n), 5, 1, 0⟩
def SWJ_EVT.rtt (n : Nat) : Fld := ⟨(0x300008 + 0x10000 * n), 4, 1, 0⟩
def SWJ_EVT.loss (n : Nat) : Fld := ⟨(0x300008 + 0x10000 * n), 3, 1, 0⟩
def SWJ_EVT.switch (n : Nat) : Fld := ⟨(0x300008 + 0x10000 * n), 2, 1, 0⟩
def SWJ_EVT.state (n : Nat) : Fld := ⟨(0x300008 + 0x10000 * n), 1, 1, 0⟩
def SWJ_EVT.brake (n : Nat) : Fld := ⟨(0x300008 + 0x10000 * n), 0, 1, 0⟩
/-- SWJ_EVT (R160). -/
def SWJ_EVT.desc : RegDesc := ⟨0x300008, false, [(8, 0x10000)], fun | [n] => [(.w1c, SWJ_EVT.late n), (.w1c, SWJ_EVT.fec n), (.w1c, SWJ_EVT.caps n), (.w1c, SWJ_EVT.rtt n), (.w1c, SWJ_EVT.loss n), (.w1c, SWJ_EVT.switch n), (.w1c, SWJ_EVT.state n), (.w1c, SWJ_EVT.brake n)] | _ => []⟩
def SWJ_EVTEN.en (n : Nat) : Fld := ⟨(0x30000c + 0x10000 * n), 0, 8, 0⟩
/-- SWJ_EVTEN (R160). -/
def SWJ_EVTEN.desc : RegDesc := ⟨0x30000c, false, [(8, 0x10000)], fun | [n] => [(.rw, SWJ_EVTEN.en n)] | _ => []⟩
def SWJ_RTT.rtt (n : Nat) : Fld := ⟨(0x300010 + 0x10000 * n), 0, 32, 0⟩
/-- SWJ_RTT (R160). -/
def SWJ_RTT.desc : RegDesc := ⟨0x300010, false, [(8, 0x10000)], fun | [n] => [(.ro, SWJ_RTT.rtt n)] | _ => []⟩
def SWJ_DELAY.delay (n : Nat) : Fld := ⟨(0x300014 + 0x10000 * n), 0, 32, 0⟩
/-- SWJ_DELAY (R160). -/
def SWJ_DELAY.desc : RegDesc := ⟨0x300014, false, [(8, 0x10000)], fun | [n] => [(.ro, SWJ_DELAY.delay n)] | _ => []⟩
def SWJ_RTTCORR.corr (n : Nat) : Fld := ⟨(0x300018 + 0x10000 * n), 0, 16, 0⟩
/-- SWJ_RTTCORR (R160). -/
def SWJ_RTTCORR.desc : RegDesc := ⟨0x300018, false, [(8, 0x10000)], fun | [n] => [(.koRwt, SWJ_RTTCORR.corr n)] | _ => []⟩
def SWJ_TXLAT.lat (n : Nat) : Fld := ⟨(0x30001c + 0x10000 * n), 0, 32, 0⟩
/-- SWJ_TXLAT (R160). -/
def SWJ_TXLAT.desc : RegDesc := ⟨0x30001c, false, [(8, 0x10000)], fun | [n] => [(.ro, SWJ_TXLAT.lat n)] | _ => []⟩
def SWJ_RXLAT.lat (n : Nat) : Fld := ⟨(0x300020 + 0x10000 * n), 0, 32, 0⟩
/-- SWJ_RXLAT (R160). -/
def SWJ_RXLAT.desc : RegDesc := ⟨0x300020, false, [(8, 0x10000)], fun | [n] => [(.ro, SWJ_RXLAT.lat n)] | _ => []⟩
def SWJ_FECCOR.count (n : Nat) : Fld := ⟨(0x300024 + 0x10000 * n), 0, 32, 0⟩
/-- SWJ_FECCOR (R160). -/
def SWJ_FECCOR.desc : RegDesc := ⟨0x300024, false, [(8, 0x10000)], fun | [n] => [(.rc, SWJ_FECCOR.count n)] | _ => []⟩
def SWJ_FECUNC.count (n : Nat) : Fld := ⟨(0x300028 + 0x10000 * n), 0, 32, 0⟩
/-- SWJ_FECUNC (R160). -/
def SWJ_FECUNC.desc : RegDesc := ⟨0x300028, false, [(8, 0x10000)], fun | [n] => [(.rc, SWJ_FECUNC.count n)] | _ => []⟩
def SWJ_CRCERR.count (n : Nat) : Fld := ⟨(0x30002c + 0x10000 * n), 0, 32, 0⟩
/-- SWJ_CRCERR (R160). -/
def SWJ_CRCERR.desc : RegDesc := ⟨0x30002c, false, [(8, 0x10000)], fun | [n] => [(.rc, SWJ_CRCERR.count n)] | _ => []⟩
def SWJ_FECCFG.alarm_thr (n : Nat) : Fld := ⟨(0x300030 + 0x10000 * n), 16, 16, 0x400⟩
def SWJ_FECCFG.switch_thr (n : Nat) : Fld := ⟨(0x300030 + 0x10000 * n), 0, 16, 0x10⟩
/-- SWJ_FECCFG (R160). -/
def SWJ_FECCFG.desc : RegDesc := ⟨0x300030, false, [(8, 0x10000)], fun | [n] => [(.koRwt, SWJ_FECCFG.alarm_thr n), (.koRwt, SWJ_FECCFG.switch_thr n)] | _ => []⟩
def SWJ_LOSSCFG.loss_q (n : Nat) : Fld := ⟨(0x300034 + 0x10000 * n), 24, 8, 0x40⟩
def SWJ_LOSSCFG.loss_ramp (n : Nat) : Fld := ⟨(0x300034 + 0x10000 * n), 16, 8, 0⟩
def SWJ_LOSSCFG.action (n : Nat) : Fld := ⟨(0x300034 + 0x10000 * n), 15, 1, 0⟩
def SWJ_LOSSCFG.timeout (n : Nat) : Fld := ⟨(0x300034 + 0x10000 * n), 0, 15, 0x3e8⟩
/-- SWJ_LOSSCFG (R160). -/
def SWJ_LOSSCFG.desc : RegDesc := ⟨0x300034, false, [(8, 0x10000)], fun | [n] => [(.koRwt, SWJ_LOSSCFG.loss_q n), (.koRwt, SWJ_LOSSCFG.loss_ramp n), (.koRwt, SWJ_LOSSCFG.action n), (.koRwt, SWJ_LOSSCFG.timeout n)] | _ => []⟩
def SWJ_DOWN.freq (n : Nat) : Fld := ⟨(0x300040 + 0x10000 * n), 24, 8, 0⟩
def SWJ_DOWN.quota (n : Nat) : Fld := ⟨(0x300040 + 0x10000 * n), 16, 8, 0⟩
def SWJ_DOWN.ramp (n : Nat) : Fld := ⟨(0x300040 + 0x10000 * n), 8, 8, 0xff⟩
def SWJ_DOWN.brake (n : Nat) : Fld := ⟨(0x300040 + 0x10000 * n), 7, 1, 0⟩
def SWJ_DOWN.ballast_en (n : Nat) : Fld := ⟨(0x300040 + 0x10000 * n), 6, 1, 0⟩
/-- SWJ_DOWN (R160). -/
def SWJ_DOWN.desc : RegDesc := ⟨0x300040, false, [(8, 0x10000)], fun | [n] => [(.ro, SWJ_DOWN.freq n), (.ro, SWJ_DOWN.quota n), (.ro, SWJ_DOWN.ramp n), (.ro, SWJ_DOWN.brake n), (.ro, SWJ_DOWN.ballast_en n)] | _ => []⟩
def SWJ_BALLAST.level (n : Nat) : Fld := ⟨(0x300044 + 0x10000 * n), 0, 12, 0⟩
/-- SWJ_BALLAST (R160). -/
def SWJ_BALLAST.desc : RegDesc := ⟨0x300044, false, [(8, 0x10000)], fun | [n] => [(.ro, SWJ_BALLAST.level n)] | _ => []⟩
def SWJ_UP.freq_acc (n : Nat) : Fld := ⟨(0x300048 + 0x10000 * n), 24, 8, 0⟩
def SWJ_UP.bubbles (n : Nat) : Fld := ⟨(0x300048 + 0x10000 * n), 16, 8, 0⟩
def SWJ_UP.ballast_active (n : Nat) : Fld := ⟨(0x300048 + 0x10000 * n), 1, 1, 0⟩
def SWJ_UP.brake_ack (n : Nat) : Fld := ⟨(0x300048 + 0x10000 * n), 0, 1, 0⟩
/-- SWJ_UP (R160). -/
def SWJ_UP.desc : RegDesc := ⟨0x300048, false, [(8, 0x10000)], fun | [n] => [(.ro, SWJ_UP.freq_acc n), (.ro, SWJ_UP.bubbles n), (.ro, SWJ_UP.ballast_active n), (.ro, SWJ_UP.brake_ack n)] | _ => []⟩
def SWJ_STEP.step (n : Nat) : Fld := ⟨(0x300050 + 0x10000 * n), 0, 64, 0⟩
/-- SWJ_STEP (R160). -/
def SWJ_STEP.desc : RegDesc := ⟨0x300050, true, [(8, 0x10000)], fun | [n] => [(.ro, SWJ_STEP.step n)] | _ => []⟩
def SWJ_STEPOFS.offset (n : Nat) : Fld := ⟨(0x300058 + 0x10000 * n), 0, 24, 0⟩
/-- SWJ_STEPOFS (R160). -/
def SWJ_STEPOFS.desc : RegDesc := ⟨0x300058, false, [(8, 0x10000)], fun | [n] => [(.ro, SWJ_STEPOFS.offset n)] | _ => []⟩
def SWJ_FREQPEND.valid (n : Nat) : Fld := ⟨(0x300060 + 0x10000 * n), 8, 1, 0⟩
def SWJ_FREQPEND.index (n : Nat) : Fld := ⟨(0x300060 + 0x10000 * n), 0, 8, 0⟩
/-- SWJ_FREQPEND (R160). -/
def SWJ_FREQPEND.desc : RegDesc := ⟨0x300060, false, [(8, 0x10000)], fun | [n] => [(.ro, SWJ_FREQPEND.valid n), (.ro, SWJ_FREQPEND.index n)] | _ => []⟩
def SWJ_FREQAT.at_ (n : Nat) : Fld := ⟨(0x300068 + 0x10000 * n), 0, 64, 0⟩
/-- SWJ_FREQAT (R160). -/
def SWJ_FREQAT.desc : RegDesc := ⟨0x300068, true, [(8, 0x10000)], fun | [n] => [(.ro, SWJ_FREQAT.at_ n)] | _ => []⟩
def SWJ_MAP.m (n : Nat) : Fld := ⟨(0x300070 + 0x10000 * n), 0, 15, 0⟩
/-- SWJ_MAP (R160). -/
def SWJ_MAP.desc : RegDesc := ⟨0x300070, false, [(8, 0x10000)], fun | [n] => [(.ro, SWJ_MAP.m n)] | _ => []⟩
def SWJ_MAPLOST.count (n : Nat) : Fld := ⟨(0x300074 + 0x10000 * n), 0, 32, 0⟩
/-- SWJ_MAPLOST (R160). -/
def SWJ_MAPLOST.desc : RegDesc := ⟨0x300074, false, [(8, 0x10000)], fun | [n] => [(.rc, SWJ_MAPLOST.count n)] | _ => []⟩
def SWJ_AGE.group (n : Nat) : Fld := ⟨(0x300080 + 0x10000 * n), 24, 8, 0⟩
def SWJ_AGE.vmargin (n : Nat) : Fld := ⟨(0x300080 + 0x10000 * n), 0, 16, 0⟩
/-- SWJ_AGE (R160). -/
def SWJ_AGE.desc : RegDesc := ⟨0x300080, false, [(8, 0x10000)], fun | [n] => [(.ro, SWJ_AGE.group n), (.ro, SWJ_AGE.vmargin n)] | _ => []⟩
def SWJ_AGESLACK.slack (n : Nat) : Fld := ⟨(0x300084 + 0x10000 * n), 0, 16, 0⟩
/-- SWJ_AGESLACK (R160). -/
def SWJ_AGESLACK.desc : RegDesc := ⟨0x300084, false, [(8, 0x10000)], fun | [n] => [(.ro, SWJ_AGESLACK.slack n)] | _ => []⟩
def SWJ_BRKCNT.count (n : Nat) : Fld := ⟨(0x300090 + 0x10000 * n), 0, 32, 0⟩
/-- SWJ_BRKCNT (R160). -/
def SWJ_BRKCNT.desc : RegDesc := ⟨0x300090, false, [(8, 0x10000)], fun | [n] => [(.rc, SWJ_BRKCNT.count n)] | _ => []⟩
def SWJ_BRKTIME.ticks (n : Nat) : Fld := ⟨(0x300094 + 0x10000 * n), 0, 32, 0⟩
/-- SWJ_BRKTIME (R160). -/
def SWJ_BRKTIME.desc : RegDesc := ⟨0x300094, false, [(8, 0x10000)], fun | [n] => [(.rc, SWJ_BRKTIME.ticks n)] | _ => []⟩
def SWJ_CAPIDX.own (n : Nat) : Fld := ⟨(0x3000a0 + 0x10000 * n), 8, 1, 0⟩
def SWJ_CAPIDX.page (n : Nat) : Fld := ⟨(0x3000a0 + 0x10000 * n), 0, 5, 0⟩
/-- SWJ_CAPIDX (R160). -/
def SWJ_CAPIDX.desc : RegDesc := ⟨0x3000a0, false, [(8, 0x10000)], fun | [n] => [(.rw, SWJ_CAPIDX.own n), (.rw, SWJ_CAPIDX.page n)] | _ => []⟩
def SWJ_CAPDATA.data (n w : Nat) : Fld := ⟨(0x3000a4 + 0x10000 * n + 0x4 * w), 0, 32, 0⟩
/-- SWJ_CAPDATA (R160). -/
def SWJ_CAPDATA.desc : RegDesc := ⟨0x3000a4, false, [(8, 0x10000), (7, 0x4)], fun | [n, w] => [(.ro, SWJ_CAPDATA.data n w)] | _ => []⟩
/-- The registers of block PHT. -/
def descsPHT : List RegDesc :=
  [PHT_ID.desc, PHT_SYNCCFG.desc, PHT_SYNCSTAT.desc, PHT_EVT.desc, PHT_EVTEN.desc, PHT_FAILMAP.desc, PHT_RETCLR.desc, PHT_RAILCFG.desc, PHT_VSET.desc, PHT_VLIM.desc, PHT_LOOPA.desc, PHT_LOOPB.desc, PHT_LL.desc, PHT_ADDDROP.desc, PHT_PHFLOOR.desc, PHT_RAILLIM.desc, PHT_PROT.desc, PHT_SS.desc, PHT_FOLD.desc, PHT_RSTAT.desc, PHT_RV.desc, PHT_RI.desc, PHT_RP.desc, PHT_RE.desc, PHT_RCAP.desc, PHT_RCEIL.desc, PHT_RATED.desc, PHT_CHCFG.desc, PHT_CHCOMP.desc, PHT_CHTRIM.desc, PHT_CHIMON.desc, PHT_CHL.desc, PHT_CHI.desc, PHT_CHSTAT.desc, PHT_CHOC.desc, PHT_VSCFG.desc, PHT_VSV.desc]
/-- The registers of block SWJ. -/
def descsSWJ : List RegDesc :=
  [SWJ_CTL.desc, SWJ_STAT.desc, SWJ_EVT.desc, SWJ_EVTEN.desc, SWJ_RTT.desc, SWJ_DELAY.desc, SWJ_RTTCORR.desc, SWJ_TXLAT.desc, SWJ_RXLAT.desc, SWJ_FECCOR.desc, SWJ_FECUNC.desc, SWJ_CRCERR.desc, SWJ_FECCFG.desc, SWJ_LOSSCFG.desc, SWJ_DOWN.desc, SWJ_BALLAST.desc, SWJ_UP.desc, SWJ_STEP.desc, SWJ_STEPOFS.desc, SWJ_FREQPEND.desc, SWJ_FREQAT.desc, SWJ_MAP.desc, SWJ_MAPLOST.desc, SWJ_AGE.desc, SWJ_AGESLACK.desc, SWJ_BRKCNT.desc, SWJ_BRKTIME.desc, SWJ_CAPIDX.desc, SWJ_CAPDATA.desc]

end Sys2Proof.Machine
end

