-- ==== Sys2Proof/Machine/RegsPlane.lean ====
section
/-! DEFINITION. The register fields of the management plane, memory, counters and the island (13-19), one name per field as the register tables of spec/ give them
(address, least significant bit, width, reset value), and per register the access type of every field. -/

namespace Sys2Proof.Machine

def KPR_LCSTAT.att_ok : Fld := ⟨0xd00000, 7, 1, 0⟩
def KPR_LCSTAT.unlocked : Fld := ⟨0xd00000, 6, 1, 0⟩
def KPR_LCSTAT.state : Fld := ⟨0xd00000, 0, 3, 0⟩
/-- KPR_LCSTAT (R421). -/
def KPR_LCSTAT.desc : RegDesc := ⟨0xd00000, false, [], fun _ => [(.ro, KPR_LCSTAT.att_ok), (.ro, KPR_LCSTAT.unlocked), (.ro, KPR_LCSTAT.state)]⟩
def KPR_BOOT.keeper_slot : Fld := ⟨0xd00004, 16, 8, 0⟩
def KPR_BOOT.service_slot : Fld := ⟨0xd00004, 8, 8, 0xff⟩
def KPR_BOOT.keeper_core : Fld := ⟨0xd00004, 4, 4, 0⟩
def KPR_BOOT.stage : Fld := ⟨0xd00004, 0, 4, 0⟩
/-- KPR_BOOT (R421). -/
def KPR_BOOT.desc : RegDesc := ⟨0xd00004, false, [], fun _ => [(.ro, KPR_BOOT.keeper_slot), (.ro, KPR_BOOT.service_slot), (.ro, KPR_BOOT.keeper_core), (.ro, KPR_BOOT.stage)]⟩
def KPR_VERIFY.code : Fld := ⟨0xd00008, 24, 8, 0⟩
def KPR_VERIFY.fails : Fld := ⟨0xd00008, 16, 8, 0⟩
/-- KPR_VERIFY (R421). -/
def KPR_VERIFY.desc : RegDesc := ⟨0xd00008, false, [], fun _ => [(.ro, KPR_VERIFY.code), (.ro, KPR_VERIFY.fails)]⟩
def KPR_SERIAL.serial : Fld := ⟨0xd00010, 0, 64, 0⟩
/-- KPR_SERIAL (R421). -/
def KPR_SERIAL.desc : RegDesc := ⟨0xd00010, true, [], fun _ => [(.ro, KPR_SERIAL.serial)]⟩
def KPR_SVNMIN.min (k : Nat) : Fld := ⟨(0xd00020 + 0x4 * k), 0, 32, 0⟩
/-- KPR_SVNMIN (R421). -/
def KPR_SVNMIN.desc : RegDesc := ⟨0xd00020, false, [(4, 0x4)], fun | [k] => [(.ro, KPR_SVNMIN.min k)] | _ => []⟩
def KPR_SVN.svn (k : Nat) : Fld := ⟨(0xd00030 + 0x4 * k), 0, 32, 0⟩
/-- KPR_SVN (R421). -/
def KPR_SVN.desc : RegDesc := ⟨0xd00030, false, [(3, 0x4)], fun | [k] => [(.ro, KPR_SVN.svn k)] | _ => []⟩
def KPR_CORES.spare_for : Fld := ⟨0xd00040, 16, 3, 0⟩
def KPR_CORES.released : Fld := ⟨0xd00040, 8, 6, 1⟩
def KPR_CORES.retired : Fld := ⟨0xd00040, 0, 6, 0⟩
/-- KPR_CORES (R421). -/
def KPR_CORES.desc : RegDesc := ⟨0xd00040, false, [], fun _ => [(.ro, KPR_CORES.spare_for), (.ro, KPR_CORES.released), (.ro, KPR_CORES.retired)]⟩
def KPR_ATTIDX.next : Fld := ⟨0xd00048, 0, 64, 0⟩
/-- KPR_ATTIDX (R421). -/
def KPR_ATTIDX.desc : RegDesc := ⟨0xd00048, true, [], fun _ => [(.ro, KPR_ATTIDX.next)]⟩
def KPR_ATTLEFT.left : Fld := ⟨0xd00050, 0, 32, 0⟩
/-- KPR_ATTLEFT (R421). -/
def KPR_ATTLEFT.desc : RegDesc := ⟨0xd00050, false, [], fun _ => [(.ro, KPR_ATTLEFT.left)]⟩
def KPR_LCNONCE.nonce (w : Nat) : Fld := ⟨(0xd00060 + 0x4 * w), 0, 32, 0⟩
/-- KPR_LCNONCE (R421). -/
def KPR_LCNONCE.desc : RegDesc := ⟨0xd00060, false, [(8, 0x4)], fun | [w] => [(.ro, KPR_LCNONCE.nonce w)] | _ => []⟩
def KPR_KEYSLOT.enrolled (s : Nat) : Fld := ⟨(0xd00080 + 0x4 * s), 31, 1, 0⟩
def KPR_KEYSLOT.revoked (s : Nat) : Fld := ⟨(0xd00080 + 0x4 * s), 30, 1, 0⟩
def KPR_KEYSLOT.valid (s : Nat) : Fld := ⟨(0xd00080 + 0x4 * s), 29, 1, 0⟩
def KPR_KEYSLOT.usage (s : Nat) : Fld := ⟨(0xd00080 + 0x4 * s), 0, 8, 0⟩
/-- KPR_KEYSLOT (R421). -/
def KPR_KEYSLOT.desc : RegDesc := ⟨0xd00080, false, [(8, 0x4)], fun | [s] => [(.ro, KPR_KEYSLOT.enrolled s), (.ro, KPR_KEYSLOT.revoked s), (.ro, KPR_KEYSLOT.valid s), (.ro, KPR_KEYSLOT.usage s)] | _ => []⟩
def KPR_GATESTAT.call : Fld := ⟨0xd000c0, 24, 8, 0⟩
def KPR_GATESTAT.status : Fld := ⟨0xd000c0, 16, 8, 0⟩
def KPR_GATESTAT.served : Fld := ⟨0xd000c0, 0, 16, 0⟩
/-- KPR_GATESTAT (R421). -/
def KPR_GATESTAT.desc : RegDesc := ⟨0xd000c0, false, [], fun _ => [(.ro, KPR_GATESTAT.call), (.ro, KPR_GATESTAT.status), (.ro, KPR_GATESTAT.served)]⟩
def KPR_GQUEUE.gated : Fld := ⟨0xd000c4, 31, 1, 0⟩
def KPR_GQUEUE.peak : Fld := ⟨0xd000c4, 0, 13, 0⟩
/-- KPR_GQUEUE (R421). -/
def KPR_GQUEUE.desc : RegDesc := ⟨0xd000c4, false, [], fun _ => [(.ro, KPR_GQUEUE.gated), (.ro, KPR_GQUEUE.peak)]⟩
def KPR_CORECTL.release : Fld := ⟨0xd01000, 1, 4, 0⟩
def KPR_CORECTL.keeper : Fld := ⟨0xd01000, 0, 1, 1⟩
/-- KPR_CORECTL (R422). -/
def KPR_CORECTL.desc : RegDesc := ⟨0xd01000, false, [], fun _ => [(.ko, KPR_CORECTL.release), (.ro, KPR_CORECTL.keeper)]⟩
def KPR_COREVEC.vec (n : Nat) : Fld := ⟨(0xd01008 + 0x8 * n), 0, 64, 0⟩
/-- KPR_COREVEC (R422). -/
def KPR_COREVEC.desc : RegDesc := ⟨0xd01008, true, [(5, 0x8)], fun | [0] => [] | [n] => [(.ko, KPR_COREVEC.vec n)] | _ => []⟩
def KPR_CORESPARE.replace : Fld := ⟨0xd01040, 0, 3, 0⟩
/-- KPR_CORESPARE (R422). -/
def KPR_CORESPARE.desc : RegDesc := ⟨0xd01040, false, [], fun _ => [(.ko, KPR_CORESPARE.replace)]⟩
def KPR_KEYLOCK.all_use : Fld := ⟨0xd01044, 3, 1, 0⟩
def KPR_KEYLOCK.att_use : Fld := ⟨0xd01044, 2, 1, 0⟩
def KPR_KEYLOCK.stor_use : Fld := ⟨0xd01044, 1, 1, 0⟩
def KPR_KEYLOCK.ds_read : Fld := ⟨0xd01044, 0, 1, 1⟩
/-- KPR_KEYLOCK (R422). -/
def KPR_KEYLOCK.desc : RegDesc := ⟨0xd01044, false, [], fun _ => [(.ko, KPR_KEYLOCK.all_use), (.ko, KPR_KEYLOCK.att_use), (.ko, KPR_KEYLOCK.stor_use), (.ko, KPR_KEYLOCK.ds_read)]⟩
def KPR_GRANT.entry (g : Nat) : Fld := ⟨(0xd01100 + 0x8 * g), 0, 64, 0⟩
/-- KPR_GRANT (R422). -/
def KPR_GRANT.desc : RegDesc := ⟨0xd01100, true, [(64, 0x8)], fun | [g] => [(.ko, KPR_GRANT.entry g)] | _ => []⟩
def KPR_GATEPEND.pend : Fld := ⟨0xd01300, 0, 4, 0⟩
/-- KPR_GATEPEND (R422). -/
def KPR_GATEPEND.desc : RegDesc := ⟨0xd01300, false, [], fun _ => [(.ko, KPR_GATEPEND.pend)]⟩
def IMG_STAT.busy : Fld := ⟨0xe00000, 31, 1, 0⟩
def IMG_STAT.op : Fld := ⟨0xe00000, 28, 3, 0⟩
def IMG_STAT.kind : Fld := ⟨0xe00000, 26, 2, 0⟩
def IMG_STAT.slot : Fld := ⟨0xe00000, 25, 1, 0⟩
def IMG_STAT.entry : Fld := ⟨0xe00000, 21, 4, 0⟩
def IMG_STAT.code : Fld := ⟨0xe00000, 8, 8, 0⟩
def IMG_STAT.step : Fld := ⟨0xe00000, 4, 4, 0⟩
/-- IMG_STAT (R442). -/
def IMG_STAT.desc : RegDesc := ⟨0xe00000, false, [], fun _ => [(.ro, IMG_STAT.busy), (.ro, IMG_STAT.op), (.ro, IMG_STAT.kind), (.ro, IMG_STAT.slot), (.ro, IMG_STAT.entry), (.ro, IMG_STAT.code), (.ro, IMG_STAT.step)]⟩
def IMG_EVT.reject : Fld := ⟨0xe00004, 3, 1, 0⟩
def IMG_EVT.suspect : Fld := ⟨0xe00004, 2, 1, 0⟩
def IMG_EVT.fail : Fld := ⟨0xe00004, 1, 1, 0⟩
def IMG_EVT.done : Fld := ⟨0xe00004, 0, 1, 0⟩
/-- IMG_EVT (R442). -/
def IMG_EVT.desc : RegDesc := ⟨0xe00004, false, [], fun _ => [(.w1c, IMG_EVT.reject), (.w1c, IMG_EVT.suspect), (.w1c, IMG_EVT.fail), (.w1c, IMG_EVT.done)]⟩
def IMG_EVTEN.en : Fld := ⟨0xe00008, 0, 4, 0⟩
/-- IMG_EVTEN (R442). -/
def IMG_EVTEN.desc : RegDesc := ⟨0xe00008, false, [], fun _ => [(.rw, IMG_EVTEN.en)]⟩
def IMG_PROG.bytes : Fld := ⟨0xe00010, 0, 64, 0⟩
/-- IMG_PROG (R442). -/
def IMG_PROG.desc : RegDesc := ⟨0xe00010, true, [], fun _ => [(.ro, IMG_PROG.bytes)]⟩
def IMG_LEDGER.half : Fld := ⟨0xe00018, 31, 1, 0⟩
def IMG_LEDGER.used : Fld := ⟨0xe00018, 0, 15, 0⟩
/-- IMG_LEDGER (R442). -/
def IMG_LEDGER.desc : RegDesc := ⟨0xe00018, false, [], fun _ => [(.ro, IMG_LEDGER.half), (.ro, IMG_LEDGER.used)]⟩
def IMG_LSEQ.next : Fld := ⟨0xe0001c, 0, 32, 0⟩
/-- IMG_LSEQ (R442). -/
def IMG_LSEQ.desc : RegDesc := ⟨0xe0001c, false, [], fun _ => [(.ro, IMG_LSEQ.next)]⟩
def IMG_TRIAL.trymax : Fld := ⟨0xe00020, 24, 8, 3⟩
def IMG_TRIAL.structure_ : Fld := ⟨0xe00020, 16, 8, 0⟩
def IMG_TRIAL.service : Fld := ⟨0xe00020, 8, 8, 0⟩
def IMG_TRIAL.keeper : Fld := ⟨0xe00020, 0, 8, 0⟩
/-- IMG_TRIAL (R442). -/
def IMG_TRIAL.desc : RegDesc := ⟨0xe00020, false, [], fun _ => [(.ko, IMG_TRIAL.trymax), (.ro, IMG_TRIAL.structure_), (.ro, IMG_TRIAL.service), (.ro, IMG_TRIAL.keeper)]⟩
def IMG_SDESC.state (k s : Nat) : Fld := ⟨(0xe00100 + 0x20 * k + 0x10 * s), 29, 3, 0⟩
def IMG_SDESC.rejected (k s : Nat) : Fld := ⟨(0xe00100 + 0x20 * k + 0x10 * s), 28, 1, 0⟩
def IMG_SDESC.trial (k s : Nat) : Fld := ⟨(0xe00100 + 0x20 * k + 0x10 * s), 27, 1, 0⟩
def IMG_SDESC.suspect (k s : Nat) : Fld := ⟨(0xe00100 + 0x20 * k + 0x10 * s), 26, 1, 0⟩
def IMG_SDESC.valid (k s : Nat) : Fld := ⟨(0xe00100 + 0x20 * k + 0x10 * s), 25, 1, 0⟩
def IMG_SDESC.selected (k s : Nat) : Fld := ⟨(0xe00100 + 0x20 * k + 0x10 * s), 24, 1, 0⟩
def IMG_SDESC.skipped (k s : Nat) : Fld := ⟨(0xe00100 + 0x20 * k + 0x10 * s), 16, 3, 0⟩
/-- IMG_SDESC (R443). -/
def IMG_SDESC.desc : RegDesc := ⟨0xe00100, false, [(3, 0x20), (2, 0x10)], fun | [k, s] => [(.ro, IMG_SDESC.state k s), (.ro, IMG_SDESC.rejected k s), (.ro, IMG_SDESC.trial k s), (.ro, IMG_SDESC.suspect k s), (.ro, IMG_SDESC.valid k s), (.ro, IMG_SDESC.selected k s), (.ro, IMG_SDESC.skipped k s)] | _ => []⟩
def IMG_GDESC.state (e c : Nat) : Fld := ⟨(0xe00200 + 0x20 * e + 0x10 * c), 29, 3, 0⟩
def IMG_GDESC.rejected (e c : Nat) : Fld := ⟨(0xe00200 + 0x20 * e + 0x10 * c), 28, 1, 0⟩
def IMG_GDESC.trial (e c : Nat) : Fld := ⟨(0xe00200 + 0x20 * e + 0x10 * c), 27, 1, 0⟩
def IMG_GDESC.suspect (e c : Nat) : Fld := ⟨(0xe00200 + 0x20 * e + 0x10 * c), 26, 1, 0⟩
def IMG_GDESC.valid (e c : Nat) : Fld := ⟨(0xe00200 + 0x20 * e + 0x10 * c), 25, 1, 0⟩
def IMG_GDESC.selected (e c : Nat) : Fld := ⟨(0xe00200 + 0x20 * e + 0x10 * c), 24, 1, 0⟩
def IMG_GDESC.skipped (e c : Nat) : Fld := ⟨(0xe00200 + 0x20 * e + 0x10 * c), 16, 3, 0⟩
/-- IMG_GDESC (R443). -/
def IMG_GDESC.desc : RegDesc := ⟨0xe00200, false, [(16, 0x20), (2, 0x10)], fun | [e, c] => [(.ro, IMG_GDESC.state e c), (.ro, IMG_GDESC.rejected e c), (.ro, IMG_GDESC.trial e c), (.ro, IMG_GDESC.suspect e c), (.ro, IMG_GDESC.valid e c), (.ro, IMG_GDESC.selected e c), (.ro, IMG_GDESC.skipped e c)] | _ => []⟩
def IMG_SCOUNT.counter (k s : Nat) : Fld := ⟨(0xe00104 + 0x20 * k + 0x10 * s), 0, 32, 0⟩
/-- IMG_SCOUNT (R443). -/
def IMG_SCOUNT.desc : RegDesc := ⟨0xe00104, false, [(3, 0x20), (2, 0x10)], fun | [k, s] => [(.ro, IMG_SCOUNT.counter k s)] | _ => []⟩
def IMG_GCOUNT.counter (e c : Nat) : Fld := ⟨(0xe00204 + 0x20 * e + 0x10 * c), 0, 32, 0⟩
/-- IMG_GCOUNT (R443). -/
def IMG_GCOUNT.desc : RegDesc := ⟨0xe00204, false, [(16, 0x20), (2, 0x10)], fun | [e, c] => [(.ro, IMG_GCOUNT.counter e c)] | _ => []⟩
def IMG_SVER.version (k s : Nat) : Fld := ⟨(0xe00108 + 0x20 * k + 0x10 * s), 0, 32, 0⟩
/-- IMG_SVER (R443). -/
def IMG_SVER.desc : RegDesc := ⟨0xe00108, false, [(3, 0x20), (2, 0x10)], fun | [k, s] => [(.ro, IMG_SVER.version k s)] | _ => []⟩
def IMG_GVER.version (e c : Nat) : Fld := ⟨(0xe00208 + 0x20 * e + 0x10 * c), 0, 32, 0⟩
/-- IMG_GVER (R443). -/
def IMG_GVER.desc : RegDesc := ⟨0xe00208, false, [(16, 0x20), (2, 0x10)], fun | [e, c] => [(.ro, IMG_GVER.version e c)] | _ => []⟩
def IMG_SSVN.svn (k s : Nat) : Fld := ⟨(0xe0010c + 0x20 * k + 0x10 * s), 0, 32, 0⟩
/-- IMG_SSVN (R443). -/
def IMG_SSVN.desc : RegDesc := ⟨0xe0010c, false, [(3, 0x20), (2, 0x10)], fun | [k, s] => [(.ro, IMG_SSVN.svn k s)] | _ => []⟩
def IMG_GSVN.svn (e c : Nat) : Fld := ⟨(0xe0020c + 0x20 * e + 0x10 * c), 0, 32, 0⟩
/-- IMG_GSVN (R443). -/
def IMG_GSVN.desc : RegDesc := ⟨0xe0020c, false, [(16, 0x20), (2, 0x10)], fun | [e, c] => [(.ro, IMG_GSVN.svn e c)] | _ => []⟩
def HIF_STAT.ready : Fld := ⟨0xf00000, 31, 1, 0⟩
def HIF_STAT.link : Fld := ⟨0xf00000, 27, 3, 0⟩
def HIF_STAT.rate : Fld := ⟨0xf00000, 24, 3, 0⟩
def HIF_STAT.width : Fld := ⟨0xf00000, 19, 5, 0⟩
def HIF_STAT.flit : Fld := ⟨0xf00000, 18, 1, 0⟩
def HIF_STAT.dstate : Fld := ⟨0xf00000, 16, 2, 0⟩
def HIF_STAT.bme : Fld := ⟨0xf00000, 15, 1, 0⟩
/-- HIF_STAT (R468). -/
def HIF_STAT.desc : RegDesc := ⟨0xf00000, false, [], fun _ => [(.ro, HIF_STAT.ready), (.ro, HIF_STAT.link), (.ro, HIF_STAT.rate), (.ro, HIF_STAT.width), (.ro, HIF_STAT.flit), (.ro, HIF_STAT.dstate), (.ro, HIF_STAT.bme)]⟩
def HIF_EVT.recovery : Fld := ⟨0xf00004, 6, 1, 0⟩
def HIF_EVT.drain_cfg : Fld := ⟨0xf00004, 5, 1, 0⟩
def HIF_EVT.starved : Fld := ⟨0xf00004, 4, 1, 0⟩
def HIF_EVT.ring_err : Fld := ⟨0xf00004, 3, 1, 0⟩
def HIF_EVT.aer_unc : Fld := ⟨0xf00004, 2, 1, 0⟩
def HIF_EVT.reset : Fld := ⟨0xf00004, 1, 1, 0⟩
def HIF_EVT.link : Fld := ⟨0xf00004, 0, 1, 0⟩
/-- HIF_EVT (R468). -/
def HIF_EVT.desc : RegDesc := ⟨0xf00004, false, [], fun _ => [(.w1c, HIF_EVT.recovery), (.w1c, HIF_EVT.drain_cfg), (.w1c, HIF_EVT.starved), (.w1c, HIF_EVT.ring_err), (.w1c, HIF_EVT.aer_unc), (.w1c, HIF_EVT.reset), (.w1c, HIF_EVT.link)]⟩
def HIF_EVTEN.en : Fld := ⟨0xf00008, 0, 7, 0⟩
/-- HIF_EVTEN (R468). -/
def HIF_EVTEN.desc : RegDesc := ⟨0xf00008, false, [], fun _ => [(.rw, HIF_EVTEN.en)]⟩
def HIF_CTL.svc_core : Fld := ⟨0xf0000c, 8, 3, 1⟩
def HIF_CTL.flr_release : Fld := ⟨0xf0000c, 1, 1, 0⟩
def HIF_CTL.cfg_ready : Fld := ⟨0xf0000c, 0, 1, 0⟩
/-- HIF_CTL (R468). -/
def HIF_CTL.desc : RegDesc := ⟨0xf0000c, false, [], fun _ => [(.ko, HIF_CTL.svc_core), (.ko, HIF_CTL.flr_release), (.ko, HIF_CTL.cfg_ready)]⟩
def HIF_PCIID.device : Fld := ⟨0xf00010, 16, 16, 0xa58⟩
def HIF_PCIID.vendor : Fld := ⟨0xf00010, 0, 16, 0⟩
/-- HIF_PCIID (R468). -/
def HIF_PCIID.desc : RegDesc := ⟨0xf00010, false, [], fun _ => [(.ro, HIF_PCIID.device), (.ro, HIF_PCIID.vendor)]⟩
def HIF_SUBSYS.id : Fld := ⟨0xf00014, 16, 16, 0⟩
def HIF_SUBSYS.vendor : Fld := ⟨0xf00014, 0, 16, 0⟩
/-- HIF_SUBSYS (R468). -/
def HIF_SUBSYS.desc : RegDesc := ⟨0xf00014, false, [], fun _ => [(.ko, HIF_SUBSYS.id), (.ko, HIF_SUBSYS.vendor)]⟩
def HIF_VER.major : Fld := ⟨0xf00018, 8, 8, 1⟩
def HIF_VER.minor : Fld := ⟨0xf00018, 0, 8, 0⟩
/-- HIF_VER (R468). -/
def HIF_VER.desc : RegDesc := ⟨0xf00018, false, [], fun _ => [(.ro, HIF_VER.major), (.ro, HIF_VER.minor)]⟩
def HIF_ORDSEQ.next : Fld := ⟨0xf0001c, 0, 32, 0⟩
/-- HIF_ORDSEQ (R468). -/
def HIF_ORDSEQ.desc : RegDesc := ⟨0xf0001c, false, [], fun _ => [(.ro, HIF_ORDSEQ.next)]⟩
def HIF_HABASE.base : Fld := ⟨0xf00020, 0, 64, 0⟩
/-- HIF_HABASE (R468). -/
def HIF_HABASE.desc : RegDesc := ⟨0xf00020, true, [], fun _ => [(.ko, HIF_HABASE.base)]⟩
def HIF_HASIZE.size : Fld := ⟨0xf00028, 0, 64, 0⟩
/-- HIF_HASIZE (R468). -/
def HIF_HASIZE.desc : RegDesc := ⟨0xf00028, true, [], fun _ => [(.ko, HIF_HASIZE.size)]⟩
def HIF_AERCOR.count : Fld := ⟨0xf00030, 0, 32, 0⟩
/-- HIF_AERCOR (R468). -/
def HIF_AERCOR.desc : RegDesc := ⟨0xf00030, false, [], fun _ => [(.rc, HIF_AERCOR.count)]⟩
def HIF_AERUNC.count : Fld := ⟨0xf00034, 0, 32, 0⟩
/-- HIF_AERUNC (R468). -/
def HIF_AERUNC.desc : RegDesc := ⟨0xf00034, false, [], fun _ => [(.rc, HIF_AERUNC.count)]⟩
def HIF_LINKDN.count : Fld := ⟨0xf00038, 0, 32, 0⟩
/-- HIF_LINKDN (R468). -/
def HIF_LINKDN.desc : RegDesc := ⟨0xf00038, false, [], fun _ => [(.rc, HIF_LINKDN.count)]⟩
def HIF_B2SEG.valid (s : Nat) : Fld := ⟨(0xf00040 + 0x8 * s), 63, 1, 0⟩
def HIF_B2SEG.rw (s : Nat) : Fld := ⟨(0xf00040 + 0x8 * s), 62, 1, 0⟩
def HIF_B2SEG.base (s : Nat) : Fld := ⟨(0xf00040 + 0x8 * s), 0, 10, 0⟩
/-- HIF_B2SEG (R468). -/
def HIF_B2SEG.desc : RegDesc := ⟨0xf00040, true, [(16, 0x8)], fun | [s] => [(.ko, HIF_B2SEG.valid s), (.ko, HIF_B2SEG.rw s), (.ko, HIF_B2SEG.base s)] | _ => []⟩
/-! The MSI-X table and its pending bits stand in HIF's range in the formats of the PCI Express Base Specification (R451). -/
def HIF_MSIX.addrLo (v : Nat) : Fld := ⟨(0xf80000 + 0x10 * v), 2, 30, 0⟩
def HIF_MSIX.addrHi (v : Nat) : Fld := ⟨(0xf80004 + 0x10 * v), 0, 32, 0⟩
def HIF_MSIX.data (v : Nat) : Fld := ⟨(0xf80008 + 0x10 * v), 0, 32, 0⟩
def HIF_MSIX.mask (v : Nat) : Fld := ⟨(0xf8000c + 0x10 * v), 0, 1, 1⟩
def HIF_MSIX.descLo : RegDesc := ⟨0xf80000, false, [(1024, 0x10)], fun | [v] => [(.rw, HIF_MSIX.addrLo v)] | _ => []⟩
def HIF_MSIX.descHi : RegDesc := ⟨0xf80004, false, [(1024, 0x10)], fun | [v] => [(.rw, HIF_MSIX.addrHi v)] | _ => []⟩
def HIF_MSIX.descData : RegDesc := ⟨0xf80008, false, [(1024, 0x10)], fun | [v] => [(.rw, HIF_MSIX.data v)] | _ => []⟩
def HIF_MSIX.descMask : RegDesc := ⟨0xf8000c, false, [(1024, 0x10)], fun | [v] => [(.rw, HIF_MSIX.mask v)] | _ => []⟩
def HIF_PBA.pend (w : Nat) : Fld := ⟨(0xf84000 + 0x4 * w), 0, 32, 0⟩
def HIF_PBA.desc : RegDesc := ⟨0xf84000, false, [(32, 0x4)], fun | [w] => [(.ro, HIF_PBA.pend w)] | _ => []⟩
def HIF_IVEC.en (s : Nat) : Fld := ⟨(0xf00100 + 0x4 * s), 31, 1, 0⟩
def HIF_IVEC.vector (s : Nat) : Fld := ⟨(0xf00100 + 0x4 * s), 0, 10, 0⟩
/-- HIF_IVEC (R468). -/
def HIF_IVEC.desc : RegDesc := ⟨0xf00100, false, [(32, 0x4)], fun | [s] => [(.rw, HIF_IVEC.en s), (.rw, HIF_IVEC.vector s)] | _ => []⟩
def HIF_RCVCTL.go : Fld := ⟨0xf00200, 0, 1, 0⟩
/-- HIF_RCVCTL (R468). -/
def HIF_RCVCTL.desc : RegDesc := ⟨0xf00200, false, [], fun _ => [(.wo, HIF_RCVCTL.go)]⟩
def HIF_RCVLEN.len : Fld := ⟨0xf00204, 0, 32, 0⟩
/-- HIF_RCVLEN (R468). -/
def HIF_RCVLEN.desc : RegDesc := ⟨0xf00204, false, [], fun _ => [(.rw, HIF_RCVLEN.len)]⟩
def HIF_RCVSTAT.state : Fld := ⟨0xf00208, 29, 3, 0⟩
def HIF_RCVSTAT.kind : Fld := ⟨0xf00208, 28, 1, 0⟩
def HIF_RCVSTAT.path : Fld := ⟨0xf00208, 27, 1, 0⟩
def HIF_RCVSTAT.code : Fld := ⟨0xf00208, 0, 8, 0⟩
/-- HIF_RCVSTAT (R468). -/
def HIF_RCVSTAT.desc : RegDesc := ⟨0xf00208, false, [], fun _ => [(.ro, HIF_RCVSTAT.state), (.ro, HIF_RCVSTAT.kind), (.ro, HIF_RCVSTAT.path), (.ro, HIF_RCVSTAT.code)]⟩
def HIF_SVCRSP.desc_ (w : Nat) : Fld := ⟨(0xf00300 + 0x4 * w), 0, 32, 0⟩
/-- HIF_SVCRSP (R468). -/
def HIF_SVCRSP.desc : RegDesc := ⟨0xf00300, false, [(16, 0x4)], fun | [w] => [(.wo, HIF_SVCRSP.desc_ w)] | _ => []⟩
def HIF_SVCPUSH.push : Fld := ⟨0xf00340, 6, 1, 0⟩
def HIF_SVCPUSH.ring : Fld := ⟨0xf00340, 0, 6, 0⟩
/-- HIF_SVCPUSH (R468). -/
def HIF_SVCPUSH.desc : RegDesc := ⟨0xf00340, false, [], fun _ => [(.wo, HIF_SVCPUSH.push), (.wo, HIF_SVCPUSH.ring)]⟩
def HIF_SVCSTAT.full : Fld := ⟨0xf00344, 0, 1, 0⟩
/-- HIF_SVCSTAT (R468). -/
def HIF_SVCSTAT.desc : RegDesc := ⟨0xf00344, false, [], fun _ => [(.ro, HIF_SVCSTAT.full)]⟩
def HIF_SVCQBASE.base : Fld := ⟨0xf00348, 0, 64, 0⟩
/-- HIF_SVCQBASE (R468). -/
def HIF_SVCQBASE.desc : RegDesc := ⟨0xf00348, true, [], fun _ => [(.ko, HIF_SVCQBASE.base)]⟩
def HIF_SVCQPTR.tail : Fld := ⟨0xf00350, 16, 8, 0⟩
def HIF_SVCQPTR.head : Fld := ⟨0xf00350, 0, 8, 0⟩
/-- HIF_SVCQPTR (R468). -/
def HIF_SVCQPTR.desc : RegDesc := ⟨0xf00350, false, [], fun _ => [(.ro, HIF_SVCQPTR.tail), (.rw, HIF_SVCQPTR.head)]⟩
def HIF_DRPOS.pos (c : Nat) : Fld := ⟨(0xf00380 + 0x8 * c), 0, 64, (jrnBase0 c)⟩
/-- HIF_DRPOS (R468). -/
def HIF_DRPOS.desc : RegDesc := ⟨0xf00380, true, [(3, 0x8)], fun | [c] => [(.ro, HIF_DRPOS.pos c)] | _ => []⟩
def HIF_RQBASE.base (p : Nat) : Fld := ⟨(0xf01000 + 0x40 * p), 0, 64, 0⟩
/-- HIF_RQBASE (R469). -/
def HIF_RQBASE.desc : RegDesc := ⟨0xf01000, true, [(64, 0x40)], fun | [p] => [(.rw, HIF_RQBASE.base p)] | _ => []⟩
def HIF_RSBASE.base (p : Nat) : Fld := ⟨(0xf01008 + 0x40 * p), 0, 64, 0⟩
/-- HIF_RSBASE (R469). -/
def HIF_RSBASE.desc : RegDesc := ⟨0xf01008, true, [(64, 0x40)], fun | [p] => [(.rw, HIF_RSBASE.base p)] | _ => []⟩
def HIF_RCB.base (p : Nat) : Fld := ⟨(0xf01010 + 0x40 * p), 0, 64, 0⟩
/-- HIF_RCB (R469). -/
def HIF_RCB.desc : RegDesc := ⟨0xf01010, true, [(64, 0x40)], fun | [p] => [(.rw, HIF_RCB.base p)] | _ => []⟩
def HIF_RTWB.addr (p : Nat) : Fld := ⟨(0xf01018 + 0x40 * p), 0, 64, 0⟩
/-- HIF_RTWB (R469). -/
def HIF_RTWB.desc : RegDesc := ⟨0xf01018, true, [(64, 0x40)], fun | [p] => [(.rw, HIF_RTWB.addr p)] | _ => []⟩
def HIF_RCFG.rq_log (p : Nat) : Fld := ⟨(0xf01020 + 0x40 * p), 27, 5, 6⟩
def HIF_RCFG.rs_log (p : Nat) : Fld := ⟨(0xf01020 + 0x40 * p), 22, 5, 6⟩
def HIF_RCFG.role (p : Nat) : Fld := ⟨(0xf01020 + 0x40 * p), 20, 2, 0⟩
def HIF_RCFG.class_ (p : Nat) : Fld := ⟨(0xf01020 + 0x40 * p), 18, 2, 0⟩
def HIF_RCFG.minor (p : Nat) : Fld := ⟨(0xf01020 + 0x40 * p), 10, 8, 0⟩
def HIF_RCFG.vector (p : Nat) : Fld := ⟨(0xf01020 + 0x40 * p), 0, 10, 0⟩
/-- HIF_RCFG (R469). -/
def HIF_RCFG.desc : RegDesc := ⟨0xf01020, false, [(64, 0x40)], fun | [p] => [(.rw, HIF_RCFG.rq_log p), (.rw, HIF_RCFG.rs_log p), (.rw, HIF_RCFG.role p), (.rw, HIF_RCFG.class_ p), (.rw, HIF_RCFG.minor p), (.rw, HIF_RCFG.vector p)] | _ => []⟩
def HIF_RCTL.coal_n (p : Nat) : Fld := ⟨(0xf01024 + 0x40 * p), 24, 8, 1⟩
def HIF_RCTL.coal_us (p : Nat) : Fld := ⟨(0xf01024 + 0x40 * p), 16, 8, 0⟩
def HIF_RCTL.en (p : Nat) : Fld := ⟨(0xf01024 + 0x40 * p), 0, 1, 0⟩
/-- HIF_RCTL (R469). -/
def HIF_RCTL.desc : RegDesc := ⟨0xf01024, false, [(64, 0x40)], fun | [p] => [(.rw, HIF_RCTL.coal_n p), (.rw, HIF_RCTL.coal_us p), (.rw, HIF_RCTL.en p)] | _ => []⟩
def HIF_RSTAT.state (p : Nat) : Fld := ⟨(0xf01028 + 0x40 * p), 29, 3, 0⟩
def HIF_RSTAT.starved (p : Nat) : Fld := ⟨(0xf01028 + 0x40 * p), 28, 1, 0⟩
def HIF_RSTAT.err (p : Nat) : Fld := ⟨(0xf01028 + 0x40 * p), 16, 8, 0⟩
/-- HIF_RSTAT (R469). -/
def HIF_RSTAT.desc : RegDesc := ⟨0xf01028, false, [(64, 0x40)], fun | [p] => [(.ro, HIF_RSTAT.state p), (.ro, HIF_RSTAT.starved p), (.ro, HIF_RSTAT.err p)] | _ => []⟩
def HIF_RERRSEQ.seq (p : Nat) : Fld := ⟨(0xf0102c + 0x40 * p), 0, 32, 0⟩
/-- HIF_RERRSEQ (R469). -/
def HIF_RERRSEQ.desc : RegDesc := ⟨0xf0102c, false, [(64, 0x40)], fun | [p] => [(.ro, HIF_RERRSEQ.seq p)] | _ => []⟩
def HIF_DB.ring (p : Nat) : Fld := ⟨(0xf01030 + 0x40 * p), 0, 1, 0⟩
/-- HIF_DB (R469). -/
def HIF_DB.desc : RegDesc := ⟨0xf01030, false, [(64, 0x40)], fun | [p] => [(.wo, HIF_DB.ring p)] | _ => []⟩
def HIF_DMASRC.addr (e : Nat) : Fld := ⟨(0xf04000 + 0x40 * e), 0, 64, 0⟩
/-- HIF_DMASRC (R470). -/
def HIF_DMASRC.desc : RegDesc := ⟨0xf04000, true, [(16, 0x40)], fun | [e] => [(.rw, HIF_DMASRC.addr e)] | _ => []⟩
def HIF_DMADST.addr (e : Nat) : Fld := ⟨(0xf04008 + 0x40 * e), 0, 64, 0⟩
/-- HIF_DMADST (R470). -/
def HIF_DMADST.desc : RegDesc := ⟨0xf04008, true, [(16, 0x40)], fun | [e] => [(.rw, HIF_DMADST.addr e)] | _ => []⟩
def HIF_DMALEN.len (e : Nat) : Fld := ⟨(0xf04010 + 0x40 * e), 0, 32, 0⟩
/-- HIF_DMALEN (R470). -/
def HIF_DMALEN.desc : RegDesc := ⟨0xf04010, false, [(16, 0x40)], fun | [e] => [(.rw, HIF_DMALEN.len e)] | _ => []⟩
def HIF_DMACTL.relax (e : Nat) : Fld := ⟨(0xf04014 + 0x40 * e), 2, 1, 0⟩
def HIF_DMACTL.dir (e : Nat) : Fld := ⟨(0xf04014 + 0x40 * e), 1, 1, 0⟩
def HIF_DMACTL.go (e : Nat) : Fld := ⟨(0xf04014 + 0x40 * e), 0, 1, 0⟩
/-- HIF_DMACTL (R470). -/
def HIF_DMACTL.desc : RegDesc := ⟨0xf04014, false, [(16, 0x40)], fun | [e] => [(.rw, HIF_DMACTL.relax e), (.rw, HIF_DMACTL.dir e), (.wo, HIF_DMACTL.go e)] | _ => []⟩
def HIF_DMASTAT.state (e : Nat) : Fld := ⟨(0xf04018 + 0x40 * e), 29, 3, 0⟩
def HIF_DMASTAT.err (e : Nat) : Fld := ⟨(0xf04018 + 0x40 * e), 16, 8, 0⟩
def HIF_DMASTAT.owner (e : Nat) : Fld := ⟨(0xf04018 + 0x40 * e), 0, 4, 0⟩
/-- HIF_DMASTAT (R470). -/
def HIF_DMASTAT.desc : RegDesc := ⟨0xf04018, false, [(16, 0x40)], fun | [e] => [(.ro, HIF_DMASTAT.state e), (.ro, HIF_DMASTAT.err e), (.ro, HIF_DMASTAT.owner e)] | _ => []⟩
def HIF_DMADONE.bytes (e : Nat) : Fld := ⟨(0xf04020 + 0x40 * e), 0, 64, 0⟩
/-- HIF_DMADONE (R470). -/
def HIF_DMADONE.desc : RegDesc := ⟨0xf04020, true, [(16, 0x40)], fun | [e] => [(.ro, HIF_DMADONE.bytes e)] | _ => []⟩
def TWI_EVT.ident : Fld := ⟨0x1000000, 3, 1, 0⟩
def TWI_EVT.order : Fld := ⟨0x1000000, 2, 1, 0⟩
def TWI_EVT.pec : Fld := ⟨0x1000000, 1, 1, 0⟩
def TWI_EVT.bus : Fld := ⟨0x1000000, 0, 1, 0⟩
/-- TWI_EVT (R493). -/
def TWI_EVT.desc : RegDesc := ⟨0x1000000, false, [], fun _ => [(.w1c, TWI_EVT.ident), (.w1c, TWI_EVT.order), (.w1c, TWI_EVT.pec), (.w1c, TWI_EVT.bus)]⟩
def TWI_EVTEN.en : Fld := ⟨0x1000004, 0, 4, 0⟩
/-- TWI_EVTEN (R493). -/
def TWI_EVTEN.desc : RegDesc := ⟨0x1000004, false, [], fun _ => [(.rw, TWI_EVTEN.en)]⟩
def TWI_STRAP.strap : Fld := ⟨0x1000008, 0, 4, 0⟩
/-- TWI_STRAP (R493). -/
def TWI_STRAP.desc : RegDesc := ⟨0x1000008, false, [], fun _ => [(.ro, TWI_STRAP.strap)]⟩
def TWI_TCFG.p1_addr : Fld := ⟨0x100000c, 8, 7, 0x5a⟩
def TWI_TCFG.alert_en : Fld := ⟨0x100000c, 1, 1, 1⟩
def TWI_TCFG.pec_req : Fld := ⟨0x100000c, 0, 1, 0⟩
/-- TWI_TCFG (R493). -/
def TWI_TCFG.desc : RegDesc := ⟨0x100000c, false, [], fun _ => [(.ko, TWI_TCFG.p1_addr), (.ko, TWI_TCFG.alert_en), (.ko, TWI_TCFG.pec_req)]⟩
def TWI_ORDSEQ.next : Fld := ⟨0x1000010, 0, 32, 0⟩
/-- TWI_ORDSEQ (R493). -/
def TWI_ORDSEQ.desc : RegDesc := ⟨0x1000010, false, [], fun _ => [(.ro, TWI_ORDSEQ.next)]⟩
def TWI_TPECERR.count : Fld := ⟨0x1000014, 0, 32, 0⟩
/-- TWI_TPECERR (R493). -/
def TWI_TPECERR.desc : RegDesc := ⟨0x1000014, false, [], fun _ => [(.rc, TWI_TPECERR.count)]⟩
def TWI_TWDISC.count : Fld := ⟨0x1000018, 0, 32, 0⟩
/-- TWI_TWDISC (R493). -/
def TWI_TWDISC.desc : RegDesc := ⟨0x1000018, false, [], fun _ => [(.rc, TWI_TWDISC.count)]⟩
def TWI_SURV.valid (i : Nat) : Fld := ⟨(0x1000100 + 0x4 * i), 31, 1, 0⟩
def TWI_SURV.port (i : Nat) : Fld := ⟨(0x1000100 + 0x4 * i), 24, 4, 0⟩
def TWI_SURV.addr (i : Nat) : Fld := ⟨(0x1000100 + 0x4 * i), 16, 7, 0⟩
def TWI_SURV.rail (i : Nat) : Fld := ⟨(0x1000100 + 0x4 * i), 0, 7, 0⟩
/-- TWI_SURV (R493). -/
def TWI_SURV.desc : RegDesc := ⟨0x1000100, false, [(32, 0x4)], fun | [i] => [(.koRwt, TWI_SURV.valid i), (.koRwt, TWI_SURV.port i), (.koRwt, TWI_SURV.addr i), (.koRwt, TWI_SURV.rail i)] | _ => []⟩
def TWI_PCFG.retries (n : Nat) : Fld := ⟨(0x1001000 + 0x100 * n), 4, 4, 3⟩
def TWI_PCFG.speed (n : Nat) : Fld := ⟨(0x1001000 + 0x100 * n), 2, 2, 0⟩
def TWI_PCFG.role (n : Nat) : Fld := ⟨(0x1001000 + 0x100 * n), 1, 1, (portRole0 n)⟩
def TWI_PCFG.en (n : Nat) : Fld := ⟨(0x1001000 + 0x100 * n), 0, 1, 0⟩
/-- TWI_PCFG (R494). -/
def TWI_PCFG.desc : RegDesc := ⟨0x1001000, false, [(16, 0x100)], fun | [n] => [(.rw, TWI_PCFG.retries n), (.rw, TWI_PCFG.speed n), (.ro, TWI_PCFG.role n), (.rw, TWI_PCFG.en n)] | _ => []⟩
def TWI_PSTAT.dead (n : Nat) : Fld := ⟨(0x1001004 + 0x100 * n), 4, 1, 0⟩
def TWI_PSTAT.busy_bus (n : Nat) : Fld := ⟨(0x1001004 + 0x100 * n), 3, 1, 0⟩
def TWI_PSTAT.ident (n : Nat) : Fld := ⟨(0x1001004 + 0x100 * n), 2, 1, 0⟩
def TWI_PSTAT.sda_stuck (n : Nat) : Fld := ⟨(0x1001004 + 0x100 * n), 1, 1, 0⟩
def TWI_PSTAT.scl_low (n : Nat) : Fld := ⟨(0x1001004 + 0x100 * n), 0, 1, 0⟩
/-- TWI_PSTAT (R494). -/
def TWI_PSTAT.desc : RegDesc := ⟨0x1001004, false, [(16, 0x100)], fun | [n] => [(.ro, TWI_PSTAT.dead n), (.ro, TWI_PSTAT.busy_bus n), (.ro, TWI_PSTAT.ident n), (.w1c, TWI_PSTAT.sda_stuck n), (.w1c, TWI_PSTAT.scl_low n)] | _ => []⟩
def TWI_PNACK.count (n : Nat) : Fld := ⟨(0x1001008 + 0x100 * n), 0, 32, 0⟩
/-- TWI_PNACK (R494). -/
def TWI_PNACK.desc : RegDesc := ⟨0x1001008, false, [(16, 0x100)], fun | [n] => [(.rc, TWI_PNACK.count n)] | _ => []⟩
def TWI_PARB.count (n : Nat) : Fld := ⟨(0x100100c + 0x100 * n), 0, 32, 0⟩
/-- TWI_PARB (R494). -/
def TWI_PARB.desc : RegDesc := ⟨0x100100c, false, [(16, 0x100)], fun | [n] => [(.rc, TWI_PARB.count n)] | _ => []⟩
def TWI_PTOUT.count (n : Nat) : Fld := ⟨(0x1001010 + 0x100 * n), 0, 32, 0⟩
/-- TWI_PTOUT (R494). -/
def TWI_PTOUT.desc : RegDesc := ⟨0x1001010, false, [(16, 0x100)], fun | [n] => [(.rc, TWI_PTOUT.count n)] | _ => []⟩
def TWI_PRECOV.count (n : Nat) : Fld := ⟨(0x1001014 + 0x100 * n), 0, 32, 0⟩
/-- TWI_PRECOV (R494). -/
def TWI_PRECOV.desc : RegDesc := ⟨0x1001014, false, [(16, 0x100)], fun | [n] => [(.rc, TWI_PRECOV.count n)] | _ => []⟩
def TWI_CCMD.go (n : Nat) : Fld := ⟨(0x1001020 + 0x100 * n), 31, 1, 0⟩
def TWI_CCMD.rstart (n : Nat) : Fld := ⟨(0x1001020 + 0x100 * n), 30, 1, 0⟩
def TWI_CCMD.block (n : Nat) : Fld := ⟨(0x1001020 + 0x100 * n), 29, 1, 0⟩
def TWI_CCMD.pec (n : Nat) : Fld := ⟨(0x1001020 + 0x100 * n), 28, 1, 0⟩
def TWI_CCMD.addr (n : Nat) : Fld := ⟨(0x1001020 + 0x100 * n), 16, 7, 0⟩
def TWI_CCMD.rd_len (n : Nat) : Fld := ⟨(0x1001020 + 0x100 * n), 8, 6, 0⟩
def TWI_CCMD.wr_len (n : Nat) : Fld := ⟨(0x1001020 + 0x100 * n), 0, 6, 0⟩
/-- TWI_CCMD (R494). -/
def TWI_CCMD.desc : RegDesc := ⟨0x1001020, false, [(16, 0x100)], fun | [n] => [(.wo, TWI_CCMD.go n), (.rw, TWI_CCMD.rstart n), (.rw, TWI_CCMD.block n), (.rw, TWI_CCMD.pec n), (.rw, TWI_CCMD.addr n), (.rw, TWI_CCMD.rd_len n), (.rw, TWI_CCMD.wr_len n)] | _ => []⟩
def TWI_CRES.busy (n : Nat) : Fld := ⟨(0x1001024 + 0x100 * n), 31, 1, 0⟩
def TWI_CRES.count (n : Nat) : Fld := ⟨(0x1001024 + 0x100 * n), 8, 8, 0⟩
def TWI_CRES.code (n : Nat) : Fld := ⟨(0x1001024 + 0x100 * n), 0, 8, 0⟩
/-- TWI_CRES (R494). -/
def TWI_CRES.desc : RegDesc := ⟨0x1001024, false, [(16, 0x100)], fun | [n] => [(.ro, TWI_CRES.busy n), (.ro, TWI_CRES.count n), (.ro, TWI_CRES.code n)] | _ => []⟩
def TWI_CTX.data (n w : Nat) : Fld := ⟨(0x1001040 + 0x100 * n + 0x4 * w), 0, 32, 0⟩
/-- TWI_CTX (R494). -/
def TWI_CTX.desc : RegDesc := ⟨0x1001040, false, [(16, 0x100), (8, 0x4)], fun | [n, w] => [(.rw, TWI_CTX.data n w)] | _ => []⟩
def TWI_CRX.data (n w : Nat) : Fld := ⟨(0x1001080 + 0x100 * n + 0x4 * w), 0, 32, 0⟩
/-- TWI_CRX (R494). -/
def TWI_CRX.desc : RegDesc := ⟨0x1001080, false, [(16, 0x100), (9, 0x4)], fun | [n, w] => [(.ro, TWI_CRX.data n w)] | _ => []⟩
def MEM_STAT.lp_state : Fld := ⟨0x1100000, 30, 2, 0⟩
def MEM_STAT.retained : Fld := ⟨0x1100000, 29, 1, 0⟩
def MEM_STAT.good : Fld := ⟨0x1100000, 23, 6, 0⟩
def MEM_STAT.rate : Fld := ⟨0x1100000, 21, 2, 0⟩
def MEM_STAT.wipe : Fld := ⟨0x1100000, 0, 6, 0x3f⟩
/-- MEM_STAT (R513). -/
def MEM_STAT.desc : RegDesc := ⟨0x1100000, false, [], fun _ => [(.ro, MEM_STAT.lp_state), (.ro, MEM_STAT.retained), (.ro, MEM_STAT.good), (.ro, MEM_STAT.rate), (.ro, MEM_STAT.wipe)]⟩
def MEM_EVT.wipe : Fld := ⟨0x1100004, 6, 1, 0⟩
def MEM_EVT.chan_fail : Fld := ⟨0x1100004, 5, 1, 0⟩
def MEM_EVT.train : Fld := ⟨0x1100004, 4, 1, 0⟩
def MEM_EVT.spare_out : Fld := ⟨0x1100004, 3, 1, 0⟩
def MEM_EVT.repair : Fld := ⟨0x1100004, 2, 1, 0⟩
def MEM_EVT.ue : Fld := ⟨0x1100004, 1, 1, 0⟩
def MEM_EVT.ce : Fld := ⟨0x1100004, 0, 1, 0⟩
/-- MEM_EVT (R513). -/
def MEM_EVT.desc : RegDesc := ⟨0x1100004, false, [], fun _ => [(.w1c, MEM_EVT.wipe), (.w1c, MEM_EVT.chan_fail), (.w1c, MEM_EVT.train), (.w1c, MEM_EVT.spare_out), (.w1c, MEM_EVT.repair), (.w1c, MEM_EVT.ue), (.w1c, MEM_EVT.ce)]⟩
def MEM_EVTEN.en : Fld := ⟨0x1100008, 0, 7, 0⟩
/-- MEM_EVTEN (R513). -/
def MEM_EVTEN.desc : RegDesc := ⟨0x1100008, false, [], fun _ => [(.rw, MEM_EVTEN.en)]⟩
def MEM_REPCFG.window : Fld := ⟨0x110000c, 16, 16, 0xe10⟩
def MEM_REPCFG.thr : Fld := ⟨0x110000c, 8, 8, 8⟩
def MEM_REPCFG.en : Fld := ⟨0x110000c, 0, 1, 1⟩
/-- MEM_REPCFG (R513). -/
def MEM_REPCFG.desc : RegDesc := ⟨0x110000c, false, [], fun _ => [(.koRwt, MEM_REPCFG.window), (.koRwt, MEM_REPCFG.thr), (.koRwt, MEM_REPCFG.en)]⟩
def MEM_REPAIR.used : Fld := ⟨0x1100010, 16, 16, 0⟩
def MEM_REPAIR.exhausted : Fld := ⟨0x1100010, 0, 16, 0⟩
/-- MEM_REPAIR (R513). -/
def MEM_REPAIR.desc : RegDesc := ⟨0x1100010, false, [], fun _ => [(.ro, MEM_REPAIR.used), (.ro, MEM_REPAIR.exhausted)]⟩
def MEM_LPCFG.fail_ue : Fld := ⟨0x1100014, 24, 8, 0x10⟩
def MEM_LPCFG.scrub_h : Fld := ⟨0x1100014, 8, 8, 0x18⟩
def MEM_LPCFG.rate_max : Fld := ⟨0x1100014, 1, 2, 0⟩
def MEM_LPCFG.scrub_en : Fld := ⟨0x1100014, 0, 1, 1⟩
/-- MEM_LPCFG (R513). -/
def MEM_LPCFG.desc : RegDesc := ⟨0x1100014, false, [], fun _ => [(.koRwt, MEM_LPCFG.fail_ue), (.koRwt, MEM_LPCFG.scrub_h), (.koRwt, MEM_LPCFG.rate_max), (.koRwt, MEM_LPCFG.scrub_en)]⟩
def MEM_LPTOP.top : Fld := ⟨0x1100018, 0, 64, 0⟩
/-- MEM_LPTOP (R513). -/
def MEM_LPTOP.desc : RegDesc := ⟨0x1100018, true, [], fun _ => [(.ro, MEM_LPTOP.top)]⟩
def MEM_LPSCRUB.pos : Fld := ⟨0x1100020, 0, 64, 0⟩
/-- MEM_LPSCRUB (R513). -/
def MEM_LPSCRUB.desc : RegDesc := ⟨0x1100020, true, [], fun _ => [(.ro, MEM_LPSCRUB.pos)]⟩
def MEM_RCE.count (r : Nat) : Fld := ⟨(0x1100100 + 0x20 * r), 0, 32, 0⟩
/-- MEM_RCE (R514). -/
def MEM_RCE.desc : RegDesc := ⟨0x1100100, false, [(6, 0x20)], fun | [r] => [(.rc, MEM_RCE.count r)] | _ => []⟩
def MEM_RUE.count (r : Nat) : Fld := ⟨(0x1100104 + 0x20 * r), 0, 32, 0⟩
/-- MEM_RUE (R514). -/
def MEM_RUE.desc : RegDesc := ⟨0x1100104, false, [(6, 0x20)], fun | [r] => [(.rc, MEM_RUE.count r)] | _ => []⟩
def MEM_RUEADDR.addr (r : Nat) : Fld := ⟨(0x1100108 + 0x20 * r), 0, 64, 0⟩
/-- MEM_RUEADDR (R514). -/
def MEM_RUEADDR.desc : RegDesc := ⟨0x1100108, true, [(6, 0x20)], fun | [r] => [(.ro, MEM_RUEADDR.addr r)] | _ => []⟩
def MEM_RSCRUB.passes (r : Nat) : Fld := ⟨(0x1100110 + 0x20 * r), 0, 32, 0⟩
/-- MEM_RSCRUB (R514). -/
def MEM_RSCRUB.desc : RegDesc := ⟨0x1100110, false, [(6, 0x20)], fun | [r] => [(.ro, MEM_RSCRUB.passes r)] | _ => []⟩
def MEM_RCEALARM.alarm (r : Nat) : Fld := ⟨(0x1100114 + 0x20 * r), 0, 32, 0x400⟩
/-- MEM_RCEALARM (R514). -/
def MEM_RCEALARM.desc : RegDesc := ⟨0x1100114, false, [(6, 0x20)], fun | [r] => [(.rw, MEM_RCEALARM.alarm r)] | _ => []⟩
def MEM_LPCH.state (c : Nat) : Fld := ⟨(0x1100400 + 0x10 * c), 30, 2, 0⟩
def MEM_LPCH.mr4 (c : Nat) : Fld := ⟨(0x1100400 + 0x10 * c), 24, 5, 0⟩
def MEM_LPCH.attempts (c : Nat) : Fld := ⟨(0x1100400 + 0x10 * c), 16, 8, 0⟩
/-- MEM_LPCH (R515). -/
def MEM_LPCH.desc : RegDesc := ⟨0x1100400, false, [(48, 0x10)], fun | [c] => [(.ro, MEM_LPCH.state c), (.ro, MEM_LPCH.mr4 c), (.ro, MEM_LPCH.attempts c)] | _ => []⟩
def MEM_LPCHCE.count (c : Nat) : Fld := ⟨(0x1100404 + 0x10 * c), 0, 32, 0⟩
/-- MEM_LPCHCE (R515). -/
def MEM_LPCHCE.desc : RegDesc := ⟨0x1100404, false, [(48, 0x10)], fun | [c] => [(.rc, MEM_LPCHCE.count c)] | _ => []⟩
def MEM_LPCHUE.count (c : Nat) : Fld := ⟨(0x1100408 + 0x10 * c), 0, 32, 0⟩
/-- MEM_LPCHUE (R515). -/
def MEM_LPCHUE.desc : RegDesc := ⟨0x1100408, false, [(48, 0x10)], fun | [c] => [(.rc, MEM_LPCHUE.count c)] | _ => []⟩
def MEM_LPCHEYE.write (c : Nat) : Fld := ⟨(0x110040c + 0x10 * c), 16, 16, 0⟩
def MEM_LPCHEYE.read (c : Nat) : Fld := ⟨(0x110040c + 0x10 * c), 0, 16, 0⟩
/-- MEM_LPCHEYE (R515). -/
def MEM_LPCHEYE.desc : RegDesc := ⟨0x110040c, false, [(48, 0x10)], fun | [c] => [(.ro, MEM_LPCHEYE.write c), (.ro, MEM_LPCHEYE.read c)] | _ => []⟩
def PMC_CTL.snap : Fld := ⟨0x1200000, 0, 1, 0⟩
/-- PMC_CTL (R533). -/
def PMC_CTL.desc : RegDesc := ⟨0x1200000, false, [], fun _ => [(.wo, PMC_CTL.snap)]⟩
def PMC_EVT.bw : Fld := ⟨0x1200004, 1, 1, 0⟩
def PMC_EVT.ovf : Fld := ⟨0x1200004, 0, 1, 0⟩
/-- PMC_EVT (R533). -/
def PMC_EVT.desc : RegDesc := ⟨0x1200004, false, [], fun _ => [(.w1c, PMC_EVT.bw), (.w1c, PMC_EVT.ovf)]⟩
def PMC_EVTEN.en : Fld := ⟨0x1200008, 0, 2, 0⟩
/-- PMC_EVTEN (R533). -/
def PMC_EVTEN.desc : RegDesc := ⟨0x1200008, false, [], fun _ => [(.rw, PMC_EVTEN.en)]⟩
def PMC_START.stamp : Fld := ⟨0x1200010, 0, 64, 0⟩
/-- PMC_START (R533). -/
def PMC_START.desc : RegDesc := ⟨0x1200010, true, [], fun _ => [(.rw, PMC_START.stamp)]⟩
def PMC_STOP.stamp : Fld := ⟨0x1200018, 0, 64, 0⟩
/-- PMC_STOP (R533). -/
def PMC_STOP.desc : RegDesc := ⟨0x1200018, true, [], fun _ => [(.rw, PMC_STOP.stamp)]⟩
def PMC_OVF.ovf : Fld := ⟨0x1200020, 0, 64, 0⟩
/-- PMC_OVF (R533). -/
def PMC_OVF.desc : RegDesc := ⟨0x1200020, true, [], fun _ => [(.w1c, PMC_OVF.ovf)]⟩
def PMC_SNAPT.stamp : Fld := ⟨0x1200030, 0, 64, 0⟩
/-- PMC_SNAPT (R533). -/
def PMC_SNAPT.desc : RegDesc := ⟨0x1200030, true, [], fun _ => [(.ro, PMC_SNAPT.stamp)]⟩
def PMC_BWWIN.us : Fld := ⟨0x1200038, 0, 20, 0x3e8⟩
/-- PMC_BWWIN (R533). -/
def PMC_BWWIN.desc : RegDesc := ⟨0x1200038, false, [], fun _ => [(.rw, PMC_BWWIN.us)]⟩
def PMC_BWSEQ.count : Fld := ⟨0x120003c, 0, 32, 0⟩
/-- PMC_BWSEQ (R533). -/
def PMC_BWSEQ.desc : RegDesc := ⟨0x120003c, false, [], fun _ => [(.ro, PMC_BWSEQ.count)]⟩
def PMC_CFG.en (i : Nat) : Fld := ⟨(0x1200100 + 0x4 * i), 31, 1, 0⟩
def PMC_CFG.irq (i : Nat) : Fld := ⟨(0x1200100 + 0x4 * i), 30, 1, 0⟩
def PMC_CFG.core (i : Nat) : Fld := ⟨(0x1200100 + 0x4 * i), 27, 3, 1⟩
def PMC_CFG.filter (i : Nat) : Fld := ⟨(0x1200100 + 0x4 * i), 12, 8, 0⟩
def PMC_CFG.event (i : Nat) : Fld := ⟨(0x1200100 + 0x4 * i), 0, 12, 0⟩
/-- PMC_CFG (R533). -/
def PMC_CFG.desc : RegDesc := ⟨0x1200100, false, [(64, 0x4)], fun | [i] => [(.rw, PMC_CFG.en i), (.rw, PMC_CFG.irq i), (.rw, PMC_CFG.core i), (.rw, PMC_CFG.filter i), (.rw, PMC_CFG.event i)] | _ => []⟩
def PMC_CNT.count (i : Nat) : Fld := ⟨(0x1200200 + 0x8 * i), 0, 48, 0⟩
/-- PMC_CNT (R533). -/
def PMC_CNT.desc : RegDesc := ⟨0x1200200, true, [(64, 0x8)], fun | [i] => [(.rw, PMC_CNT.count i)] | _ => []⟩
def PMC_SNAP.count (i : Nat) : Fld := ⟨(0x1200400 + 0x8 * i), 0, 64, 0⟩
/-- PMC_SNAP (R533). -/
def PMC_SNAP.desc : RegDesc := ⟨0x1200400, true, [(64, 0x8)], fun | [i] => [(.ro, PMC_SNAP.count i)] | _ => []⟩
def PMC_OVFPC.pc (i : Nat) : Fld := ⟨(0x1200600 + 0x8 * i), 0, 64, 0⟩
/-- PMC_OVFPC (R533). -/
def PMC_OVFPC.desc : RegDesc := ⟨0x1200600, true, [(64, 0x8)], fun | [i] => [(.ro, PMC_OVFPC.pc i)] | _ => []⟩
def PMC_BWRD.bytes (p : Nat) : Fld := ⟨(0x1200800 + 0x10 * p), 0, 64, 0⟩
/-- PMC_BWRD (R533). -/
def PMC_BWRD.desc : RegDesc := ⟨0x1200800, true, [(32, 0x10)], fun | [p] => [(.ro, PMC_BWRD.bytes p)] | _ => []⟩
def PMC_BWWR.bytes (p : Nat) : Fld := ⟨(0x1200808 + 0x10 * p), 0, 64, 0⟩
/-- PMC_BWWR (R533). -/
def PMC_BWWR.desc : RegDesc := ⟨0x1200808, true, [(32, 0x10)], fun | [p] => [(.ro, PMC_BWWR.bytes p)] | _ => []⟩
def TAM_STAT.unlocked : Fld := ⟨0x1280000, 31, 1, 0⟩
def TAM_STAT.busy : Fld := ⟨0x1280000, 30, 1, 0⟩
def TAM_STAT.refused : Fld := ⟨0x1280000, 29, 1, 0⟩
def TAM_STAT.code : Fld := ⟨0x1280000, 16, 8, 0⟩
def TAM_STAT.ir : Fld := ⟨0x1280000, 8, 8, 0xff⟩
/-- TAM_STAT (R534). -/
def TAM_STAT.desc : RegDesc := ⟨0x1280000, false, [], fun _ => [(.ro, TAM_STAT.unlocked), (.ro, TAM_STAT.busy), (.w1c, TAM_STAT.refused), (.ro, TAM_STAT.code), (.ro, TAM_STAT.ir)]⟩
def TAM_EVT.refused : Fld := ⟨0x1280004, 1, 1, 0⟩
def TAM_EVT.unlock : Fld := ⟨0x1280004, 0, 1, 0⟩
/-- TAM_EVT (R534). -/
def TAM_EVT.desc : RegDesc := ⟨0x1280004, false, [], fun _ => [(.w1c, TAM_EVT.refused), (.w1c, TAM_EVT.unlock)]⟩
def TAM_EVTEN.en : Fld := ⟨0x1280008, 0, 2, 0⟩
/-- TAM_EVTEN (R534). -/
def TAM_EVTEN.desc : RegDesc := ⟨0x1280008, false, [], fun _ => [(.rw, TAM_EVTEN.en)]⟩
def TAM_UNLOCK.go : Fld := ⟨0x1280010, 0, 1, 0⟩
/-- TAM_UNLOCK (R534). -/
def TAM_UNLOCK.desc : RegDesc := ⟨0x1280010, false, [], fun _ => [(.wo, TAM_UNLOCK.go)]⟩
def TAM_DSEL.en (k : Nat) : Fld := ⟨(0x1280020 + 0x4 * k), 31, 1, 0⟩
def TAM_DSEL.group (k : Nat) : Fld := ⟨(0x1280020 + 0x4 * k), 12, 4, 0⟩
def TAM_DSEL.index (k : Nat) : Fld := ⟨(0x1280020 + 0x4 * k), 0, 12, 0⟩
/-- TAM_DSEL (R534). -/
def TAM_DSEL.desc : RegDesc := ⟨0x1280020, false, [(8, 0x4)], fun | [k] => [(.rw, TAM_DSEL.en k), (.rw, TAM_DSEL.group k), (.rw, TAM_DSEL.index k)] | _ => []⟩
def TAM_ASEL.en (a : Nat) : Fld := ⟨(0x1280040 + 0x4 * a), 31, 1, 0⟩
def TAM_ASEL.index (a : Nat) : Fld := ⟨(0x1280040 + 0x4 * a), 8, 8, 0⟩
def TAM_ASEL.source (a : Nat) : Fld := ⟨(0x1280040 + 0x4 * a), 0, 8, 0⟩
/-- TAM_ASEL (R534). -/
def TAM_ASEL.desc : RegDesc := ⟨0x1280040, false, [(2, 0x4)], fun | [a] => [(.rw, TAM_ASEL.en a), (.rw, TAM_ASEL.index a), (.rw, TAM_ASEL.source a)] | _ => []⟩
def TAM_TOKBUF.token (w : Nat) : Fld := ⟨(0x1281000 + 0x4 * w), 0, 32, 0⟩
/-- TAM_TOKBUF (R534). -/
def TAM_TOKBUF.desc : RegDesc := ⟨0x1281000, false, [(769, 0x4)], fun | [w] => [(.wo, TAM_TOKBUF.token w)] | _ => []⟩
def CRP_CAUSE.cold : Fld := ⟨0x1300000, 24, 8, 0⟩
def CRP_CAUSE.mgmt : Fld := ⟨0x1300000, 16, 8, 0⟩
def CRP_CAUSE.pred : Fld := ⟨0x1300000, 8, 8, 0⟩
/-- CRP_CAUSE (R559). -/
def CRP_CAUSE.desc : RegDesc := ⟨0x1300000, false, [], fun _ => [(.ro, CRP_CAUSE.cold), (.ro, CRP_CAUSE.mgmt), (.ro, CRP_CAUSE.pred)]⟩
def CRP_RSTCNT.cold : Fld := ⟨0x1300004, 16, 16, 0⟩
def CRP_RSTCNT.mgmt : Fld := ⟨0x1300004, 0, 16, 0⟩
/-- CRP_RSTCNT (R559). -/
def CRP_RSTCNT.desc : RegDesc := ⟨0x1300004, false, [], fun _ => [(.ro, CRP_RSTCNT.cold), (.ro, CRP_RSTCNT.mgmt)]⟩
def CRP_EVT.xing : Fld := ⟨0x1300008, 4, 1, 0⟩
def CRP_EVT.ref : Fld := ⟨0x1300008, 3, 1, 0⟩
def CRP_EVT.pll : Fld := ⟨0x1300008, 2, 1, 0⟩
def CRP_EVT.sb_refused : Fld := ⟨0x1300008, 1, 1, 0⟩
def CRP_EVT.mreset : Fld := ⟨0x1300008, 0, 1, 0⟩
/-- CRP_EVT (R559). -/
def CRP_EVT.desc : RegDesc := ⟨0x1300008, false, [], fun _ => [(.w1c, CRP_EVT.xing), (.w1c, CRP_EVT.ref), (.w1c, CRP_EVT.pll), (.w1c, CRP_EVT.sb_refused), (.w1c, CRP_EVT.mreset)]⟩
def CRP_EVTEN.en : Fld := ⟨0x130000c, 0, 5, 0⟩
/-- CRP_EVTEN (R559). -/
def CRP_EVTEN.desc : RegDesc := ⟨0x130000c, false, [], fun _ => [(.rw, CRP_EVTEN.en)]⟩
def CRP_RSTCTL.key_ : Fld := ⟨0x1300010, 16, 16, 0⟩
def CRP_RSTCTL.pred : Fld := ⟨0x1300010, 2, 1, 0⟩
def CRP_RSTCTL.mgmt : Fld := ⟨0x1300010, 1, 1, 0⟩
def CRP_RSTCTL.cold : Fld := ⟨0x1300010, 0, 1, 0⟩
/-- CRP_RSTCTL (R559). -/
def CRP_RSTCTL.desc : RegDesc := ⟨0x1300010, false, [], fun _ => [(.ko, CRP_RSTCTL.key_), (.ko, CRP_RSTCTL.pred), (.ko, CRP_RSTCTL.mgmt), (.ko, CRP_RSTCTL.cold)]⟩
def CRP_WDOGCFG.en : Fld := ⟨0x1300014, 31, 1, 0⟩
def CRP_WDOGCFG.period : Fld := ⟨0x1300014, 0, 16, 0x3e8⟩
/-- CRP_WDOGCFG (R559). -/
def CRP_WDOGCFG.desc : RegDesc := ⟨0x1300014, false, [], fun _ => [(.ko, CRP_WDOGCFG.en), (.ko, CRP_WDOGCFG.period)]⟩
def CRP_WDOGKICK.key_ : Fld := ⟨0x1300018, 0, 32, 0⟩
/-- CRP_WDOGKICK (R559). -/
def CRP_WDOGKICK.desc : RegDesc := ⟨0x1300018, false, [], fun _ => [(.ko, CRP_WDOGKICK.key_)]⟩
def CRP_WDOGLEFT.ms : Fld := ⟨0x130001c, 0, 16, 0⟩
/-- CRP_WDOGLEFT (R559). -/
def CRP_WDOGLEFT.desc : RegDesc := ⟨0x130001c, false, [], fun _ => [(.ro, CRP_WDOGLEFT.ms)]⟩
def CRP_PFSTAT.aux12 : Fld := ⟨0x1300020, 16, 16, 0⟩
def CRP_PFSTAT.ext : Fld := ⟨0x1300020, 1, 1, 0⟩
def CRP_PFSTAT.warn : Fld := ⟨0x1300020, 0, 1, 0⟩
/-- CRP_PFSTAT (R559). -/
def CRP_PFSTAT.desc : RegDesc := ⟨0x1300020, false, [], fun _ => [(.ro, CRP_PFSTAT.aux12), (.ro, CRP_PFSTAT.ext), (.ro, CRP_PFSTAT.warn)]⟩
def CRP_SUPSTAT.supply_en : Fld := ⟨0x1300024, 1, 1, 1⟩
def CRP_SUPSTAT.supply_pg : Fld := ⟨0x1300024, 0, 1, 1⟩
/-- CRP_SUPSTAT (R559). -/
def CRP_SUPSTAT.desc : RegDesc := ⟨0x1300024, false, [], fun _ => [(.ro, CRP_SUPSTAT.supply_en), (.ro, CRP_SUPSTAT.supply_pg)]⟩
def CRP_PLLSTAT.run : Fld := ⟨0x1300030, 8, 8, 3⟩
def CRP_PLLSTAT.lock : Fld := ⟨0x1300030, 0, 8, 3⟩
/-- CRP_PLLSTAT (R559). -/
def CRP_PLLSTAT.desc : RegDesc := ⟨0x1300030, false, [], fun _ => [(.ro, CRP_PLLSTAT.run), (.ro, CRP_PLLSTAT.lock)]⟩
def CRP_PLLLOSS.count : Fld := ⟨0x1300034, 0, 32, 0⟩
/-- CRP_PLLLOSS (R559). -/
def CRP_PLLLOSS.desc : RegDesc := ⟨0x1300034, false, [], fun _ => [(.rc, CRP_PLLLOSS.count)]⟩
def CRP_CLKSTAT.ref_lost : Fld := ⟨0x1300038, 2, 1, 0⟩
def CRP_CLKSTAT.throttle : Fld := ⟨0x1300038, 1, 1, 0⟩
def CRP_CLKSTAT.xtal_ok : Fld := ⟨0x1300038, 0, 1, 0⟩
/-- CRP_CLKSTAT (R559). -/
def CRP_CLKSTAT.desc : RegDesc := ⟨0x1300038, false, [], fun _ => [(.ro, CRP_CLKSTAT.ref_lost), (.ro, CRP_CLKSTAT.throttle), (.ro, CRP_CLKSTAT.xtal_ok)]⟩
def CRP_SBCTL.enter : Fld := ⟨0x1300040, 0, 1, 0⟩
/-- CRP_SBCTL (R559). -/
def CRP_SBCTL.desc : RegDesc := ⟨0x1300040, false, [], fun _ => [(.ko, CRP_SBCTL.enter)]⟩
def CRP_SBSTAT.code : Fld := ⟨0x1300044, 0, 8, 0⟩
/-- CRP_SBSTAT (R559). -/
def CRP_SBSTAT.desc : RegDesc := ⟨0x1300044, false, [], fun _ => [(.ro, CRP_SBSTAT.code)]⟩
def CRP_WAKEEN.en : Fld := ⟨0x1300048, 0, 6, 0x17⟩
/-- CRP_WAKEEN (R559). -/
def CRP_WAKEEN.desc : RegDesc := ⟨0x1300048, false, [], fun _ => [(.ko, CRP_WAKEEN.en)]⟩
def CRP_WAKESRC.src : Fld := ⟨0x130004c, 0, 6, 0⟩
/-- CRP_WAKESRC (R559). -/
def CRP_WAKESRC.desc : RegDesc := ⟨0x130004c, false, [], fun _ => [(.ro, CRP_WAKESRC.src)]⟩
def CRP_RTC.count : Fld := ⟨0x1300050, 0, 64, 0⟩
/-- CRP_RTC (R559). -/
def CRP_RTC.desc : RegDesc := ⟨0x1300050, true, [], fun _ => [(.ro, CRP_RTC.count)]⟩
def CRP_WAKEAT.at_ : Fld := ⟨0x1300058, 0, 64, 0⟩
/-- CRP_WAKEAT (R559). -/
def CRP_WAKEAT.desc : RegDesc := ⟨0x1300058, true, [], fun _ => [(.ko, CRP_WAKEAT.at_)]⟩
def CRP_QCTL.active : Fld := ⟨0x1300060, 1, 1, 0⟩
def CRP_QCTL.en : Fld := ⟨0x1300060, 0, 1, 1⟩
/-- CRP_QCTL (R559). -/
def CRP_QCTL.desc : RegDesc := ⟨0x1300060, false, [], fun _ => [(.ro, CRP_QCTL.active), (.koRwt, CRP_QCTL.en)]⟩
def CRP_QSKIP.count : Fld := ⟨0x1300064, 0, 32, 0⟩
/-- CRP_QSKIP (R559). -/
def CRP_QSKIP.desc : RegDesc := ⟨0x1300064, false, [], fun _ => [(.rc, CRP_QSKIP.count)]⟩
def CRP_XWANDER.peak (x : Nat) : Fld := ⟨(0x1300080 + 0x4 * x), 16, 16, 0⟩
def CRP_XWANDER.now (x : Nat) : Fld := ⟨(0x1300080 + 0x4 * x), 0, 16, 0⟩
/-- CRP_XWANDER (R559). -/
def CRP_XWANDER.desc : RegDesc := ⟨0x1300080, false, [(6, 0x4)], fun | [x] => [(.ro, CRP_XWANDER.peak x), (.ro, CRP_XWANDER.now x)] | _ => []⟩
/-- The registers of block KPR. -/
def descsKPR : List RegDesc :=
  [KPR_LCSTAT.desc, KPR_BOOT.desc, KPR_VERIFY.desc, KPR_SERIAL.desc, KPR_SVNMIN.desc, KPR_SVN.desc, KPR_CORES.desc, KPR_ATTIDX.desc, KPR_ATTLEFT.desc, KPR_LCNONCE.desc, KPR_KEYSLOT.desc, KPR_GATESTAT.desc, KPR_GQUEUE.desc, KPR_CORECTL.desc, KPR_COREVEC.desc, KPR_CORESPARE.desc, KPR_KEYLOCK.desc, KPR_GRANT.desc, KPR_GATEPEND.desc]
/-- The registers of block IMG. -/
def descsIMG : List RegDesc :=
  [IMG_STAT.desc, IMG_EVT.desc, IMG_EVTEN.desc, IMG_PROG.desc, IMG_LEDGER.desc, IMG_LSEQ.desc, IMG_TRIAL.desc, IMG_SDESC.desc, IMG_GDESC.desc, IMG_SCOUNT.desc, IMG_GCOUNT.desc, IMG_SVER.desc, IMG_GVER.desc, IMG_SSVN.desc, IMG_GSVN.desc]
/-- The registers of block HIF. -/
def descsHIF : List RegDesc :=
  [HIF_STAT.desc, HIF_EVT.desc, HIF_EVTEN.desc, HIF_CTL.desc, HIF_PCIID.desc, HIF_SUBSYS.desc, HIF_VER.desc, HIF_ORDSEQ.desc, HIF_HABASE.desc, HIF_HASIZE.desc, HIF_AERCOR.desc, HIF_AERUNC.desc, HIF_LINKDN.desc, HIF_B2SEG.desc, HIF_IVEC.desc, HIF_RCVCTL.desc, HIF_RCVLEN.desc, HIF_RCVSTAT.desc, HIF_SVCRSP.desc, HIF_SVCPUSH.desc, HIF_SVCSTAT.desc, HIF_SVCQBASE.desc, HIF_SVCQPTR.desc, HIF_DRPOS.desc, HIF_RQBASE.desc, HIF_RSBASE.desc, HIF_RCB.desc, HIF_RTWB.desc, HIF_RCFG.desc, HIF_RCTL.desc, HIF_RSTAT.desc, HIF_RERRSEQ.desc, HIF_DB.desc, HIF_DMASRC.desc, HIF_DMADST.desc, HIF_DMALEN.desc, HIF_DMACTL.desc, HIF_DMASTAT.desc, HIF_DMADONE.desc,
   HIF_MSIX.descLo, HIF_MSIX.descHi, HIF_MSIX.descData, HIF_MSIX.descMask, HIF_PBA.desc]
/-- The registers of block TWI. -/
def descsTWI : List RegDesc :=
  [TWI_EVT.desc, TWI_EVTEN.desc, TWI_STRAP.desc, TWI_TCFG.desc, TWI_ORDSEQ.desc, TWI_TPECERR.desc, TWI_TWDISC.desc, TWI_SURV.desc, TWI_PCFG.desc, TWI_PSTAT.desc, TWI_PNACK.desc, TWI_PARB.desc, TWI_PTOUT.desc, TWI_PRECOV.desc, TWI_CCMD.desc, TWI_CRES.desc, TWI_CTX.desc, TWI_CRX.desc]
/-- The registers of block MEM. -/
def descsMEM : List RegDesc :=
  [MEM_STAT.desc, MEM_EVT.desc, MEM_EVTEN.desc, MEM_REPCFG.desc, MEM_REPAIR.desc, MEM_LPCFG.desc, MEM_LPTOP.desc, MEM_LPSCRUB.desc, MEM_RCE.desc, MEM_RUE.desc, MEM_RUEADDR.desc, MEM_RSCRUB.desc, MEM_RCEALARM.desc, MEM_LPCH.desc, MEM_LPCHCE.desc, MEM_LPCHUE.desc, MEM_LPCHEYE.desc]
/-- The registers of block PMC. -/
def descsPMC : List RegDesc :=
  [PMC_CTL.desc, PMC_EVT.desc, PMC_EVTEN.desc, PMC_START.desc, PMC_STOP.desc, PMC_OVF.desc, PMC_SNAPT.desc, PMC_BWWIN.desc, PMC_BWSEQ.desc, PMC_CFG.desc, PMC_CNT.desc, PMC_SNAP.desc, PMC_OVFPC.desc, PMC_BWRD.desc, PMC_BWWR.desc]
/-- The registers of block TAM. -/
def descsTAM : List RegDesc :=
  [TAM_STAT.desc, TAM_EVT.desc, TAM_EVTEN.desc, TAM_UNLOCK.desc, TAM_DSEL.desc, TAM_ASEL.desc, TAM_TOKBUF.desc]
/-- The registers of block CRP. -/
def descsCRP : List RegDesc :=
  [CRP_CAUSE.desc, CRP_RSTCNT.desc, CRP_EVT.desc, CRP_EVTEN.desc, CRP_RSTCTL.desc, CRP_WDOGCFG.desc, CRP_WDOGKICK.desc, CRP_WDOGLEFT.desc, CRP_PFSTAT.desc, CRP_SUPSTAT.desc, CRP_PLLSTAT.desc, CRP_PLLLOSS.desc, CRP_CLKSTAT.desc, CRP_SBCTL.desc, CRP_SBSTAT.desc, CRP_WAKEEN.desc, CRP_WAKESRC.desc, CRP_RTC.desc, CRP_WAKEAT.desc, CRP_QCTL.desc, CRP_QSKIP.desc, CRP_XWANDER.desc]

end Sys2Proof.Machine
end

