-- ==== Sys2Proof/Machine/State.lean ====
section
/-! DEFINITION. The state of the OR8, the faults and refusals a command can end in, and the state right after reset. -/

namespace Sys2Proof.Machine

/-- Why a step can stop with a fault. -/
inductive Fault where
  /-- A sampled value lies outside its converter's range: the spec defines no behaviour outside the ratings (R1). Raised by
  CONTROL_TICK. Safe: nothing is claimed of such a run. -/
  | outsideRatings
  deriving DecidableEq, Repr

/-- Why a step can be refused. -/
inductive Refusal where
  /-- A command that has no meaning yet. Raised by Dispatch alone. Safe. -/
  | notModelled (mnemonic : String)
  deriving DecidableEq, Repr

/-- The machine. `regs` holds every register field of the spec's tables, every input signal and every scalar the rules name
that no register shows, each under the name its definition in Regs*, Signals or Internal gives it; a field that is not listed
reads its reset value. -/
structure State where
  regs : SMap Nat
  /-- Device physical memory (R36), host memory and the external flashes, byte by byte. -/
  mem : List Host.Cell
  /-- Tray time (R40). -/
  now : Nat
  firn : Firn
  orders : Orders
  staging : Staging
  tx : Tx
  bus : Bus
  /-- Lanes, links and hints (chapters 4, 5 and 8), by number. -/
  lanes : SMap Lane
  links : SMap Link
  hints : List Hint
  prd : SMap PrdSlot
  fab : Fab
  /-- Jobs, by descriptor number (chapter 8). -/
  jobs : SMap JobRun
  /-- The gated queue of the keeper, oldest first (R405). -/
  gq : List Queued
  /-- BUFFER requests waiting to be filled, oldest first (R462). -/
  bufs : List HostBuf
  memu : MemUnit
  pmu : PmcUnit
  /-- Addresses of 8-byte words that hold an uncorrectable error (R496). -/
  ue : List Nat
  /-- Commands that wait, first in, first out. -/
  pending : List Instr
  deriving DecidableEq, Repr

/-- The machine right after reset: every field at its reset value, nothing recorded, ordered, staged or waiting. -/
def State.reset : State where
  regs := []
  mem := []
  now := 0
  firn := {}
  orders := {}
  staging := {}
  tx := {}
  bus := {}
  lanes := []
  links := []
  hints := []
  prd := []
  fab := {}
  jobs := []
  gq := []
  bufs := []
  memu := {}
  pmu := {}
  ue := []
  pending := []

end Sys2Proof.Machine
end

