-- ==== Sys2Proof/Machine/Ops.lean ====
section
/-! DEFINITION. The one vocabulary in which a command changes the machine: a list of updates, applied in order. Every meaning
is `.next (s.run …)` of such lists, so what a step can do is said once, by `State.apply`. -/

namespace Sys2Proof.Machine

/-- The value of a field in a register file. -/
def regsRd (m : SMap Nat) (f : Fld) : Nat := tableGet f.reset m f.key % 2 ^ f.width

/-- The value of a field. -/
def State.rd (s : State) (f : Fld) : Nat := regsRd s.regs f

/-- A one-bit field is set. -/
def State.on (s : State) (f : Fld) : Bool := s.rd f == 1

/-- The signed value of a field. -/
def State.rdI (s : State) (f : Fld) : Int := toSigned f.width (s.rd f)

/-- The register file with `v`, cut to the field's width, in `f`. -/
def regsSet (m : SMap Nat) (f : Fld) (v : Nat) : SMap Nat := tablePut f.reset m f.key (v % 2 ^ f.width)

/-! Event lines and MSI-X (R463). -/

/-- Block event registers with their source numbers (R463); each block's enables stand in the next word. -/
def eventRegs : List (Nat × Nat) :=
  [(0x20_0010, 0), (0x24_0010, 1), (0x28_0010, 2), (0x2C_0010, 3), (0x30_0008, 4), (0x31_0008, 5), (0x32_0008, 6), (0x33_0008, 7),
   (0x34_0008, 8), (0x35_0008, 9), (0x36_0008, 10), (0x37_0008, 11), (0x40_0004, 12), (0x50_0008, 13), (0x60_0004, 14), (0x80_0008, 15),
   (0x90_0004, 16), (0xA0_0004, 17), (0xB0_0004, 18), (0xC0_0000, 19), (0xE0_0004, 20), (0xF0_0004, 22), (0x100_0000, 23), (0x110_0004, 24),
   (0x120_0004, 25), (0x130_0008, 26)]

/-- The event source of an address. -/
def lineOf (a : Nat) : Option Nat := (eventRegs.find? (fun e => e.1 == a)).map (·.2)

/-- A message of vector v may be sent: the function can master the bus in D0, MSI-X is on and the vector is not masked. -/
def vectorOpen (m : SMap Nat) (v : Nat) : Bool :=
  regsRd m HIF_STAT.bme == 1 && regsRd m HIF_STAT.dstate == 0 && regsRd m V.msixMask == 0 && regsRd m (HIF_MSIX.mask v) == 0

/-- A message is sent. -/
def sendVector (v : Nat) (m : SMap Nat) : SMap Nat := regsSet (regsSet m (V.msixSent v) (regsRd m (V.msixSent v) + 1)) V.msixNew (regsRd m V.msixNew + 1)

/-- Vector v of the 1,024 is raised: its message is sent, or its pending bit is set. -/
def raiseVector (v' : Nat) (m : SMap Nat) : SMap Nat :=
  let v := v' % 1024
  if regsRd m V.msixOn = 0 then m
  else if vectorOpen m v then sendVector v m
  else regsSet m (HIF_PBA.pend (v / 32)) (setBit (regsRd m (HIF_PBA.pend (v / 32))) (v % 32))

/-- Pending messages that may now be sent are sent. -/
def flushVectors (m : SMap Nat) : SMap Nat :=
  (List.range 1024).foldl (fun n v =>
    if bit (regsRd n (HIF_PBA.pend (v / 32))) (v % 32) && regsRd n V.msixOn == 1 && vectorOpen n v then
      sendVector v (regsSet n (HIF_PBA.pend (v / 32)) (clearBit (regsRd n (HIF_PBA.pend (v / 32))) (v % 32)))
    else n) m

/-- Event line s rises (R463). -/
def raiseLine (src : Nat) (m : SMap Nat) : SMap Nat :=
  if regsRd m (HIF_IVEC.en src) = 1 then raiseVector (regsRd m (HIF_IVEC.vector src)) m else m

/-- A field is written; an event bit that becomes 1 with its enable set raises its block's line. -/
def regsWrite (m : SMap Nat) (f : Fld) (v : Nat) : SMap Nat :=
  match lineOf f.addr with
  | none => regsSet m f v
  | some src =>
    if regsRd m f = 0 && v % 2 ^ f.width != 0 && bit (regsRd m ⟨f.addr + 4, 0, 16, 0⟩) f.lsb then raiseLine src (regsSet m f v) else regsSet m f v

/-- JRN's line rises whenever any bit of JRN_STAT sets. -/
def jrnLine (f g : Firn) (m : SMap Nat) : SMap Nat :=
  if (g.stageHi && !f.stageHi) || (g.overrun && !f.overrun) || (g.c0Full && !f.c0Full) then raiseLine 21 m else m

/-! Events of R522. -/

/-- n events of a kind and an instance. -/
def PmcUnit.add (u : PmcUnit) (ev inst n : Nat) : PmcUnit :=
  if n = 0 then u else { u with evts := tablePut 0 u.evts (ev * 16 + inst % 16) (tableGet 0 u.evts (ev * 16 + inst % 16) + n) }

/-- n bytes through a port. -/
def PmcUnit.carry (u : PmcUnit) (port : Nat) (isWrite : Bool) (n : Nat) : PmcUnit :=
  if n = 0 then u else { u with bw := tablePut 0 u.bw (2 * port + ofBool isWrite) (tableGet 0 u.bw (2 * port + ofBool isWrite) + n) }

/-- The physical core that runs as a logical one (R403, R408). -/
def physOf (m : SMap Nat) (n : Nat) : Nat :=
  if n = 0 then regsRd m KPR_BOOT.keeper_core else if regsRd m KPR_CORESPARE.replace = n && regsRd m KPR_BOOT.keeper_core != 5 then 5 else n

/-- A byte of a record's payload. -/
def Rec.payAt (r : Rec) (i : Nat) : Nat := ((r.pay.find? (fun e => e.1 == i)).map (·.2.2)).getD 0

/-- The event that a record of a type counts as, and its instance. -/
def recEvent (m : SMap Nat) (r : Rec) : Option (Nat × Nat) :=
  if r.cont then none
  else if r.typ = Ty.BRAKE then (if r.payAt 24 = 1 then some (0x030, r.src % 0x1000) else none)
  else if r.typ = Ty.PHASE_FAULT then some (0x033, r.src % 0x1000 / 128)
  else if r.typ = Ty.STAGE_APPLY then some (0x036, 0)
  else if r.typ = Ty.STAGE_INCOMPLETE then some (0x037, 0)
  else if r.typ = Ty.ORDER then some (0x038, r.orderSrc - 1)
  else if r.typ = Ty.DISCARDED_WRITE && r.payAt 25 == 2 && decide (r.payAt 24 ≤ 5) then some (0x016, physOf m (r.payAt 24))
  else none

/-- The event that a count register counts, and its instance. -/
def setEvent (f : Fld) : Option (Nat × Nat) :=
  if f = FAB_VARCNT.count then some (0x034, 0)
  else if f = FAB_SATCNT.count then some (0x035, 0)
  else if 0x30_0000 ≤ f.addr && f.addr < 0x38_0000 then
    (let o := f.addr % 0x1_0000
     let n := (f.addr - 0x30_0000) / 0x1_0000
     if o = 0x28 then some (0x040, n) else if o = 0x24 then some (0x041, n) else if o = 0x74 then some (0x042, n) else none)
  else if 0x50_1000 ≤ f.addr && f.addr < 0x50_1800 && f.addr % 0x100 = 0x34 then some (0x051, (f.addr - 0x50_1000) / 0x100)
  else (List.range 6).findSome? (fun r => if f = MEM_RCE.count r then some (0x060, r) else if f = MEM_RUE.count r then some (0x061, r) else none)

/-- A count register rises. -/
def PmcUnit.rises (u : PmcUnit) (f : Fld) (old v : Nat) : PmcUnit :=
  match setEvent f with
  | some e => u.add e.1 e.2 (v - old)
  | none => u

/-- One change of the machine. -/
inductive Upd where
  /-- A field takes a value, cut to its width. -/
  | set (f : Fld) (v : Nat)
  /-- Bytes are stored from an address up; a word rewritten whole holds no error any more. -/
  | store (a : Nat) (bs : List Nat)
  /-- A unit raises a record. -/
  | emit (r : Rec)
  /-- Tray time advances to `t`; it never steps back (R40). -/
  | clock (t : Nat)
  /-- Every field of the registers at addresses lo to hi - 1 takes its reset value. -/
  | resetRegs (lo hi : Nat)
  /-- Memory from lo to hi - 1 is wiped to zeros. -/
  | wipe (lo hi : Nat)
  /-- The Firn writer's own state is replaced. -/
  | firn (f : Firn)
  | orders (o : Orders)
  | staging (g : Staging)
  | tx (t : Tx)
  | bus (b : Bus)
  /-- A lane or link is replaced. -/
  | lane (i : Nat) (l : Lane)
  | link (n : Nat) (l : Link)
  | hints (hs : List Hint)
  | prd (n : Nat) (p : PrdSlot)
  | ue (l : List Nat)
  | fab (f : Fab)
  | job (j : Nat) (r : JobRun)
  | gq (l : List Queued)
  | bufs (l : List HostBuf)
  | memu (m : MemUnit)
  /-- Events of R522, and bytes through a port of R523. -/
  | tally (ev inst n : Nat)
  | carry (port : Nat) (isWrite : Bool) (n : Nat)
  | pmu (u : PmcUnit)
  /-- A vector is raised (R463); messages that are no longer masked are sent. -/
  | vector (v : Nat)
  | flushVectors
  /-- A cold reset restarts tray time and clears what the core planes hold (R40, R546); memory, islands and pins apart. -/
  | coldStart
  deriving DecidableEq, Repr

/-- A whole 8-byte word at `w` lies in the `n` bytes at `a`. -/
def within (a n w : Nat) : Bool := decide (a ≤ w) && decide (w + 8 ≤ a + n)

/-- What one update does. -/
def State.apply (s : State) : Upd → State
  | .set f v => { s with regs := regsWrite s.regs f v, pmu := s.pmu.rises f (regsRd s.regs f) v }
  | .store a bs => { s with mem := memSetBytes s.mem a bs, ue := s.ue.filter (fun w => !within a bs.length w), memu := { s.memu with ce := s.memu.ce.filter (fun w => !within a bs.length w) } }
  | .emit r => { s with firn := s.firn.raise s.now r, regs := jrnLine s.firn (s.firn.raise s.now r) s.regs, pmu := match recEvent s.regs r with | some e => s.pmu.add e.1 e.2 1 | none => s.pmu }
  | .clock t => { s with now := max s.now t }
  | .resetRegs lo hi => { s with regs := tableDrop (fun k => decide (lo * 64 ≤ k) && decide (k < hi * 64)) s.regs }
  | .wipe lo hi => { s with mem := tableDrop (fun a => decide (lo ≤ a) && decide (a < hi)) s.mem, ue := s.ue.filter (fun w => !within lo (hi - lo) w), memu := { s.memu with ce := s.memu.ce.filter (fun w => !within lo (hi - lo) w) } }
  | .firn f => { s with firn := f, regs := jrnLine s.firn f s.regs }
  | .orders o => { s with orders := o }
  | .staging g => { s with staging := g }
  | .tx t => { s with tx := t }
  | .bus b => { s with bus := b }
  | .lane i l => { s with lanes := tablePut {} s.lanes i l }
  | .link n l => { s with links := tablePut {} s.links n l }
  | .hints hs => { s with hints := hs }
  | .prd n p => { s with prd := tablePut {} s.prd n p }
  | .ue l => { s with ue := l }
  | .fab f => { s with fab := f }
  | .job j r => { s with jobs := tablePut {} s.jobs j r }
  | .gq l => { s with gq := l }
  | .bufs l => { s with bufs := l }
  | .memu m => { s with memu := m }
  | .tally ev inst n => { s with pmu := s.pmu.add ev inst n }
  | .carry p w n => { s with pmu := if s.now < tableGet 0 s.regs V.bwFrom.key then s.pmu else s.pmu.carry p w n }
  | .pmu u => { s with pmu := u }
  | .vector v => { s with regs := raiseVector v s.regs }
  | .flushVectors => { s with regs := Machine.flushVectors s.regs }
  | .coldStart => { s with now := 0, firn := {}, orders := {}, staging := {}, tx := {}, bus := {}, lanes := [], links := [], hints := [], prd := [], fab := {}, jobs := [], gq := [], bufs := [], memu := { s.memu with tracks := [], due := [], copies := [], lpUe := [] }, pmu := {} }

/-- Updates applied in order. -/
def State.run (s : State) (us : List Upd) : State := us.foldl State.apply s

/-- Updates computed from the state they act on. -/
def State.does (s : State) (fx : State → List Upd) : State := s.run (fx s)

/-- The same, once per element of a list, each seeing what the ones before it did. -/
def State.doEach {α : Type} (s : State) (l : List α) (fx : α → State → List Upd) : State :=
  l.foldl (fun t a => t.does (fx a)) s

/-- Updates only where a condition holds. -/
def onlyIf (c : Bool) (us : List Upd) : List Upd := if c then us else []

/-- Tray time of the boundary that began the present control tick (R42). -/
def State.boundary (s : State) : Nat := s.now / 4000 * 4000

/-- The moment `dt` into the present control tick (R42, R43): never before what has already passed, and within the tick. -/
def State.moment (s : State) (dt : Nat) : Nat := max s.now (min (s.now + dt) (s.boundary + 3999))

/-- TIM_TICK (R42). -/
def State.tick (s : State) : Nat := s.now / 4000

/-- The first control-tick boundary at or after a stamp (R30, R42). -/
def boundaryOf (t : Nat) : Nat := (t + 3999) / 4000 * 4000

/-- A field counts one up, wrapping at its width. -/
def bump (s : State) (f : Fld) : Upd := .set f (s.rd f + 1)

/-- A field counts `n` up and stays at its largest value. -/
def bumpSat (s : State) (f : Fld) (n : Nat) : Upd := .set f (min (s.rd f + n) (2 ^ f.width - 1))

/-- A signed value written to a field. -/
def setI (f : Fld) (i : Int) : Upd := .set f (ofSigned f.width i)

/-- A signed value written to a field, saturated to its range. -/
def setISat (f : Fld) (i : Int) : Upd := .set f (ofSigned f.width (satSigned f.width i))

/-- A Boolean written to a one-bit field. -/
def setB (f : Fld) (b : Bool) : Upd := .set f (ofBool b)

/-- A record of a type, from a source unit, with its payload. -/
def note (typ src : Nat) (pay : List (Nat × Nat × Nat)) : Upd := .emit { typ := typ, src := src, pay := pay }

/-- The src word of a class and instance (R63). -/
def srcOf (cls inst : Nat) : Nat := cls * 0x1000 + inst % 0x1000

/-- Every command's normal answer. -/
abbrev Result := Host.Outcome State Fault Refusal

/-- The command acts where `c` holds, and otherwise the event it names has not happened and nothing changes. -/
def whenever (c : Bool) (s t : State) : Result := if c then .next t else .next s

end Sys2Proof.Machine
end

