-- ==== Sys2Proof/Machine/RegsTime.lean ====
section
/-! DEFINITION. The register fields of identity, tray time and the Firn (00, 02), one name per field as the register tables of spec/ give them
(address, least significant bit, width, reset value), and per register the access type of every field. -/

namespace Sys2Proof.Machine

def GLB_ID.family : Fld := ⟨0x0, 20, 12, 0xa5⟩
def GLB_ID.part : Fld := ⟨0x0, 12, 8, 8⟩
def GLB_ID.rev_letter : Fld := ⟨0x0, 8, 4, 1⟩
def GLB_ID.rev_step : Fld := ⟨0x0, 4, 4, 1⟩
/-- GLB_ID (R11). -/
def GLB_ID.desc : RegDesc := ⟨0x0, false, [], fun _ => [(.ro, GLB_ID.family), (.ro, GLB_ID.part), (.ro, GLB_ID.rev_letter), (.ro, GLB_ID.rev_step)]⟩
def TIM_NOW.now : Fld := ⟨0x100000, 0, 64, 0⟩
/-- TIM_NOW (R75). -/
def TIM_NOW.desc : RegDesc := ⟨0x100000, true, [], fun _ => [(.ro, TIM_NOW.now)]⟩
def TIM_TICK.tick : Fld := ⟨0x100008, 0, 64, 0⟩
/-- TIM_TICK (R75). -/
def TIM_TICK.desc : RegDesc := ⟨0x100008, true, [], fun _ => [(.ro, TIM_TICK.tick)]⟩
def TIM_JOBOFS.ofs : Fld := ⟨0x100010, 0, 64, 0⟩
/-- TIM_JOBOFS (R75). -/
def TIM_JOBOFS.desc : RegDesc := ⟨0x100010, true, [], fun _ => [(.ro, TIM_JOBOFS.ofs)]⟩
def TIM_JOBNOW.job : Fld := ⟨0x100018, 0, 64, 0⟩
/-- TIM_JOBNOW (R75). -/
def TIM_JOBNOW.desc : RegDesc := ⟨0x100018, true, [], fun _ => [(.ro, TIM_JOBNOW.job)]⟩
def TIM_RATE.ppb : Fld := ⟨0x100020, 0, 32, 0⟩
/-- TIM_RATE (R75). -/
def TIM_RATE.desc : RegDesc := ⟨0x100020, false, [], fun _ => [(.ro, TIM_RATE.ppb)]⟩
def TIM_DISC.lane : Fld := ⟨0x100024, 5, 3, 0⟩
def TIM_DISC.valid : Fld := ⟨0x100024, 4, 1, 0⟩
def TIM_DISC.state : Fld := ⟨0x100024, 0, 3, 0⟩
/-- TIM_DISC (R75). -/
def TIM_DISC.desc : RegDesc := ⟨0x100024, false, [], fun _ => [(.ro, TIM_DISC.lane), (.ro, TIM_DISC.valid), (.ro, TIM_DISC.state)]⟩
def TIM_PHERR.err : Fld := ⟨0x100028, 0, 32, 0⟩
/-- TIM_PHERR (R75). -/
def TIM_PHERR.desc : RegDesc := ⟨0x100028, false, [], fun _ => [(.ro, TIM_PHERR.err)]⟩
def TIM_DISCCFG.kp : Fld := ⟨0x10002c, 16, 16, 0x100⟩
def TIM_DISCCFG.ki : Fld := ⟨0x10002c, 0, 16, 4⟩
/-- TIM_DISCCFG (R75). -/
def TIM_DISCCFG.desc : RegDesc := ⟨0x10002c, false, [], fun _ => [(.rws, TIM_DISCCFG.kp), (.rws, TIM_DISCCFG.ki)]⟩
def TIM_TXCTL.abort : Fld := ⟨0x100100, 2, 1, 0⟩
def TIM_TXCTL.commit : Fld := ⟨0x100100, 1, 1, 0⟩
def TIM_TXCTL.begin : Fld := ⟨0x100100, 0, 1, 0⟩
/-- TIM_TXCTL (R75). -/
def TIM_TXCTL.desc : RegDesc := ⟨0x100100, false, [], fun _ => [(.wo, TIM_TXCTL.abort), (.wo, TIM_TXCTL.commit), (.wo, TIM_TXCTL.begin)]⟩
def TIM_TXSTAT.owner : Fld := ⟨0x100104, 16, 4, 0⟩
def TIM_TXSTAT.cause : Fld := ⟨0x100104, 8, 8, 0⟩
def TIM_TXSTAT.state : Fld := ⟨0x100104, 0, 3, 0⟩
/-- TIM_TXSTAT (R75). -/
def TIM_TXSTAT.desc : RegDesc := ⟨0x100104, false, [], fun _ => [(.ro, TIM_TXSTAT.owner), (.ro, TIM_TXSTAT.cause), (.ro, TIM_TXSTAT.state)]⟩
def TIM_TXSTAMP.stamp : Fld := ⟨0x100108, 0, 64, 0⟩
/-- TIM_TXSTAMP (R75). -/
def TIM_TXSTAMP.desc : RegDesc := ⟨0x100108, true, [], fun _ => [(.rw, TIM_TXSTAMP.stamp)]⟩
def TIM_TXCOUNT.writes : Fld := ⟨0x100110, 0, 13, 0⟩
/-- TIM_TXCOUNT (R75). -/
def TIM_TXCOUNT.desc : RegDesc := ⟨0x100110, false, [], fun _ => [(.ro, TIM_TXCOUNT.writes)]⟩
def TIM_TXTIMEOUT.ticks : Fld := ⟨0x100114, 0, 32, 0x186a0⟩
/-- TIM_TXTIMEOUT (R75). -/
def TIM_TXTIMEOUT.desc : RegDesc := ⟨0x100114, false, [], fun _ => [(.ko, TIM_TXTIMEOUT.ticks)]⟩
def TIM_PROTSEQ.next : Fld := ⟨0x100120, 0, 32, 0⟩
/-- TIM_PROTSEQ (R75). -/
def TIM_PROTSEQ.desc : RegDesc := ⟨0x100120, false, [], fun _ => [(.ro, TIM_PROTSEQ.next)]⟩
def TIM_LOCSEQ.next : Fld := ⟨0x100124, 0, 32, 0⟩
/-- TIM_LOCSEQ (R75). -/
def TIM_LOCSEQ.desc : RegDesc := ⟨0x100124, false, [], fun _ => [(.ro, TIM_LOCSEQ.next)]⟩
def JRN_CTL.enable : Fld := ⟨0x180000, 0, 1, 0⟩
/-- JRN_CTL (R77). -/
def JRN_CTL.desc : RegDesc := ⟨0x180000, false, [], fun _ => [(.koRwt, JRN_CTL.enable)]⟩
def JRN_SEQ.next : Fld := ⟨0x180008, 0, 64, 0⟩
/-- JRN_SEQ (R77). -/
def JRN_SEQ.desc : RegDesc := ⟨0x180008, true, [], fun _ => [(.ro, JRN_SEQ.next)]⟩
def JRN_CLASSBASE.base (c : Nat) : Fld := ⟨(0x180040 + 0x10 * c), 0, 64, (jrnBase0 c)⟩
/-- JRN_CLASSBASE (R77). -/
def JRN_CLASSBASE.desc : RegDesc := ⟨0x180040, true, [(3, 0x10)], fun | [c] => [(.koRwt, JRN_CLASSBASE.base c)] | _ => []⟩
def JRN_CLASSSIZE.size (c : Nat) : Fld := ⟨(0x180048 + 0x10 * c), 0, 64, (jrnSize0 c)⟩
/-- JRN_CLASSSIZE (R77). -/
def JRN_CLASSSIZE.desc : RegDesc := ⟨0x180048, true, [(3, 0x10)], fun | [c] => [(.koRwt, JRN_CLASSSIZE.size c)] | _ => []⟩
def JRN_HEAD.head (c : Nat) : Fld := ⟨(0x180080 + 0x10 * c), 0, 64, (jrnBase0 c)⟩
/-- JRN_HEAD (R77). -/
def JRN_HEAD.desc : RegDesc := ⟨0x180080, true, [(3, 0x10)], fun | [c] => [(.ro, JRN_HEAD.head c)] | _ => []⟩
def JRN_ACK.ack (c : Nat) : Fld := ⟨(0x180088 + 0x10 * c), 0, 64, (jrnBase0 c)⟩
/-- JRN_ACK (R77). -/
def JRN_ACK.desc : RegDesc := ⟨0x180088, true, [(3, 0x10)], fun | [c] => [(.rw, JRN_ACK.ack c)] | _ => []⟩
def JRN_LOST.count (c : Nat) : Fld := ⟨(0x1800b0 + 0x4 * c), 0, 32, 0⟩
/-- JRN_LOST (R77). -/
def JRN_LOST.desc : RegDesc := ⟨0x1800b0, false, [(3, 0x4)], fun | [c] => [(.rc, JRN_LOST.count c)] | _ => []⟩
def JRN_STAT.stage_hi : Fld := ⟨0x1800c0, 2, 1, 0⟩
def JRN_STAT.overrun : Fld := ⟨0x1800c0, 1, 1, 0⟩
def JRN_STAT.c0_full : Fld := ⟨0x1800c0, 0, 1, 0⟩
/-- JRN_STAT (R77). -/
def JRN_STAT.desc : RegDesc := ⟨0x1800c0, false, [], fun _ => [(.w1c, JRN_STAT.stage_hi), (.w1c, JRN_STAT.overrun), (.w1c, JRN_STAT.c0_full)]⟩
def JRN_DRAINCTL.mark (c : Nat) : Fld := ⟨(0x1800d0 + 0x4 * c), 16, 16, 0x400⟩
def JRN_DRAINCTL.ring (c : Nat) : Fld := ⟨(0x1800d0 + 0x4 * c), 4, 6, 0⟩
def JRN_DRAINCTL.en (c : Nat) : Fld := ⟨(0x1800d0 + 0x4 * c), 0, 1, 0⟩
/-- JRN_DRAINCTL (R77). -/
def JRN_DRAINCTL.desc : RegDesc := ⟨0x1800d0, false, [(3, 0x4)], fun | [c] => [(.rw, JRN_DRAINCTL.mark c), (.rw, JRN_DRAINCTL.ring c), (.rw, JRN_DRAINCTL.en c)] | _ => []⟩
def JRN_MGMTREC.record (w : Nat) : Fld := ⟨(0x180100 + 0x4 * w), 0, 32, 0⟩
/-- JRN_MGMTREC (R77). -/
def JRN_MGMTREC.desc : RegDesc := ⟨0x180100, false, [(16, 0x4)], fun | [w] => [(.wo, JRN_MGMTREC.record w)] | _ => []⟩
def JRN_MGMTPUSH.push : Fld := ⟨0x180140, 0, 1, 0⟩
/-- JRN_MGMTPUSH (R77). -/
def JRN_MGMTPUSH.desc : RegDesc := ⟨0x180140, false, [], fun _ => [(.wo, JRN_MGMTPUSH.push)]⟩
def JRN_CAPCTL.state : Fld := ⟨0x180200, 6, 2, 0⟩
def JRN_CAPCTL.release : Fld := ⟨0x180200, 2, 1, 0⟩
def JRN_CAPCTL.trigger : Fld := ⟨0x180200, 1, 1, 0⟩
def JRN_CAPCTL.arm : Fld := ⟨0x180200, 0, 1, 0⟩
/-- JRN_CAPCTL (R77). -/
def JRN_CAPCTL.desc : RegDesc := ⟨0x180200, false, [], fun _ => [(.ro, JRN_CAPCTL.state), (.wo, JRN_CAPCTL.release), (.wo, JRN_CAPCTL.trigger), (.wo, JRN_CAPCTL.arm)]⟩
def JRN_CAPSEL.probes : Fld := ⟨0x180204, 28, 4, 0⟩
def JRN_CAPSEL.vsen : Fld := ⟨0x180204, 0, 24, 0⟩
/-- JRN_CAPSEL (R77). -/
def JRN_CAPSEL.desc : RegDesc := ⟨0x180204, false, [], fun _ => [(.rw, JRN_CAPSEL.probes), (.rw, JRN_CAPSEL.vsen)]⟩
def JRN_CAPSLOT.tray : Fld := ⟨0x180208, 8, 1, 0⟩
def JRN_CAPSLOT.slots : Fld := ⟨0x180208, 0, 8, 0⟩
/-- JRN_CAPSLOT (R77). -/
def JRN_CAPSLOT.desc : RegDesc := ⟨0x180208, false, [], fun _ => [(.rw, JRN_CAPSLOT.tray), (.rw, JRN_CAPSLOT.slots)]⟩
def JRN_CAPTRIG.reg : Fld := ⟨0x18020c, 4, 1, 1⟩
def JRN_CAPTRIG.job : Fld := ⟨0x18020c, 3, 1, 0⟩
def JRN_CAPTRIG.type_ : Fld := ⟨0x18020c, 2, 1, 0⟩
def JRN_CAPTRIG.cell : Fld := ⟨0x18020c, 1, 1, 0⟩
def JRN_CAPTRIG.trip : Fld := ⟨0x18020c, 0, 1, 1⟩
/-- JRN_CAPTRIG (R77). -/
def JRN_CAPTRIG.desc : RegDesc := ⟨0x18020c, false, [], fun _ => [(.rw, JRN_CAPTRIG.reg), (.rw, JRN_CAPTRIG.job), (.rw, JRN_CAPTRIG.type_), (.rw, JRN_CAPTRIG.cell), (.rw, JRN_CAPTRIG.trip)]⟩
def JRN_CAPTYPE.types : Fld := ⟨0x180210, 0, 32, 0⟩
/-- JRN_CAPTYPE (R77). -/
def JRN_CAPTYPE.desc : RegDesc := ⟨0x180210, false, [], fun _ => [(.rw, JRN_CAPTYPE.types)]⟩
def JRN_CAPFRAMES.frames : Fld := ⟨0x180214, 0, 32, 0⟩
/-- JRN_CAPFRAMES (R77). -/
def JRN_CAPFRAMES.desc : RegDesc := ⟨0x180214, false, [], fun _ => [(.ro, JRN_CAPFRAMES.frames)]⟩
def JRN_CAPPRE.pre : Fld := ⟨0x180218, 0, 32, 0⟩
/-- JRN_CAPPRE (R77). -/
def JRN_CAPPRE.desc : RegDesc := ⟨0x180218, false, [], fun _ => [(.rw, JRN_CAPPRE.pre)]⟩
def JRN_CAPPOS.pos : Fld := ⟨0x18021c, 0, 32, 0⟩
/-- JRN_CAPPOS (R77). -/
def JRN_CAPPOS.desc : RegDesc := ⟨0x18021c, false, [], fun _ => [(.ro, JRN_CAPPOS.pos)]⟩
def JRN_CAPTRIGT.stamp : Fld := ⟨0x180220, 0, 64, 0⟩
/-- JRN_CAPTRIGT (R77). -/
def JRN_CAPTRIGT.desc : RegDesc := ⟨0x180220, true, [], fun _ => [(.ro, JRN_CAPTRIGT.stamp)]⟩
def JRN_CAPMISS.count : Fld := ⟨0x180228, 0, 32, 0⟩
/-- JRN_CAPMISS (R77). -/
def JRN_CAPMISS.desc : RegDesc := ⟨0x180228, false, [], fun _ => [(.rc, JRN_CAPMISS.count)]⟩
/-- The registers of block GLB. -/
def descsGLB : List RegDesc :=
  [GLB_ID.desc]
/-- The registers of block TIM. -/
def descsTIM : List RegDesc :=
  [TIM_NOW.desc, TIM_TICK.desc, TIM_JOBOFS.desc, TIM_JOBNOW.desc, TIM_RATE.desc, TIM_DISC.desc, TIM_PHERR.desc, TIM_DISCCFG.desc, TIM_TXCTL.desc, TIM_TXSTAT.desc, TIM_TXSTAMP.desc, TIM_TXCOUNT.desc, TIM_TXTIMEOUT.desc, TIM_PROTSEQ.desc, TIM_LOCSEQ.desc]
/-- The registers of block JRN. -/
def descsJRN : List RegDesc :=
  [JRN_CTL.desc, JRN_SEQ.desc, JRN_CLASSBASE.desc, JRN_CLASSSIZE.desc, JRN_HEAD.desc, JRN_ACK.desc, JRN_LOST.desc, JRN_STAT.desc, JRN_DRAINCTL.desc, JRN_MGMTREC.desc, JRN_MGMTPUSH.desc, JRN_CAPCTL.desc, JRN_CAPSEL.desc, JRN_CAPSLOT.desc, JRN_CAPTRIG.desc, JRN_CAPTYPE.desc, JRN_CAPFRAMES.desc, JRN_CAPPRE.desc, JRN_CAPPOS.desc, JRN_CAPTRIGT.desc, JRN_CAPMISS.desc]

end Sys2Proof.Machine
end

