-- ==== Sys2Proof/Machine/RegsTray.lean ====
section
/-! DEFINITION. The register fields of rail sequencing, feeds, cooling and custody (09-12), one name per field as the register tables of spec/ give them
(address, least significant bit, width, reset value), and per register the access type of every field. -/

namespace Sys2Proof.Machine

def SEQ_CTL.fault_in : Fld := ⟨0x900000, 2, 1, 0⟩
def SEQ_CTL.fault_out : Fld := ⟨0x900000, 1, 1, 1⟩
/-- SEQ_CTL (R320). -/
def SEQ_CTL.desc : RegDesc := ⟨0x900000, false, [], fun _ => [(.koRwt, SEQ_CTL.fault_in), (.koRwt, SEQ_CTL.fault_out)]⟩
def SEQ_EVT.pfail : Fld := ⟨0x900004, 6, 1, 0⟩
def SEQ_EVT.fault_in : Fld := ⟨0x900004, 5, 1, 0⟩
def SEQ_EVT.retry : Fld := ⟨0x900004, 4, 1, 0⟩
def SEQ_EVT.chatter : Fld := ⟨0x900004, 3, 1, 0⟩
def SEQ_EVT.first : Fld := ⟨0x900004, 2, 1, 0⟩
def SEQ_EVT.fault : Fld := ⟨0x900004, 1, 1, 0⟩
def SEQ_EVT.group : Fld := ⟨0x900004, 0, 1, 0⟩
/-- SEQ_EVT (R320). -/
def SEQ_EVT.desc : RegDesc := ⟨0x900004, false, [], fun _ => [(.w1c, SEQ_EVT.pfail), (.w1c, SEQ_EVT.fault_in), (.w1c, SEQ_EVT.retry), (.w1c, SEQ_EVT.chatter), (.w1c, SEQ_EVT.first), (.w1c, SEQ_EVT.fault), (.w1c, SEQ_EVT.group)]⟩
def SEQ_EVTEN.en : Fld := ⟨0x900008, 0, 7, 0⟩
/-- SEQ_EVTEN (R320). -/
def SEQ_EVTEN.desc : RegDesc := ⟨0x900008, false, [], fun _ => [(.rw, SEQ_EVTEN.en)]⟩
def SEQ_STAT.fault_drive : Fld := ⟨0x90000c, 31, 1, 0⟩
def SEQ_STAT.fault_level : Fld := ⟨0x90000c, 30, 1, 1⟩
def SEQ_STAT.up : Fld := ⟨0x90000c, 0, 16, 0⟩
/-- SEQ_STAT (R320). -/
def SEQ_STAT.desc : RegDesc := ⟨0x90000c, false, [], fun _ => [(.ro, SEQ_STAT.fault_drive), (.ro, SEQ_STAT.fault_level), (.ro, SEQ_STAT.up)]⟩
def SEQ_FIRST.valid : Fld := ⟨0x900010, 31, 1, 0⟩
def SEQ_FIRST.rail : Fld := ⟨0x900010, 16, 7, 0⟩
def SEQ_FIRST.cause : Fld := ⟨0x900010, 8, 4, 0⟩
def SEQ_FIRST.state : Fld := ⟨0x900010, 4, 4, 0⟩
def SEQ_FIRST.group : Fld := ⟨0x900010, 0, 4, 0⟩
/-- SEQ_FIRST (R320). -/
def SEQ_FIRST.desc : RegDesc := ⟨0x900010, false, [], fun _ => [(.w1c, SEQ_FIRST.valid), (.ro, SEQ_FIRST.rail), (.ro, SEQ_FIRST.cause), (.ro, SEQ_FIRST.state), (.ro, SEQ_FIRST.group)]⟩
def SEQ_FIRSTT.stamp : Fld := ⟨0x900018, 0, 64, 0⟩
/-- SEQ_FIRSTT (R320). -/
def SEQ_FIRSTT.desc : RegDesc := ⟨0x900018, true, [], fun _ => [(.ro, SEQ_FIRSTT.stamp)]⟩
def SEQ_FAULTMAP.latch (m : Nat) : Fld := ⟨(0x900020 + 0x4 * m), 0, 32, 0⟩
/-- SEQ_FAULTMAP (R320). -/
def SEQ_FAULTMAP.desc : RegDesc := ⟨0x900020, false, [(4, 0x4)], fun | [m] => [(.w1c, SEQ_FAULTMAP.latch m)] | _ => []⟩
def SEQ_LORD.target : Fld := ⟨0x900030, 28, 4, 0⟩
def SEQ_LORD.scope : Fld := ⟨0x900030, 24, 4, 0⟩
def SEQ_LORD.value : Fld := ⟨0x900030, 1, 1, 0⟩
def SEQ_LORD.release : Fld := ⟨0x900030, 0, 1, 0⟩
/-- SEQ_LORD (R320). -/
def SEQ_LORD.desc : RegDesc := ⟨0x900030, false, [], fun _ => [(.rws, SEQ_LORD.target), (.rws, SEQ_LORD.scope), (.rws, SEQ_LORD.value), (.rws, SEQ_LORD.release)]⟩
def SEQ_GCFG.req (g : Nat) : Fld := ⟨(0x900100 + 0x10 * g), 16, 16, 0⟩
/-- SEQ_GCFG (R320). -/
def SEQ_GCFG.desc : RegDesc := ⟨0x900100, false, [(16, 0x10)], fun | [g] => [(.koRwt, SEQ_GCFG.req g)] | _ => []⟩
def SEQ_GSTAT.state (g : Nat) : Fld := ⟨(0x900104 + 0x10 * g), 29, 3, 0⟩
def SEQ_GSTAT.pfail (g : Nat) : Fld := ⟨(0x900104 + 0x10 * g), 28, 1, 0⟩
def SEQ_GSTAT.clock (g : Nat) : Fld := ⟨(0x900104 + 0x10 * g), 0, 24, 0⟩
/-- SEQ_GSTAT (R320). -/
def SEQ_GSTAT.desc : RegDesc := ⟨0x900104, false, [(16, 0x10)], fun | [g] => [(.ro, SEQ_GSTAT.state g), (.ro, SEQ_GSTAT.pfail g), (.ro, SEQ_GSTAT.clock g)] | _ => []⟩
def SEQ_GBLOCK.blocked (g : Nat) : Fld := ⟨(0x900108 + 0x10 * g), 7, 1, 0⟩
def SEQ_GBLOCK.rail (g : Nat) : Fld := ⟨(0x900108 + 0x10 * g), 0, 7, 0⟩
/-- SEQ_GBLOCK (R320). -/
def SEQ_GBLOCK.desc : RegDesc := ⟨0x900108, false, [(16, 0x10)], fun | [g] => [(.ro, SEQ_GBLOCK.blocked g), (.ro, SEQ_GBLOCK.rail g)] | _ => []⟩
def SEQ_RAILCFG.off_delay (r : Nat) : Fld := ⟨(0x901000 + 0x40 * r), 16, 16, 0⟩
def SEQ_RAILCFG.on_delay (r : Nat) : Fld := ⟨(0x901000 + 0x40 * r), 0, 16, 0⟩
/-- SEQ_RAILCFG (R321). -/
def SEQ_RAILCFG.desc : RegDesc := ⟨0x901000, false, [(128, 0x40)], fun | [r] => [(.rws, SEQ_RAILCFG.off_delay r), (.rws, SEQ_RAILCFG.on_delay r)] | _ => []⟩
def SEQ_RAILTO.on_timeout (r : Nat) : Fld := ⟨(0x901004 + 0x40 * r), 16, 16, 0⟩
def SEQ_RAILTO.off_timeout (r : Nat) : Fld := ⟨(0x901004 + 0x40 * r), 0, 16, 0⟩
/-- SEQ_RAILTO (R321). -/
def SEQ_RAILTO.desc : RegDesc := ⟨0x901004, false, [(128, 0x40)], fun | [r] => [(.koRwt, SEQ_RAILTO.on_timeout r), (.koRwt, SEQ_RAILTO.off_timeout r)] | _ => []⟩
def SEQ_RAILDIS.dis_timeout (r : Nat) : Fld := ⟨(0x901008 + 0x40 * r), 16, 16, 0⟩
def SEQ_RAILDIS.deglitch (r : Nat) : Fld := ⟨(0x901008 + 0x40 * r), 8, 8, 0⟩
def SEQ_RAILDIS.retries (r : Nat) : Fld := ⟨(0x901008 + 0x40 * r), 0, 8, 0⟩
/-- SEQ_RAILDIS (R321). -/
def SEQ_RAILDIS.desc : RegDesc := ⟨0x901008, false, [(128, 0x40)], fun | [r] => [(.koRwt, SEQ_RAILDIS.dis_timeout r), (.koRwt, SEQ_RAILDIS.deglitch r), (.koRwt, SEQ_RAILDIS.retries r)] | _ => []⟩
def SEQ_RAILQ.qual (r : Nat) : Fld := ⟨(0x90100c + 0x40 * r), 0, 16, 0xc8⟩
/-- SEQ_RAILQ (R321). -/
def SEQ_RAILQ.desc : RegDesc := ⟨0x90100c, false, [(128, 0x40)], fun | [r] => [(.koRwt, SEQ_RAILQ.qual r)] | _ => []⟩
def SEQ_RAILVG.vmon_fall (r : Nat) : Fld := ⟨(0x901010 + 0x40 * r), 16, 16, 0⟩
def SEQ_RAILVG.vmon_good (r : Nat) : Fld := ⟨(0x901010 + 0x40 * r), 0, 16, 0⟩
/-- SEQ_RAILVG (R321). -/
def SEQ_RAILVG.desc : RegDesc := ⟨0x901010, false, [(128, 0x40)], fun | [r] => [(.koRwt, SEQ_RAILVG.vmon_fall r), (.koRwt, SEQ_RAILVG.vmon_good r)] | _ => []⟩
def SEQ_RAILVO.vmon_ov (r : Nat) : Fld := ⟨(0x901014 + 0x40 * r), 0, 16, 0⟩
/-- SEQ_RAILVO (R321). -/
def SEQ_RAILVO.desc : RegDesc := ⟨0x901014, false, [(128, 0x40)], fun | [r] => [(.koRwt, SEQ_RAILVO.vmon_ov r)] | _ => []⟩
def SEQ_RAILMODE.flags (r : Nat) : Fld := ⟨(0x901018 + 0x40 * r), 28, 4, 0⟩
def SEQ_RAILMODE.group (r : Nat) : Fld := ⟨(0x901018 + 0x40 * r), 24, 4, 0⟩
def SEQ_RAILMODE.reg_rail (r : Nat) : Fld := ⟨(0x901018 + 0x40 * r), 16, 8, 0xff⟩
def SEQ_RAILMODE.slot (r : Nat) : Fld := ⟨(0x901018 + 0x40 * r), 8, 8, 0xff⟩
def SEQ_RAILMODE.policy (r : Nat) : Fld := ⟨(0x901018 + 0x40 * r), 0, 2, 0⟩
/-- SEQ_RAILMODE (R321). -/
def SEQ_RAILMODE.desc : RegDesc := ⟨0x901018, false, [(128, 0x40)], fun | [r] => [(.koRwt, SEQ_RAILMODE.flags r), (.koRwt, SEQ_RAILMODE.group r), (.koRwt, SEQ_RAILMODE.reg_rail r), (.koRwt, SEQ_RAILMODE.slot r), (.koRwt, SEQ_RAILMODE.policy r)] | _ => []⟩
def SEQ_MARGIN.mode (r : Nat) : Fld := ⟨(0x90101c + 0x40 * r), 8, 2, 0⟩
def SEQ_MARGIN.pct (r : Nat) : Fld := ⟨(0x90101c + 0x40 * r), 0, 8, 0⟩
/-- SEQ_MARGIN (R321). -/
def SEQ_MARGIN.desc : RegDesc := ⟨0x90101c, false, [(128, 0x40)], fun | [r] => [(.rws, SEQ_MARGIN.mode r), (.rws, SEQ_MARGIN.pct r)] | _ => []⟩
def SEQ_RSTAT.state (r : Nat) : Fld := ⟨(0x901020 + 0x40 * r), 29, 3, 0⟩
def SEQ_RSTAT.en (r : Nat) : Fld := ⟨(0x901020 + 0x40 * r), 28, 1, 0⟩
def SEQ_RSTAT.pg (r : Nat) : Fld := ⟨(0x901020 + 0x40 * r), 27, 1, 0⟩
def SEQ_RSTAT.pg_raw (r : Nat) : Fld := ⟨(0x901020 + 0x40 * r), 26, 1, 0⟩
def SEQ_RSTAT.vmon (r : Nat) : Fld := ⟨(0x901020 + 0x40 * r), 0, 16, 0⟩
/-- SEQ_RSTAT (R321). -/
def SEQ_RSTAT.desc : RegDesc := ⟨0x901020, false, [(128, 0x40)], fun | [r] => [(.ro, SEQ_RSTAT.state r), (.ro, SEQ_RSTAT.en r), (.ro, SEQ_RSTAT.pg r), (.ro, SEQ_RSTAT.pg_raw r), (.ro, SEQ_RSTAT.vmon r)] | _ => []⟩
def SEQ_RCHAT.count (r : Nat) : Fld := ⟨(0x901024 + 0x40 * r), 0, 32, 0⟩
/-- SEQ_RCHAT (R321). -/
def SEQ_RCHAT.desc : RegDesc := ⟨0x901024, false, [(128, 0x40)], fun | [r] => [(.rc, SEQ_RCHAT.count r)] | _ => []⟩
def SEQ_RFAULTS.count (r : Nat) : Fld := ⟨(0x901028 + 0x40 * r), 0, 32, 0⟩
/-- SEQ_RFAULTS (R321). -/
def SEQ_RFAULTS.desc : RegDesc := ⟨0x901028, false, [(128, 0x40)], fun | [r] => [(.rc, SEQ_RFAULTS.count r)] | _ => []⟩
def SEQ_RCYCLES.count (r : Nat) : Fld := ⟨(0x90102c + 0x40 * r), 0, 32, 0⟩
/-- SEQ_RCYCLES (R321). -/
def SEQ_RCYCLES.desc : RegDesc := ⟨0x90102c, false, [(128, 0x40)], fun | [r] => [(.ro, SEQ_RCYCLES.count r)] | _ => []⟩
def SEQ_RRETRY.attempts (r : Nat) : Fld := ⟨(0x901030 + 0x40 * r), 8, 8, 0⟩
def SEQ_RRETRY.cause (r : Nat) : Fld := ⟨(0x901030 + 0x40 * r), 0, 4, 0⟩
/-- SEQ_RRETRY (R321). -/
def SEQ_RRETRY.desc : RegDesc := ⟨0x901030, false, [(128, 0x40)], fun | [r] => [(.ro, SEQ_RRETRY.attempts r), (.ro, SEQ_RRETRY.cause r)] | _ => []⟩
def SEQ_ORD.valid (g src : Nat) : Fld := ⟨(0x908000 + 0x10 * g + 0x4 * (src - 1)), 31, 1, 0⟩
def SEQ_ORD.value (g src : Nat) : Fld := ⟨(0x908000 + 0x10 * g + 0x4 * (src - 1)), 0, 1, 0⟩
/-- SEQ_ORD (R322). -/
def SEQ_ORD.desc : RegDesc := ⟨0x908000, false, [(16, 0x10), (4, 0x4)], fun | [g, src] => [(.ro, SEQ_ORD.valid g (src + 1)), (.ro, SEQ_ORD.value g (src + 1))] | _ => []⟩
def SEQ_INFORCE.src (g : Nat) : Fld := ⟨(0x909000 + 0x4 * g), 28, 4, 0⟩
def SEQ_INFORCE.value (g : Nat) : Fld := ⟨(0x909000 + 0x4 * g), 0, 1, 0⟩
/-- SEQ_INFORCE (R322). -/
def SEQ_INFORCE.desc : RegDesc := ⟨0x909000, false, [(16, 0x4)], fun | [g] => [(.ro, SEQ_INFORCE.src g), (.ro, SEQ_INFORCE.value g)] | _ => []⟩
def FED_CTL.esc_en : Fld := ⟨0xa00000, 0, 1, 1⟩
/-- FED_CTL (R344). -/
def FED_CTL.desc : RegDesc := ⟨0xa00000, false, [], fun _ => [(.koRwt, FED_CTL.esc_en)]⟩
def FED_EVT.nofeed : Fld := ⟨0xa00004, 5, 1, 0⟩
def FED_EVT.damaged : Fld := ⟨0xa00004, 4, 1, 0⟩
def FED_EVT.switch : Fld := ⟨0xa00004, 3, 1, 0⟩
def FED_EVT.trip : Fld := ⟨0xa00004, 2, 1, 0⟩
def FED_EVT.state : Fld := ⟨0xa00004, 1, 1, 0⟩
def FED_EVT.usable : Fld := ⟨0xa00004, 0, 1, 0⟩
/-- FED_EVT (R344). -/
def FED_EVT.desc : RegDesc := ⟨0xa00004, false, [], fun _ => [(.w1c, FED_EVT.nofeed), (.w1c, FED_EVT.damaged), (.w1c, FED_EVT.switch), (.w1c, FED_EVT.trip), (.w1c, FED_EVT.state), (.w1c, FED_EVT.usable)]⟩
def FED_EVTEN.en : Fld := ⟨0xa00008, 0, 6, 0⟩
/-- FED_EVTEN (R344). -/
def FED_EVTEN.desc : RegDesc := ⟨0xa00008, false, [], fun _ => [(.rw, FED_EVTEN.en)]⟩
def FED_SELCFG.dead : Fld := ⟨0xa0000c, 24, 8, 5⟩
def FED_SELCFG.dg : Fld := ⟨0xa0000c, 20, 4, 2⟩
def FED_SELCFG.ret : Fld := ⟨0xa0000c, 8, 8, 0xa⟩
def FED_SELCFG.revert : Fld := ⟨0xa0000c, 1, 1, 1⟩
def FED_SELCFG.primary : Fld := ⟨0xa0000c, 0, 1, 0⟩
/-- FED_SELCFG (R344). -/
def FED_SELCFG.desc : RegDesc := ⟨0xa0000c, false, [], fun _ => [(.koRwt, FED_SELCFG.dead), (.koRwt, FED_SELCFG.dg), (.koRwt, FED_SELCFG.ret), (.koRwt, FED_SELCFG.revert), (.koRwt, FED_SELCFG.primary)]⟩
def FED_SELSTAT.sel : Fld := ⟨0xa00010, 30, 2, 3⟩
def FED_SELSTAT.switching : Fld := ⟨0xa00010, 29, 1, 0⟩
def FED_SELSTAT.hold : Fld := ⟨0xa00010, 28, 1, 0⟩
def FED_SELSTAT.usable_b : Fld := ⟨0xa00010, 1, 1, 0⟩
def FED_SELSTAT.usable_a : Fld := ⟨0xa00010, 0, 1, 0⟩
/-- FED_SELSTAT (R344). -/
def FED_SELSTAT.desc : RegDesc := ⟨0xa00010, false, [], fun _ => [(.ro, FED_SELSTAT.sel), (.ro, FED_SELSTAT.switching), (.ro, FED_SELSTAT.hold), (.ro, FED_SELSTAT.usable_b), (.ro, FED_SELSTAT.usable_a)]⟩
def FED_FEEDV.ov (f : Nat) : Fld := ⟨(0xa00014 + 0x8 * f), 16, 16, 0x1838⟩
def FED_FEEDV.uv (f : Nat) : Fld := ⟨(0xa00014 + 0x8 * f), 0, 16, 0xed8⟩
/-- FED_FEEDV (R344). -/
def FED_FEEDV.desc : RegDesc := ⟨0xa00014, false, [(2, 0x8)], fun | [f] => [(.koRwt, FED_FEEDV.ov f), (.koRwt, FED_FEEDV.uv f)] | _ => []⟩
def FED_FEEDQ.qual (f : Nat) : Fld := ⟨(0xa00018 + 0x8 * f), 0, 16, 0x64⟩
/-- FED_FEEDQ (R344). -/
def FED_FEEDQ.desc : RegDesc := ⟨0xa00018, false, [(2, 0x8)], fun | [f] => [(.koRwt, FED_FEEDQ.qual f)] | _ => []⟩
def FED_PIN.p : Fld := ⟨0xa00024, 0, 32, 0⟩
/-- FED_PIN (R344). -/
def FED_PIN.desc : RegDesc := ⟨0xa00024, false, [], fun _ => [(.ro, FED_PIN.p)]⟩
def FED_PFEED.p (f : Nat) : Fld := ⟨(0xa00028 + 0x4 * f), 0, 32, 0⟩
/-- FED_PFEED (R344). -/
def FED_PFEED.desc : RegDesc := ⟨0xa00028, false, [(2, 0x4)], fun | [f] => [(.ro, FED_PFEED.p f)] | _ => []⟩
def FED_TRIPMAP.latch : Fld := ⟨0xa00030, 0, 16, 0⟩
/-- FED_TRIPMAP (R344). -/
def FED_TRIPMAP.desc : RegDesc := ⟨0xa00030, false, [], fun _ => [(.w1c, FED_TRIPMAP.latch)]⟩
def FED_DMGMAP.dmg : Fld := ⟨0xa00034, 0, 16, 0⟩
/-- FED_DMGMAP (R344). -/
def FED_DMGMAP.desc : RegDesc := ⟨0xa00034, false, [], fun _ => [(.ro, FED_DMGMAP.dmg)]⟩
def FED_DMGCLR.go : Fld := ⟨0xa00038, 4, 1, 0⟩
def FED_DMGCLR.channel : Fld := ⟨0xa00038, 0, 4, 0⟩
/-- FED_DMGCLR (R344). -/
def FED_DMGCLR.desc : RegDesc := ⟨0xa00038, false, [], fun _ => [(.koRwt, FED_DMGCLR.go), (.koRwt, FED_DMGCLR.channel)]⟩
def FED_LORD.target : Fld := ⟨0xa00040, 28, 4, 0⟩
def FED_LORD.scope : Fld := ⟨0xa00040, 24, 4, 0⟩
def FED_LORD.value : Fld := ⟨0xa00040, 1, 1, 0⟩
def FED_LORD.release : Fld := ⟨0xa00040, 0, 1, 0⟩
/-- FED_LORD (R344). -/
def FED_LORD.desc : RegDesc := ⟨0xa00040, false, [], fun _ => [(.rws, FED_LORD.target), (.rws, FED_LORD.scope), (.rws, FED_LORD.value), (.rws, FED_LORD.release)]⟩
def FED_SWITCHES.count : Fld := ⟨0xa00044, 0, 32, 0⟩
/-- FED_SWITCHES (R344). -/
def FED_SWITCHES.desc : RegDesc := ⟨0xa00044, false, [], fun _ => [(.rc, FED_SWITCHES.count)]⟩
def FED_CHCFG.bind (c : Nat) : Fld := ⟨(0xa01000 + 0x40 * c), 30, 2, 0⟩
def FED_CHCFG.seq_rail (c : Nat) : Fld := ⟨(0xa01000 + 0x40 * c), 16, 7, 0⟩
def FED_CHCFG.shunt (c : Nat) : Fld := ⟨(0xa01000 + 0x40 * c), 0, 16, 0⟩
/-- FED_CHCFG (R345). -/
def FED_CHCFG.desc : RegDesc := ⟨0xa01000, false, [(16, 0x40)], fun | [c] => [(.koRwt, FED_CHCFG.bind c), (.koRwt, FED_CHCFG.seq_rail c), (.koRwt, FED_CHCFG.shunt c)] | _ => []⟩
def FED_CHLIM.i_fast (c : Nat) : Fld := ⟨(0xa01004 + 0x40 * c), 16, 16, 0⟩
def FED_CHLIM.i_lim (c : Nat) : Fld := ⟨(0xa01004 + 0x40 * c), 0, 16, 0⟩
/-- FED_CHLIM (R345). -/
def FED_CHLIM.desc : RegDesc := ⟨0xa01004, false, [(16, 0x40)], fun | [c] => [(.koRwt, FED_CHLIM.i_fast c), (.koRwt, FED_CHLIM.i_lim c)] | _ => []⟩
def FED_CHSOA.p_lim (c : Nat) : Fld := ⟨(0xa01008 + 0x40 * c), 16, 16, 0⟩
def FED_CHSOA.t_flt (c : Nat) : Fld := ⟨(0xa01008 + 0x40 * c), 0, 16, 0⟩
/-- FED_CHSOA (R345). -/
def FED_CHSOA.desc : RegDesc := ⟨0xa01008, false, [(16, 0x40)], fun | [c] => [(.koRwt, FED_CHSOA.p_lim c), (.koRwt, FED_CHSOA.t_flt c)] | _ => []⟩
def FED_CHEMAX.e_max (c : Nat) : Fld := ⟨(0xa0100c + 0x40 * c), 0, 16, 0⟩
/-- FED_CHEMAX (R345). -/
def FED_CHEMAX.desc : RegDesc := ⟨0xa0100c, false, [(16, 0x40)], fun | [c] => [(.koRwt, FED_CHEMAX.e_max c)] | _ => []⟩
def FED_CHPG.vgs (c : Nat) : Fld := ⟨(0xa01010 + 0x40 * c), 8, 8, 0x5a⟩
def FED_CHPG.vds (c : Nat) : Fld := ⟨(0xa01010 + 0x40 * c), 0, 8, 0x32⟩
/-- FED_CHPG (R345). -/
def FED_CHPG.desc : RegDesc := ⟨0xa01010, false, [(16, 0x40)], fun | [c] => [(.koRwt, FED_CHPG.vgs c), (.koRwt, FED_CHPG.vds c)] | _ => []⟩
def FED_CHLEAK.settle (c : Nat) : Fld := ⟨(0xa01014 + 0x40 * c), 24, 8, 5⟩
def FED_CHLEAK.i_leak (c : Nat) : Fld := ⟨(0xa01014 + 0x40 * c), 16, 8, 5⟩
def FED_CHLEAK.vleak (c : Nat) : Fld := ⟨(0xa01014 + 0x40 * c), 0, 16, 0x1f4⟩
/-- FED_CHLEAK (R345). -/
def FED_CHLEAK.desc : RegDesc := ⟨0xa01014, false, [(16, 0x40)], fun | [c] => [(.koRwt, FED_CHLEAK.settle c), (.koRwt, FED_CHLEAK.i_leak c), (.koRwt, FED_CHLEAK.vleak c)] | _ => []⟩
def FED_CHREV.i_rev (c : Nat) : Fld := ⟨(0xa01018 + 0x40 * c), 0, 16, 0x14⟩
/-- FED_CHREV (R345). -/
def FED_CHREV.desc : RegDesc := ⟨0xa01018, false, [(16, 0x40)], fun | [c] => [(.koRwt, FED_CHREV.i_rev c)] | _ => []⟩
def FED_CHRATED.amps (c : Nat) : Fld := ⟨(0xa0101c + 0x40 * c), 0, 16, 0⟩
/-- FED_CHRATED (R345). -/
def FED_CHRATED.desc : RegDesc := ⟨0xa0101c, false, [(16, 0x40)], fun | [c] => [(.koRwt, FED_CHRATED.amps c)] | _ => []⟩
def FED_CHSTAT.state (c : Nat) : Fld := ⟨(0xa01020 + 0x40 * c), 29, 3, 0⟩
def FED_CHSTAT.pg (c : Nat) : Fld := ⟨(0xa01020 + 0x40 * c), 28, 1, 0⟩
def FED_CHSTAT.gate_on (c : Nat) : Fld := ⟨(0xa01020 + 0x40 * c), 27, 1, 0⟩
def FED_CHSTAT.cause (c : Nat) : Fld := ⟨(0xa01020 + 0x40 * c), 0, 8, 0⟩
/-- FED_CHSTAT (R345). -/
def FED_CHSTAT.desc : RegDesc := ⟨0xa01020, false, [(16, 0x40)], fun | [c] => [(.ro, FED_CHSTAT.state c), (.ro, FED_CHSTAT.pg c), (.ro, FED_CHSTAT.gate_on c), (.ro, FED_CHSTAT.cause c)] | _ => []⟩
def FED_CHV.vout (c : Nat) : Fld := ⟨(0xa01024 + 0x40 * c), 16, 16, 0⟩
def FED_CHV.vin (c : Nat) : Fld := ⟨(0xa01024 + 0x40 * c), 0, 16, 0⟩
/-- FED_CHV (R345). -/
def FED_CHV.desc : RegDesc := ⟨0xa01024, false, [(16, 0x40)], fun | [c] => [(.ro, FED_CHV.vout c), (.ro, FED_CHV.vin c)] | _ => []⟩
def FED_CHI.i (c : Nat) : Fld := ⟨(0xa01028 + 0x40 * c), 0, 32, 0⟩
/-- FED_CHI (R345). -/
def FED_CHI.desc : RegDesc := ⟨0xa01028, false, [(16, 0x40)], fun | [c] => [(.ro, FED_CHI.i c)] | _ => []⟩
def FED_CHP.p (c : Nat) : Fld := ⟨(0xa0102c + 0x40 * c), 0, 32, 0⟩
/-- FED_CHP (R345). -/
def FED_CHP.desc : RegDesc := ⟨0xa0102c, false, [(16, 0x40)], fun | [c] => [(.ro, FED_CHP.p c)] | _ => []⟩
def FED_CHE.e (c : Nat) : Fld := ⟨(0xa01030 + 0x40 * c), 0, 32, 0⟩
/-- FED_CHE (R345). -/
def FED_CHE.desc : RegDesc := ⟨0xa01030, false, [(16, 0x40)], fun | [c] => [(.ro, FED_CHE.e c)] | _ => []⟩
def FED_CHTRIPS.count (c : Nat) : Fld := ⟨(0xa01034 + 0x40 * c), 0, 32, 0⟩
/-- FED_CHTRIPS (R345). -/
def FED_CHTRIPS.desc : RegDesc := ⟨0xa01034, false, [(16, 0x40)], fun | [c] => [(.rc, FED_CHTRIPS.count c)] | _ => []⟩
def FED_ORD.valid (s src : Nat) : Fld := ⟨(0xa08000 + 0x10 * s + 0x4 * (src - 1)), 31, 1, 0⟩
def FED_ORD.value (s src : Nat) : Fld := ⟨(0xa08000 + 0x10 * s + 0x4 * (src - 1)), 0, 1, 0⟩
/-- FED_ORD (R346). -/
def FED_ORD.desc : RegDesc := ⟨0xa08000, false, [(16, 0x10), (4, 0x4)], fun | [s, src] => [(.ro, FED_ORD.valid s (src + 1)), (.ro, FED_ORD.value s (src + 1))] | _ => []⟩
def FED_INFORCE.src (s : Nat) : Fld := ⟨(0xa09000 + 0x4 * s), 28, 4, 0⟩
def FED_INFORCE.value (s : Nat) : Fld := ⟨(0xa09000 + 0x4 * s), 0, 1, 0⟩
/-- FED_INFORCE (R346). -/
def FED_INFORCE.desc : RegDesc := ⟨0xa09000, false, [(16, 0x4)], fun | [s] => [(.ro, FED_INFORCE.src s), (.ro, FED_INFORCE.value s)] | _ => []⟩
def THM_CTL.flow_en : Fld := ⟨0xb00000, 2, 1, 1⟩
def THM_CTL.leak_en : Fld := ⟨0xb00000, 1, 1, 1⟩
def THM_CTL.map_en : Fld := ⟨0xb00000, 0, 1, 1⟩
/-- THM_CTL (R371). -/
def THM_CTL.desc : RegDesc := ⟨0xb00000, false, [], fun _ => [(.koRwt, THM_CTL.flow_en), (.koRwt, THM_CTL.leak_en), (.koRwt, THM_CTL.map_en)]⟩
def THM_EVT.diode : Fld := ⟨0xb00004, 9, 1, 0⟩
def THM_EVT.flow : Fld := ⟨0xb00004, 8, 1, 0⟩
def THM_EVT.leak : Fld := ⟨0xb00004, 7, 1, 0⟩
def THM_EVT.stall : Fld := ⟨0xb00004, 6, 1, 0⟩
def THM_EVT.crit : Fld := ⟨0xb00004, 5, 1, 0⟩
def THM_EVT.hot : Fld := ⟨0xb00004, 4, 1, 0⟩
def THM_EVT.fault : Fld := ⟨0xb00004, 3, 1, 0⟩
def THM_EVT.map_lost : Fld := ⟨0xb00004, 2, 1, 0⟩
def THM_EVT.throttle : Fld := ⟨0xb00004, 1, 1, 0⟩
def THM_EVT.warn : Fld := ⟨0xb00004, 0, 1, 0⟩
/-- THM_EVT (R371). -/
def THM_EVT.desc : RegDesc := ⟨0xb00004, false, [], fun _ => [(.w1c, THM_EVT.diode), (.w1c, THM_EVT.flow), (.w1c, THM_EVT.leak), (.w1c, THM_EVT.stall), (.w1c, THM_EVT.crit), (.w1c, THM_EVT.hot), (.w1c, THM_EVT.fault), (.w1c, THM_EVT.map_lost), (.w1c, THM_EVT.throttle), (.w1c, THM_EVT.warn)]⟩
def THM_EVTEN.en : Fld := ⟨0xb00008, 0, 10, 0⟩
/-- THM_EVTEN (R371). -/
def THM_EVTEN.desc : RegDesc := ⟨0xb00008, false, [], fun _ => [(.rw, THM_EVTEN.en)]⟩
def THM_DEVT.spare : Fld := ⟨0xb00010, 16, 16, 0⟩
def THM_DEVT.primary : Fld := ⟨0xb00010, 0, 16, 0⟩
/-- THM_DEVT (R371). -/
def THM_DEVT.desc : RegDesc := ⟨0xb00010, false, [], fun _ => [(.ro, THM_DEVT.spare), (.ro, THM_DEVT.primary)]⟩
def THM_DEVSTAT.level : Fld := ⟨0xb00014, 6, 2, 0⟩
def THM_DEVSTAT.spare_broken : Fld := ⟨0xb00014, 2, 1, 0⟩
def THM_DEVSTAT.pri_broken : Fld := ⟨0xb00014, 1, 1, 0⟩
def THM_DEVSTAT.sel : Fld := ⟨0xb00014, 0, 1, 0⟩
/-- THM_DEVSTAT (R371). -/
def THM_DEVSTAT.desc : RegDesc := ⟨0xb00014, false, [], fun _ => [(.ro, THM_DEVSTAT.level), (.ro, THM_DEVSTAT.spare_broken), (.ro, THM_DEVSTAT.pri_broken), (.ro, THM_DEVSTAT.sel)]⟩
def THM_DEVCFG.grace : Fld := ⟨0xb00018, 8, 8, 0xa⟩
def THM_DEVCFG.warn_duty : Fld := ⟨0xb00018, 0, 8, 0x3c⟩
/-- THM_DEVCFG (R371). -/
def THM_DEVCFG.desc : RegDesc := ⟨0xb00018, false, [], fun _ => [(.koRwt, THM_DEVCFG.grace), (.koRwt, THM_DEVCFG.warn_duty)]⟩
def THM_DIODESEL.sel : Fld := ⟨0xb0001c, 0, 1, 0⟩
/-- THM_DIODESEL (R371). -/
def THM_DIODESEL.desc : RegDesc := ⟨0xb0001c, false, [], fun _ => [(.koRwt, THM_DIODESEL.sel)]⟩
def THM_SBDUTY.duty : Fld := ⟨0xb00020, 0, 7, 0x1e⟩
/-- THM_SBDUTY (R371). -/
def THM_SBDUTY.desc : RegDesc := ⟨0xb00020, false, [], fun _ => [(.koRwt, THM_SBDUTY.duty)]⟩
def THM_LEAKMAP.open_ : Fld := ⟨0xb00024, 16, 8, 0⟩
def THM_LEAKMAP.wet : Fld := ⟨0xb00024, 8, 8, 0⟩
def THM_LEAKMAP.latch : Fld := ⟨0xb00024, 0, 8, 0⟩
/-- THM_LEAKMAP (R371). -/
def THM_LEAKMAP.desc : RegDesc := ⟨0xb00024, false, [], fun _ => [(.ro, THM_LEAKMAP.open_), (.ro, THM_LEAKMAP.wet), (.w1c, THM_LEAKMAP.latch)]⟩
def THM_TLATCH.map : Fld := ⟨0xb00028, 16, 8, 0⟩
def THM_TLATCH.ext : Fld := ⟨0xb00028, 0, 16, 0⟩
/-- THM_TLATCH (R371). -/
def THM_TLATCH.desc : RegDesc := ⟨0xb00028, false, [], fun _ => [(.w1c, THM_TLATCH.map), (.w1c, THM_TLATCH.ext)]⟩
def THM_LORD.target : Fld := ⟨0xb00030, 28, 4, 0⟩
def THM_LORD.scope : Fld := ⟨0xb00030, 24, 4, 0⟩
def THM_LORD.release : Fld := ⟨0xb00030, 7, 1, 0⟩
def THM_LORD.value : Fld := ⟨0xb00030, 0, 7, 0⟩
/-- THM_LORD (R371). -/
def THM_LORD.desc : RegDesc := ⟨0xb00030, false, [], fun _ => [(.rws, THM_LORD.target), (.rws, THM_LORD.scope), (.rws, THM_LORD.release), (.rws, THM_LORD.value)]⟩
def THM_FLOWLOW.zones : Fld := ⟨0xb00034, 0, 8, 0⟩
/-- THM_FLOWLOW (R371). -/
def THM_FLOWLOW.desc : RegDesc := ⟨0xb00034, false, [], fun _ => [(.ro, THM_FLOWLOW.zones)]⟩
def THM_ZCFG.flow_to (z : Nat) : Fld := ⟨(0xb00100 + 0x20 * z), 24, 8, 0x1e⟩
def THM_ZCFG.flow_act (z : Nat) : Fld := ⟨(0xb00100 + 0x20 * z), 0, 1, 0⟩
/-- THM_ZCFG (R372). -/
def THM_ZCFG.desc : RegDesc := ⟨0xb00100, false, [(8, 0x20)], fun | [z] => [(.koRwt, THM_ZCFG.flow_to z), (.koRwt, THM_ZCFG.flow_act z)] | _ => []⟩
def THM_ZSTAT.fan_floor (z : Nat) : Fld := ⟨(0xb00104 + 0x20 * z), 24, 8, 0⟩
def THM_ZSTAT.pump_floor (z : Nat) : Fld := ⟨(0xb00104 + 0x20 * z), 16, 8, 0⟩
def THM_ZSTAT.curve (z : Nat) : Fld := ⟨(0xb00104 + 0x20 * z), 0, 10, 0⟩
/-- THM_ZSTAT (R372). -/
def THM_ZSTAT.desc : RegDesc := ⟨0xb00104, false, [(8, 0x20)], fun | [z] => [(.ro, THM_ZSTAT.fan_floor z), (.ro, THM_ZSTAT.pump_floor z), (.ro, THM_ZSTAT.curve z)] | _ => []⟩
def THM_CHSTAT.state (f : Nat) : Fld := ⟨(0xb00400 + 0x10 * f), 29, 3, 0⟩
def THM_CHSTAT.rpm (f : Nat) : Fld := ⟨(0xb00400 + 0x10 * f), 0, 16, 0⟩
/-- THM_CHSTAT (R373). -/
def THM_CHSTAT.desc : RegDesc := ⟨0xb00400, false, [(20, 0x10)], fun | [f] => [(.ro, THM_CHSTAT.state f), (.ro, THM_CHSTAT.rpm f)] | _ => []⟩
def THM_CHDUTY.demand (f : Nat) : Fld := ⟨(0xb00404 + 0x10 * f), 16, 10, 0⟩
def THM_CHDUTY.duty (f : Nat) : Fld := ⟨(0xb00404 + 0x10 * f), 0, 10, 0x3e8⟩
/-- THM_CHDUTY (R373). -/
def THM_CHDUTY.desc : RegDesc := ⟨0xb00404, false, [(20, 0x10)], fun | [f] => [(.ro, THM_CHDUTY.demand f), (.ro, THM_CHDUTY.duty f)] | _ => []⟩
def THM_CHSTALLS.count (f : Nat) : Fld := ⟨(0xb00408 + 0x10 * f), 0, 32, 0⟩
/-- THM_CHSTALLS (R373). -/
def THM_CHSTALLS.desc : RegDesc := ⟨0xb00408, false, [(20, 0x10)], fun | [f] => [(.rc, THM_CHSTALLS.count f)] | _ => []⟩
def THM_EXTCFG.hot (i : Nat) : Fld := ⟨(0xb00600 + 0x10 * i), 24, 8, 0⟩
def THM_EXTCFG.crit (i : Nat) : Fld := ⟨(0xb00600 + 0x10 * i), 16, 8, 0⟩
def THM_EXTCFG.hys (i : Nat) : Fld := ⟨(0xb00600 + 0x10 * i), 8, 8, 5⟩
def THM_EXTCFG.curve (i : Nat) : Fld := ⟨(0xb00600 + 0x10 * i), 6, 2, 0⟩
def THM_EXTCFG.en (i : Nat) : Fld := ⟨(0xb00600 + 0x10 * i), 0, 1, 0⟩
/-- THM_EXTCFG (R374). -/
def THM_EXTCFG.desc : RegDesc := ⟨0xb00600, false, [(16, 0x10)], fun | [i] => [(.koRwt, THM_EXTCFG.hot i), (.koRwt, THM_EXTCFG.crit i), (.koRwt, THM_EXTCFG.hys i), (.koRwt, THM_EXTCFG.curve i), (.koRwt, THM_EXTCFG.en i)] | _ => []⟩
def THM_EXTMASK.slots (i : Nat) : Fld := ⟨(0xb00604 + 0x10 * i), 0, 8, 0⟩
/-- THM_EXTMASK (R374). -/
def THM_EXTMASK.desc : RegDesc := ⟨0xb00604, false, [(16, 0x10)], fun | [i] => [(.koRwt, THM_EXTMASK.slots i)] | _ => []⟩
def THM_EXTT.open_ (i : Nat) : Fld := ⟨(0xb00608 + 0x10 * i), 31, 1, 0⟩
def THM_EXTT.short (i : Nat) : Fld := ⟨(0xb00608 + 0x10 * i), 30, 1, 0⟩
def THM_EXTT.hot (i : Nat) : Fld := ⟨(0xb00608 + 0x10 * i), 29, 1, 0⟩
def THM_EXTT.crit (i : Nat) : Fld := ⟨(0xb00608 + 0x10 * i), 28, 1, 0⟩
def THM_EXTT.t (i : Nat) : Fld := ⟨(0xb00608 + 0x10 * i), 0, 16, 0⟩
/-- THM_EXTT (R374). -/
def THM_EXTT.desc : RegDesc := ⟨0xb00608, false, [(16, 0x10)], fun | [i] => [(.ro, THM_EXTT.open_ i), (.ro, THM_EXTT.short i), (.ro, THM_EXTT.hot i), (.ro, THM_EXTT.crit i), (.ro, THM_EXTT.t i)] | _ => []⟩
def THM_MAPCFG.hot (n : Nat) : Fld := ⟨(0xb00700 + 0x10 * n), 24, 8, 0⟩
def THM_MAPCFG.crit (n : Nat) : Fld := ⟨(0xb00700 + 0x10 * n), 16, 8, 0⟩
def THM_MAPCFG.hys (n : Nat) : Fld := ⟨(0xb00700 + 0x10 * n), 8, 8, 5⟩
def THM_MAPCFG.lost_idx (n : Nat) : Fld := ⟨(0xb00700 + 0x10 * n), 0, 8, 0⟩
/-- THM_MAPCFG (R375). -/
def THM_MAPCFG.desc : RegDesc := ⟨0xb00700, false, [(8, 0x10)], fun | [n] => [(.koRwt, THM_MAPCFG.hot n), (.koRwt, THM_MAPCFG.crit n), (.koRwt, THM_MAPCFG.hys n), (.koRwt, THM_MAPCFG.lost_idx n)] | _ => []⟩
def THM_MAPT.lost (n : Nat) : Fld := ⟨(0xb00704 + 0x10 * n), 31, 1, 0⟩
def THM_MAPT.hot (n : Nat) : Fld := ⟨(0xb00704 + 0x10 * n), 30, 1, 0⟩
def THM_MAPT.crit (n : Nat) : Fld := ⟨(0xb00704 + 0x10 * n), 29, 1, 0⟩
def THM_MAPT.t (n : Nat) : Fld := ⟨(0xb00704 + 0x10 * n), 0, 16, 0⟩
/-- THM_MAPT (R375). -/
def THM_MAPT.desc : RegDesc := ⟨0xb00704, false, [(8, 0x10)], fun | [n] => [(.ro, THM_MAPT.lost n), (.ro, THM_MAPT.hot n), (.ro, THM_MAPT.crit n), (.ro, THM_MAPT.t n)] | _ => []⟩
def THM_CEIL.ceil (n : Nat) : Fld := ⟨(0xb00708 + 0x10 * n), 0, 8, 0xff⟩
/-- THM_CEIL (R375). -/
def THM_CEIL.desc : RegDesc := ⟨0xb00708, false, [(8, 0x10)], fun | [n] => [(.ro, THM_CEIL.ceil n)] | _ => []⟩
def THM_CURVE.ratio (k m : Nat) : Fld := ⟨(0xb00800 + 0x80 * k + 0x4 * m), 16, 16, 0⟩
def THM_CURVE.t (k m : Nat) : Fld := ⟨(0xb00800 + 0x80 * k + 0x4 * m), 0, 16, 0⟩
/-- THM_CURVE (R376). -/
def THM_CURVE.desc : RegDesc := ⟨0xb00800, false, [(4, 0x80), (32, 0x4)], fun | [k, m] => [(.koRwt, THM_CURVE.ratio k m), (.koRwt, THM_CURVE.t k m)] | _ => []⟩
def THM_FLOW.rate (i : Nat) : Fld := ⟨(0xb00a00 + 0x4 * i), 0, 16, 0⟩
/-- THM_FLOW (R376). -/
def THM_FLOW.desc : RegDesc := ⟨0xb00a00, false, [(8, 0x4)], fun | [i] => [(.ro, THM_FLOW.rate i)] | _ => []⟩
def THM_ORD.valid (t s src : Nat) : Fld := ⟨(0xb08000 + 0x100 * t + 0x10 * s + 0x4 * (src - 1)), 31, 1, 0⟩
def THM_ORD.value (t s src : Nat) : Fld := ⟨(0xb08000 + 0x100 * t + 0x10 * s + 0x4 * (src - 1)), 0, 7, 0⟩
/-- THM_ORD (R377). -/
def THM_ORD.desc : RegDesc := ⟨0xb08000, false, [(2, 0x100), (8, 0x10), (4, 0x4)], fun | [t, s, src] => [(.ro, THM_ORD.valid t s (src + 1)), (.ro, THM_ORD.value t s (src + 1))] | _ => []⟩
def THM_INFORCE.src (t s : Nat) : Fld := ⟨(0xb09000 + 0x40 * t + 0x4 * s), 28, 4, 0⟩
def THM_INFORCE.value (t s : Nat) : Fld := ⟨(0xb09000 + 0x40 * t + 0x4 * s), 0, 7, 0⟩
/-- THM_INFORCE (R377). -/
def THM_INFORCE.desc : RegDesc := ⟨0xb09000, false, [(2, 0x40), (8, 0x4)], fun | [t, s] => [(.ro, THM_INFORCE.src t s), (.ro, THM_INFORCE.value t s)] | _ => []⟩
def ACU_EVT.alert : Fld := ⟨0xc00000, 4, 1, 0⟩
def ACU_EVT.boot : Fld := ⟨0xc00000, 3, 1, 0⟩
def ACU_EVT.custody : Fld := ⟨0xc00000, 2, 1, 0⟩
def ACU_EVT.present : Fld := ⟨0xc00000, 1, 1, 0⟩
def ACU_EVT.reset : Fld := ⟨0xc00000, 0, 1, 0⟩
/-- ACU_EVT (R394). -/
def ACU_EVT.desc : RegDesc := ⟨0xc00000, false, [], fun _ => [(.w1c, ACU_EVT.alert), (.w1c, ACU_EVT.boot), (.w1c, ACU_EVT.custody), (.w1c, ACU_EVT.present), (.w1c, ACU_EVT.reset)]⟩
def ACU_EVTEN.en : Fld := ⟨0xc00004, 0, 5, 0⟩
/-- ACU_EVTEN (R394). -/
def ACU_EVTEN.desc : RegDesc := ⟨0xc00004, false, [], fun _ => [(.rw, ACU_EVTEN.en)]⟩
def ACU_TIMING.setup : Fld := ⟨0xc00008, 24, 8, 0xa⟩
def ACU_TIMING.own_delay : Fld := ⟨0xc00008, 16, 8, 0x64⟩
def ACU_TIMING.rst_min : Fld := ⟨0xc00008, 0, 16, 0x64⟩
/-- ACU_TIMING (R394). -/
def ACU_TIMING.desc : RegDesc := ⟨0xc00008, false, [], fun _ => [(.ko, ACU_TIMING.setup), (.ko, ACU_TIMING.own_delay), (.ko, ACU_TIMING.rst_min)]⟩
def ACU_LORD.target : Fld := ⟨0xc00010, 28, 4, 0⟩
def ACU_LORD.scope : Fld := ⟨0xc00010, 24, 4, 0⟩
def ACU_LORD.value : Fld := ⟨0xc00010, 1, 1, 0⟩
def ACU_LORD.release : Fld := ⟨0xc00010, 0, 1, 0⟩
/-- ACU_LORD (R394). -/
def ACU_LORD.desc : RegDesc := ⟨0xc00010, false, [], fun _ => [(.rws, ACU_LORD.target), (.rws, ACU_LORD.scope), (.rws, ACU_LORD.value), (.rws, ACU_LORD.release)]⟩
def ACU_SCFG.gold (n : Nat) : Fld := ⟨(0xc01000 + 0x100 * n), 24, 8, 0xff⟩
def ACU_SCFG.verify_gate (n : Nat) : Fld := ⟨(0xc01000 + 0x100 * n), 19, 1, 0⟩
def ACU_SCFG.auto_reflash (n : Nat) : Fld := ⟨(0xc01000 + 0x100 * n), 18, 1, 0⟩
def ACU_SCFG.boot (n : Nat) : Fld := ⟨(0xc01000 + 0x100 * n), 16, 2, 0⟩
def ACU_SCFG.strap (n : Nat) : Fld := ⟨(0xc01000 + 0x100 * n), 0, 8, 0⟩
/-- ACU_SCFG (R395). -/
def ACU_SCFG.desc : RegDesc := ⟨0xc01000, false, [(8, 0x100)], fun | [n] => [(.ko, ACU_SCFG.gold n), (.ko, ACU_SCFG.verify_gate n), (.ko, ACU_SCFG.auto_reflash n), (.rw, ACU_SCFG.boot n), (.rw, ACU_SCFG.strap n)] | _ => []⟩
def ACU_SBOOT.boot_to (n : Nat) : Fld := ⟨(0xc01004 + 0x100 * n), 16, 16, 0x1388⟩
def ACU_SBOOT.boot_retries (n : Nat) : Fld := ⟨(0xc01004 + 0x100 * n), 8, 8, 2⟩
def ACU_SBOOT.fail_act (n : Nat) : Fld := ⟨(0xc01004 + 0x100 * n), 1, 1, 0⟩
def ACU_SBOOT.alert_act (n : Nat) : Fld := ⟨(0xc01004 + 0x100 * n), 0, 1, 0⟩
/-- ACU_SBOOT (R395). -/
def ACU_SBOOT.desc : RegDesc := ⟨0xc01004, false, [(8, 0x100)], fun | [n] => [(.ko, ACU_SBOOT.boot_to n), (.ko, ACU_SBOOT.boot_retries n), (.ko, ACU_SBOOT.fail_act n), (.ko, ACU_SBOOT.alert_act n)] | _ => []⟩
def ACU_SSTAT.state (n : Nat) : Fld := ⟨(0xc01008 + 0x100 * n), 28, 4, 0⟩
def ACU_SSTAT.present (n : Nat) : Fld := ⟨(0xc01008 + 0x100 * n), 27, 1, 0⟩
def ACU_SSTAT.rst (n : Nat) : Fld := ⟨(0xc01008 + 0x100 * n), 26, 1, 1⟩
def ACU_SSTAT.owned (n : Nat) : Fld := ⟨(0xc01008 + 0x100 * n), 25, 1, 0⟩
def ACU_SSTAT.alert (n : Nat) : Fld := ⟨(0xc01008 + 0x100 * n), 24, 1, 0⟩
def ACU_SSTAT.verified (n : Nat) : Fld := ⟨(0xc01008 + 0x100 * n), 23, 1, 0⟩
def ACU_SSTAT.attempts (n : Nat) : Fld := ⟨(0xc01008 + 0x100 * n), 8, 8, 0⟩
def ACU_SSTAT.cause (n : Nat) : Fld := ⟨(0xc01008 + 0x100 * n), 0, 8, 2⟩
/-- ACU_SSTAT (R395). -/
def ACU_SSTAT.desc : RegDesc := ⟨0xc01008, false, [(8, 0x100)], fun | [n] => [(.ro, ACU_SSTAT.state n), (.ro, ACU_SSTAT.present n), (.ro, ACU_SSTAT.rst n), (.ro, ACU_SSTAT.owned n), (.ro, ACU_SSTAT.alert n), (.ro, ACU_SSTAT.verified n), (.ro, ACU_SSTAT.attempts n), (.ro, ACU_SSTAT.cause n)] | _ => []⟩
def ACU_CMD.skip_same (n : Nat) : Fld := ⟨(0xc0100c + 0x100 * n), 8, 1, 0⟩
def ACU_CMD.keep (n : Nat) : Fld := ⟨(0xc0100c + 0x100 * n), 7, 1, 0⟩
def ACU_CMD.op (n : Nat) : Fld := ⟨(0xc0100c + 0x100 * n), 0, 3, 0⟩
/-- ACU_CMD (R395). -/
def ACU_CMD.desc : RegDesc := ⟨0xc0100c, false, [(8, 0x100)], fun | [n] => [(.wo, ACU_CMD.skip_same n), (.wo, ACU_CMD.keep n), (.wo, ACU_CMD.op n)] | _ => []⟩
def ACU_CMDSTAT.busy (n : Nat) : Fld := ⟨(0xc01010 + 0x100 * n), 31, 1, 0⟩
def ACU_CMDSTAT.region (n : Nat) : Fld := ⟨(0xc01010 + 0x100 * n), 16, 8, 0⟩
def ACU_CMDSTAT.op (n : Nat) : Fld := ⟨(0xc01010 + 0x100 * n), 8, 8, 0⟩
def ACU_CMDSTAT.code (n : Nat) : Fld := ⟨(0xc01010 + 0x100 * n), 0, 8, 0⟩
/-- ACU_CMDSTAT (R395). -/
def ACU_CMDSTAT.desc : RegDesc := ⟨0xc01010, false, [(8, 0x100)], fun | [n] => [(.ro, ACU_CMDSTAT.busy n), (.ro, ACU_CMDSTAT.region n), (.ro, ACU_CMDSTAT.op n), (.ro, ACU_CMDSTAT.code n)] | _ => []⟩
def ACU_SMANOFS.ofs (n : Nat) : Fld := ⟨(0xc01014 + 0x100 * n), 0, 32, 0⟩
/-- ACU_SMANOFS (R395). -/
def ACU_SMANOFS.desc : RegDesc := ⟨0xc01014, false, [(8, 0x100)], fun | [n] => [(.ko, ACU_SMANOFS.ofs n)] | _ => []⟩
def ACU_FLASHID.id (n : Nat) : Fld := ⟨(0xc01018 + 0x100 * n), 0, 32, 0⟩
/-- ACU_FLASHID (R395). -/
def ACU_FLASHID.desc : RegDesc := ⟨0xc01018, false, [(8, 0x100)], fun | [n] => [(.ro, ACU_FLASHID.id n)] | _ => []⟩
def ACU_FSIZE.kib (n : Nat) : Fld := ⟨(0xc0101c + 0x100 * n), 0, 32, 0⟩
/-- ACU_FSIZE (R395). -/
def ACU_FSIZE.desc : RegDesc := ⟨0xc0101c, false, [(8, 0x100)], fun | [n] => [(.ro, ACU_FSIZE.kib n)] | _ => []⟩
def ACU_VER.version (n : Nat) : Fld := ⟨(0xc01020 + 0x100 * n), 0, 32, 0⟩
/-- ACU_VER (R395). -/
def ACU_VER.desc : RegDesc := ⟨0xc01020, false, [(8, 0x100)], fun | [n] => [(.ro, ACU_VER.version n)] | _ => []⟩
def ACU_PROG.bytes (n : Nat) : Fld := ⟨(0xc01028 + 0x100 * n), 0, 64, 0⟩
/-- ACU_PROG (R395). -/
def ACU_PROG.desc : RegDesc := ⟨0xc01028, true, [(8, 0x100)], fun | [n] => [(.ro, ACU_PROG.bytes n)] | _ => []⟩
def ACU_RELT.stamp (n : Nat) : Fld := ⟨(0xc01030 + 0x100 * n), 0, 64, 0⟩
/-- ACU_RELT (R395). -/
def ACU_RELT.desc : RegDesc := ⟨0xc01030, true, [(8, 0x100)], fun | [n] => [(.ro, ACU_RELT.stamp n)] | _ => []⟩
def ACU_BOOTS.count (n : Nat) : Fld := ⟨(0xc01038 + 0x100 * n), 0, 32, 0⟩
/-- ACU_BOOTS (R395). -/
def ACU_BOOTS.desc : RegDesc := ⟨0xc01038, false, [(8, 0x100)], fun | [n] => [(.ro, ACU_BOOTS.count n)] | _ => []⟩
def ACU_ORD.valid (n src : Nat) : Fld := ⟨(0xc08000 + 0x10 * n + 0x4 * (src - 1)), 31, 1, 0⟩
def ACU_ORD.value (n src : Nat) : Fld := ⟨(0xc08000 + 0x10 * n + 0x4 * (src - 1)), 0, 1, 0⟩
/-- ACU_ORD (R396). -/
def ACU_ORD.desc : RegDesc := ⟨0xc08000, false, [(8, 0x10), (4, 0x4)], fun | [n, src] => [(.ro, ACU_ORD.valid n (src + 1)), (.ro, ACU_ORD.value n (src + 1))] | _ => []⟩
def ACU_INFORCE.src (n : Nat) : Fld := ⟨(0xc09000 + 0x4 * n), 28, 4, 0⟩
def ACU_INFORCE.value (n : Nat) : Fld := ⟨(0xc09000 + 0x4 * n), 0, 1, 0⟩
/-- ACU_INFORCE (R396). -/
def ACU_INFORCE.desc : RegDesc := ⟨0xc09000, false, [(8, 0x4)], fun | [n] => [(.ro, ACU_INFORCE.src n), (.ro, ACU_INFORCE.value n)] | _ => []⟩
/-- The registers of block SEQ. -/
def descsSEQ : List RegDesc :=
  [SEQ_CTL.desc, SEQ_EVT.desc, SEQ_EVTEN.desc, SEQ_STAT.desc, SEQ_FIRST.desc, SEQ_FIRSTT.desc, SEQ_FAULTMAP.desc, SEQ_LORD.desc, SEQ_GCFG.desc, SEQ_GSTAT.desc, SEQ_GBLOCK.desc, SEQ_RAILCFG.desc, SEQ_RAILTO.desc, SEQ_RAILDIS.desc, SEQ_RAILQ.desc, SEQ_RAILVG.desc, SEQ_RAILVO.desc, SEQ_RAILMODE.desc, SEQ_MARGIN.desc, SEQ_RSTAT.desc, SEQ_RCHAT.desc, SEQ_RFAULTS.desc, SEQ_RCYCLES.desc, SEQ_RRETRY.desc, SEQ_ORD.desc, SEQ_INFORCE.desc]
/-- The registers of block FED. -/
def descsFED : List RegDesc :=
  [FED_CTL.desc, FED_EVT.desc, FED_EVTEN.desc, FED_SELCFG.desc, FED_SELSTAT.desc, FED_FEEDV.desc, FED_FEEDQ.desc, FED_PIN.desc, FED_PFEED.desc, FED_TRIPMAP.desc, FED_DMGMAP.desc, FED_DMGCLR.desc, FED_LORD.desc, FED_SWITCHES.desc, FED_CHCFG.desc, FED_CHLIM.desc, FED_CHSOA.desc, FED_CHEMAX.desc, FED_CHPG.desc, FED_CHLEAK.desc, FED_CHREV.desc, FED_CHRATED.desc, FED_CHSTAT.desc, FED_CHV.desc, FED_CHI.desc, FED_CHP.desc, FED_CHE.desc, FED_CHTRIPS.desc, FED_ORD.desc, FED_INFORCE.desc]
/-- The registers of block THM. -/
def descsTHM : List RegDesc :=
  [THM_CTL.desc, THM_EVT.desc, THM_EVTEN.desc, THM_DEVT.desc, THM_DEVSTAT.desc, THM_DEVCFG.desc, THM_DIODESEL.desc, THM_SBDUTY.desc, THM_LEAKMAP.desc, THM_TLATCH.desc, THM_LORD.desc, THM_FLOWLOW.desc, THM_ZCFG.desc, THM_ZSTAT.desc, THM_CHSTAT.desc, THM_CHDUTY.desc, THM_CHSTALLS.desc, THM_EXTCFG.desc, THM_EXTMASK.desc, THM_EXTT.desc, THM_MAPCFG.desc, THM_MAPT.desc, THM_CEIL.desc, THM_CURVE.desc, THM_FLOW.desc, THM_ORD.desc, THM_INFORCE.desc]
/-- The registers of block ACU. -/
def descsACU : List RegDesc :=
  [ACU_EVT.desc, ACU_EVTEN.desc, ACU_TIMING.desc, ACU_LORD.desc, ACU_SCFG.desc, ACU_SBOOT.desc, ACU_SSTAT.desc, ACU_CMD.desc, ACU_CMDSTAT.desc, ACU_SMANOFS.desc, ACU_FLASHID.desc, ACU_FSIZE.desc, ACU_VER.desc, ACU_PROG.desc, ACU_RELT.desc, ACU_BOOTS.desc, ACU_ORD.desc, ACU_INFORCE.desc]

end Sys2Proof.Machine
end

