-- ==== Sys2Proof/Machine/Bus.lean ====
section
/-! DEFINITION. BAR0 (R34): which block, register and field an address names, who may reach it, and what a read returns. -/

namespace Sys2Proof.Machine

/-- FREE VALUE. The next value that the spec leaves open, and the step of the counter it is taken by. -/
def State.free (s : State) : Nat := Config.freeValue (s.rd V.freeCtr)
def freeUsed (s : State) : Upd := bump s V.freeCtr

/-- Requester codes of R65. -/
def Req.keeper : Nat := 0
def Req.host : Nat := 6
def Req.rack : Nat := 7
def Req.dma : Nat := 8
def Req.hw : Nat := 9

/-- A service core: logical cores 1 to 4, and the spare (R408). -/
def isServiceCore (req : Nat) : Bool := decide (1 ≤ req) && decide (req ≤ 5)

/-- A management core. -/
def isCore (req : Nat) : Bool := decide (req ≤ 5)

/-- A block of BAR0: its base, the end of its range, its plane (0 Cirque, 1 prediction, 2 record, 3 management, 4 island) and
its registers. -/
structure Block where
  base : Nat
  top : Nat
  plane : Nat
  descs : List RegDesc

/-- The register blocks (R34). -/
def blocks : List Block :=
  [⟨0x000_0000, 0x010_0000, 3, descsGLB⟩, ⟨0x010_0000, 0x018_0000, 0, descsTIM⟩, ⟨0x018_0000, 0x020_0000, 2, descsJRN⟩,
   ⟨0x020_0000, 0x024_0000, 0, descsPHT⟩, ⟨0x024_0000, 0x028_0000, 0, descsPHT⟩, ⟨0x028_0000, 0x02C_0000, 0, descsPHT⟩,
   ⟨0x02C_0000, 0x030_0000, 0, descsPHT⟩, ⟨0x030_0000, 0x031_0000, 0, descsSWJ⟩, ⟨0x031_0000, 0x032_0000, 0, descsSWJ⟩,
   ⟨0x032_0000, 0x033_0000, 0, descsSWJ⟩, ⟨0x033_0000, 0x034_0000, 0, descsSWJ⟩, ⟨0x034_0000, 0x035_0000, 0, descsSWJ⟩,
   ⟨0x035_0000, 0x036_0000, 0, descsSWJ⟩, ⟨0x036_0000, 0x037_0000, 0, descsSWJ⟩, ⟨0x037_0000, 0x038_0000, 0, descsSWJ⟩,
   ⟨0x040_0000, 0x050_0000, 0, descsCAP⟩, ⟨0x050_0000, 0x060_0000, 1, descsPRD⟩, ⟨0x060_0000, 0x080_0000, 0, descsFAB⟩,
   ⟨0x080_0000, 0x090_0000, 0, descsJOB⟩, ⟨0x090_0000, 0x0A0_0000, 0, descsSEQ⟩, ⟨0x0A0_0000, 0x0B0_0000, 0, descsFED⟩,
   ⟨0x0B0_0000, 0x0C0_0000, 0, descsTHM⟩, ⟨0x0C0_0000, 0x0D0_0000, 3, descsACU⟩, ⟨0x0D0_0000, 0x0E0_0000, 3, descsKPR⟩,
   ⟨0x0E0_0000, 0x0F0_0000, 3, descsIMG⟩, ⟨0x0F0_0000, 0x100_0000, 3, descsHIF⟩, ⟨0x100_0000, 0x110_0000, 3, descsTWI⟩,
   ⟨0x110_0000, 0x120_0000, 2, descsMEM⟩, ⟨0x120_0000, 0x128_0000, 3, descsPMC⟩, ⟨0x128_0000, 0x130_0000, 3, descsTAM⟩,
   ⟨0x130_0000, 0x140_0000, 4, descsCRP⟩]

/-- The block an address lies in. -/
def blockAt? (a : Nat) : Option Block := blocks.find? (fun b => decide (b.base ≤ a) && decide (a < b.top))

/-- Bases of the blocks that carry the common staging registers (R76). -/
def stagingBases : List Nat :=
  [0x10_0000, 0x20_0000, 0x24_0000, 0x28_0000, 0x2C_0000, 0x40_0000, 0x50_0000, 0x60_0000, 0x80_0000, 0x90_0000, 0xA0_0000,
   0xB0_0000, 0xC0_0000]

/-- The indices at which an array reaches `rem` bytes past its first copy, and the bytes left over. -/
def indicesAt : List (Nat × Nat) → Nat → Option (List Nat × Nat)
  | [], rem => some ([], rem)
  | (c, st) :: ds, rem =>
    let i := rem / st
    if i < c then (indicesAt ds (rem - i * st)).map (fun r => (i :: r.1, r.2)) else none

/-- A register found at an address: its description, indices, address, and whether the address is its upper word. -/
structure RegHit where
  desc : RegDesc
  idx : List Nat
  addr : Nat
  upper : Bool

/-- The register of a description at an address. -/
def RegDesc.hit? (d : RegDesc) (a : Nat) : Option RegHit :=
  if a < d.base then none
  else match indicesAt d.dims (a - d.base) with
    | some (idx, 0) => some ⟨d, idx, a, false⟩
    | some (idx, 4) => if d.wide then some ⟨d, idx, a - 4, true⟩ else none
    | _ => none

/-- The register an address names (R34). -/
def regAt? (a : Nat) : Option RegHit := (blockAt? a).bind (fun b => b.descs.findSome? (fun d => d.hit? a))

/-- The fields of a register that was found. -/
def RegHit.fields (h : RegHit) : List (Access × Fld) := h.desc.fields h.idx

/-- The common staging register an address names (R76): the block's base and the offset from 0xFF00. -/
def stagingReg? (a : Nat) : Option (Nat × Nat) :=
  (stagingBases.find? (fun b => decide (b + 0xFF00 ≤ a) && decide (a < b + 0xFF10))).map (fun b => (b, a - b - 0xFF00))

/-- Some register covers the address. -/
def covered (a : Nat) : Bool := (regAt? a).isSome || (stagingReg? a).isSome

/-- The plane that owns an address is held in reset (R35); the island never is. -/
def State.planeDown (s : State) (a : Nat) : Bool :=
  match blockAt? a with
  | some b => decide (b.plane < 4) && s.on (V.planeHeld b.plane)
  | none => false

/-- A grant entry of R409 lets a core through: its kind, whether the access is covered, and its access level. -/
def grantLevel (entry core kind a len : Nat) : Option Nat :=
  let valid := bit entry 63
  let base := bits entry 30 26 * 4096
  let size := bits entry 4 26 * 4096
  if valid && (bits entry 62 1 == kind) && bit (bits entry 56 4) (core - 1) && decide (base ≤ a) && decide (a + len ≤ base + size)
  then some (bits entry 60 2) else none

/-- The strongest access level that the grants give a service core over a range (R410). -/
def State.granted (s : State) (core kind a len : Nat) : Option Nat :=
  (List.range 64).foldl (fun (best : Option Nat) g =>
    match grantLevel (s.rd (KPR_GRANT.entry g)) core kind a len, best with
    | some l, some b => some (max l b)
    | some l, none => some l
    | none, b => b) none

/-- Offsets of KPR that every requester may read (R421). -/
def openKpr (a : Nat) : Bool := decide (0xD0_0000 ≤ a) && decide (a < 0xD0_0100)

/-- A read by this requester passes the grant filter (R410). -/
def State.mayRead (s : State) (req a len : Nat) : Bool :=
  !isServiceCore req || openKpr a || decide (a < 4) || (s.granted req 0 a len).isSome

/-- A write of a field with this access type passes the grant filter (R409, R410). -/
def State.mayWrite (s : State) (req a len : Nat) (acc : Access) : Bool :=
  if isServiceCore req then
    match s.granted req 0 a len with
    | some l => if acc.transactional then l == 2 else decide (1 ≤ l)
    | none => false
  else true

/-- The src word of a requester's DISCARDED_WRITE (R587). -/
def reqSrc (req : Nat) : Nat :=
  if req ≤ 5 then srcOf 0xB req else if req = Req.host then srcOf 0xC 0xFFF else if req = Req.rack then srcOf 0xD 0 else 0

/-- A discarded access (R65, R588). `space` is 0 BAR0, 1 device physical, 2 BAR2. -/
def discardedRec (req reason space : Nat) (isRead : Bool) (width data a : Nat) : Rec :=
  { typ := Ty.DISCARDED_WRITE, src := reqSrc req,
    pay := [(24, 1, req), (25, 1, reason), (26, 1, space), (27, 1, ofBool isRead * 128 + width % 16),
      (28, 4, if isRead then 0 else data), (32, 8, a)] }

/-- A discarded register write. -/
def discardWrite (req reason width data a : Nat) : Upd := .emit (discardedRec req reason 0 false width data a)

end Sys2Proof.Machine
end

