-- ==== Sys2Proof/Machine/Image.lean ====
section
/-! DEFINITION. Reading a structure image where it lies in a bank of the fabric and structure store (R240-R251): the header,
the directory and the items of each section. -/

namespace Sys2Proof.Machine

/-- The little-endian number of `n` bytes of memory at `a`. -/
def State.leMem (s : State) (a n : Nat) : Nat := ofLe (memBytes s.mem a n)

/-- Base address of a bank (R253, R254). -/
def bankBase (b : Nat) : Nat := if b = 0 then 0xE000_0000 else 0xE7F0_0000

/-- Bytes of a bank. -/
def bankSize : Nat := 0x7F0_0000

/-- Base address of the snapshot area. -/
def snapBase : Nat := 0xEFE0_0000

/-- An image is committed. -/
def State.committed (s : State) : Bool := s.on FAB_STAT.committed

/-- Address of the committed image. -/
def State.liveImg (s : State) : Nat := bankBase (s.rd FAB_STAT.bank)

/-- Address of the bank that is not live, into which an image is loaded (R254). -/
def State.idleImg (s : State) : Nat := bankBase (1 - s.rd FAB_STAT.bank)

/-- A section as its directory entry gives it (R240). -/
structure Sect where
  typ : Nat
  optional : Bool
  count : Nat
  ofs : Nat
  len : Nat
  deriving DecidableEq, Repr

/-- Section types (R241). -/
def Sec.cells : Nat := 0x01
def Sec.routes : Nat := 0x02
def Sec.const : Nat := 0x03
def Sec.sched : Nat := 0x04
def Sec.iobind : Nat := 0x05
def Sec.rails : Nat := 0x06
def Sec.fans : Nat := 0x07
def Sec.reserve : Nat := 0x08
def Sec.models : Nat := 0x09
def Sec.reginit : Nat := 0x0A
def Sec.params : Nat := 0x0B
def Sec.record : Nat := 0x0C
def Sec.policy : Nat := 0x0D
def Sec.manifest : Nat := 0x7F

/-- Directory entry i of the image at `b`. -/
def State.dirEntry (s : State) (b i : Nat) : Sect :=
  let a := b + 64 + 16 * i
  ⟨s.leMem a 1, bit (s.leMem (a + 1) 1) 0, s.leMem (a + 4) 4, s.leMem (a + 8) 4, s.leMem (a + 12) 4⟩

/-- The directory of the image at `b`. -/
def State.directory (s : State) (b : Nat) : List Sect := (List.range (min 28 (s.leMem (b + 14) 2))).map (s.dirEntry b)

/-- A section of the image at `b`. -/
def State.sect? (s : State) (b typ : Nat) : Option Sect := (s.directory b).find? (fun e => e.typ == typ)

/-- Items of a section. -/
def State.itemCount (s : State) (b typ : Nat) : Nat := ((s.sect? b typ).map (·.count)).getD 0

/-- Address of item i, `size` bytes each, of a section; 0 where the image has no such section. -/
def State.itemAt (s : State) (b typ size i : Nat) : Nat :=
  match s.sect? b typ with
  | some e => b + e.ofs + size * i
  | none => 0

/-- A run-time parameter (R248). -/
structure Param where
  cell : Nat
  isB : Bool
  host : Bool
  cores : Bool
  set : Nat
  lo : Int
  hi : Int
  step : Nat
  deriving DecidableEq, Repr

/-- Parameter p of the committed image. -/
def State.param? (s : State) (p : Nat) : Option Param :=
  if s.committed && decide (p < s.itemCount s.liveImg Sec.params) then
    let a := s.itemAt s.liveImg Sec.params 16 p
    let f := s.leMem (a + 2) 1
    some ⟨s.leMem a 2, bit f 0, bit f 1, bit f 2, s.leMem (a + 3) 1, toSigned 32 (s.leMem (a + 4) 4), toSigned 32 (s.leMem (a + 8) 4), s.leMem (a + 12) 4⟩
  else none

/-- A POLICY item (R249). -/
def State.policyAt (s : State) (b i : Nat) : List Nat := memBytes s.mem (s.itemAt b Sec.policy 16 i) 16

/-- The survey bound of an item and index (R249): response, low and high. -/
def State.surveyBound? (s : State) (item idx : Nat) : Option (Nat × Nat × Nat) :=
  if s.committed then
    (List.range (s.itemCount s.liveImg Sec.policy)).findSome? (fun i =>
      let p := s.policyAt s.liveImg i
      if leAt p 0 1 == 1 && leAt p 1 1 == item && leAt p 2 2 == idx then some (leAt p 4 1, leAt p 8 4, leAt p 12 4) else none)
  else none

/-- The LOCAL defaults of the image at `b` (R249 kind 2, R584); an item whose byte 5 is 0 is a RELEASE and gives none. -/
def State.localDefaults (s : State) (b : Nat) : List Order :=
  (List.range (s.itemCount b Sec.policy)).filterMap (fun i =>
    let p := s.policyAt b i
    if leAt p 0 1 == 2 && leAt p 5 1 == 1 then
      some ⟨leAt p 1 1, leAt p 2 1, leAt p 3 1, 4, false, leAt p 8 4, leAt p 4 1, 0xFFFF_FFFF, 0, false⟩
    else none)

/-- The verdict of a survey value against its bounds (R65): 0 pass, 1 below, 2 above. -/
def surveyVerdict (v lo hi : Nat) : Nat := if v < lo then 1 else if hi < v then 2 else 0

/-- The SURVEY record of an item (R37, R65); without a bound in the image the item passes. -/
def State.surveyRec (s : State) (src item idx value : Nat) : Rec :=
  match s.surveyBound? item idx with
  | some (resp, lo, hi) =>
    let v := surveyVerdict value lo hi
    { typ := Ty.SURVEY, src := src,
      pay := [(24, 1, item), (25, 1, v), (26, 1, if v = 0 then 0 else resp), (28, 2, idx), (32, 4, value), (36, 4, lo), (40, 4, hi)] }
  | none => { typ := Ty.SURVEY, src := src, pay := [(24, 1, item), (32, 4, value)] }

/-- The SURVEY record of an item that could not be measured (R65): verdict 3. -/
def State.surveyMissing (s : State) (src item idx : Nat) : Rec :=
  match s.surveyBound? item idx with
  | some (_, lo, hi) => { typ := Ty.SURVEY, src := src, pay := [(24, 1, item), (25, 1, 3), (28, 2, idx), (36, 4, lo), (40, 4, hi)] }
  | none => { typ := Ty.SURVEY, src := src, pay := [(24, 1, item), (25, 1, 3)] }

/-- The response of R38 that a survey result calls for: 0 none or record only, 1 retire, 2 hold rail off, 3 hold lane down. -/
def State.surveyResponse (s : State) (item idx value : Nat) : Nat :=
  match s.surveyBound? item idx with
  | some (resp, lo, hi) => if surveyVerdict value lo hi = 0 then 0 else resp
  | none => 0

end Sys2Proof.Machine
end

