-- ==== Sys2Proof/Machine/Orders.lean ====
section
/-! DEFINITION. Orders and their precedence (R26-R32, R182, R313, R341, R367, R380, R583-R585): what an order names, how it
replaces others, how it takes effect, and which order is in force. -/

namespace Sys2Proof.Machine

/-- Sources, strongest first (R26). -/
def Src.protect : Nat := 1
def Src.rack : Nat := 2
def Src.host : Nat := 3
def Src.loc : Nat := 4

/-- Order blocks (R65). -/
def Blk.cap : Nat := 0
def Blk.seq : Nat := 1
def Blk.thm : Nat := 2
def Blk.fed : Nat := 3
def Blk.acu : Nat := 4

/-- Targets (R182, R313, R367, R341, R380). -/
def Tgt.slotCap : Nat := 0
def Tgt.trayCap : Nat := 1
def Tgt.freqCeil : Nat := 2
def Tgt.rampCeil : Nat := 3
def Tgt.currCeil : Nat := 4
def Tgt.envUp : Nat := 5
def Tgt.envDown : Nat := 6
def Tgt.envFloor : Nat := 7
def Tgt.ballastEn : Nat := 8
def Tgt.groupPwr : Nat := 0
def Tgt.fanFloor : Nat := 0
def Tgt.pumpFloor : Nat := 1
def Tgt.chEn : Nat := 0
def Tgt.accRun : Nat := 0

/-- How a target's standing orders combine (R29). -/
inductive TargetKind where
  | onOff | ceiling | floor
  deriving DecidableEq, Repr

/-- The kind of a target. -/
def targetKind (blk target : Nat) : TargetKind :=
  if blk = Blk.cap then
    (if target = Tgt.ballastEn then .onOff else if target = Tgt.envFloor then .floor else .ceiling)
  else if blk = Blk.thm then .floor else .onOff

/-- The number of an order that has none (R584). -/
def seqNone : Nat := 0xFFFF_FFFF

/-- A target carries a window of 1 to 60 s (R182). -/
def windowed (blk target : Nat) : Bool := blk == Blk.cap && decide (target < 2)

/-- The scopes a CAP target has (R182). -/
def capScope (target scope : Nat) : Bool :=
  if target = Tgt.slotCap || target = Tgt.rampCeil || target = Tgt.currCeil then decide (scope < 8)
  else if target = Tgt.freqCeil then decide (scope < 9)
  else if target ≤ Tgt.ballastEn then scope == 8 else false

/-- Block, target, scope, window and source are defined for an order (R182, R313, R341, R367, R380). -/
def State.orderDefined (s : State) (src blk target scope window : Nat) (release : Bool) : Bool :=
  if blk = Blk.cap then
    capScope target scope && (target != Tgt.currCeil || src == Src.protect) &&
      (!windowed blk target || release || (decide (1 ≤ window) && decide (window ≤ 60)))
  else if blk = Blk.seq then target == 0 && decide (scope < 16)
  else if blk = Blk.thm then decide (target < 2) && decide (scope < 8)
  else if blk = Blk.fed then
    target == 0 && (decide (scope < 2) || (decide (10 ≤ scope) && decide (scope < 16) && s.rd (FED_CHCFG.bind scope) == 3))
  else if blk = Blk.acu then target == 0 && decide (scope < 8)
  else false

/-- Rail r is present in the committed rail table (R244). -/
def State.railPresent (s : State) (r : Nat) : Bool := bit (s.rd (SEQ_RAILMODE.flags r)) 0

/-- The present rails of a group, ascending. -/
def State.groupRails (s : State) (g : Nat) : List Nat :=
  (List.range 128).filter (fun r => s.railPresent r && s.rd (SEQ_RAILMODE.group r) == g)

/-- The instance that stands for a group in src (R32). -/
def State.groupInst (s : State) (g : Nat) : Nat := (s.groupRails g).headD 0xFFF

/-- The src word of an order's records (R32, R587). An undefined block has no unit: the requester's word then stands (DESIGN CHOICE,
log 50). -/
def State.orderSrcWord (s : State) (src blk scope : Nat) : Nat :=
  if Blk.acu < blk then (if src = Src.rack then reqSrc Req.rack else reqSrc Req.host)
  else if blk = Blk.cap then srcOf 0x4 (if scope = 8 then 0xFFF else scope)
  else if blk = Blk.thm then srcOf 0xA (64 + scope)
  else if blk = Blk.fed then srcOf 0x9 scope
  else srcOf 0x8 (s.groupInst scope)

/-- The ORDER record (R65): result 0 accepted, 1 and 2 no effect, 3 replaced, 4 withdrawn. -/
def State.orderRec (s : State) (o : Order) (result : Nat) (stamp : Nat) : Rec :=
  { typ := Ty.ORDER, src := s.orderSrcWord o.src o.blk o.scope, orderSrc := o.src, stamp := some stamp, variableMark := o.mark,
    pay := [(24, 1, o.blk), (25, 1, o.target), (26, 1, o.scope), (27, 1, ofBool o.release + 2 * result), (28, 2, o.window),
      (32, 4, o.value), (36, 4, o.seq), (40, 8, o.applyAt)] }

/-- Two orders have one target. -/
def Order.sameTarget (a b : Order) : Bool := a.blk == b.blk && a.target == b.target && a.scope == b.scope

/-- The orders a new one replaces (R28): same source and target, not yet in effect, effect boundary at or after its own. -/
def Order.replaces (o p : Order) : Bool :=
  o.sameTarget p && o.src == p.src && decide (boundaryOf o.applyAt ≤ boundaryOf p.applyAt)

/-- An accepted order joins those that wait (R28); the ones it replaces get their second record. `t` is the tray time at which it
was decoded or formed (R32). -/
def acceptOrder (o : Order) (t : Nat) (s : State) : List Upd :=
  let gone := s.orders.pend.filter o.replaces
  [.emit (s.orderRec o 0 t)] ++ gone.map (fun p => .emit (s.orderRec p 3 t)) ++
    [.orders { s.orders with pend := s.orders.pend.filter (fun p => !o.replaces p) ++ [o] }]

/-- An order that has no effect is recorded all the same (R32). -/
def refuseOrder (o : Order) (result t : Nat) (s : State) : List Upd := [.emit (s.orderRec o result t)]

/-- An order formed at tray time `t` reaches the block that holds its target. -/
def issueOrder (o : Order) (t : Nat) (s : State) : List Upd :=
  if s.orderDefined o.src o.blk o.target o.scope o.window o.release then acceptOrder o t s else refuseOrder o 1 t s

/-- The apply-at window of R49 at the moment of decode. -/
def stampInWindow (now t : Nat) : Bool := decide (now + 4000 ≤ t) && decide (t ≤ now + 2 ^ 36)

/-- The result code of a decoded order (R458, R485): 0 accepted, 1 not defined, 2 outside the window of R49. -/
def State.decodeResult (s : State) (o : Order) : Nat :=
  if !s.orderDefined o.src o.blk o.target o.scope o.window o.release then 1
  else if stampInWindow s.now o.applyAt then 0 else 2

/-- An order of the rack manager or the host is decoded (R458, R485). -/
def decodeOrder (o : Order) (s : State) : List Upd :=
  let r := s.decodeResult o
  if r = 0 then acceptOrder o s.now s else refuseOrder o r s.now s

/-- A LOCAL order formed at tray time `t` takes its number from TIM_LOCSEQ (R583). -/
def issueLocal (blk target scope : Nat) (release : Bool) (value window applyAt t : Nat) (mark : Bool) (s : State) : List Upd :=
  issueOrder ⟨blk, target, scope, Src.loc, release, value, window, s.rd TIM_LOCSEQ.next, applyAt, mark⟩ t s ++ [bump s TIM_LOCSEQ.next]

/-- The value of an on/off order says on: 1 is on and 0 is off (R243); of another value the low bit decides, which is what the registers show (DESIGN
CHOICE, log 210). -/
def isOnValue (v : Nat) : Bool := v % 2 == 1

/-- The value PROTECT holds on a target (R183, R313, R367): off, the lowest ceiling or the highest floor of its holders. -/
def protectValue (blk target : Nat) (hs : List Hold) : Nat :=
  match targetKind blk target with
  | .onOff => ofBool (hs.all (fun h => isOnValue h.value))
  | .ceiling => hs.foldl (fun a h => min a h.value) (hs.headD ⟨.tap, 0, 0, 0, 0⟩).value
  | .floor => hs.foldl (fun a h => max a h.value) 0

/-- The protections that hold a target. -/
def State.holdsOn (s : State) (blk target scope : Nat) : List Hold :=
  s.orders.holds.filter (fun h => h.blk == blk && h.target == target && h.scope == scope)

/-- A protection holds a target. -/
def State.held (s : State) (h : Holder) (blk target scope : Nat) : Bool := (s.holdsOn blk target scope).any (fun x => x.holder == h)

/-- The cell behind a protection carries the variable mark (R61). -/
def Holder.mark : Holder → Bool
  | .cell _ m => m
  | _ => false

/-- The variable mark of a PROTECT order: that of its cell (R61), or that of the sequencer's decision behind it (R299). -/
def State.protectMark (s : State) (h : Holder) : Bool := h.mark || s.on V.decDoubt

/-- What a decision of the sequencer does; `d` says that it takes an uncertain sample (R299). -/
def deciding (d : Bool) (f : State → State) (s : State) : State := if d then (f (s.run [.set V.decDoubt 1])).run [.set V.decDoubt 0] else f s

/-- A PROTECT order is formed. -/
def State.protectOrder (s : State) (blk target scope : Nat) (release : Bool) (value : Nat) (mark : Bool) : Order :=
  ⟨blk, target, scope, Src.protect, release, value, 0, s.rd TIM_PROTSEQ.next, s.now, mark⟩

/-- A PROTECT order takes its number from TIM_PROTSEQ (R583). -/
def numberProtect (o : Order) (s : State) : List Upd :=
  issueOrder { o with seq := s.rd TIM_PROTSEQ.next } o.applyAt s ++ [bump s TIM_PROTSEQ.next]

/-- A PROTECT order is numbered at once, or with the others of its cycle. -/
def issueProtectOrder (blk target scope : Nat) (release : Bool) (value : Nat) (mark : Bool) (s : State) : List Upd :=
  if s.orders.gathering then [.orders { s.orders with fresh := s.orders.fresh ++ [s.protectOrder blk target scope release value mark] }]
  else numberProtect (s.protectOrder blk target scope release value mark) s

/-- A protection begins to hold a target, or changes the value it holds: PROTECT's combined value is ordered. -/
def protectHold (h : Hold) (s : State) : State :=
  let rest := s.orders.holds.filter (fun x => !(x.holder == h.holder && x.blk == h.blk && x.target == h.target && x.scope == h.scope))
  if s.orders.holds.contains h then s
  else
    let t := s.run [.orders { s.orders with holds := rest ++ [h] }]
    let hs := t.holdsOn h.blk h.target h.scope
    t.does (issueProtectOrder h.blk h.target h.scope false (protectValue h.blk h.target hs) (s.protectMark h.holder))

/-- A protection ends: the last one to end releases PROTECT's order, and another's end orders what the rest still hold. -/
def protectDrop (holder : Holder) (blk target scope : Nat) (s : State) : State :=
  if s.held holder blk target scope then
    let t := s.run [.orders { s.orders with holds := s.orders.holds.filter (fun x => !(x.holder == holder && x.blk == blk && x.target == target && x.scope == scope)) }]
    let hs := t.holdsOn blk target scope
    if hs.isEmpty then t.does (issueProtectOrder blk target scope true 0 (s.protectMark holder))
    else if protectValue blk target hs = protectValue blk target (s.holdsOn blk target scope) then t
    else t.does (issueProtectOrder blk target scope false (protectValue blk target hs) (s.protectMark holder))
  else s

/-- Targets in the order in which PROTECT orders of one cycle are numbered (R583): block, target code, scope. -/
def targetOrder (a b : Nat × Nat × Nat) : Bool :=
  decide (a.1 < b.1) || (a.1 == b.1 && (decide (a.2.1 < b.2.1) || (a.2.1 == b.2.1 && decide (a.2.2 ≤ b.2.2))))

/-- Every hold of a protection ends, in the order of R583. -/
def protectDropAll (holder : Holder) (s : State) : State :=
  (((s.orders.holds.filter (fun h => h.holder == holder)).map (fun h => (h.blk, h.target, h.scope))).mergeSort targetOrder).foldl
    (fun t e => protectDrop holder e.1 e.2.1 e.2.2 t) s

/-- A protection says what it holds of a target, or that it lets it go, whether or not that changes anything (R243): PROTECT's combined value, or its
RELEASE, is ordered. -/
def protectSay (h : Hold) (gone : Bool) (s : State) : State :=
  let rest := s.orders.holds.filter (fun x => !(x.holder == h.holder && x.blk == h.blk && x.target == h.target && x.scope == h.scope))
  let t := s.run [.orders { s.orders with holds := if gone then rest else rest ++ [h] }]
  let hs := t.holdsOn h.blk h.target h.scope
  t.does (issueProtectOrder h.blk h.target h.scope hs.isEmpty (if hs.isEmpty then 0 else protectValue h.blk h.target hs) (s.protectMark h.holder))

/-- Several holds that begin in one cycle, in the order of R583. -/
def protectHoldAll (hs : List Hold) (s : State) : State :=
  (hs.mergeSort (fun a b => targetOrder (a.blk, a.target, a.scope) (b.blk, b.target, b.scope))).foldl (fun t h => protectHold h t) s

/-- A protection holds off the power of every group in a list (R313). -/
def protectGroups (holder : Holder) (gs : List Nat) (s : State) : State :=
  protectHoldAll (gs.map (fun g => ⟨holder, Blk.seq, Tgt.groupPwr, g, 0⟩)) s

/-- The PROTECT orders that a cycle formed reach their blocks and are numbered in the order of R583. -/
def numberFresh (s : State) : State :=
  let t := s.run [.orders { s.orders with gathering := false, fresh := [] }]
  (s.orders.fresh.mergeSort (fun a b => targetOrder (a.blk, a.target, a.scope) (b.blk, b.target, b.scope))).foldl
    (fun w o => w.does (numberProtect o)) t

/-- Whatever forms PROTECT orders in one cycle (R583); within a larger gathering its orders wait for that one's end. -/
def gathered (f : State → State) (s : State) : State :=
  if s.orders.gathering then f s else numberFresh (f (s.run [.orders { s.orders with gathering := true }]))

/-- A protection holds exactly a list: what it holds beside it ends. -/
def protectOnly (holder : Holder) (hs : List Hold) (s : State) : State := gathered (fun s =>
  protectHoldAll hs (((s.orders.holds.filter (fun h => h.holder == holder && !hs.any (fun x => x.blk == h.blk && x.target == h.target && x.scope == h.scope)))).foldl
    (fun t h => protectDrop holder h.blk h.target h.scope t) s)) s

/-- The standing order of a source for a target. -/
def Orders.standingOf (o : Orders) (src blk target scope : Nat) : Option Order :=
  o.standing.find? (fun p => p.src == src && p.blk == blk && p.target == target && p.scope == scope)

/-- The stronger claim of two standing orders on a target (R29). -/
def stronger (k : TargetKind) (a b : Order) : Order :=
  match k with
  | .onOff => if a.src ≤ b.src then a else b
  | .ceiling => if a.value < b.value then a else if b.value < a.value then b else if a.src ≤ b.src then a else b
  | .floor => if b.value < a.value then a else if a.value < b.value then b else if a.src ≤ b.src then a else b

/-- The order that decides the state in force for a target (R29); none means no standing order. -/
def Orders.deciding (o : Orders) (blk target scope : Nat) : Option Order :=
  (o.standing.filter (fun p => p.blk == blk && p.target == target && p.scope == scope)).foldl
    (fun (best : Option Order) p => match best with
      | none => some p
      | some b => some (stronger (targetKind blk target) b p)) none

/-- The value in force; 0 with no standing order (an on/off target is then off). -/
def Orders.value (o : Orders) (blk target scope : Nat) : Nat := ((o.deciding blk target scope).map (·.value)).getD 0

/-- The deciding source, 0 for none. -/
def Orders.source (o : Orders) (blk target scope : Nat) : Nat := ((o.deciding blk target scope).map (·.src)).getD 0

/-- A ceiling in force, `d` where no order limits the target. -/
def State.ceilingOr (s : State) (d blk target scope : Nat) : Nat :=
  match s.orders.deciding blk target scope with
  | some o => o.value
  | none => d

/-- An on/off target is on. -/
def State.isOn (s : State) (blk target scope : Nat) : Bool := isOnValue (s.orders.value blk target scope)

/-- PROTECT holds an on/off target off. -/
def Orders.protectOff (o : Orders) (blk target scope : Nat) : Bool :=
  targetKind blk target == .onOff && (match o.standingOf Src.protect blk target scope with
    | some p => !isOnValue p.value
    | none => false)

/-- An order stands in its source's place (R28). -/
def Orders.stand (o : Orders) (n : Order) : Orders :=
  let rest := o.standing.filter (fun p => !(n.sameTarget p && n.src == p.src))
  { o with standing := if n.release then rest else rest ++ [n] }

/-- The LOCAL default of the committed image for a target (R584). -/
def Orders.defaultOf (o : Orders) (blk target scope : Nat) : Option Order :=
  o.defaults.find? (fun p => p.blk == blk && p.target == target && p.scope == scope)

/-- An on order may not stand while PROTECT holds its target off (R31). -/
def Orders.barred (o : Orders) (n : Order) : Bool :=
  n.src != Src.protect && !n.release && isOnValue n.value && o.protectOff n.blk n.target n.scope

/-- A LOCAL default is installed at a boundary (R584, R585): recorded, and withdrawn at once where PROTECT holds the target. -/
def installDefault (d : Order) (s : State) : List Upd :=
  let n := { d with applyAt := s.boundary }
  [.emit (s.orderRec n 0 s.boundary)] ++
    (if s.orders.barred n then [.emit (s.orderRec n 4 s.boundary)] else [.orders (s.orders.stand n)])

/-- The standing on orders that a PROTECT off withdraws (R31). -/
def Orders.swept (o : Orders) (n : Order) : List Order :=
  o.standing.filter (fun p => n.sameTarget p && p.src != Src.protect && isOnValue p.value)

/-- One order takes effect at the boundary (R28, R31, R585). -/
def takeEffect (n : Order) (s : State) : State :=
  if s.orders.barred n then s.run [.emit (s.orderRec n 4 s.boundary)]
  else
    let t := s.run [.orders (s.orders.stand n)]
    if n.src = Src.protect && !n.release && !isOnValue n.value && targetKind n.blk n.target == .onOff then
      let gone := t.orders.swept n
      t.run (gone.map (fun p => .emit (s.orderRec p 4 s.boundary)) ++
        [.orders { t.orders with standing := t.orders.standing.filter (fun p => !gone.contains p) }])
    else if n.src = Src.loc && n.release then
      match t.orders.defaultOf n.blk n.target n.scope with
      | some d => t.does (installDefault d)
      | none => t
    else t

/-- The orders due at the present boundary: PROTECT's first, then the others, by ascending number within a source (R28, R31). -/
def State.dueOrders (s : State) : List Order :=
  let due := s.orders.pend.filter (fun o => decide (boundaryOf o.applyAt ≤ s.boundary))
  (due.filter (fun o => o.src == Src.protect)) ++ (due.filter (fun o => o.src != Src.protect))

/-- Every target some standing order names, in the order of R583. -/
def Orders.targets (o : Orders) : List (Nat × Nat × Nat) := (o.standing.map (fun p => (p.blk, p.target, p.scope))).dedup

/-- The event bit that reports a change of a block's state in force, where the block has one (R187). -/
def orderEvt (blk : Nat) : List Upd := onlyIf (blk == Blk.cap) [.set CAP_EVT.order 1]

/-- The state in force that the order deciding a target gives: with none an on/off target is off, a floor is 0, and a ceiling does
not limit. -/
def stateOf (k : TargetKind) (o : Option Order) : Option Nat :=
  if k = .ceiling then o.map (·.value)
  else if k = .onOff then some (ofBool (isOnValue ((o.map (·.value)).getD 0)))
  else some ((o.map (·.value)).getD 0)

/-- The STATE_CHANGE record of a target whose state in force changed (R32, R65). Where no order decides any more, bytes 36 to 39 are
all ones (DESIGN CHOICE, log 163). -/
def State.stateChange (s : State) (old new : Orders) (t : Nat × Nat × Nat) : List Upd :=
  let a := old.deciding t.1 t.2.1 t.2.2
  let b := new.deciding t.1 t.2.1 t.2.2
  if stateOf (targetKind t.1 t.2.1) a = stateOf (targetKind t.1 t.2.1) b then []
  else
    let r : Rec :=
      { typ := Ty.STATE_CHANGE, src := s.orderSrcWord Src.loc t.1 t.2.2, orderSrc := (b.map (·.src)).getD 0, stamp := some s.boundary, variableMark := (b.map (·.mark)).getD false,
        pay := [(24, 1, t.1), (25, 1, t.2.1), (26, 1, t.2.2), (27, 1, (b.map (·.src)).getD 0), (28, 4, (a.map (·.value)).getD 0),
         (32, 4, (b.map (·.value)).getD 0), (36, 4, (b.map (·.seq)).getD seqNone)] }
    .emit r :: orderEvt t.1

/-- The STATE_CHANGE records of every target between two sets of standing orders. -/
def recordChanges (old : Orders) (s : State) : List Upd :=
  ((old.targets ++ s.orders.targets).dedup).flatMap (fun t => s.stateChange old s.orders t)

/-- The LOCAL defaults, and LOCAL RELEASEs, of a commit that no LOCAL order of the same boundary takes the place of (R584). -/
def State.dueInstalls (s : State) : List Order :=
  s.orders.installs.filter (fun d => !s.dueOrders.any (fun p => p.src == Src.loc && p.sameTarget d))

/-- A LOCAL default may stand: its target and scope are defined (R341), and ACU takes none (R585). -/
def State.defaultFit (s : State) (d : Order) : Bool := d.blk != Blk.acu && s.orderDefined Src.loc d.blk d.target d.scope d.window false

/-- A default, or a LOCAL RELEASE, of the committed image takes its place at the boundary (R249, R584). One that has no effect is recorded so
(R32). -/
def installOne (d : Order) (s : State) : State :=
  if d.release then takeEffect { d with applyAt := s.boundary } (s.run [.emit (s.orderRec { d with applyAt := s.boundary } 0 s.boundary)])
  else if !s.defaultFit d then s.run [.emit (s.orderRec { d with applyAt := s.boundary } 1 s.boundary)]
  else s.does (installDefault d)

/-- The standing defaults of the image before a commit that the new image does not hold (R584). -/
def Orders.stale (o : Orders) : List Order :=
  if o.renewed then o.standing.filter (fun p => p.src == Src.loc && p.seq == seqNone && !(o.installs.any (fun d => d.sameTarget p))) else []

/-- Every order due takes effect, with the LOCAL defaults of a commit at the same boundary, and each change of the state in force is
recorded (R30, R32, R584). -/
def ordersTakeEffect (s : State) : State :=
  let due := s.dueOrders
  let ins := s.dueInstalls
  let gone := s.orders.stale
  let t := s.run [.orders { s.orders with pend := s.orders.pend.filter (fun o => !due.contains o), renewed := false, installs := [],
                                          standing := s.orders.standing.filter (fun p => !gone.contains p) }]
  let u := ins.foldl (fun w d => installOne d w) (due.foldl (fun w o => takeEffect o w) t)
  u.does (recordChanges s.orders)

end Sys2Proof.Machine
end

