-- ==== Sys2Proof/Machine/Staging.lean ====
section
/-! DEFINITION. Staged configuration (R48-R55): stamps, the staging buffers, field sets, and what takes effect at a boundary. -/

namespace Sys2Proof.Machine

/-- The field set a staged field belongs to (R75, R123, R187, R188, R215, R262, R294, R320, R321, R344, R371, R394); 0 for a
lone field. -/
def State.setOf (s : State) (blk : Nat) (f : Fld) : Nat :=
  let o := f.addr - blk
  if blk = 0x10_0000 then 1
  else if 0x20_0000 ≤ blk && blk < 0x30_0000 then
    (if 0x1000 ≤ o && o < 0x1500 then
      let j := (o - 0x1000) / 0x100
      let r := o % 0x100
      if r = 0x04 then 3 * j + 1 else if r = 0x0C || r = 0x10 then 3 * j + 2 else if r = 0x18 then 3 * j + 3 else 0
     else 0)
  else if blk = 0x40_0000 then
    (if o = 0x20 then 1 else if o = 0x40 || o = 0x44 then 2
     else if 0x1000 ≤ o && o < 0x1800 && o % 0x100 = 0x04 then 3 + (o - 0x1000) / 0x100 else 0)
  else if blk = 0x50_0000 then
    (if 0x1000 ≤ o && o < 0x1800 then
      let n := (o - 0x1000) / 0x100
      let r := o % 0x100
      if (r = 0x08 && f.lsb = 0) || (r = 0x0C && f.lsb = 16) then 17 + n
      else if r = 0x08 || r = 0x0C || r = 0x10 then 1 + n
      else if r = 0x14 || r = 0x18 then 9 + n else 0
     else 0)
  else if blk = 0x60_0000 then ((s.param? ((o - 0x8000) / 4)).map (·.set)).getD 0
  else if blk = 0x80_0000 then (if 0x1000 ≤ o && o < 0x1800 then 2 + (o - 0x1000) / 0x100 else 0)
  else if blk = 0x90_0000 then
    (if o = 0x30 then 1 else if 0x1000 ≤ o && o < 0x3000 && o % 0x40 = 0x1C then 2 + (o - 0x1000) / 0x40 else 0)
  else 1

/-- The members of a field set, from the lowest offset and, within a register, from the most significant field (R65). -/
def State.setMembers (s : State) (blk set : Nat) : List Fld :=
  if set = 0 then []
  else if blk = 0x10_0000 then [TIM_DISCCFG.kp, TIM_DISCCFG.ki]
  else if 0x20_0000 ≤ blk && blk < 0x30_0000 then
    let k := (blk - 0x20_0000) / 0x4_0000
    let j := (set - 1) / 3
    if (set - 1) % 3 = 0 then [PHT_VSET.slew k j, PHT_VSET.vset k j]
    else if (set - 1) % 3 = 1 then [PHT_LOOPA.kp k j, PHT_LOOPA.ki k j, PHT_LOOPB.kd k j]
    else [PHT_ADDDROP.dwell k j, PHT_ADDDROP.add_thr k j, PHT_ADDDROP.drop_thr k j]
  else if blk = 0x40_0000 then
    (if set = 1 then [CAP_ENVCFG.band, CAP_ENVCFG.gb]
     else if set = 2 then [CAP_LORDA.target, CAP_LORDA.scope, CAP_LORDA.window, CAP_LORDA.release, CAP_LORDB.value]
     else [CAP_DROOP.kq (set - 3), CAP_DROOP.dead (set - 3), CAP_DROOP.decay (set - 3)])
  else if blk = 0x50_0000 then
    (if set ≤ 8 then
      let n := set - 1
      [PRD_FCF.f_lead n, PRD_FCF.g_lead n, PRD_FCF.r_win n, PRD_FCG.g_k n, PRD_FCG.r_cut n, PRD_FCS.g_dead n, PRD_FCS.slew_ok n]
     else if set ≤ 16 then
      let n := set - 9
      [PRD_ACC.chk_lead n, PRD_ACC.miss_max n, PRD_ACC.n_bad n, PRD_ACC.hold n, PRD_ACCERR.err_max n]
     else [PRD_FCF.r_floor (set - 17), PRD_FCG.g_max (set - 17)])
  else if blk = 0x60_0000 then
    ((List.range (s.itemCount s.liveImg Sec.params)).filter (fun p => ((s.param? p).map (·.set)).getD 0 == set)).map FAB_PARAM.value
  else if blk = 0x80_0000 then [JOB_JTIPCTL.arm (set - 2), JOB_JTIPBAR.barrier (set - 2)]
  else if blk = 0x90_0000 then
    (if set = 1 then [SEQ_LORD.target, SEQ_LORD.scope, SEQ_LORD.value, SEQ_LORD.release]
     else [SEQ_MARGIN.mode (set - 2), SEQ_MARGIN.pct (set - 2)])
  else if blk = 0xA0_0000 then [FED_LORD.target, FED_LORD.scope, FED_LORD.value, FED_LORD.release]
  else if blk = 0xB0_0000 then [THM_LORD.target, THM_LORD.scope, THM_LORD.release, THM_LORD.value]
  else [ACU_LORD.target, ACU_LORD.scope, ACU_LORD.value, ACU_LORD.release]

/-- The src word of a block's staging records (R587). -/
def stageSrc (blk : Nat) : Nat :=
  let c := if blk = 0x10_0000 then 1 else if blk < 0x30_0000 then 2 else if blk = 0x40_0000 then 4 else if blk = 0x50_0000 then 5
    else if blk = 0x60_0000 then 6 else if blk = 0x80_0000 then 7 else if blk = 0xA0_0000 then 9 else if blk = 0xB0_0000 then 0xA else 8
  srcOf c 0xFFF

/-- A field of a staged value. -/
def Staged.fld (v : Staged) : Fld := ⟨v.addr, v.lsb, v.width, v.reset⟩

/-- The stamp a requester last wrote in a block (R48). -/
def Staging.stampOf (g : Staging) (blk req : Nat) : Option Nat :=
  (g.stamps.find? (fun x => x.blk == blk && x.req == req)).map (·.stamp)

/-- A requester writes a block's stamp register (R48). -/
def Staging.writeStamp (g : Staging) (blk req stamp : Nat) : Staging :=
  { g with stamps := g.stamps.filter (fun x => !(x.blk == blk && x.req == req)) ++ [⟨blk, req, stamp⟩] }

/-- The values a requester has staged in a block against a stamp. -/
def Staging.against (g : Staging) (blk req stamp : Nat) : List Staged :=
  g.vals.filter (fun v => v.blk == blk && v.req == req && v.stamp == stamp)

/-- The distinct stamps a requester has pending in a block. -/
def Staging.pendingStamps (g : Staging) (blk req : Nat) : List Nat :=
  ((g.vals.filter (fun v => v.blk == blk && v.req == req)).map (·.stamp)).dedup

/-- Limits of R50. -/
def maxStamps : Nat := 16
def maxValues : Nat := 64

/-- One field value is placed in the buffer, replacing the requester's earlier value for the stamp (R51). -/
def Staging.place (g : Staging) (v : Staged) : Staging :=
  { g with vals := g.vals.filter (fun x => !(x.blk == v.blk && x.req == v.req && x.stamp == v.stamp && x.addr == v.addr && x.lsb == v.lsb)) ++ [{ v with pos := g.next }],
           next := g.next + 1 }

/-- A staged write of fields of one register (R10, R49, R50): the whole write is discarded where it would exceed a limit. -/
def stageFields (req blk : Nat) (fs : List (Fld × Nat)) (data width addr : Nat) (s : State) : List Upd :=
  match s.staging.stampOf blk req with
  | none => [discardWrite req 4 width data addr]
  | some st =>
    if stampInWindow s.now st then
      let here := s.staging.against blk req st
      let fresh := fs.filter (fun e => !here.any (fun x => x.addr == e.1.addr && x.lsb == e.1.lsb))
      let full (code : Nat) : Upd := note Ty.STAGE_FULL (stageSrc blk) [(24, 4, blk), (28, 1, req), (29, 1, code), (32, 8, st), (40, 4, addr)]
      if here.isEmpty && decide (maxStamps ≤ (s.staging.pendingStamps blk req).length) then [full 1]
      else if maxValues < here.length + fresh.length then [full 2]
      else
        [.staging (fs.foldl (fun (g : Staging) e => g.place ⟨blk, req, st, e.1.addr, e.1.lsb, e.1.width, e.1.reset, s.setOf blk e.1, e.2, 0⟩) s.staging)]
    else
      let gone := s.staging.against blk req st
      [.staging { s.staging with vals := s.staging.vals.filter (fun v => !gone.contains v) },
       note Ty.STAGE_LATE (stageSrc blk) [(24, 4, blk), (28, 1, req), (29, 1, if st < s.now + 4000 then 1 else 2),
         (30, 2, gone.length + fs.length), (32, 8, st), (40, 8, s.now)]]

/-- A requester withdraws what it staged against its stamp (R55). -/
def cancelStage (req blk why : Nat) (st : Nat) (s : State) : List Upd :=
  let gone := s.staging.against blk req st
  if gone.isEmpty then []
  else
    [.staging { s.staging with vals := s.staging.vals.filter (fun v => !gone.contains v) },
     note Ty.STAGE_CANCEL (stageSrc blk) [(24, 4, blk), (28, 1, req), (29, 1, why), (30, 2, gone.length), (32, 8, st)]]

/-- What takes effect together: the values of one requester, stamp and set, or one lone value. -/
structure Bundle where
  blk : Nat
  req : Nat
  stamp : Nat
  set : Nat
  vals : List Staged
  deriving DecidableEq, Repr

/-- Position of the last value written (R583). -/
def Bundle.last (b : Bundle) : Nat := b.vals.foldl (fun m v => max m v.pos) 0

/-- Register offsets a bundle writes. -/
def Bundle.offsets (b : Bundle) : List Nat := (b.vals.map (·.addr)).dedup

/-- Two bundles stage one field or one field set (R53). -/
def Bundle.clashes (a b : Bundle) : Bool :=
  a.blk == b.blk && a.req != b.req && a.set == b.set &&
    (a.set != 0 || a.vals.any (fun v => b.vals.any (fun w => v.addr == w.addr && v.lsb == w.lsb)))

/-- A bundle carries a LOCAL order (R53, R583). -/
def Bundle.isOrder (b : Bundle) : Bool :=
  (b.blk == 0x40_0000 && b.set == 2) ||
    ((b.blk == 0x90_0000 || b.blk == 0xA0_0000 || b.blk == 0xB0_0000 || b.blk == 0xC0_0000) && b.set == 1)

/-- The bundles due at the boundary, in ascending order of stamp, then of the last value written, then of requester. -/
def State.dueBundles (s : State) : List Bundle :=
  let due := s.staging.vals.filter (fun v => decide (boundaryOf v.stamp ≤ s.boundary))
  let keys := (due.map (fun v => (v.blk, v.req, v.stamp, v.set, if v.set = 0 then v.addr * 64 + v.lsb else 0))).dedup
  let bs : List Bundle := keys.map (fun k =>
    ⟨k.1, k.2.1, k.2.2.1, k.2.2.2.1,
      due.filter (fun v => v.blk == k.1 && v.req == k.2.1 && v.stamp == k.2.2.1 && v.set == k.2.2.2.1 &&
        (v.set != 0 || v.addr * 64 + v.lsb == k.2.2.2.2))⟩)
  bs.mergeSort (fun a b => decide (a.stamp < b.stamp) ||
    (a.stamp == b.stamp && (decide (a.last < b.last) || (a.last == b.last && decide (a.req ≤ b.req)))))

/-- The members of its set that a bundle holds, as the bitmap of STAGE_INCOMPLETE. -/
def Bundle.memberMap (b : Bundle) (members : List Fld) : Nat :=
  maskOf members.length (fun i => match members[i]? with
    | some f => b.vals.any (fun v => v.addr == f.addr && v.lsb == f.lsb)
    | none => false)

/-- Every member of the set was written (R52). -/
def Bundle.complete (b : Bundle) (members : List Fld) : Bool :=
  b.set == 0 || members.all (fun f => b.vals.any (fun v => v.addr == f.addr && v.lsb == f.lsb))

/-- The value a bundle gives a field, 0 where it gives none. -/
def Bundle.valOf (b : Bundle) (f : Fld) : Nat :=
  ((b.vals.find? (fun v => v.addr == f.addr && v.lsb == f.lsb)).map (·.val)).getD 0

/-- The STAGE_APPLY records of what took effect (R54, R65): six offsets a record, each but the last continued. -/
def stageApplyRecs (b : Bundle) : List Nat → List Upd
  | o1 :: o2 :: o3 :: o4 :: o5 :: o6 :: o7 :: rest =>
    .emit { typ := Ty.STAGE_APPLY, src := stageSrc b.blk, cont := true,
            pay := [(24, 4, b.blk), (28, 1, b.req), (29, 1, 6), (30, 1, b.set), (32, 8, b.stamp), (40, 4, o1), (44, 4, o2),
              (48, 4, o3), (52, 4, o4), (56, 4, o5), (60, 4, o6)] } :: stageApplyRecs b (o7 :: rest)
  | l => [note Ty.STAGE_APPLY (stageSrc b.blk) ([(24, 4, b.blk), (28, 1, b.req), (29, 1, l.length), (30, 1, b.set), (32, 8, b.stamp)] ++
      (l.zipIdx.map (fun x => (40 + 4 * x.2, 4, x.1))))]

/-- The staged parameter write breaks R262: 1 range, 2 change, 4 undefined; 0 where it is accepted. -/
def State.paramReason (s : State) (v : Staged) : Nat :=
  let p := (v.addr - 0x60_8000) / 4
  match s.param? p with
  | none => 4
  | some q =>
    let x := toSigned 32 v.val
    let old := s.rdI (FAB_PARAM.value p)
    if x < q.lo || q.hi < x then 1
    else if q.step != 0 && decide ((q.step : Int) < (x - old).natAbs) then 2 else 0

/-- The PARAM_REJECT of a parameter write (R262, R263). -/
def paramReject (s : State) (p reason value req : Nat) : List Upd :=
  [note Ty.PARAM_REJECT (srcOf 6 (((s.param? p).map (·.cell)).getD 0)) [(24, 2, p), (26, 1, reason), (28, 4, value), (32, 1, req)],
   bump s FAB_PARAMREJ.count, .set FAB_EVT.param_rej 1]

/-- The LOCAL order a LORD set spells (R583). -/
def formLocal (b : Bundle) (s : State) : List Upd :=
  let at' := s.boundary
  if b.blk = 0x40_0000 then
    issueLocal Blk.cap (b.valOf CAP_LORDA.target) (b.valOf CAP_LORDA.scope) (b.valOf CAP_LORDA.release == 1) (b.valOf CAP_LORDB.value) (b.valOf CAP_LORDA.window) at' at' false s
  else if b.blk = 0x90_0000 then
    issueLocal Blk.seq (b.valOf SEQ_LORD.target) (b.valOf SEQ_LORD.scope) (b.valOf SEQ_LORD.release == 1) (b.valOf SEQ_LORD.value) 0 at' at' false s
  else if b.blk = 0xA0_0000 then
    issueLocal Blk.fed (b.valOf FED_LORD.target) (b.valOf FED_LORD.scope) (b.valOf FED_LORD.release == 1) (b.valOf FED_LORD.value) 0 at' at' false s
  else if b.blk = 0xB0_0000 then
    issueLocal Blk.thm (b.valOf THM_LORD.target) (b.valOf THM_LORD.scope) (b.valOf THM_LORD.release == 1) (b.valOf THM_LORD.value) 0 at' at' false s
  else
    issueLocal Blk.acu (b.valOf ACU_LORD.target) (b.valOf ACU_LORD.scope) (b.valOf ACU_LORD.release == 1) (b.valOf ACU_LORD.value) 0 at' at' false s

/-- One bundle takes effect (R51, R54, R262, R583). -/
def applyBundle (b : Bundle) (s : State) : List Upd :=
  let write := b.vals.map (fun v => Upd.set v.fld v.val)
  if b.isOrder then write ++ formLocal b s ++ stageApplyRecs b b.offsets
  else if b.blk = 0x60_0000 then
    match b.vals.find? (fun v => s.paramReason v != 0) with
    | some v => paramReject s ((v.addr - 0x60_8000) / 4) (s.paramReason v) v.val b.req
    | none => write ++ stageApplyRecs b b.offsets
  else write ++ stageApplyRecs b b.offsets

/-- A set that misses members at its boundary (R52). -/
def incompleteRec (s : State) (b : Bundle) : Upd :=
  note Ty.STAGE_INCOMPLETE (stageSrc b.blk) [(24, 4, b.blk), (28, 1, b.req), (29, 1, b.set), (32, 8, b.stamp),
    (40, 8, b.memberMap (s.setMembers b.blk b.set))]

/-- Two requesters' bundles for one boundary (R53). Of three or more requesters that clash, each pair has its record (DEDUCED, log 164). -/
def conflictRec (s : State) (a b : Bundle) : Upd :=
  note Ty.STAGE_CONFLICT (stageSrc a.blk) [(24, 4, a.blk), (28, 1, a.req), (29, 1, b.req), (30, 1, a.set), (32, 8, s.boundary),
    (40, 4, a.offsets.headD 0)]

/-- Everything due at the boundary takes effect, or is discarded with its record (R51-R54). -/
def stageTakesEffect (s : State) : State := gathered (fun s =>
  let due := s.dueBundles
  let whole := due.filter (fun b => b.complete (s.setMembers b.blk b.set))
  let short := due.filter (fun b => !b.complete (s.setMembers b.blk b.set))
  let clashes (a b : Bundle) : Bool := !a.isOrder && a.clashes b
  let t := s.run [.staging { s.staging with vals := s.staging.vals.filter (fun v => !decide (boundaryOf v.stamp ≤ s.boundary)) }]
  let u := t.run (short.map (incompleteRec s))
  let w := u.run (whole.flatMap (fun a => (whole.filter (fun b => decide (a.req < b.req) && clashes a b)).map (conflictRec s a)))
  w.doEach (whole.filter (fun a => !whole.any (clashes a))) applyBundle) s

end Sys2Proof.Machine
end

