-- ==== Sys2Proof/Machine/RegWrite.lean ====
section
/-! DEFINITION. Reading and writing registers through BAR0: the views of values whose home is not a register field, the
acceptance of RWT writes by the open transaction (R57), and a write by access type (R5-R10, R34, R35, R588). -/

namespace Sys2Proof.Machine

/-- A standing order as the ORD registers show it: valid bit, window and value. -/
def State.ordView (s : State) (blk target scope src : Nat) : Nat × Nat × Nat :=
  match s.orders.standingOf src blk target scope with
  | some o => (1, if windowed blk target then o.window else 0, o.value)
  | none => (0, 0, 0)

/-- Which of valid, window and value an ORD field shows. -/
def ordField (f : Fld) (v : Nat × Nat × Nat) : Nat := (if f.lsb = 31 then v.1 else if f.lsb = 24 then v.2.1 else v.2.2) % 2 ^ f.width

/-- The envelope's upper limit on a slope: the order in force and JOB's share, in W/ms (R182, R283). -/
def State.envLimit (s : State) (target : Nat) (share : Fld) : Option Nat :=
  let o := (s.orders.deciding Blk.cap target 8).map (·.value)
  if s.on V.jobEnvBound then some (min (s.rd share) (o.getD (s.rd share))) else o

/-- Which of source and value an INFORCE field shows; ENV_UP and ENV_DOWN show JOB's share where it is the lower, under the source of the order
(DESIGN CHOICE, log 187). -/
def State.inforceField (s : State) (f : Fld) (blk target scope : Nat) : Nat :=
  if f.lsb = 28 then s.orders.source blk target scope
  else (if blk = Blk.cap ∧ scope = 8 ∧ target = Tgt.envUp then (s.envLimit target V.jobEnvUp).getD 0
    else if blk = Blk.cap ∧ scope = 8 ∧ target = Tgt.envDown then (s.envLimit target V.jobEnvDown).getD 0
    else s.orders.value blk target scope) % 2 ^ f.width

/-- Bytes of a capture frame (R73). Probe counts 9 to 15 are taken as they stand (DESIGN CHOICE, log 171). -/
def State.frameSize (s : State) : Nat :=
  let ch := 39 * popCount 8 (s.rd JRN_CAPSLOT.slots) + (if s.on JRN_CAPSLOT.tray then 8 else 0)
  let raw := 64 + 8 * ch + 32 * popCount 24 (s.rd JRN_CAPSEL.vsen) + 4 * (64 * s.rd JRN_CAPSEL.probes)
  ceilDiv raw 64 * 64

/-- Frames the capture ring holds (R73). -/
def State.ringFrames (s : State) : Nat := 520093696 / s.frameSize

/-- GLB_ID as it reads (R11). -/
def State.glbId (s : State) : Nat :=
  s.rd GLB_ID.family * 2 ^ 20 + s.rd GLB_ID.part * 2 ^ 12 + s.rd GLB_ID.rev_letter * 2 ^ 8 + s.rd GLB_ID.rev_step * 2 ^ 4

/-- A link and a lane. -/
def State.link (s : State) (n : Nat) : Link := tableGet {} s.links n
def State.lane (s : State) (i : Nat) : Lane := tableGet {} s.lanes i

/-- OR8 capability pages (R140): the partner's page 2 must be known for page 1. -/
def State.ownPage (s : State) (n p : Nat) : List Nat :=
  if p = 0 then
    [1, 0, 15, 0] ++ leBytes 4 (s.rd GLB_ID.family * 2 ^ 20 + s.rd GLB_ID.part * 2 ^ 12 + s.rd GLB_ID.rev_letter * 2 ^ 8 + s.rd GLB_ID.rev_step * 2 ^ 4) ++
      leBytes 8 (s.rd V.fuseSerial)
  else if p = 1 then
    let ask := leAt (tableGet [] (s.link n).pages 2) 8 2
    [s.rd (SWJ_LOSSCFG.loss_q n), s.rd (SWJ_LOSSCFG.loss_ramp n)] ++ leBytes 2 (min ask (mapMax (s.rd (SWJ_STAT.rate n))) / 64 * 64)
  else []

/-- A word of the capability page that SWJ_CAPIDX shows (R160). -/
def State.pageWord (s : State) (n w : Nat) : Nat :=
  let p := s.rd (SWJ_CAPIDX.page n)
  leAt (if s.on (SWJ_CAPIDX.own n) then s.ownPage n p else tableGet [] (s.link n).pages p) (4 * w) 4

/-- The lifecycle state (R415): the highest state whose row is programmed, TEST if none is. -/
def State.lifecycle (s : State) : Nat := [1, 2, 3, 4].foldl (fun m c => if bit (s.rd V.fuseState) c then c else m) 0

/-- A slot's custody state (R395). -/
def State.custodyState (s : State) (n : Nat) : Nat :=
  if !s.on (ACU_SSTAT.present n) then 0
  else if s.on (V.bootFailed n) then 5
  else if s.on (V.abandoned n) then 6
  else if s.on (ACU_SSTAT.owned n) || s.on (ACU_CMDSTAT.busy n) then 2
  else if s.on (ACU_SSTAT.rst n) then 1
  else if s.rd (V.bootAt n) ≠ 0 then 3 else 4

/-- The macro of a row, by its 1 MiB (R495), the spare rows of it taken in service, and the macros that have none left (R499). -/
def macroOf (a : Nat) : Nat := a / 0x10_0000
def State.sparesTaken (s : State) (m : Nat) : Nat := (s.memu.maps.filter (fun e => macroOf e.1 == m)).length
def State.macrosFull (s : State) : Nat := ((s.memu.maps.map (fun e => macroOf e.1)).dedup.filter (fun m => decide (4 ≤ s.sparesTaken m))).length

/-- The identification engine holds port n (R490): from the commit that fills TWI_SURV until it has finished. -/
def State.identHolds (s : State) (n : Nat) : Bool :=
  s.on FAB_STAT.committed && (!s.on V.identDone || s.on V.identOwed) &&
    (List.range 32).any (fun i => s.on (TWI_SURV.valid i) && s.rd (TWI_SURV.port i) == n)

/-- Milliseconds left of the watchdog's period (R549). -/
def State.wdogLeft (s : State) : Nat := s.rd CRP_WDOGCFG.period - (s.now - s.rd V.wdogAt) / 4000000

/-- The field's value as a read sees it: its own, or what the unit that is its home holds. -/
def State.view (s : State) (f : Fld) : Nat :=
  if f = TIM_NOW.now then s.now % 2 ^ 64
  else if f = TIM_TICK.tick then s.tick % 2 ^ 64
  else if f = TIM_JOBNOW.job then (s.now + s.rd TIM_JOBOFS.ofs) % 2 ^ 64
  else if f = JOB_STAT.armed then maskOf 8 (fun j => s.on (JOB_JTIPCTL.arm j))
  else if f = JRN_SEQ.next then s.firn.seq % 2 ^ 64
  else if f = JRN_LOST.count 0 then tableGet 0 s.firn.lost 0
  else if f = JRN_LOST.count 1 then tableGet 0 s.firn.lost 1
  else if f = JRN_LOST.count 2 then tableGet 0 s.firn.lost 2
  else if f = JRN_STAT.stage_hi then ofBool s.firn.stageHi
  else if f = JRN_STAT.overrun then ofBool s.firn.overrun
  else if f = JRN_STAT.c0_full then ofBool s.firn.c0Full
  else if f = JRN_CAPFRAMES.frames then (if s.rd JRN_CAPCTL.state = 0 then s.ringFrames else s.rd JRN_CAPFRAMES.frames)
  else if f = KPR_LCSTAT.state then s.lifecycle
  else if f = KPR_LCSTAT.att_ok then ofBool (s.on V.fuseAtt && decide (s.lifecycle ≤ 2) && !s.on KPR_KEYLOCK.att_use && !s.on KPR_KEYLOCK.all_use && !s.on KPR_LCSTAT.unlocked)
  else if f = KPR_SERIAL.serial then s.rd V.fuseSerial
  else if f = KPR_CORES.retired then s.rd V.fuseRetire
  else if 0xD0_0080 ≤ f.addr && f.addr < 0xD0_00A0 && f.lsb ≠ 29 then
    (let k := (f.addr - 0xD0_0080) / 4
     if f.lsb = 31 then s.rd (V.fuseEnrolled k) else if f.lsb = 30 then s.rd (V.fuseRevoked k) else s.rd (V.fuseUsage k))
  else if 0xC0_1000 ≤ f.addr && f.addr < 0xC0_1800 && f.addr % 0x100 = 8 && f.lsb = 28 then s.custodyState ((f.addr - 0xC0_1000) / 0x100)
  else if 0xC0_1000 ≤ f.addr && f.addr < 0xC0_1800 && f.addr % 0x100 = 8 && f.lsb = 23 then
    (let n := (f.addr - 0xC0_1000) / 0x100
     s.rd (V.matched n))
  else if 0xC0_1000 ≤ f.addr && f.addr < 0xC0_1800 && f.addr % 0x100 = 0x28 && s.on (ACU_CMDSTAT.busy ((f.addr - 0xC0_1000) / 0x100)) then
    Config.custodyBytes ((f.addr - 0xC0_1000) / 0x100) s.now % 2 ^ f.width  -- FREE VALUE: the running operation's progress
  else if f = IMG_PROG.bytes && s.on IMG_STAT.busy then Config.stageBytes s.now % 2 ^ f.width  -- FREE VALUE: the running STAGE's progress
  else if 0x100_1000 ≤ f.addr && f.addr < 0x100_1200 && 0x20 ≤ f.addr % 0x100 then 0
  else if f = TWI_PCFG.en 0 || f = TWI_PCFG.en 1 then 1
  else if 0x100_1000 ≤ f.addr && f.addr < 0x100_2000 && f.addr % 0x100 = 4 && f.lsb = 2 then ofBool (s.identHolds ((f.addr - 0x100_1000) / 0x100))
  else if 0x100_1000 ≤ f.addr && f.addr < 0x100_2000 && f.addr % 0x100 = 4 && f.lsb = 3 then
    (let n := (f.addr - 0x100_1000) / 0x100
     ofBool (s.on (TWI_CRES.busy n) || s.on (Sig.busTaken n)))
  else if f = CRP_WDOGLEFT.ms then (if s.on CRP_WDOGCFG.en then s.wdogLeft else 0)
  else if f = CRP_PFSTAT.aux12 then s.rd Sig.aux12
  else if f = CRP_PFSTAT.ext then s.rd Sig.auxPf
  else if f = CRP_CLKSTAT.throttle then ofBool (s.rd THM_DEVSTAT.level == 2)
  else if f = MEM_REPAIR.used then s.memu.maps.length
  else if f = MEM_REPAIR.exhausted then s.macrosFull
  else if f = HIF_RCVSTAT.state then (if s.on (V.rcvBusy 0) then 5 else s.rd HIF_RCVSTAT.state)
  else if f = HIF_PCIID.vendor then Config.pciVendor % 2 ^ f.width
  else if 0x30_0000 ≤ f.addr && f.addr < 0x38_0000 && f.addr % 0x1_0000 = 0x1C then
    Config.swjTxLat (s.rd (SWJ_STAT.rate ((f.addr - 0x30_0000) / 0x1_0000))) % 2 ^ f.width
  else if 0x30_0000 ≤ f.addr && f.addr < 0x38_0000 && f.addr % 0x1_0000 = 0x20 then
    Config.swjRxLat (s.rd (SWJ_STAT.rate ((f.addr - 0x30_0000) / 0x1_0000))) % 2 ^ f.width
  else if 0x30_0000 ≤ f.addr && f.addr < 0x38_0000 && 0xA4 ≤ f.addr % 0x1_0000 && f.addr % 0x1_0000 < 0xC0 then
    s.pageWord ((f.addr - 0x30_0000) / 0x1_0000) ((f.addr % 0x1_0000 - 0xA4) / 4)
  else if s.on V.passDone && 0x60_2000 ≤ f.addr && f.addr < 0x60_6000 && 3584 ≤ (f.addr - 0x60_2000) / 4 && (3712 ≤ (f.addr - 0x60_2000) / 4 || 10 ≤ (f.addr - 0x60_2000) / 4 % 16) then
    Config.freeValue (s.tick * 2 ^ 64 + f.key) % 2 ^ 32  -- FREE VALUE: a cell of the standard group that the spec does not lay out
  else if 0x40_8000 ≤ f.addr && f.addr < 0x40_8900 then
    let o := f.addr - 0x40_8000
    ordField f (s.ordView Blk.cap (o / 0x10 % 0x10) (o / 0x100) (o / 4 % 4 + 1))
  else if 0x40_A000 ≤ f.addr && f.addr < 0x40_A240 then
    let o := f.addr - 0x40_A000
    s.inforceField f Blk.cap (o / 4 % 0x10) (o / 0x40)
  else if 0x90_8000 ≤ f.addr && f.addr < 0x90_8100 then
    let o := f.addr - 0x90_8000
    ordField f (s.ordView Blk.seq 0 (o / 0x10) (o / 4 % 4 + 1))
  else if 0x90_9000 ≤ f.addr && f.addr < 0x90_9040 then s.inforceField f Blk.seq 0 ((f.addr - 0x90_9000) / 4)
  else if 0xA0_8000 ≤ f.addr && f.addr < 0xA0_8100 then
    let o := f.addr - 0xA0_8000
    ordField f (s.ordView Blk.fed 0 (o / 0x10) (o / 4 % 4 + 1))
  else if 0xA0_9000 ≤ f.addr && f.addr < 0xA0_9040 then s.inforceField f Blk.fed 0 ((f.addr - 0xA0_9000) / 4)
  else if 0xB0_8000 ≤ f.addr && f.addr < 0xB0_8200 then
    let o := f.addr - 0xB0_8000
    ordField f (s.ordView Blk.thm (o / 0x100) (o / 0x10 % 0x10) (o / 4 % 4 + 1))
  else if 0xB0_9000 ≤ f.addr && f.addr < 0xB0_9080 then
    let o := f.addr - 0xB0_9000
    s.inforceField f Blk.thm (o / 0x40) (o / 4 % 0x10)
  else if 0xC0_8000 ≤ f.addr && f.addr < 0xC0_8080 then
    let o := f.addr - 0xC0_8000
    ordField f (s.ordView Blk.acu 0 (o / 0x10) (o / 4 % 4 + 1))
  else if 0xC0_9000 ≤ f.addr && f.addr < 0xC0_9020 then s.inforceField f Blk.acu 0 ((f.addr - 0xC0_9000) / 4)
  else s.rd f

/-- A field of local rail 4 of a partner tile is the lead tile's (R81). -/
def partnerRail (a : Nat) : Bool :=
  (decide (0x24_1400 ≤ a) && decide (a < 0x24_1500)) || (decide (0x2C_1400 ≤ a) && decide (a < 0x2C_1500))

/-- Where a read of an address is served: a partner tile's local rail 4 on the lead tile (R81). -/
def readHome (a : Nat) : Nat := if partnerRail a then a - 0x4_0000 else a

/-- A field as this requester reads it: write-only fields and another's keeper-only fields read 0 (R7, R9). -/
def State.fieldRead (s : State) (req : Nat) (e : Access × Fld) : Nat :=
  if e.1 = .wo then 0 else if e.1.keeperOnly && req != Req.keeper then 0 else s.view e.2

/-- A register as this requester reads it, all its bits (R5, R22). -/
def State.regRead (s : State) (req : Nat) (h : RegHit) : Nat :=
  h.fields.foldl (fun a e => a + s.fieldRead req e * 2 ^ e.2.lsb) 0

/-- BLOCK_STGSTAT (R76): values staged against the stamp, and the pending stamps, 15 meaning 15 or 16. -/
def State.stgstat (s : State) (req blk : Nat) : Nat :=
  let n := match s.staging.stampOf blk req with
    | some st => (s.staging.against blk req st).length
    | none => 0
  n * 16 + min 15 (s.staging.pendingStamps blk req).length

/-- A common staging register as this requester reads it, 64 bits from its base (R76). -/
def State.stagingRead (s : State) (req blk ofs : Nat) : Nat :=
  if ofs < 8 then (s.staging.stampOf blk req).getD 0 / (if ofs = 4 then 2 ^ 32 else 1) % 2 ^ 32
  else if ofs = 8 then s.stgstat req blk % 2 ^ 32
  else 0

/-- What a 32-bit read returns, before its side effects (R34, R35, R410). -/
def State.read32 (s : State) (req a : Nat) : Nat :=
  if s.planeDown a || !s.mayRead req a 4 then 0
  else match stagingReg? a with
    | some (blk, ofs) => s.stagingRead req blk ofs
    | none => match regAt? (readHome a) with
      | some h => (s.regRead req h / (if h.upper then 2 ^ 32 else 1)) % 2 ^ 32
      | none => 0

/-- The latch of a requester's pair of accesses (R6): one for each register, so that pairs at two registers do not meet (DESIGN CHOICE,
log 167). -/
def pairKey (req a : Nat) : Nat := req * 2 ^ 32 + a

/-- What the requesters have read, with `v` for `req` in place of what it read before. -/
def readAs (data : SMap Nat) (req v : Nat) : SMap Nat := tablePut 0 (tableDrop (fun k => k == req) data) req v

/-- The value a requester has read. -/
def giveData (req v : Nat) (s : State) : Upd := .bus { s.bus with data := readAs s.bus.data req v }

/-- Fields whose writes have a row of their own in the table; REGISTER_WRITE leaves them alone. -/
def ownRow (a lsb : Nat) : Bool :=
  (a == 0x10_0100) || (a == 0x10_0108) ||                                 -- TIM_TXCTL, TIM_TXSTAMP
  (decide (0x18_0080 ≤ a) && decide (a < 0x18_00B0) && a % 0x10 == 8) ||   -- JRN_ACK
  (a == 0x18_0140) || (a == 0x18_0200) ||                                 -- JRN_MGMTPUSH, JRN_CAPCTL
  (decide (0x30_0000 ≤ a) && decide (a < 0x38_0000) && a % 0x1_0000 == 0 && (lsb == 1 || lsb == 2)) || -- SWJ_CTL
  (a == 0x60_004C) || (a == 0x90_0010) ||                                 -- FAB_LOADCTL, SEQ_FIRST
  (decide (0x90_0020 ≤ a) && decide (a < 0x90_0030)) ||                    -- SEQ_FAULTMAP
  (a == 0xA0_0030) || (a == 0xB0_0028) || (a == 0xB0_0024) ||              -- FED_TRIPMAP, THM_TLATCH, THM_LEAKMAP
  (decide (0xC0_1000 ≤ a) && decide (a < 0xC0_1800) && ((a % 0x100 == 0 && (lsb == 16 || lsb == 0)) || a % 0x100 == 0x0C)) || -- ACU straps, ACU_CMD
  (a == 0xD0_1000) || (a == 0xD0_1044) ||                                 -- KPR_CORECTL, KPR_KEYLOCK
  (decide (0xF0_0040 ≤ a) && decide (a < 0xF0_00C0)) || (a == 0xF0_0200) || (a == 0xF0_0340) || -- HIF_B2SEG, HIF_RCVCTL, HIF_SVCPUSH
  (decide (0xF0_1000 ≤ a) && decide (a < 0xF0_2000) && ((a % 0x40 == 0x24 && lsb == 0) || a % 0x40 == 0x30)) || -- HIF_RCTL.en, HIF_DB
  (decide (0xF0_4000 ≤ a) && decide (a < 0xF0_4400) && a % 0x40 == 0x14 && lsb == 0) || -- HIF_DMACTL.go
  (decide (0x100_1000 ≤ a) && decide (a < 0x100_2000) && a % 0x100 == 0x20 && lsb == 31) || -- TWI_CCMD.go
  (a == 0x120_0000) || (a == 0x120_0038) ||                               -- PMC_CTL, PMC_BWWIN
  (decide (0x120_0200 ≤ a) && decide (a < 0x120_0400)) ||                  -- PMC_CNT
  (a == 0x128_0010) || (decide (0x128_0020 ≤ a) && decide (a < 0x128_0048)) || -- TAM_UNLOCK, TAM_DSEL, TAM_ASEL
  (a == 0x130_0018) || (a == 0x130_0040)                                  -- CRP_WDOGKICK, CRP_SBCTL

/-- Registers closed to a requester (R588 reason 8): the host at the LORD registers, ACU_CMD and the management port; the
partner tile's local rail 4 (R81); a core at DMA engines 0 to 2 (R464); SEQ_MARGIN of a rail that may not be margined. -/
def State.closedTo (s : State) (req a : Nat) : Bool :=
  (req == Req.host && (a == 0x40_0040 || a == 0x40_0044 || a == 0x90_0030 || a == 0xA0_0040 || a == 0xB0_0030 || a == 0xC0_0010 ||
    (decide (0x18_0100 ≤ a) && decide (a < 0x18_0144)) || (decide (0xC0_1000 ≤ a) && decide (a < 0xC0_1800) && a % 0x100 == 0x0C))) ||
  partnerRail a ||
  (isCore req && decide (0xF0_4000 ≤ a) && decide (a < 0xF0_40C0)) ||
  (decide (0x90_1000 ≤ a) && decide (a < 0x90_3000) && a % 0x40 == 0x1C &&
    (let r := (a - 0x90_1000) / 0x40
     !bit (s.rd (SEQ_RAILMODE.flags r)) 2 || decide (s.rd (SEQ_RAILMODE.reg_rail r) < 8)))

/-- Registers that may be written only in another state (R588 reason 7). -/
def State.lockedNow (s : State) (a : Nat) : Bool :=
  ((a == 0x18_0204 || a == 0x18_0208 || a == 0x18_0218) && s.rd JRN_CAPCTL.state != 0) ||
  (decide (0xF0_1000 ≤ a) && decide (a < 0xF0_2000) && decide (a % 0x40 < 0x24) && s.on (HIF_RCTL.en ((a - 0xF0_1000) / 0x40))) ||
  (decide (0xF0_4000 ≤ a) && decide (a < 0xF0_4400) && s.rd (HIF_DMASTAT.state ((a - 0xF0_4000) / 0x40)) == 1)

/-- The owner of the open transaction. -/
def State.txOwner (s : State) : Nat := s.rd TIM_TXSTAT.owner

/-- Transaction states of TIM_TXSTAT. -/
def TxS.idle : Nat := 0
def TxS.openS : Nat := 1
def TxS.committing : Nat := 2
def TxS.done : Nat := 3
def TxS.aborted : Nat := 4

/-- The transaction aborts (R59): every value is discarded, and TX_ABORT names the cause. -/
def txAbortWith (cause offending : Nat) (s : State) : List Upd :=
  [note Ty.TX_ABORT (srcOf 1 0) [(24, 1, s.txOwner), (25, 1, cause), (26, 2, s.rd TIM_TXCOUNT.writes), (28, 4, offending), (32, 8, s.tx.openedAt)],
   .tx { s.tx with vals := [], waitFrom := none }, .set TIM_TXSTAT.state TxS.aborted, .set TIM_TXSTAT.cause cause]

/-- A write by another requester while a transaction is open (R56, R586). -/
def foreignRec (req a data : Nat) (s : State) : Upd :=
  note Ty.TX_FOREIGN (srcOf 1 0) [(24, 1, s.txOwner), (25, 1, req), (28, 4, data), (32, 8, a)]

/-- A field of a held value. -/
def TxVal.fld (v : TxVal) : Fld := ⟨v.addr, v.lsb, v.width, v.reset⟩

/-- A value is placed in the transaction, a later one to the same field replacing the earlier (R57). -/
def Tx.place (t : Tx) (f : Fld) (v : Nat) : Tx :=
  { t with vals := t.vals.filter (fun x => !(x.addr == f.addr && x.lsb == f.lsb)) ++ [⟨f.addr, f.lsb, f.width, f.reset, v⟩] }

/-- Bits of a register that no field covers (R5). -/
def reservedMask (h : RegHit) : Nat :=
  clearBits (2 ^ (if h.desc.wide then 64 else 32) - 1) (h.fields.foldl (fun m e => m ||| ((2 ^ e.2.width - 1) * 2 ^ e.2.lsb)) 0)

/-- The RWT values of a register written by the transaction's owner (R57), or the abort the write brings. A write that R9 discards in
part is recorded by `writeWhole`. -/
def txPlaceFields (req : Nat) (h : RegHit) (data width : Nat) (s : State) : List Upd :=
  let fs := h.fields.filter (fun e => e.1.transactional)
  if fs.isEmpty then []
  else if reservedMask h &&& data ≠ 0 || (fs.any (fun e => e.1.keeperOnly) && req != Req.keeper) then txAbortWith 5 h.addr s
  else if !s.mayWrite req h.addr width .rwt then discardWrite req 2 width data h.addr :: txAbortWith 5 h.addr s
  else if 4096 < s.rd TIM_TXCOUNT.writes + 1 then txAbortWith 4 h.addr s
  else
    [.tx (fs.foldl (fun t e => t.place e.2 (bits data e.2.lsb e.2.width)) s.tx), bump s TIM_TXCOUNT.writes]

/-- JRN_STAT, whose bits the Firn writer holds. -/
def jrnStatAddr : Nat := 0x18_00C0

/-- A write of JRN_STAT clears the bits written 1, and keeps those that the hardware sets in the same cycle (R7, R8). -/
def jrnStatWrite (data hw : Nat) (f : Firn) : Firn :=
  { f with c0Full := (f.c0Full && !bit data 0) || bit hw 0, overrun := (f.overrun && !bit data 1) || bit hw 1, stageHi := (f.stageHi && !bit data 2) || bit hw 2 }

/-- What the non-transactional fields of a register do with a written value (R7, R8, R9). `hw` holds the bits that the
hardware sets in the same cycle. -/
def fieldWrite (req data hw : Nat) (s : State) (e : Access × Fld) : List Upd :=
  let v := bits data e.2.lsb e.2.width
  if ownRow e.2.addr e.2.lsb then []
  else match e.1 with
    | .rw => [.set e.2 v]
    | .w1c =>
      if e.2.addr = jrnStatAddr then [] else [.set e.2 (clearBits (s.view e.2) v ||| bits hw e.2.lsb e.2.width)]
    | .wo => [.set e.2 v]
    | .ko =>
      if req = Req.keeper then
        (if e.2.addr = 0xD0_1300 then [.set e.2 (clearBits (s.rd e.2) v)] else [.set e.2 v])
      else []
    | _ => []

/-- CRP_RSTCTL (R548): the key and exactly one of cold, mgmt and pred, by the keeper; the reset it orders then follows. -/
def resetOrderValid (data : Nat) : Bool := data / 2 ^ 16 % 2 ^ 16 == 0x0F08 && popCount 3 data == 1 && data / 8 % 2 ^ 13 == 0

/-- A write that no grant covers while its requester's transaction is open, at a register that holds RWT fields: the transaction
aborts (R57, R59). -/
def txLosesWrite (req a : Nat) (s : State) : List Upd :=
  match regAt? a with
  | some h => onlyIf (s.rd TIM_TXSTAT.state == TxS.openS && s.txOwner == req && h.fields.any (fun e => e.1.transactional)) (txAbortWith 5 h.addr s)
  | none => []

/-- A whole register written with `data`, by the access type of each field. The owner's write of an RWT field while its transaction is
COMMITTING is discarded with reason 3, no transaction being open to it (DESIGN CHOICE, log 166). -/
def writeWhole (req : Nat) (h : RegHit) (data width hw : Nat) (s : State) : List Upd :=
  let a := h.addr
  if s.closedTo req a then [discardWrite req 8 width data a]
  else if s.lockedNow a then [discardWrite req 7 width data a]
  else if a = 0x130_0010 then
    (if req != Req.keeper then [discardWrite req 1 width data a]
     else if resetOrderValid data then [.set CRP_RSTCTL.key_ 0x0F08, .set CRP_RSTCTL.cold (bits data 0 1), .set CRP_RSTCTL.mgmt (bits data 1 1), .set CRP_RSTCTL.pred (bits data 2 1)]
     else [discardWrite req 9 width data a])
  else
    let blk := ((blockAt? a).map (·.base)).getD 0
    let staged := h.fields.filter (fun e => e.1.staged)
    let allowed := staged.filter (fun e => !(e.1.keeperOnly && req != Req.keeper))
    let zeroAdd := allowed.filter (fun e => e.2.lsb == 12 && e.2.width == 12 && bits data e.2.lsb e.2.width == 0 &&
      decide (0x20_0000 ≤ a) && decide (a < 0x30_0000) && a % 0x100 == 0x18 && decide (a % 0x4_0000 < 0x1500))
    let fit := allowed.filter (fun e => !zeroAdd.contains e)
    let koHit := req != Req.keeper && h.fields.any (fun e => e.1.keeperOnly)
    let tst := s.rd TIM_TXSTAT.state
    let txPart : List Upd :=
      if h.fields.any (fun e => e.1.transactional) then
        (if !s.mayWrite req a width .rwt then discardWrite req 2 width data a :: txLosesWrite req a s
         else if tst = TxS.openS && s.txOwner == req then txPlaceFields req h data width s
         else if (tst = TxS.openS || tst = TxS.committing) && s.txOwner != req then [foreignRec req a data s]
         else if koHit then [] else [discardWrite req 3 width data a])
      else []
    let paramOk := blk != 0x60_0000 || staged.isEmpty ||
      (match s.param? ((a - 0x60_8000) / 4) with
       | some p => req == Req.keeper || (req == Req.host && p.host) || (isServiceCore req && p.cores)
       | none => false)
    h.fields.flatMap (fieldWrite req data hw s) ++
    onlyIf (a == jrnStatAddr) [.firn (jrnStatWrite data hw s.firn)] ++
    onlyIf (a == 0x130_0014 && req == Req.keeper && bit data 31 && !s.on CRP_WDOGCFG.en) [.set V.wdogAt s.now] ++
    onlyIf (decide (0xF8_0000 ≤ a) && decide (a < 0xF8_4000) && a % 16 == 12) [.flushVectors] ++
    onlyIf koHit [discardWrite req 1 width data a] ++
    onlyIf (!zeroAdd.isEmpty) [discardWrite req 9 width data a] ++
    (if fit.isEmpty then []
     else if !paramOk then paramReject s ((a - 0x60_8000) / 4) (if (s.param? ((a - 0x60_8000) / 4)).isSome then 3 else 4) data req
     else stageFields req blk (fit.map (fun e => (e.2, bits data e.2.lsb e.2.width))) data width a s) ++
    txPart

/-- A write of the common staging registers (R6, R48, R76); BLOCK_STGCANCEL has a row of its own. -/
def writeStaging (req blk ofs value width : Nat) (s : State) : List Upd :=
  if ofs = 0 && width = 8 then [.staging (s.staging.writeStamp blk req value)]
  else if ofs = 0 then [.bus { s.bus with lower := tableInsert s.bus.lower (pairKey req (blk + 0xFF00)) value }]
  else if ofs = 4 then
    let lo := (tableFind? s.bus.lower (pairKey req (blk + 0xFF00))).getD ((s.staging.stampOf blk req).getD 0 % 2 ^ 32)
    [.staging (s.staging.writeStamp blk req (lo + value % 2 ^ 32 * 2 ^ 32)),
     .bus { s.bus with lower := tableErase s.bus.lower (pairKey req (blk + 0xFF00)) }]
  else []

/-! Traffic (R522, R523). -/

/-- The good channels, ascending, and the channel of an LPDDR5X address (R503); a package has four channels (R501). -/
def State.goodChannels (s : State) : List Nat := bitsOf 48 (s.rd V.lpGood)
def State.channelOf (s : State) (a : Nat) : Nat :=
  let g := s.goodChannels
  g.getD ((a - 0x10_0000_0000) / 4096 % max 1 g.length) 0

/-- n bytes at an address of LPDDR5X are read or written: the bytes and the 64-byte lines of each package. -/
def lpTraffic (isWrite : Bool) (a n : Nat) (s : State) : List Upd :=
  if a < 0x10_0000_0000 || n = 0 then []
  else (List.range ((a + n - 1) / 4096 - a / 4096 + 1)).flatMap (fun g =>
    let lo := max a ((a / 4096 + g) * 4096)
    let hi := min (a + n) ((a / 4096 + g + 1) * 4096)
    let p := s.channelOf lo / 4
    [.carry p isWrite (hi - lo), .tally (if isWrite then 0x063 else 0x062) p ((hi - 1) / 64 - lo / 64 + 1)])

/-- Memory space is disabled in D3hot: no request of the host reaches a register or device memory (R449; DEDUCED, log 216). -/
def State.spaceOff (s : State) (req : Nat) : Bool := req == Req.host && s.rd HIF_STAT.dstate != 0

/-- A host access through BAR0 (R523). -/
def hostTraffic (req : Nat) (isWrite : Bool) (n : Nat) : List Upd := onlyIf (req == Req.host) [.carry 13 isWrite n]

/-- The keeper runs with its outputs gated (R405). -/
def State.keeperGated (s : State) : Bool := s.on KPR_GQUEUE.gated

/-- Writes the gated queue holds (R405); one more is the write the stalled core waits with. -/
def queueRoom : Nat := 4096

/-- A write of the gated keeper enters its queue (R405). -/
def gateQueue (mem : Bool) (a width data : Nat) (s : State) : List Upd :=
  onlyIf (decide (s.gq.length ≤ queueRoom))
    [.gq (s.gq ++ [⟨mem, a, width, data⟩]), .set KPR_GQUEUE.peak (max (s.rd KPR_GQUEUE.peak) (min queueRoom (s.gq.length + 1)))]

/-- A register write with an effect of its own: the gated keeper's is queued, any other's has its effect (R405, R449). -/
def keeperQueues (req a width value : Nat) (s t : State) : Result :=
  if s.spaceOff req then .next s
  else if req = Req.keeper && s.keeperGated then .next (s.does (gateQueue false a width value)) else .next (t.run (hostTraffic req true width))

/-- What a register write does. A 64-bit write leaves a lower word held before it where it is (DESIGN CHOICE, log 167). -/
def writeEffect (req a width value hw : Nat) (s : State) : List Upd :=
  if req = Req.keeper && s.keeperGated then gateQueue false a width value s
  else if s.planeDown a then [discardWrite req 6 width value a]
  else if !covered a then [discardWrite req 5 width value a]
  else if isServiceCore req && ((s.granted req 0 a width).getD 0) = 0 then discardWrite req 2 width value a :: txLosesWrite req a s
  else match stagingReg? a with
    | some (blk, ofs) => writeStaging req blk ofs value width s
    | none => match regAt? a with
      | none => []
      | some h =>
        if !h.desc.wide then writeWhole req h (value % 2 ^ 32) width (hw % 2 ^ 32) s
        else if h.upper then
          let lo := (tableFind? s.bus.lower (pairKey req h.addr)).getD (s.regRead req h % 2 ^ 32)
          writeWhole req h (lo + value % 2 ^ 32 * 2 ^ 32) 8 hw s ++
            [.bus { s.bus with lower := tableErase s.bus.lower (pairKey req h.addr) }]
        else if width = 8 then writeWhole req h (value % 2 ^ 64) 8 hw s
        else [.bus { s.bus with lower := tableInsert s.bus.lower (pairKey req h.addr) (value % 2 ^ 32) }]

/-- A register write (R5-R10, R34, R35, R410): `width` is 4 or 8 bytes. -/
def writeRegister (req a width value hw : Nat) (s : State) : List Upd := writeEffect req a width value hw s ++ hostTraffic req true width

/-- What discards a write of a register whose effect is a command of its own, before that effect (R9, R34, R35, R410, R588). -/
def State.writeGate (s : State) (req a width value : Nat) (ko : Bool) : Option Upd :=
  if s.planeDown a then some (discardWrite req 6 width value a)
  else if isServiceCore req && ((s.granted req 0 a width).getD 0) = 0 then some (discardWrite req 2 width value a)
  else if s.closedTo req a then some (discardWrite req 8 width value a)
  else if ko && req != Req.keeper then some (discardWrite req 1 width value a)
  else none

/-- A write of such a register: what it does where nothing discards it. The gated keeper's is judged when its queue drains (R405). -/
def State.gated (s : State) (req a width value : Nat) (ko : Bool) (t : State) : Result :=
  match (if s.spaceOff req || (req = Req.keeper && s.keeperGated) then none else s.writeGate req a width value ko) with
  | some u => .next (s.run (u :: hostTraffic req true width))
  | none => keeperQueues req a width value s t

/-- A read of one RC field clears it, keeping what the hardware sets in the same cycle (R7, R8): a bit ends set, a counter
that is incremented holds the increment. -/
def clearOnRead (hw : Nat) (s : State) (e : Access × Fld) : List Upd :=
  if e.1 = .rc then
    let keep := bits hw e.2.lsb e.2.width
    if e.2 = JRN_LOST.count 0 then [.firn { s.firn with lost := tablePut 0 s.firn.lost 0 keep }]
    else if e.2 = JRN_LOST.count 1 then [.firn { s.firn with lost := tablePut 0 s.firn.lost 1 keep }]
    else if e.2 = JRN_LOST.count 2 then [.firn { s.firn with lost := tablePut 0 s.firn.lost 2 keep }]
    else [.set e.2 keep]
  else []

/-! Reads. -/

/-- What a read of one or both words of a 64-bit register gives, with its latch (R6): `v` is all of the register. -/
def readWide (req width : Nat) (upper : Bool) (home v : Nat) (s : State) : List Upd :=
  if upper then
    [.bus { s.bus with data := readAs s.bus.data req ((tableFind? s.bus.upper (pairKey req home)).getD (v / 2 ^ 32)),
                       upper := tableErase s.bus.upper (pairKey req home) }]
  else if width = 8 then [giveData req v s]
  else [.bus { s.bus with data := readAs s.bus.data req (v % 2 ^ 32), upper := tableInsert s.bus.upper (pairKey req home) (v / 2 ^ 32) }]

/-- A register read of 4 or 8 bytes, as its plane and the grants let it through (R6-R9, R34, R35, R410). `hw` holds the bits, or the
count, that the hardware sets in the same cycle. -/
def readEffect (req a width hw : Nat) (s : State) : List Upd :=
  if s.planeDown a then [giveData req 0 s]
  else if !s.mayRead req a width then [giveData req 0 s, .emit (discardedRec req 2 0 true width 0 a)]
  else match stagingReg? a with
    | some (blk, ofs) =>
      if ofs < 8 then readWide req width (ofs == 4) (blk + 0xFF00) ((s.staging.stampOf blk req).getD 0) s
      else [giveData req (s.stagingRead req blk ofs) s]
    | none => match regAt? (readHome a) with
      | some h =>
        (if h.desc.wide then readWide req width h.upper h.addr (s.regRead req h) s else [giveData req (s.regRead req h) s]) ++
        (if req = Req.keeper && s.keeperGated then [] else h.fields.flatMap (clearOnRead hw s))
      | none => [giveData req 0 s]

end Sys2Proof.Machine
end

