-- ==== Sys2Proof/Machine/Counters.lean ====
section
/-! DEFINITION. Event counters and bandwidth windows (R517-R523). -/

namespace Sys2Proof.Machine

/-- An event's instance passes a counter's filter (R522): 0 is every instance; packages are named by index plus 1; events
without a filter ignore it. -/
def filterPasses (ev filter inst : Nat) : Bool :=
  filter == 0 || [0x001, 0x002, 0x022, 0x034, 0x035, 0x036, 0x037, 0x070, 0x071, 0x072].contains ev ||
    (if ev = 0x062 || ev = 0x063 then filter == inst + 1 else bit filter inst)

/-- n events reach counter i (R517, R519, R521). A wrap keeps its bit in PMC_OVF, and `pc` is what its core retired then. -/
def counterAdd (i n pc : Nat) (s : State) : List Upd :=
  let v := s.rd (PMC_CNT.count i) + n
  if n = 0 then []
  else .set (PMC_CNT.count i) v ::
    onlyIf (decide (2 ^ 48 ≤ v))
      ([.set PMC_OVF.ovf (setBit (s.rd PMC_OVF.ovf) i), .set (PMC_OVFPC.pc i) pc] ++ onlyIf (s.on (PMC_CFG.irq i)) [.set PMC_EVT.ovf 1])

/-- Counter i counts (R517, R518). -/
def State.counting (s : State) (i : Nat) : Bool := s.on (PMC_CFG.en i) && !s.on V.pmcOff

/-- Events since the counters were last brought up to date, as (number × 16 + instance, count). -/
def State.freshEvents (s : State) : List (Nat × Nat) :=
  s.pmu.evts ++
    (List.range 4).map (fun c => (0x020 * 16 + c, (tableGet 0 s.firn.clsSeq c + 2 ^ 32 - tableGet 0 s.pmu.seqSeen c) % 2 ^ 32)) ++
    (List.range 3).map (fun c => (0x021 * 16 + c, tableGet 0 s.firn.lostEver c - tableGet 0 s.pmu.lostSeen c)) ++
    [(0x071 * 16, s.rd V.msixNew)]

/-- The events that a counter selects. -/
def State.selected (s : State) (i : Nat) (evs : List (Nat × Nat)) : Nat :=
  (evs.filter (fun e => e.1 / 16 == s.rd (PMC_CFG.event i) && filterPasses (e.1 / 16) (s.rd (PMC_CFG.filter i)) (e.1 % 16))).foldl (fun a e => a + e.2) 0

/-- Every counter takes the events since; the program counter of a wrap is a FREE VALUE, since no command gives it. -/
def pmcFlush (s : State) : State :=
  let evs := s.freshEvents
  let t := s.run [.pmu { s.pmu with evts := [], seqSeen := s.firn.clsSeq, lostSeen := s.firn.lostEver }, .set V.msixNew 0]
  (List.range 64).foldl (fun u i =>
    let n := if u.counting i then u.selected i evs else 0
    if n = 0 then u
    else if 2 ^ 48 ≤ u.rd (PMC_CNT.count i) + n then u.run (counterAdd i n (u.free % 2 ^ 64) u ++ [freeUsed u])
    else u.does (counterAdd i n 0)) t

/-- An access to PMC meets counters that are up to date. -/
def countersSeen (a : Nat) (s : State) : State := if 0x120_0000 ≤ a && a < 0x128_0000 then pmcFlush s else s

/-- Counting should run at the present boundary (R518). -/
def State.pmcRuns (s : State) : Bool :=
  decide (boundaryOf (s.rd PMC_START.stamp) ≤ s.now) && (s.rd PMC_STOP.stamp == 0 || decide (s.now < boundaryOf (s.rd PMC_STOP.stamp)))

/-- A snapshot taken at boundary b (R520). -/
def pmcSnap (b : Nat) (s : State) : List Upd :=
  onlyIf (s.on V.snapOwed) ([.set V.snapOwed 0, .set PMC_SNAPT.stamp b] ++ (List.range 64).map (fun i => Upd.set (PMC_SNAP.count i) (s.rd (PMC_CNT.count i))))

/-- A bandwidth window ends (R523). -/
def bwEnd (s : State) : List Upd :=
  (List.range 32).flatMap (fun p => [Upd.set (PMC_BWRD.bytes p) (tableGet 0 s.pmu.bw (2 * p)), .set (PMC_BWWR.bytes p) (tableGet 0 s.pmu.bw (2 * p + 1))]) ++
  [bump s PMC_BWSEQ.count, .set PMC_EVT.bw 1, .pmu { s.pmu with bw := [] }, .set V.bwFrom (s.rd V.bwFrom + s.rd PMC_BWWIN.us * 4000)]

end Sys2Proof.Machine
end

