-- ==== Sys2Proof/Machine/Store.lean ====
section
/-! DEFINITION. The external flashes, the keys, the update ledger and the images they hold (chapters 13 and 14: R397-R404,
R417, R423-R431, R435). A flash byte is held complemented, so that erased flash, which reads 0xFF, lists nothing. -/

namespace Sys2Proof.Machine

/-- Memory spaces beside device physical memory (0): host memory, boot flash, gold flash and the slots' boot flashes. -/
def Sp.host : Nat := 1
def Sp.boot : Nat := 2
def Sp.gold : Nat := 3
def Sp.slot (n : Nat) : Nat := 0x20 + n

/-- The key of an address in a space. -/
def inSpace (sp a : Nat) : Nat := sp * 2 ^ 64 + a

/-- `n` bytes of a flash. -/
def State.flash (s : State) (sp a n : Nat) : List Nat := (memBytes s.mem (inSpace sp a) n).map (fun b => 255 - b)

/-- Bytes programmed into erased flash, and a range erased. -/
def flashStore (sp a : Nat) (bs : List Nat) : Upd := .store (inSpace sp a) (bs.map (fun b => 255 - b))
def flashErase (sp a n : Nat) : Upd := .wipe (inSpace sp a) (inSpace sp (a + n))

/-- Where the bytes of an image stand: a space, an address, and the 64 KiB blocks of a slot that it skips (R425). -/
structure Place where
  sp : Nat
  base : Nat
  skips : List Nat
  deriving DecidableEq, Repr

/-- The flash block that holds block `b` of an image: each skipped block at or before it moves it one on. -/
def skipOver (skips : List Nat) (b : Nat) : Nat := (skips.mergeSort (fun x y => decide (x ≤ y))).foldl (fun p k => if k ≤ p then p + 1 else p) b

/-- `n` bytes at offset `o` of an image. -/
def State.at' (s : State) (w : Place) (o n : Nat) : List Nat :=
  if w.sp < 2 then memBytes s.mem (inSpace w.sp (w.base + o)) n
  else if w.skips.isEmpty then s.flash w.sp (w.base + o) n
  else (List.range n).map (fun i => (s.flash w.sp (w.base + 65536 * skipOver w.skips ((o + i) / 65536) + (o + i) % 65536) 1).getD 0 0)

/-- A little-endian number of an image. -/
def State.num (s : State) (w : Place) (o n : Nat) : Nat := ofLe (s.at' w o n)

/-- ASCII text as bytes. -/
def ascii (t : String) : List Nat := t.toList.map Char.toNat

/-- A 256-bit SHAKE256 digest. -/
def digest (bs : List Nat) : List Nat := Config.shake256 bs 32

/-! Keys (R398-R400). -/

/-- The storage key K_st. -/
def State.storageKey (s : State) : List Nat := digest (leBytes 32 (s.rd V.fuseDs) ++ ascii "OR8-STOR")

/-- The lifecycle state lets a key slot be used (R398, R416). -/
def State.slotPermitted (s : State) (k : Nat) : Bool :=
  let l := s.lifecycle
  if l ≤ 1 then true else if l = 2 then !bit (s.rd (V.fuseUsage k)) 5 else if l = 3 then decide (k < 4) && !bit (s.rd (V.fuseUsage k)) 5 else false

/-- A key slot is usable for a usage (R399); keeper usage counts in slots 0 to 3 only. -/
def State.keyUsable (s : State) (usage k : Nat) : Bool :=
  s.on (KPR_KEYSLOT.valid k) && !s.on (V.fuseRevoked k) && bit (s.rd (V.fuseUsage k)) usage && s.slotPermitted k && (usage != 0 || decide (k < 4))

/-- A slot's key identifier (R398). -/
def State.keyId (s : State) (k : Nat) : List Nat := (leBytes 32 (s.rd (V.fuseKey k))).take 16

/-- The slot whose key an identifier names, usable for a usage. -/
def State.keyFor (s : State) (usage : Nat) (id : List Nat) : Option Nat := (List.range 8).find? (fun k => s.keyUsable usage k && s.keyId k == id)

/-- A signature by the key of a slot. -/
def State.signedBy (s : State) (k : Nat) (msg sig : List Nat) : Bool := Config.xmssVerify (leBytes 64 (s.rd (V.keyTable k))) msg sig

/-- KPR_KEYLOCK as a word (R422). -/
def State.locks (s : State) : Nat :=
  s.rd KPR_KEYLOCK.ds_read + 2 * s.rd KPR_KEYLOCK.stor_use + 4 * s.rd KPR_KEYLOCK.att_use + 8 * s.rd KPR_KEYLOCK.all_use

/-- The storage key, and the attestation key, may be used (R400). -/
def State.storeOpen (s : State) : Bool := !s.on KPR_KEYLOCK.stor_use && !s.on KPR_KEYLOCK.all_use && !s.on KPR_LCSTAT.unlocked
/-- A record may be begun (R400, R440, R554): the storage key is open, and no power-fail warning stands. -/
def State.mayRecord (s : State) : Bool := s.storeOpen && !s.on CRP_PFSTAT.warn
def State.attOpen (s : State) : Bool := !s.on KPR_KEYLOCK.att_use && !s.on KPR_KEYLOCK.all_use && !s.on KPR_LCSTAT.unlocked

/-! The ledger (R401, R426-R428). -/

/-- Start of a ledger half, and the records it holds. -/
def ledgerBase (h : Nat) : Nat := if h = 0 then 0x10_0000 else 0x20_0000
def ledgerRoom : Nat := 16384

/-- The tag of a record's first 48 bytes. -/
def State.ledgerTag (s : State) (bs : List Nat) : List Nat := (digest (s.storageKey ++ bs)).take 16

/-- The valid records of both halves. -/
def State.ledger (s : State) : List (List Nat) :=
  ([0, 1].flatMap (fun h => (List.range ledgerRoom).map (fun i => s.flash Sp.boot (ledgerBase h + 64 * i) 64))).filter
    (fun r => r.drop 48 == s.ledgerTag (r.take 48))

/-- The standing record of a kind and item: the one with the highest lseq. -/
def State.standing (s : State) (p : List Nat → Bool) : Option (List Nat) :=
  (s.ledger.filter p).foldl (fun (best : Option (List Nat)) r => match best with
    | none => some r
    | some b => if leAt b 4 4 ≤ leAt r 4 4 then some r else some b) none

/-- Kind-1 records of an image kind and slot (R427). -/
def isItem (k sl : Nat) (r : List Nat) : Bool := r.getD 0 0 == 1 && r.getD 8 0 == k && r.getD 9 0 == sl

/-- States of R427. -/
def ImgS.empty : Nat := 0
def ImgS.written : Nat := 1
def ImgS.verified : Nat := 2
def ImgS.active : Nat := 3
def ImgS.retired : Nat := 4

/-- An image item as its standing record gives it; EMPTY with counter 0 where there is none. -/
structure Item where
  state : Nat := 0
  rejected : Bool := false
  counter : Nat := 0
  version : Nat := 0
  svn : Nat := 0
  len : Nat := 0
  extent : Nat := 0
  meas : Nat := 0
  skips : List Nat := []
  deriving DecidableEq, Repr

/-- The item of a kind and slot. -/
def State.item (s : State) (k sl : Nat) : Item :=
  match s.standing (isItem k sl) with
  | some r => ⟨leAt r 10 1, bit (leAt r 11 1) 0, leAt r 12 4, leAt r 16 4, leAt r 20 4, leAt r 24 4, leAt r 28 4, leAt r 32 8,
      ((List.range 4).map (fun i => leAt r (40 + 2 * i) 2)).filter (· != 0xFFFF)⟩
  | none => {}

/-- A record is written at the end of the half in use (R401): its tag, its lseq, and what IMG shows. While the storage key is locked there is no tag,
and nothing is written (R400); after a power-fail warning no record is begun (R440, R554). -/
def ledgerWrite (kind : Nat) (payload : List Nat) (s : State) : List Upd :=
  if !s.mayRecord then [] else
  let head := [kind, 0, 0, 0] ++ leBytes 4 (s.rd IMG_LSEQ.next) ++ sliceBytes payload 0 40
  [flashStore Sp.boot (ledgerBase (s.rd IMG_LEDGER.half) + 64 * s.rd IMG_LEDGER.used) (head ++ s.ledgerTag head),
   bump s IMG_LEDGER.used, bump s IMG_LSEQ.next]

/-- The payload of an item's record (R427). -/
def Item.payload (i : Item) (k sl : Nat) : List Nat :=
  [k, sl, i.state, ofBool i.rejected] ++ leBytes 4 i.counter ++ leBytes 4 i.version ++ leBytes 4 i.svn ++ leBytes 4 i.len ++
    leBytes 4 i.extent ++ leBytes 8 i.meas ++ (List.range 4).flatMap (fun j => leBytes 2 (i.skips.getD j 0xFFFF))

/-- What IMG shows of the slots of a kind, and of the copies of an entry (R443). -/
def showSlots (k : Nat) (s : State) : List Upd :=
  let a := s.item k 0
  let b := s.item k 1
  [(0, a, b), (1, b, a)].flatMap (fun x =>
    let i := x.2.1
    let o := x.2.2
    let both := i.state == ImgS.active && o.state == ImgS.active
    [.set (IMG_SDESC.state k x.1) i.state, setB (IMG_SDESC.rejected k x.1) i.rejected, setB (IMG_SDESC.trial k x.1) (both && decide (o.counter < i.counter)),
     setB (IMG_SDESC.suspect k x.1) (both && i.counter == o.counter), .set (IMG_SDESC.skipped k x.1) i.skips.length, .set (IMG_SCOUNT.counter k x.1) i.counter,
     .set (IMG_SVER.version k x.1) i.version, .set (IMG_SSVN.svn k x.1) i.svn])
def showCopies (e : Nat) (s : State) : List Upd :=
  let a := s.item 3 (2 * e)
  let b := s.item 3 (2 * e + 1)
  [(0, a, b), (1, b, a)].flatMap (fun x =>
    let i := x.2.1
    let o := x.2.2
    [.set (IMG_GDESC.state e x.1) i.state, setB (IMG_GDESC.rejected e x.1) i.rejected,
     setB (IMG_GDESC.suspect e x.1) (i.state == ImgS.active && o.state == ImgS.active && i.counter == o.counter),
     .set (IMG_GDESC.skipped e x.1) i.skips.length, .set (IMG_GCOUNT.counter e x.1) i.counter, .set (IMG_GVER.version e x.1) i.version,
     .set (IMG_GSVN.svn e x.1) i.extent] ++
    onlyIf (!(i.state == ImgS.active || i.state == ImgS.retired)) [.set (IMG_GDESC.valid e x.1) 0])

/-- An item moves to a state, by one record (R428, R441); where none may be begun it stays where it is (R400, R440). -/
def moveItem (k sl : Nat) (i : Item) (s : State) : State :=
  if !s.mayRecord then s else
  let old := s.item k sl
  let t := (s.does (ledgerWrite 1 (i.payload k sl))).run
    [note Ty.IMG_LEDGER (srcOf 0xB 0) [(24, 1, k), (25, 1, sl), (26, 1, old.state), (27, 1, i.state), (28, 1, ofBool i.rejected), (32, 4, i.counter),
      (36, 4, s.rd IMG_LSEQ.next), (40, 4, i.version)]]
  if k < 3 then t.does (showSlots k) else t.does (showCopies (sl / 2))

/-- The minimum svn in force of a kind (R406). -/
def State.svnMin (s : State) (k : Nat) : Nat :=
  max (((s.standing (fun r => r.getD 0 0 == 2 && r.getD 8 0 == k)).map (fun r => leAt r 12 4)).getD 0) (s.rd (V.fuseFloor k))

/-! Slots of the boot flash and copies of the gold flash (R423-R425, R429). -/

/-- Start of a slot, and the largest image it may hold. -/
def slotBase (k sl : Nat) : Nat :=
  if k = 0 then 0x40_0000 + 0x4_0000 * sl else if k = 1 then 0x50_0000 + 0x1C0_0000 * sl else 0x3D0_0000 + 0x180_0000 * sl
def slotSize (k : Nat) : Nat := if k = 0 then 0x4_0000 else if k = 1 then 0x1C0_0000 else 0x180_0000
def imageMax (k : Nat) : Nat := if k = 0 then 131072 else if k = 1 then 0x1BC_0000 else if k = 2 then 0x17C_0000 else 240 * 1048576

/-- Where an item's image stands. -/
def State.itemPlace (s : State) (k sl : Nat) : Place :=
  let i := s.item k sl
  if k < 3 then ⟨Sp.boot, slotBase k sl, i.skips⟩ else ⟨Sp.gold, 65536 * i.extent, i.skips⟩

/-! Firmware images (R402, R404). -/

/-- A minimum as it stands for a check. -/
def State.minOf (s : State) (k : Nat) : Nat := s.rd (KPR_SVNMIN.min k)

/-- Memory an image is loaded into: keeper SRAM or management SRAM (R36), by size. -/
def fwRoom (k : Nat) : Nat := if k = 0 then 524288 else 256 * 1048576

/-- Checks 1 to 6 of R404 on a firmware image of kind 0 or 1; 0 where they pass. -/
def State.fwHead (s : State) (k : Nat) (w : Place) : Nat :=
  let len := s.num w 16 4
  let load := s.num w 40 8
  let entry := s.num w 48 8
  if s.at' w 0 8 ≠ ascii (if k = 0 then "OR8KEEPR" else "OR8SERVC") || s.num w 8 2 ≠ 1 || s.num w 12 4 ≠ 512 then 1
  else if (if k = 0 then 131072 else 64 * 1048576) < len || len < 512 + 2820 || fwRoom k < load + (len - 3332) || fwRoom k ≤ entry then 2
  else if s.glbId &&& s.num w 32 4 ≠ s.num w 28 4 &&& s.num w 32 4 then 3
  else if !bit (s.num w 36 1) s.lifecycle then 4
  else if (s.keyFor k (s.at' w 56 16)).isNone then 5
  else if s.num w 24 4 < s.minOf k then 6
  else 0

/-- Checks 7 and 8 of R404. -/
def State.fwBody (s : State) (k : Nat) (w : Place) : Nat :=
  let len := s.num w 16 4
  if s.at' w 72 32 ≠ digest (s.at' w 512 (len - 3332)) then 7
  else match s.keyFor k (s.at' w 56 16) with
    | some key => if s.signedBy key (s.at' w 0 512) (s.at' w (len - 2820) 2820) then 0 else 8
    | none => 8

/-- The first failing code of R404. -/
def State.fwCheck (s : State) (k : Nat) (w : Place) : Nat := if s.fwHead k w ≠ 0 then s.fwHead k w else s.fwBody k w

/-- An image's measurement (R427, R402, R430). -/
def State.measure (s : State) (w : Place) : List Nat := digest (s.at' w 0 512)

/-! Custody manifests and golden images (R385, R430, R431). -/

/-- A region of a manifest: offset, length and digest. -/
structure Region where
  ofs : Nat
  len : Nat
  dig : List Nat
  deriving DecidableEq, Repr

/-- A custody manifest. -/
structure Manifest where
  version : Nat
  regions : List Region
  dig : List Nat
  deriving DecidableEq, Repr

/-- Two byte ranges overlap. -/
def overlap (a n b m : Nat) : Bool := decide (a < b + m) && decide (b < a + n)

/-- No two ranges of a list overlap. -/
def apart : List (Nat × Nat) → Bool
  | [] => true
  | x :: xs => xs.all (fun y => !overlap x.1 x.2 y.1 y.2) && apart xs

/-- The manifest at an offset of an image, where it keeps every rule of R385; `self` is the 4 KiB unit it occupies itself. -/
def State.manifest? (s : State) (w : Place) (o : Nat) (self : Option Nat) : Option Manifest :=
  let n := s.num w (o + 16) 2
  let rs : List Region := (List.range n).map (fun r => ⟨s.num w (o + 64 + 48 * r) 8, s.num w (o + 72 + 48 * r) 8, s.at' w (o + 80 + 48 * r) 32⟩)
  let spans := rs.map (fun r => (r.ofs, r.len)) ++ (match self with | some u => [(u, 4096)] | none => [])
  if s.at' w o 8 = ascii "OR8ACMAN" && s.num w (o + 8) 2 = 1 && (s.at' w (o + 18) 46).all (· == 0) && 1 ≤ n && n ≤ 64 && rs.all (fun r => r.ofs % 4096 == 0) && apart spans
  then some ⟨s.num w (o + 12) 4, rs, digest (s.at' w o (64 + 48 * n))⟩ else none

/-- Offset of region r's data in a golden image. -/
def goldData (dataOfs : Nat) (rs : List Region) (r : Nat) : Nat := dataOfs + (rs.take r).foldl (fun a x => a + ceilDiv x.len 4096 * 4096) 0

/-- The check of a golden copy (R431, with the codes of R404), 0 where it passes. -/
def State.goldCheck (s : State) (w : Place) (maxLen : Nat) : Nat :=
  let len := s.num w 16 4
  if s.at' w 0 8 ≠ ascii "OR8GOLDN" || s.num w 8 2 ≠ 1 || s.num w 12 4 ≠ 512 then 1
  else if maxLen < len || len < 512 + 2820 then 2
  else match s.keyFor 3 (s.at' w 32 16) with
    | none => 5
    | some key =>
      if s.num w 24 4 < s.minOf 3 then 6
      else if !s.signedBy key (s.at' w 0 512) (s.at' w (len - 2820) 2820) then 8
      else match s.manifest? w (s.num w 48 4) none with
        | none => 7
        | some m =>
          if s.at' w 56 32 ≠ m.dig then 7
          else if (m.regions.zipIdx).all (fun x => digest (s.at' w (goldData (s.num w 52 4) m.regions x.2) x.1.len) == x.1.dig) then 0 else 7

/-- The copy of an entry that custody reads (R431, R432): valid, ACTIVE before RETIRED, by counter descending. -/
def State.goldCopy? (s : State) (e : Nat) : Option Nat :=
  let fit (st : Nat) : List Nat := [0, 1].filter (fun c => s.on (IMG_GDESC.valid e c) && s.rd (IMG_GDESC.state e c) == st && !s.on (IMG_GDESC.rejected e c))
  let order (l : List Nat) : List Nat := if l = [0, 1] && s.rd (IMG_GCOUNT.counter e 0) < s.rd (IMG_GCOUNT.counter e 1) then [1, 0] else l
  (order (fit ImgS.active) ++ order (fit ImgS.retired)).head?

/-- A golden entry is valid for custody (R431). -/
def State.goldValid (s : State) (e : Nat) : Bool :=
  decide (e < 16) && s.on V.goldDone && [0, 1].any (fun c => s.on (IMG_GDESC.valid e c) && s.rd (IMG_GDESC.state e c) == ImgS.active)

/-- Where the golden image of an entry stands. -/
def State.goldPlace (s : State) (e : Nat) : Place := s.itemPlace 3 (2 * e + (s.goldCopy? e).getD 0)

end Sys2Proof.Machine
end

