-- ==== Sys2Proof/Machine/Open.lean ====
section
/-! DEFINITION. Divisions whose rounding the spec does not state: exact where they are exact, and otherwise the floor or the
ceiling, by a constant without a body. -/

namespace Sys2Proof.Machine

/-- a ÷ b with unstated rounding; 0 where b is 0. -/
def divOpen (a b : Nat) : Nat :=
  if b = 0 then 0 else if a % b = 0 then a / b else a / b + ofBool (Config.roundUp a b)

/-- Signed a ÷ b with unstated rounding; 0 where b is 0. -/
def divOpenI (a : Int) (b : Nat) : Int :=
  if b = 0 then 0 else if a % b = 0 then a / b else a / b + ofBool (Config.roundUp a.natAbs b)

/-- What a converter of 12 bits over 0 to `span` shows for a code (R300, R326): a code's worth is a 4,096th of the span, and the rounding of the
value shown is unstated (DEDUCED, log 206). -/
def convSpan (span code : Nat) : Nat := divOpen (code * span) 4096

end Sys2Proof.Machine
end

