-- ==== Sys2Proof/Machine/Phase.lean ====
section
/-! DEFINITION. Phase channels and rail regulation (chapter 3): channels and the bench, the voltage loop, soft start, trips and
the per-tick laws of the tiles. -/

namespace Sys2Proof.Machine

/-- Tile that runs a regulated rail's loop, and the rail's local index there (R79, R81). -/
def railTile (r : Nat) : Nat := if r < 8 then r / 2 else if r < 16 then (r - 8) / 2 else if r = 16 then 0 else 2
def railLocal (r : Nat) : Nat := if r < 8 then r % 2 else if r < 16 then 2 + r % 2 else 4

/-- Rail states of PHT_RSTAT. -/
def RailS.off : Nat := 0
def RailS.softstart : Nat := 1
def RailS.regulating : Nat := 2
def RailS.discharge : Nat := 3
def RailS.tripped : Nat := 4

/-- Channel roles and states (R124). -/
def Role.unused : Nat := 0
def Role.working : Nat := 1
def Role.bench : Nat := 2
def Role.failed : Nat := 3
def ChS.off : Nat := 0
def ChS.standby : Nat := 1
def ChS.waking : Nat := 2
def ChS.parked : Nat := 3
def ChS.active : Nat := 4
def ChS.failed : Nat := 5

/-- Fields of a rail and of a channel, by rail number and by channel id (tile * 80 + channel). -/
def rState (r : Nat) : Fld := PHT_RSTAT.state (railTile r) (railLocal r)
def rNact (r : Nat) : Fld := PHT_RSTAT.nact (railTile r) (railLocal r)
def rNwork (r : Nat) : Fld := PHT_RAILCFG.nwork (railTile r) (railLocal r)
def rNbench (r : Nat) : Fld := PHT_RSTAT.nbench (railTile r) (railLocal r)
def chRole (c : Nat) : Fld := PHT_CHCFG.role (c / 80) (c % 80)
def chRail (c : Nat) : Fld := PHT_CHCFG.rail (c / 80) (c % 80)
def chState (c : Nat) : Fld := PHT_CHSTAT.state (c / 80) (c % 80)
def chCmd (c : Nat) : Fld := PHT_CHSTAT.cmd (c / 80) (c % 80)

/-- The regulated rail a channel belongs to (R78, R79): the local rail of its role on its own tile. -/
def State.railOf (s : State) (c : Nat) : Nat := phtRailNumber (c / 80) (s.rd (chRail c))

/-- The slot a regulated rail serves; the tray rails serve none (R79). -/
def railSlot? (r : Nat) : Option Nat := if r < 8 then some r else if r < 16 then some (r - 8) else none

/-- Channels that belong to a rail with a role, ascending; the lead tile's before the partner tile's (R90). -/
def State.railChannels (s : State) (r role : Nat) : List Nat :=
  (List.range 320).filter (fun c => s.rd (chRole c) == role && decide (s.rd (chRail c) < 5) && s.railOf c == r)

/-- Working channels of a rail in rotation order (R90). -/
def State.rotation (s : State) (r : Nat) : List Nat :=
  (s.railChannels r Role.working).mergeSort (fun a b => decide (s.rd (V.place a) < s.rd (V.place b)) || (s.rd (V.place a) == s.rd (V.place b) && decide (a ≤ b)))

/-- The rail's loop runs: SOFTSTART, REGULATING or DISCHARGE. -/
def State.loopRuns (s : State) (r : Nat) : Bool := [RailS.softstart, RailS.regulating, RailS.discharge].contains (s.rd (rState r))

/-- The active channels of a rail, in rotation order (R90, R91). -/
def State.activeSet (s : State) (r : Nat) : List Nat := (s.rotation r).filter (fun c => s.rd (chState c) == ChS.active)

/-- The active set from the next period boundary (R90, R91): all working channels, or the first N_act counted from the rotation pointer. -/
def State.nextSet (s : State) (r : Nat) : List Nat :=
  let w := s.rotation r
  let n := s.rd (rNact r)
  if w.length ≤ n then w
  else
    let p := s.rd (V.rotPtr r) % w.length
    (w.drop p ++ w.take p).take n

/-- Working channels count, healthy bench count and the empty-bench flag of a rail, as its registers show them. -/
def recount (r : Nat) (s : State) : List Upd :=
  let nb := (s.railChannels r Role.bench).length
  [.set (rNwork r) (s.railChannels r Role.working).length, .set (rNbench r) nb]

/-- Phase offsets of the active set (R90) and the states of working channels; effective at a period boundary. A channel that joins with a ramp
begins it here (R109). -/
def respread (r : Nat) (s : State) : List Upd :=
  let act := s.nextSet r
  let n := act.length
  (act.zipIdx.flatMap (fun x => [.set (PHT_CHCFG.offset (x.1 / 80) (x.1 % 80)) (x.2 * 1024 / n), .set (chState x.1) ChS.active] ++
    onlyIf (s.on (V.rampIn x.1)) [.set (V.rampIn x.1) 0, .set (V.joinAt x.1) (s.now + 1)])) ++
  ((s.rotation r).filter (fun c => !act.contains c)).flatMap (fun c => [.set (chState c) ChS.parked, .set (chCmd c) 0, .set (V.monLow c) 0]) ++
  [.set (V.spreadDue r) 0]

/-- src words of a channel, a rail and a tile (R121). -/
def chSrc (c : Nat) : Nat := srcOf 0x2 (c / 80 * 128 + c % 80)
def railSrc (r : Nat) : Nat := srcOf 0x2 (railTile r * 128 + 112 + railLocal r)
def tileSrc (k : Nat) : Nat := srcOf 0x2 (k * 128 + 127)

/-- What the protections of a regulating rail have seen is forgotten outside REGULATING (R115). -/
def protClear (r : Nat) : List Upd :=
  [.set (V.ovSince r) 0, .set (V.uvSince r) 0, .set (V.vmaxSince r) 0, .set (V.ovClamp r) 0]

/-- TIPOFF (R291). -/
def tipRec (j code slots barrier t : Nat) : Upd := note Ty.TIPOFF (srcOf 0x7 0xFFF) [(24, 1, j), (25, 1, code), (26, 1, slots), (28, 4, barrier), (32, 8, t)]

/-- Tip-offs of a slot still ahead are cancelled (code 2), or reported unsettled (code 3), each with its TIPOFF record (R157, R286). -/
def cancelTips (n code : Nat) (s : State) : List Upd :=
  let l := tableGet {} s.links n
  let due := l.tips.filter (fun x => decide (s.now < x.x))
  if due.isEmpty then []
  else due.map (fun x => tipRec x.job code 1 x.barrier x.t) ++ onlyIf (code == 2) [.link n { l with tips := l.tips.filter (fun x => !decide (s.now < x.x)) }]

/-- A rail enters a state (R121); V_sense below 0 is recorded as 0 (DESIGN CHOICE, log 198). Its tile shows `lead` while it runs the rail's loop
(R123, DEDUCED, log 184). A slot's core rail that leaves REGULATING cancels its tip-offs (R286). -/
def railTo (r st : Nat) (s : State) : List Upd :=
  onlyIf (s.rd (rState r) != st)
    [note Ty.RAIL_STATE (railSrc r) [(24, 1, r), (25, 1, s.rd (rState r)), (26, 1, st), (28, 2, s.rd (V.vsense r))], .set (rState r) st,
     setB (PHT_RAILCFG.lead (railTile r) (railLocal r)) (st == RailS.softstart || st == RailS.regulating || st == RailS.discharge),
     .set (V.climitRun r) 0] ++ protClear r ++
  onlyIf (decide (r < 8) && s.rd (rState r) == RailS.regulating && st != RailS.regulating) (cancelTips r 2 s)

/-- acc carried across a change of the active count (R100): the total command stays continuous. The proportional and
derivative terms follow at the next sample. -/
def rescale (r old new : Nat) (s : State) : List Upd :=
  onlyIf (old != new && new != 0)
    ([.set (V.acc r) (ofSigned 32 (satSigned 32 (divOpenI (s.rdI (V.acc r) * old) new))), .set (V.scaleNew r) new] ++
     onlyIf (s.rd (V.scaleNew r) == 0) [.set (V.scaleOld r) old])

/-- Every channel of a rail tri-stated with its enable deasserted (R113, R114). -/
def parkAll (r st : Nat) (s : State) : List Upd :=
  (s.railChannels r Role.working ++ s.railChannels r Role.bench).flatMap
    (fun c => [.set (chState c) st, .set (chCmd c) 0, .set (V.joinAt c) 0, .set (V.repFor c) 0, .set (V.enAt c) 0, .set (V.zeroing c) 0, .set (V.monLow c) 0,
      .set (V.rampIn c) 0])

/-- The BRAKE record of a rail's slot (R159), stamped with the comparator's edge (R43), with the duration of the last assertion that has ended. -/
def brakeRec (r on ns t : Nat) (s : State) : Upd :=
  .emit { typ := Ty.BRAKE, src := srcOf 0x3 (2 * (r % 8) + s.rd (SWJ_STAT.lane (r % 8))), stamp := some t, pay := [(24, 1, on), (28, 4, ns)] }

/-- The brake flag of a rail falls at `t` (R116): the record gives how long it stood (R159). A tray-time unit is 250 ps. -/
def brakeDown (r t : Nat) (s : State) : List Upd :=
  let flag := PHT_RSTAT.brake (railTile r) (railLocal r)
  let ns := (t - s.rd (V.brakeAt r)) / 4
  onlyIf (s.on flag) [.set flag 0, .set (V.brakeLast r) ns, brakeRec r 0 ns t s]

/-- A trip of the tile (R113, R115): channels off, TRIPPED, recorded and reported; replacements under way are abandoned. V_sense below 0 is recorded
as 0 (DESIGN CHOICE, log 198). -/
def tripRail (r cause first : Nat) (s : State) : List Upd :=
  let k := railTile r
  let j := railLocal r
  parkAll r ChS.standby s ++
  [note Ty.PROTECT_TRIP (railSrc r) [(24, 1, r), (25, 1, cause), (26, 2, s.rd (V.vsense r)), (28, 4, s.rd (PHT_RI.i k j)), (32, 8, first)]] ++
  railTo r RailS.tripped s ++ brakeDown r s.now s ++
  [.set (PHT_RSTAT.cause k j) cause, .set (rNact r) 0, .set (PHT_EVT.trip k) 1, .set (V.tileGood r) 0, .set (V.tileTrip r) 1,
   .set (V.foldSince r) 0, .set (V.nactNext r) 0, .set (V.fastAdd r) 0, .set (V.rampOn r) 0]

/-- A field of RESERVE item c of the committed image (R246); 0 without the section. -/
def State.reserve (s : State) (c o n : Nat) : Nat :=
  if s.committed && decide (c < s.itemCount s.liveImg Sec.reserve) then s.leMem (s.itemAt s.liveImg Sec.reserve 8 c + o) n else 0

/-- The reserve policy in force for a slot releases the bench of its core rail (1) or of both its rails (2) (R109, R246, R282). -/
def State.benchSetting (s : State) (n : Nat) : Nat := s.reserve (s.rd (V.slotClass n)) 1 1

/-- The bench of a rail is released. -/
def State.released (s : State) (r : Nat) : Bool :=
  if r < 8 then decide (1 ≤ s.benchSetting r) else if r < 16 then decide (2 ≤ s.benchSetting (r - 8)) else false

/-- The lowest-indexed healthy bench channel of a rail that is not already being brought in (R106). -/
def State.freeBench (s : State) (r : Nat) : Option Nat :=
  (s.railChannels r Role.bench).find? (fun c => s.rd (V.repFor c) == 0 && s.rd (chState c) != ChS.waking)

/-- The tile's PROTECT current ceiling (R108): N_work times 75 A while the bench is empty after a failure, none when it again
holds a healthy channel; a core rail's is the slot's CURR_CEIL (R182). -/
def phaseCeiling (r : Nat) (s : State) : State :=
  let k := railTile r
  let j := railLocal r
  let empty := s.on (PHT_RSTAT.bench_empty k j)
  let amps := s.rd (rNwork r) * 75 * 64
  if empty && (s.freeBench r).isNone then
    let t := s.run [.set (PHT_RCEIL.i k j) amps]
    if r < 8 then protectHold ⟨.phaseLimit r, Blk.cap, Tgt.currCeil, r, amps⟩ t else t
  else if empty then
    let t := s.run [.set (PHT_RSTAT.bench_empty k j) 0, .set (PHT_RCEIL.i k j) 0xFFFF_FFFF]
    if r < 8 then protectDrop (.phaseLimit r) Blk.cap Tgt.currCeil r t else t
  else s

/-- A channel's stage is enabled and, once ready, is to measure its zero (R93, R106, R111). -/
def wakeChannel (c : Nat) (s : State) : List Upd :=
  [.set (V.enAt c) (s.now + 1), .set (V.zeroing c) 1, .set (V.zeroN c) 0, .set (V.zeroSum c) 0, .set (V.zeroDone c) 0]

/-- Of the channels that failed in one period, the lower takes the lower bench channel (R108). -/
def pairUp (r : Nat) (s : State) : List Upd :=
  let bs := (s.railChannels r Role.bench).filter (fun b => s.rd (chState b) == ChS.waking && s.rd (V.repFor b) != 0 &&
    decide (s.rd (V.perAt (railTile r)) ≤ s.rd (V.repT0 b) + 1))
  (bs.zip ((bs.map (fun b => s.rd (V.repFor b))).mergeSort (fun a b => decide (a ≤ b)))).map (fun x => .set (V.repFor x.1) x.2)

/-- The replacement of a failed channel starts, or the bench is empty (R106, R108). -/
def benchWake (r failed t0 : Nat) (s : State) : State :=
  match s.freeBench r with
  | some b => (s.run ([.set (chState b) ChS.waking, .set (V.repFor b) (failed + 1), .set (V.repT0 b) t0] ++ wakeChannel b s)).does (pairUp r)
  | none =>
    phaseCeiling r (s.run [.set (PHT_RSTAT.bench_empty (railTile r) (railLocal r)) 1, .set (PHT_EVT.bench_empty (railTile r)) 1])

/-- PHT_FAILMAP of a tile. -/
def failMaps (k : Nat) (s : State) : List Upd :=
  (List.range 3).map (fun m => .set (PHT_FAILMAP.map k m)
    (maskOf 32 (fun i => decide (32 * m + i < 80) && s.rd (PHT_CHCFG.role k (32 * m + i)) == Role.failed)))

/-- A channel test fires (R103, R105, R108): the channel is tri-stated, marked failed and taken out of N_work, the loop
rescaled, the offsets re-spread at the next period boundary (R90), and a bench channel woken in its place. -/
def failChannel (c cause imon rise expected : Nat) (s : State) : State :=
  let r := s.railOf c
  let k := c / 80
  let wasWorking := s.rd (chRole c) == Role.working
  let wasActive := s.rd (chState c) == ChS.active
  let replacing := s.rd (V.repFor c)
  let nAct := s.rd (rNact r)
  let t := s.run ([.set (chRole c) Role.failed, .set (chState c) ChS.failed, .set (chCmd c) 0, .set (V.joinAt c) 0, .set (V.repFor c) 0, .set (V.enAt c) 0,
    .set (V.zeroing c) 0, .set (V.imonOut c) 0, .set (V.monLow c) 0, .set (V.spreadDue r) 1, bumpSat s (PHT_CHSTAT.fails k (c % 80)) 1, .set (PHT_CHSTAT.cause k (c % 80)) cause, .set (PHT_EVT.fail k) 1, .set (V.faultEvt r) 1] ++
    (if wasActive then rescale r nAct (nAct - 1) s ++ [.set (rNact r) (nAct - 1)] else []))
  let u := (t.does (recount r)).does (failMaps k)
  let w := u.run [note Ty.PHASE_FAULT (chSrc c) [(24, 1, c % 80), (25, 1, cause), (26, 2, imon), (28, 2, rise), (30, 2, expected), (32, 1, r), (33, 1, u.rd (rNwork r))]]
  let on := w.rd (rState r) == RailS.regulating || w.rd (rState r) == RailS.softstart
  let x := if on && (wasWorking || replacing != 0) then benchWake r (if wasWorking then c else replacing - 1) w.now w else w
  let y := phaseCeiling r x
  if wasWorking && on && decide (y.rd (rNwork r) < y.rd (PHT_RAILCFG.nfloor (railTile r) (railLocal r))) then y.does (tripRail r 6 y.now) else y

/-- The active sense pair of a rail: tile and pair (R83, R96). -/
def State.sensePair? (s : State) (r : Nat) (alt : Bool) : Option (Nat × Nat) :=
  let tiles := if r < 16 then [railTile r] else [railTile r, railTile r + 1]
  (tiles.flatMap (fun k => (List.range 6).map (fun p => (k, p)))).find? (fun x =>
    s.rd (PHT_VSCFG.role x.1 x.2) == (if alt then 2 else 1) && s.rd (PHT_VSCFG.rail x.1 x.2) == railLocal r)

/-- A tile's cycle-monitor flag: the last monitored on-time of one of its channels had too small a rise (R92, R103; DEDUCED, log 203). -/
def State.monitorFlag (s : State) (k : Nat) : Bool := (List.range 80).any (fun c => s.rd (V.monLow (80 * k + c)) != 0)

/-- The pair in use. -/
def State.activePair? (s : State) (r : Nat) : Option (Nat × Nat) := s.sensePair? r (s.on (PHT_RSTAT.alt (railTile r) (railLocal r)))

/-- The sequenced rail that a regulated rail is (R244, R298). -/
def State.seqRailOf? (s : State) (r : Nat) : Option Nat :=
  (List.range 128).find? (fun q => s.railPresent q && bit (s.rd (SEQ_RAILMODE.flags q)) 1 && s.rd (SEQ_RAILMODE.reg_rail q) == r)

/-- A channel's current from an IMON sample, in 1/64 A (R93); the rounding is unstated. -/
def State.chCurrent (s : State) (c imon : Nat) : Int :=
  divOpenI (((imon : Int) - s.rd (PHT_CHIMON.zero (c / 80) (c % 80))) * 640) (s.rd (PHT_CHIMON.gain (c / 80) (c % 80)))

/-- IMON lies in its valid window (R94), in 0.1 mV. -/
def imonValid (v : Nat) : Bool := decide (3000 ≤ v) && decide (v ≤ 16500)

/-- A sample of a channel that measures its zero (R93): eight from the time its stage is ready, 10 µs after its enable (R106; DEDUCED, log
185). The mean's rounding is unstated. -/
def zeroSample (c v : Nat) (s : State) : List Upd :=
  let n := s.rd (V.zeroN c) + 1
  onlyIf (s.on (V.zeroing c) && s.rd (V.enAt c) != 0 && decide (s.rd (V.enAt c) + 40000 ≤ s.now + 1))
    ([.set (V.zeroN c) n, .set (V.zeroSum c) (s.rd (V.zeroSum c) + v)] ++
     onlyIf (n == 8) [.set (PHT_CHIMON.zero (c / 80) (c % 80)) (divOpen (s.rd (V.zeroSum c) + v) 8), .set (V.zeroing c) 0, .set (V.zeroDone c) (s.now + 1)])

/-- An IMON sample arrives (R93, R103): the channel's latest current, the sum of the tick, and what the tests watch. -/
def imonSample (x : Nat × Nat) (s : State) : List Upd :=
  onlyIf (decide (x.1 < 320))
    ([.set (V.imon x.1) x.2, .set (V.imonS x.1 (s.rd (V.chiCnt x.1) % 4)) x.2, setISat (V.chNow x.1) (s.chCurrent x.1 x.2),
      setISat (V.chiSum x.1) (s.rdI (V.chiSum x.1) + s.chCurrent x.1 x.2), .set (V.chiCnt x.1) (s.rd (V.chiCnt x.1) + 1),
      .set (V.imonOut x.1) (if imonValid x.2 then 0 else min 2 (s.rd (V.imonOut x.1) + 1))] ++ zeroSample x.1 x.2 s)

/-- A VSEN sample of pair p of tile a, in 0.1 mV (R95). The register has no form for a reading below 0: it then holds a FREE VALUE (log 186). -/
def pairSample (a p : Nat) (v : Int) (s : State) : List Upd :=
  let n := s.rd (V.pairCnt (6 * a + p))
  [.set (PHT_VSV.v a p) (if v < 0 then s.free % 65536 else v.toNat), .set (V.vsenS (6 * a + p) (n % 16)) (ofSigned 16 v), .set (V.pairCnt (6 * a + p)) (n + 1)] ++
  onlyIf (decide (v < 0)) [freeUsed s]

/-- V_out: the rail's latest VSEN sample, in 0.1 mV (R86). -/
def State.vOut (s : State) (r : Nat) : Int := (s.rd (V.vsense r) : Int) - s.rd (V.senseBelow r)

/-- The sum of the rail's latest channel currents, in 1/64 A (R97): those of its working channels, parked ones too (DESIGN CHOICE, log 199). -/
def State.railNow (s : State) (r : Nat) : Int := (s.railChannels r Role.working).foldl (fun a c => a + s.rdI (V.chNow c)) 0

/-- The base set-point of a rail in 0.1 mV (R97): the fabric's output where one is bound, else PHT_VSET.vset. -/
def State.basePoint (s : State) (r : Nat) : Nat :=
  if s.on (V.outBaseBound r) then s.rd (V.outBase r) else s.rd (PHT_VSET.vset (railTile r) (railLocal r))

/-- V_base after one VSEN sample, in 1/16 of 0.1 mV: a rate in 0.1 mV per µs moves it by that many sixteenths. -/
def approach (x goal rate : Nat) : Nat := if x < goal then min goal (x + rate) else max goal (x - rate)

/-- V_base of the next sample in each state (R97, R111, R114). -/
def State.nextBase (s : State) (r : Nat) : Nat :=
  let k := railTile r
  let j := railLocal r
  let x := s.rd (V.vbase r)
  if s.rd (rState r) = RailS.discharge then approach x 0 (s.rd (PHT_SS.rate k j))
  else if s.rd (rState r) = RailS.softstart then approach x (16 * s.basePoint r) (s.rd (PHT_SS.rate k j))
  else approach x (16 * s.basePoint r) (s.rd (PHT_VSET.slew k j))

/-- V_t of R97, R111 and R114, in 0.1 mV. -/
def State.target (s : State) (r base16 : Nat) : Nat :=
  let k := railTile r
  let j := railLocal r
  let vmax := s.rd (PHT_VLIM.vmax k j)
  if s.rd (rState r) = RailS.regulating then
    let drop := divOpenI (s.rd (PHT_LL.slope k j) * s.railNow r) 6400
    (clampInt (s.rd (PHT_VLIM.vmin k j)) vmax ((base16 / 16 : Nat) + (s.rd (V.outGuard r) : Int) - drop)).toNat
  else min (base16 / 16) vmax

/-- The weight of a channel in sixteen-millionths of its ramp: 24,000 ticks from joining to full weight (R106, R109). -/
def State.weight (s : State) (c t : Nat) : Nat :=
  let j := s.rd (V.joinAt c)
  if j = 0 then 24000 else min 24000 (t + 1 - j)

/-- round(u × w) with ties away from zero (R98), u in 1/65,536 codes and w in 1/24,000. -/
def loopCode (u : Int) (w : Nat) : Int := roundDiv (u * w) (65536 * 24000)

/-- The fold-back limit as a code (R112); its rounding is unstated. -/
def State.foldCode (s : State) (r v : Nat) : Nat :=
  let k := railTile r
  let j := railLocal r
  divOpen (s.rd (PHT_FOLD.pfold k j) * 102400) (s.rd (rNact r) * max v (s.rd (PHT_FOLD.vfloor k j) * 100))

/-- Products formed at 48 bits (R98). -/
def sat48 (i : Int) : Int := satSigned 48 i

/-- Every stage of a starting rail is ready and has measured its zero (R111). -/
def State.zeroed (s : State) (r : Nat) : Bool := (s.railChannels r Role.working ++ s.railChannels r Role.bench).all (fun c => !s.on (V.zeroing c))

/-- A VSEN sample of a starting rail (R111, R118): V_pre follows V_sense until every stage is ready, then the ramp begins; it ends at the sample
at which V_base reaches the set-point. The channels are tri-stated until the ramp begins, and become active at the next period boundary. -/
def rampSample (r : Nat) (v : Int) (s : State) : List Upd :=
  if !s.on (V.rampOn r) then
    [.set (V.vpre r) v.toNat, .set (V.vbase r) (16 * v.toNat)] ++ onlyIf (s.zeroed r) [.set (V.rampOn r) 1, .set (V.ssSince r) (s.now + 1), .set (V.spreadDue r) 1]
  else onlyIf (s.rd (V.rampDone r) == 0 && s.nextBase r == 16 * s.basePoint r) [.set (V.rampDone r) 1, .set (V.rampV r) v.toNat]

/-- The voltage loop at one VSEN sample v of a rail (R96-R100, R112, R115). At a sample that is clamped the command takes in that sample's integral
step, though acc then does not change (R99; DESIGN CHOICE, log 200). -/
def loopSample (r : Nat) (v : Int) (s : State) : List Upd :=
  let k := railTile r
  let j := railLocal r
  let st := s.rd (rState r)
  let t := s.now
  let base := s.nextBase r
  let vt := s.target r base
  let e : Int := (vt : Int) - v
  let acc' := satSigned 32 (s.rdI (V.acc r) + sat48 (s.rd (PHT_LOOPA.ki k j) * e))
  let pd := sat48 (s.rd (PHT_LOOPA.kp k j) * e) * 256 + sat48 (s.rd (PHT_LOOPB.kd k j) * (e - s.rdI (V.ePrev r))) * 256
  let scaled := if s.rd (V.scaleNew r) = 0 then pd else divOpenI (pd * s.rd (V.scaleOld r)) (s.rd (V.scaleNew r))
  let u := scaled + acc'
  let cmdMax := s.rd (PHT_RAILLIM.cmd_max k j)
  let lim := if st = RailS.softstart then min cmdMax (s.foldCode r v.toNat) else cmdMax
  let act := s.activeSet r
  let raw (c : Nat) : Int := loopCode u (s.weight c t) + s.rdI (PHT_CHTRIM.trim (c / 80) (c % 80))
  let clamped := act.any (fun c => decide ((cmdMax : Int) < raw c))
  let folded := st == RailS.softstart && act.any (fun c => decide ((lim : Int) < raw c)) && decide (lim < cmdMax)
  let ov := 20 * s.rd (PHT_PROT.ov k j)
  let high := decide (((vt + ov : Nat) : Int) < v)
  let atTop := decide (((s.rd (PHT_VLIM.vmax k j) + ov : Nat) : Int) < v)
  let under := decide (v + (20 * s.rd (PHT_PROT.uv_fault k j) : Nat) < (vt : Int))
  let run : List Upd :=
    if (st = RailS.softstart && s.on (V.rampOn r)) || st = RailS.regulating || st = RailS.discharge then
      (act.map (fun c => .set (chCmd c) (clampInt 0 lim (raw c)).toNat)) ++
      [.set (V.vbase r) base, .set (V.scaleNew r) 0, .set (V.uMax r) (max (s.rd (V.uMax r)) e.toNat), setI (V.acc r) (if clamped then s.rdI (V.acc r) else acc'), setI (V.ePrev r) e, .set (V.vt r) vt,
       .set (V.climitRun r) (if clamped then min 1000 (s.rd (V.climitRun r) + 1) else 0)] ++
      onlyIf clamped [.set (V.climitTick r) 1] ++
      [.set (V.foldSince r) (if folded then (if s.rd (V.foldSince r) = 0 then t + 1 else s.rd (V.foldSince r)) else 0)]
    else []
  let prot : List Upd :=
    if st = RailS.regulating then
      [.set (V.ovSince r) (if high then (if s.rd (V.ovSince r) = 0 then t + 1 else s.rd (V.ovSince r)) else 0),
       .set (V.vmaxSince r) (if atTop then (if s.rd (V.vmaxSince r) = 0 then t + 1 else s.rd (V.vmaxSince r)) else 0),
       .set (V.uvSince r) (if under then (if s.rd (V.uvSince r) = 0 then t + 1 else s.rd (V.uvSince r)) else 0),
       setB (V.ovClamp r) (high || (s.on (V.ovClamp r) && decide (((vt + ov / 2 : Nat) : Int) < v)))]
    else protClear r
  let vmonOff := match s.seqRailOf? r with
    | some q => decide (500 < (v - s.rd (SEQ_RSTAT.vmon q)).natAbs)
    | none => false
  let bad := vmonOff || decide (v < 0) || atTop
  [.set (V.vsense r) v.toNat, .set (V.senseBelow r) (-v).toNat, setI (V.vsum r) (s.rdI (V.vsum r) + v), .set (V.vcnt r) (s.rd (V.vcnt r) + 1),
   .set (V.senseBad r) (if bad then (if s.rd (V.senseBad r) = 0 then t + 1 else s.rd (V.senseBad r)) else 0)] ++
  (match s.activePair? r with | some (a, p) => pairSample a p v s | none => []) ++ onlyIf (st == RailS.softstart) (rampSample r v s) ++ run ++ prot

/-- The sense path of a rail is failed (R96): out of range now, or different from VMON for 20 µs. -/
def State.senseFailed (s : State) (r : Nat) : Bool :=
  let b := s.rd (V.senseBad r)
  b != 0 && (decide (b + 80000 ≤ s.now + 1) || s.rd (V.senseBelow r) != 0 ||
    decide (s.rd (PHT_VLIM.vmax (railTile r) (railLocal r)) + 20 * s.rd (PHT_PROT.ov (railTile r) (railLocal r)) < s.rd (V.vsense r)))

/-- The trip cause that a regulating rail's conditions give (R115), 0 for none, with the tray time at which they began. -/
def State.tripCause (s : State) (r : Nat) : Nat × Nat :=
  let k := railTile r
  let j := railLocal r
  if s.rd (rState r) ≠ RailS.regulating then (0, 0)
  else if s.rd (V.ovSince r) ≠ 0 && s.rd (V.ovSince r) + 40000 < s.now + 1 then (3, s.rd (V.ovSince r) - 1)
  else if s.rd (V.vmaxSince r) ≠ 0 then (3, s.rd (V.vmaxSince r) - 1)
  else if s.rd (V.uvSince r) ≠ 0 && s.rd (V.uvSince r) + 80000 ≤ s.now + 1 then (4, s.rd (V.uvSince r) - 1)
  else if s.senseFailed r && (s.on (PHT_RSTAT.alt k j) || (s.sensePair? r true).isNone) then (5, s.rd (V.senseBad r) - 1)
  else (0, 0)

/-- A rail starts (R111): its stages are enabled; the ramp waits for them and for their zeros. A tray rail has no accelerator that could be held in
reset, so its capacitance is recorded as not measured (R118; DESIGN CHOICE, log 201). -/
def softStart (r : Nat) (s : State) : State :=
  let ch := s.railChannels r Role.working ++ s.railChannels r Role.bench
  let held := match railSlot? r with | some n => s.rd (ACU_SSTAT.rst n) == 1 | none => false
  let t := s.run (ch.flatMap (fun c => .set (chState c) ChS.parked :: .set (V.pulseN c) 0 :: wakeChannel c s) ++
    railTo r RailS.softstart s ++
    [.set (V.vpre r) (s.rd (V.vsense r)), .set (V.vbase r) (16 * s.rd (V.vsense r)), .set (V.acc r) 0, .set (V.ePrev r) 0,
     .set (V.ssSince r) 0, .set (V.rampOn r) 0, .set (V.rampDone r) 0, .set (V.pulseCh r) 0, .set (V.pulseAt r) 0, .set (V.rampQ r) 0, setB (V.rampHeld r) held, .set (V.tileGood r) 0, .set (V.foldSince r) 0,
     .set (V.surveyHold r) 0, .set (rNact r) (s.railChannels r Role.working).length])
  t.does (recount r)

/-- One survey pulse result of a channel (R117): pulse in ns and peak in 1/64 A, V_in and V_out in 0.1 mV, result in 0.1 nH. -/
def State.inductance (s : State) (c tp peak : Nat) : Nat :=
  divOpen ((s.rd (Sig.phVin (c / 80)) - s.rd (V.vsense (s.railOf c))) * tp * 64) (peak * 1000)

/-- The survey of a channel's inductance (R37, R111, R117): the first pulse of 100, 200, 400 and 800 ns that reaches 10 A. -/
def surveyChannel (c tp peak : Nat) (s : State) : List Upd :=
  let l := min 0xFFFF (s.inductance c tp peak)
  [.set (PHT_CHL.l (c / 80) (c % 80)) l, .set (V.surveyed c) 1, .set (V.measured c) 1, .emit (s.surveyRec (chSrc c) 3 (c / 80 * 128 + c % 80) l)]

/-- The survey's response to a channel's inductance (R38): retire it, or hold the rail off; the next soft start then surveys the channel again
(DESIGN CHOICE, log 194). The PHASE_FAULT of cause 4 has no pulse to show: its two rises are 0 (DESIGN CHOICE, log 198). -/
def surveyRespond (c : Nat) (s : State) : State :=
  let l := s.rd (PHT_CHL.l (c / 80) (c % 80))
  let resp := s.surveyResponse 3 (c / 80 * 128 + c % 80) l
  if resp = 1 then failChannel c 4 (s.rd (V.imon c)) 0 0 s
  else if resp = 2 then s.run [.set (V.surveyHold (s.railOf c)) 1, .set (V.surveyed c) 0] else s

/-- A rail's enable is deasserted (R114): DISCHARGE, or OFF at once from TRIPPED. -/
def railDisable (r : Nat) (s : State) : List Upd :=
  let st := s.rd (rState r)
  if st = RailS.tripped then parkAll r ChS.off s ++ railTo r RailS.off s ++ [.set (V.tileGood r) 0, .set (V.tileTrip r) 0]
  else if st = RailS.off then []
  else railTo r RailS.discharge s ++ brakeDown r s.now s ++ [.set (V.tileGood r) 0]

/-- A discharging rail is turned off (R114). -/
def dischargeEnd (r : Nat) (s : State) : List Upd :=
  parkAll r ChS.off s ++ railTo r RailS.off s ++ [.set (rNact r) 0, .set (V.vbase r) 0, .set (V.acc r) 0, .set (V.tileGood r) 0]

/-- The capacitance of a rail from its ramp, in µF (R118); 0 where the ramp brought no rise of the voltage, or negative charge (DESIGN CHOICE,
log 201). -/
def State.capacitance (s : State) (r : Nat) : Nat :=
  (divOpenI (s.rdI (V.rampQ r) * 10000) (64 * (s.rd (V.rampV r) - s.rd (V.vpre r)))).toNat

/-- PHT_CHI of every channel of the tiles, the mean of its samples of the tick (R93), and the samples of the next tick afresh. -/
def channelTick (s : State) : List Upd :=
  (List.range 320).flatMap (fun c =>
    [setISat (PHT_CHI.i (c / 80) (c % 80)) (divOpenI (s.rdI (V.chiSum c)) (s.rd (V.chiCnt c))), .set (V.chiSum c) 0, .set (V.chiCnt c) 0]) ++
  (List.range 24).map (fun p => .set (V.pairCnt p) 0)

/-- Per-rail power of the tick (R119), and the charge of a ramp (R118). A rail that sinks current has negative power, which PHT_RE loses. PHT_RV has
no form for a mean below 0: it then holds a FREE VALUE (log 186). -/
def powerTick (r : Nat) (s : State) : List Upd :=
  let k := railTile r
  let j := railLocal r
  let ch := s.railChannels r Role.working
  let i := ch.foldl (fun a c => a + (if s.rd (chState c) = ChS.active then s.rdI (PHT_CHI.i (c / 80) (c % 80)) else 0)) 0
  let v : Int := if s.rd (V.vcnt r) = 0 then s.rd (PHT_RV.v k j) else divOpenI (s.rdI (V.vsum r)) (s.rd (V.vcnt r))
  let p := (v * i + 320) / 640
  [.set (PHT_RV.v k j) (if v < 0 then s.free % 65536 else v.toNat), setISat (PHT_RI.i k j) i, setISat (PHT_RP.p k j) p, .set (PHT_RE.e k j) (ofSigned 64 (s.rd (PHT_RE.e k j) + p)),
   .set (V.vsum r) 0, .set (V.vcnt r) 0, setB (PHT_RSTAT.climit k j) (s.on (V.climitTick r)), .set (V.climitTick r) 0] ++
  onlyIf (decide (v < 0)) [freeUsed s] ++
  onlyIf (s.rd (rState r) == RailS.softstart && s.on (V.rampOn r) && decide (s.rd (V.rampDone r) < 2))
    ([setISat (V.rampQ r) (s.rdI (V.rampQ r) + i)] ++ onlyIf (s.rd (V.rampDone r) == 1) [.set (V.rampDone r) 2])

/-- N_act as last set, in force or due at the next period boundary (R101). -/
def State.nactSet (s : State) (r : Nat) : Nat := if s.rd (V.nactNext r) = 0 then s.rd (rNact r) else s.rd (V.nactNext r) - 1

/-- N_law of the phase add and drop law (R101), and the drop run that goes with it; the dwell begins anew after each drop (DESIGN CHOICE, log 202). -/
def State.phaseLaw (s : State) (r : Nat) : Nat × Nat :=
  let k := railTile r
  let j := railLocal r
  let i := (s.rdI (PHT_RI.i k j)).toNat
  let n := s.nactSet r
  let addT := 4 * s.rd (PHT_ADDDROP.add_thr k j)
  let dropT := 4 * s.rd (PHT_ADDDROP.drop_thr k j)
  if addT * n < i then (ceilDiv i addT, 0)
  else if 2 ≤ n && i < dropT * (n - 1) then
    let run := s.rd (V.dropRun r) + 1
    if s.rd (PHT_ADDDROP.dwell k j) ≤ run && s.rd (V.noDrop r) = 0 then (n - 1, 0) else (n, run)
  else (n, 0)

/-- The number of active phases that takes effect at the next period boundary (R101, R102), wherever the rail's loop runs. -/
def phaseTick (r : Nat) (s : State) : List Upd :=
  let k := railTile r
  let j := railLocal r
  if s.loopRuns r && (s.rd (rState r) != RailS.softstart || s.on (V.rampOn r)) then
    let law := s.phaseLaw r
    let n := clampNat 1 (s.rd (rNwork r)) (max (max law.1 (s.rd (PHT_PHFLOOR.nmin k j))) (s.rd (V.outFloor r)))
    [.set (V.dropRun r) law.2, .set (V.noDrop r) (s.rd (V.noDrop r) - 1)] ++
    onlyIf (!s.on (V.fastAdd r) && (s.rd (V.noDrop r) == 0 || decide (s.nactSet r ≤ n))) [.set (V.nactNext r) (n + 1)]
  else []

/-- The bench policy of the reserve item in force (R109, R246), at a period boundary: released bench channels start to work, their weights to
ramp once they are active. When a later policy holds them back, the highest-indexed working channels whose role in the image is bench return, as far
as nfloor lets them. `rel` says whether this rail's are released. -/
def benchPolicy (r : Nat) (rel : Bool) (s : State) : State :=
  if rel then
    let free := (s.railChannels r Role.bench).filter (fun c => s.rd (V.repFor c) == 0)
    let t := s.run [.set (V.benchOut r) 1]
    if free.isEmpty then t
    else
      let ready := onlyIf (s.loopRuns r) (free.flatMap (fun c => [Upd.set (chState c) ChS.parked, .set (V.enAt c) (s.now + 1)]))
      phaseCeiling r ((t.run (free.flatMap (fun c => [.set (chRole c) Role.working, .set (V.rampIn c) 1]) ++ ready ++ [.set (V.spreadDue r) 1])).does (recount r))
  else if !s.on (V.benchOut r) then s
  else
    let back := (s.railChannels r Role.working).filter (fun c => s.rd (V.imgRole c) == Role.bench)
    let out' := back.reverse.take (s.rd (rNwork r) - s.rd (PHT_RAILCFG.nfloor (railTile r) (railLocal r)))
    let idle := if s.rd (rState r) = RailS.off then ChS.off else ChS.standby
    let t := (s.run (.set (V.benchOut r) 0 :: out'.flatMap (fun c => [.set (chRole c) Role.bench, .set (chState c) idle, .set (chCmd c) 0, .set (V.joinAt c) 0,
      .set (V.rampIn c) 0, .set (V.enAt c) 0]))).does (recount r)
    let n := min (t.rd (rNact r)) (t.rd (rNwork r))
    phaseCeiling r (t.run (rescale r (t.rd (rNact r)) n t ++ [.set (rNact r) n, .set (V.spreadDue r) 1]))

/-- What a period boundary brings to a rail (R90, R100, R101, R102, R109): the bench policy in force, the change of N_act that is due, a fast add
before a drop, and the new offsets. -/
def periodBoundary (r : Nat) (s0 : State) : State :=
  let s := benchPolicy r (s0.released r) s0
  let st := s.rd (rState r)
  let nx := s.rd (V.nactNext r)
  let old := s.rd (rNact r)
  let new := if s.on (V.fastAdd r) then s.rd (rNwork r) else if nx = 0 then old else min (nx - 1) (s.rd (rNwork r))
  if !s.loopRuns r || (st = RailS.softstart && !s.on (V.rampOn r)) || (new = old && nx = 0 && !s.on (V.fastAdd r) && !s.on (V.spreadDue r)) then s
  else
    let t := s.run (rescale r old new s ++
      [.set (rNact r) new, .set (V.nactNext r) 0, .set (V.fastAdd r) 0, .tally 0x032 (railTile r) (ofBool (new != old))])
    if old = new && !s.on (V.spreadDue r) then t else t.does (respread r)

end Sys2Proof.Machine
end

