-- ==== Sys2Proof/Machine/Swija.lean ====
section
/-! DEFINITION. Links over lanes (chapter 4, and R267, R272 for the timing lanes): states, training, messages, capability
pages, frames, loss and the spare. Link n is slot n's Swija link for n < 8 and timing lane n - 8 otherwise. Lane numbers are
2n and 2n + 1 for slot n's primary and spare, and 16 + m for timing lane m. -/

namespace Sys2Proof.Machine

/-- Link states (R134). -/
def LinkS.off : Nat := 0
def LinkS.detect : Nat := 1
def LinkS.train : Nat := 2
def LinkS.align : Nat := 3
def LinkS.caps : Nat := 4
def LinkS.run : Nat := 5
def LinkS.switch : Nat := 6
def LinkS.loss : Nat := 7

/-- Swija message types (R133). -/
def MsgT.cap : Nat := 0x01
def MsgT.hint : Nat := 0x02
def MsgT.step : Nat := 0x03
def MsgT.ageing : Nat := 0x04
def MsgT.freqAck : Nat := 0x05
def MsgT.tipoffAck : Nat := 0x06
def MsgT.capDown : Nat := 0x81
def MsgT.freq : Nat := 0x82
def MsgT.tipoff : Nat := 0x83
def MsgT.time : Nat := 0x84
def MsgT.switch : Nat := 0x85

/-- Timing-lane message types (R268). -/
def TmlT.time : Nat := 0x01
def TmlT.timeUp : Nat := 0x02
def TmlT.delay : Nat := 0x03
def TmlT.report : Nat := 0x04
def TmlT.result : Nat := 0x05
def TmlT.trigger : Nat := 0x06
def TmlT.lockstep : Nat := 0x07

/-- Registers that a Swija link and a timing lane both have. -/
def lkState (n : Nat) : Fld := if n < 8 then SWJ_STAT.state n else JOB_LSTAT.state (n - 8)
def lkLane (n : Nat) : Fld := if n < 8 then SWJ_STAT.lane n else JOB_LSTAT.on_spare (n - 8)
def lkRate (n : Nat) : Fld := if n < 8 then SWJ_STAT.rate n else JOB_LSTAT.rate (n - 8)
def lkRateMax (n : Nat) : Fld := if n < 8 then SWJ_CTL.rate_max n else JOB_LCFG.rate_max (n - 8)
def lkSpareFail (n : Nat) : Fld := if n < 8 then SWJ_STAT.spare_fail n else V.laneFail n
def lkUnc (n : Nat) : Fld := if n < 8 then SWJ_FECUNC.count n else JOB_LFEC.count (n - 8)
def lkEvt (n : Nat) : Fld := if n < 8 then SWJ_EVT.state n else JOB_EVT.lane

/-- Primary and spare lanes of a link. -/
def primaryLane (n : Nat) : Nat := if n < 8 then 2 * n else n + 8
def spareLane (n : Nat) : Nat := if n < 8 then 2 * n + 1 else 20
def State.currentLane (s : State) (n : Nat) : Nat := if s.on (lkLane n) then spareLane n else primaryLane n

/-- The link a lane carries (R265): timing lane 4 as a spare carries the lane it backs. -/
def State.linkOf (s : State) (i : Nat) : Nat :=
  if i < 16 then i / 2
  else if i = 20 && s.rd (JOB_LCFG.role 4) == 3 then 8 + s.rd (JOB_LCFG.spare_for 4)
  else i - 8

/-- The link is enabled and may use its lane (R134, R265). -/
def State.linkEnabled (s : State) (n : Nat) : Bool :=
  if n < 8 then s.on (SWJ_CTL.enable n)
  else s.on (JOB_LCFG.en (n - 8)) && (s.rd (JOB_LCFG.role (n - 8)) == 1 || s.rd (JOB_LCFG.role (n - 8)) == 2)

/-- The slot's core rail is REGULATING; a timing lane has none to wait for. -/
def State.linkPower (s : State) (n : Nat) : Bool := decide (8 ≤ n) || s.rd (rState n) == RailS.regulating

/-- The link has a spare it may use (R155, R272). -/
def State.spareFree (s : State) (n : Nat) : Bool :=
  (if n < 8 then s.on (SWJ_CTL.spare_en n)
   else s.on (JOB_LCFG.en 4) && s.rd (JOB_LCFG.role 4) == 3 && s.rd (JOB_LCFG.spare_for 4) == n - 8 && decide (n < 12) && (s.lane 20).stage == 0)

/-- src of a link's records (R159, R291). -/
def linkSrc (n : Nat) : Nat := if n < 8 then srcOf 0x3 (2 * n) else srcOf 0x7 (n - 8)
def State.linkSrcNow (s : State) (n : Nat) : Nat := if n < 8 then srcOf 0x3 (2 * n + s.rd (lkLane n)) else srcOf 0x7 (n - 8)

/-- A link changes state (R134, R159, R291). -/
def linkTo (n new cause : Nat) (s : State) : List Upd :=
  let old := s.rd (lkState n)
  if old = new then []
  else
    let l := s.link n
    onlyIf (decide (n < 8) && (old == LinkS.run || old == LinkS.switch) && !(new == LinkS.run || new == LinkS.switch)) (cancelTips n 2 s) ++
    [.set (lkState n) new, .set (lkEvt n) 1,
     .link n { l with since := s.now, lossAt := (if new = LinkS.run then 0 else if new = LinkS.loss && l.lossAt == 0 then s.now else l.lossAt), leftRun := (if old = LinkS.run then s.now else l.leftRun),
                      tips := (if decide (n < 8) && (old == LinkS.run || old == LinkS.switch) && !(new == LinkS.run || new == LinkS.switch) then l.tips.filter (fun x => !decide (s.now < x.x)) else l.tips) },
     (if n < 8 then note Ty.LINK_STATE (s.linkSrcNow n) [(24, 1, old), (25, 1, new), (26, 1, s.rd (lkRate n)), (27, 1, s.rd (lkLane n)), (28, 1, cause)]
      else note Ty.TLANE_STATE (srcOf 0x7 (n - 8)) [(24, 1, n - 8), (25, 1, old), (26, 1, new), (27, 1, cause)])]

/-- Pre-cursor, main and post-cursor tap of an FFE preset, in 1/32 of full swing (R138). -/
def ffeTaps (p : Nat) : Int × Int × Int :=
  let (pre, post) : Int × Int := match p with
    | 0 => (0, 0) | 1 => (0, -2) | 2 => (0, -4) | 3 => (0, -6) | 4 => (0, -8) | 5 => (-2, 0) | 6 => (-2, -2) | 7 => (-2, -4)
    | 8 => (-2, -6) | 9 => (-2, -8) | 10 => (-4, 0) | 11 => (-4, -4) | 12 => (-4, -8) | 13 => (-6, -4) | 14 => (-6, -8) | _ => (-8, -8)
  (pre, 32 - (pre.natAbs : Int) - post.natAbs, post)

/-- A lane is powered and starts training at a rate, with preset 5 in force (R134, R136, R138, R139). Its PRBS31 generator runs on. -/
def startLane (i rate : Nat) (fixed : Bool) (s : State) : List Upd :=
  [.lane i { stage := 1, t0 := s.now, rate := rate, fixed := fixed, reqSeq := 1, txTick := s.tick, prbsTx := (s.lane i).prbsTx }]

/-- A lane is powered down. -/
def dropLane (i : Nat) (s : State) : Upd := .lane i { prbsTx := (s.lane i).prbsTx }

/-- The PRBS31 generators of a link's lanes are seeded with all ones at an entry to DETECT (R136); the shared spare's, only where it carries
the link. -/
def seedLanes (n : Nat) (s : State) : List Upd :=
  .lane (primaryLane n) { s.lane (primaryLane n) with prbsTx := prbsOnes } ::
  onlyIf (decide (n < 8) || s.on (lkLane n)) [.lane (spareLane n) { s.lane (spareLane n) with prbsTx := prbsOnes }]

/-- The lane trains again at another rate; the PRBS generator runs on (R136, R139). -/
def retrainLane (i rate : Nat) (s : State) : List Upd :=
  let t := s.lane i
  [.lane i { stage := 1, t0 := s.now, rate := rate, fixed := t.fixed, reqSeq := t.reqSeq + 1, txTick := s.tick, prbsTx := t.prbsTx,
             farRates := t.farRates, ackSeq := t.ackSeq, askSeq := t.askSeq, askPreset := 5 }]

/-- The next slower common rate (R139); a partner not yet heard is taken to support every rate. -/
def Lane.slower (t : Lane) : Option Nat :=
  (List.range 4).find? (fun r => decide (t.rate < r) && (t.farRates == 0 || bit t.farRates r))

/-- A message joins the queue of a link (R132). -/
def Link.send (l : Link) (typ : Nat) (pay : List Nat) : Link := { l with queue := l.queue ++ [⟨typ, sliceBytes pay 0 28⟩] }

/-- A message is queued on a link of the state. -/
def queueMsg (n typ : Nat) (pay : List Nat) (s : State) : List Upd := [.link n ((s.link n).send typ pay)]

/-- Bytes of a message payload from its fields: byte offset in the message, count, value. -/
def msgBytes (fs : List (Nat × Nat × Nat)) : List Nat :=
  fs.foldl (fun bs e => (leBytes e.2.1 e.2.2).zipIdx.foldl (fun b x => b.set (e.1 - 4 + x.2) x.1) bs) (List.replicate 28 0)

/-- A field of a message, by its offset in the message. -/
def Msg.get (m : Msg) (o n : Nat) : Nat := leAt m.pay (o - 4) n

/-- The first accepted message of a type, and the inbox without it. -/
def Link.take? (l : Link) (typ : Nat) : Option (GotMsg × Link) :=
  match l.inbox.find? (fun g => g.msg.typ == typ) with
  | some g => some (g, { l with inbox := l.inbox.erase g })
  | none => none

/-- A field of a partner page. -/
def State.pageField (s : State) (n p o k : Nat) : Nat := leAt (tableGet [] (s.link n).pages p) o k

/-- What the partner declared: turn and tip_lat in ps, ballast limits in W, nfreq, monitor groups. -/
def State.turn (s : State) (n : Nat) : Nat := s.pageField n 1 0 4
def State.tipLat (s : State) (n : Nat) : Nat := s.pageField n 1 4 4
def State.ballastMin (s : State) (n : Nat) : Nat := s.pageField n 2 0 2
def State.ballastMax (s : State) (n : Nat) : Nat := s.pageField n 2 2 2
def State.nfreq (s : State) (n : Nat) : Nat := s.pageField n 2 6 1
def State.ageGroups (s : State) (n : Nat) : Nat := s.pageField n 2 7 1

/-- The frequency of an index in MHz (R140). -/
def State.freqMHz (s : State) (n i : Nat) : Nat := s.pageField n (8 + i / 13) (2 * (i % 13)) 2

/-- A map region: kind, first index, count (R140). -/
def State.mapRegion (s : State) (n r : Nat) : Nat × Nat × Nat :=
  (s.pageField n (3 + r / 4) (6 * (r % 4)) 1, s.pageField n (3 + r / 4) (6 * (r % 4) + 2) 2, s.pageField n (3 + r / 4) (6 * (r % 4) + 4) 2)

/-- The partner pages that CAPS waits for (R140). -/
def State.pagesNeeded (s : State) (n : Nat) : List Nat := [0, 1, 2, 3, 4, 5, 6] ++ (List.range (ceilDiv (s.nfreq n) 13)).map (8 + ·)

/-- Every page has been received, and every page of the OR8's acknowledged. -/
def State.capsDone (s : State) (n : Nat) : Bool :=
  let l := s.link n
  (s.pagesNeeded n).all (bit l.gotPages) && l.ownPages == 3 &&
    !(l.queue.any (fun m => m.typ == MsgT.capDown)) && !(l.sent.any (fun m => m.msg.typ == MsgT.capDown))

/-- Path latencies of a link's endpoint at its rate, in 10 ps. -/
def State.txLat (s : State) (n : Nat) : Nat := Config.swjTxLat (s.rd (lkRate n)) % 2 ^ 32
def State.rxLat (s : State) (n : Nat) : Nat := Config.swjRxLat (s.rd (lkRate n)) % 2 ^ 32

/-- d of R142 from where an upstream tick ends on a lane: 1 if tick k − 1 lies wholly 100 ns before boundary k. -/
def State.upDelay (s : State) (i : Nat) : Nat := if (s.lane i).upEnd + 10000 ≤ 100000 then 1 else 2

/-- Where an upstream tick ends, in 10 ps past the boundary that began it, from the arrival of one of its frames (R126, R127): its last frame
starts one period before the tick's frames are over. -/
def tickEnd (rate fidx tick arrive : Nat) : Nat := arrive + 25 * framePeriod rate * (framesIn rate tick - fidx) - 100000 * tick

/-- TIM_DISC.lane names the lane that carries the up link (R75). -/
def showUpLane (n : Nat) (s : State) : List Upd :=
  onlyIf (decide (8 ≤ n) && s.rd (JOB_LCFG.role (n - 8)) == 1 && decide (2 ≤ s.rd TIM_DISC.state))
    [.set TIM_DISC.lane (if s.on (JOB_LSTAT.on_spare (n - 8)) then 4 else n - 8)]

/-- A link comes into RUN on a lane (R134, R155, R156): the lane is in use, a spare is no longer marked failed, everything unacknowledged is
sent again, and a round trip is due (R141). -/
def enterRun (n i cause : Nat) (s : State) : State :=
  let l := s.link n
  let t := s.run ([.set (lkLane n) (if i = primaryLane n then 0 else 1), .set (lkRate n) (s.lane i).rate,
    .link n { l with sent := l.sent.map (fun m => { m with again := true }), rttAt := 0, echoOk := false }] ++
    onlyIf (decide (n < 8)) [.prd n { tableGet {} s.prd n with lastMap := [] }] ++
    onlyIf (i != primaryLane n) [.set (lkSpareFail n) 0])
  ((t.does (linkTo n LinkS.run cause)).run (onlyIf (decide (n < 8)) [.set (SWJ_STAT.updelay n) (s.upDelay i)])).does (showUpLane n)

/-- A survey response holds the lane down (R38): the link stays in LOSS until it is enabled or retrained anew (DEDUCED, log 175). -/
def holdDown (n cause : Nat) (s : State) : State :=
  (s.run [dropLane (s.currentLane n) s, .link n { s.link n with held := true }]).does (linkTo n LinkS.loss cause)

/-- The result of a capability exchange, as SURVEY item 7 gives it (R37): the partner's major version and the minor version in use. -/
def State.capsResult (s : State) (n : Nat) : Nat := s.pageField n 0 0 1 * 256 + min (s.pageField n 0 1 1) 0

/-- The capability exchange ends (R37, R134, R140, R159): RUN, or LOSS where the major versions differ. -/
def finishCaps (n : Nat) (s : State) : State :=
  let major := s.pageField n 0 0 1
  let v := s.capsResult n
  let told := Upd.emit (s.surveyRec (s.linkSrcNow n) 7 n v)
  let held := s.surveyResponse 7 n v == 3
  if major ≠ 1 then
    let t := s.run [told, .set (SWJ_STAT.major n) major]
    if held then holdDown n 3 t else (t.run [dropLane (s.currentLane n) s]).does (linkTo n LinkS.loss 3)
  else
    let m := leAt (s.ownPage n 1) 2 2
    let t := s.run [.set (SWJ_STAT.caps n) 1, .set (SWJ_STAT.major n) major, .set (SWJ_STAT.minor n) (v % 256), .set (SWJ_MAP.m n) m, .set (SWJ_EVT.caps n) 1,
      note Ty.LINK_CAPS (s.linkSrcNow n) [(24, 1, major), (25, 1, v % 256), (26, 1, s.rd (lkRate n)), (28, 2, m), (30, 1, s.nfreq n)], told]
    if held then holdDown n 3 t else enterRun n (s.currentLane n) 0 t

/-- OR8 pages are queued as soon as their content is known (R140). -/
def queuePages (n : Nat) (s : State) : List Upd :=
  let l := s.link n
  let l0 := if bit l.ownPages 0 then l else { l.send MsgT.capDown (0 :: s.ownPage n 0) with ownPages := setBit l.ownPages 0 }
  let l1 := if bit l0.ownPages 1 || !bit l.gotPages 2 then l0
    else { l0.send MsgT.capDown (1 :: s.ownPage n 1) with ownPages := setBit l0.ownPages 1 }
  [.link n l1]

/-- A capability exchange begins (R140): at each entry to CAPS, and in RUN where a survey repeats it (R39). -/
def beginCaps (n : Nat) (again : Bool) (s : State) : State :=
  (s.run [.link n { s.link n with ownPages := 0, gotPages := 0, again := again }]).does (queuePages n)

/-- A repeated exchange ends (R39): its result is recorded, and acts as R38 says. -/
def capsRepeated (n : Nat) (s : State) : State :=
  let v := s.capsResult n
  let t := s.run [.link n { s.link n with again := false }, .set (SWJ_MAP.m n) (leAt (s.ownPage n 1) 2 2), .emit (s.surveyRec (s.linkSrcNow n) 7 n v)]
  if s.surveyResponse 7 n v = 3 then holdDown n 3 t else t

/-- A capability exchange that is complete ends. -/
def capsCheck (n : Nat) (s : State) : State :=
  if !s.capsDone n then s
  else if s.rd (lkState n) = LinkS.caps then finishCaps n s
  else if (s.link n).again && s.rd (lkState n) = LinkS.run then capsRepeated n s
  else s

/-- A lane has decoded three clean frames in ALIGN (R134, R155, R156). -/
def alignDone (n i : Nat) (s : State) : State :=
  let st := s.rd (lkState n)
  let t := s.run [.lane i { s.lane i with stage := 3 }]
  if st = LinkS.align then
    if n < 8 then beginCaps n false (t.does (linkTo n LinkS.caps 0)) else enterRun n i 0 t
  else if st = LinkS.loss then
    let spare := decide (i ≠ primaryLane n)
    let lost := (s.now - (s.link n).lostFrom) / framePeriod (s.lane i).rate
    let u := t.run [.set (lkLane n) (ofBool spare), .set (lkRate n) (s.lane i).rate]
    if decide (n < 8) && !s.on (SWJ_STAT.caps n) then beginCaps n false (u.does (linkTo n LinkS.caps 0))
    else
      let v := enterRun n i 0 u
      if n < 8 && spare then
        v.run [.set (SWJ_EVT.switch n) 1, note Ty.LANE_SWITCH (v.linkSrcNow n) [(24, 1, 1), (28, 8, v.boundary), (36, 4, lost)]]
      else v
  else t

/-- Training at a rate has failed (R139, R155, R156, R158): the next slower common rate, or the end of the attempt. -/
def trainFail (i : Nat) (s : State) : State :=
  let n := s.linkOf i
  let st := s.rd (lkState n)
  let t := s.lane i
  match (if t.fixed then none else t.slower) with
  | some r => (s.does (retrainLane i r)).run (onlyIf (st == LinkS.train) [.set (lkRate n) r])
  | none =>
    let u := s.run [dropLane i s]
    if st = LinkS.train then u.does (linkTo n LinkS.loss 2)
    else if st = LinkS.switch then
      (u.run [.set (lkSpareFail n) 1, .link n { u.link n with rttAt := 0, echoOk := false, twin := none }]).does (linkTo n LinkS.run 2)
    else if i ≠ primaryLane n then u.run [.set (lkSpareFail n) 1]
    else if u.spareFree n then u.does (startLane (spareLane n) (s.rd (lkRateMax n)) false)
    else u

/-- The receiver's sweep over one aligned training frame (R139). `e` errors in `c` bits. -/
def Lane.sweepFrame (t : Lane) (ack c e : Nat) : Lane :=
  if t.rxDone || t.rateDown then t
  else if t.phase = 0 then (if ack = t.reqSeq % 256 then { t with phase := 1, left := 16 } else t)
  else if t.phase = 1 then
    (if t.left ≤ 1 then { t with phase := 2, left := (if t.sweep = 16 then 4096 else 256), errs := 0, checked := 0 } else { t with left := t.left - 1 })
  else
    let u := { t with errs := t.errs + e, checked := t.checked + c, left := t.left - 1 }
    if 1 < t.left then u
    else if t.sweep < 15 then { u with tally := u.tally ++ [u.errs], sweep := u.sweep + 1, reqPreset := u.sweep + 1, reqSeq := u.reqSeq + 1, phase := 0 }
    else if t.sweep = 15 then
      let all := u.tally ++ [u.errs]
      let low := all.foldl min (all.headD 0)
      { u with tally := all, sweep := 16, reqPreset := all.findIdx (· == low), reqSeq := u.reqSeq + 1, phase := 0 }
    else if u.errs * 100000 ≤ u.checked then { u with rxDone := true }
    else { u with rateDown := true }

/-- A training frame arrives at a lane (R136, R137): marker, control block by majority, PRBS errors. -/
def Lane.takeFrame (t : Lane) (now pos : Nat) (levels : List Int) : Lane :=
  let found := levels.take 32 == trainMarker
  let t1 : Lane :=
    if found then
      (if t.markRun = 0 || t.markPos = pos then { t with markPos := pos, markRun := t.markRun + 1, missRun := 0 }
       else { t with markPos := pos, markRun := 1, missRun := t.missRun + 1 })
    else { t with markRun := 0, missRun := t.missRun + 1 }
  let wasAligned := t.aligned
  let t2 : Lane :=
    if 4 ≤ t1.missRun then { t1 with aligned := false }
    else if 4 ≤ t1.markRun then (if wasAligned then t1 else { t1 with aligned := true, seen := 0 })
    else t1
  if !t2.aligned then t2
  else
    let b := trainBlockOf levels
    let (r, seen, c, e) := prbsCheck ((levels.drop 224).flatMap unPam4) t2.prbsRx t2.seen
    let t3 := { t2 with prbsRx := r, seen := seen }
    if bits b 0 8 ≠ 0x5A then t3
    else
      let ask : Lane := if bits b 40 8 ≠ t3.askSeq then { t3 with askSeq := bits b 40 8, askPreset := bits b 24 4, askAt := now + 800 } else t3
      let t4 := { ask with farRates := bits b 36 4, farDone := (if bit b 22 then ask.farDone + 1 else 0), farDown := ask.farDown || bit b 23 }
      t4.sweepFrame (bits b 48 8) c e

/-- Each end has shown rx_done in 3 consecutive control blocks (R139 step 4): the lane enters ALIGN. -/
def trained (i : Nat) (s : State) : State :=
  let n := s.linkOf i
  let t := s.lane i
  if t.stage = 1 && t.rxDone && decide (3 ≤ t.doneSent) && decide (3 ≤ t.farDone) then
    let v := s.run [.lane i { t with stage := 2, clean := 0 }]
    if s.rd (lkState n) = LinkS.train then (v.run [.set (lkRate n) t.rate]).does (linkTo n LinkS.align 0) else v
  else s

/-- The effect of a received training frame on its link (R136, R139): either end's rate_down moves both on, the OR8's own once a frame has
carried it. -/
def trainingFrame (i pos : Nat) (levels : List Int) (s : State) : State :=
  let t := (s.lane i).takeFrame s.now pos levels
  let u := s.run [.lane i t]
  if t.farDown || (t.rateDown && t.downSent) then trainFail i u else trained i u

/-- The brake flags of a slot's rails (R116). -/
def State.brakeFlag (s : State) (n : Nat) : Bool :=
  s.on (PHT_RSTAT.brake (railTile n) (railLocal n)) || s.on (PHT_RSTAT.brake (railTile (n + 8)) (railLocal (n + 8)))

/-- The downstream control word (R130). -/
def State.dcw (s : State) (n lane fidx msgs : Nat) : List Nat :=
  let v := fidx % 128 + ofBool (lane % 2 == 1) * 2 ^ 7 + s.rd (CAP_QOUT.q_out n) * 2 ^ 8 + (if s.brakeFlag n then 7 else 0) * 2 ^ 16 +
    ofBool (s.rd (lkState n) == LinkS.switch) * 2 ^ 26 + ofBool (s.rd (CAP_BAL.level n) != 0) * 2 ^ 27 + s.rd (CAP_BAL.level n) * 2 ^ 28 +
    s.rd (V.freqHeld n) * 2 ^ 40 + s.rd (CAP_ROUT.ramp_out n) * 2 ^ 48 + s.tick % 256 * 2 ^ 56 + (s.link n).rxSeq * 2 ^ 64 + msgs * 2 ^ 80
  leBytes 16 v

/-- The timing control word (R267). -/
def State.tcw (s : State) (n lane fidx msgs : Nat) : List Nat :=
  leBytes 16 (fidx % 128 + ofBool (lane == 20 && s.rd (JOB_LCFG.role 4) == 3) * 2 ^ 7 + s.tick % 256 * 2 ^ 8 + msgs * 2 ^ 16 + (s.link n).rxSeq * 2 ^ 20)

/-- Messages that go before all others (R132). -/
def urgent (n typ : Nat) : Bool :=
  if n < 8 then typ == MsgT.freq || typ == MsgT.tipoff || typ == MsgT.time || typ == MsgT.switch else typ == TmlT.time || typ == MsgT.switch

/-- Up to 15 messages for a frame's body, in the order of R132, and the link after they have been placed. -/
def Link.fill (l : Link) (n tick : Nat) : List SentMsg × Link :=
  let again := (l.sent.filter (·.again)).take 15
  let room := min (15 - again.length) (256 - l.sent.length)
  let ordered := l.queue.filter (fun m => urgent n m.typ) ++ l.queue.filter (fun m => !urgent n m.typ)
  let fresh := (ordered.take room).zipIdx.map (fun x => (⟨x.1, (l.txSeq + 1 + x.2) % 65536, tick, false⟩ : SentMsg))
  let rest := ordered.drop room
  (again ++ fresh,
   { l with queue := rest, txSeq := (l.txSeq + fresh.length) % 65536,
            sent := l.sent.map (fun m => if again.contains m then { m with again := false, tick := tick } else m) ++ fresh })

/-- A message as 32 bytes (R132). -/
def SentMsg.bytes (m : SentMsg) : List Nat := [m.msg.typ, 0] ++ leBytes 2 m.mseq ++ sliceBytes m.msg.pay 0 28

/-- Job time, in 1/1,024 tick, of symbol 0 of frame 0 of a tick at the land (R268); the conversion's rounding is unstated. -/
def State.departure (s : State) (n tick : Nat) : Nat := (tick * 4000 + s.rd TIM_JOBOFS.ofs) % 2 ^ 64 * 1024 + divOpen (s.txLat n * 1024) 25

/-- The messages that a timing lane sends in frame 0 of every tick (R268, R269): the time and every job's RESULT on a down lane,
a TIME_UP that is due on the up lane. -/
def State.frameZero (s : State) (n : Nat) : List Msg :=
  let d := s.departure n s.tick
  if n < 8 then []
  else if s.rd (JOB_LCFG.role (n - 8)) = 2 then
    ⟨TmlT.time, msgBytes [(8, 8, d / 1024), (16, 2, d % 1024), (18, 1, s.rd TIM_DISC.state), (19, 1, s.rd JOB_CTL.depth)]⟩ ::
      (List.range 8).filterMap (fun j => let r := tableGet {} s.jobs j; if r.valid && bit r.children (n - 8) then r.relay else none)
  else if (s.link n).upDue then [⟨TmlT.timeUp, msgBytes [(8, 8, d / 1024), (16, 2, d % 1024)]⟩]
  else []

/-- A training frame leaves a lane (R136-R139): the preset asked for is applied from the first frame 200 ns later. -/
def sendTraining (i : Nat) (s : State) : State :=
  let t := s.lane i
  let t1 : Lane := if t.askSeq ≠ t.ackSeq && t.askAt ≤ s.now then { t with txPreset := t.askPreset, ackSeq := t.askSeq } else t
  let (lv, r) := trainLevels (trainBlock t1.ackSeq t1.reqSeq (15 - (2 ^ s.rd (lkRateMax (s.linkOf i)) - 1)) t1.rate t1.txPreset t1.reqPreset t1.rateDown t1.rxDone) t1.prbsTx
  trained i (s.run [.lane i { t1 with out := lv, prbsTx := r, taps := ffeTaps t1.txPreset, doneSent := (if t1.rxDone then t1.doneSent + 1 else 0),
                                      downSent := t1.downSent || t1.rateDown }])

/-- A data frame leaves a lane (R128-R130, R132, R267). In SWITCH the spare, once it carries frames, sends the same frames (R155): the first of
the two to leave sets what both carry, the lane bit apart. -/
def sendData (i : Nat) (s : State) : List Upd :=
  let n := s.linkOf i
  let t := s.lane i
  let fidx := if t.txTick = s.tick then t.txFidx else 0
  let st := s.rd (lkState n)
  let both := st == LinkS.switch && t.stage == 3
  let main := (i == s.currentLane n && (st == LinkS.run || st == LinkS.switch || st == LinkS.caps)) || both
  let l0 := s.link n
  let twin := match l0.twin with | some (k, f, h, ms) => if both && k = s.tick && f = fidx then some (h, ms) else none | none => none
  let l1 := if main && twin.isNone && fidx = 0 then { l0 with queue := s.frameZero n ++ l0.queue, upDue := false, t3 := if l0.upDue then s.departure n s.tick else l0.t3 } else l0
  let (ms, l2) := match twin with
    | some (_, ms) => (ms, l1)
    | none => if main && (decide (8 ≤ n) || inMessageRegion t.rate fidx) then l1.fill n s.tick else ([], l1)
  let own := if n < 8 then s.dcw n i fidx ms.length else s.tcw n i fidx ms.length
  let head := match twin with | some (h, _) => (own.take 1 ++ h.drop 1) | none => own
  let levels := frameLevels fidx (framePayload head (ms.flatMap (·.bytes)))
  [.lane i { t with out := levels, txTick := s.tick, txFidx := fidx + 1 },
   .link n (if both then { l2 with twin := some (s.tick, fidx, head, ms) } else l2)] ++
  onlyIf (decide (n < 8))
    [.set (SWJ_DOWN.freq n) (s.rd (V.freqHeld n)), .set (SWJ_DOWN.quota n) (s.rd (CAP_QOUT.q_out n)), .set (SWJ_DOWN.ramp n) (s.rd (CAP_ROUT.ramp_out n)),
     setB (SWJ_DOWN.brake n) (s.brakeFlag n), setB (SWJ_DOWN.ballast_en n) (s.rd (CAP_BAL.level n) != 0), .set (SWJ_BALLAST.level n) (s.rd (CAP_BAL.level n))]

/-- Where the map of slot n's upstream tick is kept: outside device memory, four ticks deep. -/
def mapAddr (n tick : Nat) : Nat := (0x10 + n) * 2 ^ 64 + tick % 4 * 0x8000

/-- The map value of an index in an upstream tick (R143). -/
def State.mapValue (s : State) (n tick i : Nat) : Nat := memByte s.mem (mapAddr n tick + 2 * i) + 256 * memByte s.mem (mapAddr n tick + 2 * i + 1)

/-- The tick a tick_echo names: the latest not after the present one (R131). -/
def State.echoed (s : State) (lo : Nat) : Nat := s.tick - (s.tick + 256 - lo % 256) % 256

/-- The acknowledged messages of a link leave it (R132). -/
def Link.acked (l : Link) (ack : Nat) : Link := { l with sent := l.sent.filter (fun m => decide (32768 ≤ (ack + 65536 - m.mseq) % 65536)) }

/-- The types a receiver does not ignore (R133, R268). -/
def knownType (n typ : Nat) : Bool := if n < 8 then decide (1 ≤ typ) && decide (typ ≤ 6) else (decide (1 ≤ typ) && decide (typ ≤ 7)) || typ == MsgT.switch

/-- The messages of a body are accepted in order (R132). -/
def Link.accept (l : Link) (n count arrive tick : Nat) (body : List Nat) : Link :=
  (List.range count).foldl (fun l k =>
    let b := sliceBytes body (32 * k) 32
    if leAt b 2 2 = (l.rxSeq + 1) % 65536 then
      let l' := { l with rxSeq := (l.rxSeq + 1) % 65536 }
      if knownType n (leAt b 0 1) then { l' with inbox := l'.inbox ++ [⟨⟨leAt b 0 1, sliceBytes b 4 28⟩, arrive, tick⟩] } else l'
    else l) l

/-- What a link's upstream tick has carried so far (R142, R144). -/
def Link.noteUp (l : Link) (tick : Nat) (f : UpTick → UpTick) : Link :=
  match l.ups.find? (fun u => u.tick == tick) with
  | some u => { l with ups := l.ups.map (fun x => if x.tick = tick then f u else x) }
  | none => { l with ups := l.ups ++ [f { tick := tick }] }

/-- A map frame's values are stored, or marked absent (R143): bytes 480 × fidx on, of the M values granted. -/
def storeMap (n tick fidx : Nat) (body : List Nat) (s : State) : List Upd :=
  let m := 2 * s.rd (SWJ_MAP.m n)
  onlyIf (decide (480 * fidx < m)) [.store (mapAddr n tick + 480 * fidx) (sliceBytes body 0 (min 480 (m - 480 * fidx)))]

/-- Uncorrectable frames of the last 1 ms. -/
def recent (now : Nat) (l : List Nat) : List Nat := l.filter (fun t => decide (now < t + 4000000))

/-- Corrected symbols of the tick and the FEC alarm (R159). -/
def fecTally (n cor : Nat) (s : State) : List Upd :=
  let l := s.link n
  let old := if l.fecTick = s.tick then l.fecCor else 0
  let thr := s.rd (SWJ_FECCFG.alarm_thr n)
  [.link n { l with fecTick := s.tick, fecCor := old + cor }, .set (SWJ_FECCOR.count n) (s.rd (SWJ_FECCOR.count n) + cor)] ++
  onlyIf (decide (old ≤ thr) && decide (thr < old + cor))
    [.set (SWJ_EVT.fec n) 1, note Ty.FEC_ALARM (s.linkSrcNow n) [(24, 4, old + cor), (28, 4, (recent s.now l.uncAt).length)]]

/-- A frame that cannot be used (R129, R143, R155). Upstream frames keep a fixed phase (R127), so a lost frame 0 of the lane in use is counted at
its time. -/
def lostFrame (n i fidx : Nat) (unc : Bool) (s : State) : List Upd :=
  let l0 := s.link n
  let here := i == s.currentLane n
  let l := if fidx = 0 && here then { l0 with echoTick := l0.echoTick + 1, echoArr := l0.echoArr + 100000, echoOk := false } else l0
  let tick := l.echoTick
  let isMap := decide (n < 8) && here && inMapRegion (s.lane i).rate fidx && (s.lane i).stage == 3
  [.link n (if unc then { l with uncAt := recent s.now l.uncAt ++ [s.now] } else l), .lane i { s.lane i with clean := 0 }] ++
  (if unc then [.set (lkUnc n) (s.rd (lkUnc n) + 1)] else onlyIf (decide (n < 8)) [.set (SWJ_CRCERR.count n) (s.rd (SWJ_CRCERR.count n) + 1)]) ++
  onlyIf isMap (.set (SWJ_MAPLOST.count n) (s.rd (SWJ_MAPLOST.count n) + 1) :: storeMap n tick fidx (List.replicate 480 0xFF) s)

/-- The upstream control word, map or messages of a good frame (R131, R132, R143, R144). -/
def takeUcw (n i fidx arrive : Nat) (p : List Nat) (s : State) : List Upd :=
  let w := leAt p 0 16
  let tick := s.echoed (bits w 88 8)
  let body := sliceBytes p 16 480
  let l := (s.link n).acked (bits w 112 16)
  let rate := (s.lane i).rate
  let l1 := if inMessageRegion rate fidx then l.accept n (min 15 (bits w 96 4)) arrive tick body else l
  let l2 := l1.noteUp tick (fun u => { u with heard := true, offset := bits w 64 24, step := bits w 32 32, freq := bits w 24 8, bubbles := bits w 8 8,
                                              ballast := bits w 17 1, brakeAck := bits w 16 1 })
  let l3 := if fidx = 0 then { l2 with echoTick := tick, echoArr := arrive, echoOk := decide (rate < 3) || tick % 2 == 0 } else l2
  [.link n l3, .set (SWJ_UP.freq_acc n) (bits w 24 8), .set (SWJ_UP.bubbles n) (bits w 8 8), .set (SWJ_UP.ballast_active n) (bits w 17 1),
   .set (SWJ_UP.brake_ack n) (bits w 16 1)] ++
  onlyIf (inMapRegion rate fidx) (storeMap n tick fidx body s)

/-- Tray time of a job time. -/
def State.trayTime (s : State) (job : Nat) : Nat := ((job : Int) - s.rdI TIM_JOBOFS.ofs).toNat

/-- Job time now. -/
def State.jobNow (s : State) : Nat := (s.now + s.rd TIM_JOBOFS.ofs) % 2 ^ 64

/-- A tray time within 20 µs of a boundary. -/
def near20 (b t : Nat) : Bool := decide (b ≤ t + 80000) && decide (t ≤ b + 80000)

/-- The FREQ apply-ats and tip-off instants of a slot. -/
def State.slotGuards (s : State) (n : Nat) : List Nat :=
  (s.link n).tips.map (·.x) ++ (s.link n).marks ++ (if s.on (SWJ_FREQPEND.valid n) then [s.trayTime (s.rd (SWJ_FREQAT.at_ n))] else [])

/-- The tip-off time of a job, and the apply-ats of its last RESULTs. -/
def State.jobGuards (s : State) (j : Nat) : List Nat :=
  let r := tableGet {} s.jobs j
  if !r.valid then []
  else (if s.rd (JOB_JTIPT.t j) = 0 then [] else [s.trayTime (s.rd (JOB_JTIPT.t j))]) ++
    ((r.due.toList ++ r.last.toList).filter (fun x => !x.hold)).map (fun x => s.trayTime (400000 * (x.epoch + 1) + 160000))

/-- The instants that a planned switch of a link keeps away from: a slot's own (R155), and of a timing lane those of every job on the tray
(R272). -/
def State.guardTimes (s : State) (n : Nat) : List Nat :=
  if n < 8 then s.slotGuards n else (List.range 8).flatMap (fun i => s.slotGuards i ++ s.jobGuards i)

/-- A SWITCH from the other end of a timing lane (R155, R272): this end brings the spare in too, and both change at the later of the boundaries that
the two ends name (DESIGN CHOICE, log 205). -/
def peerSwitch (n : Nat) (s : State) : State :=
  match (s.link n).inbox.find? (fun g => decide (8 ≤ n) && g.msg.typ == MsgT.switch) with
  | none => s
  | some g =>
    let l := s.link n
    let t := s.run [.link n { l with inbox := l.inbox.erase g, switchAt := some (max (g.msg.get 8 8) (l.switchAt.getD 0)) }]
    if s.rd (lkState n) = LinkS.run && !s.on (lkLane n) && s.spareFree n && !s.on (lkSpareFail n) then
      (t.does (startLane (spareLane n) (s.rd (lkRate n)) true)).does (linkTo n LinkS.switch 0)
    else if s.rd (lkState n) = LinkS.switch then t
    else s.run [.link n { l with inbox := l.inbox.erase g }]

/-- The timing control word and messages of a good frame (R267). -/
def takeTcw (n fidx arrive : Nat) (p : List Nat) (s : State) : List Upd :=
  let w := leAt p 0 16
  let tick := s.echoed (bits w 8 8)
  let l := ((s.link n).acked (bits w 20 16)).accept n (min 15 (bits w 16 4)) arrive tick (sliceBytes p 16 480)
  [.link n (if fidx = 0 then { l with echoTick := tick, echoArr := arrive, echoOk := true } else l)]

/-- The tick that a good frame's control word names (R131, R267). -/
def State.frameTick (s : State) (n : Nat) (p : List Nat) : Nat := s.echoed (bits (leAt p 0 16) (if n < 8 then 88 else 8) 8)

/-- A received data frame (R128, R129, R134). -/
def upstreamFrame (i fidx arrive : Nat) (levels : List Int) (s : State) : State :=
  let n := s.linkOf i
  let r := frameDecode fidx levels
  match r.payload with
  | none => s.does (lostFrame n i fidx true)
  | some p =>
    let s1 := s.run [.link n { s.link n with lastGood := s.now }]
    let s2 := if n < 8 then s1.does (fecTally n r.corrected) else s1
    if !r.crcOk then s2.does (lostFrame n i fidx false)
    else
      let s3 := s2.run [.lane i { s2.lane i with clean := (s2.lane i).clean + 1, upEnd := tickEnd (s2.lane i).rate fidx (s2.frameTick n p) arrive }]
      let s4 := if (s3.lane i).stage = 3 && i = s3.currentLane n then
          (if n < 8 then s3.does (takeUcw n i fidx arrive p) else peerSwitch n (s3.does (takeTcw n fidx arrive p))) else s3
      if (s4.lane i).stage = 2 && decide (3 ≤ (s4.lane i).clean) then alignDone n i s4
      else if n < 8 then capsCheck n s4
      else s4

/-- An instant joins those that a planned switch, a feed switch and a live commit keep 20 µs from; older ones are let go. -/
def Link.mark (l : Link) (now t : Nat) : Link := { l with marks := l.marks.filter (fun m => decide (now ≤ m + 80000)) ++ [t] }

/-- A FREQ is sent (R133, R151): index, job identity, apply-at in job time. -/
def sendFreq (n index job at' : Nat) (s : State) : List Upd :=
  [.link n (((s.link n).send MsgT.freq (msgBytes [(4, 1, index), (5, 1, job), (8, 8, at')])).mark s.now (s.trayTime at')),
   .set (SWJ_FREQPEND.valid n) 1, .set (SWJ_FREQPEND.index n) index, .set (SWJ_FREQAT.at_ n) at']

/-- A lane is brought up from OFF (R134, R155, R160): a fresh link on its primary. -/
def linkEnable (n : Nat) (s : State) : State :=
  let t := s.run [.link n { since := s.now, marks := (s.link n).marks }, .set (lkLane n) 0, .set (lkSpareFail n) 0, .set (lkRate n) (s.rd (lkRateMax n))]
  let u := (t.run (onlyIf (decide (n < 8)) [.set (SWJ_STAT.caps n) 0, .set (SWJ_FREQPEND.valid n) 0, .set (V.rttHad n) 0] ++
    [.set (V.energy n) 0, .set (V.lookAt n) 0])).does (seedLanes n)
  (u.does (startLane (primaryLane n) (s.rd (lkRateMax n)) false)).does (linkTo n LinkS.detect 0)

/-- A link reaches OFF (R134, R158): its enable became 0 or its core rail left REGULATING; its PROTECT off ends. -/
def linkOff (n cause : Nat) (s : State) : State :=
  let t := (s.does (linkTo n LinkS.off cause)).run ([dropLane (primaryLane n) s] ++ onlyIf (decide (n < 8) || s.on (lkLane n)) [dropLane (spareLane n) s])
  protectDropAll (.linkLoss n) t

/-- The condition under which a link may not stay out of OFF, checked at each boundary. -/
def linkOffCheck (n : Nat) (s : State) : State :=
  if s.rd (lkState n) = LinkS.off then s
  else if !s.linkEnabled n then linkOff n 0 s
  else if !s.linkPower n then linkOff n 6 s
  else s

/-- Loss is declared (R156): the spare starts training at the rate in force, unless it carried the link or is marked failed. -/
def linkLost (n : Nat) (s : State) : State :=
  let onSpare := s.on (lkLane n)
  let t := (s.run [dropLane (primaryLane n) s, .link n { s.link n with lostFrom := (s.link n).lastGood, twin := none }]).run
    (onlyIf (onSpare || s.rd (lkState n) == LinkS.switch) [dropLane (spareLane n) s])
  let u := (t.run (onlyIf onSpare [.set (lkSpareFail n) 1] ++ onlyIf (decide (n < 8)) [.set (SWJ_EVT.loss n) 1])).does (linkTo n LinkS.loss 4)
  if !onSpare && u.spareFree n && !u.on (lkSpareFail n) then u.does (startLane (spareLane n) (s.rd (lkRate n)) true) else u

/-- A round-trip measurement (R141): rtt and delay in 10 ps, recorded as a survey item. -/
def rttMeasure (n : Nat) (s : State) : List Upd :=
  let l := s.link n
  let rtt : Int := (l.echoArr : Int) - (100000 * l.echoTick + s.txLat n : Nat) - s.rxLat n - divOpen (s.turn n) 10
  let delay := divOpenI rtt 2 + s.rdI (SWJ_RTTCORR.corr n)
  let old := (s.rd (SWJ_RTT.rtt n) : Int)
  [.set (SWJ_RTT.rtt n) (satUnsigned 32 rtt), .set (SWJ_DELAY.delay n) (satUnsigned 32 delay), .set (V.rttHad n) 1,
   .link n { l with rttAt := s.now + 1 }, .emit (s.surveyRec (s.linkSrcNow n) 5 n (satUnsigned 32 rtt))] ++
  onlyIf (s.on (V.rttHad n) && decide (5 < (rtt - old).natAbs)) [.set (SWJ_EVT.rtt n) 1]

/-- The measurement, and the response of R38 to it. -/
def rttRun (n : Nat) (s : State) : State :=
  let t := s.does (rttMeasure n)
  if s.surveyResponse 5 n (t.rd (SWJ_RTT.rtt n)) = 3 then holdDown n 0 t else t

/-- A measurement is ordered (R141): it is made on the last tick measured, or due at the next frame 0. -/
def rttNow (n : Nat) (s : State) : State :=
  if s.rd (lkState n) ≠ LinkS.run then s
  else if (s.link n).echoOk then rttRun n s
  else s.run [.link n { s.link n with rttAt := 0 }]

/-- TIME on the Swija link (R133, R152). -/
def timeSend (n : Nat) (s : State) : List Upd :=
  let d := (s.tick * 4000 + s.rd TIM_JOBOFS.ofs) % 2 ^ 64 * 1024 + divOpen ((s.txLat n + s.rd (SWJ_DELAY.delay n)) * 1024) 25
  let l := (s.link n).send MsgT.time (msgBytes [(8, 8, s.tick), (16, 8, d / 1024), (24, 2, d % 1024), (26, 1, s.rd TIM_DISC.state)])
  [.link n { l with timeAt := s.now }]

/-- Tip-off at the pin (R153), for a start X in ps of tray time: the tick, frame, symbol and fine delay in 1/16 UI. A frame
holds 2,125 symbols; the fine delay rounds to nearest. -/
def State.tipPoint (s : State) (n x : Nat) : Nat × Nat × Nat × Nat :=
  let rate := s.rd (lkRate n)
  let k0 := x / 1000000
  let u0 : Int := (x % 1000000 : Nat) - 10 * (s.txLat n + s.rd (SWJ_DELAY.delay n) : Int)
  let k := ((k0 : Int) + u0 / 1000000).toNat
  let u := (u0 % 1000000).toNat
  let p := framePeriod rate * 250
  let rem := u % p
  let sym := rem * 2125 / p
  let fine := (2 * 16 * (rem * 2125 % p) + p) / (2 * p)
  let (sym1, fine1) := if fine = 16 then (sym + 1, 0) else (sym, fine)
  let (fidx1, sym2) := if sym1 = 2125 then (u / p + 1, 0) else (u / p, sym1)
  if fine = 16 && fidx1 = framesIn rate k then (k + 1, 0, sym2, fine1) else (k, fidx1, sym2, fine1)

end Sys2Proof.Machine
end

