-- ==== Sys2Proof/Machine/Custody.lean ====
section
/-! DEFINITION. Accelerator custody (chapter 12): the reset gate, straps, boot supervision, and the custody engine's
operations on the slots' boot flashes. Tray times in `V` are held plus 1. -/

namespace Sys2Proof.Machine

/-- A record of the reset gate and the boot watchdog (R393). -/
def gateNote (typ n : Nat) (pay : List (Nat × Nat × Nat)) (s : State) : Upd := note typ (srcOf 0x8 (s.groupInst n)) ([(24, 1, n)] ++ pay)

/-- Time since a mark held plus 1; a mark of 0 stands for cold reset. -/
def State.sinceMark (s : State) (f : Fld) : Nat := s.boundary - (s.rd f - 1)

/-- The straps and the boot select are driven to the pins (R382); their setup time runs from the change (R381 gate f). -/
def driveStraps (n : Nat) (s : State) : List Upd :=
  onlyIf (s.rd (V.strapOut n) != s.rd (ACU_SCFG.strap n) || s.rd (V.bootOut n) != s.rd (ACU_SCFG.boot n))
    [.set (V.strapOut n) (s.rd (ACU_SCFG.strap n)), .set (V.bootOut n) (s.rd (ACU_SCFG.boot n)), .set (V.strapAt n) (s.now + 1)]

/-- ACC_RST_N[n] is asserted, with its cause (R381): straps held for this moment are driven, and the boot watchdog stops. -/
def assertReset (n cause : Nat) (s : State) : List Upd :=
  onlyIf (!s.on (ACU_SSTAT.rst n))
    ([.set (ACU_SSTAT.rst n) 1, .set (ACU_SSTAT.cause n) cause, .set (V.rstAt n) (s.boundary + 1), .set (V.bootAt n) 0, .set ACU_EVT.reset 1,
      gateNote Ty.ACC_RESET n [(25, 1, 1), (26, 1, cause), (28, 4, s.rd (ACU_BOOTS.count n))] s] ++ driveStraps n s)

/-- Boot attempts start anew (R389). -/
def attemptsAnew (n : Nat) : List Upd := [.set (ACU_SSTAT.attempts n) 0, .set (V.failTried n) 0]

/-- Milliseconds since the last release. -/
def State.sinceRelease (s : State) (n : Nat) : Nat := (s.now - s.rd (ACU_RELT.stamp n)) / 4000000

/-- ACC_BOOT (R393). -/
def bootNote (n what : Nat) (s : State) : Upd :=
  gateNote Ty.ACC_BOOT n [(25, 1, what), (26, 1, s.rd (ACU_SSTAT.attempts n)), (28, 4, s.sinceRelease n)] s

/-- BOOT_FAILED ends (R389). -/
def bootCleared (n : Nat) (s : State) : List Upd :=
  onlyIf (s.on (V.bootFailed n)) [bootNote n 4 s, .set (V.bootFailed n) 0] ++ attemptsAnew n

/-- Group n is UP. -/
def State.groupUp (s : State) (n : Nat) : Bool := s.rd (SEQ_GSTAT.state n) == 3

/-- Gate e (R381). -/
def State.gateE (s : State) (n : Nat) : Bool := !s.on (ACU_SCFG.verify_gate n) || s.on (V.matched n)

/-- Cause code of the first gate that fails and has one (R381), 0 where they hold. A gate that fails under a running accelerator asserts its reset;
of gates d and e only e can come to, by a write of verify_gate. -/
def State.gateFails (s : State) (n : Nat) : Nat :=
  if !s.isOn Blk.acu Tgt.accRun n then 1
  else if !s.groupUp n then 2
  else if !s.on (ACU_SSTAT.present n) then 4
  else if s.on (ACU_SSTAT.owned n) || !s.gateE n then 3
  else if s.on (V.bootFailed n) then 6 else 0

/-- Every gate holds (R381); an alert that asserts the reset holds it to its end (R391), and so does a re-flash still owed (R389). -/
def State.gatesHold (s : State) (n : Nat) : Bool :=
  s.gateFails n == 0 && decide (40000 ≤ s.sinceMark (V.fselAt n)) &&
    decide (4000 * s.rd ACU_TIMING.setup ≤ s.sinceMark (V.strapAt n)) && decide (4000 * s.rd ACU_TIMING.rst_min ≤ s.sinceMark (V.rstAt n)) &&
    !(s.on (ACU_SSTAT.alert n) && s.on (ACU_SBOOT.alert_act n)) && s.rd (V.cusOwed n) != 2 && s.rd V.pfailRun == 0

/-- The reset is released and the boot watchdog starts (R381, R389). -/
def releaseReset (n : Nat) (s : State) : List Upd :=
  let boots := (s.rd (ACU_BOOTS.count n) + 1) % 2 ^ 32
  [.set (ACU_SSTAT.rst n) 0, .set (ACU_BOOTS.count n) boots, .set (ACU_RELT.stamp n) s.boundary, .set (V.bootAt n) (s.boundary + 1),
   .set ACU_EVT.reset 1, gateNote Ty.ACC_RESET n [(25, 1, 2), (26, 1, 0), (28, 4, boots)] s]

/-- The gate at a boundary (R381, R389): BOOT_FAILED ends with the on order, and a failing gate asserts the reset. -/
def gateTick (n : Nat) (s : State) : State :=
  let on := s.isOn Blk.acu Tgt.accRun n
  let t := if !on && s.on (V.bootFailed n) then s.does (bootCleared n) else s
  let u := if !on && t.rd (V.bootAt n) ≠ 0 then t.run (attemptsAnew n) else t
  if u.gateFails n ≠ 0 then u.does (assertReset n (u.gateFails n)) else u

/-- The slot's Swija link enters RUN: BOOTING becomes RUNNING (R389). -/
def bootTick (n : Nat) (s : State) : List Upd :=
  onlyIf (s.rd (V.bootAt n) != 0 && s.rd (lkState n) == LinkS.run)
    ([bootNote n 1 s, .set (V.bootAt n) 0] ++ attemptsAnew n)

/-- Presence and alert as latched at a boundary (R379): since when each level has stood. -/
def slotSignals (n : Nat) (s : State) : List Upd :=
  let mark (f : Fld) (c : Bool) : List Upd := if c then onlyIf (s.rd f == 0) [.set f (s.boundary + 1)] else onlyIf (s.rd f != 0) [.set f 0]
  mark (V.prsAt n) (s.on (Sig.present n)) ++ mark (V.prsOffAt n) (!s.on (Sig.present n)) ++
    mark (V.alertAt n) (s.on (Sig.alert n)) ++ mark (V.alertOffAt n) (!s.on (Sig.alert n))

/-- Custody's part of a control-tick boundary. -/
def acuTick (s : State) : State :=
  (List.range 8).foldl (fun t n => ((gateTick n t).does (slotSignals n)).does (bootTick n)) s

/-- A level has stood at every boundary for a time. -/
def State.stood (s : State) (f : Fld) (t : Nat) : Bool := s.rd f != 0 && decide (s.rd f - 1 + t ≤ s.boundary)

/-! The custody engine (R383-R390). -/

/-- Operations of R386. -/
def CusOp.readId : Nat := 1
def CusOp.verify : Nat := 2
def CusOp.check : Nat := 3
def CusOp.reflash : Nat := 4
def CusOp.release : Nat := 5
def CusOp.clear : Nat := 6

/-- What an operation leaves: its code, and an ACC_CUSTODY record (R386, R393). -/
def custodyCode (n op code region core bytes : Nat) (s : State) : List Upd :=
  [.set (ACU_CMDSTAT.op n) op, .set (ACU_CMDSTAT.code n) code, .set (ACU_CMDSTAT.region n) region] ++
  onlyIf (code != 0) [.set ACU_EVT.custody 1] ++
  [note Ty.ACC_CUSTODY (srcOf 0xB core) [(24, 1, n), (25, 1, op), (26, 1, code), (27, 1, region), (28, 4, s.rd (ACU_VER.version n)), (32, 8, bytes)]]

/-- Why an operation of codes 1 to 4 cannot start (R384, R386), 0 where it can. -/
def State.custodyRefusal (s : State) (n op : Nat) : Nat :=
  if s.on (ACU_CMDSTAT.busy n) then 1
  else if op = CusOp.release || op = CusOp.clear then 0
  else if !s.on (ACU_SSTAT.rst n) || s.sinceMark (V.rstAt n) < 4000 * s.rd ACU_TIMING.own_delay then 2
  else if !s.on (ACU_SSTAT.present n) then 3
  else if !s.groupUp n then 4
  else if (op = CusOp.verify || op = CusOp.reflash) && !s.goldValid (s.rd (ACU_SCFG.gold n)) then 5
  else 0

/-- Ownership is taken, or kept, and the operation runs (R384, R386); a REFLASH unmeets gate e (R381). -/
def custodyBegin (n op keep skip core : Nat) (s : State) : List Upd :=
  onlyIf (!s.on (ACU_SSTAT.owned n)) [.set (ACU_SSTAT.owned n) 1, .set (V.flashKnown n) 0] ++
  [.set (ACU_CMDSTAT.busy n) 1, .set (ACU_CMDSTAT.op n) op, .set (ACU_PROG.bytes n) 0, .set (V.cusOp n) op, .set (V.cusKeep n) keep, .set (V.cusSkip n) skip, .set (V.cusCore n) core] ++
  onlyIf (op == CusOp.reflash) [.set (V.matched n) 0]

/-- ACCn_FSEL goes low: ownership ends (R384). -/
def custodyFree (n : Nat) (s : State) : List Upd :=
  onlyIf (s.on (ACU_SSTAT.owned n)) [.set (ACU_SSTAT.owned n) 0, .set (V.fselAt n) (s.boundary + 1), .set (V.flashKnown n) 0]

/-- An operation is started for a core, or refused (R386). -/
def custodyStart (n op keep skip core : Nat) (s : State) : State :=
  let r := s.custodyRefusal n op
  if r ≠ 0 then s.does (custodyCode n op r 0 core 0)
  else if op = CusOp.release then ((s.does (custodyFree n)).run [.set (V.abandoned n) 0]).does (custodyCode n op 0 0 core 0)
  else if op = CusOp.clear then (s.does (bootCleared n)).does (custodyCode n op 0 0 core 0)
  else s.does (custodyBegin n op keep skip core)

/-- The slot's flash, and the manifest in it (R385). -/
def slotPlace (n : Nat) : Place := ⟨Sp.slot n, 0, []⟩
def State.slotManifest? (s : State) (n : Nat) : Option Manifest :=
  s.manifest? (slotPlace n) (s.rd (ACU_SMANOFS.ofs n)) (some (s.rd (ACU_SMANOFS.ofs n)))

/-- The golden manifest a slot is compared with, with the place of its image (R386). -/
def State.goldManifest? (s : State) (n : Nat) : Option (Place × Manifest) :=
  let w := s.goldPlace (s.rd (ACU_SCFG.gold n))
  (s.manifest? w (s.num w 48 4) none).map (fun m => (w, m))

/-- The slot flash holds a region as a manifest digests it. -/
def State.regionMatches (s : State) (n : Nat) (r : Region) : Bool := digest (s.flash (Sp.slot n) r.ofs r.len) == r.dig

/-- The first region of a list that differs. -/
def State.firstBad (s : State) (n : Nat) (rs : List Region) : Option Nat := (List.range rs.length).find? (fun i => match rs[i]? with
  | some r => !s.regionMatches n r
  | none => false)

/-- Code and region of a VERIFY (R386). -/
def State.verifyResult (s : State) (n : Nat) : Nat × Nat :=
  match s.slotManifest? n with
  | none => (9, 0)
  | some m => match s.goldManifest? n with
    | none => (13, 0)
    | some (_, g) =>
      if m.dig = g.dig then (match s.firstBad n m.regions with | some r => (8, r) | none => (0, 0))
      else (8, (s.firstBad n g.regions).getD 0xFF)

/-- Code and region of a CHECK (R386). -/
def State.checkResult (s : State) (n : Nat) : Nat × Nat :=
  match s.slotManifest? n with
  | none => (9, 0)
  | some m => match s.firstBad n m.regions with | some r => (8, r) | none => (0, 0)

/-- The manifest unit is erased (R387 step 1). -/
def eraseManifest (n : Nat) (s : State) : List Upd := [flashErase (Sp.slot n) (s.rd (ACU_SMANOFS.ofs n)) 4096]

/-- A region is erased by the units that cover it and programmed from gold flash, or skipped (R387 steps 2 and 3). -/
def reflashRegion (n unit : Nat) (w : Place) (rs : List Region) (dataOfs i : Nat) (s : State) : List Upd :=
  match rs[i]? with
  | none => []
  | some r =>
    if s.on (V.cusSkip n) && s.regionMatches n r then []
    else
      let lo := r.ofs / unit * unit
      [flashErase (Sp.slot n) lo (ceilDiv (r.ofs + r.len) unit * unit - lo), flashStore (Sp.slot n) r.ofs (s.at' w (goldData dataOfs rs i) r.len)]

/-- A REFLASH that runs to its end (R387). -/
def reflashWhole (n unit : Nat) (s : State) : State :=
  match s.goldManifest? n with
  | none => s
  | some (w, m) =>
    let t := (s.does (eraseManifest n)).doEach (List.range m.regions.length) (reflashRegion n (max 1 unit) w m.regions (s.num w 52 4))
    t.run [flashStore (Sp.slot n) (s.rd (ACU_SMANOFS.ofs n)) (s.at' w (s.num w 48 4) (64 + 48 * m.regions.length))]

/-- What a REFLASH that stopped part-way leaves of a region that it did not skip: its bytes are free values, and each other byte of the units that
cover it stands or is erased, which is free too. -/
def partRegion (n unit : Nat) (r : Region) (s : State) : List Upd :=
  let free (i : Nat) : Nat := Config.freeValue (s.rd V.freeCtr * 2 ^ 64 + i + 1)
  let lo := r.ofs / unit * unit
  let span := ceilDiv (r.ofs + r.len) unit * unit - lo
  [flashStore (Sp.slot n) lo (((s.flash (Sp.slot n) lo span).zipIdx).map (fun x =>
    if r.ofs ≤ lo + x.2 && lo + x.2 < r.ofs + r.len then free x.2 % 256 else if free x.2 % 2 = 0 then x.1 else 0xFF)), freeUsed s]

/-- A REFLASH that stops part-way (R387): the manifest is absent. An erase unit that no operation has told is a free value. -/
def reflashPart (n : Nat) (s : State) : State :=
  let t := s.does (eraseManifest n)
  let unit := if s.rd (V.eraseUnit n) = 0 then 4096 * (1 + Config.freeValue (s.rd V.freeCtr) % 2 ^ 17) else s.rd (V.eraseUnit n)
  match s.goldManifest? n with
  | none => t
  | some (_, m) => (t.does (fun u => [freeUsed u])).doEach (m.regions.filter (fun r => !(s.on (V.cusSkip n) && s.regionMatches n r))) (partRegion n unit)

/-- Whatever ends a REFLASH with the management plane leaves its flash part-way (R387). -/
def flashesStop (s : State) : State :=
  (List.range 8).foldl (fun t n => if t.on (ACU_CMDSTAT.busy n) && t.rd (V.cusOp n) == CusOp.reflash then reflashPart n t else t) s

/-- A retirement that waited for custody to end takes place once no operation reads the entry (R437). -/
def retireDeferred (s : State) : State :=
  let x := s.rd V.retireLater
  if x = 0 || !s.mayRecord then s
  else
    let c := x - 1
    if (List.range 8).any (fun n => s.on (ACU_CMDSTAT.busy n) && (s.rd (V.cusOp n) == 2 || s.rd (V.cusOp n) == 4) && s.rd (ACU_SCFG.gold n) == c / 2) then s
    else moveItem 3 c { s.item 3 c with state := ImgS.retired } (s.run [.set V.retireLater 0])

/-- An operation stops with result 12 (R390); `free` drives ACCn_FSEL low. -/
def custodyStop (n : Nat) (free : Bool) (s : State) : State :=
  let t := if s.on (ACU_CMDSTAT.busy n) then
      (let u := if s.rd (V.cusOp n) = CusOp.reflash then reflashPart n s else s
       let bytes := Config.custodyBytes n s.now
       retireDeferred ((u.run [.set (ACU_CMDSTAT.busy n) 0, .set (V.cusAuto n) 0, .set (ACU_PROG.bytes n) bytes]).does
         (custodyCode n (s.rd (V.cusOp n)) 12 0 (s.rd (V.cusCore n)) bytes)))
    else s
  if free then t.does (custodyFree n) else t

/-- Group n has become UP (R381 gate e, R388), or leaves UP (R389, R390). -/
def custodyGroupUp (n : Nat) (s : State) : List Upd :=
  onlyIf (decide (n < 8)) [.set (V.matched n) 0, .set (V.cusOwed n) (s.rd (ACU_SCFG.verify_gate n))]
def custodyGroupDown (n cause : Nat) (s : State) : State :=
  if n < 8 then (custodyStop n true (s.does (assertReset n cause))).run (attemptsAnew n ++ [.set (V.cusOwed n) 0]) else s

/-- Code and region with which the running operation ends: identification first, then the flash error given, then what the
bytes themselves say (R383, R386). -/
def State.custodyResult (s : State) (n kib err : Nat) : Nat × Nat :=
  let op := s.rd (V.cusOp n)
  let size := if s.on (V.flashKnown n) then s.rd (ACU_FSIZE.kib n) else kib
  if err ≠ 0 then (err, 0)
  else if op = CusOp.readId then (0, 0)
  else if size = 0 then (10, 0)
  else if op = CusOp.verify then s.verifyResult n
  else if op = CusOp.check then s.checkResult n
  else (0, 0)

/-- An error the flashes may give an operation: 10 slot flash, 11 read-back, 13 gold flash. -/
def errPossible (op err : Nat) : Bool := err == 0 || err == 10 || (err == 11 && op == CusOp.reflash) || (err == 13 && (op == CusOp.verify || op == CusOp.reflash))

/-- The sequence of R388 or R389 goes on after an operation with a code: the next operation and step, or none. -/
def State.nextAuto (s : State) (n step code : Nat) : Option (Nat × Nat) :=
  if step = 1 && (code = 8 || code = 9) && s.on (ACU_SCFG.auto_reflash n) then some (CusOp.reflash, 2)
  else if step = 2 then some (CusOp.verify, 3)
  else if step = 4 then some (CusOp.verify, 5)
  else none

/-- The flash is identified (R383, R386). -/
def identify (n id kib unit err : Nat) (s : State) : List Upd :=
  onlyIf (!s.on (V.flashKnown n) && err != 10)
    [.set (ACU_FLASHID.id n) id, .set (ACU_FSIZE.kib n) kib, .set (V.eraseUnit n) unit, .set (V.flashKnown n) 1]

/-- What a REFLASH did to the flash by its end. -/
def reflashEffect (n unit kib err : Nat) (s : State) : State :=
  let size := if s.on (V.flashKnown n) then s.rd (ACU_FSIZE.kib n) else kib
  let u := if s.on (V.flashKnown n) then s.rd (V.eraseUnit n) else unit
  if s.rd (V.cusOp n) ≠ CusOp.reflash || size = 0 then s
  else if err = 0 then reflashWhole n u s else reflashPart n (s.run [.set (V.eraseUnit n) u])

/-- Version in the slot's manifest after a VERIFY or CHECK (R395). -/
def foundVersion (n code : Nat) (s : State) : List Upd :=
  let op := s.rd (V.cusOp n)
  onlyIf ((op == CusOp.verify || op == CusOp.check) && (code == 0 || code == 8 || code == 9))
    [.set (ACU_VER.version n) (((s.slotManifest? n).map (·.version)).getD 0)]

/-- An operation ends (R386-R389). -/
def custodyDone (n id kib unit err bytes : Nat) (s : State) : State :=
  let op := s.rd (V.cusOp n)
  let res := s.custodyResult n kib err
  let step := s.rd (V.cusAuto n)
  let t0 := reflashEffect n unit kib err s
  let t1 := ((t0.does (identify n id kib unit err)).does (foundVersion n res.1)).run
    ([.set (ACU_CMDSTAT.busy n) 0, .set (ACU_PROG.bytes n) bytes] ++ onlyIf (op == CusOp.verify && res.1 == 0) [.set (V.matched n) 1, .set (V.abandoned n) 0])
  let t2 := retireDeferred (t1.does (custodyCode n op res.1 res.2 (s.rd (V.cusCore n)) bytes))
  if step = 0 then (if s.on (V.cusKeep n) then t2 else t2.does (custodyFree n))
  else match t2.nextAuto n step res.1 with
    | some (op', step') =>
      let r := t2.custodyRefusal n op'
      if r = 0 then (t2.run [.set (V.cusAuto n) step']).does (custodyBegin n op' 0 (if step' = 2 then 1 else 0) 0)
      else ((t2.does (custodyCode n op' r 0 0 0)).run [.set (V.cusAuto n) 0]).does (custodyFree n)
    | none => ((t2.run [.set (V.cusAuto n) 0]).run (onlyIf (res.1 != 0) [.set ACU_EVT.custody 1])).does (custodyFree n)

/-- The engine runs on its own what it owes a slot (R388, R389). -/
def custodyAuto (n : Nat) (s : State) : State :=
  let op := if s.rd (V.cusOwed n) = 1 then CusOp.verify else CusOp.reflash
  let step := if s.rd (V.cusOwed n) = 1 then 1 else 4
  let t := s.run [.set (V.cusOwed n) 0]
  let r := t.custodyRefusal n op
  if r = 0 then (t.run [.set (V.cusAuto n) step]).does (custodyBegin n op 0 0 0)
  else t.does (custodyCode n op r 0 0 0)

/-- The engine may run what it owes: the golden checks of this keeper start have ended, and the slot can be taken (R384, R388). -/
def State.autoDue (s : State) (n : Nat) : Bool :=
  s.rd (V.cusOwed n) != 0 && !s.on (V.planeHeld 3) && s.on V.goldDone &&
    (let r := s.custodyRefusal n CusOp.verify
     r == 0 || r == 5)

/-- The boot watchdog expires (R389): an attempt has failed. -/
def bootTimeout (n : Nat) (s : State) : State :=
  let k := min 255 (s.rd (ACU_SSTAT.attempts n) + 1)
  let t0 := s.run [.set (ACU_SSTAT.attempts n) k, .set ACU_EVT.boot 1]
  let t := (t0.run [bootNote n 2 t0]).does (assertReset n 5)
  if k < s.rd (ACU_SBOOT.boot_retries n) then t
  else if s.on (ACU_SBOOT.fail_act n) && !s.on (V.failTried n) && s.goldValid (s.rd (ACU_SCFG.gold n)) then
    t.run [.set (V.failTried n) 1, .set (ACU_SSTAT.attempts n) 0, .set (V.cusOwed n) 2]
  else t.run [bootNote n 3 t, .set (V.bootFailed n) 1, .set (ACU_SSTAT.cause n) 6]

/-- A management reset stops every operation, keeps ownership, and leaves what the restarted keeper is to run again (R388, R390). -/
def custodyMgmtReset (s : State) : State :=
  (List.range 8).foldl (fun t n =>
    let busy := t.on (ACU_CMDSTAT.busy n)
    let u := (custodyStop n false t).run (onlyIf busy [.set (V.abandoned n) 1])
    u.run (onlyIf (u.groupUp n && !u.gateE n) [.set (V.cusOwed n) 1])) s

end Sys2Proof.Machine
end

