-- ==== Sys2Proof/Machine/Feeds.lean ====
section
/-! DEFINITION. Input feeds and electronic fuses (chapter 10): the channels' states, measurement, trips, damage, and the
selection of a feed. Tray times in `V` are held plus 1; current is in 1/16 A, voltage in 10 mV. -/

namespace Sys2Proof.Machine

/-- Channel states (R345). -/
def FedS.off : Nat := 0
def FedS.inrush : Nat := 1
def FedS.on : Nat := 2
def FedS.limit : Nat := 3
def FedS.tripped : Nat := 4
def FedS.damaged : Nat := 5

/-- A channel's state, its latest samples, and its src word (R343). -/
def State.fed (s : State) (c : Nat) : Nat := s.rd (FED_CHSTAT.state c)
def State.fedAmps (s : State) (c : Nat) : Int := s.rdI (V.fedNow c)
def State.fedDrop (s : State) (c : Nat) : Int := (s.rd (FED_CHV.vin c) : Int) - s.rd (FED_CHV.vout c)
def fedSrc (c : Nat) : Nat := srcOf 0x9 c

/-- E in mJ from the sum of I × (VIN − VOUT) over samples of 0.25 µs (R328). -/
def State.fedMilli (s : State) (c : Nat) : Nat := divOpen (s.rdI (V.fedE c)).toNat 6400000

/-- A channel enters a state at `t` (R343): recorded with that stamp (R43), and power-good stands in ON alone (R329). -/
def fedToAt (c st t : Nat) (s : State) : List Upd :=
  onlyIf (s.fed c != st)
    [.emit { typ := Ty.FEED_STATE, src := fedSrc c, stamp := some t, pay := [(24, 1, c), (25, 1, s.fed c), (26, 1, st), (28, 4, s.fedMilli c)] },
     .set (FED_CHSTAT.state c) st, setB (FED_CHSTAT.pg c) (st == FedS.on), .set FED_EVT.state 1]

/-- A channel enters a state now. -/
def fedTo (c st : Nat) (s : State) : List Upd := fedToAt c st s.now s

/-- INRUSH or LIMIT begins: time and dissipation start afresh (R328, R330). -/
def fedRegulate (c st : Nat) (s : State) : List Upd :=
  fedTo c st s ++ [.set (V.fedSince c) (s.now + 1), .set (V.fedE c) 0, .set (FED_CHE.e c) 0, .set (V.fedOkAt c) 0, .set (V.limitHit c) 0, .set (V.energyHit c) 0]

/-- A channel is commanded off (R334). -/
def fedOff (c : Nat) (s : State) : List Upd :=
  fedTo c FedS.off s ++ [.set (V.fedOffAt c) (s.now + 1), .set (V.leakAt c) 0, .set (V.outAt c) 0, .set (V.fedIreg c) 0]

/-- A trip (R328, R331): latched, its PROTECT_TRIP and orders due at the next boundary. A damaged channel stays DAMAGED (R334). -/
def fedTrip (c cause t : Nat) (s : State) : List Upd :=
  (if s.fed c = FedS.damaged then [] else fedToAt c FedS.tripped t s) ++
  [.set FED_TRIPMAP.latch (setBit (s.rd FED_TRIPMAP.latch) c), bump s (FED_CHTRIPS.count c), .set (FED_CHSTAT.cause c) cause, .set FED_EVT.trip 1,
   .set (V.tripAt c) (t + 1), .set (V.tripV c) (s.rd (FED_CHV.vout c)), .set (V.tripI c) (s.rd (FED_CHI.i c)), .set (V.tripDue c) 1, .set (V.fedDropped c) 0, .set (V.fedOffAt c) (t + 1), .set (V.leakAt c) 0, .set (V.outAt c) 0,
   .set (V.fedIreg c) 0]

/-- The PROTECT target a channel's protection holds off (R333, R334): block, target and scope. -/
def State.fedTarget? (s : State) (c : Nat) : Option (Nat × Nat) :=
  if c < 2 then some (Blk.fed, c)
  else if c < 10 then some (Blk.seq, c - 2)
  else if s.rd (FED_CHCFG.bind c) = 3 then some (Blk.fed, c) else none

/-- A trip's record (R343), stamped with the moment of the trip (R43); V_OUT and I are those of that moment. -/
def tripRec (c cause t vout i : Nat) : Upd :=
  .emit { typ := Ty.PROTECT_TRIP, src := fedSrc c, stamp := some t,
          pay := [(24, 1, c), (25, 1, cause), (26, 2, vout), (28, 4, i), (32, 8, t)] }

/-- A trip is recorded and its PROTECT order issued, at the next boundary; an order whose latch has cleared by then is withdrawn as it is issued
(R333). -/
def tripOrders (c : Nat) (s : State) : State :=
  let t := s.run [tripRec c (s.rd (FED_CHSTAT.cause c)) (s.rd (V.tripAt c) - 1) (s.rd (V.tripV c)) (s.rd (V.tripI c)), .set (V.tripDue c) 0]
  match s.fedTarget? c with
  | some (b, sc) => if bit (s.rd FED_TRIPMAP.latch) c then protectHold ⟨.feedTrip c, b, 0, sc, 0⟩ t else t
  | none => t

/-- A tripped channel whose enable has dropped and whose latch is clear may start again (R332). -/
def fedReady (c : Nat) (s : State) : List Upd :=
  onlyIf (s.fed c == FedS.tripped && s.on (V.fedDropped c) && !bit (s.rd FED_TRIPMAP.latch) c) (fedTo c FedS.off s)

/-- A latch clears (R332, R333). -/
def fedUnlatch (c : Nat) (s : State) : State :=
  if bit (s.rd FED_TRIPMAP.latch) c then
    let t := (s.run [.set FED_TRIPMAP.latch (clearBit (s.rd FED_TRIPMAP.latch) c)]).does (fedReady c)
    match s.fedTarget? c with
    | some (b, sc) => protectDrop (.feedTrip c) b 0 sc t
    | none => t
  else s

/-- Some channel that escalated is still DAMAGED (R335). -/
def State.anyEscalated (s : State) : Bool := (List.range 16).any (fun c => s.on (V.escalated c) && s.fed c == FedS.damaged)

/-- A feed may be used, its VIN apart (R336). -/
def State.feedFit (s : State) (f : Nat) : Bool :=
  s.isOn Blk.fed Tgt.chEn f && s.fed f != FedS.tripped && s.fed f != FedS.damaged && !s.anyEscalated

/-- Whether a feed is usable, as FED_SELSTAT shows it. -/
def feedUsable (f : Nat) : Fld := if f = 0 then FED_SELSTAT.usable_a else FED_SELSTAT.usable_b

/-- No feed is selected. -/
def selNone : Nat := 3

/-- The selector's choice (R336). -/
def State.feedChoice (s : State) : Nat :=
  let p := s.rd FED_SELCFG.primary
  if s.on (feedUsable p) then p else if s.on (feedUsable (1 - p)) then 1 - p else selNone

/-- No feed is usable after one has been selected (R340). -/
def noFeed (s : State) : State :=
  let t := s.run [.set FED_SELSTAT.sel selNone, .set FED_SELSTAT.switching 0, .set FED_SELSTAT.hold 0, .set V.swPend 0, .set V.swPhase 0]
  if s.on V.feedSeen && !s.on V.noFeed then
    let live := [0, 1].filter (fun c => t.fed c == FedS.inrush || t.fed c == FedS.on || t.fed c == FedS.limit)
    let loads := ((List.range 16).drop 2).filter (fun c => t.fed c == FedS.inrush || t.fed c == FedS.on || t.fed c == FedS.limit)
    let branches := ((List.range 10).drop 2).filter (fun c => t.rd (FED_CHCFG.bind c) != 0)
    let u := (t.run [.set V.noFeed 1, .set FED_EVT.nofeed 1]).doEach (live ++ loads) fedOff
    let w := u.run (branches.flatMap (fun c => [tripRec c 7 u.now (u.rd (FED_CHV.vout c)) (u.rd (FED_CHI.i c)), .set (FED_CHSTAT.cause c) 7]))
    protectHoldAll (branches.map (fun c => ⟨.noFeed c, Blk.seq, Tgt.groupPwr, c - 2, 0⟩)) w
  else t.doEach ([0, 1].filter (fun c => t.fed c == FedS.inrush || t.fed c == FedS.on || t.fed c == FedS.limit)) fedOff

/-- A feed is chosen while none is selected (R336). -/
def firstSelect (f : Nat) (s : State) : List Upd :=
  fedRegulate f FedS.inrush s ++
  [.set FED_SELSTAT.sel f, .set V.feedSeen 1,
   note Ty.FEED_SWITCH (fedSrc f) [(24, 1, selNone), (25, 1, f), (26, 1, 4), (28, 4, 0), (32, 8, s.now)]]

/-- A feed that is not usable qualifies as usable (R336). -/
def State.feedQualifies (s : State) (f : Nat) : Bool :=
  !s.on (feedUsable f) && s.feedFit f && s.rd (V.vinInAt f) != 0 && decide (s.rd (V.vinInAt f) + s.rd (FED_FEEDQ.qual f) * 4000000 ≤ s.now + 1)

/-- A feed is marked usable. -/
def markUsable (f : Nat) (s : State) : List Upd := [.set (feedUsable f) 1, .set FED_EVT.usable 1, .set (V.usableAt f) (s.now + 1)]

/-- A feed becomes usable (R336, R340); with none selected the choice is between all that qualify. -/
def becomeUsable (f : Nat) (s : State) : State :=
  let t := s.does (markUsable f)
  let u := if t.on V.noFeed then gathered (fun v => (List.range 16).foldl (fun w c => protectDrop (.noFeed c) Blk.seq Tgt.groupPwr (c - 2) w) v) (t.run [.set V.noFeed 0]) else t
  if u.rd FED_SELSTAT.sel = selNone then
    let w := if u.feedQualifies (1 - f) then u.does (markUsable (1 - f)) else u
    w.does (firstSelect w.feedChoice)
  else u

/-- A switch begins (R337, R339): the old feed's gate is pulled down and P_in keeps its value from before. -/
def beginSwitch (cause t0 : Nat) (s : State) : List Upd :=
  let old := s.rd FED_SELSTAT.sel
  (if s.fed old = FedS.inrush || s.fed old = FedS.on || s.fed old = FedS.limit then fedOff old s else []) ++
  [.set V.swOld old, .set V.swCause cause, .set V.swT0 (t0 + 1), .set V.swPend 0, .set V.swPhase 1, .set V.swJudged 0, .set FED_SELSTAT.sel (1 - old),
   .set FED_SELSTAT.switching 1, .set FED_SELSTAT.hold 1] ++
  onlyIf (!s.on FED_SELSTAT.hold) [.set V.pinHeld (s.rd (V.pinHist ((t0 / 4000 + 31) % 32)))]

/-- A boundary at least 20 µs from every tip-off instant and FREQ apply-at of the tray's slots (R337). -/
def State.clearBoundary (s : State) : Bool :=
  (List.range 8).all (fun n => (s.slotGuards n).all (fun g => decide (g + 80000 ≤ s.boundary) || decide (s.boundary + 80000 ≤ g)))

/-- A feed becomes unusable (R336, R337, R342): a loss switches at once, an order waits for a clear boundary, and with nothing left
the tray has no feed. While a switch waits for its new feed, the end of the dead time decides (DESIGN CHOICE, log 195). -/
def becomeUnusable (f t0 : Nat) (byOrder : Bool) (s : State) : State :=
  let t := s.run [.set (feedUsable f) 0, .set FED_EVT.usable 1, .set (V.usableAt f) 0]
  let other := t.on (feedUsable (1 - f))
  if !other then noFeed t
  else if t.rd V.swPhase = 1 then t
  else if t.rd FED_SELSTAT.sel ≠ f then t.run (onlyIf (t.rd V.swPend == 2) [.set V.swPend 0])
  else if byOrder then t.run [.set V.swPend 3, .set V.swT0 (t0 + 1)]
  else t.does (beginSwitch 1 t0)

/-- A waiting revert or order switch begins at a clear boundary (R337), unless a shutdown runs (R369). -/
def switchTick (s : State) : List Upd :=
  onlyIf (s.rd V.pfailRun == 0 && s.rd V.swPend != 0 && s.clearBoundary && s.rd FED_SELSTAT.sel != selNone && s.on (feedUsable (1 - s.rd FED_SELSTAT.sel)))
    (beginSwitch (s.rd V.swPend) s.boundary s)

/-- A channel found damaged (R334, R335): escalation trips the selected feed at the same boundary. -/
def fedDamage (c code : Nat) (s : State) : State := gathered (fun s =>
  let t := s.run (fedTo c FedS.damaged s ++
    [.set FED_DMGMAP.dmg (setBit (s.rd FED_DMGMAP.dmg) c), .set (FED_CHSTAT.cause c) 5, .set FED_EVT.damaged 1, .set (V.fedIreg c) 0,
     note Ty.FEED_DAMAGED (fedSrc c) [(24, 1, c), (25, 1, code), (26, 2, s.rd (FED_CHV.vout c)), (28, 4, s.rd (FED_CHI.i c))]])
  let u := if 2 ≤ c && c < 10 then protectHold ⟨.feedDamaged c, Blk.seq, Tgt.groupPwr, c - 2, 0⟩ t else t
  if 2 ≤ c && s.on FED_CTL.esc_en && 16 * s.rd (FED_CHLIM.i_lim c) ≤ (s.fedAmps c).natAbs then
    let w := u.run [.set (V.escalated c) 1]
    let live := [0, 1].filter (fun f => w.fed f == FedS.inrush || w.fed f == FedS.on || w.fed f == FedS.limit)
    let x := w.doEach live (fun f => fedTrip f 6 s.now)
    noFeed (x.run [.set FED_SELSTAT.usable_a 0, .set FED_SELSTAT.usable_b 0, .set (V.usableAt 0) 0, .set (V.usableAt 1) 0, .set FED_EVT.usable 1])
  else u) s

/-- The keeper's commit of FED_DMGCLR, or nothing where the channel is not damaged (R334). A trip that is not yet cleared stands (R332). -/
def fedDamageClear (c : Nat) (s : State) : State := gathered (fun s =>
  if bit (s.rd FED_DMGMAP.dmg) c then
    let tripped := bit (s.rd FED_TRIPMAP.latch) c || (s.rd (V.tripAt c) != 0 && !s.on (V.fedDropped c))
    let t := s.run (fedTo c (if tripped then FedS.tripped else FedS.off) s ++ [.set FED_DMGMAP.dmg (clearBit (s.rd FED_DMGMAP.dmg) c), .set (V.escalated c) 0,
      .set (V.fedOffAt c) (s.now + 1), .set (V.leakAt c) 0, .set (V.outAt c) 0])
    if 2 ≤ c && c < 10 then protectDrop (.feedDamaged c) Blk.seq Tgt.groupPwr (c - 2) t else t
  else s) s

/-- A channel's enable (R323-R325, R340). -/
def State.fedEnable (s : State) (c : Nat) : Bool :=
  let b := s.rd (FED_CHCFG.bind c)
  if c < 2 then s.rd FED_SELSTAT.sel == c && s.rd V.swPhase != 1
  else if s.on V.noFeed then false
  else if b = 2 then s.on (SEQ_RSTAT.en (s.rd (FED_CHCFG.seq_rail c)))
  else if b = 3 then s.isOn Blk.fed Tgt.chEn c
  else false

/-- A channel follows its enable at a boundary (R328, R332). -/
def followEnable (c : Nat) (s : State) : State :=
  let en := s.fedEnable c
  let st := s.fed c
  let t := s.run (onlyIf ((st == FedS.tripped || st == FedS.damaged) && !en) [.set (V.fedDropped c) 1])
  let u := t.does (fedReady c)
  if en && u.fed c = FedS.off then u.does (fedRegulate c FedS.inrush)
  else if !en && (st = FedS.inrush || st = FedS.on || st = FedS.limit) then u.does (fedOff c)
  else u

/-- Every channel follows its enable. -/
def feedsFollow (s : State) : State := (List.range 16).foldl (fun w c => followEnable c w) s

/-- The drain current a channel regulates to (R328), in 1/16 A. -/
def State.regCurrent (s : State) (c : Nat) : Nat :=
  min (16 * s.rd (FED_CHLIM.i_lim c)) (divOpen (s.rd (FED_CHSOA.p_lim c) * 1600) (max 100 (s.fedDrop c).toNat))

/-- |I| is at least i_leak (R334). -/
def State.leaks (s : State) (c : Nat) : Bool := decide (16 * s.rd (FED_CHLEAK.i_leak c) ≤ 10 * (s.fedAmps c).natAbs)

/-- A feed's VIN lies in its window (R336). -/
def State.vinGood (s : State) (f : Nat) : Bool :=
  decide (s.rd (FED_FEEDV.uv f) ≤ s.rd (FED_CHV.vin f)) && decide (s.rd (FED_CHV.vin f) ≤ s.rd (FED_FEEDV.ov f))

/-- A time mark that starts with a condition at `t` and ends with it. -/
def sinceAt (t : Nat) (f : Fld) (c : Bool) (s : State) : List Upd :=
  if c then onlyIf (s.rd f == 0) [.set f (t + 1)] else onlyIf (s.rd f != 0) [.set f 0]
def since (f : Fld) (c : Bool) (s : State) : List Upd := sinceAt s.now f c s

/-- The gate and drop conditions of R329. -/
def State.fedSettled (s : State) (c : Nat) : Bool :=
  decide (s.rd (FED_CHPG.vgs c) ≤ s.rd (Sig.fedVgs c)) && decide (s.fedDrop c ≤ s.rd (FED_CHPG.vds c))

/-- I reaches i_lim, or the dissipation p_lim (R330). -/
def State.atLimit (s : State) (c : Nat) : Bool :=
  decide ((16 * s.rd (FED_CHLIM.i_lim c) : Nat) ≤ s.fedAmps c) || decide ((1600 * s.rd (FED_CHSOA.p_lim c) : Nat) ≤ s.fedAmps c * s.fedDrop c)

/-- The current of a shunt code in 1/16 A: 80 mV ÷ 2,048 a code, over a shunt in 0.1 µΩ (R326). The current of a channel without a shunt value is a
FREE VALUE. -/
def State.shuntAmps (s : State) (c : Nat) : Int :=
  if s.rd (FED_CHCFG.shunt c) = 0 then toSigned 16 (s.free % 65536) else divOpenI (s.rdI (Sig.fedI c) * 6250) (s.rd (FED_CHCFG.shunt c))

/-- The conversions of one sample (R326). -/
def fedConvert (c : Nat) (s : State) : List Upd :=
  [.set (FED_CHV.vout c) (convSpan 8000 (s.rd (Sig.fedVout c))), .set (FED_CHV.vin c) (convSpan 8000 (s.rd (Sig.fedVin c))), setISat (V.fedNow c) (s.shuntAmps c),
   setISat (FED_CHI.i c) (s.shuntAmps c)] ++ onlyIf (s.rd (FED_CHCFG.shunt c) == 0) [freeUsed s]

/-- What the channel makes of a sample: its place in P_c, its dissipation in INRUSH or LIMIT, and the conditions that must hold from sample to sample
(R327-R330, R334, R336). -/
def fedJudge (c : Nat) (s : State) : List Upd :=
  let st := s.fed c
  let reg := st == FedS.inrush || st == FedS.limit
  let t := s.boundary + 1000 * min 3 (s.rd (V.fedCnt c))
  let e := s.rdI (V.fedE c) + s.fedAmps c * s.fedDrop c
  [setISat (V.fedSum c) (s.rdI (V.fedSum c) + s.rd (FED_CHV.vout c) * s.fedAmps c), .set (V.fedCnt c) (s.rd (V.fedCnt c) + 1)] ++
  onlyIf reg
    ([setISat (V.fedE c) e, .set (FED_CHE.e c) (divOpen e.toNat 6400000), .set (V.fedIreg c) (s.regCurrent c)] ++
     onlyIf (decide (((s.rd (FED_CHEMAX.e_max c) * 6400000 : Nat) : Int) < e)) [.set (V.energyHit c) 1]) ++
  onlyIf (st == FedS.on && s.atLimit c) [.set (V.limitHit c) 1] ++
  sinceAt t (V.fedOkAt c) (reg && s.fedSettled c) s ++
  sinceAt t (V.leakAt c) ((st == FedS.off || (decide (c < 2) && st == FedS.tripped)) && s.leaks c) s ++
  sinceAt t (V.outAt c) (st == FedS.off && decide (2 ≤ c) && decide (s.rd (FED_CHLEAK.vleak c) ≤ s.rd (FED_CHV.vout c))) s ++
  onlyIf (decide (c < 2)) (sinceAt t (V.vinInAt c) (s.vinGood c) s ++ sinceAt t (V.vinOutAt c) (!s.vinGood c) s)

/-- One set of samples of a channel (R326). -/
def fedSample (c : Nat) (s : State) : State := (s.does (fedConvert c)).does (fedJudge c)

/-- The samples of the tick that were not given hold the last one's values (R326). -/
def fedFill (c : Nat) (s : State) : State := (List.range (4 - s.rd (V.fedCnt c))).foldl (fun t _ => fedSample c t) s

/-- Power of a channel over the tick (R327). -/
def fedPower (c : Nat) (s : State) : List Upd :=
  [setISat (FED_CHP.p c) (roundDiv (s.rdI (V.fedSum c) * 5) 32), .set (V.fedSum c) 0, .set (V.fedCnt c) 0]

/-- Tray input power (R327, R339): while held it is the value of the tick before the switch. -/
def trayInput (s : State) : List Upd :=
  let p := if s.on FED_SELSTAT.hold then s.rd V.pinHeld else (s.rdI (FED_CHP.p 0) + s.rdI (FED_CHP.p 1)).toNat
  [.set (FED_PFEED.p 0) (s.rd (FED_CHP.p 0)), .set (FED_PFEED.p 1) (s.rd (FED_CHP.p 1)), .set FED_PIN.p p, .set CAP_PIN.p p,
   .set (V.pinHist (s.tick % 32)) p]

/-- The end of a control tick at the feed tile (R327). -/
def fedMeasure (s : State) : State :=
  ((((List.range 16).foldl (fun t c => fedFill c t) s)).doEach (List.range 16) fedPower).does trayInput

/-- The gate's level at each boundary (R345). -/
def gateShown (c : Nat) (s : State) : List Upd := [setB (FED_CHSTAT.gate_on c) (decide (s.rd (FED_CHPG.vgs c) ≤ s.rd (Sig.fedVgs c)))]

/-- The old feed reads on although its gate is down (R337). -/
def State.oldFeedOn (s : State) : Bool := s.leaks (s.rd V.swOld) || decide (10 ≤ s.rd (Sig.fedVgs (s.rd V.swOld)))

/-- dg of the switch that runs, and 2 µs (R337). -/
def State.judgeTime (s : State) : Nat := (if s.rd V.swCause = 1 then s.rd FED_SELCFG.dg else 0) + 2

/-- dg + 2 µs after t0 the old feed of a switch is confirmed off, or found damaged (R337). -/
def judgeOld (s : State) : State :=
  if s.rd V.swPhase = 1 && !s.on V.swJudged && s.rd V.swT0 + s.judgeTime * 4000 ≤ s.now + 1 then
    (if s.oldFeedOn && s.fed (s.rd V.swOld) ≠ FedS.damaged then fedDamage (s.rd V.swOld) 1 s else s).run [.set V.swJudged 1]
  else s

/-- FED at a control-tick boundary. -/
def fedTick (s : State) : State := judgeOld (((feedsFollow s).doEach (List.range 16) gateShown).does switchTick)

/-- One rail passes R324 as a bound rail of a channel. -/
def State.fedBindOk (s : State) (c : Nat) : Bool :=
  let r := s.rd (FED_CHCFG.seq_rail c)
  let b := s.rd (FED_CHCFG.bind c)
  let n := c - 2
  (if c < 2 then b == 1 else b != 1) &&
    (!(decide (2 ≤ c) && decide (c < 10)) || b == 0 ||
      (b == 2 && s.railPresent r && s.rd (SEQ_RAILMODE.group r) == n &&
        (s.groupRails n).all (fun q => !bit (s.rd (SEQ_RAILMODE.flags q)) 1 || decide (s.rd (SEQ_RAILCFG.on_delay r) < s.rd (SEQ_RAILCFG.on_delay q))))) &&
    (b != 2 || (!bit (s.rd (SEQ_RAILMODE.flags r)) 1 &&
      (List.range 16).all (fun d => d == c || s.rd (FED_CHCFG.bind d) != 2 || s.rd (FED_CHCFG.seq_rail d) != r))) &&
    (b == 0 || (s.rd (FED_CHSOA.p_lim c) != 0 && s.rd (FED_CHSOA.t_flt c) != 0 && s.rd (FED_CHEMAX.e_max c) != 0 && s.rd (FED_CHCFG.shunt c) != 0 &&
      decide (s.rd (FED_CHLIM.i_lim c) < s.rd (FED_CHLIM.i_fast c))))

/-- A rail bound to a channel suits it, as a change of the rails must leave it (R324). -/
def State.fedRailsOk (s : State) : Bool :=
  (List.range 16).all (fun c =>
    let r := s.rd (FED_CHCFG.seq_rail c)
    s.rd (FED_CHCFG.bind c) != 2 || (!bit (s.rd (SEQ_RAILMODE.flags r)) 1 &&
      (!(decide (2 ≤ c) && decide (c < 10)) || (s.railPresent r && s.rd (SEQ_RAILMODE.group r) == c - 2 &&
        (s.groupRails (c - 2)).all (fun q => !bit (s.rd (SEQ_RAILMODE.flags q)) 1 || decide (s.rd (SEQ_RAILCFG.on_delay r) < s.rd (SEQ_RAILCFG.on_delay q)))))))

/-- The commit check of R324 on the values that would take effect. -/
def State.fedTableOk (s : State) : Bool := (List.range 16).all s.fedBindOk

/-- Fields that a live commit may not change at a channel that is not OFF (R324). -/
def fedFrozen (c : Nat) : List Fld :=
  [FED_CHCFG.bind c, FED_CHCFG.seq_rail c, FED_CHCFG.shunt c, FED_CHLIM.i_fast c, FED_CHLIM.i_lim c, FED_CHSOA.p_lim c, FED_CHSOA.t_flt c]

end Sys2Proof.Machine
end

