-- ==== Sys2Proof/Machine/ExecBus.lean ====
section
/-! DEFINITION. Register accesses, staging and transactions: REGISTER_WRITE to TX_TIMEOUT, and ORDER_EFFECT. -/

namespace Sys2Proof.Machine

/-- UPPER_WORD_LATCH (R6): a read of 4 bytes, the lower word of a 64-bit register or the upper, or of 8 bytes. -/
def execUpperWordLatch (req : Nat) (r : WideRead) (s : State) : Result :=
  whenever (!s.spaceOff req) s ((countersSeen r.a s).does (fun t => readEffect req r.a r.width 0 t ++ hostTraffic req false r.width))

/-- RC_READ (R8). -/
def execRcRead (req a hw : Nat) (s : State) : Result := whenever (!s.spaceOff req) s (s.does (fun t => readEffect req a 4 hw t ++ hostTraffic req false 4))

/-- A write of 1 to BLOCK_STGCANCEL (R55). -/
def stgCancel (req blk : Nat) (s : State) : List Upd :=
  if s.planeDown blk then [discardWrite req 6 4 1 (blk + 0xFF0C)]
  else if isServiceCore req && ((s.granted req 0 (blk + 0xFF0C) 4).getD 0) = 0 then [discardWrite req 2 4 1 (blk + 0xFF0C)]
  else match s.staging.stampOf blk req with
    | some st => cancelStage req blk 1 st s
    | none => []

/-- STGCANCEL (R55, R76). -/
def execStgCancel (req blk : Nat) (s : State) : Result := if stagingBases.contains blk then keeperQueues req (blk + 0xFF0C) 4 1 s (s.does (stgCancel req blk)) else .next s

/-- STAGE_APPLY (R51-R54, R262, R583). -/
def execStageApply (s : State) : Result := .next (stageTakesEffect s)

/-- ORDER_EFFECT (R28-R32, R585); the reset gate acts on ACC_RUN, and a channel on its enable, at the same boundary (R328, R381). -/
def execOrderEffect (s : State) : Result := .next (feedsFollow ((List.range 8).foldl (fun t n => gateTick n t) (ordersTakeEffect s)))

/-- A TIM_TXCTL write may act at all (R35, R410, R586): more than one of begin, commit and abort is discarded. -/
def txCtlGate (req value : Nat) (s : State) : Option (List Upd) :=
  if s.planeDown 0x10_0100 then some [discardWrite req 6 4 value 0x10_0100]
  else if isServiceCore req && ((s.granted req 0 0x10_0100 4).getD 0) ≠ 2 then some [discardWrite req 2 4 value 0x10_0100]
  else if popCount 3 value ≠ 1 then some (onlyIf (decide (1 < popCount 3 value)) [discardWrite req 7 4 value 0x10_0100])
  else none

/-- The transaction is open or committing. -/
def State.txLive (s : State) : Bool := s.rd TIM_TXSTAT.state == TxS.openS || s.rd TIM_TXSTAT.state == TxS.committing

/-- A write of TIM_TXCTL.begin (R56, R586). -/
def txBegin (req value : Nat) (s : State) : List Upd :=
  match txCtlGate req value s with
  | some us => us
  | none =>
    if !bit value 0 then []
    else if s.txLive then
      (if s.txOwner = req then [discardWrite req 7 4 value 0x10_0100] else [foreignRec req 0x10_0100 value s])
    else
      [.tx { openedAt := s.now }, .set TIM_TXSTAT.state TxS.openS, .set TIM_TXSTAT.owner req, .set TIM_TXSTAT.cause 0,
       .set TIM_TXSTAMP.stamp 0, .set TIM_TXCOUNT.writes 0]

/-- BEGIN (R56, R586). -/
def execTxBegin (req value : Nat) (s : State) : Result := keeperQueues req 0x10_0100 4 value s (s.does (txBegin req value))

/-- TX_WRITE (R57): the owner's write, while OPEN, to a register that holds RWT fields. -/
def execTxWrite (req a width value : Nat) (s : State) : Result :=
  whenever (!s.spaceOff req && s.rd TIM_TXSTAT.state == TxS.openS && s.txOwner == req &&
      (match regAt? a with | some h => h.fields.any (fun e => e.1.transactional) | none => false))
    s (s.does (writeRegister req a width value 0))

/-- A write of TIM_TXSTAMP (R58). -/
def txStampWrite (req value : Nat) (s : State) : List Upd :=
  if s.rd TIM_TXSTAT.state = TxS.openS && s.txOwner == req then [.set TIM_TXSTAMP.stamp value] else [foreignRec req 0x10_0108 value s]

/-- TXSTAMP_WRITE (R58). -/
def execTxStampWrite (req value : Nat) (s : State) : Result := s.gated req 0x10_0108 8 value false (s.does (txStampWrite req value))

/-- A write of TIM_TXCTL.commit (R58, R59, R586). -/
def txCommit (req value : Nat) (s : State) : List Upd :=
  match txCtlGate req value s with
  | some us => us
  | none =>
    if !bit value 1 then []
    else if !s.txLive then [discardWrite req 7 4 value 0x10_0100]
    else if s.txOwner ≠ req then [foreignRec req 0x10_0100 value s]
    else if s.rd TIM_TXSTAT.state = TxS.committing then [discardWrite req 7 4 value 0x10_0100]
    else if s.rd TIM_TXSTAMP.stamp ≠ 0 && !stampInWindow s.now (s.rd TIM_TXSTAMP.stamp) then txAbortWith 8 0 s
    else [.tx { s.tx with committedAt := s.now }, .set TIM_TXSTAT.state TxS.committing]

/-- COMMIT (R58, R586). -/
def execTxCommit (req value : Nat) (s : State) : Result := keeperQueues req 0x10_0100 4 value s (s.does (txCommit req value))

/-- A write of TIM_TXCTL.abort (R59, R586): the owner's is cause 1, the keeper's cause 2. -/
def txAbort (req value : Nat) (s : State) : List Upd :=
  match txCtlGate req value s with
  | some us => us
  | none =>
    if !bit value 2 then []
    else if !s.txLive then [discardWrite req 7 4 value 0x10_0100]
    else if s.txOwner = req then txAbortWith 1 0 s
    else if req = Req.keeper then txAbortWith 2 0 s
    else [foreignRec req 0x10_0100 value s]

/-- ABORT (R59, R586). -/
def execTxAbort (req value : Nat) (s : State) : Result := keeperQueues req 0x10_0100 4 value s (s.does (txAbort req value))

/-- TX_TIMEOUT (R59): OPEN for longer than TIM_TXTIMEOUT control ticks. -/
def execTxTimeout (s : State) : Result :=
  whenever (s.rd TIM_TXSTAT.state == TxS.openS && decide (s.tx.openedAt + s.rd TIM_TXTIMEOUT.ticks * 4000 < s.now))
    s (s.does (txAbortWith 6 0))

end Sys2Proof.Machine
end

