-- ==== Sys2Proof/Machine/ExecCustody.lean ====
section
/-! DEFINITION. The commands of accelerator custody (chapter 12). -/

namespace Sys2Proof.Machine

/-- A record of a slot's pin, marked where its sample was uncertain (R393). -/
def slotNote (typ n v : Nat) (mark : Bool) (s : State) : Upd :=
  .emit { typ := typ, src := srcOf 0x8 (s.groupInst n), pay := [(24, 1, n), (25, 1, v)], variableMark := mark }

/-- PRESENCE_CHANGE (R379): the pin has held the other level for 10 ms. -/
def execPresenceChange (n : Nat) (s : State) : Result :=
  let p := s.on (ACU_SSTAT.present n)
  whenever (decide (n < 8) && s.stood (if p then V.prsOffAt n else V.prsAt n) 40000000) s
    (let t := s.run [setB (ACU_SSTAT.present n) (!p), .set ACU_EVT.present 1,
       slotNote Ty.ACC_PRESENT n (ofBool (!p)) (s.on (Sig.uncertain 14 n)) s]
     if p then custodyStop n true (gateTick n t) else t)

/-- ALERT_CHANGE (R379, R391). -/
def execAlertChange (n : Nat) (s : State) : Result :=
  let a := s.on (ACU_SSTAT.alert n)
  whenever (decide (n < 8) && s.stood (if a then V.alertOffAt n else V.alertAt n) 4000000) s
    (let t := s.run ([setB (ACU_SSTAT.alert n) (!a), slotNote Ty.ACC_ALERT n (if a then 2 else 1) (s.on (Sig.uncertain 15 n)) s] ++ onlyIf (!a) [.set ACU_EVT.alert 1])
     if !a && s.on (ACU_SBOOT.alert_act n) then t.does (assertReset n 7) else t)

/-- ACC_RESET_RELEASE (R381, R389). -/
def execAccResetRelease (n : Nat) (s : State) : Result :=
  whenever (decide (n < 8) && s.on (ACU_SSTAT.rst n) && s.gatesHold n) s (s.does (releaseReset n))

/-- The fields of ACU_SCFG beside strap and boot, by their own rules (R9). -/
def strapRest (req n value : Nat) (s : State) : List Upd :=
  match regAt? (0xC0_1000 + 0x100 * n) with
  | some h => writeWhole req h (value % 2 ^ 32) 4 0 s
  | none => []

/-- STRAP_WRITE (R382): a write of ACU_SCFG. -/
def execStrapWrite (req n value : Nat) (s : State) : Result :=
  if n < 8 then
    s.gated req (0xC0_1000 + 0x100 * n) 4 value false
      (let t := (s.does (strapRest req n value)).run [.set (ACU_SCFG.strap n) (bits value 0 8), .set (ACU_SCFG.boot n) (bits value 16 2)]
       if s.on (ACU_SSTAT.rst n) then t.does (driveStraps n) else t)
  else .next s

/-- A write of ACU_CMD (R386). -/
def custodyCommand (req n op keep skip : Nat) (s : State) : Result :=
  if n < 8 then
    s.gated req (0xC0_100C + 0x100 * n) 4 (op + keep % 2 * 128 + skip % 2 * 256) false (custodyStart n op (keep % 2) (skip % 2) req s)
  else .next s

/-- READ_ID (R383, R386). -/
def execReadId (req n keep : Nat) (s : State) : Result := custodyCommand req n CusOp.readId keep 0 s

/-- VERIFY (R386). -/
def execVerify (req n keep : Nat) (s : State) : Result := custodyCommand req n CusOp.verify keep 0 s

/-- CHECK (R386). -/
def execCheck (req n keep : Nat) (s : State) : Result := custodyCommand req n CusOp.check keep 0 s

/-- REFLASH (R386, R387). -/
def execReflash (req n keep skip : Nat) (s : State) : Result := custodyCommand req n CusOp.reflash keep skip s

/-- RELEASE (R384, R386). -/
def execRelease (req n : Nat) (s : State) : Result := custodyCommand req n CusOp.release 0 0 s

/-- CLEAR (R386, R389). -/
def execClear (req n : Nat) (s : State) : Result := custodyCommand req n CusOp.clear 0 0 s

/-- CUSTODY_OP_DONE (R383, R386-R389). -/
def execCustodyOpDone (n id kib unit err bytes : Nat) (s : State) : Result :=
  whenever (decide (n < 8) && s.on (ACU_CMDSTAT.busy n) && errPossible (s.rd (V.cusOp n)) err) s (custodyDone n id kib unit err bytes s)

/-- CUSTODY_AUTO (R388, R389). -/
def execCustodyAuto (n : Nat) (s : State) : Result := whenever (decide (n < 8) && s.autoDue n) s (custodyAuto n s)

/-- BOOT_TIMEOUT (R389): no link RUN within boot_to. -/
def execBootTimeout (n : Nat) (s : State) : Result :=
  whenever (decide (n < 8) && s.rd (V.bootAt n) != 0 && decide (s.rd (V.bootAt n) - 1 + 4000000 * s.rd (ACU_SBOOT.boot_to n) ≤ s.boundary)) s (bootTimeout n s)

end Sys2Proof.Machine
end

