-- ==== Sys2Proof/Machine/ExecFeeds.lean ====
section
/-! DEFINITION. The feed tile's commands: INRUSH_TRIP to PIN_HOLD_END, and LIMIT_TRIP (R328-R340). -/

namespace Sys2Proof.Machine

/-- The cause with which INRUSH or LIMIT trips (R328, R330), 0 for none: the lower code where both hold (R342). -/
def State.foldTrip (s : State) (c : Nat) : Nat :=
  if s.rd (V.fedSince c) + s.rd (FED_CHSOA.t_flt c) * 400000 ≤ s.now + 1 then 2
  else if s.on (V.energyHit c) then 3 else 0

/-- A channel tripped as it regulates its current. -/
def foldBack (c st : Nat) (s : State) : Result :=
  whenever (decide (c < 16) && s.fed c == st && s.foldTrip c != 0) s (s.does (fedTrip c (s.foldTrip c) s.now))

/-- INRUSH_TRIP (R328). -/
def execInrushTrip (c : Nat) (s : State) : Result := foldBack c FedS.inrush s

/-- LIMIT_TRIP (R330). -/
def execLimitTrip (c : Nat) (s : State) : Result := foldBack c FedS.limit s

/-- A channel is ON (R329, R330); the new feed of a switch ends it (R337, R339). The unfed time is measured at the bus and is
a FREE VALUE. A switch that stopped ends with no FEED_SWITCH (DESIGN CHOICE, log 195). -/
def channelOn (c : Nat) (s : State) : List Upd :=
  fedTo c FedS.on s ++ [.set (V.fedOkAt c) 0, .set (V.fedIreg c) 0] ++
  (if s.rd V.swPhase = 2 && s.rd FED_SELSTAT.sel = c then
    [note Ty.FEED_SWITCH (fedSrc c) [(24, 1, s.rd V.swOld), (25, 1, c), (26, 1, s.rd V.swCause), (28, 4, s.free), (32, 8, s.rd V.swT0 - 1)],
     freeUsed s, bump s FED_SWITCHES.count, .set FED_EVT.switch 1]
   else []) ++
  onlyIf (decide (2 ≤ s.rd V.swPhase) && s.rd FED_SELSTAT.sel == c) [.set FED_SELSTAT.switching 0, .set V.swPhase 0, .set V.swOnAt (s.now + 1)]

/-- CHANNEL_ON (R329, R330). -/
def execChannelOn (c : Nat) (s : State) : Result :=
  whenever (decide (c < 16) && (s.fed c == FedS.inrush || (s.fed c == FedS.limit && decide (16 * s.fedAmps c < 240 * s.rd (FED_CHLIM.i_lim c)))) &&
      s.rd (V.fedOkAt c) != 0 && decide (s.rd (V.fedOkAt c) + 400000 ≤ s.now + 1)) s
    (s.does (channelOn c))

/-- CHANNEL_LIMIT (R330): at some sample I has reached i_lim, or the dissipation p_lim. -/
def execChannelLimit (c : Nat) (s : State) : Result :=
  whenever (decide (c < 16) && s.fed c == FedS.on &&
      (s.on (V.limitHit c) || s.atLimit c)) s
    (s.does (fedRegulate c FedS.limit))

/-- A comparator's trip: at most one trip a tick, with the lower cause (R331, R342); a latched trip is not counted again. -/
def comparatorTrip (c cause t : Nat) (s : State) : State :=
  if s.fed c = FedS.tripped || (s.fed c = FedS.damaged && bit (s.rd FED_TRIPMAP.latch) c) then
    s.run (onlyIf (s.on (V.tripDue c) && decide (cause < s.rd (FED_CHSTAT.cause c))) [.set (FED_CHSTAT.cause c) cause])
  else if s.fed c = FedS.off then s
  else s.does (fedTrip c cause t)

/-- FAST_TRIP (R331): the shunt comparator sees |I| reach i_fast `dt` into the control tick; i in 1/16 A. -/
def execFastTrip (c dt : Nat) (i : Int) (s : State) : Result :=
  whenever (decide (c < 16) && s.fed c != FedS.off && decide (16 * s.rd (FED_CHLIM.i_fast c) ≤ i.natAbs)) s
    (comparatorTrip c 1 (s.moment dt) (s.run [.set (FED_CHI.i c) (ofSigned 32 i)]))

/-- REVERSE_TRIP (R331): a feed channel's second comparator sees i_rev from VOUT to VIN. -/
def execReverseTrip (c dt : Nat) (i : Int) (s : State) : Result :=
  whenever (decide (c < 2) && s.fed c != FedS.off && decide (i ≤ -((16 * s.rd (FED_CHREV.i_rev c) : Nat) : Int))) s
    (comparatorTrip c 4 (s.moment dt) (s.run [.set (FED_CHI.i c) (ofSigned 32 i)]))

/-- TRIP_PROTECT_ORDERS (R333): the boundary after the trip. -/
def execTripProtectOrders (c : Nat) (s : State) : Result :=
  whenever (decide (c < 16) && s.on (V.tripDue c) && decide (boundaryOf (s.rd (V.tripAt c) - 1) ≤ s.boundary)) s (tripOrders c s)

/-- TRIP_CLEAR (R332, R342): a write of FED_TRIPMAP. -/
def execTripClear (req : Nat) (w : ClearWrite) (s : State) : Result :=
  s.gated req 0xA0_0030 4 w.value false (feedsFollow (gathered (fun v => (bitsOf 16 (clearBits w.value w.hw)).foldl (fun t c => fedUnlatch c t) v) s))

/-- A channel has been commanded off for settle × 10 ms, since cold reset where no command was given (R334). -/
def State.fedRested (s : State) (c : Nat) : Bool :=
  decide (s.rd (V.fedOffAt c) + s.rd (FED_CHLEAK.settle c) * 40000000 ≤ s.now + 1)

/-- A mark has run for 10 ms. -/
def State.tenMs (s : State) (f : Fld) : Bool := s.rd f != 0 && decide (s.rd f + 40000000 ≤ s.now + 1)

/-- What shows a channel damaged (R334), as FEED_DAMAGED codes it; 0 for nothing. -/
def State.damageCode (s : State) (c : Nat) : Nat :=
  let off := s.fed c == FedS.off || (decide (c < 2) && s.fed c == FedS.tripped && s.rd FED_SELSTAT.sel == 1 - c)
  if off && s.fedRested c && s.tenMs (V.leakAt c) then 1
  else if s.fed c = FedS.off && 2 ≤ c && s.fedRested c && s.tenMs (V.outAt c) then 2
  else if s.fed c = FedS.tripped && s.leaks c && s.rd (V.tripAt c) ≠ 0 && s.boundary = boundaryOf (s.rd (V.tripAt c) - 1 + 40000) then 3
  else 0

/-- DAMAGE_DETECT (R334, R335). -/
def execDamageDetect (c : Nat) (s : State) : Result :=
  whenever (decide (c < 16) && s.damageCode c != 0) s (fedDamage c (s.damageCode c) s)

/-- FEED_USABLE (R336). -/
def execFeedUsable (f : Nat) (s : State) : Result :=
  whenever (decide (f < 2) && s.feedQualifies f) s (becomeUsable f s)

/-- VIN has lain outside the window for dg µs (R336). -/
def State.vinLost (s : State) (f : Nat) : Bool := s.rd (V.vinOutAt f) != 0 && decide (s.rd (V.vinOutAt f) + s.rd FED_SELCFG.dg * 4000 ≤ s.now + 1)

/-- The selected feed waits for the clear boundary of an order switch, and is lost before that (R337, R342). -/
def State.waitLost (s : State) (f : Nat) : Bool :=
  s.rd V.swPend == 3 && s.rd FED_SELSTAT.sel == f && (s.vinLost f || s.fed f == FedS.tripped || s.fed f == FedS.damaged)

/-- FEED_UNUSABLE (R336, R337, R340). -/
def execFeedUnusable (f : Nat) (s : State) : Result :=
  whenever (decide (f < 2) && ((s.on (feedUsable f) && (!s.feedFit f || s.vinLost f)) || s.waitLost f)) s
    (becomeUnusable f (if s.vinLost f then s.rd (V.vinOutAt f) - 1 else s.now)
      (!s.vinLost f && !s.isOn Blk.fed Tgt.chEn f && s.fed f != FedS.tripped && s.fed f != FedS.damaged) s)

/-- FEED_REVERT (R337): the switch then waits for a clear boundary. -/
def execFeedRevert (s : State) : Result :=
  let p := s.rd FED_SELCFG.primary
  whenever (s.on FED_SELCFG.revert && s.rd FED_SELSTAT.sel == 1 - p && s.on (feedUsable p) && s.rd V.swPhase == 0 && s.rd V.swPend == 0 &&
      s.rd (V.usableAt p) != 0 && decide (s.rd (V.usableAt p) + s.rd FED_SELCFG.ret * 4000000000 ≤ s.now + 1)) s
    (s.run [.set V.swPend 2])

/-- The dead time has passed (R337): the old feed has been judged, and the feed that is usable starts. -/
def newFeed (s : State) : State :=
  let old := s.rd V.swOld
  let t := judgeOld s
  let new := 1 - old
  if t.rd V.swPhase ≠ 1 then t
  else if t.on (feedUsable new) then (t.run [.set V.swPhase 2]).does (fedRegulate new FedS.inrush)
  else if t.on (feedUsable old) && t.fed old = FedS.off then (t.run [.set V.swPhase 3, .set FED_SELSTAT.sel old]).does (fedRegulate old FedS.inrush)
  else noFeed t

/-- NEW_FEED_INRUSH (R337): dg + 2 + dead µs after t0 of a loss, 2 + dead after any other, unless a shutdown has taken the switch's place (R369). -/
def execNewFeedInrush (s : State) : Result :=
  whenever (s.rd V.swPhase == 1 && s.rd V.pfailRun == 0 && decide (s.rd V.swT0 + (s.judgeTime + s.rd FED_SELCFG.dead) * 4000 ≤ s.now + 1)) s (newFeed s)

/-- PIN_HOLD_END (R339): 10 control ticks after the new feed is ON. -/
def execPinHoldEnd (s : State) : Result :=
  whenever (s.on FED_SELSTAT.hold && s.rd V.swPhase == 0 && s.rd V.swOnAt != 0 && decide (s.rd V.swOnAt + 40000 ≤ s.now + 1)) s
    (s.run [.set FED_SELSTAT.hold 0, .set V.swOnAt 0])

end Sys2Proof.Machine
end

