-- ==== Sys2Proof/Machine/Cells.lean ====
section
/-! DEFINITION. The cells of the control fabric (R217-R228, R236, R237): what each type computes from its inputs, parameters and
kept state. Every result comes with the number of saturations it took (FAB_SATCNT). -/

namespace Sys2Proof.Machine

/-- A cell of the image (R242). -/
structure Cell where
  typ : Nat
  flags : Nat
  op : Nat
  a : Nat
  b : Nat
  init : Int
  pool : Nat

/-- Saturation to 32 bits, counted. -/
def sat32 (x : Int) : Int × Nat := satCount 32 x

/-- The 32-bit pattern of a value. -/
def pat32 (x : Int) : Nat := ofSigned 32 x

/-- One step of the PRNG (R237) on a 64-bit state. -/
def prngStep (x : Nat) : Nat :=
  let x1 := x ^^^ (x * 2 ^ 13 % 2 ^ 64)
  let x2 := x1 ^^^ (x1 / 2 ^ 7)
  x2 ^^^ (x2 * 2 ^ 17 % 2 ^ 64)

/-- The PRNG state that a cell starts from (R237). -/
def prngSeed (seed c : Nat) : Nat :=
  let x := (seed ^^^ (c * 0x9E37_79B9_7F4A_7C15 % 2 ^ 64)) % 2 ^ 64
  if x = 0 then 1 else x

/-- The inputs selected in B[3:0] (R221). -/
def chosen (b : Nat) (ins : List Int) : List Int := (bitsOf 4 b).map (fun i => ins.getD i 0)

/-- Division with R221's rule for a divisor of 0. -/
def divCell (up : Bool) (a b : Int) : Int :=
  if b = 0 then (if a = 0 then 0 else if 0 < a then 2 ^ 31 - 1 else -(2 ^ 31))
  else if up then -((-a) / b) else a / b

/-- floor(a ÷ b) for any sign of the divisor. -/
def floorQuot (up : Bool) (a b : Int) : Int := if b < 0 then divCell up (-a) (-b) else divCell up a b

/-- An ARITH cell (R221): value, state words and saturations. `words` holds ACCUM's sum, DELTA's last input or PRNG's state. A shift by 127
gives what any longer one gives: every bit of a value or a product is gone. -/
def evalArith (c : Cell) (ins : List Int) (words : List Int) : Int × List Int × Nat :=
  let a := ins.getD 0 0
  let b := ins.getD 1 0
  let x := ins.getD 2 0
  let d := ins.getD 3 0
  let plain (v : Int) : Int × List Int × Nat := ((sat32 v).1, words, (sat32 v).2)
  let shift := min c.a 127
  if c.op = 0x00 then
    let sel (i : Nat) (v : Int) : Int := if bit c.b i then v else 0
    let (p, m) := sat32 (sel 0 a + sel 1 b)
    let (q, n) := sat32 (sel 2 x + sel 3 d)
    let (r, k) := sat32 (p + q)
    (r, words, m + n + k)
  else if c.op = 0x01 then plain (a - b)
  else if c.op = 0x02 then plain (a * b / 2 ^ shift)
  else if c.op = 0x03 then plain (rshr (a * b) shift)
  else if c.op = 0x04 then
    let (p, m) := satCount 64 (a * b + x * d)
    let (q, n) := sat32 (rshr p shift)
    (q, words, m + n)
  else if c.op = 0x05 then plain ((chosen c.b ins).foldl min ((chosen c.b ins).headD 0))
  else if c.op = 0x06 then plain ((chosen c.b ins).foldl max ((chosen c.b ins).headD 0))
  else if c.op = 0x07 then plain (min (max a b) x)
  else if c.op = 0x08 then plain (a.natAbs : Int)
  else if c.op = 0x09 then plain (floorQuot false a b)
  else if c.op = 0x0A then plain (floorQuot true a b)
  else if c.op = 0x0B then plain (a / 2 ^ shift)
  else if c.op = 0x0C then plain (a * 2 ^ shift)
  else if c.op = 0x0D then plain (toSigned 32 (pat32 a &&& pat32 b))
  else if c.op = 0x0E then plain (toSigned 32 (pat32 a ||| pat32 b))
  else if c.op = 0x0F then plain (toSigned 32 (pat32 a ^^^ pat32 b))
  else if c.op = 0x10 then
    let (v, n) := if b ≠ 0 then (c.init, 0) else sat32 (words.getD 0 c.init + a)
    (v, [v], n)
  else if c.op = 0x11 then
    let (v, n) := sat32 (a - words.getD 0 c.init)
    (v, [a], n)
  else if c.op = 0x12 then
    let y := prngStep (pat32 (words.getD 0 0) + pat32 (words.getD 1 0) * 2 ^ 32)
    (toSigned 32 (y % 2 ^ 32 &&& c.a), [(y % 2 ^ 32 : Nat), (y / 2 ^ 32 : Nat)], 0)
  else plain 0

/-- A CMP cell (R222): output held between its conditions, with the saturations of the two thresholds it forms (R217, log 177). -/
def evalCmp (c : Cell) (ins : List Int) (last : Int) : Int × Nat :=
  let a := ins.getD 0 0
  let b := ins.getD 1 0
  let x := ins.getD 2 0
  let pa : Int := toSigned 32 c.a
  let pb : Int := toSigned 32 c.b
  if ins.getD 3 0 ≠ 0 then (0, 0)
  else if c.op = 0 then
    let (hi, m) := sat32 (b + pa)
    let (lo, n) := sat32 (b - pb)
    (if hi < a then 1 else if a < lo then 0 else last, m + n)
  else if c.op = 1 then
    let (lo, m) := sat32 (b - pa)
    let (hi, n) := sat32 (b + pb)
    (if a < lo then 1 else if hi < a then 0 else last, m + n)
  else if c.op = 2 then (if a = b then 1 else 0, 0)
  else (if b ≤ a && a ≤ x then 1 else 0, 0)

/-- A TIMER cell (R223): output, [count, last input a, a PULSE has begun] and saturations, those of N and of the count (R217). -/
def evalTimer (c : Cell) (ins : List Int) (words : List Int) : Int × List Int × Nat :=
  let a := ins.getD 0 0
  let (n, m) := sat32 (toSigned 32 c.a + ins.getD 1 0)
  let count := words.getD 0 0
  let lastA := words.getD 1 0
  let (next, h) := sat32 (count + 1)
  if ins.getD 2 0 ≠ 0 then (0, [0, a, 0], 0)
  else if c.op = 0 then
    let k := if a ≠ 0 then next else 0
    (if n ≤ k then 1 else 0, [k, a, 0], m + (if a ≠ 0 then h else 0))
  else if c.op = 1 then
    let k := if a ≠ 0 then 0 else next
    (if a ≠ 0 || k < n then 1 else 0, [k, a, 0], m + (if a ≠ 0 then 0 else h))
  else if c.op = 2 then
    let rose := a ≠ 0 && lastA = 0
    let live := rose || words.getD 2 0 = 1
    let rises := live && !rose
    let k := if rises then next else 0
    (if live && k < n then 1 else 0, [k, a, if live then 1 else 0], m + (if rises then h else 0))
  else if c.op = 3 then
    let k := if a ≠ 0 then next else count
    (k, [k, a, 0], if a ≠ 0 then h else 0)
  else
    let k := if n ≤ 0 then 0 else next % n
    (if k = toSigned 32 c.b then 1 else 0, [k, a, 0], m + h)

/-- An FSM cell (R224): `byte o` and `word o` read its pool block. -/
def evalFsm (c : Cell) (ins : List Int) (st : Nat) (byte : Nat → Nat) (word : Nat → Int) : Int × Nat :=
  let next : Nat :=
    if ins.getD 3 0 ≠ 0 then c.a % 16
    else
      let hit := (List.range 4).find? (fun i =>
        let t := byte (8 * st + i)
        let sel := bits t 4 2
        let cond := if sel = 3 then true else (ins.getD sel 0 != 0) == bit t 6
        bit t 7 && cond)
      match hit with
      | some i => byte (8 * st + i) % 16
      | none => st
  (word (8 * next + 4), next)

/-- A BIQUAD cell (R225): x1, x2, y1, y2 kept. -/
def evalBiquad (c : Cell) (ins : List Int) (words : List Int) (last : Int) (word : Nat → Int) : Int × List Int × Nat :=
  if ins.getD 1 0 ≠ 0 then (c.init, [0, 0, 0, 0], 0)
  else if ins.getD 2 0 ≠ 0 then (last, words, 0)
  else
    let a := ins.getD 0 0
    let x1 := words.getD 0 0
    let x2 := words.getD 1 0
    let y1 := words.getD 2 0
    let y2 := words.getD 3 0
    let (t1, n1) := satCount 64 (word 0 * a + word 4 * x1)
    let (t2, n2) := satCount 64 (t1 + word 8 * x2)
    let (t3, n3) := satCount 64 (t2 - word 12 * y1)
    let (t4, n4) := satCount 64 (t3 - word 16 * y2)
    let (y, n) := sat32 (rshr t4 29)
    (y, [a, x1, y, y1], n1 + n2 + n3 + n4 + n)

/-- A TABLE cell (R226). -/
def evalTable (c : Cell) (ins : List Int) (entry : Nat → Int) : Int × Nat :=
  let t := ins.getD 0 0 - toSigned 32 c.a
  let s := c.b % 32
  if t < 0 then (entry 0, 0)
  else
    let k := (t / 2 ^ s).toNat
    if 255 ≤ k then (entry 255, 0)
    else if c.op % 2 = 0 then (entry k, 0)
    else
      let (d, m) := sat32 (entry (k + 1) - entry k)
      let (y, n) := sat32 (entry k + rshr (d * (t - k * 2 ^ s)) s)
      (y, m + n)

/-- A SAMPLER cell (R227): output and [last level, count]. -/
def evalSampler (c : Cell) (ins : List Int) (words : List Int) (last v : Int) (first : Bool) : Int × List Int :=
  let prev := words.getD 0 0
  let rise := !first && prev = 0 && v ≠ 0
  let fall := !first && prev ≠ 0 && v = 0
  let n := words.getD 1 0
  let n' := if (c.op = 1 && rise) || (c.op = 2 && fall) then (n + 1) % 2 ^ 32 else n
  let out := if c.op = 0 then v else toSigned 32 (pat32 n')
  (if ins.getD 0 0 ≠ 0 then last else out, [v, n'])

/-- A MUX cell (R228). -/
def evalMux (c : Cell) (ins : List Int) (last : Int) : Int :=
  let a := ins.getD 0 0
  let b := ins.getD 1 0
  let x := ins.getD 2 0
  let d := ins.getD 3 0
  if c.op = 0 then (if a ≤ 0 then b else if a = 1 then x else d)
  else if c.op = 1 then (if a ≠ 0 then b else last)
  else if b ≠ 0 then b else if x ≠ 0 then x else d

/-- Latency of a cell in fabric cycles (R220). -/
def cellLatency (typ op : Nat) : Nat :=
  if typ = 0 then (if op = 0x02 || op = 0x03 || op = 0x04 then 2 else if op = 0x09 || op = 0x0A then 8 else 1)
  else if typ = 3 then 2 else if typ = 4 then 4 else if typ = 5 then (if op % 2 = 1 then 3 else 2) else 1

/-- CRC-64 with polynomial 0x42F0_E1EB_A9EA_3693, not reflected, over bytes (R236). -/
def crc64 (bs : List Nat) : Nat :=
  bs.foldl (fun c b =>
    (List.range 8).foldl (fun x _ => if 2 ^ 63 ≤ x then (x * 2 % 2 ^ 64) ^^^ 0x42F0_E1EB_A9EA_3693 else x * 2) (c ^^^ (b * 2 ^ 56))) (2 ^ 64 - 1)

end Sys2Proof.Machine
end

