-- ==== Sys2Proof/Machine/Caps.lean ====
section
/-! DEFINITION. Droop, slope and power caps (chapter 5): the combine stage, the quotas, the ramp envelope and ballast, caps over
windows, the frequency index and the ageing trim. -/

namespace Sys2Proof.Machine

/-- src of CAP's records: a slot, or the tray (R63, R587). -/
def capSrc (n : Nat) : Nat := srcOf 0x4 (if n = 8 then 0xFFF else n)

/-- The reserve item in force for a slot (R282): G_policy, F_policy, q_reserve. -/
def State.gPolicy (s : State) (n : Nat) : Nat := s.reserve (s.rd (V.slotClass n)) 2 2
def State.fPolicy (s : State) (n : Nat) : Nat := s.reserve (s.rd (V.slotClass n)) 4 1
def State.qReserve (s : State) (n : Nat) : Nat := s.reserve (s.rd (V.slotClass n)) 5 1

/-- A rail has a replacement in progress (R106). -/
def State.replacing (s : State) (r : Nat) : Bool :=
  (List.range 320).any (fun c => s.rd (V.repFor c) != 0 && s.railOf c == r)

/-- Slot power in mW: core rail, then memory rail (R119, R167); a slot that on the whole gives power back takes none. -/
def State.slotPower (s : State) (n : Nat) : Nat :=
  (s.rdI (PHT_RP.p (railTile n) (railLocal n)) + s.rdI (PHT_RP.p (railTile (n + 8)) (railLocal (n + 8)))).toNat

/-- q_droop at the boundary that ends the tick (R164). -/
def State.droopQuota (s : State) (n : Nat) : Nat :=
  if !s.on (CAP_DROOP.droop_en n) then 0
  else
    let qp := s.rd (CAP_DROOP.kq n) * (s.rd (V.uMax n) - s.rd (CAP_DROOP.dead n)) / 256
    let qd := s.rd (CAP_QOUT.q_droop n) * (256 - s.rd (CAP_DROOP.decay n)) / 256
    min (s.rd (CAP_SCFG.q_dmax n)) (max qp (max qd (s.rd (V.brakeTick n) * s.rd (CAP_SCFG.q_brk n))))

/-- The droop quota and its record, and the count of ticks with the brake (R164, R160, R186). -/
def droopTick (n : Nat) (s : State) : List Upd :=
  let q := s.droopQuota n
  onlyIf (s.rd (CAP_QOUT.q_droop n) == 0 && decide (0 < q))
    [note Ty.DROOP (capSrc n) [(24, 1, n), (25, 1, q), (26, 1, s.rd (V.brakeTick n)), (28, 2, s.rd (V.uMax n)), (30, 2, s.rd (V.vt n))]] ++
  onlyIf (s.on (V.brakeTick n)) [.set (SWJ_BRKTIME.ticks n) (s.rd (SWJ_BRKTIME.ticks n) + 1)] ++
  [.set (CAP_QOUT.q_droop n) q]

/-- The next tick's summary of a rail starts afresh (R164, R243); a brake flag that stands is asserted in it too. -/
def summaryNext (r : Nat) (s : State) : List Upd :=
  [.set (V.uMax r) 0, setB (V.brakeTick r) (s.on (PHT_RSTAT.brake (railTile r) (railLocal r))), .set (V.faultEvt r) 0]

/-- The bridging quota in force (R166, R246). -/
def bridgeTick (n : Nat) (s : State) : List Upd :=
  let live := s.on (V.faultEvt n) || s.on (V.faultEvt (n + 8)) || s.replacing n || s.replacing (n + 8)
  [.set (CAP_QOUT.q_bridge n) (if live then max (s.rd (CAP_SCFG.q_bridge n)) (s.qReserve n) else 0)]

/-- The slot is over a ceiling (R167). -/
def State.overCeiling (s : State) (n : Nat) : Bool :=
  decide ((s.ceilingOr 0xFFFF_FFFF Blk.cap Tgt.currCeil n : Int) < s.rdI (PHT_RI.i (railTile n) (railLocal n))) ||
  decide ((s.rd (PHT_RCEIL.i (railTile (n + 8)) (railLocal (n + 8))) : Int) < s.rdI (PHT_RI.i (railTile (n + 8)) (railLocal (n + 8)))) ||
  decide (s.rd (CAP_CEILCFG.p_short n) * 1000 * 1000 < s.rd (V.pwSum n)) || s.on (V.overAtZero n)

/-- q_ceil (R167). -/
def ceilTick (n : Nat) (s : State) : List Upd :=
  let q := s.rd (CAP_QOUT.q_ceil n)
  let q' := if s.overCeiling n then min (s.rd (CAP_CEILCFG.q_max n)) (q + s.rd (CAP_CEILCFG.q_up n)) else q - 1
  [.set (CAP_QOUT.q_ceil n) q'] ++ onlyIf (q == 0 && decide (0 < q')) [.set CAP_EVT.ceil 1]

/-- The slot's power joins its 1,000-tick mean and its 1 ms bin (R167, R176). Energies are in nJ. -/
def slotEnergy (n : Nat) (s : State) : List Upd :=
  let p := s.slotPower n
  let i := s.tick % 1000
  let sum := s.rd (V.pwSum n) + p - s.rd (V.pw n i)
  let up := s.rd (rState n) == RailS.regulating
  [.set (CAP_SP.p n) p, .set (V.pw n i) p, .set (V.pwSum n) sum, .set (CAP_S1MS.p n) (divOpen sum 1000), .set (V.binAcc n) (s.rd (V.binAcc n) + (if up then p else 0))]

/-- The tray's input power joins its bin (R176). -/
def trayEnergy (s : State) : List Upd := [.set (V.binAcc 8) (s.rd (V.binAcc 8) + s.rd CAP_PIN.p)]

/-- A 1 ms bin closes for every scope (R176). -/
def closeBins (s : State) : List Upd :=
  (List.range 9).flatMap (fun n => [.set (V.bin n (s.rd V.binCount % 60000)) (s.rd (V.binAcc n)), .set (V.binAcc n) 0]) ++ [bump s V.binCount]

/-- Energy of the last 1,000 × w bins of a scope, in nJ. -/
def State.windowEnergy (s : State) (n w : Nat) : Nat :=
  sumTo (1000 * w) (fun i => if i < s.rd V.binCount then s.rd (V.bin n ((s.rd V.binCount - 1 - i) % 60000)) else 0)

/-- The standing caps of a scope (R176): value in W and window in s. -/
def State.caps (s : State) (n : Nat) : List (Nat × Nat) :=
  ((s.orders.standing.filter (fun o => o.blk == Blk.cap && o.target == (if n = 8 then Tgt.trayCap else Tgt.slotCap) && o.scope == n)).map (fun o => (o.value, o.window)))

/-- A windowed mean lies above, or below, a share m/256 of a cap (R177). -/
def State.capOver (s : State) (n m : Nat) (c : Nat × Nat) : Bool := decide (c.1 * m * c.2 * 1000000000 < s.windowEnergy n c.2 * 256)
def State.capUnder (s : State) (n m : Nat) (c : Nat × Nat) : Bool := decide (s.windowEnergy n c.2 * 256 < c.1 * m * c.2 * 1000000000)

/-- The mean of a scope over a window, in W. -/
def State.meanW (s : State) (n w : Nat) : Nat := divOpen (s.windowEnergy n w) (w * 1000000000)

/-- Fields of a scope's cap loop. -/
def idxCap (n : Nat) : Fld := if n = 8 then CAP_TRAYFREQ.idx_cap else CAP_FREQ.idx_cap n

/-- CAP_ACT (R186). -/
def capAct (n old new reason mean cap win : Nat) : Upd :=
  note Ty.CAP_ACT (capSrc n) [(24, 1, n), (25, 1, old), (26, 1, new), (27, 1, reason), (28, 4, mean), (32, 4, cap), (36, 1, win)]

/-- V_nom of a slot's index in 0.1 mV (R189). -/
def State.vNom (s : State) (n i : Nat) : Nat := if i % 2 = 0 then s.rd (CAP_VTAB.lo n (i / 2)) else s.rd (CAP_VTAB.hi n (i / 2))

/-- The frequency table is strictly ascending (R175). -/
def State.tableAscends (s : State) (n : Nat) : Bool := (List.range (s.nfreq n - 1)).all (fun i => decide (s.freqMHz n i < s.freqMHz n (i + 1)))

/-- i_ceil (R178); a table that does not ascend holds the slot at 0 (R175). -/
def State.iCeil (s : State) (n : Nat) : Nat :=
  if s.on (V.badTable n) then 0
  else min (min (s.ceilingOr 0xFF Blk.cap Tgt.freqCeil n) (s.ceilingOr 0xFF Blk.cap Tgt.freqCeil 8))
    (min (min (s.rd (CAP_FREQ.idx_cap n)) (s.rd CAP_TRAYFREQ.idx_cap)) (s.nfreq n - 1))

/-- A job's descriptor in force. -/
def State.job (s : State) (j : Nat) : JobRun := tableGet {} s.jobs j

/-- The job of a slot, if any (R273). -/
def State.jobOf (s : State) (n : Nat) : Option Nat := (List.range 8).find? (fun j => (s.job j).valid && bit (s.job j).slots n)

/-- The index pending, or in force. -/
def State.iPend (s : State) (n : Nat) : Nat := if s.on (SWJ_FREQPEND.valid n) then s.rd (SWJ_FREQPEND.index n) else s.rd (CAP_FREQ.force n)

/-- The core rail's base set-point in 0.1 mV (R179): V_nom of the highest index in force, pending or prepared, plus the trim. -/
def State.coreBase (s : State) (n : Nat) : Nat :=
  let f := s.rd (CAP_FREQ.force n)
  let i := max f (max (s.iPend n) (if s.on (V.rising n) || s.on (V.capRise n) then f + 1 else f))
  satUnsigned 32 ((s.vNom n i : Int) + s.rdI (CAP_AGE.trim n))

/-- V_base has reached the set-point of the next index (R179). -/
def State.riseReady (s : State) (n : Nat) : Bool :=
  decide ((16 * ((s.vNom n (s.rd (CAP_FREQ.force n) + 1) : Int) + s.rdI (CAP_AGE.trim n))) ≤ s.rd (V.vbase n))

/-- The job time 20 µs from a tray time, or the apply-at of the pending FREQ if that is later (R178); a lowering that cancels a pending
raise takes the raise's apply-at (R185). -/
def State.freqAt (s : State) (n : Nat) : Nat :=
  let at' := (s.jobNow + 80000) % 2 ^ 64
  if !s.on (SWJ_FREQPEND.valid n) then at'
  else if s.rd (CAP_FREQ.force n) < s.rd (SWJ_FREQPEND.index n) && (s.jobOf n).isNone && decide (s.now < s.trayTime (s.rd (SWJ_FREQAT.at_ n))) then s.rd (SWJ_FREQAT.at_ n)
  else max at' (s.rd (SWJ_FREQAT.at_ n))

/-- The index that a slot in a job may have (R178, R179): a rise goes one step, once the voltage leads it. -/
def State.offered (s : State) (n : Nat) : Nat :=
  let f := s.rd (CAP_FREQ.force n)
  min (s.iCeil n) (if s.riseReady n then f + 1 else f)

/-- PROTECT holds a FREQ_CEIL below an index on the slot or the tray (R274). -/
def State.protectBelow (s : State) (n i : Nat) : Bool :=
  [n, 8].any (fun sc => match s.orders.standingOf Src.protect Blk.cap Tgt.freqCeil sc with
    | some o => decide (o.value < i)
    | none => false)

/-- i_ceil, and FREQ to a slot in no job (R178, R179, R274). -/
def freqOffer (n : Nat) (s : State) : List Upd :=
  let c := s.iCeil n
  let f := s.rd (CAP_FREQ.force n)
  let cur := s.iPend n
  let run := s.rd (lkState n) == LinkS.run || s.rd (lkState n) == LinkS.switch
  let job := s.jobOf n
  let want := decide (f < c) && !s.on (SWJ_FREQPEND.valid n)
  [.set (CAP_FREQ.ceil n) c, setB (V.rising n) (run && want)] ++
  (if !run then []
   else match job with
     | none =>
       if c < cur then sendFreq n c 0xFF (s.freqAt n) s
       else if want && s.riseReady n then sendFreq n (f + 1) 0xFF (s.freqAt n) s
       else []
     | some j => if s.protectBelow n cur && decide (c < cur) then sendFreq n c j (s.freqAt n) s else [])

/-- DCW.freq follows a FREQ whose apply-at has come (R130, R151). -/
def freqDue (n : Nat) (s : State) : List Upd :=
  onlyIf (s.on (SWJ_FREQPEND.valid n) && decide (s.trayTime (s.rd (SWJ_FREQAT.at_ n)) ≤ s.now)) [.set (V.freqHeld n) (s.rd (SWJ_FREQPEND.index n))]

/-- ENV_FLOOR in force, held to the lowest TRAY_CAP (R184). -/
def State.envFloor (s : State) : Nat :=
  match s.orders.deciding Blk.cap Tgt.trayCap 8 with
  | some c => min (s.orders.value Blk.cap Tgt.envFloor 8) c.value
  | none => s.orders.value Blk.cap Tgt.envFloor 8

/-- The floor and the tray cap conflict (R184). -/
def State.floorConflict (s : State) : Bool :=
  match s.orders.deciding Blk.cap Tgt.trayCap 8 with
  | some c => decide (c.value < s.orders.value Blk.cap Tgt.envFloor 8)
  | none => false

/-- The slot's core rail regulates and its link is in RUN (R171, R173). -/
def State.paced (s : State) (n : Nat) : Bool := s.rd (rState n) == RailS.regulating && s.rd (lkState n) == LinkS.run

/-- ENVELOPE (R186). -/
def envRec (ev a p b : Nat) : Upd := note Ty.ENVELOPE (capSrc 8) [(24, 1, ev), (28, 4, a / 1000), (32, 4, p / 1000), (36, 4, b / 1000)]

/-- A conflict of the floor and the tray cap is marked as it begins (R184). -/
def conflictNote (a p : Nat) (s : State) : List Upd :=
  onlyIf (s.floorConflict && !s.on V.floorClash) [envRec 4 a p (s.rd V.ballast)] ++ [setB V.floorClash s.floorConflict]

/-- ramp_env of an eligible slot (R171). A wq of 0, which may not be while env_en = 1, leaves the value open. -/
def State.rampEnv (s : State) (n : Nat) (h : Int) : Nat × Bool :=
  let ne := ((List.range 8).filter s.paced).length
  let d := ne * s.rd (CAP_WQ.wq n)
  if !s.paced n then (255, false)
  else if d = 0 then (s.free % 256, true)
  else (min 255 (h.toNat / d), false)

/-- The envelope at a boundary (R170, R171). -/
def envTick (s : State) : List Upd :=
  let p := s.rd CAP_PIN.p
  if !s.on CAP_CTL.env_en then
    [.set CAP_ENVA.a p, .set CAP_ENVQ.q_env 0, .set V.envRuns 0, .set V.overTicks 0] ++ (List.range 8).map (fun n => .set (CAP_ROUT.ramp_env n) 255) ++
    conflictNote p p s
  else
    let prev := s.rd CAP_ENVA.a
    let up := s.envLimit Tgt.envUp V.jobEnvUp
    let dn := s.envLimit Tgt.envDown V.jobEnvDown
    let hi := match up with | some x => prev + x | none => max p prev
    let lo := match dn with | some x => prev - x | none => min p prev
    let a := max (if s.on V.envRuns then clampNat lo hi p else p) (s.envFloor * 1000)
    let band := s.rd CAP_ENVCFG.band * 1000
    let h : Int := (a + band : Nat) - (p : Int)
    let q := s.rd CAP_ENVQ.q_env
    let q' := if a + band < p then min (s.rd CAP_ENVCFG.qmax) (q + 1) else if p < a then q - 1 else q
    let high := if a + band < p then min 1000 (s.rd V.overTicks + 1) else 0
    [.set CAP_ENVA.a a, .set CAP_ENVQ.q_env q', setISat CAP_ENVQ.h (h / 1000), .set V.envRuns 1, .set V.overTicks high] ++
    (List.range 8).flatMap (fun n => [.set (CAP_ROUT.ramp_env n) (s.rampEnv n h).1] ++ onlyIf (s.rampEnv n h).2 [freeUsed s]) ++
    onlyIf (high == 10) [.set CAP_EVT.env_over 1, envRec 3 a p (s.rd V.ballast)] ++
    conflictNote a p s

/-- A slot may take ballast (R173, R184). -/
def State.ballastOk (s : State) (n : Nat) : Bool :=
  s.paced n && decide (0 < s.ballastMax n) && !s.on (V.brakeTick n) && (s.orders.standingOf Src.protect Blk.cap Tgt.freqCeil n).isNone &&
    (match s.orders.deciding Blk.cap Tgt.slotCap n with
     | some c => s.capUnder n (256 - s.rd CAP_CAPCFG.margin) (c.value, 1)
     | none => true)

/-- The slots that take ballast: the longest run of eligible slots whose equal share reaches every one's least (R173). -/
def shareCount (brail : Nat) (mins : List Nat) : Nat → Nat
  | 0 => 0
  | 1 => 1
  | n + 2 => if ceilDiv brail (n + 2) < (mins.take (n + 2)).foldl max 0 * 1000 then shareCount brail mins (n + 1) else n + 2

/-- The tray ballast and its shares (R172-R174). -/
def ballastTick (s : State) : List Upd :=
  let p := s.rd CAP_PIN.p
  let a := s.rd CAP_ENVA.a
  let band := s.rd CAP_ENVCFG.band * 1000
  let eta := s.rd CAP_ENVETA.eta
  let e := (List.range 8).filter s.ballastOk
  let on := s.on CAP_CTL.env_en && s.isOn Blk.cap Tgt.ballastEn 8
  let cap := e.foldl (fun x n => x + ceilDiv (s.ballastMax n * 256000) eta) 0
  let l : Int := (a : Int) - band
  let b := if on then (clampInt 0 cap ((s.rd V.ballast : Int) + (s.rd CAP_ENVCFG.gb * (l - p)) / 256)).toNat else 0
  let brail := ceilDiv (b * eta) 256
  let n := shareCount brail (e.map s.ballastMin) e.length
  let level (i : Nat) : Nat := if (e.take n).contains i then min (s.ballastMax i) (ceilDiv (ceilDiv brail n) 1000) else 0
  let short := on && b == cap && decide ((p : Int) < l)
  let gap := if short then (l - p).toNat else 0
  [.set V.ballast b, .set CAP_ENVBAL.b (b / 1000), .set CAP_ENVBAL.short (min 0xFFFF (gap / 1000)), setB V.shortfall short] ++
  (List.range 8).flatMap (fun i => [setB (CAP_BAL.elig i) (e.contains i), .set (CAP_BAL.level i) (level i)]) ++
  onlyIf (short && !s.on V.shortfall) [.set CAP_EVT.bal_short 1, envRec 1 a p b] ++
  onlyIf (!short && s.on V.shortfall) [envRec 2 a p b]

/-- The hint terms in effect for a slot at a boundary (R169): the largest of each. -/
def State.hintTerms (s : State) (n b : Nat) : Nat × Nat :=
  (s.hints.filter (fun h => h.slot == n && decide (h.start ≤ b) && decide (b < h.stop))).foldl (fun a h => (max a.1 h.f, max a.2 h.g)) (0, 0)

/-- q_out, ramp_out, F and G of a slot for the boundary b (R161, R163), with the EXT term e of R233. -/
def State.combQ (s : State) (n : Nat) (e : Int) : Nat :=
  min 255 (max (max (s.rd (CAP_QOUT.q_droop n)) (s.rd (CAP_QOUT.q_bridge n))) (max (max (s.rd (CAP_QOUT.q_ceil n)) (s.rd CAP_ENVQ.q_env)) e.toNat))
def State.fcRamp (s : State) (n : Nat) : Nat := if s.on (V.planeHeld 1) then 255 else s.rd (PRD_OUT.ramp_fc n)
def State.combR (s : State) (n : Nat) (e : Int) : Nat :=
  min (min (s.rd (CAP_SCFG.ramp_cfg n)) (min (s.ceilingOr 0xFF Blk.cap Tgt.rampCeil n) 255)) (min (min (s.rd (CAP_ROUT.ramp_env n)) (s.fcRamp n)) e.toNat)
def State.combF (s : State) (b n : Nat) (e : Int) : Nat :=
  min 63 (max (max (s.hintTerms n b).1 (if s.on (V.planeHeld 1) then 0 else s.rd (PRD_OUT.f_fc n))) (max (s.fPolicy n) e.toNat))
def State.combG (s : State) (b n : Nat) (e : Int) : Nat :=
  min 0xFFFF (max (max (s.hintTerms n b).2 (if s.on (V.planeHeld 1) then 0 else s.rd (PRD_OUT.g_fc n))) (max (s.gPolicy n) e.toNat))

/-- The combine stage of a slot, for the boundary b (R161, R163, R233). -/
def combineStage (b n : Nat) (s : State) : List Upd :=
  let f := s.combF b n (s.rdI (V.ext n 1))
  let g := s.combG b n (s.rdI (V.ext n 2))
  [.set (CAP_QOUT.q_out n) (s.combQ n (s.rdI (V.ext n 0))), .set (CAP_ROUT.ramp_out n) (s.combR n (s.rdI (V.ext n 3))), .set (CAP_ROUT.ramp_fc n) (s.fcRamp n),
   .set (CAP_ROUT.ceil n) (min (s.ceilingOr 0xFF Blk.cap Tgt.rampCeil n) 255), .set (CAP_FG.f n) f, .set (CAP_FG.g n) g, .set (V.outFloor n) f, .set (V.outGuard n) g,
   .set (V.outBase n) (s.coreBase n), .set (V.outBaseBound n) 1]

/-- CAP's laws at the boundary that ends a tick, in the order of R164 to R174; the combine stage follows once the fabric has
given its terms. -/
def capLaws (s : State) : State :=
  let slots := List.range 8
  let s1 := (s.doEach slots slotEnergy).does trayEnergy
  if !s.committed then s1.doEach (List.range 18) summaryNext
  else
    let s2 := ((s1.doEach slots droopTick).doEach slots bridgeTick).doEach slots ceilTick
    let s3 := ((s2.does envTick).does ballastTick).doEach (List.range 18) summaryNext
    (s3.doEach slots freqDue).doEach slots freqOffer

/-- The combine stage of every slot. -/
def combineAll (b : Nat) (s : State) : State :=
  if !s.committed then s
  else (s.doEach (List.range 8) (combineStage b)).run [.set CAP_TRAYFREQ.ceil (s.ceilingOr 0xFF Blk.cap Tgt.freqCeil 8)]

/-- The cap loop of one scope (R177). To rise from the index in force it first raises V_base to the next index's set-point (R179). -/
def capScopeLoop (n : Nat) (s : State) : List Upd :=
  let cs := s.caps n
  let m := 256 - s.rd CAP_CAPCFG.margin
  let worst := cs.find? (s.capOver n m)
  let under := cs.all (s.capUnder n (m - s.rd CAP_CAPCFG.hys))
  let idx := s.rd (idxCap n)
  let dwell := s.rd CAP_CAPCFG.dwell
  let run := if under then min (2 ^ 32 - 1) (s.rd (V.underMs n) + 1) else 0
  let wants := worst.isNone && decide (dwell ≤ run) && (s.rd (V.raisedAt n) == 0 || decide (s.rd (V.raisedAt n) + dwell * 4000000 ≤ s.now + 1)) && decide (idx < 0xFF)
  let permitted := wants && (n == 8 || s.riseReady n || decide (idx < s.rd (CAP_FREQ.force n)))
  onlyIf (n != 8) [setB (V.capRise n) (wants && !permitted && idx == s.rd (CAP_FREQ.force n) && decide (idx + 1 < s.nfreq n))] ++
  [.set (V.underMs n) run, setB (V.overAtZero n) (worst.isSome && idx == 0 && n != 8)] ++
  (match worst with
   | some c =>
     if 0 < idx then [.set (idxCap n) (idx - 1), .set CAP_EVT.cap_act 1, capAct n idx (idx - 1) 1 (s.meanW n c.2) c.1 c.2]
     else onlyIf (s.rd (V.unmetSince n) == 0) [.set (V.unmetSince n) (s.now + 1)]
   | none =>
     [.set (V.unmetSince n) 0, .set (V.unmetTold n) 0] ++
     onlyIf permitted [.set (idxCap n) (idx + 1), .set (V.raisedAt n) (s.now + 1), .set CAP_EVT.cap_act 1,
       capAct n idx (idx + 1) 2 (s.meanW n ((cs.headD (0, 1)).2)) (cs.headD (0, 0)).1 (cs.headD (0, 0)).2])

/-- The shortest standing window of a scope, and the mean over it in mW. -/
def shortMean (n : Nat) (s : State) : List Upd :=
  match (s.caps n).map (·.2) with
  | [] => []
  | w :: ws =>
    let m := ws.foldl min w
    [.set (if n = 8 then CAP_TRAYAVG.p else CAP_SAVG.p n) (divOpen (s.windowEnergy n m) (m * 1000000))]

/-- Brake escalation of a slot at the end of a cap-loop interval (R180). -/
def escalate (n : Nat) (s : State) : State :=
  let f := s.rd (CAP_FREQ.force n)
  let hit := decide (s.rd (CAP_BRKESC.thr n) ≤ s.rd (V.brakes n))
  let t := s.run [.set (V.brakes n) 0]
  if hit then
    let u := t.run ([.set (CAP_FREQ.esc n) (f - 1), .set (V.escUntil n) (s.now + s.rd (CAP_BRKESC.hold n) * 4000000), .set CAP_EVT.escal 1,
      .set (CAP_ESCCNT.count n) (s.rd (CAP_ESCCNT.count n) + 1)] ++
      onlyIf (s.rd (CAP_FREQ.esc n) != f - 1) [capAct n f (f - 1) 3 0 0 0])
    protectHold ⟨.escalation n, Blk.cap, Tgt.freqCeil, n, f - 1⟩ u
  else t

/-- The cap loop (R177, R180), once in 1,000 ticks. -/
def capLoop (s : State) : State :=
  let t := s.run [.set V.capLoopAt (s.tick + 1)]
  let u := (if s.on CAP_CTL.cap_en then t.doEach (List.range 9) capScopeLoop else t.run ((List.range 8).map (fun n => .set (V.capRise n) 0))).doEach (List.range 9) shortMean
  ((List.range 8).foldl (fun w n => escalate n w) u).doEach (List.range 8) freqOffer

/-- The escalation ceiling of a slot ends (R180). -/
def escalationRelease (n : Nat) (s : State) : State :=
  protectDropAll (.escalation n) (s.run [capAct n (s.rd (CAP_FREQ.esc n)) 0xFF 4 0 0 0, .set (CAP_FREQ.esc n) 0xFF, .set (V.escUntil n) 0, .set CAP_EVT.escal 1])

/-- The ageing trim moves (R181, R186), within its limits. -/
def trimTo (n group : Nat) (slack new : Int) (s : State) : List Upd :=
  let old := s.rdI (CAP_AGE.trim n)
  let t := clampInt (-(s.rd (CAP_AGELIM.trim_dn_max n) : Int)) (s.rd (CAP_AGELIM.trim_up_max n)) new
  onlyIf (t != old)
    [setI (CAP_AGE.trim n) t, .set CAP_EVT.age 1,
     note Ty.AGE_TRIM (capSrc n) [(24, 1, n), (25, 1, group), (26, 2, ofSigned 16 old), (28, 2, ofSigned 16 t), (30, 2, ofSigned 16 slack)]]

/-- The groups a slot declared. -/
def State.groups (s : State) (n : Nat) : List Nat := List.range (s.ageGroups n)

/-- A group has not reported for 300 ms (R181). -/
def State.silentGroup (s : State) (n : Nat) : Option Nat :=
  (s.groups n).find? (fun g => decide (max (s.rd (V.ageAt n g)) (s.rd (V.ageFrom n)) + 1200000000 ≤ s.now + 1))

/-- The trim may not stay below 0: a silent group, or a link out of RUN (R181). -/
def ageHold (n group : Nat) (s : State) : List Upd :=
  trimTo n group 0 (max (s.rdI (CAP_AGE.trim n)) 0) s ++ [.set (V.ageStale n) 1, .set (V.ageRun n) 0] ++ (s.groups n).map (fun g => .set (V.ageWait n g) 1)

/-- An AGEING report is held, and may raise the trim at once (R146, R181). -/
def ageing (n : Nat) (m : Msg) (s : State) : List Upd :=
  let g := m.get 4 1
  let slack := toSigned 16 (m.get 6 2)
  let vm := toSigned 16 (m.get 8 2)
  let low := decide (slack < (s.rd (CAP_AGECFG.slack_lo n) : Int)) || decide (vm < s.rdI (CAP_AGEVM.vm_lo n))
  let good := decide ((s.rd (CAP_AGECFG.slack_hi n) : Int) ≤ slack) && decide (s.rdI (CAP_AGEVM.vm_hi n) ≤ vm)
  let waiting := (s.groups n).any (fun x => x != g && s.on (V.ageWait n x))
  [.set (SWJ_AGE.group n) g, .set (SWJ_AGE.vmargin n) (m.get 8 2), .set (SWJ_AGESLACK.slack n) (m.get 6 2), .set (V.ageAt n g) (s.now + 1),
   .set (V.ageSeen n g) 1, .set (V.ageWait n g) 0] ++
  onlyIf (!good) [.set (V.ageBad n g) 1] ++ onlyIf (!waiting) [.set (V.ageStale n) 0] ++
  onlyIf (s.on CAP_CTL.age_en && low) (trimTo n g slack (s.rdI (CAP_AGE.trim n) + s.rd (CAP_AGECFG.step n)) s)

/-- The end of a 100 ms period (R181). -/
def agePeriodEnd (n : Nat) (s : State) : List Upd :=
  let gs := s.groups n
  let good := gs.all (fun g => s.on (V.ageSeen n g) && !s.on (V.ageBad n g))
  let run := if good then min 0xFFFF (s.rd (V.ageRun n) + 1) else 0
  let fall := good && decide (s.rd (CAP_AGECFG.n_ok n) ≤ run) && !s.on (V.ageStale n) && s.rd (CAP_FREQ.esc n) == 0xFF && s.on CAP_CTL.age_en
  [.set (V.agePeriod n) (s.now / 400000000 + 1), .set (V.ageRun n) run] ++ gs.flatMap (fun g => [.set (V.ageSeen n g) 0, .set (V.ageBad n g) 0]) ++
  onlyIf fall (trimTo n 0xFF 0 (s.rdI (CAP_AGE.trim n) - s.rd (CAP_AGECFG.step n)) s)

/-- The words of a HINT message (R133, R145). -/
def hintWords (m : Msg) : List Nat := (List.range (min 3 (m.get 4 1))).map (fun i => m.get (8 + 8 * i) 8)

/-- A hint word becomes a pending event with its terms (R145, R169). -/
def State.hintOf (s : State) (n tick w : Nat) : Hint :=
  let kind := bits w 60 4
  let amps := min (bits w 28 16) (s.rd (PHT_RATED.amps (railTile n) (railLocal n)))
  let event := tick * 4000 + bits w 44 16 * 4000
  let arrival := (tick + s.rd (SWJ_STAT.updelay n)) * 4000
  let acts := s.on CAP_CTL.hint_en && (kind == 0 || kind == 2 || kind == 4)
  ⟨n, kind, arrival, event, max arrival (event - s.rd (CAP_HINT.pre_lead n) * 4000), event + s.rd (CAP_HINT.hold n) * 4000, bits w 28 16, bits w 0 28,
   if acts then ceilDiv (amps * 16) (s.rd (PHT_ADDDROP.add_thr (railTile n) (railLocal n))) else 0, if acts then s.rd (CAP_HINT.guard n) else 0⟩

/-- The hints of a message are held (R169). -/
def takeHints (n tick : Nat) (m : Msg) (s : State) : List Upd :=
  [.hints (s.hints ++ ((hintWords m).filter (fun w => decide (bits w 60 4 < 7))).map (s.hintOf n tick))]

/-- A frequency table that does not ascend holds the slot at 0 (R175). -/
def tableCheck (n : Nat) (s : State) : List Upd :=
  let bad := !s.tableAscends n
  [setB (V.badTable n) bad, .set (V.ageFrom n) (s.now + 1)] ++ onlyIf bad [capAct n (s.rd (CAP_FREQ.idx_cap n)) 0 6 0 0 0]

end Sys2Proof.Machine
end

