-- ==== Sys2Proof/Machine/Predictor.lean ====
section
/-! DEFINITION. The demand predictor and the Moraine (chapter 6): slot states, records and the step index, the models and their
inference, the forecast stage and the accuracy monitor. -/

namespace Sys2Proof.Machine

/-- Slot states (R191). -/
def PrdS.off : Nat := 0
def PrdS.idle : Nat := 1
def PrdS.warming : Nat := 2
def PrdS.active : Nat := 3
def PrdS.suspended : Nat := 4

/-- What the plane holds for a slot. -/
def State.prdSlot (s : State) (n : Nat) : PrdSlot := tableGet {} s.prd n

/-- The slot's model runs (R191). -/
def State.prdRuns (s : State) (n : Nat) : Bool := decide (2 ≤ s.rd (PRD_SSTAT.state n)) && decide (s.rd (PRD_SSTAT.state n) ≤ 4)

/-- src of a slot's records (R213). -/
def prdSrc (n : Nat) : Nat := srcOf 0x5 n

/-- Address of a slot's model in the image at `b` (R250). -/
def State.modelIn (s : State) (b n : Nat) : Option Nat :=
  match s.sect? b Sec.models with
  | some e =>
    let a := b + e.ofs
    let k := s.leMem (a + 8 + n) 1
    if k < s.leMem a 1 then some (a + s.leMem (a + 16 + 16 * k) 4) else none
  | none => none

/-- The model of a slot in the committed image. -/
def State.model? (s : State) (n : Nat) : Option Nat := if s.committed then s.modelIn s.liveImg n else none

/-- Fields of a model header (R250). -/
def State.mdDecim (s : State) (a : Nat) : Nat := max 1 (s.leMem (a + 8) 1)
def State.mdHorizon (s : State) (a : Nat) : Nat := s.leMem (a + 9) 1
def State.mdResidual (s : State) (a : Nat) : Bool := s.leMem (a + 10) 1 == 1
def State.mdOps (s : State) (a : Nat) : Nat := s.leMem (a + 11) 1
def State.mdGain (s : State) (a : Nat) : Nat := s.leMem (a + 14) 2
def State.mdTag (s : State) (a : Nat) : Nat := s.leMem a 8
def State.mdTable (s : State) (a i : Nat) : Nat := a + s.leMem (a + 132 + 4 * i) 4

/-- A tensor entry's dimensions, format and kind (R251). -/
def State.tensDims (s : State) (a i : Nat) : List Nat :=
  let e := s.mdTable a 0 + 16 * i
  (List.range (s.leMem (e + 2) 1)).map (fun d => s.leMem (e + 4 + 2 * d) 2)
def State.tensFmt (s : State) (a i : Nat) : Nat := s.leMem (s.mdTable a 0 + 16 * i) 1
def State.tensKind (s : State) (a i : Nat) : Nat := s.leMem (s.mdTable a 0 + 16 * i + 1) 1

/-- A field of operator i. -/
def State.opField (s : State) (a i o n : Nat) : Nat := s.leMem (s.mdTable a 1 + 32 * i + o) n

/-- MACs of an operator in half-MACs, int4 by int4 counting half (R206), and the weight bytes it touches. -/
def State.opWeights (s : State) (a i : Nat) : Nat :=
  let code := s.opField a i 0 1
  let x := s.tensDims a (s.opField a i 4 2)
  let y := s.tensDims a (s.opField a i 2 2)
  if code = 1 then dimSize x * dimSize y else if code = 2 then y.getLastD 1 * s.opField a i 18 1 * x.getLastD 1 else 0
def State.opMacs (s : State) (a i : Nat) : Nat :=
  let code := s.opField a i 0 1
  let x := s.tensDims a (s.opField a i 4 2)
  let y := s.tensDims a (s.opField a i 2 2)
  let m := if code = 1 then dimSize x * dimSize y else if code = 2 then dimSize y * s.opField a i 18 1 * x.getLastD 1 else 0
  if s.tensFmt a (s.opField a i 4 2) = Fmt.int4 && s.tensFmt a (s.opField a i 8 2) == Fmt.int4 then m else 2 * m
def State.opBytes (s : State) (a i : Nat) : Nat :=
  let f := s.tensFmt a (s.opField a i 8 2)
  if f = Fmt.bs8 then ceilDiv (s.opWeights a i) 32 * 33 else ceilDiv (s.opWeights a i * fmtBits f) 8

/-- Records an operator gathers (R252). -/
def State.opRecords (s : State) (a i : Nat) : Nat := if s.opField a i 0 1 = 0x0B then s.opField a i 18 1 * s.opField a i 26 2 else 0

/-- Cycles of an operator (R252); half-MACs over 16,000 are MACs over 8,000, or int4 MACs over 16,000. -/
def State.opCost (s : State) (a i : Nat) : Nat :=
  let code := s.opField a i 0 1
  if code = 1 || code = 2 then ceilDiv (s.opMacs a i) 16000 + 6
  else if code = 0x0B then ceilDiv (s.opRecords a i) 4 + 12
  else if code = 0x0C then 4
  else if code = 3 then 2
  else ceilDiv (dimSize (s.tensDims a (s.opField a i 2 2))) 1024 + 2

/-- The stage of each operator of these costs, from stage k with some cycles used (R252): a stage closes when the next operator would
take it over 500 cycles. -/
def stageFrom : Nat → Nat → List Nat → List Nat
  | _, _, [] => []
  | k, used, c :: r => if 500 < used + c then (k + 1) :: stageFrom (k + 1) c r else k :: stageFrom k (used + c) r

/-- The tensor schedule of a model: each operator's stage and its cycles (R252). -/
def State.tensorSchedule (s : State) (a : Nat) : List (Nat × Nat) :=
  let costs := (List.range (s.mdOps a)).map (s.opCost a)
  (stageFrom 0 0 costs).zip costs

/-- Stages of the schedule of operators of these costs. -/
def stagesOf (costs : List Nat) : Nat := (stageFrom 0 0 costs).getLastD 0 + 1

/-- Cycles that a model takes of a tick: its longest stage (DESIGN CHOICE, log 188). -/
def State.tickCycles (s : State) (a : Nat) : Nat :=
  let p := s.tensorSchedule a
  (List.range 4).foldl (fun m k => max m ((p.filter (fun e => e.1 == k)).foldl (fun t e => t + e.2) 0)) 0

/-- Bytes of the model of slot n in the image at `b`. -/
def State.modelBytes (s : State) (b n : Nat) : Option (List Nat) :=
  match s.modelIn b n, s.sect? b Sec.models with
  | some a, some e =>
    let k := s.leMem (b + e.ofs + 8 + n) 1
    some (memBytes s.mem a (s.leMem (b + e.ofs + 20 + 16 * k) 4))
  | _, _ => none

/-- The image in `u`, which a commit leaves, is another than that in `s`; and it changes the model of slot n (R199, R212). -/
def State.imageChanges (s u : State) : Bool := u.liveImg != s.liveImg || u.committed != s.committed
def State.modelChanges (s u : State) (n : Nat) : Bool :=
  s.imageChanges u && !(s.committed && u.modelBytes s.liveImg n == u.modelBytes u.liveImg n)

/-- History tag and decimation of a slot's model (R199). -/
def State.historyKey (s : State) (n : Nat) : Option (Nat × Nat) := (s.model? n).map (fun a => (s.mdTag a, s.mdDecim a))

/-- Steps counted toward warm are kept saturating in PRD_SSTAT.steps. -/
def State.prdSteps (s : State) (n : Nat) : Nat := s.rd (PRD_SSTAT.steps n)

/-- The state a slot's conditions call for at a boundary, with the cause of a change (R191, R211-R213); `u` is what a commit of the boundary
leaves, `s` itself where there is none. -/
def State.prdTarget (s u : State) (n : Nat) : Nat × Nat :=
  let old := s.rd (PRD_SSTAT.state n)
  let p := s.prdSlot n
  let rose := if old = PrdS.off then (if p.offCause = 5 then 5 else 0) else 1
  if s.on (V.planeHeld 1) || s.on PRD_WIPE.busy then (PrdS.off, 5)
  else if (u.model? n).isNone || !bit (u.rd PRD_CTL.slot_en) n then (PrdS.off, 0)
  else if p.weightsBad && !s.imageChanges u then (PrdS.off, 6)
  else if !(s.rd (rState n) == RailS.regulating && (s.rd (lkState n) == LinkS.run || s.rd (lkState n) == LinkS.switch)) then (PrdS.idle, rose)
  else
    let steps := if s.modelChanges u n && s.historyKey n != u.historyKey n then 0 else s.prdSteps n
    if steps < u.rd (PRD_SCFG.warm n) then (PrdS.warming, if old < PrdS.active then rose else if p.broke then 4 else 0)
    else if p.owed = PrdS.suspended || (old = PrdS.suspended && p.owed = 0) then (PrdS.suspended, 3)
    else (PrdS.active, if old = PrdS.warming then 2 else if old = PrdS.suspended then 3 else rose)

/-- Bits of PRD_STAT. -/
def prdStat (s : State) : List Upd :=
  [.set PRD_STAT.active (maskOf 8 (fun n => s.rd (PRD_SSTAT.state n) == PrdS.active)),
   .set PRD_STAT.warming (maskOf 8 (fun n => s.rd (PRD_SSTAT.state n) == PrdS.warming)),
   .set PRD_STAT.suspended (maskOf 8 (fun n => s.rd (PRD_SSTAT.state n) == PrdS.suspended)),
   .set PRD_STAT.model (maskOf 8 (fun n => s.on (PRD_SSTAT.model n)))]

/-- The open entry closes at its written length (R195). -/
def PrdSlot.close (p : PrdSlot) : PrdSlot :=
  match p.index with
  | e :: r => { p with index := { e with closed := true } :: r }
  | [] => p

/-- Base of a slot's Moraine ring (R194), and the address of a record by its count. -/
def moraineBase (n : Nat) : Nat := 0x4000_0000 + n * 0x1000_0000
def moraineAddr (n abs : Nat) : Nat := moraineBase n + 64 * (abs % 4194304)

/-- Some word of a range holds an uncorrectable error (R496). -/
def State.ueIn (s : State) (a n : Nat) : Bool := s.ue.any (fun w => decide (a ≤ w + 7) && decide (w < a + n))

/-- The open entry takes one record more (R195). -/
def PrdSlot.keyed (p : PrdSlot) : PrdSlot :=
  match p.index with
  | e :: r => { p with index := { e with len := e.len + 1 } :: r }
  | [] => p

/-- A Moraine record's bytes (R194). -/
def moraineBytes (step off flags : Nat) (v feats : List Int) (err : Int) (tick : Nat) : List Nat :=
  leBytes 8 step ++ leBytes 3 off ++ [flags] ++ leBytes 2 (ofSigned 16 (v.getD 0 0)) ++ leBytes 2 (ofSigned 16 (v.getD 1 0)) ++ leBytes 2 (ofSigned 16 (v.getD 2 0)) ++
    [(v.getD 3 0).toNat % 256, (v.getD 4 0).toNat % 256, (v.getD 5 0).toNat % 256, (v.getD 6 0).toNat % 256] ++ leBytes 2 (ofSigned 16 (v.getD 7 0)) ++
    feats.flatMap (fun f => leBytes 2 (ofSigned 16 f)) ++ leBytes 2 (ofSigned 16 err) ++ [0, 0] ++ leBytes 4 (tick % 2 ^ 32)

/-- A record is written and, below 0xFF_FFFF of offset, keyed to the open entry (R194, R195). -/
def putRecord (n off flags : Nat) (v feats : List Int) (s : State) : List Upd :=
  let p := s.prdSlot n
  let w := s.rd (PRD_WRITTEN.count n)
  let keyed := match p.index with | e :: _ => !e.closed && decide (off < 0xFF_FFFF) | [] => false
  let step := if keyed then (p.index.headD ⟨0, 0, 0, true, false⟩).step else s.rd (SWJ_STEP.step n)
  let p' := if keyed then p.keyed else p
  [.store (moraineAddr n w) (moraineBytes step off (flags + 2 * ofBool keyed) v feats p.err (s.boundary / 4000)), .set (PRD_WRITTEN.count n) (w + 1), .prd n { p' with half := none }]

/-- The rounded mean of a feature's present values, or 0x8000 where none is present (R194). -/
def featMean (x : Int × Nat) : Int := if x.2 = 0 then -32768 else satSigned 16 (roundDiv x.1 x.2)

/-- The tick that waits for its pair is written alone (R198). -/
def flushHalf (n : Nat) (s : State) : List Upd :=
  match (s.prdSlot n).half with
  | some h => putRecord n (h.offset / 2) (h.flags + 16) h.vals (h.feats.map featMean) s
  | none => []

/-- An entry opens at the written count (R195), its STEP delivered while the slot was writing. -/
def PrdSlot.openAt (p : PrdSlot) (c written : Nat) : PrdSlot := { p with index := (⟨c, written, 0, false, true⟩ :: p.index).take 4096 }

/-- PRD_STATE (R213). -/
def prdStateRec (n new cause : Nat) (s : State) : Upd :=
  note Ty.PRD_STATE (prdSrc n) [(24, 1, s.rd (PRD_SSTAT.state n)), (25, 1, new), (26, 1, cause), (32, 8, s.rd (PRD_STEP.step n))]

/-- A slot changes state at a boundary of tick `tick` (R191, R195, R212, R213); one that begins to run keys the step of that tick. -/
def prdTo (n new cause tick : Nat) (s : State) : List Upd :=
  let old := s.rd (PRD_SSTAT.state n)
  let p0 := { s.prdSlot n with owed := 0, broke := false, offCause := if new = PrdS.off then cause else (s.prdSlot n).offCause }
  if old = new then [.prd n p0]
  else
    let ran := decide (2 ≤ old)
    let runs := decide (2 ≤ new)
    let p1 := if ran && !runs then { p0.close with fly := [], half := none } else p0
    let p2 := if runs && !ran then { p1 with fly := [], past := [], ticks := 0, absSum := 0, misses := 0, badRun := 0 } else p1
    let fresh := if runs && !ran then (match p0.born with | some (c, t) => if t + 1 = tick then some c else none | none => none) else none
    let p3 := match fresh with | some c => p2.openAt c (s.rd (PRD_WRITTEN.count n)) | none => p2
    [.set (PRD_SSTAT.state n) new, .set PRD_EVT.state 1, .prd n p3, .set (PRD_SSTAT.idx n) p3.index.length, prdStateRec n new cause s] ++
    (match fresh with | some c => [Upd.set (PRD_STEP.step n) c] | none => [])

/-- The step index and the count of complete steps at a STEP (R195, R196). -/
def stepKeyed (n c : Nat) (s : State) : List Upd :=
  let p := s.prdSlot n
  let back := match p.prevStep with | some q => decide (c ≤ q) | none => false
  let runs := s.prdRuns n
  let written := s.rd (PRD_WRITTEN.count n)
  let whole := match p.index with | e :: _ => !e.closed && e.whole && runs | [] => false
  let p1 := { p.close with index := if back then [] else p.close.index, prevStep := some c, broke := p.broke || back, born := if runs then none else some (c, s.tick) }
  let p' := if runs then p1.openAt c written else p1
  let steps := if back then 0 else if whole then min 255 (s.prdSteps n + 1) else s.prdSteps n
  [.prd n p', .set (PRD_SSTAT.steps n) steps, .set (PRD_SSTAT.idx n) p'.index.length, .set (SWJ_STEP.step n) c] ++
  onlyIf runs [.set (PRD_STEP.step n) c] ++
  (if back then
    [.set PRD_EVT.discont 1, note Ty.STEP_DISCONT (prdSrc n) [(24, 8, p.prevStep.getD 0), (32, 8, c)]]
   else [])

/-- A STEP message is delivered (R195, R196, R198): a tick that waits for its pair was the last of its step. -/
def stepDelivered (n c : Nat) (s : State) : State := (s.does (flushHalf n)).does (stepKeyed n c)

/-- A gathered record (R197): its bytes if it is present, and the word for which its check fails (R212). -/
def State.moraineRecord (s : State) (n : Nat) (closed : List StepEntry) (step : Nat) (off : Int) : Option (List Nat) × List Nat :=
  match closed.find? (fun e => e.step == step) with
  | some e =>
    if 0 ≤ off && off < e.len then
      let abs := e.start + off.toNat
      let a := moraineAddr n abs
      let r := memBytes s.mem a 64
      if s.rd (PRD_WRITTEN.count n) - abs ≤ 4194304 && leAt r 0 8 == step && leAt r 8 3 == off.toNat then
        (match s.ue.find? (fun w => decide (a ≤ w + 7) && decide (w < a + 64)) with
         | some w => (none, [w])
         | none => (some r, []))
      else (none, [])
    else (none, [])
  | none => (none, [])

/-- The fields a gather may read, in the order of R251, as byte offset, count and whether signed. -/
def gatherFields : List (Nat × Nat × Bool) :=
  [(12, 2, false), (14, 2, false), (16, 2, false), (18, 1, false), (19, 1, false), (20, 1, false), (21, 1, false), (22, 2, true), (56, 2, true)]

/-- A field of a gathered record as int16; an unsigned one above 32,767 saturates (DESIGN CHOICE, log 190). -/
def gatherValue (r : List Nat) (f : Nat × Nat × Bool) : Int × Nat :=
  if f.2.2 then (toSigned (8 * f.2.1) (leAt r f.1 f.2.1), 0) else satCount 16 ((leAt r f.1 f.2.1 : Nat) : Int)

/-- What a GATHER yields: its tensor, the records not present, saturations, and words found uncorrectable. -/
structure Gathered where
  tens : Tens
  missing : Nat
  sats : Nat
  bad : List Nat

/-- GATHER (R197, R251): int16 [J][W][fields + 1] with the present mask last. -/
def State.gather (s : State) (n step off : Nat) (j w : Nat) (a0 : Int) (fmap featMap : Nat) : Gathered :=
  let p := s.prdSlot n
  let closed := ((p.index.filter (·.closed)).take 8)
  let fs : List (Nat × Nat × Bool) := (bitsOf 9 fmap).map (fun i => gatherFields.getD i (0, 0, false)) ++ (bitsOf 16 featMap).map (fun i => (24 + 2 * i, 2, true))
  let recs := (List.range (j * w)).map (fun q =>
    if step < q / w + 1 then (none, []) else s.moraineRecord n closed (step - (q / w + 1)) ((off : Int) + a0 + (q % w : Nat)))
  let cells := recs.map (fun x => match x.1 with
    | some r => fs.map (gatherValue r) ++ [(1, 0)]
    | none => List.replicate (fs.length + 1) (0, 0))
  ⟨plainTens Fmt.int16 [j, w, fs.length + 1] (cells.flatMap (fun c => c.map (·.1))), (recs.filter (fun x => x.1.isNone)).length,
    cells.foldl (fun a c => c.foldl (fun b x => b + x.2) a) 0, recs.flatMap (·.2)⟩

/-- The map regions a slot declared: kind, first, count, those of zero count left out. -/
def State.regions (s : State) (n : Nat) : List (Nat × Nat × Nat) := (List.range 16).map (s.mapRegion n)

/-- The kind of the region that holds a map index; `other` if none does. -/
def State.kindOf (s : State) (n i : Nat) : Nat :=
  (((s.regions n).find? (fun r => decide (r.2.1 ≤ i) && decide (i < r.2.1 + r.2.2))).map (·.1)).getD 3

/-- A map value as a number (R203): thermal values signed. -/
def mapInt (kind v : Nat) : Int := if kind = 1 then toSigned 16 v else v

/-- The map value the model sees (R193): the last present one where it is absent. -/
def State.mapSeen (s : State) (n tick i : Nat) : Nat :=
  let v := s.mapValue n tick i
  if v = 0xFFFF then tableGet 0 (s.prdSlot n).lastMap i else v

/-- Map values absent in an upstream tick (R143, R193). -/
def State.mapAbsent (s : State) (n t : Nat) : Nat := ((List.range (s.rd (SWJ_MAP.m n))).filter (fun i => s.mapValue n t i == 0xFFFF)).length

/-- The offset delivered with an upstream tick (R142, R144): that of its control word, or the last delivered where none came. -/
def State.offsetAt (s : State) (n t : Nat) : Nat :=
  match (s.link n).ups.find? (fun u => u.tick == t && u.heard) with
  | some u => u.offset
  | none => s.rd (SWJ_STEPOFS.offset n)

/-- A STEP came in an upstream tick. -/
def State.beganAt (s : State) (n t : Nat) : Bool := (s.link n).ups.any (fun u => u.tick == t && u.began)

/-- The 36 scalar inputs of R192 before their shifts, at boundary b for the upstream tick t. -/
def State.scalars (s : State) (n b t : Nat) : List Int :=
  let k := railTile n
  let j := railLocal n
  let k2 := railTile (n + 8)
  let j2 := railLocal (n + 8)
  let hint (kind : Nat) : List Int :=
    match ((s.hints.filter (fun h => h.slot == n && h.kind == kind && decide (b ≤ h.event) && decide (h.arrival ≤ b))).mergeSort (fun x y => decide (x.event ≤ y.event))).head? with
    | some h => [((h.event - b) / 4000 : Nat), (h.amps : Nat), (min 32767 h.dur : Nat)]
    | none => [0x7FFF, 0, 0]
  [s.rdI (PHT_RI.i k j) / 4, (s.rd (PHT_RV.v k j) : Nat), s.rdI (PHT_RI.i k2 j2) / 4, (s.rd (PHT_RV.v k2 j2) : Nat),
   (s.rd (CAP_QOUT.q_out n) : Nat), (s.rd (CAP_ROUT.ramp_out n) : Nat), (s.rd (CAP_FREQ.force n) : Nat), (s.rd (CAP_FG.f n) : Nat), (s.rd (CAP_FG.g n) : Nat),
   (s.rd (rNact n) : Nat), (s.rd (V.brakeTick n) : Nat), (s.rd (PHT_RSTAT.climit k j) : Nat),
   (s.offsetAt n t : Nat), (ofBool (s.beganAt n t) : Nat)] ++
  (List.range 7).flatMap hint ++ [((s.mapAbsent n t : Nat) : Int)]

/-- First scalar and number of scalars of a scalar group (R251). -/
def scalarGroup (g : Nat) : Nat × Nat := if g = 0 then (0, 4) else if g = 1 then (4, 8) else if g = 2 then (12, 2) else if g = 3 then (14, 21) else (35, 1)

/-- A tensor of an inference: computed tensors from what has run, inputs as taken, weights from the image. -/
def State.tensor (s : State) (n : Nat) (x : Infer) (i : Nat) : Tens :=
  let a := x.model
  let e := s.mdTable a 0 + 16 * i
  let fmt := s.leMem e 1
  let kind := s.leMem (e + 1) 1
  let rank := s.leMem (e + 2) 1
  let dims := (List.range rank).map (fun d => s.leMem (e + 4 + 2 * d) 2)
  let src := s.leMem (e + 3) 1
  if kind = 1 then
    let g := scalarGroup src
    plainTens Fmt.int16 [g.2] ((x.scalars.drop g.1).take g.2)
  else if kind = 2 then
    let r := s.mapRegion n src
    mapTensor dims ((List.range r.2.2).map (fun q => mapInt r.1 (x.maps.getD (r.2.1 + q) 0)))
  else if kind = 3 || kind = 4 then
    let w := s.mdTable a 2 + s.leMem (e + 12) 4
    let size := dimSize dims
    if fmt = Fmt.bs8 then
      let inner := dims.getLastD 1
      let per := ceilDiv inner 32
      let rows := if inner = 0 then 0 else size / inner
      ⟨fmt, dims, (List.range size).map (fun q => toSigned 8 (s.leMem (w + (q / inner * per + q % inner / 32) * 33 + 1 + q % inner % 32) 1)),
        (List.range (rows * per)).map (fun q => s.leMem (w + q * 33) 1), inner⟩
    else if fmt = Fmt.int4 then
      plainTens fmt dims ((List.range size).map (fun q => toSigned 4 (s.leMem (w + q / 2) 1 / 16 ^ (q % 2))))
    else
      let bytes := fmtBits fmt / 8
      plainTens fmt dims ((List.range size).map (fun q => toSigned (8 * bytes) (s.leMem (w + q * bytes) bytes)))
  else (x.run.done.lookup i).getD (plainTens fmt dims [])

/-- One operator of a model (R206, R251). -/
def State.operator (s : State) (n : Nat) (inf : Infer) (r : RunState) (i : Nat) : RunState :=
  let a := inf.model
  let f := s.opField a i
  let code := f 0 1
  let tens := s.tensor n { inf with run := r }
  let bias := if s.tensKind a (f 10 2) = 4 then tens (f 10 2) else plainTens Fmt.int32 [] []
  let o := f 2 2
  let oe := s.mdTable a 0 + 16 * o
  let fmt := s.leMem oe 1
  let dims := (List.range (s.leMem (oe + 2) 1)).map (fun d => s.leMem (oe + 4 + 2 * d) 2)
  let act : Option (List (Int × Int)) :=
    if f 1 1 = 0 then none
    else some ((List.range 64).map (fun q =>
      let x := s.mdTable a 3 + 256 * (f 1 1 - 1) + 4 * q
      (toSigned 16 (s.leMem x 2), toSigned 16 (s.leMem (x + 2) 2))))
  let rq : Requant := fun c => (s.leMem (s.mdTable a 3 + f 12 4 + 4 * c) 2, s.leMem (s.mdTable a 3 + f 12 4 + 4 * c + 2) 1)
  let put (x : Tens × Nat) : RunState := { r with done := (o, x.1) :: r.done, sats := r.sats + x.2 }
  let layer (x : Tens × Nat) : RunState := { put x with set := 0 }
  let x := tens (f 4 2)
  let bs := x.fmt == Fmt.bs8 || (tens (f 8 2)).fmt == Fmt.bs8
  let eAcc := toSigned 16 (f 16 2)
  if code = 0x01 then layer (opDense (tens (f 8 2)) x bias bs eAcc rq fmt act dims (r.set * dimSize dims * dimSize x.dims))
  else if code = 0x02 then layer (opConv (tens (f 8 2)) x bias bs eAcc rq fmt act dims (f 18 1) (f 19 1) (r.set * dims.getLastD 1 * f 18 1 * x.inner))
  else if code = 0x03 then { r with set := (clampInt 0 (f 22 1 - 1 : Nat) ((tens (f 18 2)).at' (f 20 2))).toNat }
  else if code = 0x04 then put (opElem 0 x (tens (f 6 2)) bias rq fmt act dims)
  else if code = 0x05 then put (opElem 1 x (tens (f 6 2)) bias rq fmt act dims)
  else if code = 0x06 then put (opElem 2 x (tens (f 6 2)) bias rq fmt act dims)
  else if code = 0x07 then put (opReduce (f 19 1 == 1) x (f 18 1) fmt dims)
  else if code = 0x08 then put (opConcat x (tens (f 6 2)) (f 18 1) fmt dims)
  else if code = 0x09 then put (opSlice x (f 18 1) (f 20 2) (f 22 2) fmt dims)
  else if code = 0x0A then put (opAct x fmt act dims)
  else if code = 0x0B then
    let g := s.gather n inf.step inf.off (f 18 1) (f 26 2) (toSigned 16 (f 24 2)) (f 20 2) (f 22 2)
    { r with done := (o, g.tens) :: r.done, missing := r.missing + g.missing, sats := r.sats + g.sats, bad := r.bad ++ g.bad }
  else if code = 0x0C then { r with out := some (x, tens (f 6 2)) }
  else r

/-- The forecast vector of an inference (R208): mid and hi in 1/16 A. -/
def State.forecast (s : State) (x : Infer) (n : Nat) (mid hi : Tens) : List Nat × List Nat :=
  let a := x.model
  let h := s.mdHorizon a
  let base : Int := if s.mdResidual a then x.base else 0
  let imax : Int := (min 65535 (16 * s.rd (PHT_RATED.amps (railTile n) (railLocal n))) : Nat)
  let val (t : Tens) (i : Nat) : Int := clampInt 0 imax (roundDiv (t.at' i * s.mdGain a) 256 + base)
  ((List.range h).map (fun i => (val mid i).toNat), (List.range h).map (fun i => (max (val mid i) (val hi i)).toNat))

/-- The inputs of boundary b are taken for the model at `a` (R192, R193, R207); a narrowing that saturates counts here. -/
def takeInputs (n b a : Nat) (s : State) : List Upd :=
  let t := b / 4000 - s.rd (SWJ_STAT.updelay n)
  let raw := s.scalars n b t
  let sc := (List.range 36).map (fun q => satCount 16 (rshr (raw.getD q 0) (s.leMem (a + 32 + q) 1)))
  let x : Infer := ⟨a, b, s.rd (PRD_STEP.step n), s.offsetAt n t / s.mdDecim a, sc.map (·.1), (List.range (s.rd (SWJ_MAP.m n))).map (s.mapSeen n t),
    s.rdI (PHT_RI.i (railTile n) (railLocal n)) / 4, {}⟩
  [.prd n { s.prdSlot n with fly := (s.prdSlot n).fly ++ [x] }, .set (PRD_SATCNT.count n) (s.rd (PRD_SATCNT.count n) + sc.foldl (fun c e => c + e.2) 0)]

/-- The stage that an inference runs in the tick that ends at b (R207, R252). -/
def State.runStage (s : State) (n b : Nat) (x : Infer) : Infer :=
  let p := s.tensorSchedule x.model
  let k := (b - x.at_) / 4000 - 1
  { x with run := ((List.range p.length).filter (fun i => (p.getD i (9, 0)).1 == k)).foldl (s.operator n x) { x.run with sats := 0, missing := 0, bad := [] } }

/-- The stages of a tick's inferences, their counts, and the Moraine records found uncorrectable (R207, R212). -/
def runStages (n b : Nat) (s : State) : List Upd :=
  let p := s.prdSlot n
  let fly := p.fly.map (s.runStage n b)
  let sum (f : RunState → Nat) : Nat := fly.foldl (fun a x => a + f x.run) 0
  let bad := fly.flatMap (fun x => x.run.bad)
  [.prd n { p with fly := fly }, .set (PRD_SATCNT.count n) (s.rd (PRD_SATCNT.count n) + sum (·.sats)),
   .set (PRD_HMISS.count n) (s.rd (PRD_HMISS.count n) + sum (·.missing))] ++
  onlyIf (!bad.isEmpty) [.set PRD_EVT.fault 1] ++ bad.map (fun w => note Ty.PRD_FAULT (prdSrc n) [(24, 1, 1), (32, 8, w)])

/-- The vector of an inference. -/
def State.vectorOf (s : State) (n : Nat) (x : Infer) : Forecast :=
  let v := match x.run.out with | some (m, h) => s.forecast x n m h | none => ([], [])
  ⟨x.at_ + 16000, v.1, v.2⟩

/-- The inference whose vector is due at a boundary leaves the pipeline; its vector enters the fabric and is shown (R207, R216). -/
def vectorEnter (n b : Nat) (s : State) : List Upd :=
  let p := s.prdSlot n
  let fly := p.fly.filter (fun x => decide (b < x.at_ + 16000))
  match p.fly.find? (fun x => x.at_ + 16000 == b) with
  | some x =>
    let v := s.vectorOf n x
    let peak := v.hi.foldl max 0
    [.prd n { p with fly := fly, past := (v :: p.past).take 201 }, .tally 0x050 n 1] ++
    (List.range 200).flatMap (fun h => [.set (PRD_FCVEC.hi n h) (v.hi.getD h 0), .set (PRD_FCVEC.mid n h) (v.mid.getD h 0)]) ++
    [.set (PRD_FC0.hi n) (v.hi.getD 0 0), .set (PRD_FC0.mid n) (v.mid.getD 0 0), .set (PRD_FCPEAK.hi_max n) peak, .set (PRD_FCPEAK.h n) (v.hi.findIdx (· == peak))]
  | none => [.prd n { p with fly := fly }]

/-- The forecast stage at boundary e (R209); neutral in every state but ACTIVE, and where no vector has entered: the pipeline fills (R191). -/
def forecastStage (n b : Nat) (s : State) : List Upd :=
  let p := s.prdSlot n
  let neutral := [Upd.set (PRD_OUT.f_fc n) 0, .set (PRD_OUT.ramp_fc n) 255, .set (PRD_OUT.g_fc n) 0]
  match p.past.head? with
  | some v =>
    if s.rd (PRD_SSTAT.state n) ≠ PrdS.active || v.entry ≠ b || v.hi.isEmpty then neutral
    else
      let h := v.hi.length
      let i0 := s.rdI (PHT_RI.i (railTile n) (railLocal n)) / 4
      let top (lead : Nat) : Nat := (v.hi.take (min lead (h - 1) + 1)).foldl max 0
      let f := min 63 (ceilDiv (top (s.rd (PRD_FCF.f_lead n))) (s.rd (PHT_ADDDROP.add_thr (railTile n) (railLocal n))))
      let di : Int := (top (s.rd (PRD_FCF.g_lead n)) : Nat) - i0
      let g := min (s.rd (PRD_FCG.g_max n)) (((max 0 (di - s.rd (PRD_FCS.g_dead n))) * s.rd (PRD_FCG.g_k n)) / 256).toNat
      let m := min (s.rd (PRD_FCF.r_win n)) (h - 1)
      let steep := (List.range m).any (fun i => decide ((s.rd (PRD_FCS.slew_ok n) : Int) < (v.hi.getD (i + 1) 0 : Int) - v.hi.getD i 0))
      let r := if steep then max (s.rd (PRD_FCF.r_floor n)) (s.rd (PRD_FCG.r_cut n)) else 255
      [.set (PRD_OUT.f_fc n) f, .set (PRD_OUT.ramp_fc n) r, .set (PRD_OUT.g_fc n) g]
  | none => neutral

/-- The accuracy monitor's sample for tick t (R211): m against mid and hi forecast for it at lead chk_lead. The record of a running slot holds
the error (R194), a FREE VALUE where no vector forecast the tick; such a tick counts in the window without error (log 191). -/
def accuracySample (n tick : Nat) (s : State) : List Upd :=
  let st := s.rd (PRD_SSTAT.state n)
  let p := s.prdSlot n
  let judged := ofBool (st == PrdS.active || st == PrdS.suspended)
  let lead := s.rd (PRD_ACC.chk_lead n)
  let m := s.rdI (PHT_RI.i (railTile n) (railLocal n)) / 4
  match p.past.find? (fun v => v.entry + 4000 * lead == 4000 * tick) with
  | some v =>
    let mid : Int := v.mid.getD lead 0
    let hi : Int := v.hi.getD lead 0
    [.prd n { p with ticks := p.ticks + judged, absSum := p.absSum + judged * (m - mid).natAbs,
                     misses := p.misses + judged * ofBool (decide (hi < m)), err := m - mid }]
  | none => [.prd n { p with ticks := p.ticks + judged, err := toSigned 16 s.free }, freeUsed s]

/-- A window of 1,000 ticks ends (R211); the state it calls for follows at the next boundary (R191; DESIGN CHOICE, log 192). -/
def windowEnd (n : Nat) (s : State) : List Upd :=
  let p := s.prdSlot n
  let mae := (roundDiv p.absSum 1000).toNat
  let bad := decide (s.rd (PRD_ACCERR.err_max n) < mae) || decide (s.rd (PRD_ACC.miss_max n) * 1000 < p.misses * 256)
  let run := if bad then p.badRun + 1 else 0
  let suspend := s.rd (PRD_SSTAT.state n) == PrdS.active && decide (s.rd (PRD_ACC.n_bad n) ≤ run) && bad
  let p' := { p with ticks := 0, absSum := 0, misses := 0, badRun := run, lastGood := !bad, owed := if suspend then PrdS.suspended else p.owed, holdUntil := if suspend then s.now + s.rd (PRD_ACC.hold n) * 400000000 else p.holdUntil }
  [.set (PRD_ACCSTAT.mae n) (min 0xFFFF mae), .set (PRD_ACCSTAT.misses n) p.misses,
   note Ty.PRD_WINDOW (prdSrc n) [(24, 2, mae), (26, 2, p.misses), (28, 1, ofBool bad)], .prd n p'] ++
  onlyIf suspend [.set PRD_EVT.suspend 1]

/-- The hold of a suspended slot ends (R211): it returns at the next boundary, or its hold starts again. -/
def holdEnd (n : Nat) (s : State) : List Upd :=
  let p := s.prdSlot n
  [.prd n (if p.lastGood then { p with owed := PrdS.active } else { p with holdUntil := s.now + s.rd (PRD_ACC.hold n) * 400000000 })]

/-- Highest present thermal map value of a tick, if any (R194). -/
def State.thermalMax (s : State) (n t : Nat) : Option Int :=
  ((s.regions n).filter (fun r => r.1 == 1)).foldl (fun (a : Option Int) r =>
    (List.range r.2.2).foldl (fun (x : Option Int) i =>
      let v := s.mapValue n t (r.2.1 + i)
      if v = 0xFFFF then x else some (max (x.getD (toSigned 16 v)) (toSigned 16 v))) a) none

/-- Sum and number of the present values of a summary feature's range (R194). -/
def State.featSum (s : State) (a n t f : Nat) : Int × Nat :=
  let first := s.leMem (a + 68 + 4 * f) 2
  let cnt := s.leMem (a + 70 + 4 * f) 2
  let vs := (List.range cnt).filterMap (fun i =>
    let v := s.mapValue n t (first + i)
    if v = 0xFFFF then none else some (mapInt (s.kindOf n (first + i)) v))
  (vs.foldl (· + ·) 0, vs.length)

/-- A summary feature (R194). -/
def State.feature (s : State) (a n t f : Nat) : Int := featMean (s.featSum a n t f)

/-- A current or voltage in its unsigned 16 bits (R194); outside them it is a FREE VALUE (DESIGN CHOICE, log 189). -/
def State.fit16 (s : State) (place : Nat) (x : Int) : Int :=
  if 0 ≤ x ∧ x < 65536 then x else ((Config.freeValue (s.rd V.freeCtr + place) % 65536 : Nat) : Int)

/-- The fields of a tick's record after step, offset and flags (R194): i_core, v_core, i_mem, q_out, ramp_out, freq, hints, t_max. -/
def State.recordVals (s : State) (n b t : Nat) : List Int :=
  let k := railTile n
  let j := railLocal n
  let hints := s.hints.foldl (fun m h => if h.slot = n && h.arrival = b then setBit m h.kind else m) 0
  [s.fit16 1 (s.rdI (PHT_RI.i k j) / 4), s.fit16 2 (s.rd (PHT_RV.v k j)), s.fit16 3 (s.rdI (PHT_RI.i (railTile (n + 8)) (railLocal (n + 8))) / 4),
   (s.rd (CAP_QOUT.q_out n) : Nat), (s.rd (CAP_ROUT.ramp_out n) : Nat), (s.rd (CAP_FREQ.force n) : Nat), (hints : Nat),
   (s.thermalMax n t).getD (toSigned 16 s.free)]

/-- Two ticks of a pair as one (R198). -/
def pairVals (a b : List Int) : List Int :=
  [roundDiv (a.getD 0 0 + b.getD 0 0) 2, roundDiv (a.getD 1 0 + b.getD 1 0) 2, roundDiv (a.getD 2 0 + b.getD 2 0) 2, max (a.getD 3 0) (b.getD 3 0),
   min (a.getD 4 0) (b.getD 4 0), b.getD 5 0, (((a.getD 6 0).toNat ||| (b.getD 6 0).toNat : Nat) : Int), max (a.getD 7 0) (b.getD 7 0)]

/-- The present values of a pair's two ticks together (R198). -/
def pairFeat (a b : Int × Nat) : Int := featMean (a.1 + b.1, a.2 + b.2)

/-- The slot's record for the tick that ends at b (R194, R198). When decimating, an offset that comes again in its step, as where no control word brought
a new one, adds nothing to its pair (DESIGN CHOICE, log 204). -/
def recordTick (n b : Nat) (s : State) : List Upd :=
  match s.model? n with
  | some a =>
    let p := s.prdSlot n
    let t := b / 4000 - s.rd (SWJ_STAT.updelay n)
    let off := s.offsetAt n t
    let began := s.beganAt n t
    let valid := decide (s.mapAbsent n t = 0)
    let v := s.recordVals n b t
    let fs := (List.range 16).map (s.featSum a n t)
    let open' := [Upd.set V.freeCtr (s.rd V.freeCtr + 4)]
    let flags := ofBool valid + 4 * ofBool (s.on (V.brakeTick n)) + 8 * ofBool (s.rd (CAP_QOUT.q_out n) != 0) + 32 * ofBool began
    if s.mdDecim a = 1 then putRecord n off flags v (fs.map featMean) s ++ open'
    else if !began && (p.half.any (fun h => h.offset == off) || (p.half.isNone && p.oddDone == some off)) then open'
    else
      let done (us : List Upd) : List Upd := us ++ [.prd n { (s.run us).prdSlot n with oddDone := some off }] ++ open'
      let begins (us : List Upd) : List Upd := us ++ [.prd n { (s.run us).prdSlot n with half := some ⟨off, flags, v, fs⟩, oddDone := none }] ++ open'
      match p.half with
      | some h =>
        if off = h.offset + 1 && !began then
          let fl := ((flags ||| h.flags) / 2 * 2) + ofBool (bit flags 0 && bit h.flags 0)
          done (putRecord n (off / 2) fl (pairVals h.vals v) (List.zipWith pairFeat h.feats fs) s)
        else if off % 2 = 0 then begins (flushHalf n s)
        else done (flushHalf n s ++ putRecord n (off / 2) (flags + 16) v (fs.map featMean) (s.does (flushHalf n)))
      | none =>
        if off % 2 = 0 then begins [] else done (putRecord n (off / 2) (flags + 16) v (fs.map featMean) s)
  | none => []

/-- Values present in the tick replace the last seen (R193). -/
def mapKeep (n t : Nat) (s : State) : List Upd :=
  let p := s.prdSlot n
  let m := (List.range (s.rd (SWJ_MAP.m n))).foldl (fun m i =>
    let v := s.mapValue n t i
    if v = 0xFFFF then m else tablePut 0 m i v) p.lastMap
  [.prd n { p with lastMap := m }]

/-- An uncorrectable error in the weights of a running slot takes it out until the next commit of its model (R212). -/
def weightCheck (n : Nat) (s : State) : List Upd :=
  match s.model? n with
  | some a =>
    let w := s.mdTable a 2
    let size := s.leMem (a + 16) 4
    if s.ueIn w size && !(s.prdSlot n).weightsBad then
      [.prd n { s.prdSlot n with weightsBad := true }, .set PRD_EVT.fault 1, note Ty.PRD_FAULT (prdSrc n) [(24, 1, 2), (32, 8, (s.ue.find? (fun x => decide (w ≤ x + 7) && decide (x < w + size))).getD w)]]
    else []
  | none => []

/-- What the plane does for a slot at boundary b, the end of tick b / 4000 − 1 (R191-R212): gathers precede the record write. `u` is what a
commit of the boundary leaves: a slot whose model it changes enters no vector, and takes the boundary's inputs for the new one too. -/
def prdTick (b : Nat) (u : State) (n : Nat) (s : State) : State :=
  let s0 := s.does (weightCheck n)
  let tgt := s0.prdTarget u n
  let s1 := s0.does (prdTo n tgt.1 tgt.2 (b / 4000))
  if s1.prdRuns n then
    let new := s.modelChanges u n
    let s2 := (s1.does (accuracySample n (b / 4000 - 1))).does (runStages n b)
    let s3 := (if new then s2 else s2.does (vectorEnter n b)).does (forecastStage n b)
    let models := (s.model? n).toList ++ (if new then (u.model? n).toList else [])
    (s3.doEach models (takeInputs n b)).does (recordTick n b)
  else s1.run [.set (PRD_OUT.f_fc n) 0, .set (PRD_OUT.ramp_fc n) 255, .set (PRD_OUT.g_fc n) 0]

/-- Present map values are kept while the link runs, whether the slot does or not (R193). -/
def mapsKept (b n : Nat) (s : State) : List Upd :=
  if s.rd (lkState n) == LinkS.run || s.rd (lkState n) == LinkS.switch then mapKeep n (b / 4000 - s.rd (SWJ_STAT.updelay n)) s else []

/-- The plane at a boundary, unless it is held in reset. -/
def prdAll (b : Nat) (u s : State) : State :=
  if s.on (V.planeHeld 1) || s.on CRP_PFSTAT.warn then s
  else ((List.range 8).foldl (fun t n => prdTick b u n t) (s.doEach (List.range 8) (mapsKept b))).does prdStat

/-- The Moraine wipe ends (R199). -/
def moraineWiped (s : State) : List Upd :=
  [.wipe 0x4000_0000 0xC000_0000, .set MEM_STAT.wipe (clearBit (s.rd MEM_STAT.wipe) 1), .set MEM_EVT.wipe 1, .set PRD_WIPE.busy 0, .set PRD_EVT.wiped 1] ++
  (List.range 8).flatMap (fun n => [.prd n { s.prdSlot n with index := [], prevStep := none, half := none }, .set (PRD_WRITTEN.count n) 0, .set (PRD_SSTAT.steps n) 0, .set (PRD_SSTAT.idx n) 0])

/-- Which fields of PRD_TUCYC a slot has (R214). -/
def tuCycles (n : Nat) : Fld := if n % 2 = 0 then PRD_TUCYC.even (n / 2) else PRD_TUCYC.odd (n / 2)

/-- PRD_FCVEC shows 0 beyond the model's horizon (R216). -/
def beyondHorizon (n H : Nat) : List Upd := (List.range' H (200 - H)).flatMap (fun h => [.set (PRD_FCVEC.hi n h) 0, .set (PRD_FCVEC.mid n h) 0])

/-- A commit gives the slots their models (R199, R212, R214): `old` is the history key of the model before. The same key keeps the history.
Inputs that were taken for the new model at the commit's boundary stay in the pipeline. -/
def modelCommit (old : Nat → Option (Nat × Nat)) (n : Nat) (s : State) : List Upd :=
  let p := s.prdSlot n
  let neutral := [Upd.set (PRD_OUT.f_fc n) 0, .set (PRD_OUT.ramp_fc n) 255, .set (PRD_OUT.g_fc n) 0]
  match s.model? n with
  | some a =>
    let keep := old n == s.historyKey n
    let q := { p with fly := p.fly.filter (fun x => x.model == a), past := [], half := if keep then p.half else none, weightsBad := false,
                      index := if keep then p.index else [] }
    [.prd n q, .set (PRD_SSTAT.model n) 1, .set (PRD_SCFG.h n) (s.mdHorizon a), .set (PRD_SCFG.decim n) (s.mdDecim a), .set (PRD_MACS.macs n) (s.leMem (a + 24) 4 / 2),
     .set (PRD_WBYTES.bytes n) (s.leMem (a + 16) 4), .set (tuCycles n) (s.tickCycles a), .set (PRD_SSTAT.idx n) q.index.length,
     .set (PRD_SCFG.j n) ((List.range (s.mdOps a)).foldl (fun m i => if s.opField a i 0 1 = 0x0B then max m (s.opField a i 18 1) else m) 0)] ++
    neutral ++ onlyIf (!keep) [.set (PRD_SSTAT.steps n) 0] ++ beyondHorizon n (s.mdHorizon a)
  | none =>
    [.prd n { p with fly := [], past := [], index := [], half := none }, .set (PRD_SSTAT.model n) 0, .set (PRD_SSTAT.steps n) 0, .set (PRD_SSTAT.idx n) 0,
     .set (PRD_SCFG.h n) 0, .set (PRD_SCFG.decim n) 1, .set (PRD_SCFG.j n) 0, .set (PRD_MACS.macs n) 0, .set (PRD_WBYTES.bytes n) 0, .set (tuCycles n) 0] ++ neutral ++ beyondHorizon n 0

/-- A slot whose commit leaves its model as it is (R212): weights that had failed are tried again. -/
def modelKept (n : Nat) (s : State) : List Upd :=
  [.prd n { s.prdSlot n with weightsBad := false, fly := (s.prdSlot n).fly.map (fun x => { x with model := (s.model? n).getD x.model }) }]

end Sys2Proof.Machine
end

