-- ==== Sys2Proof/Machine/Fabric.lean ====
section
/-! DEFINITION. The control fabric (R217-R239, R243): bindings, routes, the pass, signatures and what the outputs drive. -/

namespace Sys2Proof.Machine

/-- The bindings of the image at `b`, in binding order. -/
def State.bindings (s : State) (b : Nat) : List Binding :=
  ((List.range (s.itemCount b Sec.iobind)).map (fun i =>
    let a := s.itemAt b Sec.iobind 12 i
    (⟨s.leMem a 2, s.leMem (a + 2) 1, s.leMem (a + 3) 1, s.leMem (a + 4) 2, s.leMem (a + 6) 2, s.leMem (a + 8) 2⟩ : Binding))).mergeSort
    (fun x y => decide (x.num ≤ y.num))

/-- A binding that a sampler reads; the others are outputs and port routes. -/
def Binding.read (b : Binding) : Bool := decide (b.kind < 3)

/-- The standard group's own bindings (R232): what they are the spec does not give (log 178). -/
def groupBindings : List Binding := Config.groupBindings.map (fun x => ⟨x.1, x.2.1, x.2.2.1, x.2.2.2.1, x.2.2.2.2.1, x.2.2.2.2.2⟩)

/-- Every binding, the image's and the standard group's, in binding order (R236), each with whether it is the group's. -/
def everyBinding (bs : List Binding) : List (Bool × Binding) :=
  (bs.map (fun b => (false, b)) ++ groupBindings.map (fun b => (true, b))).mergeSort (fun x y => decide (x.2.num ≤ y.2.num))

/-- Every binding that is read. -/
def everyRead (bs : List Binding) : List (Bool × Binding) := (everyBinding bs).filter (·.2.read)

/-- The job identity that fields 1 and 2 of class 0x08 mirror: the one that holds the lowest-numbered slot (R243, R278). -/
def State.firstJob? (s : State) : Option Nat := (List.range 8).findSome? s.jobOf

/-- A summary feature of a slot's upstream tick, absent without a model (R194, R243). -/
def State.slotFeature (s : State) (n f : Nat) : Int :=
  match s.model? n with
  | some a => s.feature a n (s.tick - s.rd (SWJ_STAT.updelay n)) f
  | none => -32768

/-- Cell c of the image at `b` (R242). -/
def State.cellOf (s : State) (b c : Nat) : Cell :=
  let a := s.itemAt b Sec.cells 32 c
  ⟨s.leMem a 1, s.leMem (a + 1) 1, s.leMem (a + 2) 2, s.leMem (a + 4) 4, s.leMem (a + 8) 4, toSigned 32 (s.leMem (a + 12) 4), s.leMem (a + 16) 4⟩

/-- The sampler of a binding counts edges (R227): it reads the level of a tach or flow pin, and no speed or rate (DEDUCED, log 208). -/
def State.countsEdges (s : State) (b : Binding) : Bool := s.committed && (s.cellOf s.liveImg b.cell).op != 0

/-- The value of a binding at this moment (R243, R347). -/
def State.bindValue (s : State) (b : Binding) : Int :=
  let i := b.idx
  let f := b.field
  let k := railTile i
  let j := railLocal i
  let nat (x : Nat) : Int := x
  if b.cls = 0x01 then
    (if f = 0 then nat (s.rd (V.uMax i)) else if f = 1 then nat (s.rd (V.brakeTick i))
     else if f = 2 then s.rdI (PHT_RI.i k j) else if f = 3 then nat (s.rd (PHT_RV.v k j)) else if f = 4 then s.rdI (PHT_RP.p k j)
     else if f = 5 then nat (s.rd (PHT_RSTAT.climit k j)) else if f = 6 then nat (s.rd (rNact i)) else if f = 7 then nat (s.rd (rState i)) else nat (s.rd (V.faultEvt i)))
  else if b.cls = 0x02 then (if f = 0 then s.rdI (PHT_CHI.i (i / 80) (i % 80)) else nat (s.rd (chState i)))
  else if b.cls = 0x03 then
    (if f = 0 then nat (s.rd (CAP_FREQ.force i)) else if f = 1 then nat (s.rd (V.upBubbles i)) else if f = 2 then nat (s.rd (V.upBrake i))
     else if f = 3 then nat (s.rd (CAP_BAL.active i)) else if f = 4 then nat (s.rd (SWJ_STEPOFS.offset i)) else if f = 6 then nat (s.rd (lkState i))
     else
       let sc := s.scalars i s.boundary (s.tick - s.rd (SWJ_STAT.updelay i))
       if f = 5 then sc.getD 13 0 else if f < 32 then sc.getD (14 + (f - 8)) 0 else s.slotFeature i (f - 32))
  else if b.cls = 0x04 then nat (ofBool (s.brakeFlag i))
  else if b.cls = 0x05 then (if f = 0 then nat (s.rd (Sig.pg i)) else if f = 1 then nat (s.rd (SEQ_RSTAT.vmon i)) else nat (s.rd (SEQ_RSTAT.state i)))
  else if b.cls = 0x06 then
    (if f = 0 then nat (s.rd (Sig.fedCmp i)) else if f = 1 then s.rdI (FED_CHI.i i) else if f = 2 then nat (s.rd (FED_CHV.vout i)) else nat (s.rd (FED_CHSTAT.state i)))
  else if b.cls = 0x07 then
    (if i < 16 then s.rdI (THM_EXTT.t i)
     else if i < 36 then nat (if s.countsEdges b then s.rd (Sig.tach (i - 16)) / 2 else s.rd (THM_CHSTAT.rpm (i - 16)))
     else if i < 44 then nat (s.rd (Sig.leak (i - 36)))
     else if i < 52 then nat (if s.countsEdges b then s.rd (Sig.flow (i - 44)) / 65536 else s.rd (THM_FLOW.rate (i - 44)))
     else if i = 52 then s.rdI THM_DEVT.primary else if i = 53 then s.rdI THM_DEVT.spare
     else s.rdI (THM_MAPT.t (i - 56)))
  else if b.cls = 0x08 then
    (if f = 0 then nat s.tick else if f = 3 then nat (s.rd TIM_DISC.state)
     else if 24 ≤ f then nat (s.rd (JOB_JRES.class_ (f - 24))) else if 16 ≤ f then nat (s.rd (JOB_JRES.index (f - 16)))
     else match s.firstJob? with
       | some j => nat (s.rd (if f = 1 then JOB_JRES.index j else JOB_JRES.class_ j))
       | none => 0)
  else if b.cls = 0x09 then (if f = 0 then nat (s.rd (Sig.syncStamp i)) else nat (ofBool (s.monitorFlag i)))
  else if b.cls = 0x0A then (if f < 200 then nat (s.rd (PRD_FCVEC.hi i f)) else nat (s.rd (PRD_FCVEC.mid i (f - 200))))
  else 0

/-- The signal behind an asynchronous binding, by code and index (R234). -/
def Binding.signal? (b : Binding) : Option (Nat × Nat) :=
  if b.kind ≠ 2 then none
  else if b.cls = 0x04 then some (23, b.idx)
  else if b.cls = 0x05 then some (3, b.idx)
  else if b.cls = 0x06 then some (20, b.idx)
  else if b.cls = 0x07 then (if b.idx < 36 then some (11, b.idx - 16) else if b.idx < 44 then some (12, b.idx - 36) else some (13, b.idx - 44))
  else if b.cls = 0x09 then some (if b.field = 0 then 21 else 22, b.idx)
  else none

/-- The 32-bit value a cell holds of a binding. -/
def cellWord (v : Int) : Int := toSigned 32 (ofSigned 32 v)

/-- The bindings of the live image latched at the boundary that begins a pass, and the uncertain samples among them (R229, R234). -/
def latchBindings (s : State) : List Upd :=
  if !s.committed then []
  else
    let bs := (s.bindings s.liveImg).filter (fun b => b.kind == 0 || b.kind == 2)
    [.fab { s.fab with latched := bs.foldl (fun m b => tablePut 0 m b.num (cellWord (s.bindValue b))) [],
                       groupIn := (groupBindings.filter (fun b => b.kind == 0 || b.kind == 2)).map (fun b => (b, cellWord (s.bindValue b))) }] ++
    ((bs.filter (fun b => match b.signal? with | some (c, i) => s.on (Sig.uncertain c i) | none => false)).zipIdx.flatMap (fun x =>
      [.set FAB_VARCNT.count (s.rd FAB_VARCNT.count + x.2 + 1), .set FAB_VARLAST.cell x.1.cell, .set FAB_VARLAST.binding x.1.num, .set FAB_EVT.variance 1,
       .set V.capVariance (x.2 + 1),
       .emit { typ := Ty.VARIANCE, src := srcOf 6 x.1.cell, variableMark := true,
               pay := [(24, 2, x.1.num), (26, 2, x.1.cell), (28, 4, ofSigned 32 (cellWord (s.bindValue x.1))), (32, 8, s.tick)] }]))

/-- Late bindings close within the tick of their pass (R229). -/
def closeLate (s : State) : List Upd :=
  if !s.committed then []
  else [.fab { s.fab with latched := ((s.bindings s.liveImg).filter (fun b => b.kind == 1)).foldl (fun m b => tablePut 0 m b.num (cellWord (s.bindValue b))) s.fab.latched,
                          groupIn := s.fab.groupIn ++ (groupBindings.filter (fun b => b.kind == 1)).map (fun b => (b, cellWord (s.bindValue b))) }]

/-- The inputs of the pass that ends now (R229), of the image's bindings and of the standard group's. -/
def State.passInput (s : State) (b : Bool × Binding) : Int :=
  if b.1 then ((s.fab.groupIn.find? (fun e => e.1 == b.2)).map (·.2)).getD 0 else tableGet 0 s.fab.latched b.2.num

/-- The binding a sampler cell reads. -/
def bindingOf (bs : List Binding) (c : Nat) : Option Binding := bs.find? (fun b => b.read && b.cell == c)

/-- Parameter values in force for a cell of the committed image (R248, R262). -/
def State.cellParam (s : State) (c : Nat) (isB : Bool) : Option Nat :=
  ((List.range (s.itemCount s.liveImg Sec.params)).find? (fun p => match s.param? p with | some q => q.cell == c && q.isB == isB | none => false)).map
    (fun p => s.rd (FAB_PARAM.value p))

/-- A cell of the committed image with its parameters. -/
def State.liveCell (s : State) (c : Nat) : Cell :=
  let x := s.cellOf s.liveImg c
  if bit x.flags 4 then { x with a := (s.cellParam c false).getD x.a, b := (s.cellParam c true).getD x.b } else x

/-- A byte or signed word of the constant pool. -/
def State.constByte (s : State) (b o : Nat) : Nat := s.leMem (s.itemAt b Sec.const 1 o) 1
def State.constWord (s : State) (b o : Nat) : Int := toSigned 32 (s.leMem (s.itemAt b Sec.const 1 o) 4)

/-- The source word that an image routes to a port (R233, R243 kind 4): its index is the slot, its field the port and its cell
the source. -/
def portRoute (bs : List Binding) (n p : Nat) : Option Nat := (bs.find? (fun b => b.kind == 4 && b.idx == n && b.field == p)).map (·.cell)

/-- A pass under evaluation: cell values so far, state words, saturations. -/
structure PassRun where
  vals : SMap Int := []
  words : SMap (List Int) := []
  sats : Nat := 0
  ins : SMap (List Int) := []

/-- The cells that quiet mode issues on a change only (R542). -/
def quietKind (x : Cell) : Bool :=
  (x.typ == 0 && !(x.op == 0x10 || x.op == 0x11 || x.op == 0x12)) || x.typ == 5 || (x.typ == 7 && (x.op == 0 || x.op == 2))

/-- The pass under way: the image, its bindings, the pass number and the boundary that ends it. -/
structure PassCtx where
  img : Nat
  bs : List Binding
  pass : Nat
  b : Nat

/-- What a source word gives apart from the standard group's ports (R218, R219). -/
def State.plainSource (s : State) (x : PassCtx) (src : Nat) (prev : Bool) (r : PassRun) : Int :=
  let i := src % 16384
  if src / 16384 = 0 then (if prev then tableGet 0 s.fab.prev (i % 4096) else tableGet 0 r.vals (i % 4096))
  else if src / 16384 = 1 then s.constWord x.img (4 * i)
  else if i = 1 then toSigned 32 x.pass else if i = 2 then -1 else 0

/-- A cell of the standard group that an image may read (R233). -/
def isPort (x : Nat) : Bool := decide (3584 ≤ x) && decide (x < 3712) && decide (x % 16 < 10)

/-- The EXT port whose term a port carries in the same pass (R163, R233). -/
def extOf? (p : Nat) : Option Nat :=
  if p < 4 then some p else if p = 4 then some 0 else if p = 5 then some 3 else if p = 6 then some 1 else if p = 7 then some 2 else none

/-- A port left unrouted reads 0, EXT_RAMP 255 (R233). -/
def unrouted (q : Nat) : Int := if q = 3 then 255 else 0

/-- What port p of slot n gives for its EXT term `e` (R163, R233). -/
def State.portOut (s : State) (x : PassCtx) (n p : Nat) (e : Int) : Int :=
  if p < 4 then e
  else if p = 4 then s.combQ n e
  else if p = 5 then s.combR n e
  else if p = 6 then s.combF x.b n e
  else if p = 7 then s.combG x.b n e
  else if p = 8 then s.slotPower n
  else s.rdI (PHT_RI.i (railTile n) (railLocal n))

/-- What a source word gives in the current pass, through at most `fuel` ports; an image whose ports form a loop does not load (R219,
R233). -/
def State.sourceValue (s : State) (x : PassCtx) (r : PassRun) : Nat → Nat → Int
  | 0, _ => 0
  | fuel + 1, src =>
    if src / 16384 = 0 && isPort (src % 4096) then
      let n := (src % 4096 - 3584) / 16
      let p := src % 16
      s.portOut x n p (match extOf? p with
        | some q => (match portRoute x.bs n q with
          | some y => s.sourceValue x r fuel y
          | none => unrouted q)
        | none => 0)
    else s.plainSource x src false r

/-- The value of port p of slot n in the current pass (R233). -/
def State.portValue (s : State) (x : PassCtx) (r : PassRun) (n p : Nat) : Int := s.sourceValue x r 65 (3584 + 16 * n + p)

/-- A routed input (R218, R219, R233). -/
def State.routeValue (s : State) (x : PassCtx) (r : PassRun) (c i : Nat) : Int :=
  let a := s.itemAt x.img Sec.routes 4 (4 * c + i)
  let src := s.leMem a 2
  if bit (s.leMem (a + 2) 1) 0 then s.plainSource x src true r else s.sourceValue x r 65 src

/-- One cell is evaluated (R221-R228); `inp` gives what its binding holds. -/
def State.evalCell (s : State) (ctx : PassCtx) (inp : Bool × Binding → Int) (r : PassRun) (c : Nat) : PassRun :=
  let img := ctx.img
  let x := s.liveCell c
  let ins := (List.range 4).map (s.routeValue ctx r c)
  let kept := tableFind? s.fab.words c
  let w := kept.getD []
  let last := tableGet 0 s.fab.prev c
  let put (v : Int) (ws : List Int) (n : Nat) : PassRun :=
    { vals := tableInsert r.vals c v, words := if ws.isEmpty then r.words else tableInsert r.words c ws, sats := r.sats + n,
      ins := if quietKind x then tableInsert r.ins c (ins ++ [(x.a : Int), (x.b : Int)]) else r.ins }
  if x.typ = 0 then
    let w0 := if x.op = 0x12 && kept.isNone then (let y := prngSeed (s.rd FAB_SEED.seed) c; [((y % 2 ^ 32 : Nat) : Int), ((y / 2 ^ 32 : Nat) : Int)]) else w
    let (v, ws, n) := evalArith x ins w0
    put v ws n
  else if x.typ = 1 then (let (v, n) := evalCmp x ins last; put v [] n)
  else if x.typ = 2 then (let (v, ws, n) := evalTimer x ins w; put v ws n)
  else if x.typ = 3 then
    let (v, st) := evalFsm x ins ((w.head?.map Int.toNat).getD (x.a % 16)) (fun o => s.constByte img (x.pool + o)) (fun o => s.constWord img (x.pool + o))
    put v [(st : Int)] 0
  else if x.typ = 4 then (let (v, ws, n) := evalBiquad x ins w last (fun o => s.constWord img (x.pool + o)); put v ws n)
  else if x.typ = 5 then (let (v, n) := evalTable x ins (fun k => s.constWord img (x.pool + 4 * k)); put v [] n)
  else if x.typ = 6 then
    match bindingOf ctx.bs c with
    | some y => (let (v, ws) := evalSampler x ins w last (inp (false, y)) kept.isNone; put v ws 0)
    | none => put 0 [] 0
  else put (evalMux x ins last) [] 0

/-- The cells of an image in the order of their slots (R230). -/
def State.schedule (s : State) (img : Nat) : List Nat :=
  (((List.range (s.itemCount img Sec.sched)).map (fun i => (s.leMem (s.itemAt img Sec.sched 4 i + 2) 2, s.leMem (s.itemAt img Sec.sched 4 i) 2))).mergeSort
    (fun x y => decide (x.1 ≤ y.1))).map (·.2)

/-- The pass of a number that ends at boundary b. -/
def State.passCtx (s : State) (pass b : Nat) : PassCtx := ⟨s.liveImg, s.bindings s.liveImg, pass, b⟩

/-- A pass of the committed image on given inputs (R229-R231). -/
def State.evalPass (s : State) (x : PassCtx) (inp : Bool × Binding → Int) : PassRun := (s.schedule x.img).foldl (s.evalCell x inp) {}

/-- The range of an output field (R217); an order, probe or event takes the value whole. -/
def outClamp (b : Binding) (v : Int) : Int :=
  if b.cls = 0x41 then clampInt 0 (if b.field = 2 then 63 else 65535) v
  else if b.cls = 0x43 then clampInt 0 1000 v
  else v

/-- The value an output binding publishes. -/
def PassRun.out (r : PassRun) (b : Binding) : Int := outClamp b (tableGet 0 r.vals b.cell)

/-- Output bindings in binding order. -/
def outputs (bs : List Binding) : List Binding := bs.filter (fun b => b.kind == 3)

/-- What an output of the standard group publishes (R163, R232, R243): a core rail's base set-point, guard and phase floor, or a slot's quota,
ramp budget and ballast. -/
def State.groupOut (s : State) (x : PassCtx) (r : PassRun) (b : Binding) : Int :=
  if b.cls = 0x41 then (if b.field = 0 then (s.coreBase b.idx : Nat) else if b.field = 1 then s.portValue x r b.idx 7 else s.portValue x r b.idx 6)
  else if b.field = 0 then s.portValue x r b.idx 4
  else if b.field = 1 then s.portValue x r b.idx 5
  else (s.rd (CAP_BAL.level b.idx) : Nat)

/-- What any output publishes. -/
def State.published (s : State) (x : PassCtx) (r : PassRun) (b : Bool × Binding) : Int := if b.1 then s.groupOut x r b.2 else r.out b.2

/-- A signature over values in binding order (R236). -/
def signature (bs : List (Bool × Binding)) (val : Bool × Binding → Int) : Nat := crc64 (bs.flatMap (fun b => leBytes 4 (ofSigned 32 (val b))))

/-- FAB_ISIG and FAB_DSIG of a pass (R236). -/
def inputSignature (bs : List Binding) (inp : Bool × Binding → Int) : Nat := signature (everyRead bs) inp
def State.decisionSignature (s : State) (x : PassCtx) (r : PassRun) : Nat := signature ((everyBinding x.bs).filter (·.2.kind == 3)) (s.published x r)

/-- A cell of the committed image carries the variable mark (R235, R242). -/
def State.cellMark (s : State) (c : Nat) : Bool := s.committed && decide (c < s.itemCount s.liveImg Sec.cells) && bit (s.cellOf s.liveImg c).flags 0

/-- A record of a cell (R61, R263). -/
def State.cellRec (s : State) (typ c : Nat) (pay : List (Nat × Nat × Nat)) : Upd := .emit { typ := typ, src := srcOf 6 c, pay := pay, variableMark := s.cellMark c }

/-- An order output whose value changed, or in the first pass of an image (R243). -/
def orderOut (b : Binding) (v : Int) (at' : Nat) (s : State) : State :=
  let mark := s.cellMark b.cell
  let blk := b.idx / 256
  let tgt := b.idx % 256
  let x := ofSigned 32 v
  let gone := x == 0xFFFF_FFFF
  if b.cls = 0x44 then s.does (issueLocal blk tgt b.field gone (if gone then 0 else x) 0 at' s.now mark)
  else protectSay ⟨.cell b.num mark, blk, tgt, b.field, x⟩ gone s

/-- What one output binding drives (R243). -/
def driveOut (r : PassRun) (at' : Nat) (b : Binding) (s : State) : State :=
  let v := r.out b
  let old := tableFind? s.fab.outs b.num
  let rose := v != 0 && (old.getD 0) == 0
  let mark := s.cellMark b.cell
  if b.cls = 0x41 then
    s.run (if b.field = 0 then [.set (V.outBase b.idx) v.toNat] else if b.field = 1 then [.set (V.outGuard b.idx) v.toNat] else [.set (V.outFloor b.idx) v.toNat])
  else if b.cls = 0x43 then s.run [.set (V.outDuty b.idx) v.toNat]
  else if b.cls = 0x44 || b.cls = 0x45 then (if old = some v then s else orderOut b v at' s)
  else if b.cls = 0x46 then
    (if b.field = 0 then s.run [.set (V.probe b.idx) (ofSigned 32 v)]
     else s.run (onlyIf rose ([.set V.capRaised (s.rd V.capRaised ||| 2), .set V.capCell b.cell] ++ onlyIf mark [.set V.capMark 1])))
  else if b.cls = 0x47 then s.run (onlyIf rose [s.cellRec b.idx b.cell [(24, 4, ofSigned 32 v)]])
  else s

/-- Which endpoints the image binds: an endpoint it leaves alone has no term of the fabric's. -/
def boundFlags (bs : List Binding) : List Upd :=
  let has (c i f : Nat) : Bool := bs.any (fun b => b.kind == 3 && b.cls == c && b.idx == i && b.field == f)
  ((List.range 10).map (· + 8)).flatMap (fun r => [setB (V.outBaseBound r) (has 0x41 r 0)] ++ onlyIf (!has 0x41 r 1) [.set (V.outGuard r) 0] ++
    onlyIf (!has 0x41 r 2) [.set (V.outFloor r) 0]) ++
  (List.range 20).map (fun f => setB (V.outDutyBound f) (has 0x43 f 0))

/-- A cell of the standard group that the spec does not lay out. -/
def innerCell (c : Nat) : Bool := decide (3584 ≤ c) && (decide (3712 ≤ c) || decide (10 ≤ c % 16))

/-- FABRIC_TRACE of a traced cell (R263, R264). -/
def traceCells (r : PassRun) (pass : Nat) (s : State) : List Upd :=
  (List.range 16).flatMap (fun i =>
    let c := s.rd (FAB_TRACE.cell i)
    let v := if innerCell c then Config.freeValue (pass * 4096 + c) % 2 ^ 32 else ofSigned 32 (tableGet 0 r.vals c)
    onlyIf (s.on (FAB_TRACE.en i) && (s.on (FAB_TRACE.every i) || (!innerCell c && v != s.rd (FAB_CELLVAL.value c))))
      [s.cellRec Ty.FABRIC_TRACE c [(24, 2, c), (28, 4, v), (32, 8, pass)]])

/-- The snapshot of a published pass (R239): per cell the value, four state words and, in the last eight bytes, the pass number. -/
def takeSnapshot (pass dsig isig : Nat) (s : State) : List Upd :=
  if s.on FAB_SNAPCTL.arm && s.rd FAB_SNAPAT.pass == pass then
    (List.range 4096).map (fun c =>
      let v := if innerCell c then Config.freeValue (s.rd V.freeCtr + c) % 2 ^ 32 else s.rd (FAB_CELLVAL.value c)
      let ws := tableGet [] s.fab.words c
      .store (snapBase + 32 * c) (leBytes 4 v ++ (List.range 4).flatMap (fun i => leBytes 4 (ofSigned 32 (ws.getD i 0))) ++ leBytes 4 0 ++ leBytes 8 pass)) ++
    [.set V.freeCtr (s.rd V.freeCtr + 4096), .set FAB_SNAPCTL.done 1, .set FAB_SNAPCTL.arm 0, .set FAB_EVT.snap 1,
     note Ty.FAB_SNAPSHOT (srcOf 6 0) [(24, 8, pass), (32, 8, dsig), (40, 8, isig)]]
  else []

/-- Issues that quiet mode skips in a pass (R542): cells whose inputs and parameters are those of their last issue. How many
cells of the standard group it skips the spec does not tell: that part is a FREE VALUE. -/
def countSkips (r : PassRun) (s : State) : List Upd :=
  onlyIf (s.on CRP_QCTL.active)
    [.set CRP_QSKIP.count (s.rd CRP_QSKIP.count + (r.ins.filter (fun e => tableFind? s.fab.issued e.1 == some e.2)).length + s.free % 513), freeUsed s]

/-- What a pass publishes in the fabric itself (R229, R236, R239); `isig` is the input signature. -/
def publishPass (x : PassCtx) (isig : Nat) (r : PassRun) (s : State) : State :=
  let pass := x.pass
  let ports := (List.range 8).flatMap (fun n => (List.range 10).map (fun p => (3584 + 16 * n + p, s.portValue x r n p)))
  let vals := r.vals ++ ports
  let t := (s.does (traceCells { r with vals := vals } pass)).does (countSkips r)
  let sats := r.sats + ((outputs x.bs).filter (fun o => outClamp o (tableGet 0 r.vals o.cell) != tableGet 0 r.vals o.cell)).length
  let dsig := s.decisionSignature x r
  (t.run (vals.map (fun x => .set (FAB_CELLVAL.value x.1) (ofSigned 32 x.2)) ++
    [.fab { t.fab with prev := vals.foldl (fun m x => tablePut 0 m x.1 x.2) t.fab.prev, words := r.words.foldl (fun m x => tablePut [] m x.1 x.2) t.fab.words, issued := r.ins },
     .set FAB_PASS.pass pass, .set V.passDone 1, .set FAB_SATCNT.count (t.rd FAB_SATCNT.count + sats), .set FAB_DSIG.sig dsig, .set FAB_ISIG.sig isig])).does (takeSnapshot pass dsig isig)

/-- The outputs of a pass reach their endpoints at boundary b (R229, R243), those of lower cells first (R583). -/
def driveAll (x : PassCtx) (r : PassRun) (s : State) : State :=
  let ext := (List.range 8).flatMap (fun n => (List.range 4).map (fun p => setI (V.ext n p) (satSigned 32 (s.portValue x r n p))))
  let t := (s.run ext).run (boundFlags x.bs)
  let u := ((outputs x.bs).mergeSort (fun a b => decide (a.cell ≤ b.cell))).foldl (fun w o => driveOut r x.b o w) t
  u.run [.fab { u.fab with outs := (outputs x.bs).foldl (fun m o => tableInsert m o.num (r.out o)) [] }]

/-- Pass k of the running image, at the end of control tick k; b is the boundary k + 1. -/
def fabricPass (b : Nat) (s : State) : State :=
  if !s.committed then s
  else
    let x := s.passCtx s.tick b
    let r := s.evalPass x s.passInput
    driveAll x r (publishPass x (inputSignature x.bs s.passInput) r s)

end Sys2Proof.Machine
end

