-- ==== Sys2Proof/Machine/Loader.lean ====
section
/-! DEFINITION. The structure image's loader (R240-R255, with R162, R206, R210, R230, R235): the checks of a load, each answering
a code of R255 and the offending item, and the load itself. -/

namespace Sys2Proof.Machine

/-- Where a load fails: a code of R255 and the item. -/
abbrev LoadErr := Option (Nat × Nat)

/-- The first index of a list whose element fails a test. -/
def firstWhere {α : Type} (l : List α) (bad : α → Bool) : Option Nat := (List.range l.length).find? (fun i => match l[i]? with
  | some x => bad x
  | none => false)

/-- A failure with a code where an item is found. -/
def failAt (code : Nat) (o : Option Nat) : LoadErr := o.map (fun i => (code, i))

/-- A failure with a code and item 0 where a condition holds. -/
def failIf (code : Nat) (c : Bool) : LoadErr := if c then some (code, 0) else none

/-- Header numbers of the image at `b` (R240). -/
def State.hdr (s : State) (b o n : Nat) : Nat := s.leMem (b + o) n

/-- Bytes of an item of a fixed-size section (R241); 0 for the others. -/
def itemSize (typ : Nat) : Nat :=
  if typ = Sec.cells || typ = Sec.rails || typ = Sec.fans then 32
  else if typ = Sec.routes || typ = Sec.const || typ = Sec.sched then 4
  else if typ = Sec.iobind || typ = Sec.reginit then 12
  else if typ = Sec.reserve then 8
  else if typ = Sec.params || typ = Sec.policy then 16
  else if typ = Sec.record then 2 else 0

/-- The section types of R241. -/
def knownSections : List Nat := [1, 2, 3, 4, 5, 6, 7, 8, 9, 10, 11, 12, 13, 0x7F]

/-- Code 2: length, offsets, overlap or alignment of the image of `len` bytes, and REGINIT items outside what R247 permits. -/
def State.layoutBad (s : State) (b len : Nat) : LoadErr :=
  let ds := s.directory b
  let top := s.hdr b 20 4
  let head : LoadErr := failIf 2 (s.hdr b 16 4 != len || decide (48 * 1048576 < len) || decide (len < 512 + 2820) || top != len - 2820)
  let one : LoadErr := failAt 2 (firstWhere ds (fun e => e.ofs % 64 != 0 || decide (e.ofs < 512) || decide (top < e.ofs + e.len) ||
    (itemSize e.typ != 0 && e.len != itemSize e.typ * e.count)))
  let two : LoadErr := failAt 2 ((List.range ds.length).find? (fun i => (List.range i).any (fun j => match ds[i]?, ds[j]? with
    | some x, some y => overlap x.ofs x.len y.ofs y.len
    | _, _ => false)))
  head.or (one.or two)

/-- Bits of a register that R247 lets a REGINIT item write. -/
def initBits (h : RegHit) : Nat :=
  h.fields.foldl (fun m e => if e.1 = .rw || e.1.staged || e.1.transactional then m ||| ((2 ^ e.2.width - 1) * 2 ^ e.2.lsb) else m) 0

/-- A REGINIT item stays within such fields of a Cirque, prediction or record block (R247), or of TWI_SURV (R490). -/
def initOk (ofs mask : Nat) : Bool :=
  match blockAt? ofs, regAt? ofs with
  | some k, some h => (decide (k.plane < 3) || (decide (0x100_0100 ≤ ofs) && decide (ofs < 0x100_0180))) && clearBits (mask * (if h.upper then 2 ^ 32 else 1)) (initBits h) == 0
  | _, _ => false
def State.reginitBad (s : State) (b : Nat) : LoadErr :=
  failAt 2 ((List.range (s.itemCount b Sec.reginit)).find? (fun i =>
    let a := s.itemAt b Sec.reginit 12 i
    !initOk (s.leMem a 4) (s.leMem (a + 4) 4)))

/-- Code 3: a required section is missing, or an unknown one is not optional. -/
def State.sectionsBad (s : State) (b : Nat) : LoadErr :=
  let ds := s.directory b
  (failIf 3 ([Sec.cells, Sec.routes, Sec.sched, Sec.manifest].any (fun t => !ds.any (fun e => e.typ == t)))).or
    (failAt 3 (firstWhere ds (fun e => !knownSections.contains e.typ && !e.optional)))

/-- Bytes of the MANIFEST section (R253). -/
def State.manifestBytes (s : State) (b : Nat) : List Nat :=
  match s.sect? b Sec.manifest with
  | some e => memBytes s.mem (b + e.ofs) e.len
  | none => []

/-- The manifest digest of a structure image (R253). -/
def State.imageDigest (s : State) (b : Nat) : List Nat := digest (s.manifestBytes b)

/-- Code 4: a digest of the manifest differs. -/
def State.digestsBad (s : State) (b : Nat) : LoadErr :=
  let ds := s.directory b
  let m := s.manifestBytes b
  (failIf 4 (m.take 32 != digest (memBytes s.mem b 512) || leAt m 48 2 != s.hdr b 14 2)).or
    (failAt 4 ((List.range ds.length).find? (fun i => match ds[i]? with
      | some e => sliceBytes m (50 + 32 * i) 32 != (if e.typ = Sec.manifest then List.replicate 32 0 else digest (memBytes s.mem (b + e.ofs) e.len))
      | none => false)))

/-- Codes 5 and 6: the key that the manifest names, and its signature (R253, R399). -/
def State.signatureBad (s : State) (b len : Nat) : LoadErr :=
  let m := s.manifestBytes b
  match (List.range 8).find? (fun k => s.on (KPR_KEYSLOT.valid k) && s.keyId k == sliceBytes m 32 16) with
  | none => some (6, 0)
  | some k =>
    if !s.signedBy k m (memBytes s.mem (b + len - 2820) 2820) then some (5, 0)
    else if !s.keyUsable 2 k then some (6, 0) else none

/-- Code 8: target part or standard-group version. -/
def State.targetBad (s : State) (b : Nat) : LoadErr :=
  failIf 8 (s.glbId &&& s.hdr b 36 4 != s.hdr b 32 4 &&& s.hdr b 36 4 || s.hdr b 48 1 != 1)

/-! Code 9: the fabric. -/

/-- Input i of cell c: its source word and prev flag (R242). -/
def State.routeOf (s : State) (b c i : Nat) : Nat × Bool :=
  let a := s.itemAt b Sec.routes 4 (4 * c + i)
  (s.leMem a 2, bit (s.leMem (a + 2) 1) 0)

/-- The cell a source word names (R218). -/
def sourceCell? (src : Nat) : Option Nat := if src / 16384 = 0 then some (src % 4096) else none

/-- What a source word comes to in the same pass (R219, R233): the ports it leads through, the reader's side first, and the image cell at its
end, if it ends at one. None: the ports form a loop. -/
def reach (n : Nat) (bs : List Binding) : Nat → Nat → Option (List Nat × Option Nat)
  | 0, _ => none
  | fuel + 1, src =>
    match sourceCell? src with
    | none => some ([], none)
    | some x =>
      if !isPort x then some ([], if x < n then some x else none)
      else
        match (extOf? (x % 16)).bind (portRoute bs ((x - 3584) / 16)) with
        | some y => (reach n bs fuel y).map (fun e => (x :: e.1, e.2))
        | none => some ([x], none)

/-- Ports that depend on late bindings: q_out on u and b, ramp_out on the tray's power, slot power and I_rail (R163, R164, R229, log 178). -/
def latePort (x : Nat) : Bool := x % 16 == 4 || x % 16 == 5 || x % 16 == 8 || x % 16 == 9

/-- A port that carries forecast terms (R210, R233). -/
def forecastPort (x : Nat) : Bool := decide (5 ≤ x % 16) && decide (x % 16 ≤ 7)

/-- A function applied n times. -/
def iterate {α : Type} (f : α → α) : Nat → α → α
  | 0, x => x
  | n + 1, x => iterate f n (f x)

/-- Cells that depend on a late binding through same-pass routes, as a bit map (R230). -/
def State.lateCells (s : State) (b n : Nat) (bs : List Binding) : Nat :=
  let ends (c : Nat) : List (List Nat × Option Nat) := (List.range 4).filterMap (fun i =>
    let r := s.routeOf b c i
    if r.2 then none else reach n bs 65 r.1)
  let own := maskOf n (fun c => bs.any (fun x => x.kind == 1 && x.cell == c) || (ends c).any (fun e => e.1.any latePort))
  iterate (fun m => m ||| maskOf n (fun c => (ends c).any (fun e => (e.2.map (bit m)).getD false))) n own

/-- Slots whose forecast terms reach a source, given those that reach each cell (R210): a port that the group drives carries them or stops them. -/
def forecastOf (n : Nat) (bs : List Binding) (f : List Nat) (src : Nat) : Nat :=
  match reach n bs 65 src with
  | some (ps, x) =>
    match ps.find? (fun p => decide (4 ≤ p % 16)) with
    | some p => if forecastPort p then 2 ^ ((p - 3584) / 16) else 0
    | none => (x.map (fun c => f.getD c 0)).getD 0
  | none => 0

/-- Slots whose forecast terms reach each image cell, as bit maps (R210). -/
def State.forecastCells (s : State) (b n : Nat) (bs : List Binding) : List Nat :=
  iterate (fun f => (List.range n).map (fun c => (List.range 4).foldl (fun m i => m ||| forecastOf n bs f (s.routeOf b c i).1) (f.getD c 0))) n (List.replicate n 0)

/-- What R210 lets a forecast-dependent cell drive: capture probes and the Firn. -/
def forecastOutOk (x : Binding) : Bool := (x.cls == 0x46 && x.field == 0) || x.cls == 0x47

/-- The kind a binding's class has (R243). -/
def bindKindOk (x : Binding) : Bool :=
  if x.kind = 4 then decide (x.idx < 8) && decide (x.field < 4)
  else if x.cls = 0x01 || x.cls = 0x02 then x.kind == 1
  else if x.cls = 0x03 || x.cls = 0x08 then x.kind == 0
  else if x.cls = 0x04 || x.cls = 0x09 then x.kind == 2
  else if x.cls = 0x05 || x.cls = 0x06 then x.kind == (if x.field = 0 then 2 else 0)
  else if x.cls = 0x07 then x.kind == (if x.field = 0 then 0 else 2)
  else decide (0x41 ≤ x.cls) && decide (x.cls ≤ 0x47) && x.kind == 3

/-- Endpoints that only the standard group may bind (R162, R232). -/
def standardOnly (x : Binding) : Bool := x.cls == 0x0A || x.cls == 0x42 || (x.cls == 0x41 && decide (x.idx < 8))

/-- Two bindings that collide: one number, one thing read twice, one endpoint bound twice, one port routed twice (R227, R255). -/
def bindsClash (x y : Binding) : Bool :=
  x.num == y.num || (x.read && y.read && (x.cell == y.cell || (x.cls == y.cls && x.idx == y.idx && x.field == y.field))) ||
    (x.kind == 3 && y.kind == 3 && x.cls == y.cls && x.idx == y.idx && x.field == y.field) ||
    (x.kind == 4 && y.kind == 4 && x.idx == y.idx && x.field == y.field)

/-- A source word of an image of n cells is a route that R218, R233 and R255 permit. -/
def routeOk (n src : Nat) : Bool :=
  match sourceCell? src with
  | some x => decide (x < n) || isPort x
  | none => src / 16384 == 1 || (src / 16384 == 2 && decide (src % 16384 < 3))

/-- What the fabric check knows of an image: its cells' number, bindings, schedule, late cells and forecast cells. -/
structure FabView where
  n : Nat
  bs : List Binding
  sched : List (Nat × Nat)
  late : Nat
  fc : List Nat

/-- The image at `b` as the fabric check sees it. -/
def State.fabView (s : State) (b : Nat) : FabView :=
  let n := s.hdr b 50 2
  let bs := s.bindings b
  { n := n, bs := bs,
    sched := (List.range (s.itemCount b Sec.sched)).map (fun i => (s.leMem (s.itemAt b Sec.sched 4 i) 2, s.leMem (s.itemAt b Sec.sched 4 i + 2) 2)),
    late := s.lateCells b n bs, fc := s.forecastCells b n bs }

/-- The cycle a cell is issued in; none where it has not exactly one slot of its own in lanes 0 to 5 (R230). -/
def FabView.cycle? (v : FabView) (c : Nat) : Option Nat :=
  match v.sched.filter (fun e => e.1 == c) with
  | [e] => if decide (e.2 % 8 < 6) && (v.sched.filter (fun x => x.2 == e.2)).length == 1 then some (e.2 / 8) else none
  | _ => none

/-- Latency of an image cell (R220). -/
def State.cellLat (s : State) (b d : Nat) : Nat := cellLatency (s.cellOf b d).typ (s.cellOf b d).op

/-- A cell or port of cycle `cy` reads a source too early (R230): an image cell before its result can be read, one behind ports before the ports'
own cycles too, of one fabric cycle each at the least, or a port before the cycle after the one that issues it (log 178). A loop through ports
is no schedule. -/
def State.readsEarly (s : State) (b : Nat) (v : FabView) (cy src : Nat) : Bool :=
  match reach v.n v.bs 65 src with
  | none => true
  | some (ps, x) =>
    (match x with
     | some d => (match v.cycle? d with | some cd => decide (cy < cd + s.cellLat b d + ps.length) | none => true)
     | none => false) ||
    (match ps with | p :: _ => decide (cy < Config.portCycle ((p - 3584) / 16) (p % 16) + 1) | [] => false)

/-- The route of an EXT port is not in time for the standard group's schedule, or loops (R219, R230, R232). -/
def State.portLate (s : State) (b : Nat) (v : FabView) (x : Binding) : Bool := s.readsEarly b v (Config.portCycle x.idx x.field) x.cell

/-- A source is variable (R164, R235): an image cell with the mark, or q_out, which reads the brake flag. A prev route reads the port's own last
value, which varies as its EXT source did. -/
def State.readsVariable (s : State) (b : Nat) (v : FabView) (src : Nat) : Bool :=
  match reach v.n v.bs 65 src with
  | none => false
  | some (ps, x) => ps.any (fun p => p % 16 == 4) || (x.map (fun d => bit (s.cellOf b d).flags 0)).getD false

/-- Cell c breaks a rule of code 9 (R210, R219, R230, R235, R255). -/
def State.cellBad (s : State) (b : Nat) (v : FabView) (c : Nat) : Bool :=
  let x := s.cellOf b c
  match v.cycle? c with
  | none => true
  | some cy =>
    let routes := (List.range 4).map (s.routeOf b c)
    decide (7 < x.typ) ||
    routes.any (fun r => !routeOk v.n r.1) ||
    routes.any (fun r => !r.2 && s.readsEarly b v cy r.1) ||
    !(if bit v.late c then decide (1136 ≤ cy) && decide (cy < 1192) else decide (8 ≤ cy) && decide (cy < 1192)) ||
    (v.bs.any (fun y => y.kind == 3 && y.cell == c) && decide (1192 < cy + s.cellLat b c)) ||
    (!bit x.flags 0 && (v.bs.any (fun y => y.kind == 2 && y.cell == c) || routes.any (fun r => s.readsVariable b v r.1))) ||
    (v.fc.getD c 0 != 0 && (popCount 8 (v.fc.getD c 0) != 1 || v.bs.any (fun y => y.kind == 3 && y.cell == c && !forecastOutOk y)))

/-- Binding i breaks a rule of code 9 (R162, R210, R227, R232, R243). -/
def State.bindBad (s : State) (b : Nat) (v : FabView) (x : Binding) : Bool :=
  !bindKindOk x || standardOnly x ||
    (x.read && !(decide (x.cell < v.n) && (s.cellOf b x.cell).typ == 6)) ||
    (x.kind == 3 && !decide (x.cell < v.n)) ||
    (x.kind == 4 && (!routeOk v.n x.cell || (forecastOf v.n v.bs v.fc x.cell != 0 && forecastOf v.n v.bs v.fc x.cell != 2 ^ x.idx) ||
      s.portLate b v x))

/-- Code 9. -/
def State.fabricBad (s : State) (b : Nat) : LoadErr :=
  let v := s.fabView b
  (failAt 9 ((List.range v.n).find? (s.cellBad b v))).or
    ((failAt 9 ((v.bs.find? (s.bindBad b v)).map (·.num))).or
      (failAt 9 ((List.range v.bs.length).find? (fun i => (List.range i).any (fun j => match v.bs[i]?, v.bs[j]? with
        | some x, some y => bindsClash x y
        | _, _ => false)))))

/-! Code 10: the models. -/

/-- An operator breaks its own limits (R206). -/
def State.opBad (s : State) (a i : Nat) : Bool :=
  let code := s.opField a i 0 1
  let x := s.tensDims a (s.opField a i 4 2)
  let y := s.tensDims a (s.opField a i 2 2)
  code == 0 || decide (0x0C < code) || decide (500 < s.opCost a i) ||
    (code == 1 && (decide (16384 < dimSize x) || decide (4096 < dimSize y))) ||
    (code == 2 && (decide (16 < s.opField a i 18 1) || s.opField a i 18 1 == 0 || !(decide (1 ≤ s.opField a i 19 1) && decide (s.opField a i 19 1 ≤ 4)) ||
      decide (256 < x.getLastD 1) || decide (256 < y.getLastD 1))) ||
    (code == 0x0B && decide (8 < s.opField a i 18 1))

/-- A tensor breaks its limits: elements, and exponents of BS8 weights (R206). -/
def State.tensBad (s : State) (a i : Nat) : Bool :=
  let size := dimSize (s.tensDims a i)
  let w := s.mdTable a 2 + s.leMem (s.mdTable a 0 + 16 * i + 12) 4
  let inner := (s.tensDims a i).getLastD 1
  let blocks := if inner = 0 then 0 else size / inner * ceilDiv inner 32
  decide (16384 < size) ||
    (s.tensKind a i == 3 && s.tensFmt a i == Fmt.bs8 && (List.range blocks).any (fun q => decide (254 < s.leMem (w + 33 * q) 1)))

/-- A model breaks a limit of R206, or needs more than 4 stages (R252). -/
def State.modelBad (s : State) (a : Nat) : Bool :=
  let n := s.mdOps a
  let ops := List.range n
  let sum (f : Nat → Nat) : Nat := ops.foldl (fun t i => t + f i) 0
  n == 0 || decide (64 < n) || s.opField a (n - 1) 0 1 != 0x0C || sum (fun i => ofBool (s.opField a i 0 1 == 0x0C)) != 1 ||
    decide (16 * 1048576 < s.leMem (a + 16) 4) || decide (4 * 1048576 < s.leMem (a + 20) 4) ||
    decide (512 * 1024 < sum (s.opBytes a) - s.leMem (a + 20) 4) ||
    decide (7000000 < max (s.leMem (a + 24) 4) (sum (s.opMacs a))) || decide (512 < max (s.leMem (a + 28) 2) (sum (s.opRecords a))) ||
    s.mdHorizon a == 0 || decide (200 < s.mdHorizon a) || !(s.leMem (a + 8) 1 == 1 || s.leMem (a + 8) 1 == 2) ||
    ops.any (s.opBad a) || (List.range (s.leMem (a + 12) 2)).any (s.tensBad a) || decide (4 < stagesOf (ops.map (s.opCost a)))

/-- Code 10. -/
def State.modelsBad (s : State) (b : Nat) : LoadErr :=
  match s.sect? b Sec.models with
  | none => none
  | some e => failAt 10 ((List.range (min 8 (s.leMem (b + e.ofs) 1))).find? (fun k => s.modelBad (b + e.ofs + s.leMem (b + e.ofs + 16 + 16 * k) 4)))

/-- Code 11: counts and sizes of R240 and R241. -/
def State.countsBad (s : State) (b : Nat) : LoadErr :=
  let n := s.hdr b 50 2
  let c (t : Nat) : Nat := s.itemCount b t
  let models : Nat := match s.sect? b Sec.models with
    | some e => s.leMem (b + e.ofs) 1
    | none => 0
  (failIf 11 (s.hdr b 14 2 == 0 || decide (28 < s.hdr b 14 2) || decide (3584 < n))).or
    (failAt 11 (firstWhere (s.directory b) (fun e =>
      if e.typ = Sec.cells || e.typ = Sec.sched then e.count != n else if e.typ = Sec.routes then e.count != 4 * n
      else if e.typ = Sec.const then decide (2097152 < e.count) else if e.typ = Sec.iobind then decide (4096 < c Sec.iobind)
      else if e.typ = Sec.rails then decide (128 < e.count) else if e.typ = Sec.fans then decide (8 < e.count)
      else if e.typ = Sec.reserve then e.count != 8 else if e.typ = Sec.params then decide (1024 < e.count)
      else if e.typ = Sec.models then decide (8 < models) else if e.typ = Sec.record then decide (e.count < 64) else false)))

/-- The check of R255 on the `len` bytes at `b`: the first code that applies, with its item, or none. -/
def State.imageBad (s : State) (b len : Nat) : LoadErr :=
  (failIf 1 (memBytes s.mem b 8 != ascii "OR8STRIM" || s.hdr b 8 2 != 1 || s.hdr b 12 2 != 512)).or
    ((s.layoutBad b len).or ((s.reginitBad b).or ((s.sectionsBad b).or ((s.digestsBad b).or ((s.signatureBad b len).or
      ((failIf 7 (decide (s.hdr b 28 4 < s.minOf 2))).or ((s.targetBad b).or ((s.fabricBad b).or ((s.modelsBad b).or (s.countsBad b))))))))))

/-- The code of R255 for an image that stands elsewhere, as if it had been copied into the idle bank. -/
def State.imageCode (s : State) (w : Place) (len : Nat) : Nat :=
  (((s.run [.store s.idleImg (s.at' w 0 len)]).imageBad s.idleImg len).map (·.1)).getD 0

/-- Load states of FAB_STAT. -/
def LoadS.empty : Nat := 0
def LoadS.loading : Nat := 1
def LoadS.verified : Nat := 2
def LoadS.failed : Nat := 3

/-- What a load's end or refusal reports (R254, R260, R263). -/
def loadReport (code item : Nat) (s : State) : List Upd :=
  let b := s.idleImg
  [.set FAB_LOADERR.code code, .set FAB_LOADERR.item item, if code = 0 then .set FAB_EVT.load_ok 1 else .set FAB_EVT.load_fail 1,
   note Ty.IMG_LOAD (srcOf 6 0) [(24, 1, code), (25, 1, 1 - s.rd FAB_STAT.bank), (28, 4, s.hdr b 24 4), (32, 4, s.hdr b 28 4), (36, 4, item)]]

/-- A transaction is open or committing. -/
def State.txBusy (s : State) : Bool := s.rd TIM_TXSTAT.state == TxS.openS || s.rd TIM_TXSTAT.state == TxS.committing

/-- The bytes of an image reach the idle bank (R254); `ue` says that its source held an uncorrectable error. -/
def loadBytes (bytes : List Nat) (len : Nat) (ue : Bool) (s : State) : State :=
  s.run [.store s.idleImg bytes, .set FAB_STAT.load LoadS.loading, .set V.loadLen len, setB V.loadUe ue]

/-- A load is ordered (R254): refused while a transaction is open (R260), else the image is copied into the idle bank. -/
def loadStart (addr len : Nat) (s : State) : State :=
  if s.txBusy then s.does (loadReport 13 0)
  else
    loadBytes (memBytes s.mem addr (min len bankSize)) len (s.ueIn addr len) (s.run (lpTraffic false addr (min len bankSize) s))

/-- A load ends (R254, R255). -/
def loadEnd (s : State) : State :=
  let bad := (s.imageBad s.idleImg (s.rd V.loadLen)).or (failIf 12 (s.on V.loadUe))
  match bad with
  | none => (s.run [.set FAB_STAT.load LoadS.verified]).does (loadReport 0 0)
  | some (c, i) => (s.run [.set FAB_STAT.load LoadS.failed]).does (loadReport c i)

end Sys2Proof.Machine
end

