-- ==== Sys2Proof/Machine/Boot.lean ====
section
/-! DEFINITION. Boot, trust and lifecycle, and the image store (chapters 13 and 14): the ROM, the selection of images, the
keeper's start, the gate calls and what they do. -/

namespace Sys2Proof.Machine

/-- Stages of KPR_BOOT (R421). -/
def Stage.rom : Nat := 0
def Stage.gated : Nat := 1
def Stage.running : Nat := 2
def Stage.services : Nat := 3
def Stage.waiting : Nat := 4
def Stage.endState : Nat := 5
def Stage.noCore : Nat := 6

/-- A record of the keeper or the ROM (R420, R441). -/
def keeperNote (typ : Nat) (pay : List (Nat × Nat × Nat)) : Upd := note typ (srcOf 0xB 0) pay

/-- KPR_BOOT.stage takes a value, recorded (R403, R420). -/
def stageTo (st : Nat) (s : State) : List Upd :=
  let slot := s.rd KPR_BOOT.keeper_slot
  let ran := st == Stage.running || st == Stage.services
  [.set KPR_BOOT.stage st,
   keeperNote Ty.BOOT_STAGE [(24, 1, st), (25, 1, slot), (26, 1, s.rd KPR_BOOT.service_slot), (27, 1, s.rd KPR_BOOT.keeper_core),
     (28, 4, if ran then s.rd V.keeperVersion else 0), (32, 4, s.rd (KPR_SVN.svn 0)), (36, 1, s.lifecycle)]]

/-! Selection of images (R431-R434). -/

/-- The two slots of a kind, by counter descending, A first where they are equal. -/
def State.byCounter (s : State) (k : Nat) : List Nat := if (s.item k 0).counter < (s.item k 1).counter then [1, 0] else [0, 1]

/-- Candidates of a kind (R432). -/
def State.candidates (s : State) (k : Nat) : List Nat :=
  let fit (st : Nat) : List Nat := (s.byCounter k).filter (fun sl => (s.item k sl).state == st && !(s.item k sl).rejected)
  fit ImgS.active ++ fit ImgS.retired

/-- Both slots of a kind are ACTIVE. -/
def State.bothActive (s : State) (k : Nat) : Bool := (s.item k 0).state == ImgS.active && (s.item k 1).state == ImgS.active

/-- The slot on trial (R432); suspect slots have none (R433). -/
def State.onTrial (s : State) (k : Nat) : Option Nat :=
  if s.bothActive k && (s.item k 0).counter != (s.item k 1).counter then (s.byCounter k).head? else none
def State.suspects (s : State) (k : Nat) : Bool := s.bothActive k && (s.item k 0).counter == (s.item k 1).counter

/-- The trial count of a kind (R432, R442). -/
def trialCount (k : Nat) : Fld := if k = 0 then IMG_TRIAL.keeper else if k = 1 then IMG_TRIAL.service else IMG_TRIAL.structure_

/-- A slot on trial reached trymax: it retires, rejected, and the trial ends (R428, R432). Where its record may not be begun, it is
passed over and its count stands (R400, R440). -/
def rejectTrial (k sl : Nat) (s : State) : State :=
  if !s.mayRecord then s.run [.set IMG_EVT.reject 1, .set (V.selRejected k) 1] else
  (moveItem k sl { s.item k sl with state := ImgS.retired, rejected := true } s).run
    [.set (trialCount k) 0, .set IMG_EVT.reject 1, .set (V.selRejected k) 1]

/-- A check of a keeper or service image failed (R404, R420). -/
def imageFailed (k sl code version svn : Nat) (s : State) : List Upd :=
  .set (V.selFail k) code ::
    onlyIf (decide (k < 2))
      [.set KPR_VERIFY.code code, bumpSat s KPR_VERIFY.fails 1,
       keeperNote Ty.IMAGE_REJECT [(24, 1, k), (25, 1, sl), (26, 1, code), (28, 4, version), (32, 4, svn), (36, 4, s.minOf k)]]

/-- Version and svn as an image's header gives them (R240, R402, R430). -/
def State.imgVersion (s : State) (k : Nat) (w : Place) : Nat := s.num w (if k = 2 then 24 else 20) 4
def State.imgSvn (s : State) (k : Nat) (w : Place) : Nat := s.num w (if k = 2 then 28 else 24) 4

/-- The suspect slots beside the one that is selected are checked as well (R433). -/
def suspectsToo (k : Nat) (chk : State → Nat → Nat) (rest : List Nat) (s : State) : State :=
  if s.suspects k then
    rest.foldl (fun t sl =>
      let c := chk t sl
      if c = 0 then t else t.does (imageFailed k sl c (s.imgVersion k (s.itemPlace k sl)) (s.imgSvn k (s.itemPlace k sl)))) s
  else s

/-- The slots of a list are tried in order (R432): one on trial counts a start, or is rejected at trymax. -/
def trySlots (k : Nat) (chk : State → Nat → Nat) : List Nat → State → State × Option Nat
  | [], s => (s, none)
  | sl :: rest, s =>
    let trial := s.onTrial k == some sl
    if trial && decide (s.rd IMG_TRIAL.trymax ≤ s.rd (trialCount k)) then trySlots k chk rest (rejectTrial k sl s)
    else
      let t := if trial then s.run [bumpSat s (trialCount k) 1] else s
      let c := chk t sl
      if c = 0 then (suspectsToo k chk rest t, some sl)
      else trySlots k chk rest (t.does (imageFailed k sl c (s.imgVersion k (s.itemPlace k sl)) (s.imgSvn k (s.itemPlace k sl))))

/-- Why a slot was selected (R441). -/
def State.selectReason (s : State) (k : Nat) (sl : Option Nat) : Nat :=
  match sl with
  | none => 5
  | some x => if s.suspects k then 3 else if s.on (V.selRejected k) then 4 else if (s.candidates k).head? = some x then 1 else 2

/-- The IMG_SELECT record of a selection (R441), and what IMG shows of it. -/
def recordSelect (k : Nat) (sl : Option Nat) (s : State) : List Upd :=
  [keeperNote Ty.IMG_SELECT [(24, 1, k), (25, 1, sl.getD 0xFF), (26, 1, s.selectReason k sl), (27, 1, s.rd (V.selFail k)),
    (28, 4, (s.item k 0).counter), (32, 4, (s.item k 1).counter)],
   setB (IMG_SDESC.selected k 0) (sl == some 0), setB (IMG_SDESC.selected k 1) (sl == some 1)] ++
  onlyIf (s.suspects k) [.set IMG_EVT.suspect 1]

/-- The running keeper retires the suspect slot that was not selected (R433). -/
def resolveSuspect (k : Nat) (sl : Option Nat) (s : State) : State :=
  match sl with
  | some x => if s.suspects k then moveItem k (1 - x) { s.item k (1 - x) with state := ImgS.retired } s else s
  | none => s

/-! The recovery window (R434, R465). -/

/-- The serving agent opens the window for an image of a kind. -/
def recoveryWindow (kind : Nat) (s : State) : List Upd :=
  [.set (HIF_B2SEG.valid 0) 1, .set (HIF_B2SEG.rw 0) 1, .set (HIF_B2SEG.base 0) 15, .set HIF_RCVSTAT.state 1, .set HIF_RCVSTAT.kind kind,
   .set HIF_RCVSTAT.code 0, .set HIF_CTL.cfg_ready 1, .set V.awaiting (setBit (s.rd V.awaiting) kind)]

/-! The ROM (R397-R401, R403-R407, R415-R418, R426). -/

/-- Keeper SRAM and management SRAM (R36). -/
def keeperSram : Nat := 0x10_0000
def mgmtSram : Nat := 0xF000_0000

/-- ENTROPY. A fresh token nonce (R417). -/
def freshNonce (s : State) : List Upd :=
  (List.range 8).map (fun w => .set (KPR_LCNONCE.nonce w) (Config.entropy (8 * s.rd V.freeCtr + w))) ++ [freeUsed s]

/-- The physical core that takes the keeper role (R403). -/
def State.keeperCore? (s : State) : Option Nat :=
  [0, 5].find? (fun c => !bit (s.rd V.coreBad) c && !bit (s.rd V.fuseRetire) c)

/-- A wipe is owed: the state row of the lifecycle state stands without its wiped row (R418). -/
def State.wipeOwed (s : State) : Bool := decide (1 ≤ s.lifecycle) && !bit (s.rd V.fuseWiped) s.lifecycle

/-- The owed wipe (R418, R439, R508): all usable LPDDR5X and the flash journal regions; configuration requests are answered
from its start (R446). -/
def owedWipe (s : State) : List Upd :=
  let from_ := ((s.standing (fun r => r.getD 0 0 == 4)).map (fun r => leAt r 8 1)).getD 0
  [.wipe 0x10_0000_0000 0x3A_0000_0000, flashErase Sp.boot 0x6D0_0000 0x130_0000, flashErase Sp.gold 0x1F00_0000 0x100_0000] ++
  onlyIf (s.lifecycle == 4) [flashErase Sp.boot 0 0x40_0000] ++
  [.set HIF_CTL.cfg_ready 1, .set V.fuseWiped (setBit (s.rd V.fuseWiped) s.lifecycle),
   keeperNote Ty.LIFECYCLE [(24, 1, from_), (25, 1, s.lifecycle), (26, 1, 3), (27, 1, 0)]]

/-- The public keys of the key store are loaded where their digest is the fuse's (R399). -/
def loadKey (k : Nat) (s : State) : List Upd :=
  let key := s.flash Sp.boot (64 * k) 64
  if !s.on (V.fuseEnrolled k) then [.set (KPR_KEYSLOT.valid k) 0]
  else if digest key == leBytes 32 (s.rd (V.fuseKey k)) then [.set (KPR_KEYSLOT.valid k) 1, .set (V.keyTable k) (ofLe key)]
  else [.set (KPR_KEYSLOT.valid k) 0, keeperNote Ty.KEY_EVENT [(24, 1, k), (25, 1, 3), (28, 4, s.locks)]]

/-- Records programmed in a ledger half, up to the last that is not erased. -/
def State.halfUsed (s : State) (h : Nat) : Nat :=
  (List.range ledgerRoom).foldl (fun m i => if (s.flash Sp.boot (ledgerBase h + 64 * i) 64).all (· == 255) then m else i + 1) 0

/-- The highest valid lseq of a half, plus 1. -/
def State.halfTop (s : State) (h : Nat) : Nat :=
  (List.range ledgerRoom).foldl (fun m i =>
    let r := s.flash Sp.boot (ledgerBase h + 64 * i) 64
    if r.drop 48 == s.ledgerTag (r.take 48) then max m (leAt r 4 4 + 1) else m) 0

/-- The highest attestation block reserved, plus 1 (R413). -/
def State.attBlocks (s : State) : Nat :=
  (s.ledger.filter (fun r => r.getD 0 0 == 3)).foldl (fun m r => max m (leAt r 8 4 + 1)) 0

/-- The ledger is read (R401, R406, R413, R426): what IMG and KPR show of it. -/
def readLedger (s : State) : List Upd :=
  let h := if s.halfTop 0 < s.halfTop 1 then 1 else 0
  [.set IMG_LEDGER.half h, .set IMG_LEDGER.used (s.halfUsed h), .set IMG_LSEQ.next (max (s.halfTop 0) (s.halfTop 1)),
   .set KPR_ATTIDX.next (256 * s.attBlocks), .set KPR_ATTLEFT.left (1048576 - 256 * s.attBlocks)] ++
  (List.range 4).map (fun k => .set (KPR_SVNMIN.min k) (s.svnMin k)) ++
  (List.range 3).flatMap (fun k => showSlots k s) ++ (List.range 16).flatMap (fun e => showCopies e s)

/-- The ROM loads a keeper image and starts the keeper gated (R403, R405). -/
def startGated (w : Place) (slot : Nat) (s : State) : List Upd :=
  let len := s.num w 16 4
  [.wipe keeperSram (keeperSram + 524288), .set MEM_STAT.wipe (clearBit (s.rd MEM_STAT.wipe) 0), .store (keeperSram + s.num w 40 8) (s.at' w 512 (len - 3332)), .gq [],
   .set KPR_GQUEUE.gated 1, .set KPR_GQUEUE.peak 0, .set KPR_BOOT.keeper_slot slot, .set KPR_BOOT.stage Stage.gated,
   .set (KPR_SVN.svn 0) (s.imgSvn 0 w), .set V.keeperVersion (s.imgVersion 0 w), .set V.measKeeper (ofLe (s.measure w))]

/-- The next keeper slot is tried (R403, R432), or the ROM waits for an image (R407). -/
def nextKeeper (s : State) : State :=
  let todo := (s.candidates 0).filter (fun sl => !bit (s.rd V.keeperNext) sl)
  let (t, sel) := trySlots 0 (fun u sl => u.fwHead 0 (u.itemPlace 0 sl)) todo s
  match sel with
  | some sl => (t.run [.set V.keeperNext (setBit (t.rd V.keeperNext) sl ||| (if todo.head? = some sl then 0 else 3))]).does (startGated (t.itemPlace 0 sl) sl)
  | none => ((t.does (recordSelect 0 none)).does (stageTo Stage.waiting)).does (recoveryWindow 0)

/-- The ROM runs, with the cores that failed their self-test (R403). -/
def romStart (bad : Nat) (s : State) : State :=
  let t := s.run ([.set V.coreBad bad, .set V.goldDone 0, .set V.gateOrder 0, .set V.structCore 0, .set V.awaiting 0, .set V.attEnd 0, .set V.keeperNext 0,
      .set V.structOwed 0, .gq [], .set KPR_GQUEUE.gated 0] ++ (List.range 3).flatMap (fun k => [Upd.set (V.selRejected k) 0, Upd.set (V.selFail k) 0]) ++
    (bitsOf 6 bad).map (fun c => keeperNote Ty.CORE_EVENT [(24, 1, c), (25, 1, c), (26, 1, 2)]))
  match t.keeperCore? with
  | none => t.does (stageTo Stage.noCore)
  | some c =>
    let u := t.run (.set KPR_BOOT.keeper_core c :: onlyIf (c == 5) [keeperNote Ty.CORE_EVENT [(24, 1, 0), (25, 1, 5), (26, 1, 4)]])
    let w := (if u.wipeOwed then u.does owedWipe else u).does freshNonce
    if w.lifecycle = 4 then w.does (stageTo Stage.endState)
    else
      let x := (w.doEach (List.range 8) loadKey).run [.set KPR_KEYLOCK.ds_read 1]
      nextKeeper (x.does readLedger)

/-! The running keeper (R403, R407-R409, R432-R438). -/

/-- A grant entry covers memory or registers that R409 forbids. -/
def grantForbidden (e : Nat) : Bool :=
  let base := bits e 30 26 * 4096
  let size := bits e 4 26 * 4096
  bit e 63 &&
    (if bit e 62 then overlap base size 0 0x4_0000 || overlap base size keeperSram 524288 || overlap base size 0x4000_0000 0x8000_0000 ||
        overlap base size 0xE000_0000 0x1000_0000
     else overlap base size 0xD0_0000 0x10_0000)

/-- The grant entries of a service image (R402). -/
def State.imageGrants (s : State) (w : Place) : List Nat := (List.range 48).map (fun g => s.num w (112 + 8 * g) 8)

/-- The keeper's check of a service image (R404, R408). -/
def State.serviceCheck (s : State) (w : Place) : Nat :=
  let c := s.fwCheck 1 w
  if c ≠ 0 then c else if (s.imageGrants w).any grantForbidden then 2 else 0

/-- The logical core whose place core 5 takes (R408): the first whose own core is retired or failed, where core 5 is on the bench and fit. -/
def State.spareFor (s : State) : Nat :=
  let down (c : Nat) : Bool := bit (s.rd V.fuseRetire) c || bit (s.rd V.coreBad) c
  if s.rd KPR_BOOT.keeper_core = 5 || down 5 then 0 else ([1, 2, 3, 4].find? down).getD 0

/-- A service image is installed (R408): grants, memory, vectors and the spare core. -/
def installService (w : Place) (slot : Nat) (s : State) : List Upd :=
  let len := s.num w 16 4
  (s.imageGrants w).zipIdx.map (fun x => .set (KPR_GRANT.entry x.2) x.1) ++
  [.store (mgmtSram + s.num w 40 8) (s.at' w 512 (len - 3332))] ++
  (List.range 4).map (fun i => .set (KPR_COREVEC.vec (i + 1)) (mgmtSram + s.num w 48 8)) ++
  [.set KPR_CORESPARE.replace s.spareFor, .set KPR_BOOT.service_slot slot, .set (KPR_SVN.svn 1) (s.imgSvn 1 w), .set V.measService (ofLe (s.measure w))]

/-- The full check of an item from its flash, by the codes of its kind (R404, R255, R431). -/
def State.fullCheck (s : State) (k : Nat) (w : Place) (len : Nat) : Nat :=
  if k = 0 then s.fwCheck 0 w else if k = 1 then s.serviceCheck w else if k = 2 then s.imageCode w len else s.goldCheck w (imageMax 3)

/-- An item left WRITTEN is checked at the keeper's start (R438). -/
def checkWritten (k sl : Nat) (s : State) : State :=
  let i := s.item k sl
  if i.state = ImgS.written then
    moveItem k sl { i with state := if s.fullCheck k (s.itemPlace k sl) i.len = 0 then ImgS.verified else ImgS.empty } s
  else s

/-- The keeper selects and loads the service image (R408, R432-R434); one that boot flash does not read fails with code 9 (R404). -/
def selectService (s : State) : State :=
  let (t, sel) := trySlots 1 (fun u sl => if u.on (Sig.bootErr sl) then 9 else u.serviceCheck (u.itemPlace 1 sl)) (s.candidates 1) s
  let u := resolveSuspect 1 sel (t.does (recordSelect 1 sel))
  match sel with
  | some sl => u.does (installService (u.itemPlace 1 sl) sl)
  | none => (u.run [.set KPR_BOOT.service_slot 0xFF, .set HIF_STAT.ready 1]).does (recoveryWindow 1)

/-- The keeper selects the structure image, in a start that finds none committed (R407, R432); its load and full commit follow. -/
def selectStructure (s : State) : State :=
  if s.committed then s
  else
    let (t, sel) := trySlots 2 (fun u sl => u.imageCode (u.itemPlace 2 sl) (u.item 2 sl).len) (s.candidates 2) s
    (resolveSuspect 2 sel (t.does (recordSelect 2 sel))).run [.set V.structOwed (match sel with | some sl => sl + 1 | none => 0)]

/-- What the keeper does once it runs with its outputs released. -/
def keeperRuns (s : State) : State :=
  let sel := if s.rd KPR_BOOT.keeper_slot < 2 then some (s.rd KPR_BOOT.keeper_slot) else none
  let t := if sel.isSome then resolveSuspect 0 sel (s.does (recordSelect 0 sel)) else s
  let u := [0, 1, 2].foldl (fun x k => checkWritten k 1 (checkWritten k 0 x)) (t.does (stageTo Stage.running))
  selectStructure (selectService ((List.range 32).foldl (fun x c => checkWritten 3 c x) u))

/-- The image that the gated keeper was started from. -/
def State.keeperPlace (s : State) : Place := s.itemPlace 0 (s.rd KPR_BOOT.keeper_slot)

/-- A check of the gated keeper failed (R403, R405): nothing in the queue takes effect, and the next slot is tried. -/
def keeperRejected (code : Nat) (s : State) : State :=
  let w := s.keeperPlace
  nextKeeper ((s.run [.gq [], .set KPR_GQUEUE.gated 0]).does (imageFailed 0 (s.rd KPR_BOOT.keeper_slot) code (s.imgVersion 0 w) (s.imgSvn 0 w)))

/-- The keeper's checks of golden copies end (R431); copies of `bad` could not be read. The copy that custody reads is shown as in use (R443). -/
def goldenChecks (bad : List Nat) (s : State) : State :=
  let t := (List.range 32).foldl (fun x c =>
    let i := x.item 3 c
    if (i.state = ImgS.active || i.state = ImgS.retired) && !i.rejected then
      (if bad.contains c then x.run [.set (IMG_GDESC.valid (c / 2) (c % 2)) 0, keeperNote Ty.IMG_FLASH [(24, 1, 1), (25, 1, 2), (28, 4, i.extent)]]
       else x.run [setB (IMG_GDESC.valid (c / 2) (c % 2)) (x.goldCheck (x.itemPlace 3 c) (imageMax 3) == 0)])
    else x) s
  let u := t.run [.set V.goldDone 1]
  u.doEach (List.range 16) (fun e w => [0, 1].map (fun c => setB (IMG_GDESC.selected e c) (w.goldCopy? e == some c)))

/-! Service cores (R408). -/

/-- The physical core that runs as logical core n. -/
def State.physCore (s : State) (n : Nat) : Nat := if s.rd KPR_CORESPARE.replace = n && s.rd KPR_BOOT.keeper_core ≠ 5 then 5 else n

/-- A logical core may run: its physical core is neither retired nor failed. -/
def State.coreFit (s : State) (n : Nat) : Bool := !bit (s.rd V.fuseRetire) (s.physCore n) && !bit (s.rd V.coreBad) (s.physCore n)

/-- A logical core is released (R408, R550): the decoder runs once cores 1 to 4 are. -/
def releaseCore (n : Nat) (s : State) : List Upd :=
  if bit (s.rd KPR_CORES.released) n || !s.coreFit n then []
  else
    let mask := setBit (s.rd KPR_CORES.released) n
    [.set KPR_CORES.released mask, .set KPR_CORECTL.release (setBit (s.rd KPR_CORECTL.release) (n - 1)),
     keeperNote Ty.CORE_EVENT [(24, 1, n), (25, 1, s.physCore n), (26, 1, 1)]] ++
    onlyIf (s.physCore n == 5) [.set KPR_CORES.spare_for n, keeperNote Ty.CORE_EVENT [(24, 1, n), (25, 1, 5), (26, 1, 4)]] ++
    onlyIf ([1, 2, 3, 4].all (fun m => bit mask m || !s.coreFit m)) [.set HIF_STAT.ready 1]

/-- A write of KPR_CORECTL.release. -/
def releaseCores (value : Nat) (s : State) : State :=
  let t := s.doEach ((List.range 4).map (· + 1)) (fun n u => if bit value n then releaseCore n u else [])
  if s.rd KPR_CORES.released ≠ t.rd KPR_CORES.released && t.rd KPR_BOOT.stage = Stage.running then t.does (stageTo Stage.services) else t

/-- A write of KPR_KEYLOCK: locks are only set (R400, R420). -/
def setLocks (value : Nat) (s : State) : State :=
  let t := s.run (onlyIf (bit value 0) [.set KPR_KEYLOCK.ds_read 1] ++ onlyIf (bit value 1) [.set KPR_KEYLOCK.stor_use 1] ++
    onlyIf (bit value 2) [.set KPR_KEYLOCK.att_use 1] ++ onlyIf (bit value 3) [.set KPR_KEYLOCK.all_use 1])
  t.run [keeperNote Ty.KEY_EVENT [(25, 1, 4), (28, 4, t.locks)]]

end Sys2Proof.Machine
end

