-- ==== Sys2Proof/Machine/Gate.lean ====
section
/-! DEFINITION. The gate calls (R406, R408, R411-R418, R426, R435-R437): the mailbox, and what each call does and answers. -/

namespace Sys2Proof.Machine

/-- Mailbox page of core n (R411). -/
def gatePage (n : Nat) : Nat := 0xFFFF_C000 + 0x1000 * (n - 1)

/-- The request in a core's page. -/
def State.gateSeq (s : State) (n : Nat) : Nat := ofLe (memBytes s.mem (gatePage n) 4)
def State.gateCode (s : State) (n : Nat) : Nat := ofLe (memBytes s.mem (gatePage n + 4) 2)
def State.gateArg (s : State) (n o k : Nat) : Nat := ofLe (memBytes s.mem (gatePage n + o) k)
def State.gateBytes (s : State) (n o k : Nat) : List Nat := memBytes s.mem (gatePage n + o) k

/-- A doorbell rings (R411): pending once, in the order of arrival. -/
def ringGate (n : Nat) (s : State) : List Upd :=
  onlyIf (!bit (s.rd KPR_GATEPEND.pend) (n - 1))
    [.set KPR_GATEPEND.pend (setBit (s.rd KPR_GATEPEND.pend) (n - 1)),
     .set V.gateOrder (s.rd V.gateOrder + n * 16 ^ ((List.range 16).find? (fun i => decide (s.rd V.gateOrder < 16 ^ i))).getD 15)]

/-- The core whose call is served next (R411). -/
def State.nextCall (s : State) : Option Nat :=
  ((List.range 16).map (fun i => s.rd V.gateOrder / 16 ^ i % 16)).find? (fun n => n != 0 && bit (s.rd KPR_GATEPEND.pend) (n - 1))

/-- The keeper serves calls: it runs, and no STRUCT_COMMIT is under way (R411). -/
def State.serving (s : State) : Bool :=
  (s.rd KPR_BOOT.stage == Stage.running || s.rd KPR_BOOT.stage == Stage.services) && !s.on (V.planeHeld 3) && s.rd V.structCore == 0

/-- Statuses of R411. -/
def GateS.done : Nat := 0
def GateS.unknown : Nat := 1
def GateS.badArg : Nat := 2
def GateS.notNow : Nat := 3
def GateS.busy : Nat := 4
def GateS.checkFailed : Nat := 5
def GateS.exhausted : Nat := 6
def GateS.badToken : Nat := 7
def GateS.notIdle : Nat := 8

/-- A response: the results' bytes by offset, the status, the echoed seq, and what KPR shows (R411, R420). -/
def gateReply (n call status seq : Nat) (res : List (Nat × List Nat)) (s : State) : List Upd :=
  res.map (fun r => .store (gatePage n + r.1) r.2) ++
  [.store (gatePage n + 68) (leBytes 4 status), .store (gatePage n + 64) (leBytes 4 seq),
   .set KPR_GATESTAT.call call, .set KPR_GATESTAT.status status, bump s KPR_GATESTAT.served,
   .emit { typ := Ty.GATE_CALL, src := srcOf 0xB n, pay := [(24, 1, n), (25, 1, call), (26, 1, status), (28, 4, seq)] }]

/-- A call leaves the queue as it is served. -/
def gateTaken (n : Nat) (s : State) : List Upd :=
  let rest := ((List.range 16).map (fun i => s.rd V.gateOrder / 16 ^ i % 16)).filter (fun m => m != 0 && m != n && bit (s.rd KPR_GATEPEND.pend) (m - 1))
  [.set KPR_GATEPEND.pend (clearBit (s.rd KPR_GATEPEND.pend) (n - 1)), .set V.gateOrder (rest.zipIdx.foldl (fun a x => a + x.1 * 16 ^ x.2) 0)]

/-- What a call answers: its status and results. -/
structure Answer where
  status : Nat
  res : List (Nat × List Nat) := []

/-- The call of a code, from the core at the head of the queue, is served: `f` is its effect and its answer. -/
def serveCall (n code : Nat) (fits : Bool) (f : State → State × Answer) (s : State) : Result :=
  whenever (s.serving && s.nextCall == some n && s.gateCode n == code && fits) s
    (let seq := s.gateSeq n
     let (t, a) := f (s.does (gateTaken n))
     t.does (gateReply n code a.status seq a.res))

/-- A call that changes nothing but its answer. -/
def refuse (status : Nat) (s : State) : State × Answer := (s, ⟨status, []⟩)

/-- The caller's grants let the keeper read, or write, at an address for it (R411). -/
def State.callerReads (s : State) (n a len : Nat) : Bool := (s.granted n 1 a len).isSome
def State.callerWrites (s : State) (n a len : Nat) : Bool := decide (1 ≤ (s.granted n 1 a len).getD 0)

/-- Bytes of device physical memory. -/
def memPlace (a : Nat) : Place := ⟨0, a, []⟩

/-- GRANT_QUERY: a bitmap of the entries that name the caller, and their count. -/
def grantQuery (n : Nat) (s : State) : State × Answer :=
  let m := maskOf 64 (fun g => bit (s.rd (KPR_GRANT.entry g)) 63 && bit (bits (s.rd (KPR_GRANT.entry g)) 56 4) (n - 1))
  (s, ⟨GateS.done, [(72, leBytes 8 m), (80, leBytes 4 (popCount 64 m))]⟩)

/-! IMAGE_STAGE (R435-R437). -/

/-- The request of an IMAGE_STAGE. -/
structure StageReq where
  op : Nat
  kind : Nat
  entry : Nat
  addr : Nat
  len : Nat
def State.stageReq (s : State) (n : Nat) : StageReq := ⟨s.gateArg n 8 1, s.gateArg n 9 1, s.gateArg n 10 1, s.gateArg n 16 8, s.gateArg n 24 4⟩

/-- The item code of slot or copy x of a kind. -/
def itemSlot (k entry x : Nat) : Nat := if k = 3 then 2 * entry + x else x

/-- Items of a request: 0 and 1. -/
def State.reqItem (s : State) (r : StageReq) (x : Nat) : Item := s.item r.kind (itemSlot r.kind r.entry x)

/-- The target of an IMAGE_STAGE (R435): the slot or copy that is not ACTIVE, the lower index if neither is; none if both are. -/
def State.stageTarget (s : State) (r : StageReq) : Option Nat :=
  [0, 1].find? (fun x => (s.reqItem r x).state != ImgS.active)

/-- The newest ACTIVE slot or copy (R435). -/
def State.newestActive (s : State) (r : StageReq) : Option Nat :=
  (if (s.reqItem r 0).counter < (s.reqItem r 1).counter then [1, 0] else [0, 1]).find? (fun x => (s.reqItem r x).state == ImgS.active)

/-- The results of an IMAGE_STAGE about slot or copy x (R435). -/
def stageAnswer (status code x : Nat) (r : StageReq) (s : State) : State × Answer :=
  let i := s.reqItem r x
  (s, ⟨status, [(72, [x]), (73, [i.state]), (76, leBytes 4 i.counter), (80, [code])]⟩)

/-- IMG_STAT shows the last operation (R442). -/
def showOp (op code x : Nat) (r : StageReq) : List Upd :=
  [.set IMG_STAT.op op, .set IMG_STAT.kind r.kind, .set IMG_STAT.slot x, .set IMG_STAT.entry r.entry, .set IMG_STAT.code code]

/-- The request names a kind and an entry that exist. -/
def StageReq.ok (r : StageReq) : Bool := decide (r.kind < 4) && decide (r.entry < 16)

/-- A 64 KiB-aligned extent of the golden area that overlaps no other copy that is not EMPTY (R429): its first block. -/
def State.freeExtent? (s : State) (len skip : Nat) : Option Nat :=
  let blocks := ceilDiv len 65536 + 4
  let held : List (Nat × Nat) := ((List.range 32).filter (fun c => c != skip && (s.item 3 c).state != ImgS.empty)).map
    (fun c => ((s.item 3 c).extent, ceilDiv (s.item 3 c).len 65536 + (s.item 3 c).skips.length))
  (List.range 0x1F00).find? (fun b => decide (b + blocks ≤ 0x1F00) && held.all (fun h => !overlap b blocks h.1 (max 1 h.2)))

/-- STAGE (R435, R436): the check in memory, the target to EMPTY, and the write that follows. -/
def imgStage (n : Nat) (s : State) : State × Answer :=
  let r := s.stageReq n
  let w := memPlace r.addr
  if !r.ok || imageMax r.kind < r.len || !s.callerReads n r.addr r.len then refuse GateS.badArg s
  else if !s.storeOpen then refuse GateS.notNow s
  else match s.stageTarget r with
    | none => stageAnswer GateS.notNow 0 0 r s
    | some x =>
      if s.on IMG_STAT.busy || s.on CRP_PFSTAT.warn then stageAnswer GateS.busy 0 x r s
      else
        let code := if s.num w 16 4 ≠ r.len then 2 else s.fullCheck r.kind w r.len
        if code ≠ 0 then stageAnswer GateS.checkFailed code x r (s.run (showOp 1 code x r))
        else
          match if r.kind = 3 then s.freeExtent? r.len (itemSlot 3 r.entry x) else some 0 with
          | none => refuse GateS.badArg s
          | some ext =>
            let t := s.run (showOp 1 0 x r ++ [.set IMG_STAT.busy 1, .set IMG_STAT.step 3, .set IMG_PROG.bytes 0, .set V.stKind r.kind,
              .set V.stSlot x, .set V.stEntry r.entry, .set V.stAddr r.addr, .set V.stLen r.len, .set V.stExtent ext])
            let u := if (t.reqItem r x).state = ImgS.empty then t
              else moveItem r.kind (itemSlot r.kind r.entry x) { t.reqItem r x with state := ImgS.empty, rejected := false } t
            stageAnswer GateS.done 0 x r u

/-- The STAGE under way. -/
def State.staging' (s : State) : StageReq := ⟨1, s.rd V.stKind, s.rd V.stEntry, s.rd V.stAddr, s.rd V.stLen⟩

/-- The write of the target (R425, R436 step 3): the slot is erased and the image programmed around the skipped blocks. -/
def programItem (w dst : Place) (len : Nat) (s : State) : List Upd :=
  flashErase dst.sp dst.base (65536 * (ceilDiv len 65536 + dst.skips.length)) ::
    (List.range (ceilDiv len 65536)).map (fun b => flashStore dst.sp (dst.base + 65536 * skipOver dst.skips b) (s.at' w (65536 * b) (min 65536 (len - 65536 * b))))

/-- IMG_FLASH records of the blocks that failed (R425, R441). -/
def flashRecords (gold : Bool) (base : Nat) (bad : List Nat) : List Upd :=
  bad.zipIdx.map (fun x => keeperNote Ty.IMG_FLASH [(24, 1, ofBool gold), (25, 1, if x.2 < 4 then 1 else 3), (28, 4, base / 65536 + x.1)])

/-- A STAGE ends (R436). -/
def stageEnd (code : Nat) (s : State) : List Upd :=
  [.set IMG_STAT.busy 0, .set IMG_STAT.step 0, .set IMG_STAT.code code, .set IMG_PROG.bytes (s.rd V.stLen),
   if code = 0 then .set IMG_EVT.done 1 else .set IMG_EVT.fail 1]

/-- A STAGE whose record the locked storage key keeps from being written ends without effect (R400). -/
def stageBlocked (s : State) : List Upd := stageEnd 0 s ++ [.set IMG_EVT.done (s.rd IMG_EVT.done), .set IMG_EVT.fail 1]

/-- Steps 3 to 5 of R436, with the blocks of the target whose erase or program failed twice (R425). -/
def stageDone (bad : List Nat) (s : State) : State :=
  let r := s.staging'
  let sl := itemSlot r.kind r.entry (s.rd V.stSlot)
  let base := if r.kind < 3 then slotBase r.kind sl else 65536 * s.rd V.stExtent
  let sp := if r.kind < 3 then Sp.boot else Sp.gold
  let t := s.run (flashRecords (r.kind == 3) base (bad.take 5))
  if 4 < bad.length then t.does (stageEnd 9)
  else
    let dst : Place := ⟨sp, base, bad⟩
    let u := t.does (programItem (memPlace r.addr) dst r.len)
    if !u.storeOpen then u.does stageBlocked else
    let bytes := u.at' dst 0 r.len
    let meas := if r.kind = 2 then ((u.run [.store u.idleImg bytes]).imageDigest u.idleImg).take 8 else (u.measure dst).take 8
    let top := max (s.reqItem r 0).counter (s.reqItem r 1).counter
    let written : Item := { state := ImgS.written, counter := top + 1, version := u.imgVersion r.kind dst, svn := u.imgSvn r.kind dst, len := r.len, extent := if r.kind = 3 then s.rd V.stExtent else 0, meas := ofLe meas, skips := bad }
    let w := moveItem r.kind sl written u
    let code := w.fullCheck r.kind dst r.len
    (moveItem r.kind sl { written with state := if code = 0 then ImgS.verified else ImgS.empty } w).does (stageEnd code)

/-- ACTIVATE (R435); after a power-fail warning it is busy, as no record is begun then (R440; DESIGN CHOICE, log 211). -/
def imgActivate (n : Nat) (s : State) : State × Answer :=
  let r := s.stageReq n
  if !r.ok then refuse GateS.badArg s
  else if !s.storeOpen then refuse GateS.notNow s
  else match s.stageTarget r with
    | none => stageAnswer GateS.notNow 0 0 r s
    | some x =>
      if (s.reqItem r x).state ≠ ImgS.verified then stageAnswer GateS.notNow 0 x r s
      else if s.on CRP_PFSTAT.warn then stageAnswer GateS.busy 0 x r s
      else stageAnswer GateS.done 0 x r (moveItem r.kind (itemSlot r.kind r.entry x) { s.reqItem r x with state := ImgS.active } (s.run (showOp 2 0 x r)))

/-- The newest ACTIVE slot is in use (R437). -/
def State.inUse (s : State) (r : StageReq) (x : Nat) : Bool :=
  if r.kind = 0 then s.rd KPR_BOOT.keeper_slot == x
  else if r.kind = 1 then s.rd KPR_BOOT.service_slot == x
  else if r.kind = 2 then s.rd (FAB_IMGDIG.dig 0) + s.rd (FAB_IMGDIG.dig 1) * 2 ^ 32 == (s.reqItem r x).meas
  else true

/-- A custody operation reads an entry's golden image (R437). -/
def State.goldInUse (s : State) (e : Nat) : Bool :=
  (List.range 8).any (fun n => s.on (ACU_CMDSTAT.busy n) && (s.rd (V.cusOp n) == 2 || s.rd (V.cusOp n) == 4) && s.rd (ACU_SCFG.gold n) == e)

/-- CONFIRM (R435, R437): the other slot retires and the trial ends. -/
def imgConfirm (n : Nat) (s : State) : State × Answer :=
  let r := s.stageReq n
  if !r.ok then refuse GateS.badArg s
  else if !s.storeOpen then refuse GateS.notNow s
  else match s.newestActive r with
    | none => stageAnswer GateS.notNow 0 0 r s
    | some x =>
      if !s.inUse r x then stageAnswer GateS.notNow 0 x r s
      else if s.on CRP_PFSTAT.warn then stageAnswer GateS.busy 0 x r s
      else
        let y := itemSlot r.kind r.entry (1 - x)
        let t := s.run (showOp 3 0 x r ++ onlyIf (decide (r.kind < 3)) [.set (trialCount r.kind) 0])
        if (t.reqItem r (1 - x)).state ≠ ImgS.active then stageAnswer GateS.done 0 x r t
        else if r.kind = 3 && t.goldInUse r.entry then stageAnswer GateS.done 0 x r (t.run [.set V.retireLater (y + 1)])
        else stageAnswer GateS.done 0 x r (moveItem r.kind y { t.reqItem r (1 - x) with state := ImgS.retired } t)

/-- ABANDON (R435). -/
def imgAbandon (n : Nat) (s : State) : State × Answer :=
  let r := s.stageReq n
  if !r.ok then refuse GateS.badArg s
  else if !s.storeOpen then refuse GateS.notNow s
  else match s.stageTarget r with
    | none => stageAnswer GateS.notNow 0 0 r s
    | some x =>
      if s.on IMG_STAT.busy || s.on CRP_PFSTAT.warn then stageAnswer GateS.busy 0 x r s
      else stageAnswer GateS.done 0 x r (moveItem r.kind (itemSlot r.kind r.entry x) { s.reqItem r x with state := ImgS.empty, rejected := false } (s.run (showOp 4 0 x r)))

/-! Ledger compaction (R426). -/

/-- What makes two records one item (R426). -/
def ledgerItem (r : List Nat) : Nat × Nat :=
  let k := r.getD 0 0
  (k, if k = 1 then r.getD 8 0 * 256 + r.getD 9 0 else if k = 2 || k = 5 then r.getD 8 0 else 0)

/-- The standing record of an item: the highest lseq or, for kind 3, the highest block. -/
def standsOver (a b : List Nat) : Bool :=
  if a.getD 0 0 = 3 then decide (leAt b 8 4 ≤ leAt a 8 4) else decide (leAt b 4 4 ≤ leAt a 4 4)

/-- Every standing record, in the order first met. -/
def State.standingAll (s : State) : List (List Nat) :=
  let l := s.ledger
  (l.map ledgerItem).dedup.filterMap (fun i => (l.filter (fun r => ledgerItem r == i)).foldl (fun (best : Option (List Nat)) r => match best with
    | none => some r
    | some b => if standsOver r b then some r else some b) none)

/-- The keeper copies every standing record to the other half and erases the half that was in use (R426). -/
def compact (s : State) : State :=
  let h := s.rd IMG_LEDGER.half
  let keep := s.standingAll
  let first := s.rd IMG_LSEQ.next
  let t := s.run [flashErase Sp.boot (ledgerBase (1 - h)) 0x10_0000, .set IMG_LEDGER.half (1 - h), .set IMG_LEDGER.used 0]
  let u := t.doEach keep (fun r w => ledgerWrite (r.getD 0 0) (sliceBytes r 8 40) w)
  u.run [flashErase Sp.boot (ledgerBase h) 0x10_0000, keeperNote Ty.IMG_COMPACT [(24, 1, 1 - h), (28, 4, keep.length), (32, 4, first)]]

/-! Attestation (R412-R414). -/

/-- The golden entry that a report and SVN_RAISE speak of: the entry of slot 0. -/
def State.goldSvn (s : State) : Nat :=
  let e := s.rd (ACU_SCFG.gold 0)
  if s.goldValid e then (s.item 3 (2 * e + (s.goldCopy? e).getD 0)).svn else 0

/-- The 512 bytes of a report (R414). -/
def State.report (s : State) (n index : Nat) : List Nat :=
  let le (f : Fld) : List Nat := leBytes 4 (s.rd f)
  ascii "OR8ATTST" ++ [1, 0, 0, 0] ++ leBytes 4 s.glbId ++ leBytes 8 (s.rd V.fuseSerial) ++
  [s.lifecycle, s.rd KPR_LCSTAT.unlocked + 2 * ofBool (s.rd KPR_BOOT.keeper_core == 5) + 4 * ofBool (s.rd KPR_BOOT.keeper_slot == 2),
   s.rd KPR_BOOT.keeper_slot, s.rd KPR_BOOT.service_slot] ++ leBytes 4 index ++ s.gateBytes n 8 32 ++
  leBytes 32 (s.rd V.measKeeper) ++ leBytes 32 (s.rd V.measService) ++
  (List.range 8).flatMap (fun i => le (FAB_IMGDIG.dig i)) ++ (List.range 3).flatMap (fun k => le (KPR_SVN.svn k)) ++ leBytes 4 s.goldSvn ++
  (List.range 4).flatMap (fun k => le (KPR_SVNMIN.min k)) ++ leBytes 8 s.now ++
  digest ((List.range 8).flatMap (fun k => leBytes 4 (s.rd (V.fuseEnrolled k) * 2 ^ 31 + s.rd (V.fuseRevoked k) * 2 ^ 30 + s.rd (KPR_KEYSLOT.valid k) * 2 ^ 29 +
    s.rd (V.fuseUsage k)))) ++ List.replicate 24 0 ++ memBytes s.mem (s.gateArg n 40 8) 256

/-- The attestation key's secret seeds (R412). -/
def State.attSeeds (s : State) : List Nat :=
  digest (leBytes 32 (s.rd V.fuseDs) ++ ascii "OR8-ATTK" ++ [1]) ++ digest (leBytes 32 (s.rd V.fuseDs) ++ ascii "OR8-ATTK" ++ [2])

/-- The next block of indices is reserved (R413): a kind-3 record. -/
def reserveBlock (s : State) : List Upd :=
  ledgerWrite 3 (leBytes 4 (s.rd KPR_ATTIDX.next / 256)) s ++ [.set V.attEnd (s.rd KPR_ATTIDX.next / 256 * 256 + 256)]

/-- ATTEST (R413, R414). -/
def attest (n : Nat) (s : State) : State × Answer :=
  let buf := s.gateArg n 48 8
  let needs := s.rd V.attEnd ≤ s.rd KPR_ATTIDX.next
  if !s.callerReads n (s.gateArg n 40 8) 256 || !s.callerWrites n buf 4096 then refuse GateS.badArg s
  else if 3 ≤ s.lifecycle || !s.attOpen || (needs && !s.storeOpen) then refuse GateS.notNow s
  else if 1048576 ≤ s.rd KPR_ATTIDX.next then refuse GateS.exhausted s
  else if needs && s.on CRP_PFSTAT.warn then refuse GateS.busy s
  else
    let t := if needs then s.does reserveBlock else s
    let index := t.rd KPR_ATTIDX.next
    let body := t.report n index
    (t.run [.store buf (body ++ sliceBytes (Config.xmssSign t.attSeeds index body) 0 2820), .set KPR_ATTIDX.next (index + 1), .set KPR_ATTLEFT.left (1048576 - (index + 1)),
      keeperNote Ty.ATTEST [(24, 4, index), (28, 4, index / 256), (32, 8, ofLe (t.gateBytes n 8 8))]],
     ⟨GateS.done, [(72, leBytes 4 index)]⟩)

/-! Security versions, keys and cores (R397, R406, R408, R411). -/

/-- The svn of the image of a kind that runs or is committed (R406). -/
def State.svnNow (s : State) (k : Nat) : Nat := if k < 3 then s.rd (KPR_SVN.svn k) else s.goldSvn

/-- SVN_RAISE: [8] kind, [12-15] value. -/
def svnRaise (n : Nat) (s : State) : State × Answer :=
  let k := s.gateArg n 8 1
  let v := s.gateArg n 12 4
  if 3 < k || s.svnNow k < v || v ≤ s.minOf k then refuse GateS.badArg s
  else if !s.storeOpen then refuse GateS.notNow s
  else if s.on CRP_PFSTAT.warn then refuse GateS.busy s
  else
    ((s.does (ledgerWrite 2 ([k, 0, 0, 0] ++ leBytes 4 v))).run
      [.set (KPR_SVNMIN.min k) v, keeperNote Ty.SVN_MIN [(24, 1, k), (25, 1, 1), (28, 4, s.minOf k), (32, 4, v)]],
     ⟨GateS.done, [(72, leBytes 4 v)]⟩)

/-- SVN_FUSE: [8] kind, [12-15] rows; the ledger's minimum is read by tags, which a locked storage key blocks (R400). -/
def svnFuse (n : Nat) (s : State) : State × Answer :=
  let k := s.gateArg n 8 1
  let v := s.gateArg n 12 4
  let ledgerMin := ((s.standing (fun r => r.getD 0 0 == 2 && r.getD 8 0 == k)).map (fun r => leAt r 12 4)).getD 0
  let old := s.rd (V.fuseFloor k)
  if !s.storeOpen then refuse GateS.notNow s
  else if 3 < k || 32 < v || ledgerMin < v || v < old then refuse GateS.badArg s
  else if s.on CRP_PFSTAT.warn then refuse GateS.busy s
  else
    (s.run [.set (V.fuseFloor k) v, keeperNote Ty.SVN_MIN [(24, 1, k), (25, 1, 2), (28, 4, old), (32, 4, v)]],
     ⟨GateS.done, [(72, leBytes 4 v)]⟩)

/-- KEY_ENROLL: [8] slot, [9] usage, [16-23] address of the public key. -/
def keyEnroll (n : Nat) (s : State) : State × Answer :=
  let k := s.gateArg n 8 1
  let usage := s.gateArg n 9 1
  let a := s.gateArg n 16 8
  let key := memBytes s.mem a 64
  if k < 4 || 7 < k || s.on (V.fuseEnrolled k) || bit usage 0 || bit usage 5 || 64 ≤ usage || !s.callerReads n a 64 then refuse GateS.badArg s
  else if !(s.lifecycle = 1 || s.lifecycle = 2) || !s.storeOpen then refuse GateS.notNow s
  else if s.on CRP_PFSTAT.warn then refuse GateS.busy s
  else
    ((s.does (ledgerWrite 5 ([k, 1] ++ List.replicate 6 0 ++ digest key))).run
      [.set (V.fuseKey k) (ofLe (digest key)), .set (V.fuseUsage k) usage, .set (V.fuseEnrolled k) 1, flashStore Sp.boot (64 * k) key,
       keeperNote Ty.KEY_EVENT [(24, 1, k), (25, 1, 1), (28, 4, s.locks)]],
     ⟨GateS.done, [(72, (digest key).take 16)]⟩)

/-- A token of R417 stands at `a`: format and purpose, then serial, nonce and GLB_ID, then the key, then the signature; the codes
are those of R528. -/
def State.tokenCode (s : State) (tok : List Nat) (purpose : Nat) (keyOk : Nat → Bool) : Nat :=
  let zero (o k : Nat) : Bool := (sliceBytes tok o k).all (· == 0)
  if tok.take 8 ≠ ascii "OR8TOKEN" || tok.getD 8 0 ≠ purpose || !(zero 9 7 && zero 76 180) then 1
  else if leAt tok 16 8 ≠ s.rd V.fuseSerial || sliceBytes tok 24 32 ≠ (List.range 8).flatMap (fun w => leBytes 4 (s.rd (KPR_LCNONCE.nonce w))) || leAt tok 56 4 ≠ s.glbId then 2
  else match (List.range 8).find? (fun k => s.keyUsable 4 k && s.keyId k == sliceBytes tok 60 16 && keyOk k) with
    | none => 3
    | some k => if s.signedBy k (tok.take 256) (sliceBytes tok 256 2820) then 0 else 4

/-- A token in memory. -/
def State.tokenAt (s : State) (a : Nat) : List Nat := memBytes s.mem a 3076

/-- KEY_REVOKE: [8] slot, [16-23] token address. -/
def keyRevoke (n : Nat) (s : State) : State × Answer :=
  let k := s.gateArg n 8 1
  let a := s.gateArg n 16 8
  let left := (List.range 4).any (fun j => j != k && s.keyUsable 0 j)
  if 7 < k || !s.on (V.fuseEnrolled k) || s.on (V.fuseRevoked k) || !left || !s.callerReads n a 3076 then refuse GateS.badArg s
  else if !s.storeOpen then refuse GateS.notNow s
  else if s.on CRP_PFSTAT.warn then refuse GateS.busy s
  else if s.tokenCode (s.tokenAt a) 4 (fun j => j != k) ≠ 0 then refuse GateS.badToken s
  else
    (((s.does (ledgerWrite 5 ([k, 2] ++ List.replicate 6 0 ++ leBytes 32 (s.rd (V.fuseKey k))))).run
      [.set (V.fuseRevoked k) 1, keeperNote Ty.KEY_EVENT [(24, 1, k), (25, 1, 2), (28, 4, s.locks)]]).does freshNonce, ⟨GateS.done, []⟩)

/-- CORE_RETIRE: [8] logical core. -/
def coreRetire (n : Nat) (s : State) : State × Answer :=
  let c := s.gateArg n 8 1
  if c = 0 || 4 < c then refuse GateS.badArg s
  else if s.on CRP_PFSTAT.warn then refuse GateS.busy s
  else
    (s.run [.set V.fuseRetire (setBit (s.rd V.fuseRetire) (s.physCore c)), keeperNote Ty.CORE_EVENT [(24, 1, c), (25, 1, s.physCore c), (26, 1, 3)]],
     ⟨GateS.done, []⟩)

/-- What the attestation store keeps at a place (R412, R423); its layout is not given. -/
def State.attStore (s : State) (i n : Nat) : List Nat := s.flash Sp.boot (0x1_0000 + Config.attPlace i % (0x3_0000 - n + 1)) n

/-- ATT_PUBLIC: [16-23] buffer address: the root and the public seed, then the endorsement, as the protected region keeps them. -/
def attPublic (n : Nat) (s : State) : State × Answer :=
  let buf := s.gateArg n 16 8
  if !s.callerWrites n buf 2884 then refuse GateS.badArg s
  else
    (s.run [.store buf (s.attStore 0 32 ++ s.attStore 1 32 ++ s.attStore 2 2820)], ⟨GateS.done, []⟩)

/-! Lifecycle (R415, R416, R418). -/

/-- A transition of R418, and the purpose of the token it takes, 0 for none. -/
def lcTransition (a b : Nat) : Option Nat :=
  if a = 0 && (b = 1 || b = 2 || b = 4) then some 0
  else if a = 1 && b = 2 then some 0
  else if (a = 1 || a = 2) && b = 3 then some 1
  else if (a = 1 || a = 2) && b = 4 then some 2
  else if a = 3 && b = 4 then some 0
  else none

/-- Every group is OFF and every slot is held in reset (R418). -/
def State.trayIdle (s : State) : Bool :=
  (List.range 16).all (fun g => s.rd (SEQ_GSTAT.state g) == 0) && (List.range 8).all (fun n => s.on (ACU_SSTAT.rst n))

/-- Why an LC_REQUEST is refused (R411, R418, R440); 0 where it goes on. -/
def State.lcRefusal (s : State) (n target token : Nat) : Nat :=
  if s.on IMG_STAT.busy || s.on CRP_PFSTAT.warn then GateS.busy
  else match lcTransition s.lifecycle target with
    | none => GateS.notNow
    | some p =>
      if !s.storeOpen then GateS.notNow
      else if !s.trayIdle then GateS.notIdle
      else if p = 0 then 0
      else if !s.callerReads n token 3076 then GateS.badArg
      else if s.tokenCode (s.tokenAt token) p (fun k => p != 1 || decide (k < 4)) = 0 then 0 else GateS.badToken

/-- Steps 2 and 3 of R418; the record carries the lifecycle code of the token used, RMA or END, or 0 (R401, R417). -/
def lcProgram (target : Nat) (s : State) : State :=
  let p := (lcTransition s.lifecycle target).getD 0
  (s.does (ledgerWrite 4 ([s.lifecycle, target, 0, 0] ++ leBytes 4 (if p = 0 then 0 else p + 2)))).run
    [keeperNote Ty.LIFECYCLE [(24, 1, s.lifecycle), (25, 1, target), (26, 1, 1)], .set V.fuseState (setBit (s.rd V.fuseState) target),
     keeperNote Ty.LIFECYCLE [(24, 1, s.lifecycle), (25, 1, target), (26, 1, 2)]]

/-! STRUCT_COMMIT (R254, R256, R411). -/

/-- The keeper's own transaction that commits the loaded image: its live flag, and its seed or 0. -/
def structTx (live seed : Nat) (s : State) : List Upd :=
  let held := (({ openedAt := s.now, committedAt := s.now } : Tx).place FAB_COMMIT.go 1).place FAB_COMMIT.live live
  let held := if seed = 0 then held else held.place FAB_SEED.seed seed
  [.tx held, .set TIM_TXSTAT.state TxS.committing, .set TIM_TXSTAT.owner Req.keeper, .set TIM_TXSTAT.cause 0, .set TIM_TXSTAMP.stamp 0,
    .set TIM_TXCOUNT.writes held.vals.length]

/-- STRUCT_COMMIT: [8] live flag, [16-23] address, [24-27] length, [32-39] seed or 0. The keeper loads the image and commits it as
the owner of the transaction; the answer follows when the transaction has ended. -/
def structStart (n : Nat) (s : State) : State × Option Answer :=
  let a := s.gateArg n 16 8
  let len := s.gateArg n 24 4
  let seed := s.gateArg n 32 8
  if !s.callerReads n a len then (s, some ⟨GateS.badArg, []⟩)
  else if s.txBusy then (s, some ⟨GateS.busy, []⟩)
  else
    let t := loadEnd (loadStart a len (s.run [.set FAB_LOADADDR.addr a, .set FAB_LOADLEN.len len]))
    if t.rd FAB_STAT.load ≠ LoadS.verified then (t, some ⟨GateS.checkFailed, [(72, leBytes 4 (t.rd FAB_LOADERR.code * 2 ^ 24 + t.rd FAB_LOADERR.item)), (76, [0])]⟩)
    else
      ((t.does (structTx (s.gateArg n 8 1 % 2) seed)).run [.set V.structCore n, .set V.structSeq (s.gateSeq n)], none)

/-- The keeper loads the structure image that it selected at a cold start and commits it in full (R432, R256), once the on-chip wipe has ended and no
transaction stands in the way. -/
def structCold (s : State) : State :=
  let x := s.rd V.structOwed
  if x = 0 || s.txBusy || s.rd MEM_STAT.wipe ≠ 0 || s.on (V.planeHeld 3) then s
  else
    let len := (s.item 2 (x - 1)).len
    let t := loadEnd (loadBytes (s.at' (s.itemPlace 2 (x - 1)) 0 (min len bankSize)) len false (s.run [.set V.structOwed 0]))
    if t.rd FAB_STAT.load = LoadS.verified then t.does (structTx 0 0) else t

/-- The answer of a STRUCT_COMMIT whose transaction has ended. -/
def structReply (s : State) : State :=
  let n := s.rd V.structCore
  if n = 0 || s.txBusy then s
  else
    let ok := s.rd TIM_TXSTAT.state = TxS.done
    (s.run [.set V.structCore 0]).does (gateReply n 3 (if ok then GateS.done else GateS.notNow) (s.rd V.structSeq)
      [(72, leBytes 4 (s.rd FAB_LOADERR.code * 2 ^ 24 + s.rd FAB_LOADERR.item)), (76, [s.rd TIM_TXSTAT.cause])])

end Sys2Proof.Machine
end

