-- ==== Sys2Proof/Machine/HostIf.lean ====
section
/-! DEFINITION. The host interface (chapter 15): ring pairs and their decoder, responses and vectors, journal drains, and what
a reset of the function does. -/

namespace Sys2Proof.Machine

/-- A record of the host interface about a ring pair, or about the link or recovery (R467). -/
def hostNote (typ inst : Nat) (pay : List (Nat × Nat × Nat)) : Upd := note typ (srcOf 0xC inst) pay

/-- RING_EVENT (R467): 1 enabled, 2 disabled, 3 error, 4 paused, 5 starved. -/
def ringEvent (p what code seq : Nat) : Upd := hostNote Ty.RING_EVENT p [(24, 1, p), (25, 1, what), (26, 1, code), (28, 4, seq)]

/-- States of HIF_RSTAT. -/
def RingS.off : Nat := 0
def RingS.run : Nat := 1
def RingS.paused : Nat := 2
def RingS.halted : Nat := 3

/-- Entries of the request and response rings (R454). -/
def State.rqSize (s : State) (p : Nat) : Nat := 2 ^ s.rd (HIF_RCFG.rq_log p)
def State.rsSize (s : State) (p : Nat) : Nat := 2 ^ s.rd (HIF_RCFG.rs_log p)

/-- An index of the control block: rq_tail at 0, rq_head at 4, rs_tail at 8, rs_head at 12 (R454). -/
def State.ringIndex (s : State) (p o : Nat) : Nat := ofLe (memBytes s.mem (s.rd (HIF_RCB.base p) + o) 4)

/-- The response ring is full (R454). -/
def State.respFull (s : State) (p : Nat) : Bool := (s.rd (V.rsSeq p) + 1) % s.rsSize p == s.ringIndex p 12

/-- The next request of a ring (R456), and a field of it. -/
def State.request (s : State) (p : Nat) : List Nat :=
  memBytes s.mem (s.rd (HIF_RQBASE.base p) + 64 * (s.rd (V.rqSeq p) % s.rqSize p)) 64
def State.reqField (s : State) (p o n : Nat) : Nat := leAt (s.request p) o n

/-- The decoder runs (R450, R468); in D3hot it takes no requests (R449). -/
def State.decoding (s : State) : Bool := s.on HIF_STAT.ready && !s.on (V.planeHeld 3) && s.rd HIF_STAT.dstate == 0

/-- A ring error (R459). -/
def ringError (p code seq : Nat) (halt : Bool) : List Upd :=
  [.set (HIF_RSTAT.err p) code, .set (HIF_RERRSEQ.seq p) seq, .set HIF_EVT.ring_err 1] ++
  onlyIf halt [.set (HIF_RSTAT.state p) RingS.halted, .set (V.ringDue p) 0] ++ [ringEvent p 3 code seq]

/-- The service queue is full (R461). -/
def State.serviceFull (s : State) : Bool := (s.rd HIF_SVCQPTR.tail + 1) % 256 == s.rd HIF_SVCQPTR.head

/-- The next request cannot be decoded yet (R460, R461). -/
def State.mustPause (s : State) (p : Nat) : Bool :=
  s.respFull p || (s.reqField p 2 1 == 3 && s.reqField p 0 1 == 1 && s.rd (HIF_RCFG.role p) == 1 && s.serviceFull)

/-- The decoder looks at a ring's control block (R456, R459, R460). -/
def examine (p : Nat) (s : State) : List Upd :=
  if s.rd (HIF_RSTAT.state p) ≠ RingS.run then []
  else if s.rqSize p ≤ s.ringIndex p 0 || s.rsSize p ≤ s.ringIndex p 12 then ringError p 7 (s.rd (V.rqSeq p)) true
  else if s.ringIndex p 0 = s.rd (V.rqSeq p) % s.rqSize p then [.set (V.ringDue p) 0]
  else if s.reqField p 8 4 ≠ s.rd (V.rqSeq p) then ringError p 2 (s.reqField p 8 4) true
  else if s.mustPause p then [.set (HIF_RSTAT.state p) RingS.paused, .set (V.ringDue p) 0, ringEvent p 4 0 (s.rd (V.rqSeq p))]
  else [.set (V.ringDue p) 1]

/-- The ring served next: ascending from the one served last (R459). -/
def State.nextRing (s : State) : Option Nat :=
  ((List.range 64).map (fun i => (s.rd V.ringLast + i) % 64)).find? (fun p => s.on (V.ringDue p) && s.rd (HIF_RSTAT.state p) == RingS.run)

/-- Request types a role accepts (R455, R457): 1 ORDER, 2 BUFFER, 3 SERVICE, 4 PING. -/
def roleAccepts (role typ : Nat) : Bool :=
  if role = 1 then typ == 1 || typ == 3 || typ == 4 else if role = 2 then typ == 2 || typ == 4 else false

/-- RING_ERROR 3 or 4 for a request that is not acted on (R456, R459), 0 for one that is. -/
def State.unaccepted (s : State) (p : Nat) : Nat :=
  if s.reqField p 0 1 ≠ 1 then 3 else if !roleAccepts (s.rd (HIF_RCFG.role p)) (s.reqField p 2 1) then 4 else 0

/-- A request's length, ring, alignment or body length is invalid (R457, R459 code 5). -/
def State.malformed (s : State) (p : Nat) : Bool :=
  let typ := s.reqField p 2 1
  let len := s.reqField p 4 2
  s.reqField p 6 2 != p ||
    (if typ = 1 then len != 20
     else if typ = 2 then len != 12 || s.reqField p 24 8 % 64 != 0 || s.reqField p 32 4 % 64 != 0 || decide (s.reqField p 32 4 < 4096) || decide (16777216 < s.reqField p 32 4)
     else if typ = 3 then decide (40 < len) || (bit (s.reqField p 3 1) 0 && decide (65536 < s.reqField p 32 4))
     else len != 0)

/-- A response is posted (R460, R463), with its first four bytes given: the descriptor, rs_tail, its write-back, and the ring's
vector. -/
def postWith (p : Nat) (head : List Nat) (len tag : Nat) (payload : List Nat) (s : State) : List Upd :=
  let seq := s.rd (V.rsSeq p)
  let tail := (seq + 1) % s.rsSize p
  let desc := head ++ leBytes 2 len ++ leBytes 2 p ++ leBytes 4 seq ++ leBytes 4 tag ++ leBytes 8 s.now ++ sliceBytes payload 0 40
  let count := s.rd (V.coalCount p) + 1
  let now := s.rd (HIF_RCTL.coal_us p) = 0 || s.rd (HIF_RCTL.coal_n p) ≤ count
  [.store (s.rd (HIF_RSBASE.base p) + 64 * (seq % s.rsSize p)) desc, .store (s.rd (HIF_RCB.base p) + 8) (leBytes 4 tail), .set (V.rsSeq p) (seq + 1)] ++
  onlyIf (s.rd (HIF_RTWB.addr p) != 0 && s.on HIF_STAT.bme) [.store (inSpace Sp.host (s.rd (HIF_RTWB.addr p))) (leBytes 4 tail)] ++
  (if now then [.vector (s.rd (HIF_RCFG.vector p)), .set (V.coalCount p) 0, .set (V.coalAt p) 0]
   else [.set (V.coalCount p) count] ++ onlyIf (count == 1) [.set (V.coalAt p) (s.now + 1)])

/-- The decoder's own response (R456). -/
def postResponse (p typ len tag : Nat) (payload : List Nat) (s : State) : List Upd :=
  postWith p [1, min (s.rd (HIF_RCFG.minor p)) (s.rd HIF_VER.minor), typ, 0] len tag payload s

/-- A request is consumed (R456), and the decoder goes on. -/
def consume (p : Nat) (s : State) : List Upd :=
  let seq := s.rd (V.rqSeq p) + 1
  [.tally 0x072 0 1, .set (V.rqSeq p) seq, .store (s.rd (HIF_RCB.base p) + 4) (leBytes 4 (seq % 2 ^ 32 % s.rqSize p)), .set V.ringLast ((p + 1) % 64)]

/-- A RING_ERROR answers a request, and the ring continues. -/
def answerError (p code : Nat) (s : State) : List Upd :=
  postResponse p 0x84 5 (s.reqField p 12 4) (leBytes 4 (s.reqField p 8 4) ++ [code]) s ++ ringError p code (s.reqField p 8 4) false

/-- The decoder takes the next request of ring p, of a type (0: one that is not acted on): `fx` is what a well-formed one does. -/
def decodeRequest (p typ : Nat) (fx : State → List Upd) (s : State) : Result :=
  let code := s.unaccepted p
  whenever (s.decoding && decide (p < 64) && s.nextRing == some p && (if typ = 0 then code != 0 else code == 0 && s.reqField p 2 1 == typ)) s
    (let t := if code ≠ 0 then s.does (answerError p code) else if s.malformed p then s.does (answerError p 5) else s.does fx
     (t.does (consume p)).does (examine p))

/-- The HOST order of a request (R457, R458): an apply-at of 0 is the first boundary at least 4,000 ticks on. -/
def State.hostOrder (s : State) (p : Nat) : Order :=
  let t := s.reqField p 32 8
  ⟨s.reqField p 24 1, s.reqField p 25 1, s.reqField p 26 1, Src.host, s.reqField p 27 1 % 2 == 1, s.reqField p 40 4, s.reqField p 28 2,
   s.rd HIF_ORDSEQ.next, if t = 0 then boundaryOf (s.now + 4000) else t, false⟩

/-- An ORDER request (R458). A block that no chapter gives is recorded for the ring. -/
def hostOrderFx (p : Nat) (s : State) : List Upd :=
  let o := s.hostOrder p
  let code := s.decodeResult o
  (if o.blk < 5 then decodeOrder o s else [.emit { s.orderRec o 1 s.now with src := srcOf 0xC p }]) ++
  [bump s HIF_ORDSEQ.next] ++
  postResponse p 0x81 12 (s.reqField p 12 4) (leBytes 4 (s.reqField p 8 4) ++ [code, 0, 0, 0] ++ leBytes 4 o.seq) s

/-- A BUFFER request (R462). -/
def bufferFx (p : Nat) (s : State) : List Upd :=
  [.bufs (s.bufs ++ [⟨p, s.reqField p 8 4, s.reqField p 12 4, s.reqField p 24 8, s.reqField p 32 4⟩]), .set (HIF_RSTAT.starved p) 0]

/-- A SERVICE request is copied into the service queue (R461); the core that HIF_CTL.svc_core names is interrupted. -/
def serviceFx (p : Nat) (s : State) : List Upd :=
  [.store (s.rd HIF_SVCQBASE.base + 64 * s.rd HIF_SVCQPTR.tail) (s.request p), bump s HIF_SVCQPTR.tail]

/-- A PING request (R457). -/
def pingFx (p : Nat) (s : State) : List Upd := postResponse p 0x85 4 (s.reqField p 12 4) (leBytes 4 (s.reqField p 8 4)) s

/-- A range lies in the host area (R453). -/
def State.inHostArea (s : State) (a n : Nat) : Bool := decide (s.rd HIF_HABASE.base ≤ a) && decide (a + n ≤ s.rd HIF_HABASE.base + s.rd HIF_HASIZE.size)

/-- The configuration of a ring pair passes (R453-R455, R469). -/
def State.ringConfigOk (s : State) (p : Nat) : Bool :=
  let role := s.rd (HIF_RCFG.role p)
  let cls := s.rd (HIF_RCFG.class_ p)
  [s.rd (HIF_RCFG.rq_log p), s.rd (HIF_RCFG.rs_log p)].all (fun l => decide (6 ≤ l) && decide (l ≤ 16)) &&
    role != 3 && (cls == 0 || (role == 2 && decide (cls < 3))) &&
    s.rd (HIF_RQBASE.base p) % 4096 == 0 && s.rd (HIF_RSBASE.base p) % 4096 == 0 && s.rd (HIF_RCB.base p) % 64 == 0 &&
    s.inHostArea (s.rd (HIF_RQBASE.base p)) (64 * s.rqSize p) && s.inHostArea (s.rd (HIF_RSBASE.base p)) (64 * s.rsSize p) &&
    s.inHostArea (s.rd (HIF_RCB.base p)) 64

/-- A ring pair is enabled (R455), or its configuration is invalid. -/
def ringOn (p : Nat) (s : State) : List Upd :=
  if s.ringConfigOk p then
    let c := s.rd (HIF_RCFG.class_ p)
    [.set (HIF_RCTL.en p) 1, .store (s.rd (HIF_RCB.base p)) (List.replicate 16 0), .set (V.rqSeq p) 0, .set (V.rsSeq p) 0, .set (V.coalCount p) 0,
     .set (V.coalAt p) 0, .set (V.ringDue p) 0, .set (HIF_RSTAT.state p) RingS.run, .set (HIF_RSTAT.starved p) 0] ++
    onlyIf (s.rd (HIF_RCFG.role p) == 2) [.set (HIF_DRPOS.pos c) (s.rd (JRN_ACK.ack c)), .set (V.drained c) 0] ++ [ringEvent p 1 0 0]
  else ringError p 1 0 false

/-- A ring pair is disabled. -/
def ringOff (p : Nat) (s : State) : List Upd :=
  onlyIf (s.on (HIF_RCTL.en p))
    [.set (HIF_RCTL.en p) 0, .set (HIF_RSTAT.state p) RingS.off, .set (HIF_RSTAT.starved p) 0, .set (V.ringDue p) 0,
     .set (V.coalCount p) 0, .set (V.coalAt p) 0, .bufs (s.bufs.filter (fun b => b.ring != p)), ringEvent p 2 0 (s.rd (V.rqSeq p))]

/-- A write of HIF_RCTL (R455). -/
def ringControl (p value : Nat) (s : State) : State :=
  let t := s.run [.set (HIF_RCTL.coal_n p) (bits value 24 8), .set (HIF_RCTL.coal_us p) (bits value 16 8)]
  if bit value 0 then (if s.on (HIF_RCTL.en p) then t else t.does (ringOn p)) else t.does (ringOff p)

/-! The function (R448, R449). -/

/-- A HOST_LINK record (R467). -/
def hostLink (old cause : Nat) (s : State) : Upd :=
  hostNote Ty.HOST_LINK 0xFFF [(24, 1, old), (25, 1, s.rd HIF_STAT.link), (26, 1, s.rd HIF_STAT.rate), (27, 1, s.rd HIF_STAT.width), (28, 1, cause)]

/-- Every standing HOST order is released at the next boundary (R448). -/
def releaseHost (s : State) : State :=
  ((s.orders.standing.filter (fun o => o.src == Src.host)).foldl (fun t o =>
    (t.does (acceptOrder { o with release := true, seq := t.rd HIF_ORDSEQ.next, applyAt := t.now } t.now)).run [bump t HIF_ORDSEQ.next]) s).run [.set V.flrOwed 0]

/-! Recovery (R465, R488). -/

/-- A RECOVERY record (R467): 1 accepted, 2 rejected, 3 refused. -/
def recoveryNote (outcome code path : Nat) (s : State) : Upd :=
  hostNote Ty.RECOVERY 0xFFF [(24, 1, s.rd HIF_RCVSTAT.kind), (25, 1, outcome), (26, 1, code), (27, 1, path), (28, 4, s.rd HIF_RCVLEN.len)]

/-- A go of path 0, the host, or 1, two-wire (R465): the first path to write go owns the attempt, and a go of the other is refused. -/
def recoveryGo (path : Nat) (s : State) : List Upd :=
  let st := s.rd HIF_RCVSTAT.state
  if st = 1 || st = 4 then [.set HIF_RCVSTAT.state 2, .set HIF_RCVSTAT.path path, .set HIF_RCVSTAT.code 0]
  else if st = 2 && s.rd HIF_RCVSTAT.path ≠ path then [.set (V.rcvBusy path) 1, recoveryNote 3 0 path s]
  else []

/-- The largest image the window takes (R402, R465). -/
def recoveryRoom (kind : Nat) : Nat := if kind = 0 then 131072 else 64 * 1048576

/-- The code of R404 of the image in the window. -/
def State.recoveryCode (s : State) : Nat :=
  let k := s.rd HIF_RCVSTAT.kind
  let len := s.rd HIF_RCVLEN.len
  if recoveryRoom k < len || s.num (memPlace mgmtSram) 16 4 ≠ len then 2
  else if k = 0 then s.fwCheck 0 (memPlace mgmtSram) else s.serviceCheck (memPlace mgmtSram)

/-- The image is accepted (R465): segment 0 is unmapped, and the image runs as slot 2. -/
def recoveryAccept (s : State) : State :=
  let k := s.rd HIF_RCVSTAT.kind
  let t := s.run [.set (HIF_B2SEG.valid 0) 0, .set (HIF_B2SEG.rw 0) 0, .set (HIF_B2SEG.base 0) 0, .set HIF_RCVSTAT.state 3, .set HIF_EVT.recovery 1,
    .set V.awaiting (clearBit (s.rd V.awaiting) k), recoveryNote 1 0 (s.rd HIF_RCVSTAT.path) s]
  if k = 0 then keeperRuns ((t.does (startGated (memPlace mgmtSram) 2)).run [.set KPR_GQUEUE.gated 0])
  else t.does (installService (memPlace mgmtSram) 2)

/-- The check of a recovery image ends (R404, R465). -/
def recoveryDone (s : State) : State :=
  let code := s.recoveryCode
  let t := s.run [.set (V.rcvBusy 0) 0, .set (V.rcvBusy 1) 0]
  if code = 0 then recoveryAccept t
  else t.run [.set KPR_VERIFY.code code, bumpSat t KPR_VERIFY.fails 1, .set HIF_RCVSTAT.state 4, .set HIF_RCVSTAT.code code, .set HIF_EVT.recovery 1, recoveryNote 2 code (s.rd HIF_RCVSTAT.path) t]

end Sys2Proof.Machine
end

