-- ==== Sys2Proof/Machine/TwoWire.lean ====
section
/-! DEFINITION. The two-wire ports (chapter 16): the tray window, the command set of target port 0, controller transfers and
the identification engine. -/

namespace Sys2Proof.Machine

/-- The target decoders run (R473). -/
def State.targetRuns (s : State) : Bool := !s.on (V.planeHeld 0)

/-- The management plane runs, and port 0 accepts orders (R486, R550). -/
def State.mgmtRuns (s : State) : Bool := s.on HIF_STAT.ready && !s.on (V.planeHeld 3)

/-- A record of a port (R492). -/
def portNote (typ n : Nat) (pay : List (Nat × Nat × Nat)) : Upd := note typ (srcOf 0xD n) ((24, 1, n) :: pay)

/-- TWI_EVENT (R492): 1 SCL low timeout, 2 SDA stuck, 3 recovery done, 4 recovery failed, 5 arbitration lost after retries. -/
def portEvent (n what : Nat) (s : State) : List Upd :=
  [bump s (V.twiCount n what), .set TWI_EVT.bus 1,
   portNote Ty.TWI_EVENT n [(25, 1, what), (26, 1, ofBool (decide (2 ≤ n))), (28, 4, s.rd (V.twiCount n what) + 1)]]

/-- The bytes a transaction returned, as one little-endian number, to the rack manager. -/
def giveBytes (bs : List Nat) (s : State) : Upd := giveData Req.rack (ofLe bs) s

/-- The SMBus CRC-8 (R483). -/
def crc8 (bs : List Nat) : Nat :=
  bs.foldl (fun c b => (List.range 8).foldl (fun x _ => if bit x 7 then (2 * x % 256) ^^^ 7 else 2 * x) (c ^^^ b)) 0

/-! The tray window (R478-R482). -/

/-- The alert summary (R482). -/
def State.alertSummary (s : State) : Nat :=
  let any (n : Nat) (p : Nat → Bool) : Bool := (List.range n).any p
  let m := !s.on (V.planeHeld 3)
  [any 16 (fun g => s.rd (SEQ_GSTAT.state g) == 5), any 16 (fun c => s.rd (FED_CHSTAT.state c) == 4 || s.rd (FED_CHSTAT.state c) == 5),
   s.rd THM_DEVSTAT.level == 1 || s.rd THM_DEVSTAT.level == 2, s.rd THM_LEAKMAP.latch != 0, any 20 (fun f => s.rd (THM_CHSTAT.state f) == 3),
   s.rd THM_FLOWLOW.zones != 0, m && any 8 (fun n => decide (5 ≤ s.custodyState n)), any 8 (fun n => s.rd (SWJ_STAT.state n) == 7),
   any 8 (fun j => s.on (JOB_JRES.decision j)), any 3 (fun c => tableGet 0 s.firn.lost c != 0), !s.mgmtRuns].zipIdx.foldl
    (fun a x => a + ofBool x.1 * 2 ^ x.2) 0

/-- TWI0_ALERT_N is asserted (R482). -/
def State.alertOn (s : State) : Bool := s.on TWI_TCFG.alert_en && (s.alertSummary &&& s.rd V.alertMask) != 0

/-- The tray window, 256 bytes (R480); fields of the management plane read 0 while it is in reset. -/
def State.trayWindow (s : State) : List Nat :=
  let m := ofBool (!s.on (V.planeHeld 3))
  let le (n : Nat) (v : Nat) : List Nat := leBytes n v
  le 4 (m * s.glbId) ++ le 8 (m * s.rd V.fuseSerial) ++ [m * s.lifecycle] ++
  [ofBool s.mgmtRuns + 2 * s.rd FAB_STAT.committed + 4 * (m * ofBool (s.rd HIF_RCVSTAT.state == 1)) + 8 * (m * s.rd TWI_TCFG.pec_req), 1, 0] ++
  le 8 s.boundary ++ le 4 (s.rd CAP_PIN.p) ++ le 4 (s.rd CAP_ENVA.a) ++ (List.range 8).flatMap (fun n => le 4 (s.rd (CAP_SP.p n))) ++
  le 2 (s.rd SEQ_STAT.up) ++ [s.rd FED_SELSTAT.sel + 4 * s.rd FED_SELSTAT.usable_a + 8 * s.rd FED_SELSTAT.usable_b, s.rd THM_DEVSTAT.level] ++
  le 2 s.alertSummary ++ [0, 0] ++ le 2 (s.rd V.alertMask) ++ [0, 0] ++ (List.range 8).flatMap (fun n => le 2 (s.rd (THM_MAPT.t n))) ++
  le 2 (if s.on THM_DEVSTAT.sel then s.rd THM_DEVT.spare else s.rd THM_DEVT.primary) ++ [0, 0] ++
  (List.range 8).flatMap (fun n => [s.rd (V.freqHeld n), s.rd (CAP_QOUT.q_out n), m * s.custodyState n, s.rd (SWJ_STAT.state n)]) ++
  (List.range 16).flatMap (fun i => le 2 (s.rd (THM_EXTT.t i))) ++ (List.range 16).flatMap (fun f => le 2 (s.rd (THM_CHSTAT.rpm f))) ++
  le 4 (s.rd SEQ_FIRST.valid * 2 ^ 31 + s.rd SEQ_FIRST.rail * 2 ^ 16 + s.rd SEQ_FIRST.cause * 2 ^ 8 + s.rd SEQ_FIRST.state * 2 ^ 4 + s.rd SEQ_FIRST.group) ++
  le 8 (s.rd SEQ_FIRSTT.stamp) ++ le 4 (s.orders.value Blk.cap Tgt.trayCap 8) ++ List.replicate 48 0

/-- A read of n bytes of the window (R478). The snapshot of R479 holds the values in force at the command, as the commands since the last
boundary left them (DESIGN CHOICE, log 137). -/
def windowRead (port n : Nat) (s : State) : List Upd :=
  let w := s.trayWindow
  [giveBytes ((List.range n).map (fun i => w.getD ((s.rd (V.winPtr port) + i) % 256) 0)) s, .set (V.winPtr port) (s.rd (V.winPtr port) + n)]

/-- A write to the window (R478, R481): the pointer, then bytes, of which only port 0's alert mask is taken. -/
def windowWrite (port : Nat) (bs : List Nat) (s : State) : List Upd :=
  match bs with
  | [] => []
  | p :: rest =>
    let at' (i : Nat) : Nat := (p + i) % 256
    let taken (x : Nat × Nat) : Bool := port == 0 && (at' x.2 == 0x48 || at' x.2 == 0x49)
    let mask := rest.zipIdx.foldl (fun m x => if taken x then (if at' x.2 = 0x48 then m / 256 * 256 + x.1 % 256 else m % 256 + x.1 % 256 * 256) else m) (s.rd V.alertMask)
    [.set (V.winPtr port) (p + rest.length), .set V.alertMask mask,
     .set TWI_TWDISC.count (s.rd TWI_TWDISC.count + (rest.zipIdx.filter (fun x => !taken x)).length)]

/-! The command set (R483-R488). -/

/-- Address byte of the command set for a write. -/
def State.cmdAddr (s : State) : Nat := 2 * (0x50 + s.rd TWI_STRAP.strap)

/-- STATUS_WORD's own bits. -/
def setStatus (m : Nat) (s : State) : Upd := .set V.twiStatus (s.rd V.twiStatus ||| m)

/-- A write that is discarded whole (R483). -/
def cmdDiscard (code got want : Nat) (s : State) : List Upd :=
  [bump s TWI_TPECERR.count, .set TWI_EVT.pec 1, portNote Ty.TWI_PEC 0 [(25, 1, code), (26, 1, got), (27, 1, want)],
   setStatus (if code = 0xD0 then 3 else 1) s] ++ onlyIf (code == 0xD0) [.set V.orderCode 3]

/-- A write of the command set with the bytes after its code (R483): `good` where its length and count match. -/
def cmdWrite (code : Nat) (body : List Nat) (good : Bool) (pec : Option Nat) (t s : State) : Result :=
  let want := crc8 (s.cmdAddr :: code :: body)
  if !s.targetRuns then .next s
  else if !good then .next (s.does (cmdDiscard code (pec.getD 0) want))
  else match pec with
    | none => if s.on TWI_TCFG.pec_req then .next (s.does (cmdDiscard code 0 want)) else .next t
    | some x => if x = want then .next t else .next (s.does (cmdDiscard code x want))

/-- A read of the command set (R483): a PEC follows where it is required or the controller acknowledges a further byte. -/
def cmdRead (code : Nat) (body data : List Nat) (more : Bool) (s : State) : Result :=
  let pec := crc8 ([s.cmdAddr, code] ++ body ++ [s.cmdAddr + 1] ++ data)
  whenever s.targetRuns s (s.run [giveBytes (data ++ (if s.on TWI_TCFG.pec_req || more then [pec] else [])) s])

/-- A block: its count, then its bytes. -/
def blockOf (bs : List Nat) : List Nat := bs.length :: bs

/-- STATUS_WORD (R484). -/
def State.statusWord (s : State) : Nat := s.rd V.twiStatus + 256 * ofBool (!s.mgmtRuns) + 512 * ofBool s.alertOn

/-- The RACK order of a TRAY_ORDER body (R485). -/
def State.rackOrder (s : State) (b : List Nat) : Order :=
  let at0 := leAt b 8 8
  let t := if bit (b.getD 3 0) 1 then s.now + 4000 * at0 else if at0 = 0 then boundaryOf (s.now + 4000) else at0
  ⟨b.getD 0 0, b.getD 1 0, b.getD 2 0, Src.rack, bit (b.getD 3 0) 0, leAt b 16 4, leAt b 4 2, s.rd TWI_ORDSEQ.next, t, false⟩

/-- A TRAY_ORDER is decoded (R485). -/
def trayOrderFx (b : List Nat) (s : State) : List Upd :=
  let o := s.rackOrder b
  let code := s.decodeResult o
  (if o.blk < 5 then decodeOrder o s else [.emit { s.orderRec o 1 s.now with src := srcOf 0xD 0 }]) ++
  [bump s TWI_ORDSEQ.next, .set V.orderSeq o.seq, .set V.orderCode code, .set V.orderBlk o.blk, .set V.orderTgt o.target, .set V.orderScope o.scope,
   .set V.orderVal o.value, .set TWI_EVT.order 1] ++ onlyIf (code != 0) [setStatus 2 s]

/-- The recovery commands act (R488). -/
def State.rcvOpen (s : State) : Bool := decide (1 ≤ s.rd HIF_RCVSTAT.state) && decide (s.rd HIF_RCVSTAT.state ≤ 4) && !s.on (V.planeHeld 3)

/-- RCV_STAT (R484). -/
def State.rcvWord (s : State) : Nat :=
  (if s.on (V.rcvBusy 1) then 5 else s.rd HIF_RCVSTAT.state) * 2 ^ 13 + s.rd HIF_RCVSTAT.kind * 2 ^ 12 + s.rd HIF_RCVSTAT.code

/-! Controller ports (R474-R477, R489, R490). -/

/-- Bytes to send, and received, of a port. -/
def State.ctxBytes (s : State) (n : Nat) : List Nat := ((List.range 8).flatMap (fun w => leBytes 4 (s.rd (TWI_CTX.data n w)))).take (s.rd (TWI_CCMD.wr_len n))
def storeRx (n : Nat) (bs : List Nat) : List Upd := (List.range 9).map (fun w => .set (TWI_CRX.data n w) (leAt bs (4 * w) 4))

/-- A transfer ends (R489). -/
def transferEnd (n code count : Nat) : List Upd := [.set (TWI_CRES.busy n) 0, .set (TWI_CRES.count n) count, .set (TWI_CRES.code n) code]

/-- A write of TWI_CCMD (R477, R489, R491): `recov` says how a recovery ends: 1 where SDA read high within nine pulses, 2 where it lost
arbitration and stopped, to be started again by the next transfer (DEDUCED, log 215); else SDA is still low. -/
def controllerStart (req n value recov : Nat) (s : State) : State :=
  let t := s.run [.set (TWI_CCMD.rstart n) (bits value 30 1), .set (TWI_CCMD.block n) (bits value 29 1), .set (TWI_CCMD.pec n) (bits value 28 1),
    .set (TWI_CCMD.addr n) (bits value 16 7), .set (TWI_CCMD.rd_len n) (bits value 8 6), .set (TWI_CCMD.wr_len n) (bits value 0 6)]
  if !bit value 31 then t
  else if s.on (TWI_CRES.busy n) then s.run [discardWrite req 7 4 value (0x100_1020 + 0x100 * n)]
  else if !s.on (TWI_PCFG.en n) then t
  else if s.identHolds n then t.run (transferEnd n 6 0)
  else if s.on (V.sdaBad n) then
    let u := t.run [bump t (TWI_PRECOV.count n)]
    if recov = 2 then u.run (bump u (TWI_PARB.count n) :: transferEnd n 3 0)
    else if recov = 1 then (u.run [.set (V.sdaBad n) 0, .set (TWI_PSTAT.dead n) 0, .set (TWI_CRES.busy n) 1]).does (portEvent n 3)
    else (u.run (.set (TWI_PSTAT.dead n) 1 :: transferEnd n 8 0)).does (portEvent n 4)
  else t.run [.set (TWI_CRES.busy n) 1]

/-- The PEC of what a port read (R489). -/
def State.readPec (s : State) (n : Nat) (data : List Nat) : Nat :=
  let a := 2 * s.rd (TWI_CCMD.addr n)
  crc8 ((if s.on (TWI_CCMD.rstart n) && s.rd (TWI_CCMD.wr_len n) != 0 then a :: s.ctxBytes n else []) ++ [a + 1] ++ data)

/-- The result of a transfer that went through on the bus (R489): a block count that does not fit, or a PEC that does not match. -/
def State.readCode (s : State) (n : Nat) (rx : List Nat) : Nat :=
  let rd := s.rd (TWI_CCMD.rd_len n)
  if rd = 0 then 0
  else if s.on (TWI_CCMD.block n) && (rx.getD 0 0 == 0 || decide (32 < rx.getD 0 0) || decide (rd ≤ rx.getD 0 0)) then 7
  else if s.on (TWI_CCMD.pec n) && rx.getLastD 0 != s.readPec n rx.dropLast then 5 else 0

/-- A transfer ends on the bus with `out` 0 done, 1 or 2 not acknowledged, 3 arbitration lost; `lost` arbitrations (R475, R489). On a
port that the identification engine has come to hold it ends with result 6 (R490). -/
def transferDone (n out sent lost : Nat) (rx : List Nat) (s : State) : State :=
  let code := if s.identHolds n then 6 else if out = 0 then s.readCode n rx else out
  let count := if out = 2 || out = 3 then sent else if out ≠ 0 then 0 else if s.rd (TWI_CCMD.rd_len n) = 0 then s.rd (TWI_CCMD.wr_len n) else rx.length
  let t := s.run (transferEnd n code count ++ onlyIf (out == 0 && s.rd (TWI_CCMD.rd_len n) != 0) (storeRx n rx) ++
    onlyIf (out == 1 || out == 2) [bump s (TWI_PNACK.count n)] ++ [.set (TWI_PARB.count n) (s.rd (TWI_PARB.count n) + lost)])
  if code = 3 then t.does (portEvent n 5) else t

/-- The identification engine's read of an entry (R490): 0 where the regulator does not answer. -/
def identEntry (vals : List Nat) (i : Nat) (s : State) : List Upd :=
  let n := s.rd (TWI_SURV.port i)
  let r := s.rd (TWI_SURV.rail i)
  let v := vals.getD i 0 % 2 ^ 32
  onlyIf (s.on (TWI_SURV.valid i))
    [portNote Ty.TWI_IDENT n [(24, 1, i), (25, 1, n), (26, 1, s.rd (TWI_SURV.addr i)), (27, 1, r), (28, 4, v)], .emit (s.surveyRec (srcOf 0xD n) 2 r v),
     setB (V.identHold r) (s.surveyResponse 2 r v == 2)]

end Sys2Proof.Machine
end

