-- ==== Sys2Proof/Machine/Memory.lean ====
section
/-! DEFINITION. On-chip memory and LPDDR5X (chapter 17): regions, errors, scrubbing, row repair, training, and what a read or a
write of the device physical space finds. -/

namespace Sys2Proof.Machine

/-! Regions (R36, R495). -/

/-- Start and size of an on-chip region. -/
def regionBase (r : Nat) : Nat :=
  if r = 0 then 0x10_0000 else if r = 1 then 0x4000_0000 else if r = 2 then 0xC000_0000 else if r = 3 then 0xE000_0000
  else if r = 4 then 0xF000_0000 else 0x10_0000_0000
def regionSize (r : Nat) : Nat :=
  if r = 0 then 0x8_0000 else if r = 1 then 0x8000_0000 else if r = 2 then 0x2000_0000 else if r = 3 then 0x1000_0000 else 0x1000_0000

/-- The region an address lies in; LPDDR5X ends at MEM_LPTOP (R503). -/
def State.regionOf (s : State) (a : Nat) : Option Nat :=
  match (List.range 5).find? (fun r => decide (regionBase r ≤ a) && decide (a < regionBase r + regionSize r)) with
  | some r => some r
  | none => if 0x10_0000_0000 ≤ a && a < s.rd MEM_LPTOP.top then some 5 else none

/-- The mask ROM. -/
def inRom (a : Nat) : Bool := decide (a < 0x4_0000)

/-- The byte that records name for a channel: 0xFF outside LPDDR5X. -/
def State.channelByte (s : State) (a : Nat) : Nat := if 0x10_0000_0000 ≤ a then s.channelOf a else 0xFF

/-- The granule at an address lies in a channel that failed while it runs (R506). -/
def State.channelDead (s : State) (a : Nat) : Bool := decide (0x10_0000_0000 ≤ a) && s.rd (MEM_LPCH.state (s.channelOf a)) == 3

/-- The words of a list that a range touches. -/
def wordsIn (l : List Nat) (a n : Nat) : List Nat := l.filter (fun w => decide (a ≤ w + 7) && decide (w < a + n))

/-- The first word of a range that reads as uncorrectable (R496, R506). -/
def State.badWord? (s : State) (a n : Nat) : Option Nat :=
  match wordsIn s.ue a n with
  | w :: _ => some w
  | [] => ((List.range (n / 4096 + 2)).map (fun g => max a ((a / 4096 + g) * 4096))).find? (fun x => decide (x < a + n) && s.channelDead x)

/-- A staged record of the Firn window; record q stands at place q mod 262,144 of the staging area. -/
def State.stagedAt (s : State) (a : Nat) : List Nat :=
  match s.firn.area.find? (fun w => w.seq % 262144 == (a - 0xC000_0000) / 64) with
  | some w => w.toBytes
  | none => List.replicate 64 0

/-- A byte of the device physical space as it stands. -/
def State.physByte (s : State) (a : Nat) : Nat :=
  if inRom a then Config.romByte a % 256
  else if 0xC000_0000 ≤ a && a < 0xC100_0000 then (s.stagedAt a).getD (a % 64) 0
  else memByte s.mem a
def State.physBytes (s : State) (a n : Nat) : List Nat := (List.range n).map (fun i => s.physByte (a + i))

/-! Errors (R496, R498). -/

/-- The row of an address. -/
def rowOf (a : Nat) : Nat := a / 8192 * 8192

/-- A row is repaired, or is being or about to be. -/
def State.rowHandled (s : State) (row : Nat) : Bool :=
  s.memu.maps.any (fun e => e.1 == row) || s.memu.copies.any (fun e => e.1 == row) || s.memu.due.contains row

/-- A row's repair falls due (R498). -/
def dueRow (row : Nat) (m : MemUnit) (s : State) : MemUnit :=
  if s.on MEM_REPCFG.en && !s.rowHandled row then { m with due := m.due ++ [row] } else m

/-- An uncorrectable word is found (R496). -/
def foundUe (w : Nat) (s : State) : List Upd :=
  match s.regionOf w with
  | none => []
  | some r =>
    let n := s.rd (MEM_RUE.count r) + 1
    [.set (MEM_RUE.count r) n, .set (MEM_RUEADDR.addr r) w, .set MEM_EVT.ue 1,
     note Ty.MEM_ERROR 0 [(24, 1, r), (25, 1, 1), (26, 1, s.channelByte w), (28, 4, n), (32, 8, w)]] ++
    (if r < 5 then [.memu (dueRow (rowOf w) s.memu s)]
     else [bump s (MEM_LPCHUE.count (s.channelOf w)), .memu { s.memu with lpUe := (s.channelOf w, s.now) :: s.memu.lpUe.filter (fun e => decide (s.now < e.2 + 4000000000)) }])

/-- A corrected error joins its row's track; the repair falls due at MEM_REPCFG.thr within the window (R498). -/
def trackRow (row : Nat) (s : State) : MemUnit :=
  let old := ((s.memu.tracks.find? (fun t => t.row == row)).map (·.stamps)).getD []
  let stamps := s.now :: old.filter (fun t => decide (s.now < t + s.rd MEM_REPCFG.window * 4000000000))
  let rest := s.memu.tracks.filter (fun t => t.row != row)
  let oldest := rest.foldl (fun (m : Option RowTrack) t => match m with
    | some x => if t.stamps.headD 0 < x.stamps.headD 0 then some t else m
    | none => some t) none
  let kept := if 256 ≤ rest.length then (match oldest with | some x => rest.erase x | none => rest) else rest
  let m := { s.memu with tracks := kept ++ [⟨row, stamps⟩] }
  if s.rd MEM_REPCFG.thr ≤ stamps.length then dueRow row { m with tracks := kept } s else m

/-- A correctable error is found and written back (R496, R497, R504). -/
def foundCe (w : Nat) (s : State) : List Upd :=
  match s.regionOf w with
  | none => []
  | some r =>
    let n := s.rd (MEM_RCE.count r) + 1
    let m := if r < 5 then trackRow (rowOf w) s else s.memu
    [.set (MEM_RCE.count r) n, .memu { m with ce := m.ce.filter (· != w) }] ++
    onlyIf (r == 5) [bump s (MEM_LPCHCE.count (s.channelOf w))] ++
    onlyIf (n == s.rd (MEM_RCEALARM.alarm r)) [.set MEM_EVT.ce 1, note Ty.MEM_ERROR 0 [(24, 1, r), (25, 1, 2), (26, 1, s.channelByte w), (28, 4, n), (32, 8, w)]]

/-- What a read of a range finds (R496): its corrected words, and every uncorrectable one. -/
def checkRead (a n : Nat) (s : State) : State :=
  let t := s.doEach (wordsIn s.memu.ce a n) foundCe
  match wordsIn t.ue a n with
  | [] => (match t.badWord? a n with | some w => t.does (foundUe w) | none => t)
  | ws => t.doEach ws foundUe

/-! Scrubbing (R497, R505). -/

/-- A patrol scrubber reads 4 KiB of a region of the fixed region in each tick. -/
def patrol (r : Nat) (s : State) : State :=
  let pos := s.rd (V.scrubPos r)
  let next := pos + 4096
  (checkRead (regionBase r + pos) 4096 s).run
    (if regionSize r ≤ next then [.set (V.scrubPos r) 0, bump s (MEM_RSCRUB.passes r)] else [.set (V.scrubPos r) next])

/-- A pass over keeper SRAM or management SRAM. -/
def scrubPass (r : Nat) (s : State) : State := (checkRead (regionBase r) (regionSize r) s).run [bump s (MEM_RSCRUB.passes r)]

/-- The LPDDR5X patrol reads n bytes on. -/
def lpPatrol (n : Nat) (s : State) : State :=
  let base := 0x10_0000_0000
  let pos := max base (s.rd MEM_LPSCRUB.pos)
  let stop := min (pos + n) (s.rd MEM_LPTOP.top)
  ((checkRead pos (stop - pos) s).does (lpTraffic false pos (stop - pos))).run
    (if s.rd MEM_LPTOP.top ≤ stop then [.set MEM_LPSCRUB.pos base, bump s (MEM_RSCRUB.passes 5)] else [.set MEM_LPSCRUB.pos stop])

/-! Row repair (R498-R500). -/

/-- A MEM_REPAIR record (R512): 1 repaired, 2 macro exhausted, 3 reapplied after power-on. -/
def repairNote (what row spare : Nat) (s : State) : Upd :=
  let r := (s.regionOf row).getD 0
  note Ty.MEM_REPAIR 0 [(24, 1, r), (25, 1, what), (26, 2, (row - regionBase r) / 0x10_0000), (28, 1, row / 8192 % 128), (29, 1, spare), (32, 8, row)]

/-- A macro has a spare row that no repair has taken or is taking, and the table of R500 has room. -/
def State.spareLeft (s : State) (m : Nat) : Bool :=
  decide (s.sparesTaken m + (s.memu.copies.filter (fun e => macroOf e.1 == m)).length < 4) && decide (s.memu.maps.length + s.memu.copies.length < 256)

/-- A repair starts, or its macro has no spare row left (R499, R511). -/
def repairStart (row : Nat) (s : State) : List Upd :=
  let rest := s.memu.due.filter (· != row)
  if s.spareLeft (macroOf row) then [.memu { s.memu with due := rest, copies := s.memu.copies ++ [(row, s.now)] }]
  else [.memu { s.memu with due := rest }, .set MEM_EVT.spare_out 1, repairNote 2 row 0xFF s]

/-- The row map sends the row to its spare row (R499). -/
def repairEnd (what row : Nat) (s : State) : List Upd :=
  let spare := s.sparesTaken (macroOf row)
  [.memu { s.memu with copies := s.memu.copies.filter (fun e => e.1 != row), maps := s.memu.maps ++ [(row, spare)] }, .set MEM_EVT.repair 1, repairNote what row spare s] ++
  onlyIf (spare == 3) [.set MEM_EVT.spare_out 1]

/-- A repair in regions 1 to 3 takes two control ticks; elsewhere the copy uses idle cycles. -/
def State.copyDone (s : State) (row : Nat) : Bool :=
  s.memu.copies.any (fun e => e.1 == row && (!((s.regionOf row).any (fun r => decide (1 ≤ r) && decide (r ≤ 3))) || decide (boundaryOf e.2 + 8000 ≤ s.now)))

/-! LPDDR5X (R501-R507). -/

/-- What training found of a channel (R502): the rate code it runs at, 4 where it failed at 6,400 MT/s, the attempts and the eyes. -/
structure Trained where
  code : Nat
  attempts : Nat
  rdEye : Nat
  wrEye : Nat
  deriving DecidableEq, Repr

/-- Training ends (R502, R507). -/
def trainingEnd (res : List Trained) (s : State) : List Upd :=
  let at' (c : Nat) : Trained := res.getD c ⟨4, 0, 0, 0⟩
  let good := maskOf 48 (fun c => decide ((at' c).code < 4) && !bit (s.rd V.lpFailed) c)
  let g := popCount 48 good
  let rate := (bitsOf 48 good).foldl (fun m c => max m (at' c).code) (s.rd MEM_LPCFG.rate_max)
  let kept := s.on V.lpKeep && g != 0 && popCount 48 (s.rd V.lpGoodOld) == g
  (List.range 48).flatMap (fun c =>
    [Upd.set (MEM_LPCH.state c) (if bit good c then 2 else 3), .set (MEM_LPCH.attempts c) (at' c).attempts, .set (MEM_LPCHEYE.read c) (at' c).rdEye,
     .set (MEM_LPCHEYE.write c) (at' c).wrEye,
     note Ty.LP_TRAIN 0 [(24, 1, c), (25, 1, ofBool (!bit good c)), (26, 1, rate), (27, 1, (at' c).attempts), (28, 2, (at' c).rdEye), (30, 2, (at' c).wrEye),
       (32, 1, ofBool kept)]]) ++
  [.set V.lpGood good, .set MEM_STAT.good g, .set MEM_STAT.rate rate, .set MEM_STAT.retained (ofBool kept),
   .set MEM_LPTOP.top (0x10_0000_0000 + g * 0xE000_0000), .set MEM_EVT.train 1] ++
  (if kept then [.set MEM_STAT.lp_state 3, .set MEM_STAT.wipe (clearBit (s.rd MEM_STAT.wipe) 5)] else [.set MEM_STAT.lp_state 2])

/-- Initialisation ends: LPDDR5X holds zeros and is ready (R507). -/
def lpReady (s : State) : List Upd :=
  [.wipe 0x10_0000_0000 0x3A_0000_0000, .set MEM_STAT.lp_state 3, .set MEM_STAT.wipe (clearBit (s.rd MEM_STAT.wipe) 5), .set MEM_EVT.wipe 1]

/-- MR4 is read (R501, R511): code 0x1F is a temperature above the device's rating. -/
def mr4Poll (vals : List Nat) (s : State) : List Upd :=
  (s.goodChannels.flatMap (fun c =>
    Upd.set (MEM_LPCH.mr4 c) (vals.getD c 0) ::
      onlyIf (vals.getD c 0 % 32 == 31) [note Ty.MEM_ERROR 0 [(24, 1, 5), (25, 1, 4), (26, 1, c), (28, 4, 1)]])) ++
  onlyIf (s.goodChannels.any (fun c => s.rd (MEM_LPCH.mr4 c) != vals.getD c 0 % 32)) [.set V.wckDue 1]

/-- Uncorrectable words of a channel in the last second (R506). -/
def State.lpUeCount (s : State) (c : Nat) : Nat := (s.memu.lpUe.filter (fun e => e.1 == c && decide (s.now < e.2 + 4000000000))).length

/-- A channel is marked FAILED (R506). -/
def channelFails (c : Nat) (s : State) : List Upd :=
  [.set (MEM_LPCH.state c) 3, .set V.lpFailed (setBit (s.rd V.lpFailed) c), .set MEM_EVT.chan_fail 1,
   note Ty.MEM_ERROR 0 [(24, 1, 5), (25, 1, 3), (26, 1, c), (28, 4, s.lpUeCount c)]]

/-! Wipes (R508-R510). -/

/-- A region's wipe ends; rows that read back with an error are repaired at once, and are of kind 3 in its first wipe since power returned
(R500, R512). -/
def wipeEnd (r : Nat) (rows : List Nat) (s : State) : State :=
  let kind := if bit (s.rd V.powerWipe) r then 3 else 1
  let t := s.run ([.set V.powerWipe (clearBit (s.rd V.powerWipe) r), .wipe (regionBase r) (regionBase r + regionSize r), .set MEM_STAT.wipe (clearBit (s.rd MEM_STAT.wipe) r), .set MEM_EVT.wipe 1] ++
    onlyIf (r == 2) [.set V.windowWiped 1] ++ onlyIf (r == 1) (moraineWiped s))
  ((rows.map rowOf).filter (fun w => decide (regionBase r ≤ w) && decide (w < regionBase r + regionSize r))).foldl (fun x w =>
    if x.rowHandled w || !x.on MEM_REPCFG.en then x
    else
      let y := x.does (repairStart w)
      if y.memu.copies.any (fun e => e.1 == w) then y.does (repairEnd kind w) else y) t

/-! Accesses (R36, R410, R496, R510). -/

/-- A range waits: its region is being wiped, or LPDDR5X is not ready. -/
def State.memWaits (s : State) (a : Nat) : Bool :=
  if 0x10_0000_0000 ≤ a && a < 0x3A_0000_0000 then s.rd MEM_STAT.lp_state != 3
  else match s.regionOf a with
    | some r => bit (s.rd MEM_STAT.wipe) r
    | none => false

/-- No region covers some byte of the range (R36). -/
def State.unmapped (s : State) (a n : Nat) : Bool :=
  !(inRom a && inRom (a + n - 1)) && ((s.regionOf a).isNone || s.regionOf a != s.regionOf (a + n - 1))

/-- The mailbox page an address lies in (R411): its core. -/
def pageCore (a : Nat) : Option Nat := if 0xFFFF_C000 ≤ a && a < 0x1_0000_0000 then some ((a - 0xFFFF_C000) / 4096 + 1) else none

/-- Every mailbox page that a range touches is open to a requester: to its own core and the keeper alone (R411). -/
def pagesOpen (req a n : Nat) : Bool :=
  [1, 2, 3, 4].all (fun c => req == Req.keeper || req == c || !(decide (a < gatePage c + 0x1000) && decide (gatePage c < a + n)))

/-- The grant filter and the fixed page rule pass a core's access (R410, R411). -/
def State.coreMay (s : State) (req a n : Nat) (isWrite : Bool) : Bool :=
  pagesOpen req a n && if (pageCore a).isSome then true else if isServiceCore req then decide ((if isWrite then 1 else 0) ≤ (s.granted req 1 a n).getD 0) && (s.granted req 1 a n).isSome else req == Req.keeper

/-- A region that the management cores write (R36). -/
def State.coreWrites (s : State) (req a : Nat) : Bool :=
  match s.regionOf a with
  | some r => r == 4 || r == 5 || (r == 0 && req == Req.keeper)
  | none => false

/-- A discarded access of the device physical space (R65, R588). -/
def discardMem (req reason : Nat) (isRead : Bool) (width data a : Nat) : Upd := .emit (discardedRec req reason 1 isRead width data a)

/-- A management core's access to management SRAM or LPDDR5X (R523). -/
def coreTraffic (isWrite : Bool) (a n : Nat) (s : State) : List Upd :=
  lpTraffic isWrite a n s ++ (match s.regionOf a with | some r => onlyIf (r == 4 || r == 5) [.carry 30 isWrite n] | none => [])

/-- Bytes written to a range: those of granules whose channel has failed are discarded (R506). -/
def storeLive (a : Nat) (bs : List Nat) (s : State) : List Upd :=
  let parts := (List.range ((a + bs.length - 1) / 4096 - a / 4096 + 1)).map (fun g => max a ((a / 4096 + g) * 4096))
  if parts.all (fun x => !s.channelDead x) then [.store a bs]
  else parts.flatMap (fun x => onlyIf (!s.channelDead x) [.store x (((bs.drop (x - a)).take ((x / 4096 + 1) * 4096 - x)))])

/-- A core's write (R36, R405, R411): a write that covers a request's seq rings the keeper. -/
def memStore (req a n data : Nat) (s : State) : List Upd :=
  storeLive a (leBytes n data) s ++ coreTraffic true a n s ++
    (match pageCore a with
     | some c => if req = c && a ≤ gatePage c && gatePage c < a + n then ringGate c s else []
     | none => [])

/-- DMA's, BAR2's or a core's reads leave the corrected data, or nothing where a word is uncorrectable. -/
def State.readable (s : State) (a n : Nat) : Bool := (s.badWord? a n).isNone

end Sys2Proof.Machine
end

