-- ==== Sys2Proof/Machine/Drain.lean ====
section
/-! DEFINITION. Journal drains (R70, R462), the DMA engines (R464) and the resets of the function (R448). -/

namespace Sys2Proof.Machine

/-! Drains (R70, R462). -/

/-- Records of a class not yet drained. -/
def State.undrained (s : State) (c : Nat) : Nat := s.rd (V.stored c) - s.rd (V.drained c)

/-- A drain falls due (R70). -/
def State.drainDue (s : State) (c : Nat) : Bool :=
  s.on (JRN_DRAINCTL.en c) && decide (0 < s.undrained c) &&
    (decide (s.rd (JRN_DRAINCTL.mark c) ≤ s.undrained c) || decide (s.rd (V.drainSince c) + 4000000 ≤ s.now + 1))

/-- The address n records on from `a` in a class ring. -/
def State.ringAhead (s : State) (c a n : Nat) : Nat :=
  let b := s.rd (JRN_CLASSBASE.base c)
  b + (a - b + 64 * n) % max 64 (s.rd (JRN_CLASSSIZE.size c))

/-- One BUFFER is filled (R462); a record that cannot be read is lost and counted (R511). -/
def fillBuffer (c : Nat) (b : HostBuf) (s : State) : List Upd :=
  let n := min (s.undrained c) (b.len / 64)
  if n = 0 || s.respFull b.ring then []
  else
    let pos := s.rd (HIF_DRPOS.pos c)
    let places := (List.range n).map (s.ringAhead c pos)
    let lost := places.filter (fun a => !s.readable a 64)
    let recs := (places.filter (fun a => s.readable a 64)).flatMap (fun a => memBytes s.mem a 64)
    let sent := recs.length / 64
    let next := s.ringAhead c pos n
    let gone := s.rd (V.drained c) + n
    let f := lost.foldl (fun f a => f.lose c (if s.channelDead a then 4 else 3) seqUnknown 1) s.firn
    let loss := tableGet 0 f.lostEver c != s.rd (V.drainLost c)
    places.flatMap (fun a => lpTraffic false a 64 s) ++
    [.carry 31 false (64 * n), .carry (14 + c) false (64 * n), .carry (14 + c) true (64 * sent), .firn f, .store (inSpace Sp.host b.addr) recs, .bufs (s.bufs.erase b), .set (HIF_DRPOS.pos c) next, .set (V.drainLost c) (tableGet 0 f.lostEver c),
     .set (V.drainSince c) (if n < s.undrained c then s.now + 1 else 0),
     .set (HIF_DMASTAT.state c) 2, .set (HIF_DMASTAT.err c) 0, .set (HIF_DMASTAT.owner c) 15, .set (HIF_DMADONE.bytes c) (64 * sent)] ++
    (if c = 0 then [.set (V.drained c) gone] else [.set (JRN_ACK.ack c) next, .set (V.stored c) (s.rd (V.stored c) - gone), .set (V.drained c) 0]) ++
    postResponse b.ring 0x82 32 b.tag
      (leBytes 4 b.seq ++ [c, ofBool loss, 0, 0] ++ leBytes 8 sent ++ leBytes 8 (leAt recs 8 8) ++ leBytes 8 (leAt recs (64 * (sent - 1) + 8) 8)) s

/-- A due drain is served (R462); `fail` says that host memory could not be written (R447). -/
def drainClass (c : Nat) (fail : Bool) (s : State) : State :=
  let p := s.rd (JRN_DRAINCTL.ring c)
  if !(s.on (HIF_RCTL.en p) && s.rd (HIF_RCFG.role p) == 2 && s.rd (HIF_RCFG.class_ p) == c) then s.run [.set HIF_EVT.drain_cfg 1]
  else if s.rd (HIF_RSTAT.state p) = RingS.halted then s
  else match s.bufs.filter (fun b => b.ring == p) with
    | [] => if s.on (HIF_RSTAT.starved p) then s
        else s.run [.set (HIF_RSTAT.starved p) 1, .set HIF_EVT.starved 1, ringEvent p 5 0 (s.rd (V.rqSeq p))]
    | b :: rest =>
      if fail then (s.run (ringError p 6 b.seq true)).run [.set (HIF_DMASTAT.state c) 3, .set (HIF_DMASTAT.err c) 2, .set (HIF_DMASTAT.owner c) 15]
      else s.doEach (b :: rest) (fillBuffer c)

/-! DMA engines 3 to 15 (R464). -/

/-- A DMA's device-side range is granted to its core, and touches no mailbox page of another (R410, R411, R464): the keeper's by entries 48 to 63. -/
def State.dmaGranted (s : State) (req a n : Nat) (isWrite : Bool) : Bool := pagesOpen req a n &&
  if req = Req.keeper then
    (List.range 16).any (fun g =>
      let e := s.rd (KPR_GRANT.entry (48 + g))
      bit e 63 && bit e 62 && decide (bits e 30 26 * 4096 ≤ a) && decide (a + n ≤ bits e 30 26 * 4096 + bits e 4 26 * 4096) && (!isWrite || decide (1 ≤ bits e 60 2)))
  else decide ((if isWrite then 1 else 0) ≤ (s.granted req 1 a n).getD 0) && (s.granted req 1 a n).isSome

/-- The device-side address of an engine's transfer: the source towards the host, the destination from it. -/
def State.dmaDevice (s : State) (e : Nat) : Nat := if s.on (HIF_DMACTL.dir e) then s.rd (HIF_DMADST.addr e) else s.rd (HIF_DMASRC.addr e)

/-- An engine stops with a code. -/
def dmaEnd (e st err bytes : Nat) : List Upd := [.set (HIF_DMASTAT.state e) st, .set (HIF_DMASTAT.err e) err, .set (HIF_DMADONE.bytes e) bytes]

/-- A write of HIF_DMACTL (R464, R588). -/
def dmaStart (req e value : Nat) (s : State) : State :=
  let t := s.run [.set (HIF_DMACTL.relax e) (bits value 2 1), .set (HIF_DMACTL.dir e) (bits value 1 1)]
  if !bit value 0 then t
  else
    let u := t.run [.set (HIF_DMASTAT.owner e) req]
    if !u.dmaGranted req (u.dmaDevice e) (u.rd (HIF_DMALEN.len e)) (u.on (HIF_DMACTL.dir e)) then u.run (dmaEnd e 3 1 0)
    else if !u.on HIF_STAT.bme then u.run (dmaEnd e 3 3 0)
    else u.run (dmaEnd e 1 0 0)

/-- Why a transfer's device side discards (R36, R588): 5 where no region covers it, 8 where the region is not written by DMA; 0 where it
does not. -/
def State.dmaDiscards (s : State) (isWrite : Bool) (a n : Nat) : Nat :=
  if n = 0 then 0
  else if s.unmapped a n then 5
  else if isWrite && !(s.regionOf a == some 4 || s.regionOf a == some 5) then 8 else 0

/-- Its one record for the transfer (DESIGN CHOICE, log 172). -/
def dmaDiscarded (reason : Nat) (isRead : Bool) (a : Nat) : List Upd := onlyIf (reason != 0) [discardMem Req.dma reason isRead 0 0 a]

/-- A transfer ends after `n` bytes on the bus, with error `err` of R464 (0, 2, 3 or 4) or where device memory cannot be read. -/
def dmaDone (e err n : Nat) (s : State) : State :=
  let len := if err = 0 then s.rd (HIF_DMALEN.len e) else min n (s.rd (HIF_DMALEN.len e))
  let src := s.rd (HIF_DMASRC.addr e)
  let dst := s.rd (HIF_DMADST.addr e)
  if s.on (HIF_DMACTL.dir e) then
    let why := s.dmaDiscards true dst len
    (s.run (dmaDiscarded why false dst ++ onlyIf (why == 0) (storeLive dst (memBytes s.mem (inSpace Sp.host src) len) s ++ lpTraffic true dst len s) ++
      [.carry (14 + e) false len, .carry (14 + e) true len])).run (dmaEnd e (if err = 0 then 2 else 3) err len)
  else
    let why := s.dmaDiscards false src len
    let bad := if why = 0 then s.badWord? src len else none
    let m := match bad with | some w => w - src | none => len
    let t := if why = 0 then checkRead src len s else s
    (t.run (dmaDiscarded why true src ++ [.store (inSpace Sp.host dst) (if why = 0 then s.physBytes src m else List.replicate m 0), .carry (14 + e) false m, .carry (14 + e) true m] ++ lpTraffic false src m s)).run
      (if bad.isSome then dmaEnd e 3 5 m else dmaEnd e (if err = 0 then 2 else 3) err len)

/-- The transfer of a busy engine ends before its time with an error (R447, R448, R450): how much it has moved by then is free, and nothing
where its memory still waits. -/
def dmaBreak (e err : Nat) (s : State) : State :=
  if s.rd (HIF_DMASTAT.state e) = 1 then dmaDone e err (if s.memWaits (s.dmaDevice e) then 0 else Config.dmaMoved e s.now) s else s

/-- DMA engines from `first` on end their transfers with error 4. -/
def stopEngines (first : Nat) (s : State) : State := (List.range' first (16 - first)).foldl (fun t e => dmaBreak e 4 t) s

/-! Resets of the function (R448). -/

/-- A reset of the function (R448), of cause 1 PERST_N, 2 hot reset, 3 link down or 4 FLR. The RELEASEs of HIF_CTL.flr_release are issued
at the first boundary after it at which the decoder runs. -/
def functionReset (cause : Nat) (s : State) : State :=
  let old := s.rd HIF_STAT.link
  let t := stopEngines 0 (s.doEach (List.range 64) ringOff)
  let u := t.run ((List.range 1024).map (fun v => Upd.set (HIF_MSIX.mask v) 1) ++ (List.range 32).map (fun w => Upd.set (HIF_PBA.pend w) 0) ++
    [.set V.msixOn 0, .set V.msixMask 0, .set HIF_STAT.bme 0, .set HIF_STAT.dstate 0] ++
    onlyIf (decide (cause < 4)) [.set HIF_STAT.link 0, .set HIF_STAT.rate 0, .set HIF_STAT.width 0, .set HIF_STAT.flit 0] ++
    onlyIf (cause == 3) [bump s HIF_LINKDN.count])
  u.run ([hostLink old cause u, .set HIF_EVT.reset 1] ++ onlyIf (old != u.rd HIF_STAT.link) [.set HIF_EVT.link 1] ++
    onlyIf (s.on HIF_CTL.flr_release) [.set V.flrOwed 1])

end Sys2Proof.Machine
end

