-- ==== Sys2Proof/Machine/ExecHost.lean ====
section
/-! DEFINITION. The host interface's commands (R444-R463). -/

namespace Sys2Proof.Machine

/-- FUNCTION_RESET (R448). -/
def execFunctionReset (cause : Nat) (s : State) : Result :=
  whenever (decide (1 ≤ cause) && decide (cause ≤ 4)) s (functionReset cause s)

/-- D3HOT_ENTRY (R449). -/
def execD3hotEntry (s : State) : Result :=
  whenever (s.rd HIF_STAT.dstate == 0) s
    (let t := s.run [.set HIF_STAT.dstate 3]
     t.run [hostLink (s.rd HIF_STAT.link) 5 t])

/-- D0_RETURN (R449): pending messages go. -/
def execD0Return (s : State) : Result :=
  whenever (s.rd HIF_STAT.dstate == 3) s
    (let t := s.run [.set HIF_STAT.dstate 0, .flushVectors]
     t.run [hostLink (s.rd HIF_STAT.link) 5 t])

/-- HOST_LINK_STATE_CHANGE (R444): the link's new state, and Bus Master Enable, MSI-X Enable and Function Mask as the host has
set them. -/
def execHostLinkStateChange (link rate width flit cfg : Nat) (s : State) : Result :=
  whenever (decide (1 ≤ link) && decide (link ≤ 4)) s
    (let t := s.run [.set HIF_STAT.link link, .set HIF_STAT.rate rate, .set HIF_STAT.width width, .set HIF_STAT.flit flit,
        .set HIF_STAT.bme (bits cfg 0 1), .set V.msixOn (bits cfg 1 1), .set V.msixMask (bits cfg 2 1), .flushVectors, .set HIF_EVT.link 1]
     t.run [hostLink (s.rd HIF_STAT.link) 0 t])

/-- PCIE_ERROR (R447, R459): a correctable or uncorrectable error, with its AER status bit and what it ends: the transfer of DMA engine 0 to 15, or
the host memory access of ring pair p as 16 + p. -/
def execPcieError (unc : Bool) (aer engine : Nat) (s : State) : Result :=
  let t := if unc && decide (engine < 16) then dmaBreak engine 2 s else s
  .next (t.run ([bump s (if unc then HIF_AERUNC.count else HIF_AERCOR.count)] ++ onlyIf unc [.set HIF_EVT.aer_unc 1] ++
    onlyIf (unc && decide (16 ≤ engine) && decide (engine < 80) && s.on (HIF_RCTL.en (engine - 16))) (ringError (engine - 16) 6 (s.rd (V.rqSeq (engine - 16))) true) ++
    [hostNote Ty.HOST_ERROR 0xFFF [(24, 1, ofBool unc), (25, 1, aer), (28, 4, 1)]]))

/-- RING_ENABLE (R455): a write of HIF_RCTL of ring p. -/
def execRingEnable (req p value : Nat) (s : State) : Result :=
  if p < 64 then s.gated req (0xF0_1024 + 0x40 * p) 4 value false (ringControl p value s) else .next s

/-- DOORBELL (R459). -/
def execDoorbell (req p value : Nat) (s : State) : Result :=
  if p < 64 then s.gated req (0xF0_1030 + 0x40 * p) 4 value false (if bit value 0 && s.decoding then s.does (examine p) else s) else .next s

/-- RING_POLL (R459): every enabled ring is examined. -/
def execRingPoll (s : State) : Result := whenever s.decoding s (s.doEach (List.range 64) examine)

/-- ORDER (R458). -/
def execOrder (p : Nat) (s : State) : Result := decodeRequest p 1 (hostOrderFx p) s

/-- BUFFER (R462). -/
def execBuffer (p : Nat) (s : State) : Result := decodeRequest p 2 (bufferFx p) s

/-- SERVICE (R461). -/
def execService (p : Nat) (s : State) : Result := decodeRequest p 3 (serviceFx p) s

/-- PING (R457). -/
def execPing (p : Nat) (s : State) : Result := decodeRequest p 4 (pingFx p) s

/-- UNACCEPTED_REQUEST (R456, R459). -/
def execUnacceptedRequest (p : Nat) (s : State) : Result := decodeRequest p 0 (fun _ => []) s

/-- RING_RESUME (R460, R461). -/
def execRingResume (p : Nat) (s : State) : Result :=
  whenever (s.decoding && decide (p < 64) && s.rd (HIF_RSTAT.state p) == RingS.paused && !s.mustPause p) s
    ((s.run [.set (HIF_RSTAT.state p) RingS.run]).does (examine p))

/-- INTERRUPT_COALESCE (R463). -/
def execInterruptCoalesce (p : Nat) (s : State) : Result :=
  whenever (decide (p < 64) && s.rd (V.coalAt p) != 0 && decide (s.rd (V.coalAt p) - 1 + 4000 * s.rd (HIF_RCTL.coal_us p) ≤ s.now)) s
    (s.run [.vector (s.rd (HIF_RCFG.vector p)), .set (V.coalCount p) 0, .set (V.coalAt p) 0])

/-- The firmware's response descriptor (R461). -/
def State.serviceResponse (s : State) : List Nat := (List.range 16).flatMap (fun w => leBytes 4 (s.rd (HIF_SVCRSP.desc_ w)))

/-- A write of HIF_SVCPUSH (R461). -/
def servicePush (value : Nat) (s : State) : List Upd :=
  let p := bits value 0 6
  let d := s.serviceResponse
  if !bit value 6 || !s.on (HIF_RCTL.en p) then []
  else if s.respFull p then [.set HIF_SVCSTAT.full 1]
  else .set HIF_SVCSTAT.full 0 :: postWith p (d.take 4) (leAt d 4 2) (leAt d 12 4) (d.drop 24) s

/-- SVCPUSH (R461). -/
def execSvcpush (req value : Nat) (s : State) : Result := s.gated req 0xF0_0340 4 value false (s.does (servicePush value))

/-- A BAR2 mapping that R452 permits: LPDDR5X; read only the Firn window, the Moraine, the fabric and structure store; management
SRAM during recovery. -/
def State.segmentPermitted (s : State) (value : Nat) : Bool :=
  let base := bits value 0 10 * 0x1000_0000
  !bit value 63 || (decide (0x10_0000_0000 ≤ base) && decide (base < 0x3A_0000_0000)) ||
    (!bit value 62 && ((decide (0x4000_0000 ≤ base) && decide (base < 0xE000_0000)) || base == 0xE000_0000)) ||
    (base == 0xF000_0000 && s.rd V.awaiting != 0)

/-- B2SEG_WRITE (R452, R588). -/
def execB2segWrite (req seg value : Nat) (s : State) : Result :=
  let a := 0xF0_0040 + 8 * seg
  if seg < 16 then
    s.gated req a 8 value true
      (if s.segmentPermitted value then s.run [.set (HIF_B2SEG.valid seg) (bits value 63 1), .set (HIF_B2SEG.rw seg) (bits value 62 1), .set (HIF_B2SEG.base seg) (bits value 0 10)]
       else s.run [discardWrite req 9 8 value a])
  else .next s

/-- RECOVERY_GO (R465): a write of HIF_RCVCTL. -/
def execRecoveryGo (req value : Nat) (s : State) : Result :=
  s.gated req 0xF0_0200 4 value false (if bit value 0 then s.does (recoveryGo 0) else s)

/-- RECOVERY_CHECK_DONE (R465). -/
def execRecoveryCheckDone (s : State) : Result :=
  whenever (s.rd HIF_RCVSTAT.state == 2 && !s.on (V.planeHeld 3)) s (recoveryDone s)

end Sys2Proof.Machine
end

