-- ==== Sys2Proof/Machine/ExecKeeper.lean ====
section
/-! DEFINITION. The keeper's commands (chapters 13 and 14): checks of images, release of cores, locks, and the gate calls. -/

namespace Sys2Proof.Machine

/-- IMAGE_REJECT (R403, R405): the gated keeper's checks 7 and 8 fail, or its image could not be read (code 9). -/
def execImageReject (readErr : Bool) (s : State) : Result :=
  let code := if readErr then 9 else s.fwBody 0 s.keeperPlace
  whenever (s.keeperGated && s.rd KPR_BOOT.stage == Stage.gated && code != 0) s (keeperRejected code s)

/-- CORE_RELEASE (R408): a write of KPR_CORECTL. -/
def execCoreRelease (req value : Nat) (s : State) : Result := s.gated req 0xD0_1000 4 value true (releaseCores value s)

/-- KEYLOCK (R400): a write of KPR_KEYLOCK. -/
def execKeylock (req value : Nat) (s : State) : Result := s.gated req 0xD0_1044 4 value true (setLocks value s)

/-- GOLDEN_CHECK_DONE (R431): once service cores are released; copies of `bad` could not be read. -/
def execGoldenCheckDone (bad : List Nat) (s : State) : Result :=
  whenever (s.rd KPR_BOOT.stage == Stage.services && !s.on V.goldDone && !s.on (V.planeHeld 3)) s (goldenChecks bad s)

/-- GRANT_QUERY (R411). -/
def execGrantQuery (core : Nat) (s : State) : Result := serveCall core 1 true (grantQuery core) s

/-- STAGE, ACTIVATE, CONFIRM and ABANDON (R411, R435-R437). -/
def execStage (core : Nat) (s : State) : Result := serveCall core 2 (s.gateArg core 8 1 == 1) (imgStage core) s
def execActivate (core : Nat) (s : State) : Result := serveCall core 2 (s.gateArg core 8 1 == 2) (imgActivate core) s
def execConfirm (core : Nat) (s : State) : Result := serveCall core 2 (s.gateArg core 8 1 == 3) (imgConfirm core) s
def execAbandon (core : Nat) (s : State) : Result := serveCall core 2 (s.gateArg core 8 1 == 4) (imgAbandon core) s

/-- STAGE_DONE (R436), with the blocks whose erase or program failed twice (R425); suspended while power fails (R440). -/
def execStageDone (bad : List Nat) (s : State) : Result :=
  whenever (s.on IMG_STAT.busy && (s.rd KPR_BOOT.stage == Stage.running || s.rd KPR_BOOT.stage == Stage.services) && !s.on CRP_PFSTAT.warn) s
    (stageDone bad s)

/-- LEDGER_COMPACT (R426): fewer than 64 records are left in the half in use. -/
def execLedgerCompact (s : State) : Result :=
  whenever (decide (ledgerRoom - 64 < s.rd IMG_LEDGER.used) && (s.rd KPR_BOOT.stage == Stage.running || s.rd KPR_BOOT.stage == Stage.services) &&
    s.mayRecord && !s.on (V.planeHeld 3)) s (compact s)

/-- STRUCT_COMMIT (R411): refused at once, or answered when its transaction has ended. -/
def execStructCommit (core : Nat) (s : State) : Result :=
  whenever (s.serving && s.nextCall == some core && s.gateCode core == 3) s
    (match structStart core (s.does (gateTaken core)) with
     | (t, some a) => t.does (gateReply core 3 a.status (s.gateSeq core) a.res)
     | (t, none) => t)

/-- ATTEST (R413, R414). -/
def execAttest (core : Nat) (s : State) : Result := serveCall core 4 true (attest core) s

/-- SVN_RAISE and SVN_FUSE (R406). -/
def execSvnRaise (core : Nat) (s : State) : Result := serveCall core 5 true (svnRaise core) s
def execSvnFuse (core : Nat) (s : State) : Result := serveCall core 6 true (svnFuse core) s

/-- KEY_ENROLL and KEY_REVOKE (R411). -/
def execKeyEnroll (core : Nat) (s : State) : Result := serveCall core 8 true (keyEnroll core) s
def execKeyRevoke (core : Nat) (s : State) : Result := serveCall core 9 true (keyRevoke core) s

/-- CORE_RETIRE (R408). -/
def execCoreRetire (core : Nat) (s : State) : Result := serveCall core 0xA true (coreRetire core) s

/-- ATT_PUBLIC (R412). -/
def execAttPublic (core : Nat) (s : State) : Result := serveCall core 0xB true (attPublic core) s

/-- A call code is one of R411's. -/
def gateCallKnown (code : Nat) : Bool := decide (1 ≤ code) && decide (code ≤ 0xB)

/-- UNKNOWN_GATE_CALL (R411): status 1; an IMAGE_STAGE whose operation is none of the four is a bad argument, status 2. -/
def execUnknownGateCall (core : Nat) (s : State) : Result :=
  let code := s.gateCode core
  let badOp := code == 2 && !(decide (1 ≤ s.gateArg core 8 1) && decide (s.gateArg core 8 1 ≤ 4))
  serveCall core code (!gateCallKnown code || badOp) (refuse (if badOp then GateS.badArg else GateS.unknown)) s

end Sys2Proof.Machine
end

