-- ==== Sys2Proof/Machine/ExecLoader.lean ====
section
/-! DEFINITION. The commands of the structure image's loader (R254, R255, R264). -/

namespace Sys2Proof.Machine

/-- IMAGE_LOAD (R254, R260): a write of 1 to FAB_LOADCTL.load. -/
def execImageLoad (req : Nat) (s : State) : Result :=
  s.gated req 0x60_004C 4 1 true (loadStart (s.rd FAB_LOADADDR.addr) (s.rd FAB_LOADLEN.len) s)

/-- LOAD_DONE (R254, R255). -/
def execLoadDone (s : State) : Result := whenever (s.rd FAB_STAT.load == LoadS.loading) s (loadEnd s)

/-- LOAD_DISCARD (R264): a write of 1 to FAB_LOADCTL.discard; a load that runs stops. -/
def execLoadDiscard (req : Nat) (s : State) : Result :=
  s.gated req 0x60_004C 4 2 true (s.run [.set FAB_STAT.load LoadS.empty])

end Sys2Proof.Machine
end

