-- ==== Sys2Proof/Machine/ExecFirn.lean ====
section
/-! DEFINITION. The Firn's commands: the management port, FIRN_START, the move of records into LPDDR5X, losses, the
acknowledgement and the capture ring (R62, R66-R74, R589-R590). -/

namespace Sys2Proof.Machine

/-- Bytes of the management port's buffer (R589). -/
def State.mgmtBytes (s : State) : List Nat := (List.range 16).flatMap (fun w => leBytes 4 (s.rd (JRN_MGMTREC.record w)))

/-- The record a core pushes (R67, R589): a service core's src and order_src are the writer's, a stamp of its own stands only
if it is not 0 and not later than the push. -/
def State.pushedRec (s : State) (core : Nat) : Rec :=
  let b := s.mgmtBytes
  let own := leAt b 0 8
  let flags := b.getD 23 0
  { typ := b.getD 22 0, src := if core = Req.keeper then leAt b 20 2 else srcOf 0xB core,
    pay := (List.range 5).map (fun i => (24 + 8 * i, 8, leAt b (24 + 8 * i) 8)),
    stamp := some (if own ≠ 0 && own ≤ s.now then own else s.now),
    orderSrc := if core = Req.keeper then bits flags 3 3 else 0, variableMark := bit flags 2, cont := bit flags 0,
    cls := some (bits flags 6 2) }

/-- A write of JRN_MGMTPUSH (R66, R589). -/
def mgmtPush (req : Nat) (s : State) : List Upd :=
  if s.planeDown 0x18_0140 then [discardWrite req 6 4 1 0x18_0140]
  else if !isCore req then [discardWrite req 8 4 1 0x18_0140]
  else if isServiceCore req && ((s.granted req 0 0x18_0140 4).getD 0) = 0 then [discardWrite req 2 4 1 0x18_0140]
  else
    let r := s.pushedRec req
    if req ≠ Req.keeper && r.typ < 0xF0 then [discardWrite req 8 4 1 0x18_0140]
    else if s.firn.queued < mgmtRoom then [.firn (s.firn.enqueue r)]
    else [.firn { s.firn with held := s.firn.held ++ [(req, r)] }]

/-- JRN_MGMTPUSH (R66, R67, R589). -/
def execJrnMgmtPush (req : Nat) (s : State) : Result := keeperQueues req 0x18_0140 4 1 s (s.does (mgmtPush req))

/-- A core held on the full queue goes on (R66). -/
def mgmtResume (s : State) : List Upd :=
  match s.firn.held with
  | (_, r) :: rest => [.firn { s.firn.enqueue r with held := rest }]
  | [] => []

/-- MGMT_QUEUE_RESUME (R66). -/
def execMgmtQueueResume (s : State) : Result := whenever (decide (s.firn.queued < mgmtRoom)) s (s.does mgmtResume)

/-- FIRN_START: the cold-reset cause, the count of cold resets, GLB_ID and the serial (R62, R65). -/
def firnStartRec (s : State) : Rec :=
  { typ := Ty.FIRN_START, src := 0, pay := [(24, 1, s.rd CRP_CAUSE.cold), (28, 4, s.rd CRP_RSTCNT.cold), (32, 4, s.glbId), (40, 8, s.rd V.fuseSerial)] }

/-- FIRN_START (R62): once the Firn window wipe has ended. -/
def execFirnStart (s : State) : Result :=
  whenever (s.on V.windowWiped && !s.firn.started) s (s.run [.firn (s.firn.start s.now (firnStartRec s))])

/-- The next record place of a class ring. -/
def State.ringNext (s : State) (c a : Nat) : Nat :=
  let b := s.rd (JRN_CLASSBASE.base c)
  let n := s.rd (JRN_CLASSSIZE.size c)
  if b + n ≤ a + 64 then b else a + 64

/-- Records a class region holds. -/
def State.classRoom (s : State) (c : Nat) : Nat := s.rd (JRN_CLASSSIZE.size c) / 64

/-- A record is written at the head of a class ring; a full ring of class 1 or 2 first gives up its oldest record (R68, R69). -/
def ringStore (c : Nat) (w : StagedRec) (s : State) : List Upd :=
  let head := s.rd (JRN_HEAD.head c)
  let room := s.classRoom c
  let full := decide (room ≤ s.rd (V.stored c))
  let ack := s.rd (JRN_ACK.ack c)
  let oldSpill := full && bit (memByte s.mem (ack + 23)) 1
  onlyIf oldSpill [.firn (s.firn.lose 0 1 (s.leMem (ack + 8) 8) 1)] ++
  lpTraffic true head 64 s ++ [.carry 31 true 64, .store head w.toBytes, .set (JRN_HEAD.head c) (s.ringNext c head),
   .set (V.stored c) (if full then room else s.rd (V.stored c) + 1)] ++
  onlyIf full [.set (JRN_ACK.ack c) (s.ringNext c ack)] ++
  onlyIf full [if s.rd (V.drained c) = 0 then .set (HIF_DRPOS.pos c) (s.ringNext c ack) else .set (V.drained c) (s.rd (V.drained c) - 1)] ++
  onlyIf (s.rd (V.drainSince c) == 0) [.set (V.drainSince c) (s.now + 1)]

/-- The oldest staged record leaves the staging area (R68, R69): class 3 is not stored, class 0 with its region full goes to
the class 1 region with spill set. -/
def moveRecord (s : State) : State :=
  match s.firn.area with
  | [] => s
  | w :: rest =>
    let t := s.run [.firn { s.firn with area := rest }]
    if 3 ≤ w.cls then t
    else if w.cls = 0 && decide (s.classRoom 0 ≤ s.rd (V.stored 0)) then
      (t.run [.firn { t.firn with c0Full := true }]).does (ringStore 1 { w with spill := true })
    else t.does (ringStore w.cls w)

/-- One LOSS record reports a class's losses (R69, R65). -/
def reportLoss (s : State) : List Upd :=
  match s.firn.lossNotes with
  | (c, n) :: rest =>
    [.firn { s.firn with lossNotes := rest },
     note Ty.LOSS 0 [(24, 1, c), (25, 1, n.cause), (28, 4, n.count), (32, 8, n.firstSeq)]]
  | [] => []

/-- LOSS (R69): as soon as the staging area has room. -/
def execLoss (s : State) : Result := whenever (s.firn.started && decide (s.firn.area.length < areaRoom)) s (s.does reportLoss)

/-- Bytes from one ring address forward to another; a full ring's head lies a whole turn ahead. -/
def State.ringDist (s : State) (c a b : Nat) : Nat :=
  let n := s.rd (JRN_CLASSSIZE.size c)
  if a ≤ b then b - a else b + n - a

/-- Unacknowledged bytes of a class. -/
def State.unacked (s : State) (c : Nat) : Nat := 64 * s.rd (V.stored c)

/-- A JRN_ACK value is a record boundary on the ring from the acknowledgement to the head (R590). -/
def State.ackValid (s : State) (c v : Nat) : Bool :=
  let b := s.rd (JRN_CLASSBASE.base c)
  decide (b ≤ v) && decide (v < b + s.rd (JRN_CLASSSIZE.size c)) && (v - b) % 64 == 0 &&
    decide (s.ringDist c (s.rd (JRN_ACK.ack c)) v ≤ s.unacked c)

/-- The acknowledgement a valid write takes: class 0 with its drain enabled is clamped to HIF_DRPOS[0] (R462, R590). -/
def State.ackClamp (s : State) (c v : Nat) : Nat :=
  let ack := s.rd (JRN_ACK.ack c)
  if c = 0 && s.on (JRN_DRAINCTL.en 0) && decide (64 * s.rd (V.drained 0) < s.ringDist 0 ack v)
  then s.rd (HIF_DRPOS.pos 0) else v

/-- The acknowledgement moves to `v`. -/
def advanceAck (c v : Nat) (s : State) : List Upd :=
  let n := s.ringDist c (s.rd (JRN_ACK.ack c)) v / 64
  [.set (JRN_ACK.ack c) v, .set (V.stored c) (s.rd (V.stored c) - n), .set (V.drained c) (s.rd (V.drained c) - n)] ++
  onlyIf (decide (s.rd (V.drained c) < n)) [.set (HIF_DRPOS.pos c) v] ++
  onlyIf (decide (s.rd (V.stored c) - n ≤ s.rd (V.drained c) - n)) [.set (V.drainSince c) 0]

/-- A write of JRN_ACK[c] (R590). -/
def ackWrite (req c v : Nat) (s : State) : List Upd :=
  let a := 0x18_0088 + 0x10 * c
  if s.planeDown a then [discardWrite req 6 8 v a]
  else if isServiceCore req && ((s.granted req 0 a 8).getD 0) = 0 then [discardWrite req 2 8 v a]
  else if s.ackValid c v then advanceAck c (s.ackClamp c v) s
  else [discardWrite req 9 8 v a]

/-- JRN_ACK_WRITE (R590). -/
def execJrnAckWrite (req c v : Nat) (s : State) : Result := if c < 3 then keeperQueues req (0x18_0088 + 0x10 * c) 8 v s (s.does (ackWrite req c v)) else .next s

/-- Capture states (R74). -/
def CapS.disarmed : Nat := 0
def CapS.armed : Nat := 1
def CapS.post : Nat := 2
def CapS.frozen : Nat := 3

/-- Some accelerator rail is up: a core or memory rail of a slot regulates (R74, R79). -/
def State.accRailUp (s : State) : Bool := (List.range 4).any (fun k => (List.range 4).any (fun j => s.rd (PHT_RSTAT.state k j) == 2))

/-- The trigger sources of the present tick that JRN_CAPTRIG enables (R74), coded as in the CAPTURE record. -/
def State.capSources (s : State) (reg : Bool) : Nat :=
  let types := (List.range 4).map (fun i => bits (s.rd JRN_CAPTYPE.types) (8 * i) 8)
  let trip := s.on JRN_CAPTRIG.trip && s.firn.tickTypes.contains Ty.PROTECT_TRIP
  let cell := s.on JRN_CAPTRIG.cell && bit (s.rd V.capRaised) 1
  let byType := s.on JRN_CAPTRIG.type_ && s.firn.tickTypes.any (fun t => t != Ty.CAPTURE && t != 0 && types.contains t)
  let job := s.on JRN_CAPTRIG.job && bit (s.rd V.capRaised) 3
  ofBool trip + 2 * ofBool cell + 4 * ofBool byType + 8 * ofBool job + 16 * ofBool (reg && s.on JRN_CAPTRIG.reg)

/-- The record type that triggered, or 0. -/
def State.capType (s : State) : Nat :=
  let types := (List.range 4).map (fun i => bits (s.rd JRN_CAPTYPE.types) (8 * i) 8)
  (s.firn.tickTypes.find? (fun t => t != Ty.CAPTURE && t != 0 && types.contains t)).getD 0

/-- Capture behaves as ARMED only while an accelerator rail is up (R74); JRN_CAPCTL.state goes on reading ARMED (DESIGN CHOICE, log 197). -/
def State.capState (s : State) : Nat :=
  if s.rd JRN_CAPCTL.state = CapS.armed && !s.accRailUp then CapS.disarmed else s.rd JRN_CAPCTL.state

/-- The CAPTURE record of the control tick that ends, with every source that triggered in it (R65, R74); a nested trigger has none. -/
def captureRec (s : State) : List Upd :=
  let srcs := s.rd V.capSrcs
  onlyIf (srcs != 0 && s.rd V.capWas != CapS.post)
    [.emit { typ := Ty.CAPTURE, src := 0, stamp := some (s.rd V.capAt), variableMark := bit srcs 1 && s.on V.capMark,
             pay := [(24, 1, srcs), (25, 1, s.rd V.capWas), (26, 1, if bit srcs 2 then s.rd V.capTyp else 0), (28, 4, s.rd V.capFrame), (32, 8, s.rd V.capAt),
               (40, 8, if bit srcs 3 then s.rd V.capJobTime else 0), (48, 2, if bit srcs 1 then s.rd V.capCell else 0xFFFF)] }] ++
  [.set V.capSrcs 0, .set V.capTyp 0, .set V.capFrame 0xFFFF_FFFF, .set V.capMark 0]

/-- The frame of the present tick becomes the trigger frame (R74). -/
def markTrigger (frame at' : Nat) : List Upd :=
  [.set JRN_CAPCTL.state CapS.post, .set JRN_CAPPOS.pos frame, .set JRN_CAPTRIGT.stamp at', .set V.capFlags 1, .set V.capPost 0, .set V.capFrame frame]

/-- What a trigger does in the state capture is in (R74). Of several triggers in one control tick the first acts, and the others join its
record; while FROZEN they count as one (DESIGN CHOICE, log 197). -/
def triggerFx (srcs : Nat) (s : State) : List Upd :=
  [.set V.capSrcs (s.rd V.capSrcs ||| srcs)] ++ onlyIf (bit srcs 2 && s.rd V.capTyp == 0) [.set V.capTyp s.capType] ++
  onlyIf (s.rd V.capTrigTick != s.tick + 1)
    ([.set V.capTrigTick (s.tick + 1), .set V.capWas s.capState, .set V.capAt s.now] ++
     (if s.capState = CapS.armed then markTrigger (s.rd V.capNext) s.now
      else if s.capState = CapS.post then [.set V.capFlags (s.rd V.capFlags ||| 4)]
      else if s.capState = CapS.frozen then [bump s JRN_CAPMISS.count] else []))

/-- CAPTURE_TRIGGER (R74). `reg` is a write of JRN_CAPCTL.trigger by `req`. -/
def execCaptureTrigger (reg : Bool) (req : Nat) (s : State) : Result :=
  let t := if s.capSources reg = 0 then s else s.does (triggerFx (s.capSources reg))
  if reg then s.gated req 0x18_0200 4 2 false t else .next t

/-- A write of JRN_CAPCTL.arm (R74): a trigger of the same tick counts. The ring was powered down while DISARMED: its frames from before
arming keep valid at 0 and, beyond what R74 says, read as zeros (DESIGN CHOICE, log 170). -/
def armFx (s : State) : List Upd :=
  [.wipe 0xC100_0000 0xE000_0000, .set JRN_CAPFRAMES.frames s.ringFrames, .set V.capValid 0, .set V.capNext 0, .set V.capPost 0, .set V.capFlags 0,
   .set JRN_CAPCTL.state CapS.armed] ++
  onlyIf (s.accRailUp && s.rd V.capTrigTick == s.tick + 1) (.set V.capWas CapS.armed :: markTrigger 0 (s.rd V.capAt))

/-- CAPTURE_ARM (R73, R74). -/
def execCaptureArm (req : Nat) (s : State) : Result :=
  s.gated req 0x18_0200 4 1 false (if s.rd JRN_CAPCTL.state = CapS.disarmed then s.does armFx else s)

/-- CAPTURE_FREEZE (R74): the ring has taken the trigger frame and capacity − 1 − JRN_CAPPRE frames after it. -/
def execCaptureFreeze (s : State) : Result :=
  whenever (s.rd JRN_CAPCTL.state == CapS.post && !bit (s.rd V.capFlags) 0 && decide (s.rd JRN_CAPFRAMES.frames ≤ s.rd V.capPost + 1 + s.rd JRN_CAPPRE.pre))
    s (s.run [.set JRN_CAPCTL.state CapS.frozen])

/-- CAPTURE_RELEASE (R74). -/
def execCaptureRelease (req : Nat) (s : State) : Result :=
  s.gated req 0x18_0200 4 4 false (if s.rd JRN_CAPCTL.state = CapS.frozen then s.run [.set JRN_CAPCTL.state CapS.disarmed] else s)

end Sys2Proof.Machine
end

