-- ==== Sys2Proof/Machine/ExecMemory.lean ====
section
/-! DEFINITION. The commands of memory, drains, DMA and BAR2 (R36, R68, R452, R462, R464, R495-R511). -/

namespace Sys2Proof.Machine

/-- RECORD_MOVE (R68, R69): while JRN_CTL.enable is set and LPDDR5X is ready; a record with an uncorrectable word is dropped (R496). -/
def execRecordMove (s : State) : Result :=
  whenever (s.on JRN_CTL.enable && s.rd MEM_STAT.lp_state == 3) s
    (match s.firn.area with
     | [] => s
     | w :: rest =>
       let a := 0xC000_0000 + 64 * (w.seq % 262144)
       if (wordsIn s.ue a 64).isEmpty then moveRecord s
       else
         let t := checkRead a 64 s
         let f := { t.firn with area := rest }
         t.run [.firn (if (wordsIn s.ue (a + 16) 8).isEmpty then f.lose w.cls 3 w.seq 1 else f)])

/-- DRAIN (R70, R462): class c's drain is due; the engine keeps running through a management reset, and not in D3hot. -/
def execDrain (c : Nat) (fail : Bool) (s : State) : Result :=
  whenever (decide (c < 3) && s.drainDue c && s.rd HIF_STAT.dstate == 0 && s.on HIF_STAT.bme && !s.on CRP_PFSTAT.warn) s (drainClass c fail s)

/-- DMA_START (R464): a write of HIF_DMACTL of engine e; engines 0 to 2 and a busy one ignore it (R588). -/
def execDmaStart (req e value : Nat) (s : State) : Result :=
  let a := 0xF0_4014 + 0x40 * e
  if 16 ≤ e then .next s
  else s.gated req a 4 value false
    (if !isCore req || e < 3 then s.run [discardWrite req 8 4 value a]
     else if s.rd (HIF_DMASTAT.state e) = 1 then s.run [discardWrite req 7 4 value a]
     else dmaStart req e value s)

/-- DMA_DONE (R464, R447, R510): not in D3hot, where the engine halts, nor while its memory is being wiped or is not ready. -/
def execDmaDone (e err n : Nat) (s : State) : Result :=
  whenever (decide (3 ≤ e) && decide (e < 16) && s.rd (HIF_DMASTAT.state e) == 1 && (err == 0 || err == 2 || err == 3) && s.rd HIF_STAT.dstate == 0 && !s.on CRP_PFSTAT.warn && !s.memWaits (s.dmaDevice e)) s (dmaDone e err n s)

/-- A BAR2 read or write that reaches device memory (R452, R496). -/
def bar2Mapped (isWrite : Bool) (a n data : Nat) (s : State) : State :=
  if isWrite then s.run (storeLive a (leBytes n data) s ++ [.carry 12 true n] ++ lpTraffic true a n s)
  else
    let t := checkRead a n s
    t.run ([giveData Req.host (if s.readable a n then ofLe (s.physBytes a n) else 2 ^ (8 * n) - 1) t, .carry 12 false n] ++ lpTraffic false a n s)

/-- A discarded BAR2 access (R452). -/
def discardBar2 (reason : Nat) (isRead : Bool) (n data a : Nat) : Upd := .emit (discardedRec Req.host reason 2 isRead n data a)

/-- BAR2_ACCESS (R452): n bytes at an offset, waiting while its memory is wiped or not ready (R507, R510); in D3hot memory space is disabled (R449); a mailbox page is not the host's (R411). -/
def execBar2Access (isWrite : Bool) (ofs n data : Nat) (s : State) : Result :=
  let seg := ofs / 0x1000_0000
  let a := s.rd (HIF_B2SEG.base seg) * 0x1000_0000 + ofs % 0x1000_0000
  if 16 ≤ seg || s.spaceOff Req.host then .next s
  else if !s.on (HIF_B2SEG.valid seg) then
    .next (s.run (discardBar2 5 (!isWrite) n data ofs :: onlyIf (!isWrite) [giveData Req.host 0 s]))
  else if isWrite && !s.on (HIF_B2SEG.rw seg) then .next (s.run [discardBar2 8 false n data ofs])
  else if s.memWaits a then .next s
  else if s.unmapped a n then .next (s.run (discardBar2 5 (!isWrite) n data ofs :: onlyIf (!isWrite) [giveData Req.host 0 s]))
  else if !pagesOpen Req.host a n then .next (s.run (discardBar2 8 (!isWrite) n data ofs :: onlyIf (!isWrite) [giveData Req.host 0 s]))
  else .next (bar2Mapped isWrite a n data s)

/-- IDLE_CYCLE_SCRUB (R497): a pass over keeper SRAM or management SRAM ends. -/
def execIdleCycleScrub (r : Nat) (s : State) : Result := whenever ((r == 0 || r == 4) && !bit (s.rd MEM_STAT.wipe) r) s (scrubPass r s)

/-- LPDDR5X_PATROL_SCRUB (R505): the scrubber reads n bytes on. -/
def execLpddr5xPatrolScrub (n : Nat) (s : State) : Result := whenever (s.on MEM_LPCFG.scrub_en && s.rd MEM_STAT.lp_state == 3) s (lpPatrol n s)

/-- ROW_REPAIR (R498, R499): the oldest repair that is due starts. -/
def execRowRepair (s : State) : Result :=
  match s.memu.due with
  | [] => .next s
  | row :: _ => .next (s.does (repairStart row))

/-- REPAIR_DONE (R499). -/
def execRepairDone (row : Nat) (s : State) : Result := whenever (s.copyDone row) s (s.does (repairEnd 1 row))

/-- LP_TRAIN_DONE (R502, R507). -/
def execLpTrainDone (res : List (Nat × Nat × Nat × Nat)) (s : State) : Result :=
  whenever (decide (s.rd MEM_STAT.lp_state ≤ 1) && !s.on (V.planeHeld 2) && !s.on CRP_PFSTAT.warn) s (s.does (trainingEnd (res.map (fun r => ⟨r.1, r.2.1, r.2.2.1, r.2.2.2⟩))))

/-- LP_INIT_DONE (R507). -/
def execLpInitDone (s : State) : Result := whenever (s.rd MEM_STAT.lp_state == 2) s (s.does lpReady)

/-- WCK_TRACKING (R502): every 100 ms, and when MR4 reports a change. -/
def execWckTracking (s : State) : Result :=
  whenever (s.rd MEM_STAT.lp_state == 3 && (s.on V.wckDue || decide (s.rd V.wckAt + 400000000 ≤ s.now + 1))) s (s.run [.set V.wckAt (s.now + 1), .set V.wckDue 0])

/-- MR4_POLL (R501): codes read from each channel. -/
def execMr4Poll (vals : List Nat) (s : State) : Result := whenever (s.rd MEM_STAT.lp_state == 3) s (s.does (mr4Poll vals))

/-- CHANNEL_FAIL (R506). -/
def execChannelFail (c : Nat) (s : State) : Result :=
  whenever (s.rd MEM_STAT.lp_state == 3 && s.goodChannels.contains c && s.rd (MEM_LPCH.state c) == 2 && decide (s.rd MEM_LPCFG.fail_ue ≤ s.lpUeCount c)) s (s.does (channelFails c))

/-- WIPE_DONE (R508-R511): region r reads back; `rows` read with an error. A power-fail warning stops it. -/
def execWipeDone (r : Nat) (rows : List Nat) (s : State) : Result :=
  whenever (decide (r < 5) && bit (s.rd MEM_STAT.wipe) r && !s.on CRP_PFSTAT.warn) s (wipeEnd r rows s)

end Sys2Proof.Machine
end

