-- ==== Sys2Proof/Machine/ExecPhase.lean ====
section
/-! DEFINITION. The phase tiles' commands: SWITCHING_PERIOD to BRAKE_CLEAR (R84-R118). -/

namespace Sys2Proof.Machine

/-- The rails whose loop a tile runs (R79, R81). -/
def tileRails (k : Nat) : List Nat := if k % 2 = 0 then [2 * k, 2 * k + 1, 8 + 2 * k, 9 + 2 * k, 16 + k / 2] else [2 * k, 2 * k + 1, 8 + 2 * k, 9 + 2 * k]

/-! The peak-current channel (R84-R87), with times in ns from the PWM rising edge and currents in 1/64 A. -/

/-- The sensed current of a pulse at a time; the last reading given stands from then on. -/
def senseAt (w : List Int) (t : Nat) : Int := w.getD t (w.getLastD 0)

/-- Blanking time, and the least on-time (R84). -/
def State.blankNs (s : State) (c : Nat) : Nat := 20 + 4 * s.rd (PHT_CHCOMP.blank (c / 80) (c % 80))
def State.minOn (s : State) (c : Nat) : Nat := max 25 (s.blankNs c)

/-- The sensed current has reached I_cmd − I_slope(t) (R85, R86), both sides in 1/1,024,000 A times the inductance in 0.1 nH. Without an
inductance the ramp has no stated value: it is a FREE VALUE in 1/64 A (log 180). -/
def State.slopeMet (s : State) (c : Nat) (w : List Int) (t : Nat) : Bool :=
  let l := s.rd (PHT_CHL.l (c / 80) (c % 80))
  let cmd := s.rd (PHT_CHSTAT.cmd (c / 80) (c % 80))
  let k := s.rd (PHT_CHCOMP.slope_k (c / 80) (c % 80))
  if k = 0 then decide (((100 * cmd : Nat) : Int) ≤ 16 * senseAt w t)
  else if l = 0 then decide (((100 * cmd : Nat) : Int) ≤ 16 * senseAt w t + (16 * s.free : Nat))
  else decide (((100000 * cmd * l : Nat) : Int) ≤ 16000 * l * senseAt w t + (16 * k * t : Nat) * s.vOut (s.railOf c))

/-- The sensed current is above oc_trip (R87). -/
def State.overOc (s : State) (c : Nat) (w : List Int) (t : Nat) : Bool :=
  decide ((100 * s.rd (PHT_RAILLIM.oc_trip (railTile (s.railOf c)) (railLocal (s.railOf c))) : Nat) < 16 * senseAt w t)

/-- The time after blanking at which the comparator ends an on-time, if it does so within half of a period of P ps. -/
def State.tripTime? (s : State) (c P : Nat) (w : List Int) : Option Nat :=
  (List.range (P / 2000 + 1)).find? (fun t => decide (s.blankNs c ≤ t) && (s.slopeMet c w t || s.overOc c w t))

/-- The on-time in a period of P ps. -/
def State.onTime (s : State) (c P : Nat) (w : List Int) : Nat := min (P / 2000) (max (s.minOn c) ((s.tripTime? c P w).getD (P / 2000)))

/-- The cycle monitor's look at an on-time of t ns (R103): the rise from the end of blanking, and what V_in, V_out and the inductance let expect;
only on-times above 40 ns are monitored. -/
def monitorPulse (c t : Nat) (w : List Int) (s : State) : List Upd :=
  let l := s.rd (PHT_CHL.l (c / 80) (c % 80))
  let rise := senseAt w t - senseAt w (s.blankNs c)
  let drive : Int := 64 * ((s.rd (Sig.phVin (c / 80)) : Int) - s.vOut (s.railOf c)) * t
  let want := if l = 0 then (s.free : Int) else divOpenI drive (1000 * l)
  let low := if l = 0 then decide (4 * rise < want) else decide (4000 * l * rise < drive)
  onlyIf (decide (40 < t))
    [setISat (V.monRise c) rise, setISat (V.monExp c) want, .set (V.monLow c) (if low then min 2 (s.rd (V.monLow c) + 1) else 0)]

/-- A channel's pulse in a period of P ps (R84, R87, R111): none for a code of 0, outside the active set, while the rail drives PWM low (R115), while the
channel rests after a survey pulse (R117), or less
than 30 ns after the last pulse, which is cut short if it still runs then. In SOFTSTART the channel is tri-stated once its current reaches zero. -/
def pulse (P : Nat) (x : Nat × List Int) (s : State) : List Upd :=
  let c := x.1
  let w := x.2
  let start := s.rd (PHT_CHCFG.offset (c / 80) (c % 80)) * P / 1024
  let prev := s.rdI (V.pulseEnd c) - P
  let ended : Int := if 0 < prev && (start : Int) < prev + 30000 then max 0 ((start : Int) - 30000) else prev
  if s.rd (chState c) ≠ ChS.active || s.rd (chCmd c) = 0 || s.on (V.ovClamp (s.railOf c)) || decide (s.now + 1 < s.rd (V.restTo c)) || (start : Int) < ended + 30000 then
    [.set (V.pulseOn c) 0, setISat (V.pulseEnd c) ended, .set (V.zeroAt c) 0]
  else
    let t := s.onTime c P w
    let zero := if s.rd (rState (s.railOf c)) = RailS.softstart then (List.range w.length).find? (fun i => decide (t ≤ i) && decide (senseAt w i ≤ 0)) else none
    [.set (V.pulseOn c) t, setISat (V.pulseEnd c) (start + 1000 * t : Nat), .set (V.zeroAt c) ((zero.map (· + 1)).getD 0)] ++
    onlyIf (match s.tripTime? c P w with | some u => s.overOc c w u | none => false) [bump s (PHT_CHOC.count (c / 80) (c % 80))] ++
    monitorPulse c t w s ++ onlyIf (s.rd (PHT_CHL.l (c / 80) (c % 80)) == 0) [freeUsed s]

/-! Survey pulses (R111, R117). -/

/-- Channel c of a ramping rail may be given its next pulse: not yet surveyed, no other channel of the rail between its pulses, 5 µs after the end of the
rail's last pulse, from zero current, and parked once the ramp is over. -/
def State.pulseFree (s : State) (c t : Nat) : Bool :=
  let r := s.railOf c
  decide (c < 320) && (s.railChannels r Role.working ++ s.railChannels r Role.bench).contains c && s.rd (rState r) == RailS.softstart && s.on (V.rampOn r) &&
    !s.on (V.surveyed c) && (s.rd (V.pulseCh r) == 0 || s.rd (V.pulseCh r) == c + 1) && (s.rd (V.pulseAt r) == 0 || decide (s.rd (V.pulseAt r) + 20000 ≤ t + 1)) &&
    (s.rd (chState c) == ChS.parked || s.rd (V.pulseOn c) == 0 || s.rd (V.zeroAt c) != 0) &&
    (s.rd (V.rampDone r) == 0 || s.rd (chState c) == ChS.parked)

/-- A survey pulse of a channel at tray time t reaches a peak: 100, 200, 400 and 800 ns in turn, up to the first that reaches 10 A. A channel that none of
them brings there is not measured (DEDUCED, log 181). -/
def surveyPulse (t : Nat) (x : Nat × Nat) (s : State) : State :=
  let c := x.1
  let r := s.railOf c
  let n := s.rd (V.pulseN c)
  let ends := t + 400 * 2 ^ n + 1
  let fired (ch k : Nat) : List Upd := [.set (V.pulseCh r) ch, .set (V.pulseN c) k, .set (V.pulseAt r) ends, .set (V.restTo c) (ends + 20000), .set (V.pulseOn c) 0]
  if !s.pulseFree c t then s
  else if 640 ≤ x.2 then surveyRespond c (s.run (surveyChannel c (100 * 2 ^ n) x.2 s ++ fired 0 0))
  else if n = 3 then s.run ([.emit (s.surveyMissing (chSrc c) 3 (c / 80 * 128 + c % 80)), .set (V.surveyed c) 1] ++ fired 0 0)
  else s.run (fired (c + 1) (n + 1))

/-! The switching clock (R88, R89), periods in ps and tray time in ticks of 250 ps. -/

/-- The period that PHT_SYNCCFG.fsw, in kHz, asks for. -/
def State.nominal (s : State) (k : Nat) : Nat := 1000000000 / s.rd (PHT_SYNCCFG.fsw k)

/-- A period of SYNC_IN lies within ±5 % of fsw. -/
def State.periodGood (s : State) (k period : Nat) : Bool := decide (95 * s.nominal k ≤ 100 * period) && decide (100 * period ≤ 105 * s.nominal k)

/-- The tiles whose period boundary this is: one that follows SYNC_IN is alone, all that follow the time base coincide. -/
def State.tilesAt (s : State) (k : Nat) : List Nat :=
  if s.on (PHT_SYNCCFG.src k) then [k] else (List.range 4).filter (fun i => !s.on (PHT_SYNCCFG.src i) && s.rd (PHT_SYNCCFG.fsw i) == s.rd (PHT_SYNCCFG.fsw k))

/-- A period boundary of tile k is due at tray time t, in the present control tick: the first tick at or after a multiple of the period of the time base; a
locked edge of SYNC_IN after a good period; or, in holdover, the last good period after the boundary before. -/
def State.boundaryDue (s : State) (k t period : Nat) : Bool :=
  let f := s.rd (PHT_SYNCCFG.fsw k)
  decide (k < 4) && decide (s.boundary ≤ t) && decide (t < s.boundary + 4000) && decide (s.rd (V.perAt k) ≤ t) && f != 0 &&
    (if !s.on (PHT_SYNCCFG.src k) then t == ceilDiv (t * f / 4000000 * 4000000) f
     else if s.on (PHT_SYNCSTAT.holdover k) then
       s.rd (V.perAt k) == 0 || decide (((250 * (t + 1 - s.rd (V.perAt k)) : Nat) - (s.rd (V.holdPeriod k) : Int)).natAbs < 250)
     else s.periodGood k period)

/-- The period a tile runs at from a boundary. -/
def State.periodPs (s : State) (k period : Nat) : Nat :=
  if !s.on (PHT_SYNCCFG.src k) then s.nominal k else if s.on (PHT_SYNCSTAT.holdover k) then s.rd (V.holdPeriod k) else period

/-- What a period boundary shows of SYNC_IN: the lock, its period, the stamp of its edge (R92; DEDUCED, log 203), and the phase still to close, at most
1/1,024 of a period at a time. -/
def clockTick (k t period : Nat) (s : State) : List Upd :=
  let p := s.rdI (V.syncPhase k)
  let step : Int := ((s.periodPs k period / 1024 : Nat) : Int)
  [.set (V.perAt k) (t + 1)] ++
  onlyIf (s.on (PHT_SYNCCFG.src k) && !s.on (PHT_SYNCSTAT.holdover k))
    [.set (PHT_SYNCSTAT.lock k) 1, .set (PHT_SYNCSTAT.period k) period, .set (Sig.syncStamp k) t, setI (V.syncPhase k) (p - clampInt (-step) step p)]

/-- SWITCHING_PERIOD (R84-R91, R100-R102, R109, R117): a period boundary of a tile and what is seen of its pulses. A
channel that `waves` does not name has no pulse seen (DESIGN CHOICE, log 180). -/
def execSwitchingPeriod (e : PeriodEdge) (p : PeriodSeen) (s : State) : Result :=
  whenever (s.boundaryDue e.k e.t e.period) s
    (let ts := s.tilesAt e.k
     let u := (s.run [.clock e.t]).doEach ts (fun i => clockTick i e.t e.period)
     let v := (ts.flatMap tileRails).foldl (fun w r => periodBoundary r w) u
     let w := (p.survey.filter (fun x => ts.contains (x.1 / 80))).foldl (fun x y => surveyPulse e.t y x) v
     w.doEach (p.waves.filter (fun x => ts.contains (x.1 / 80))) (pulse (s.periodPs e.k e.period)))

/-- VOLTAGE_LOOP_UPDATE (R93, R95, R97-R100, R112, R115): the next VSEN sample of rail r, v in 0.1 mV, and the other
samples since the last. Sixteen samples make a tick. -/
def execVoltageLoopUpdate (r : Nat) (v : Int) (x : LoopSamples) (s : State) : Result :=
  whenever (decide (r < 18) && decide (s.rd (V.vcnt r) < 16)) s
    ((((s.run [.clock (s.boundary + 250 * s.rd (V.vcnt r))]).doEach x.imon imonSample).doEach (x.pairs.filter (fun y => decide (y.1 < 24)))
      (fun y => pairSample (y.1 / 6) (y.1 % 6) y.2)).does (loopSample r v))

/-- SYNC_HOLDOVER (R89): tile k sees no rising edge for two periods (period 0), or a period in ps outside ±5 % of fsw; it goes on at the last good
period, which SYNC_EVENT and PHT_SYNCSTAT.period then show (R121; DESIGN CHOICE, log 198). -/
def execSyncHoldover (k period : Nat) (s : State) : Result :=
  let last := s.rd (PHT_SYNCSTAT.period k)
  whenever (decide (k < 4) && s.on (PHT_SYNCCFG.src k) && s.on (PHT_SYNCSTAT.lock k) && (period == 0 || !s.periodGood k period)) s
    (s.run [.set (PHT_SYNCSTAT.holdover k) 1, .set (PHT_SYNCSTAT.lock k) 0, .set (V.syncGood k) 0, .set (V.holdPeriod k) last, .set (PHT_EVT.sync k) 1,
      note Ty.SYNC_EVENT (tileSrc k) [(24, 1, 1), (28, 4, last)]] |>.run (onlyIf (period != 0) [.set (Sig.syncStamp k) s.now]))

/-- SYNC_IN periods of `period` ps in holdover, `good` of them in a row (R89): at 1,000 the tile returns to SYNC_IN, with a phase difference to close; a bad
period ends the row. -/
def syncResume (k period good : Nat) (phase : Int) (s : State) : List Upd :=
  let n := s.rd (V.syncGood k) + good
  [.set (PHT_SYNCSTAT.period k) period, .set (Sig.syncStamp k) s.now] ++
  (if !s.periodGood k period then [.set (V.syncGood k) 0]
   else if 1000 ≤ n then
    [.set (PHT_SYNCSTAT.holdover k) 0, .set (PHT_SYNCSTAT.lock k) 1, .set (V.syncGood k) 0, setISat (V.syncPhase k) phase, .set (PHT_EVT.sync k) 1,
     note Ty.SYNC_EVENT (tileSrc k) [(24, 1, 2), (28, 4, period)]]
   else [.set (V.syncGood k) n])

/-- SYNC_RESUME (R89). -/
def execSyncResume (k period : Nat) (x : SyncBack) (s : State) : Result :=
  whenever (decide (k < 4) && s.on (PHT_SYNCCFG.src k) && s.on (PHT_SYNCSTAT.holdover k)) s (s.does (syncResume k period x.good x.phase))

/-- The pointers of every rail advance by one (R91). -/
def rotateAll (s : State) : State :=
  (List.range 18).foldl (fun t r =>
    let u := t.run [bump t (V.rotPtr r)]
    if t.rd (rNact r) < t.rd (rNwork r) && t.loopRuns r && (t.rd (rState r) != RailS.softstart || t.on (V.rampOn r)) then u.does (respread r) else u)
    (s.run [.set V.rotSecond (s.now / 4000000000)])

/-- ROTATION_ADVANCE (R91): the first period boundary after a whole second of tray time. -/
def execRotationAdvance (s : State) : Result := whenever (decide (s.rd V.rotSecond < s.now / 4000000000)) s (rotateAll s)

/-- The active pair of a rail is judged failed (R96, R125). -/
def pairFault (r : Nat) (s : State) : List Upd := match s.activePair? r with | some (a, p) => [.set (PHT_VSV.fault a p) 1] | none => []

/-- A failed sense path moves to the alternate pair, or trips the rail (R96, R115). A rail without a sequenced rail has no VMON: its difference is taken
from 0 (DESIGN CHOICE, log 198). -/
def senseSwitch (r : Nat) (s : State) : List Upd :=
  let k := railTile r
  let j := railLocal r
  match s.sensePair? r false, s.sensePair? r true, s.on (PHT_RSTAT.alt k j) with
  | some (a, p), some (_, q), false =>
    let vm := match s.seqRailOf? r with | some x => s.rd (SEQ_RSTAT.vmon x) | none => 0
    [.set (PHT_RSTAT.alt k j) 1, .set (PHT_VSV.fault a p) 1, .set (PHT_EVT.sense k) 1, .set (V.senseBad r) 0,
     note Ty.SENSE_SWITCH (railSrc r) [(24, 1, r), (25, 1, p), (26, 1, q), (28, 2, ofSigned 16 (satSigned 16 (s.vOut r - vm)))]]
  | _, _, _ => pairFault r s ++ (if s.rd (rState r) = RailS.regulating then tripRail r 5 (s.rd (V.senseBad r) - 1) s else [])

/-- SENSE_SWITCH (R96). -/
def execSenseSwitch (r : Nat) (s : State) : Result := whenever (decide (r < 18) && s.senseFailed r) s (s.does (senseSwitch r))

/-- FAST_ADD (R102): two clamped samples or the brake flag bring every working phase in at the next period boundary, wherever the rail's loop runs. -/
def execFastAdd (r : Nat) (s : State) : Result :=
  whenever (decide (r < 18) && s.loopRuns r &&
      (decide (2 ≤ s.rd (V.climitRun r)) || s.on (PHT_RSTAT.brake (railTile r) (railLocal r)))) s
    (s.run [.set (V.fastAdd r) 1, .set (V.noDrop r) (s.rd (PHT_ADDDROP.dwell (railTile r) (railLocal r))), .set (V.dropRun r) 0])

/-- A channel test of R103 fires: two monitored on-times in a row with too small a rise and IMON within or outside ±3 A of zero, or two IMON samples
in a row outside the window of R94. -/
def State.testFires (s : State) (c cause : Nat) : Bool :=
  let within3 := decide ((s.rdI (V.chNow c)).natAbs ≤ 192)
  let low := s.rd (V.monLow c) == 2 && s.rd (chState c) == ChS.active
  if cause = 1 then low && within3
  else if cause = 2 then low && !within3
  else if cause = 3 then (s.rd (chRole c) == Role.working || s.rd (chRole c) == Role.bench) && s.rd (V.imonOut c) == 2
  else false

/-- The quantities of a channel test are those that its monitor holds (R103, R121; log 1). -/
def State.testShows (s : State) (c imon rise expected : Nat) : Bool :=
  s.rd (V.imon c) == imon && s.rd (V.monRise c) % 65536 == rise && s.rd (V.monExp c) % 65536 == expected

/-- PHASE_FAULT (R103, R105, R106, R108): the test `cause` fires on channel c of R78 (tile * 80 + channel). -/
def execPhaseFault (c cause imon rise expected : Nat) (s : State) : Result :=
  whenever (decide (c < 320) && s.rd (chRole c) != Role.failed && decide (s.rd (chRail c) < 5) && s.testFires c cause &&
      s.testShows c imon rise expected) s
    (failChannel c cause imon rise expected s)

/-- A bench channel joins in the failed channel's place (R106); the ceiling of an empty bench follows N_work (R108). -/
def benchJoin (c : Nat) (s : State) : State :=
  let r := s.railOf c
  let f := s.rd (V.repFor c) - 1
  let n := s.rd (rNact r)
  let t := s.run ([.set (chRole c) Role.working, .set (V.place c) (s.rd (V.place f)),
    .set (V.joinAt c) (s.now + 1)] ++ rescale r n (n + 1) s ++ [.set (rNact r) (n + 1)])
  phaseCeiling r ((t.does (recount r)).does (respread r))

/-- BENCH_JOIN (R106): the zero of bench channel c of rail r is measured, in the window of R94, and the bootstrap pulse of 200 ns is over; it joins at a
period boundary. -/
def execBenchJoin (c r : Nat) (s : State) : Result :=
  whenever (decide (c < 320) && s.railOf c == r && s.rd (chState c) == ChS.waking && s.rd (V.repFor c) != 0 && !s.on (V.zeroing c) && s.rd (V.zeroDone c) != 0 &&
      decide (s.rd (V.zeroDone c) + 800 ≤ s.now + 1) && s.rd (V.perAt (railTile r)) == s.now + 1 && imonValid (s.rd (PHT_CHIMON.zero (c / 80) (c % 80)))) s
    (benchJoin c s)

/-- PHASE_SWAP (R106): the weight of the bench channel has risen to 1. -/
def execPhaseSwap (c : Nat) (s : State) : Result :=
  let r := s.railOf c
  let f := s.rd (V.repFor c) - 1
  whenever (decide (c < 320) && s.rd (V.repFor c) != 0 && s.rd (V.joinAt c) != 0 && decide (s.rd (V.joinAt c) + 24000 ≤ s.now + 1)) s
    (s.run [note Ty.PHASE_SWAP (chSrc f) [(24, 1, f % 80), (25, 1, c % 80), (26, 1, r), (27, 1, s.rd (rNbench r)), (32, 8, s.rd (V.joinAt c) - 1)],
      .set (PHT_EVT.swap (c / 80)) 1, .set (V.repFor c) 0, .set (V.joinAt c) 0])

/-- V_base has reached the set-point and V_sense lies within 2 % of V_t (R111), with every survey pulse done. -/
def State.railReady (s : State) (r : Nat) : Bool :=
  let vt := min (s.basePoint r) (s.rd (PHT_VLIM.vmax (railTile r) (railLocal r)))
  s.rd (rState r) == RailS.softstart && s.on (V.rampOn r) && s.rd (V.vbase r) == 16 * s.basePoint r &&
    decide (50 * ((s.rd (V.vsense r) : Int) - vt).natAbs ≤ vt) && !s.on (V.surveyHold r) &&
    (s.railChannels r Role.working ++ s.railChannels r Role.bench).all (fun c => s.on (V.surveyed c))

/-- A rail becomes REGULATING (R111, R118). A bench channel that is being brought in goes on (R106). The tick in which the ramp ends adds its term to the
charge only where it ends before this (DESIGN CHOICE, log 201). -/
def railGood (r : Nat) (s : State) : List Upd :=
  let k := railTile r
  let j := railLocal r
  let cap := min 0xFFFF_FFFF (s.capacitance r)
  railTo r RailS.regulating s ++
  ((s.railChannels r Role.bench).filter (fun c => s.rd (V.repFor c) == 0)).flatMap (fun c => [.set (chState c) ChS.standby, .set (chCmd c) 0, .set (V.enAt c) 0]) ++
  (if s.on (V.rampHeld r) then
    [.set (PHT_RCAP.c k j) cap, .emit (s.surveyRec (railSrc r) 4 r cap)] ++ onlyIf (s.surveyResponse 4 r cap == 2) [.set (V.surveyHold r) 1]
   else
    [.set (PHT_RCAP.c k j) 0xFFFF_FFFF, .emit (s.surveyMissing (railSrc r) 4 r)]) ++
  [.set (V.tileGood r) (if s.on (V.rampHeld r) && s.surveyResponse 4 r cap == 2 then 0 else 1), .set (V.foldSince r) 0, .set (V.senseBad r) 0]

/-- TILE_RAIL_GOOD (R111, R118). -/
def execTileRailGood (r : Nat) (s : State) : Result := whenever (decide (r < 18) && s.railReady r) s (s.does (railGood r))

/-- The cause of a soft-start trip (R113), 0 for none. -/
def State.softTrip (s : State) (r : Nat) : Nat :=
  let k := railTile r
  let j := railLocal r
  if s.rd (rState r) ≠ RailS.softstart then 0
  else if s.rd (V.foldSince r) ≠ 0 && s.rd (V.foldSince r) + s.rd (PHT_FOLD.ftime k j) * 40000 ≤ s.now + 1 then 1
  else if s.rd (V.ssSince r) ≠ 0 && s.rd (V.ssSince r) + s.rd (PHT_SS.timeout k j) * 40000 ≤ s.now + 1 then 2 else 0

/-- SOFTSTART_TRIP (R113). -/
def execSoftstartTrip (r : Nat) (s : State) : Result :=
  whenever (decide (r < 18) && s.softTrip r != 0) s
    (s.does (tripRail r (s.softTrip r) ((if s.softTrip r = 1 then s.rd (V.foldSince r) else s.rd (V.ssSince r)) - 1)))

/-- RAIL_TRIP (R115). -/
def execRailTrip (r : Nat) (s : State) : Result :=
  whenever (decide (r < 18) && (s.tripCause r).1 != 0) s (s.run (onlyIf ((s.tripCause r).1 == 5) (pairFault r s) ++ tripRail r (s.tripCause r).1 (s.tripCause r).2 s))

/-- The sequencer's off-timeout, as latched at the common start (R302), has passed for the rail behind a regulated rail (R114, R305). -/
def State.offTimedOut (s : State) (r : Nat) : Bool :=
  match s.seqRailOf? r with
  | some q => s.rd (V.seqOffAt q) != 0 && decide (s.rd (V.seqOffAt q) + s.rd (V.latOffTo q) * 400000 ≤ s.now + 1)
  | none => false

/-- DISCHARGE_END (R114): V_sense below 50 mV, or the off-timeout. -/
def execDischargeEnd (r : Nat) (s : State) : Result :=
  whenever (decide (r < 18) && s.rd (rState r) == RailS.discharge && (decide (s.rd (V.vsense r) < 500) || s.offTimedOut r)) s
    (s.does (dischargeEnd r))

/-- The rail's comparator is armed: brake_en, REGULATING, and not a tray rail (R116). -/
def State.brakeArmed (s : State) (r : Nat) : Bool :=
  decide (r < 16) && s.on (PHT_RAILCFG.brake_en (railTile r) (railLocal r)) && s.rd (rState r) == RailS.regulating

end Sys2Proof.Machine
end

