-- ==== Sys2Proof/Machine/ExecCounters.lean ====
section
/-! DEFINITION. The commands of PMC (R518-R523). -/

namespace Sys2Proof.Machine

/-- PMC_START (R518): the first boundary at or after PMC_START. -/
def execPmcStart (s : State) : Result := whenever (s.on V.pmcOff && s.pmcRuns) s ((pmcFlush s).run [.set V.pmcOff 0])

/-- PMC_STOP (R518): the first boundary at or after PMC_STOP; also a PMC_START that was moved ahead. -/
def execPmcStop (s : State) : Result := whenever (!s.on V.pmcOff && !s.pmcRuns) s ((pmcFlush s).run [.set V.pmcOff 1])

/-- COUNTER_WRAP (R519, R521): n events in one clock take counter i past 2^48 - 1; `pc` is that of the instruction that retired
on its core in that cycle. -/
def execCounterWrap (i n pc : Nat) (s : State) : Result :=
  let t := pmcFlush s
  whenever (decide (i < 64) && t.counting i && decide (2 ^ 48 ≤ t.rd (PMC_CNT.count i) + n)) s (t.does (counterAdd i n pc))

/-- PMC_CNT_WRITE (R519): the value written plus the n events of that clock. -/
def execPmcCntWrite (req i value n : Nat) (s : State) : Result :=
  if i < 64 then
    s.gated req (0x120_0200 + 8 * i) 8 value false
      (let t := (pmcFlush s).run [.set (PMC_CNT.count i) value]
       t.run (onlyIf (t.counting i) (counterAdd i n (t.free % 2 ^ 64) t ++ [freeUsed t])))
  else .next s

/-- SNAP (R520): a write of PMC_CTL. -/
def execSnap (req value : Nat) (s : State) : Result := s.gated req 0x120_0000 4 value false (s.run (onlyIf (bit value 0) [.set V.snapOwed 1]))

/-- BW_WINDOW_END (R523). -/
def execBwWindowEnd (s : State) : Result := whenever (decide (s.rd V.bwFrom + s.rd PMC_BWWIN.us * 4000 ≤ s.now)) s (s.does bwEnd)

/-- BWWIN_WRITE (R523): the windows restart at the next multiple of the new length; a length outside 1 to 1,000,000 is discarded. -/
def execBwwinWrite (req value : Nat) (s : State) : Result :=
  s.gated req 0x120_0038 4 value false
    (let len := value % 2 ^ 20
     if len = 0 || 1000000 < len then s.run [discardWrite req 9 4 value 0x120_0038]
     else s.run [.set PMC_BWWIN.us len, .set V.bwFrom ((s.now / (len * 4000) + 1) * (len * 4000)), .pmu { s.pmu with bw := [] }])

end Sys2Proof.Machine
end

