-- ==== Sys2Proof/Machine/Seq.lean ====
section
/-! DEFINITION. Rail sequencing and supervision (chapter 9): groups, power-up and power-down, qualification, faults and their
policies, FAULT_N, margins and the shutdown of R316. Tray times in `V` are held plus 1. -/

namespace Sys2Proof.Machine

/-- Group states (R320) and rail states (R321). -/
def GrpS.off : Nat := 0
def GrpS.wait : Nat := 1
def GrpS.rampUp : Nat := 2
def GrpS.up : Nat := 3
def GrpS.rampDown : Nat := 4
def GrpS.fault : Nat := 5
def SeqS.off : Nat := 0
def SeqS.qualify : Nat := 1
def SeqS.good : Nat := 2
def SeqS.retry : Nat := 3
def SeqS.falling : Nat := 4
def SeqS.discharge : Nat := 5
def SeqS.fault : Nat := 6
def SeqS.bad : Nat := 7

/-- The group of a rail. -/
def State.groupOf (s : State) (r : Nat) : Nat := s.rd (SEQ_RAILMODE.group r)

/-- A group's state. -/
def State.grp (s : State) (g : Nat) : Nat := s.rd (SEQ_GSTAT.state g)

/-- A rail regulated by a phase tile, and its regulated rail (R298). -/
def State.regOf? (s : State) (r : Nat) : Option Nat :=
  if bit (s.rd (SEQ_RAILMODE.flags r)) 1 && decide (s.rd (SEQ_RAILMODE.reg_rail r) < 18) then some (s.rd (SEQ_RAILMODE.reg_rail r)) else none

/-- The feed-tile channel a rail is bound to (R298, R325). -/
def State.feedOf? (s : State) (r : Nat) : Option Nat := (List.range 16).find? (fun c => s.rd (FED_CHCFG.bind c) == 2 && s.rd (FED_CHCFG.seq_rail c) == r)

/-- RAIL_PG[r] is read: no tile regulates the rail and no channel switches it (R299, R325). -/
def State.readsPg (s : State) (r : Nat) : Bool := (s.regOf? r).isNone && (s.feedOf? r).isNone

/-- A rail's latched fault. -/
def State.latched (s : State) (r : Nat) : Bool := bit (s.rd (SEQ_FAULTMAP.latch (r / 32))) (r % 32)

/-- A latched fault in a group. -/
def State.groupLatched (s : State) (g : Nat) : Bool := (s.groupRails g).any s.latched

/-- The policy a rail acts with (R307). -/
def State.railPolicy (s : State) (r : Nat) : Nat :=
  if (s.regOf? r).isSome then max 2 (s.rd (SEQ_RAILMODE.policy r)) else s.rd (SEQ_RAILMODE.policy r)

/-- Groups that name `g` in req, and those that `g` names (R297). -/
def State.dependants (s : State) (g : Nat) : List Nat := (List.range 16).filter (fun h => bit (s.rd (SEQ_GCFG.req h)) g)
def State.requires (s : State) (g : Nat) : List Nat := bitsOf 16 (s.rd (SEQ_GCFG.req g))

/-- A group with no enabled rail and no sequence: OFF, WAIT or FAULT (R304). -/
def State.resting (s : State) (g : Nat) : Bool := s.grp g == GrpS.off || s.grp g == GrpS.wait || s.grp g == GrpS.fault

/-- A threshold in pin millivolts as margined while the group is UP (R315). -/
def State.threshold (s : State) (r v : Nat) : Nat :=
  if s.grp (s.groupOf r) ≠ GrpS.up then v
  else if s.rd (SEQ_MARGIN.mode r) = 1 then v * (1000 + s.rd (SEQ_MARGIN.pct r)) / 1000
  else if s.rd (SEQ_MARGIN.mode r) = 2 then v * (1000 - s.rd (SEQ_MARGIN.pct r)) / 1000
  else v

/-- The VMON tests of R301, R304 and R306; a threshold of 0 disables its test (R300). -/
def State.vmonOver (s : State) (r : Nat) : Bool :=
  s.rd (SEQ_RAILVO.vmon_ov r) != 0 && decide (10 * s.threshold r (s.rd (SEQ_RAILVO.vmon_ov r)) < s.rd (SEQ_RSTAT.vmon r))
def State.vmonUnder (s : State) (r : Nat) : Bool :=
  s.rd (SEQ_RAILVG.vmon_fall r) != 0 && decide (s.rd (SEQ_RSTAT.vmon r) < 10 * s.threshold r (s.rd (SEQ_RAILVG.vmon_fall r)))
def State.vmonGood (s : State) (r : Nat) : Bool :=
  s.rd (SEQ_RAILVG.vmon_good r) == 0 || decide (10 * s.threshold r (s.rd (SEQ_RAILVG.vmon_good r)) ≤ s.rd (SEQ_RSTAT.vmon r))

/-- The four conditions of R301. -/
def State.qualifies (s : State) (r : Nat) : Bool :=
  s.on (SEQ_RSTAT.en r) && s.on (SEQ_RSTAT.pg r) && s.vmonGood r && !s.vmonOver r

/-- A rail has fallen (R304). -/
def State.hasFallen (s : State) (r : Nat) : Bool :=
  if s.rd (SEQ_RAILVG.vmon_fall r) = 0 then !s.on (SEQ_RSTAT.pg r) else s.vmonUnder r

/-- A sample that a decision on the rail takes was uncertain (R299). -/
def State.railUncertain (s : State) (r : Nat) : Bool := s.readsPg r && (s.on (Sig.uncertain 3 r) || s.on (V.pgDoubt r))

/-- A group's step rests on such a sample: of its rails where they decide it, of FAULT_N where that does (R299). -/
def State.groupUncertain (s : State) (g st cause : Nat) : Bool :=
  (cause == 4 && (s.on (Sig.uncertain 16 0) || s.on V.fnDoubt)) ||
    ((st == GrpS.up || st == GrpS.fault || cause == 1 || (st == GrpS.off && s.grp g == GrpS.rampDown)) && (s.groupRails g).any s.railUncertain)

/-- A record of the sequencer about a rail. -/
def railNote (typ r : Nat) (pay : List (Nat × Nat × Nat)) (s : State) : Upd :=
  .emit { typ := typ, src := srcOf 0x8 r, pay := pay, variableMark := s.railUncertain r }

/-- A group enters a state (R319): recorded with its cause and clock; margins end outside UP (R315), and OFF ends the attempt
count of its rails (R307). -/
def groupTo (g st cause : Nat) (s : State) : List Upd :=
  onlyIf (s.grp g != st)
    ([.emit { typ := Ty.SEQ_GROUP, src := srcOf 0x8 (s.groupInst g), variableMark := s.groupUncertain g st cause,
              pay := [(24, 1, g), (25, 1, s.grp g), (26, 1, st), (27, 1, cause), (28, 4, s.rd (SEQ_GSTAT.clock g))] },
      .set (SEQ_GSTAT.state g) st, .set SEQ_EVT.group 1,
      .set SEQ_STAT.up (if st = GrpS.up then setBit (s.rd SEQ_STAT.up) g else clearBit (s.rd SEQ_STAT.up) g)] ++
     (if s.grp g ≠ GrpS.up then [] else (s.groupRails g).map (fun r => .set (SEQ_MARGIN.mode r) 0)) ++
     (if st = GrpS.up then custodyGroupUp g s else []) ++
     (if st = GrpS.off then (s.groupRails g).map (fun r => .set (SEQ_RRETRY.attempts r) 0) else []))

/-- A deglitched power-good takes a level (R299, R301): each fall in QUALIFY or GOOD counts, and restarts qualification. -/
def setPg (r : Nat) (level : Bool) (s : State) : List Upd :=
  let st := s.rd (SEQ_RSTAT.state r)
  let fell := s.on (SEQ_RSTAT.pg r) && !level
  let n := (s.rd (SEQ_RCHAT.count r) + 1) % 2 ^ 32
  [setB (SEQ_RSTAT.pg r) level, .set (V.pgSince r) 0] ++
  onlyIf (fell && (st == SeqS.qualify || st == SeqS.good))
    [.set (SEQ_RCHAT.count r) n, .set SEQ_EVT.chatter 1, railNote Ty.SEQ_CHATTER r [(24, 1, r), (25, 1, st), (28, 4, n)] s]

/-- Qualification runs from the boundary at which its conditions began to hold (R301). -/
def requalify (r : Nat) (s : State) : List Upd :=
  if s.qualifies r then onlyIf (s.rd (V.qualAt r) == 0) [.set (V.qualAt r) (s.boundary + 1)]
  else onlyIf (s.rd (V.qualAt r) != 0) [.set (V.qualAt r) 0]

/-- A rail's enable is asserted (R303, R307): a regulated rail's tile starts it (R111), a bound channel follows it (R328), and qualification begins where
its conditions hold (R301). -/
def enableRail (r : Nat) (s : State) : State :=
  let t := s.run [.set (SEQ_RSTAT.en r) 1, .set (SEQ_RSTAT.state r) SeqS.qualify, .set (V.seqOnAt r) (s.boundary + 1), .set (V.qualAt r) 0,
    .set (V.falling r) 0, .set (V.disNeed r) 0]
  let u := match s.regOf? r with
    | some q => softStart q t
    | none => t
  feedsFollow (u.does (requalify r))

/-- A rail's enable is deasserted and the rail enters `st` (R304, R305, R307, R308). -/
def deassertRail (r st : Nat) (s : State) : List Upd :=
  if s.on (SEQ_RSTAT.en r) then
    [.set (SEQ_RSTAT.en r) 0, .set (SEQ_RSTAT.state r) st, .set (V.seqOffAt r) (s.boundary + 1), .set (V.falling r) 1, .set (V.qualAt r) 0] ++
    (match s.regOf? r with | some q => railDisable q s | none => [])
  else [.set (SEQ_RSTAT.state r) st]

/-- A fault is counted and recorded (R306, R311, R319). -/
def countFault (r cause : Nat) (s : State) : List Upd :=
  [bump s (SEQ_RFAULTS.count r), .set (SEQ_RRETRY.cause r) cause,
   railNote Ty.SEQ_FAULT r [(24, 1, r), (25, 1, cause), (26, 1, s.railPolicy r), (27, 1, s.rd (SEQ_RRETRY.attempts r)),
     (28, 2, s.rd (SEQ_RSTAT.vmon r)), (30, 1, s.rd (SEQ_RSTAT.pg r)), (32, 8, s.rd (V.seqOnAt r) - 1)] s]

/-- A fault is latched (R308, R311): the first is captured, the lowest rail of one boundary standing for all. -/
def latchFault (r cause : Nat) (s : State) : List Upd :=
  let first := !s.on SEQ_FIRST.valid || (s.rd SEQ_FIRSTT.stamp == s.boundary && decide (r < s.rd SEQ_FIRST.rail))
  [.set (SEQ_FAULTMAP.latch (r / 32)) (setBit (s.rd (SEQ_FAULTMAP.latch (r / 32))) (r % 32)), .set SEQ_EVT.fault 1] ++
  onlyIf first
    [.set SEQ_FIRST.valid 1, .set SEQ_FIRST.rail r, .set SEQ_FIRST.cause cause, .set SEQ_FIRST.state (s.grp (s.groupOf r)),
     .set SEQ_FIRST.group (s.groupOf r), .set SEQ_FIRSTT.stamp s.boundary, .set SEQ_EVT.first 1]

/-- A power-down has ended once no rail of the group is enabled or still falling (R305). -/
def groupSettle (g : Nat) (s : State) : List Upd :=
  if s.grp g = GrpS.rampDown && (s.groupRails g).all (fun r => !s.on (SEQ_RSTAT.en r) && !s.on (V.falling r)) then
    (if s.groupLatched g then groupTo g GrpS.fault 1 s else groupTo g GrpS.off (s.rd (V.downCause g)) s)
  else []

/-- A group's common stop (R304): its clock restarts, and a retry under way stops and takes its place in the power-down (R318). -/
def groupDown (g cause : Nat) (s : State) : State :=
  let s := custodyGroupDown g 2 s
  let t := (s.run [.set (V.downCause g) cause, setB (SEQ_GSTAT.pfail g) (cause == 3), .set (SEQ_GSTAT.clock g) 0, .set (SEQ_GBLOCK.blocked g) 0, .set (SEQ_GBLOCK.rail g) 0]).does (groupTo g GrpS.rampDown cause)
  let u := t.doEach (t.groupRails g) (fun r w =>
    onlyIf (w.rd (SEQ_RSTAT.state r) == SeqS.retry)
      [.set (SEQ_RSTAT.state r) (if w.on (V.falling r) then (if w.on (V.disNeed r) then SeqS.discharge else SeqS.falling) else SeqS.off), .set (V.inRetry r) 0])
  u.does (groupSettle g)

/-- A group that ramps up or is UP takes its common stop; any other goes on as it is. -/
def stopGroup (g cause : Nat) (s : State) : State :=
  if s.grp g = GrpS.rampUp || s.grp g = GrpS.up then groupDown g cause s else s

/-- A fault shutdown (R308, R309): the rail is deasserted and latched, its group stops, PROTECT is held off; under policy 3
every other group is held off too. -/
def faultShutdown (r cause : Nat) (s : State) : State := gathered (deciding (s.railUncertain r) (fun s =>
  let g := s.groupOf r
  let pol := s.railPolicy r
  let t := (s.does (latchFault r cause)).does (deassertRail r SeqS.fault)
  let u := protectGroups (.railLatch g) [g] (stopGroup g 1 (t.run [.set (V.inRetry r) 0]))
  let w := u.does (groupSettle g)
  if pol = 3 && w.rd V.sysRail = 0 then
    protectGroups .system (List.range 16) (w.run [.set V.sysRail (r + 1), .set V.sysDownAt 0])
  else w)) s

/-- A retry starts (R307). -/
def startRetry (r : Nat) (s : State) : List Upd :=
  let n := s.rd (SEQ_RRETRY.attempts r) + 1
  [.set (SEQ_RRETRY.attempts r) n, .set (V.inRetry r) 1, .set (V.fallenAt r) 0, .set SEQ_EVT.retry 1,
   railNote Ty.SEQ_RETRY r [(24, 1, r), (25, 1, n), (26, 1, 1)] s] ++ deassertRail r SeqS.retry s

/-- A rail whose enable is asserted faults (R306, R307): `ups` says that it was GOOD. -/
def railFaults (r cause : Nat) (ups : Bool) (s : State) : State :=
  let g := s.groupOf r
  let pol := s.railPolicy r
  let t := s.does (countFault r cause)
  let ramping := s.grp g == GrpS.rampUp || s.grp g == GrpS.up
  if pol = 0 && (ups || !ramping) then t.run [.set (SEQ_RSTAT.state r) SeqS.bad, .set (V.qualAt r) 0, .set SEQ_EVT.fault 1]
  else if pol = 1 && ramping && s.rd V.pfailRun = 0 && decide (s.rd (SEQ_RRETRY.attempts r) < s.rd (SEQ_RAILDIS.retries r)) then t.does (startRetry r)
  else faultShutdown r cause t

/-- A group with every present rail GOOD is UP (R303). -/
def groupUpCheck (g : Nat) (s : State) : List Upd :=
  onlyIf (s.grp g == GrpS.rampUp && (s.groupRails g).all (fun r => s.rd (SEQ_RSTAT.state r) == SeqS.good)) (groupTo g GrpS.up 0 s)

/-- A rail becomes GOOD (R301, R307). -/
def railGoodNow (r : Nat) (s : State) : State :=
  (s.run ([.set (SEQ_RSTAT.state r) SeqS.good, bump s (SEQ_RCYCLES.count r)] ++
    onlyIf (s.on (V.inRetry r)) [.set (V.inRetry r) 0, railNote Ty.SEQ_RETRY r [(24, 1, r), (25, 1, s.rd (SEQ_RRETRY.attempts r)), (26, 1, 2)] s])).does
    (groupUpCheck (s.groupOf r))

/-- A group holds a rail bound to a branch or auxiliary channel while no feed has been selected yet (R340). -/
def State.awaitsFeed (s : State) (g : Nat) : Bool := !s.on V.feedSeen && (s.groupRails g).any (fun r => (s.feedOf? r).isSome)

/-- A group may start its power-up (R302, R316, R340, R490). -/
def State.mayStart (s : State) (g : Nat) : Bool :=
  s.isOn Blk.seq Tgt.groupPwr g && (s.requires g).all (fun h => s.grp h == GrpS.up) && !s.groupLatched g && s.rd V.pfailRun == 0 && !s.awaitsFeed g && s.on V.identDone

/-- The common start of a group (R302): the clock starts at 0, delays and timeouts are latched. -/
def groupStart (g : Nat) (s : State) : State :=
  let t := s.run ([.set (SEQ_GSTAT.clock g) 0] ++
    (s.groupRails g).flatMap (fun r =>
      [.set (V.latOn r) (s.rd (SEQ_RAILCFG.on_delay r)), .set (V.latOff r) (s.rd (SEQ_RAILCFG.off_delay r)),
       .set (V.latOnTo r) (s.rd (SEQ_RAILTO.on_timeout r)), .set (V.latOffTo r) (s.rd (SEQ_RAILTO.off_timeout r)),
       .set (V.latDisTo r) (s.rd (SEQ_RAILDIS.dis_timeout r)), .set (SEQ_RRETRY.attempts r) 0]))
  (t.does (groupTo g GrpS.rampUp 0)).does (groupUpCheck g)

/-- A group holds on in force and waits, or no longer does (R302, R320). -/
def waitCheck (g : Nat) (s : State) : List Upd :=
  let want := s.isOn Blk.seq Tgt.groupPwr g
  if s.grp g = GrpS.off && want && !s.mayStart g then groupTo g GrpS.wait 0 s
  else if s.grp g = GrpS.wait && !want then groupTo g GrpS.off 0 s
  else []

/-- A rail may assert its enable (R303, R316). -/
def State.enableDue (s : State) (r : Nat) : Bool :=
  let g := s.groupOf r
  s.railPresent r && s.grp g == GrpS.rampUp && s.rd (SEQ_RSTAT.state r) == SeqS.off && !s.on (SEQ_RSTAT.en r) &&
    decide (10 * s.rd (V.latOn r) ≤ s.rd (SEQ_GSTAT.clock g)) && s.rd V.pfailRun == 0

/-- The rails of a group with a lower on_delay that are not GOOD (R303). -/
def State.holdsEnable (s : State) (r : Nat) : List Nat :=
  (s.groupRails (s.groupOf r)).filter (fun q => decide (s.rd (V.latOn q) < s.rd (V.latOn r)) && s.rd (SEQ_RSTAT.state q) != SeqS.good)

/-- A rail's off slot has come (R304). -/
def State.disableDue (s : State) (r : Nat) : Bool :=
  let g := s.groupOf r
  s.railPresent r && s.grp g == GrpS.rampDown && s.on (SEQ_RSTAT.en r) && decide (10 * s.rd (V.latOff r) ≤ s.rd (SEQ_GSTAT.clock g)) &&
    s.rd V.pfailRun == 0

/-- The rails of a group with a lower off_delay that are enabled, or have not fallen or been given up (R304). -/
def State.holdsDisable (s : State) (r : Nat) : List Nat :=
  (s.groupRails (s.groupOf r)).filter (fun q => decide (s.rd (V.latOff q) < s.rd (V.latOff r)) && (s.on (SEQ_RSTAT.en q) || s.on (V.falling q)))

/-- The rail that holds a group's clock (R303, R304). -/
def State.clockHolder (s : State) (g : Nat) : Option Nat :=
  (s.groupRails g).findSome? (fun r =>
    if s.enableDue r then (s.holdsEnable r).head? else if s.disableDue r then (s.holdsDisable r).head? else none)

/-- One boundary of a group's clock (R302-R304). -/
def groupClock (g : Nat) (s : State) : List Upd :=
  if s.grp g = GrpS.rampUp || s.grp g = GrpS.rampDown then
    match s.clockHolder g with
    | some r => [.set (SEQ_GBLOCK.blocked g) 1, .set (SEQ_GBLOCK.rail g) r]
    | none => [.set (SEQ_GBLOCK.blocked g) 0, .set (SEQ_GBLOCK.rail g) 0, .set (SEQ_GSTAT.clock g) (min 0xFF_FFFF (s.rd (SEQ_GSTAT.clock g) + 1))]
  else onlyIf (s.on (SEQ_GBLOCK.blocked g)) [.set (SEQ_GBLOCK.blocked g) 0, .set (SEQ_GBLOCK.rail g) 0]

/-- A group that this one depends on is going or has gone down, or must (R304). -/
def State.mustDown (s : State) : Nat → Nat → Bool
  | 0, _ => false
  | n + 1, g => (s.requires g).any (fun d => s.grp d != GrpS.up || !s.isOn Blk.seq Tgt.groupPwr d || s.rd V.sysRail != 0 || s.mustDown n d)

/-- Why a group that ramps up or is UP takes its common stop at this boundary (R304, R309): the cause of R319, or none. -/
def State.stopCause (s : State) (g : Nat) : Option Nat :=
  if s.grp g ≠ GrpS.rampUp && s.grp g ≠ GrpS.up then none
  else if !(s.dependants g).all s.resting then none
  else if !s.isOn Blk.seq Tgt.groupPwr g then
    some (if s.rd V.sysRail ≠ 0 && s.held .system Blk.seq Tgt.groupPwr g then 1
      else if s.held .faultIn Blk.seq Tgt.groupPwr g && s.orders.source Blk.seq Tgt.groupPwr g = Src.protect then 4 else 0)
  else if s.mustDown 16 g then some 2
  else none

/-- Every RAIL_VMON input is converted once in 10 µs, that of an absent rail too (R300). -/
def vmonConvert (s : State) : List Upd :=
  onlyIf (s.tick % 10 == 0) ((List.range 128).map (fun r => .set (SEQ_RSTAT.vmon r) (convSpan 36000 (s.rd (Sig.vmon r)))))

/-- A rail's power-good at a boundary (R298, R299). -/
def railSample (r : Nat) (s : State) : List Upd :=
  let raw := s.on (Sig.pg r)
  let dg := s.on (SEQ_RSTAT.pg r)
  [setB (V.pgDoubt r) (s.readsPg r && (s.on (Sig.uncertain 3 r) || (raw != dg && s.on (V.pgDoubt r))))] ++
  onlyIf (s.readsPg r) [.set (SEQ_RSTAT.pg_raw r) (s.rd (Sig.pg r))] ++
  (match s.regOf? r with
   | some q => onlyIf (s.on (V.tileGood q) != dg) (setPg r (s.on (V.tileGood q)) s)
   | none => match s.feedOf? r with
     | some c => onlyIf (s.on (FED_CHSTAT.pg c) != dg) (setPg r (s.on (FED_CHSTAT.pg c)) s)
     | none =>
       if raw = dg then onlyIf (s.rd (V.pgSince r) != 0) [.set (V.pgSince r) 0]
       else if s.rd (SEQ_RAILDIS.deglitch r) = 0 then setPg r raw s
       else onlyIf (s.rd (V.pgSince r) == 0) [.set (V.pgSince r) (s.boundary + 1)])

/-- The OR8 pulls FAULT_N low (R312). -/
def State.drivesFault (s : State) : Bool :=
  s.on SEQ_CTL.fault_out && ((List.range 16).any (fun g => s.grp g == GrpS.fault) || s.rd V.sysRail != 0 || s.rd V.pfailRun != 0)

/-- FAULT_N at a boundary (R312). -/
def faultLine (s : State) : List Upd :=
  let drive := s.drivesFault
  let low := s.on Sig.faultN
  [setB SEQ_STAT.fault_drive drive, setB SEQ_STAT.fault_level (!(low || drive))] ++
  let same := if low then s.rd V.fnHigh == 0 && s.rd V.fnLow != 0 else s.rd V.fnHigh != 0
  [setB V.fnDoubt (!drive && (s.on (Sig.uncertain 16 0) || (same && s.on V.fnDoubt)))] ++
  (if drive then .set V.fnHigh 0 :: onlyIf (!s.on V.fnActive) [.set V.fnLow 0]
   else if low then [.set V.fnLow (if s.rd V.fnHigh = 0 then s.rd V.fnLow + 1 else 1), .set V.fnHigh 0]
   else [.set V.fnHigh (min 20000 (s.rd V.fnHigh + 1))])

/-- Place of a group in the req order: the longest chain of groups that it depends on (R316). -/
def State.groupDepth (s : State) : Nat → Nat → Nat
  | 0, _ => 0
  | n + 1, g => (s.requires g).foldl (fun m d => max m (s.groupDepth n d + 1)) 0

/-- The next enabled rail of the shutdown of R316: dependants first, then off_delay, then rail number. -/
def State.pfailNext (s : State) : Option Nat :=
  ((List.range 128).filter (fun r => s.railPresent r && s.on (SEQ_RSTAT.en r))).foldl (fun (best : Option Nat) r =>
    match best with
    | none => some r
    | some b =>
      let dr := s.groupDepth 16 (s.groupOf r)
      let db := s.groupDepth 16 (s.groupOf b)
      if db < dr then some r
      else if dr < db then some b
      else if s.rd (V.latOff r) < s.rd (V.latOff b) then some r else some b) none

/-- The shutdown of R316 begins at a boundary: 1 for power fail, 2 for a thermal shutdown (R352). It takes the place of a power-down and of a feed switch
under way (R318, R369). -/
def beginShutdown (kind : Nat) (s : State) : State := gathered (fun s =>
  let cause := if kind = 1 then 3 else 7
  if s.rd V.pfailRun ≠ 0 then s
  else
    let t := s.run ([.set V.pfailRun kind] ++ onlyIf (kind == 1) [.set SEQ_EVT.pfail 1])
    let t := (List.range 8).foldl (fun w n => custodyStop n true (w.does (assertReset n 8))) t
    let u := (List.range 16).foldl (fun w g =>
      let w1 := (if kind = 1 && w.grp g != GrpS.off then w.run [.set (SEQ_GSTAT.pfail g) 1] else w).run (onlyIf (w.grp g == GrpS.rampDown) [.set (V.downCause g) cause])
      if w.grp g = GrpS.wait then w1.does (groupTo g GrpS.off cause)
      else stopGroup g cause w1) t
    protectGroups .pfail (List.range 16) (u.run ([.set V.swPend 0] ++ onlyIf (u.rd V.swPhase == 1) [.set FED_SELSTAT.switching 0]))) s

/-- One control tick of that shutdown: one enable falls (R316). -/
def shutdownTick (s : State) : State :=
  if s.rd V.pfailRun = 0 then s
  else match s.pfailNext with
    | some r => (s.does (deassertRail r SeqS.falling)).run [.set (V.inRetry r) 0]
    | none => s

/-- Every group is OFF or FAULT while a policy 3 shutdown runs (R309). -/
def systemTick (s : State) : List Upd :=
  if s.rd V.sysRail = 0 then []
  else if (List.range 16).all (fun g => s.grp g == GrpS.off || s.grp g == GrpS.fault) then
    onlyIf (s.rd V.sysDownAt == 0) [.set V.sysDownAt (s.boundary + 1)]
  else [.set V.sysDownAt 0]

/-- The uncertain samples of RAIL_PG and FAULT_N at a boundary (R299). -/
def seqVariance (s : State) : List Upd :=
  let n := ((List.range 128).filter (fun r => s.railPresent r && s.railUncertain r)).length + s.rd (Sig.uncertain 16 0)
  onlyIf (n != 0) [.set FAB_VARCNT.count (s.rd FAB_VARCNT.count + n)]

/-- The rails of the committed table. -/
def State.presentRails (s : State) : List Nat := (List.range 128).filter s.railPresent

/-- The sequencer at a control-tick boundary (R299-R304, R312, R316): inputs, group clocks and what waits on them. The events
of a boundary follow as commands of their own. -/
def seqTick (s : State) : State :=
  let t := (((s.does seqVariance).does vmonConvert).doEach s.presentRails railSample).doEach s.presentRails requalify
  let u := t.doEach (List.range 16) groupClock
  let w := u.doEach (List.range 16) waitCheck
  ((shutdownTick w).does systemTick).does faultLine

/-- A latch is cleared (R310): a rail of a group that still ramps down goes on falling. -/
def clearLatch (r : Nat) (s : State) : List Upd :=
  [.set (SEQ_FAULTMAP.latch (r / 32)) (clearBit (s.rd (SEQ_FAULTMAP.latch (r / 32))) (r % 32))] ++
  onlyIf (s.rd (SEQ_RSTAT.state r) == SeqS.fault)
    [.set (SEQ_RSTAT.state r) (if s.on (V.falling r) then (if s.on (V.disNeed r) then SeqS.discharge else SeqS.falling) else SeqS.off)]

/-- A rail's latch is cleared, and with it that of the channel the rail is bound to (R310, R332). -/
def unlatch (r : Nat) (s : State) : State :=
  match s.feedOf? r with
  | some c => fedUnlatch c (s.does (clearLatch r))
  | none => s.does (clearLatch r)

/-- The group's last latch has cleared (R309, R310). -/
def latchGone (g cause : Nat) (s : State) : State :=
  if s.groupLatched g then s
  else protectDrop (.railLatch g) Blk.seq Tgt.groupPwr g (if s.grp g = GrpS.fault then s.does (groupTo g GrpS.off cause) else s)

/-- A policy 3 shutdown ends: the holds on the groups without a latch of their own are dropped. -/
def systemEnd (s : State) : State := protectDropAll .system (s.run [.set V.sysRail 0, .set V.sysDownAt 0])

/-- The rail of the policy 3 shutdown is cleared, the holds withdrawn and the LOCAL defaults ordered again (R309). -/
def systemRestart (s : State) : State := gathered (fun s =>
  let r := s.rd V.sysRail - 1
  let t := systemEnd (latchGone (s.groupOf r) 5 (unlatch r s))
  let u := t.run [bump t V.sysCount]
  u.doEach (u.orders.defaults.filter (fun d => d.blk == Blk.seq && d.target == Tgt.groupPwr))
    (fun d w => issueLocal d.blk d.target d.scope false d.value d.window w.now w.now false w)) s

/-- The req masks form no cycle (R297): no group reaches itself. -/
def State.reqAcyclic (s : State) : Bool :=
  let reach (m : Nat) : Nat := (bitsOf 16 m).foldl (fun a d => a ||| s.rd (SEQ_GCFG.req d)) m
  (List.range 16).all (fun g => !bit ((List.range 16).foldl (fun m _ => reach m) (s.rd (SEQ_GCFG.req g))) g)

/-- One rail passes the commit check of R296. -/
def State.railOk (s : State) (r : Nat) : Bool :=
  let g := s.groupOf r
  let n := s.rd (SEQ_RAILMODE.slot r)
  !s.railPresent r ||
    ((if n < 8 then g == n else decide (8 ≤ g)) && decide (s.rd (SEQ_RAILCFG.on_delay r) ≤ 65535) &&
      (s.rd (SEQ_RAILVG.vmon_good r) == 0 || decide (s.rd (SEQ_RAILVG.vmon_fall r) < s.rd (SEQ_RAILVG.vmon_good r))) &&
      (s.rd (SEQ_RAILVO.vmon_ov r) == 0 || decide (s.rd (SEQ_RAILVG.vmon_good r) < s.rd (SEQ_RAILVO.vmon_ov r))) &&
      s.rd (SEQ_RAILTO.on_timeout r) != 0 && s.rd (SEQ_RAILTO.off_timeout r) != 0 &&
      (!bit (s.rd (SEQ_RAILMODE.flags r)) 3 || s.rd (SEQ_RAILDIS.dis_timeout r) != 0))

/-- Sequenced rails bound to a regulated rail. -/
def State.boundTo (s : State) (q : Nat) : List Nat := (List.range 128).filter (fun r => s.railPresent r && s.regOf? r == some q)

/-- The commit check of R296 and R297, on the values that would take effect. -/
def State.seqTableOk (s : State) : Bool :=
  s.reqAcyclic && (List.range 128).all s.railOk &&
    (List.range 8).all (fun n => (s.groupRails n).isEmpty ||
      ((s.boundTo n).any (fun r => s.groupOf r == n) && (s.boundTo (n + 8)).any (fun r => s.groupOf r == n))) &&
    [16, 17].all (fun q => (s.railChannels q Role.working).isEmpty || (s.boundTo q).any (fun r => decide (8 ≤ s.groupOf r))) &&
    (List.range 18).all (fun q => decide ((s.boundTo q).length ≤ 1))

end Sys2Proof.Machine
end

