-- ==== Sys2Proof/Machine/Thermal.lean ====
section
/-! DEFINITION. Thermal protection and cooling (chapter 11): the device's own temperature, board inputs, accelerator maps,
ceilings, fans and pumps, flow and leaks. Instances are those of R347. -/

namespace Sys2Proof.Machine

/-- The src word of an instance (R370). -/
def thmSrc (i : Nat) : Nat := srcOf 0xA i

/-- The FANS items of the committed image, by address (R245). -/
def State.fanItems (s : State) : List Nat :=
  if s.committed then (List.range (s.itemCount s.liveImg Sec.fans)).map (s.itemAt s.liveImg Sec.fans 32) else []

/-- Fields of a FANS item: zone, fan and pump bitmap (fans 0 to 15, pumps 16 to 19), slots, inputs, duties in %, curve cell,
stall speed, kick and retry in ms, leak inputs and code, flow inputs and minimum flow. -/
def State.zNum (s : State) (a : Nat) : Nat := s.leMem a 1 % 8
def State.zChannels (s : State) (a : Nat) : Nat := s.leMem (a + 2) 2 + 0x10000 * (s.leMem (a + 4) 1 % 16)
def State.zSlots (s : State) (a : Nat) : Nat := s.leMem (a + 5) 1
def State.zInputs (s : State) (a : Nat) : Nat := s.leMem (a + 6) 2
def State.zMin (s : State) (a : Nat) : Nat := s.leMem (a + 8) 1
def State.zMax (s : State) (a : Nat) : Nat := s.leMem (a + 9) 1
def State.zCurve (s : State) (a : Nat) : Nat := s.leMem (a + 10) 2
def State.zStall (s : State) (a : Nat) : Nat := s.leMem (a + 12) 2
def State.zKick (s : State) (a : Nat) : Nat := s.leMem (a + 14) 2
def State.zRetry (s : State) (a : Nat) : Nat := s.leMem (a + 16) 2
def State.zLeaks (s : State) (a : Nat) : Nat := s.leMem (a + 18) 1
def State.zCode (s : State) (a : Nat) : Nat := s.leMem (a + 19) 1
def State.zFlows (s : State) (a : Nat) : Nat := s.leMem (a + 20) 1
def State.zMinFlow (s : State) (a : Nat) : Nat := s.leMem (a + 22) 2

/-- The zone item of a fan or pump channel. -/
def State.zoneOf? (s : State) (f : Nat) : Option Nat := s.fanItems.find? (fun a => bit (s.zChannels a) f)

/-- The floor a protection holds on a zone: fans, and pumps where `pumps` is set. -/
def floorHolds (h : Holder) (v : Nat) (pumps : Bool) (z : Nat) : List Hold :=
  ⟨h, Blk.thm, Tgt.fanFloor, z, v⟩ :: (if pumps then [⟨h, Blk.thm, Tgt.pumpFloor, z, v⟩] else [])

/-- A protection holds a floor on every zone of a list (R583). -/
def holdFloors (h : Holder) (zs : List Nat) (v : Nat) (pumps : Bool) (s : State) : State := protectHoldAll (zs.flatMap (floorHolds h v pumps)) s

/-! The device's own junction (R348-R352). -/

/-- A diode's reading and broken flag. -/
def diodeT (d : Nat) : Fld := if d = 0 then THM_DEVT.primary else THM_DEVT.spare
def diodeBad (d : Nat) : Fld := if d = 0 then THM_DEVSTAT.pri_broken else THM_DEVSTAT.spare_broken

/-- One conversion of a diode (R348); a broken one shows 0x7FFF (R350). -/
def diodeConvert (d : Nat) (s : State) : List Upd :=
  onlyIf (s.on (diodeBad d)) [.set (diodeT d) 0x7FFF] ++
  if s.on (Sig.diodeBroken d) then [.set (V.dioBad d) (min 2 (s.rd (V.dioBad d) + 1)), .set (V.dioCount d) 0]
  else
    [.set (V.dioBad d) 0, .set (V.dioPrev d) (s.rd (diodeT d)), .set (V.dioCount d) (min 2 (s.rd (V.dioCount d) + 1))] ++
      onlyIf (!s.on (diodeBad d)) [.set (diodeT d) (s.rd (Sig.diode d))]

/-- Two consecutive conversions of the diode in use stand at or above, or at or below, a temperature in °C (R349). -/
def State.devAbove (s : State) (c : Nat) : Bool :=
  let d := s.rd THM_DEVSTAT.sel
  !s.on (diodeBad d) && s.rd (V.dioCount d) == 2 && decide ((64 * c : Nat) ≤ s.rdI (diodeT d)) && decide ((64 * c : Nat) ≤ toSigned 16 (s.rd (V.dioPrev d)))
def State.devBelow (s : State) (c : Nat) : Bool :=
  let d := s.rd THM_DEVSTAT.sel
  !s.on (diodeBad d) && s.rd (V.dioCount d) == 2 && decide (s.rdI (diodeT d) ≤ (64 * c : Nat)) && decide (toSigned 16 (s.rd (V.dioPrev d)) ≤ (64 * c : Nat))

/-- The level that the conversions call for (R349). -/
def State.devLevel (s : State) : Nat :=
  let l := s.rd THM_DEVSTAT.level
  let up := if s.devAbove 110 then 2 else if s.devAbove 100 then 1 else 0
  let stay := if s.devBelow 95 then 0 else if s.devBelow 105 then min l 1 else l
  max up stay

/-- A DEV_TEMP record (R370). -/
def devRec (old new d cause : Nat) (s : State) : Upd :=
  note Ty.DEV_TEMP (thmSrc (52 + d)) [(24, 1, old), (25, 1, new), (26, 1, d), (27, 1, cause), (28, 2, s.rd (diodeT d))]

/-- What the device's level holds (R349). -/
def State.deviceHolds (s : State) : List Hold :=
  let l := s.rd THM_DEVSTAT.level
  if l = 0 then [] else (List.range 8).flatMap (floorHolds .device (if l = 1 then s.rd THM_DEVCFG.warn_duty else 100) (decide (2 ≤ l)))

/-- The device's level changes, with its floors (R349). -/
def devTo (l d cause : Nat) (s : State) : State :=
  let old := s.rd THM_DEVSTAT.level
  let t := s.run ([devRec old l d cause s, .set THM_DEVSTAT.level l] ++ onlyIf (decide (1 ≤ l) && old == 0) [.set THM_EVT.warn 1] ++
    onlyIf (l == 2) [.set THM_EVT.throttle 1])
  protectOnly .device t.deviceHolds t

/-- A diode is found broken (R350). While the island holds every plane it only keeps the flag. -/
def diodeBroke (d : Nat) (s : State) : State :=
  if s.on (V.planeHeld 0) then s.run (.set (diodeBad d) 1 :: onlyIf (s.on (diodeBad (1 - d))) [.set V.shutDue 1]) else
  let t := s.run [.set (diodeBad d) 1, .set (diodeT d) 0x7FFF, .set THM_EVT.diode 1]
  let l := t.rd THM_DEVSTAT.level
  let u := if t.rd THM_DEVSTAT.sel = d then devTo 2 d 1 (t.run [.set V.graceAt (t.now + 1)]) else t.run [devRec l l d 1 t]
  u.run (onlyIf (u.on THM_DEVSTAT.pri_broken && u.on THM_DEVSTAT.spare_broken) [.set V.shutDue 1, devRec 2 3 d 1 u])

/-- A broken diode in use is treated as too hot at every boundary, and both broken call for the shutdown (R350): a cold reset keeps the flags. -/
def brokenTick (s : State) : State :=
  let d := s.rd THM_DEVSTAT.sel
  let both := s.on THM_DEVSTAT.pri_broken && s.on THM_DEVSTAT.spare_broken
  if s.on (diodeBad d) && s.rd V.graceAt == 0 && !s.on V.shutDue && s.rd V.thermAt == 0 then
    let t := s.run [.set V.graceAt (s.now + 1)]
    (if t.rd THM_DEVSTAT.level < 2 then devTo 2 d 1 t else t).run (onlyIf both [.set V.shutDue 1])
  else s

/-- The keeper's commit of THM_DIODESEL takes effect (R351). -/
def diodeSwitch (s : State) : List Upd :=
  let d := s.rd THM_DIODESEL.sel
  let old := s.rd THM_DEVSTAT.sel
  onlyIf (d != old)
    [.set THM_DEVSTAT.sel d, .set V.graceAt 0, .set V.shutDue 0, .set THM_EVT.diode 1,
     note Ty.DIODE_SWITCH (thmSrc (52 + d)) [(24, 1, old), (25, 1, d), (26, 2, s.rd (diodeT d))]]

/-- Thermal shutdown qualifies (R352). -/
def State.thermalDue (s : State) : Bool := s.devAbove 120 || s.on V.shutDue

/-- The commit check of R351 and R369, on the values that would take effect; `named` says that the commit names a diode. -/
def State.diodeSelOk (s : State) (named : Bool) : Bool :=
  (!named || !s.on (diodeBad (s.rd THM_DIODESEL.sel))) &&
    (s.rd THM_DIODESEL.sel == s.rd THM_DEVSTAT.sel || (s.rd V.thermAt == 0 && !s.thermalDue))

/-- Thermal shutdown begins (R352): the reset cause is latched, after a power-fail warning that came first (R557); it is recorded, and the
shutdown of R316 runs with cause thermal, where the Cirque runs. -/
def thermalShutdown (s : State) : State :=
  let d := s.rd THM_DEVSTAT.sel
  let latch : List Upd := [.set V.thermAt (s.now + 1), .set V.thermGone 0, .set V.coolSince 0, .set CRP_CAUSE.cold (if s.rd V.pfAt = 0 then 3 else 2)]
  if s.on (V.planeHeld 0) then s.run latch else
  beginShutdown 2 (s.run (latch ++ [
    note Ty.PROTECT_TRIP (thmSrc (52 + d)) [(24, 1, 52 + d), (25, 1, 1), (26, 2, s.rd (diodeT d)), (32, 8, s.now)]] ++
    onlyIf (!s.on V.shutDue) [devRec (s.rd THM_DEVSTAT.level) 3 d 0 s]))

/-! Board inputs (R353, R354). -/

/-- r ≥ 0.97 and r ≤ 0.02 of TEMP_REF (R354). -/
def State.inputOpen (s : State) (i : Nat) : Bool := decide (97 * 4096 ≤ 100 * s.rd (Sig.tempIn i))
def State.inputShort (s : State) (i : Nat) : Bool := decide (100 * s.rd (Sig.tempIn i) ≤ 2 * 4096)

/-- Linear interpolation on a curve between its points (R353); the rounding is unstated. -/
def State.onCurve (s : State) (k r : Nat) : List Nat → Int
  | [] => 0
  | [m] => s.rdI (THM_CURVE.t k m)
  | m :: n :: ms =>
    let a := s.rd (THM_CURVE.ratio k m)
    let b := s.rd (THM_CURVE.ratio k n)
    if r ≤ a then s.rdI (THM_CURVE.t k m)
    else if r < b then s.rdI (THM_CURVE.t k m) + divOpenI ((s.rdI (THM_CURVE.t k n) - s.rdI (THM_CURVE.t k m)) * ((r : Int) - a)) (b - a)
    else s.onCurve k r (n :: ms)

/-- One conversion of a board input (R353, R354): 150 °C while open or shorted. -/
def extConvert (i : Nat) (s : State) : List Upd :=
  if s.on (THM_EXTCFG.en i) then
    let bad := s.inputOpen i || s.inputShort i
    [setISat (THM_EXTT.t i) (if bad then 9600 else s.onCurve (s.rd (THM_EXTCFG.curve i)) (16 * s.rd (Sig.tempIn i)) (List.range 32))] ++
    onlyIf (!s.inputOpen i) [.set (THM_EXTT.open_ i) 0] ++ onlyIf (!s.inputShort i) [.set (THM_EXTT.short i) 0]
  else [.set (THM_EXTT.t i) 0, .set (THM_EXTT.open_ i) 0, .set (THM_EXTT.short i) 0]

/-- The commit check of R353. -/
def State.curvesOk (s : State) : Bool :=
  (List.range 16).all (fun i => !s.on (THM_EXTCFG.en i) ||
    (List.range 31).all (fun m => decide (s.rd (THM_CURVE.ratio (s.rd (THM_EXTCFG.curve i)) m) < s.rd (THM_CURVE.ratio (s.rd (THM_EXTCFG.curve i)) (m + 1)))))

/-! Limits (R356-R358). A source is an external input 0 to 15, or 56 + n for slot n's map. -/

def srcHot (i : Nat) : Fld := if i < 16 then THM_EXTT.hot i else THM_MAPT.hot (i - 56)
def srcCrit (i : Nat) : Fld := if i < 16 then THM_EXTT.crit i else THM_MAPT.crit (i - 56)
def State.srcTemp (s : State) (i : Nat) : Int := if i < 16 then s.rdI (THM_EXTT.t i) else s.rdI (THM_MAPT.t (i - 56))
def State.limHot (s : State) (i : Nat) : Nat := if i < 16 then s.rd (THM_EXTCFG.hot i) else s.rd (THM_MAPCFG.hot (i - 56))
def State.limCrit (s : State) (i : Nat) : Nat := if i < 16 then s.rd (THM_EXTCFG.crit i) else s.rd (THM_MAPCFG.crit (i - 56))
def State.limHys (s : State) (i : Nat) : Nat := if i < 16 then s.rd (THM_EXTCFG.hys i) else s.rd (THM_MAPCFG.hys (i - 56))

/-- The source takes part in limits (R354, R371). -/
def State.srcUsed (s : State) (i : Nat) : Bool := if i < 16 then s.on (THM_EXTCFG.en i) else s.on THM_CTL.map_en

/-- The slots a source serves (R356), and the zones that name it (R358). -/
def State.srcSlots (s : State) (i : Nat) : List Nat := if i < 16 then bitsOf 8 (s.rd (THM_EXTMASK.slots i)) else [i - 56]
def State.srcZones (s : State) (i : Nat) : List Nat :=
  (s.fanItems.filter (fun a => if i < 16 then bit (s.zInputs a) i else bit (s.zSlots a) (i - 56))).map s.zNum

/-- Whether a limit's flag stands after a reading, with its hysteresis; a limit of 0 disables the test. -/
def State.limitFlag (s : State) (i lim : Nat) (was : Bool) : Bool :=
  s.srcUsed i && lim != 0 &&
    (if was then decide ((64 * lim : Nat) < s.srcTemp i + (64 * s.limHys i : Nat)) else decide ((64 * lim : Nat) ≤ s.srcTemp i))

/-- The ceiling a TEMP_LIMIT record shows: the lowest of the source's slots. -/
def State.srcCeil (s : State) (i : Nat) : Nat := (s.srcSlots i).foldl (fun m n => min m (s.rd (THM_CEIL.ceil n))) 0xFF

/-- A TEMP_LIMIT record (R370). -/
def limitRec (i code : Nat) (s : State) : Upd :=
  note Ty.TEMP_LIMIT (thmSrc i) [(24, 1, i), (25, 1, code), (26, 2, ofSigned 16 (s.srcTemp i)), (28, 1, s.srcCeil i)]

/-- The latch bit of a source. -/
def setLatch (i : Nat) (v : Bool) (s : State) : Upd :=
  let f := if i < 16 then THM_TLATCH.ext else THM_TLATCH.map
  let b := if i < 16 then i else i - 56
  .set f (if v then setBit (s.rd f) b else clearBit (s.rd f) b)
def State.isLatched (s : State) (i : Nat) : Bool := if i < 16 then bit (s.rd THM_TLATCH.ext) i else bit (s.rd THM_TLATCH.map) (i - 56)

/-- What a critical source holds (R358). -/
def State.criticalHolds (s : State) (i : Nat) : List Hold :=
  (s.srcSlots i).map (fun n => ⟨.thermal i, Blk.seq, Tgt.groupPwr, n, 0⟩) ++ (s.srcZones i).flatMap (floorHolds (.thermal i) 100 true)

/-- A source becomes critical (R358). -/
def critical (i : Nat) (s : State) : State :=
  let t := s.run [.set (srcCrit i) 1, .set THM_EVT.crit 1, setLatch i true s, limitRec i 3 s,
    note Ty.PROTECT_TRIP (thmSrc i) [(24, 1, i), (25, 1, 2), (26, 2, ofSigned 16 (s.srcTemp i)), (32, 8, s.now)]]
  protectHoldAll (t.criticalHolds i) t

/-- One source at a boundary (R356); while it is critical it holds its slots and zones as they now stand (R358). -/
def sourceTick (i : Nat) (s : State) : State :=
  let hot := s.limitFlag i (s.limHot i) (s.on (srcHot i))
  let crit := s.limitFlag i (s.limCrit i) (s.on (srcCrit i))
  let t := if hot = s.on (srcHot i) then s
    else s.run ([setB (srcHot i) hot, limitRec i (if hot then 1 else 2) s] ++ onlyIf hot [.set THM_EVT.hot 1])
  if crit = t.on (srcCrit i) then (if crit then protectHoldAll (t.criticalHolds i) t else t)
  else if crit then critical i t
  else t.run [.set (srcCrit i) 0, limitRec i 4 t]

/-- The sources of R356. -/
def sources : List Nat := List.range 16 ++ (List.range 8).map (56 + ·)

/-- A source of a slot is hot. -/
def State.slotHot (s : State) (n : Nat) : Bool := sources.any (fun i => s.on (srcHot i) && (s.srcSlots i).contains n)

/-- THM's ceiling of a slot takes a value, 0xFF for none (R357). -/
def setCeil (n c : Nat) (s : State) : State :=
  let t := s.run [.set (THM_CEIL.ceil n) c, .set (V.ceilAt n) (s.now + 1)]
  if c = 0xFF then protectDrop (.thermalCeil n) Blk.cap Tgt.freqCeil n t else protectHold ⟨.thermalCeil n, Blk.cap, Tgt.freqCeil, n, c⟩ t

/-- The part of R357 that no timer delays: the first ceiling of a hot slot, and the bound of a lost map. -/
def ceilingTick (n : Nat) (s : State) : State :=
  let c := s.rd (THM_CEIL.ceil n)
  let hot := s.slotHot n
  let s1 := s.run (if hot then [.set (V.coolAt n) 0] else onlyIf (s.rd (V.coolAt n) == 0) [.set (V.coolAt n) (s.now + 1)])
  let s2 := if hot && c = 0xFF then setCeil n (s.rd (CAP_FREQ.force n) - 1) s1 else s1
  if s.on (THM_MAPT.lost n) && s.rd (THM_MAPCFG.lost_idx n) < s2.rd (THM_CEIL.ceil n) then setCeil n (s.rd (THM_MAPCFG.lost_idx n)) s2 else s2

/-- What the timers of R357 do to a slot's ceiling now, if anything. -/
def State.ceilStep (s : State) (n : Nat) : Option Nat :=
  let c := s.rd (THM_CEIL.ceil n)
  let due (ms : Nat) (f : Fld) : Bool := s.rd f != 0 && decide (s.rd f + ms * 4000000 ≤ s.now + 1)
  if c = 0xFF then none
  else if s.slotHot n then (if due 10 (V.ceilAt n) then some (c - 1) else none)
  else if due 100 (V.coolAt n) && due 100 (V.ceilAt n) then
    let up := c + 1
    if s.on (THM_MAPT.lost n) then (if up ≤ s.rd (THM_MAPCFG.lost_idx n) then some up else none)
    else if s.nfreq n ≤ up + 1 then some 0xFF else some up
  else none

/-! Accelerator maps (R355). -/

/-- A lost map holds the floors of the zones that name its slot (R355). -/
def mapHolds (n : Nat) (s : State) : State :=
  protectOnly (.mapLost n) (if s.on (THM_MAPT.lost n) then (s.srcZones (56 + n)).flatMap (floorHolds (.mapLost n) 100 false) else []) s

/-- A map is lost (R355). -/
def mapLose (n : Nat) (s : State) : State := gathered (fun s =>
  ceilingTick n (mapHolds n (s.run [.set (THM_MAPT.lost n) 1, .set THM_EVT.map_lost 1, limitRec (56 + n) 7 s]))) s

/-- The map of a slot at a boundary (R355). -/
def mapTick (n : Nat) (s : State) : State :=
  match (if s.rd (lkState n) = LinkS.run || s.rd (lkState n) = LinkS.switch then s.thermalMax n (s.tick - s.rd (SWJ_STAT.updelay n)) else none) with
  | some v =>
    let t := s.run ([setISat (THM_MAPT.t n) v, .set (V.mapMissing n) 0] ++ onlyIf (s.on (THM_MAPT.lost n)) [.set (THM_MAPT.lost n) 0])
    mapHolds n (if s.on (THM_MAPT.lost n) then t.run [limitRec (56 + n) 8 t] else t)
  | none => mapHolds n (s.run [.set (V.mapMissing n) (if s.rd (rState n) = RailS.regulating then min 1000 (s.rd (V.mapMissing n) + 1) else 0)])

/-! Fans and pumps (R359-R363). -/

def FanS.off : Nat := 0
def FanS.kick : Nat := 1
def FanS.run : Nat := 2
def FanS.stalled : Nat := 3

/-- The src instance of a channel (R347). -/
def fanSrc (f : Nat) : Nat := thmSrc (16 + f)

/-- Speed from the tach (R359): 3 × 10^7 ÷ T over the last intervals, 0 after 250 ms without an edge. -/
def tachTick (f : Nat) (s : State) : List Upd :=
  let last := s.rd (V.tachLast f)
  let cnt := s.rd (V.tachCount f)
  if bit (s.rd (Sig.tach f)) 0 then
    if last = 0 then [.set (V.tachLast f) (s.tick + 1)]
    else
      let iv := s.tick + 1 - last
      let n := min 4 (cnt + 1)
      let ivs := (iv :: (List.range 3).map (fun i => s.rd (V.tachInt f i))).take n
      [.set (V.tachLast f) (s.tick + 1), .set (V.tachCount f) n, .set (V.tachInt f 0) iv, .set (V.tachInt f 1) (s.rd (V.tachInt f 0)),
       .set (V.tachInt f 2) (s.rd (V.tachInt f 1)), .set (V.tachInt f 3) (s.rd (V.tachInt f 2)),
       .set (THM_CHSTAT.rpm f) (min 0xFFFF (divOpen (30000000 * n) (ivs.foldl (· + ·) 0)))]
  else onlyIf (last != 0 && decide (last + 250000 ≤ s.tick + 1)) [.set (V.tachLast f) 0, .set (V.tachCount f) 0, .set (THM_CHSTAT.rpm f) 0]

/-- Leak code 4 has stopped a zone's pumps (R366): its slots' groups are all OFF or FAULT. -/
def State.pumpsKilled (s : State) (a : Nat) : Bool :=
  s.zCode a == 4 && s.on THM_CTL.leak_en && (bitsOf 8 (s.zLeaks a)).any (fun i => bit (s.rd THM_LEAKMAP.latch) i && s.on (V.leakWas i)) &&
    (bitsOf 8 (s.zSlots a)).all (fun n => s.grp n == GrpS.off || s.grp n == GrpS.fault)

/-- The floor in force for a channel of a zone (R361). -/
def State.floorOf (s : State) (f z : Nat) : Nat := s.orders.value Blk.thm (if f < 16 then Tgt.fanFloor else Tgt.pumpFloor) z

/-- Demand D of a channel of a zone (R361). -/
def State.fanDemand (s : State) (f a : Nat) : Nat :=
  let curve := (s.rdI (FAB_CELLVAL.value (s.zCurve a))).toNat
  let own := if s.on (V.outDutyBound f) then s.rd (V.outDuty f) else 0
  min 1000 (max (min (max curve own) (10 * s.zMax a)) (max (10 * s.zMin a) (10 * s.floorOf f (s.zNum a))))

/-- The FAN_STALL record (R370). -/
def stallRec (f code z n : Nat) (s : State) : Upd :=
  note Ty.FAN_STALL (fanSrc f) [(24, 1, 16 + f), (25, 1, code), (26, 1, z), (28, 2, s.rd (THM_CHSTAT.rpm f)), (30, 2, n)]

/-- A channel enters a state (R362). -/
def fanTo (f st : Nat) (s : State) : List Upd := [.set (THM_CHSTAT.state f) st, .set (V.fanAt f) (s.now + 1), .set (V.slowAt f) 0]

/-- A channel stalls, and its zone's floors are held (R362, R363). -/
def fanStalls (f a : Nat) (s : State) : State :=
  let n := s.rd (V.stallCount f) + 1
  holdFloors (.fan (s.zNum a)) [s.zNum a] 100 true
    (s.run (fanTo f FanS.stalled s ++ [.set (V.stallCount f) n, bump s (THM_CHSTALLS.count f), .set THM_EVT.stall 1, stallRec f 1 (s.zNum a) n s]))

/-- What a channel drives in a state, with a demand (R362, R366), in 0.1 %. -/
def State.fanDrive (s : State) (f a st d : Nat) : Nat :=
  if 16 ≤ f && s.pumpsKilled a then 0 else if st = FanS.kick then 1000 else if st = FanS.run then d else 0

/-- A PWM period of a channel has begun in the tick that ended: it drives the duty that then stood (R361). Where in the 40 µs a period begins is
a FREE VALUE (log 214). -/
def pwmTick (f : Nat) (s : State) : List Upd :=
  onlyIf ((s.tick + Config.pwmPhase f) % 40 == 0) [.set (THM_CHDUTY.duty f) (s.rd (V.fanNext f))]

/-- Demand, state and drive of a channel at a boundary (R360-R362). -/
def fanTick (f : Nat) (s : State) : List Upd :=
  match s.zoneOf? f with
  | none => [.set (THM_CHDUTY.demand f) 0, .set (V.fanNext f) 0, .set (THM_CHSTAT.state f) FanS.off]
  | some a =>
    let d := s.fanDemand f a
    let st := s.rd (THM_CHSTAT.state f)
    let st' := if st = FanS.off && d ≠ 0 then FanS.kick else if st = FanS.run && d = 0 then FanS.off else st
    [.set (THM_CHDUTY.demand f) d, .set (V.fanNext f) (s.fanDrive f a st' d)] ++
    (if st = st' then [] else fanTo f st' s ++ onlyIf (st' == FanS.kick) [.set (V.kickAgain f) 0]) ++
    since (V.slowAt f) (st' == FanS.run && st == st' && decide (s.rd (THM_CHSTAT.rpm f) < s.zStall a)) s

/-- A zone's floors stand while a channel of it is STALLED, or in a KICK from STALLED, and end once each is in RUN or OFF (R363); its status is
shown (R372). -/
def zoneTick (z : Nat) (s : State) : State :=
  let item := s.fanItems.find? (fun a => s.zNum a == z)
  let curve := match item with
    | some a => (s.rdI (FAB_CELLVAL.value (s.zCurve a))).toNat
    | none => 0
  let channels := match item with
    | some a => bitsOf 20 (s.zChannels a)
    | none => []
  let t := s.run [.set (THM_ZSTAT.fan_floor z) (s.floorOf 0 z), .set (THM_ZSTAT.pump_floor z) (s.floorOf 16 z), .set (THM_ZSTAT.curve z) curve]
  if channels.any (fun f => s.rd (THM_CHSTAT.state f) == FanS.stalled || (s.rd (THM_CHSTAT.state f) == FanS.kick && s.on (V.kickAgain f)))
  then holdFloors (.fan z) [z] 100 true t
  else if channels.all (fun f => s.rd (THM_CHSTAT.state f) == FanS.run || s.rd (THM_CHSTAT.state f) == FanS.off)
  then protectDropAll (.fan z) t else t

/-- The commit check of R360 on the image at `b`; `isTable` says which cells are TABLE cells. -/
def State.fansOk (s : State) (b : Nat) (isTable : Nat → Bool) : Bool :=
  let items := (List.range (s.itemCount b Sec.fans)).map (s.itemAt b Sec.fans 32)
  (List.range 20).all (fun f => decide ((items.filter (fun a => bit (s.zChannels a) f)).length ≤ 1)) &&
    items.all (fun a => decide (s.zMin a ≤ s.zMax a) && isTable (s.zCurve a))

/-! Flow and leaks (R364-R366). -/

/-- Flow inputs of a zone that read below its minimum. -/
def State.lowFlows (s : State) (a : Nat) : List Nat := (bitsOf 8 (s.zFlows a)).filter (fun i => decide (s.rd (THM_FLOW.rate i) < s.zMinFlow a))

/-- A FLOW_LOW record (R370). -/
def flowRec (i code z : Nat) (s : State) : Upd := note Ty.FLOW_LOW (thmSrc (44 + i)) [(24, 1, i), (25, 1, code), (26, 1, z), (28, 2, s.rd (THM_FLOW.rate i))]

/-- The window's effect on the low windows of one input of a zone: a low window counts while a pump of the zone is called for (R364). -/
def flowCount (a i : Nat) (s : State) : List Upd :=
  let k := 8 * s.zNum a + i
  let pumped := (bitsOf 20 (s.zChannels a)).any (fun f => decide (16 ≤ f) && s.rd (THM_CHDUTY.demand f) != 0)
  [.set (V.flowLowRun k) (if s.on THM_CTL.flow_en && pumped && (s.lowFlows a).contains i then min 2 (s.rd (V.flowLowRun k) + 1) else 0)]

/-- A zone's judgement at the end of a window (R364): low by an input that has read low in two windows running; its orders end after ten windows
that found it not low. THM_FLOWLOW shows what it is now, and the time to power-off runs within one spell (DEDUCED, log 217). -/
def flowJudge (a : Nat) (s : State) : State :=
  let z := s.zNum a
  let t := s.doEach (List.range 8) (flowCount a)
  let low := (List.range 8).filter (fun i => t.rd (V.flowLowRun (8 * z + i)) == 2)
  let was := bit (s.rd THM_FLOWLOW.zones) z
  let ok := s.rd (V.flowOkRun z) + 1
  if !low.isEmpty then
    holdFloors (.flow z) [z] 100 true (t.run (.set (V.flowOkRun z) 0 :: onlyIf (!was)
      [.set THM_FLOWLOW.zones (setBit (t.rd THM_FLOWLOW.zones) z), .set (V.flowLowAt z) (s.now + 1), .set THM_EVT.flow 1, flowRec (low.headD 0) 1 z t]))
  else
    let u := t.run [.set (V.flowOkRun z) (min 10 ok), .set THM_FLOWLOW.zones (clearBit (t.rd THM_FLOWLOW.zones) z), .set (V.flowLowAt z) 0]
    if 10 ≤ ok && s.orders.holds.any (fun h => h.holder == .flow z) then
      protectDropAll (.flow z) (u.run [.set (V.flowOff z) 0, flowRec ((bitsOf 8 (s.zFlows a)).headD 0) 3 z u])
    else u

/-- A 1 s window of every flow input ends (R364). -/
def flowWindow (s : State) : State := gathered (fun s =>
  let t := s.run (.set V.flowSecond (s.now / 4000000000) ::
    (List.range 8).flatMap (fun i => [.set (THM_FLOW.rate i) (min 0xFFFF (s.rd (V.flowCnt i))), .set (V.flowCnt i) 0]))
  t.fanItems.foldl (fun w a => flowJudge a w) t) s

/-- Flow still low after flow_to seconds (R364). -/
def flowPowerOff (a : Nat) (s : State) : State :=
  let z := s.zNum a
  let i := (s.lowFlows a).headD ((bitsOf 8 (s.zFlows a)).headD 0)
  protectGroups (.flow z) (bitsOf 8 (s.zSlots a)) (s.run [.set (V.flowOff z) 1, flowRec i 2 z s,
    note Ty.PROTECT_TRIP (thmSrc (44 + i)) [(24, 1, 44 + i), (25, 1, 4), (32, 8, s.now)]])

/-- The response code a leak input calls for in a zone (R366): an open cable's is at most 1, and none without leak_en. -/
def State.leakCode (s : State) (a : Nat) (wet : Bool) : Nat := if !s.on THM_CTL.leak_en then 0 else if wet then s.zCode a else min 1 (s.zCode a)

/-- What one zone's response to a leak holds (R366). -/
def State.leakHolds (s : State) (i : Nat) (wet : Bool) (a : Nat) : List Hold :=
  let c := s.leakCode a wet
  let slots := bitsOf 8 (s.zSlots a)
  (if 1 ≤ c && c ≤ 3 then floorHolds (.leak i) 100 true (s.zNum a) else []) ++
  (if c = 2 then slots.map (fun n => ⟨.leak i, Blk.cap, Tgt.freqCeil, n, 0⟩) else []) ++
  (if c = 3 || c = 4 then slots.map (fun n => ⟨.leak i, Blk.seq, Tgt.groupPwr, n, 0⟩) else [])

/-- The zones that name a leak input. -/
def State.leakZones (s : State) (i : Nat) : List Nat := s.fanItems.filter (fun a => bit (s.zLeaks a) i)

/-- The response code a record of a leak input shows: the highest of its zones. -/
def State.leakTop (s : State) (i : Nat) (wet : Bool) : Nat := (s.leakZones i).foldl (fun m a => max m (s.leakCode a wet)) 0

/-- While a latched input is wet or open, every zone that names it has its response (R366). -/
def leakHold (i : Nat) (s : State) : State :=
  let wet := bit (s.rd THM_LEAKMAP.wet) i
  if bit (s.rd THM_LEAKMAP.latch) i && (wet || bit (s.rd THM_LEAKMAP.open_) i) then protectHoldAll ((s.leakZones i).flatMap (s.leakHolds i wet)) s else s

/-- A leak input latches (R365, R366). -/
def leakLatch (i : Nat) (wet : Bool) (s : State) : State :=
  let zs := s.leakZones i
  let code := s.leakTop i wet
  let t := s.run ([.set THM_LEAKMAP.latch (setBit (s.rd THM_LEAKMAP.latch) i), .set THM_EVT.leak 1,
    (if wet then .set THM_LEAKMAP.wet (setBit (s.rd THM_LEAKMAP.wet) i) else .set THM_LEAKMAP.open_ (setBit (s.rd THM_LEAKMAP.open_) i)),
    note Ty.LEAK (thmSrc (36 + i)) [(24, 1, i), (25, 1, if wet then 1 else 2), (26, 1, code), (27, 1, zs.foldl (fun m a => setBit m (s.zNum a)) 0)]] ++
    onlyIf wet [.set (V.leakWas i) 1] ++
    onlyIf (decide (3 ≤ code)) [note Ty.PROTECT_TRIP (thmSrc (36 + i)) [(24, 1, 36 + i), (25, 1, 3), (32, 8, s.now)]])
  protectHoldAll (zs.flatMap (s.leakHolds i wet)) t

/-- A leak input at a boundary (R365). -/
def leakTick (i : Nat) (s : State) : List Upd :=
  let l := s.rd (Sig.leak i)
  since (V.wetAt i) (l == 1) s ++ since (V.openAt i) (l == 2) s ++
  onlyIf (l != 1) [.set THM_LEAKMAP.wet (clearBit (s.rd THM_LEAKMAP.wet) i)] ++ onlyIf (l != 2) [.set THM_LEAKMAP.open_ (clearBit (s.rd THM_LEAKMAP.open_) i)]

/-- THM at a control-tick boundary; fans and pumps are supervised from the first commit on (R368). -/
def thmTick (s : State) : State :=
  let t0 := brokenTick (if s.tick % 50 = 0 then s.doEach [0, 1] diodeConvert else s)
  let td := protectOnly .device t0.deviceHolds t0
  let t1 := if s.tick % 100 = 0 then td.doEach (List.range 16) extConvert else td
  let t2 := (List.range 8).foldl (fun w n => mapTick n w) t1
  let t3 := sources.foldl (fun w i => sourceTick i w) t2
  let t4 := (List.range 8).foldl (fun w n => ceilingTick n w) t3
  let t5 := (List.range 8).foldl (fun w i => leakHold i w) ((t4.doEach (List.range 20) tachTick).doEach (List.range 8) leakTick)
  (List.range 8).foldl (fun w z => zoneTick z w) (if t5.committed then (t5.doEach (List.range 20) pwmTick).doEach (List.range 20) fanTick else t5)

end Sys2Proof.Machine
end

