-- ==== Sys2Proof/Machine/Reset.lean ====
section
/-! DEFINITION. Resets, standby, clocks and power (chapter 19): what each reset domain loses and keeps. -/

namespace Sys2Proof.Machine

/-- A record of the island (R558). -/
def crpNote (typ : Nat) (pay : List (Nat × Nat × Nat)) : Upd := note typ (srcOf 0xE 0) pay

/-! Cold reset (R546). -/

/-- Fields that the island keeps through a cold reset. -/
def islandFields : List Fld :=
  [CRP_RTC.count, CRP_WAKEEN.en, CRP_WAKEAT.at_, CRP_WAKESRC.src, CRP_CAUSE.cold, CRP_RSTCNT.cold, CRP_CLKSTAT.xtal_ok, IMG_TRIAL.structure_,
   IMG_TRIAL.service, IMG_TRIAL.keeper, THM_DEVSTAT.sel, THM_DIODESEL.sel, THM_DEVSTAT.pri_broken, THM_DEVSTAT.spare_broken, V.freeCtr]

/-- Channels that a cold reset returns as bench channels (R110): those that had failed, and those so returned that no image has given a role since. -/
def State.returned (s : State) : List Nat :=
  (List.range 320).filter (fun c => s.rd (chRole c) == Role.failed || (s.rd (chRole c) == Role.bench && !s.committed))

/-- Every plane except the island takes its reset state; on-chip memory is to be wiped (R508). A failed channel returns as a bench channel of its rail,
though PHT_CHCFG's reset values name neither (R110, log 182). -/
def planesReset (s : State) : List Upd :=
  [.resetRegs 0 0x140_0000, .resetRegs 0x1_0000_0000 0x1_0800_0000, .coldStart, .wipe 0x10_0000 0x18_0000, .wipe 0x4000_0000 0x1_0000_0000] ++
  islandFields.map (fun f => .set f (s.rd f)) ++ [.set MEM_STAT.wipe 0x3F] ++
  s.returned.flatMap (fun c => [.set (chRole c) Role.bench, .set (chRail c) (s.rd (chRail c))]) ++
  ((s.returned.map s.railOf).dedup).map (fun r => .set (rNbench r) (s.returned.filter (fun c => s.railOf c == r)).length)

/-- The supplies and the feeds are surveyed (R37). -/
def surveySupplies (supplies : List Nat) (s : State) : List Upd :=
  supplies.zipIdx.map (fun x => .emit (s.surveyRec (srcOf 0xE 0) 0 x.2 x.1)) ++
  (List.range 2).map (fun f => .emit (s.surveyRec (srcOf 0x9 f) 1 f (convSpan 8000 (s.rd (Sig.fedVin f)))))

/-- Causes whose cold reset the OR8 ordered itself (R507). -/
def selfOrdered (cause : Nat) : Bool := cause == 3 || cause == 4 || cause == 5

/-- A cold reset of a cause (R546, R547), and what it finds: tray time is 0, and the ROM runs. A thermal shutdown that the island has latched runs on
through it, with its cause and the time that has passed (R352; DEDUCED, log 218). -/
def coldReset (cause bad strap : Nat) (lpHeld : Bool) (supplies : List Nat) (s : State) : State :=
  let keep := lpHeld && selfOrdered cause && s.rd MEM_STAT.lp_state == 3
  let hot := s.rd V.thermAt != 0 && !s.on V.thermHold && s.on V.auxUp
  let t := ((flashesStop s).does planesReset).run
    ([.set CRP_CAUSE.cold (if hot then s.rd CRP_CAUSE.cold else cause), .set CRP_RSTCNT.cold (s.rd CRP_RSTCNT.cold + 1), setB V.lpKeep keep, .set V.lpGoodOld (s.rd V.lpGood),
     .set MEM_STAT.lp_state 1, .set TWI_STRAP.strap strap, .set V.standby 0, .set V.thermHold 0, .set V.auxUp 1] ++
     onlyIf hot [.set V.thermAt 1, .set V.thermGone (s.rd V.thermGone + s.now - (s.rd V.thermAt - 1))] ++
     (List.range 48).map (fun c => Upd.set (MEM_LPCH.state c) (if bit (s.rd V.lpFailed) c then 3 else 1)))
  romStart bad (t.does (surveySupplies supplies))

/-- Every plane is held in cold reset (R352, R543). -/
def holdPlanes (s : State) : State := ((flashesStop s).does planesReset).run ((List.range 4).map (fun p => .set (V.planeHeld p) 1))

/-- AUX12 rises (R545, R546): what the island kept is lost first. -/
def islandReset (s : State) : State :=
  s.run (islandFields.map (fun f => if f = V.freeCtr then .set f (s.rd f) else .set f f.reset) ++
    [.memu {}, .ue [], .set V.powerWipe 0x1F, .set V.lpFailed 0, .set V.rtcPart 0, .set MEM_STAT.lp_state 0])

/-! Management reset (R546, R550). -/

/-- A slot's custody registers: the reset gate's own fields and state stay (R380). -/
def mgmtCustody (n : Nat) : List Upd :=
  [.set (ACU_SCFG.gold n) 0xFF, .set (ACU_SCFG.auto_reflash n) 0, .resetRegs (0xC0_100C + 0x100 * n) (0xC0_1030 + 0x100 * n), .set (V.flashKnown n) 0]

/-- KPR and IMG; an unlock, the trial counts and the svn of the structure image that stays committed (R17, R406) stay (R432, R527). -/
def mgmtKeeper (s : State) : List Upd :=
  [.resetRegs 0xD0_0000 0xE0_0000, .resetRegs 0xE0_0000 0xF0_0000, .set IMG_TRIAL.structure_ (s.rd IMG_TRIAL.structure_),
   .set IMG_TRIAL.service (s.rd IMG_TRIAL.service), .set IMG_TRIAL.keeper (s.rd IMG_TRIAL.keeper), .set KPR_LCSTAT.unlocked (s.rd KPR_LCSTAT.unlocked),
   .set KPR_KEYLOCK.all_use (s.rd KPR_LCSTAT.unlocked), .set (KPR_SVN.svn 2) (s.rd (KPR_SVN.svn 2))]

/-- HIF and the controller ports; the PCI Express core, the rings, the DMA engines and the target ports stay (R450, R473). -/
def mgmtHost : List Upd :=
  [.set HIF_STAT.ready 0, .resetRegs 0xF0_0004 0xF0_000C, .set HIF_CTL.svc_core 1, .set HIF_CTL.flr_release 0, .resetRegs 0xF0_001C 0xF0_0030,
   .resetRegs 0xF0_0100 0xF0_0380, .set (V.rcvBusy 0) 0, .set (V.rcvBusy 1) 0, .resetRegs 0x100_1200 0x100_2000]

/-- PMC and the TAM selections; the instruction in force and an unlock stay (R529, R531). -/
def mgmtTest (s : State) : List Upd :=
  [.resetRegs 0x120_0000 0x128_0000, .set TAM_STAT.busy 0, .set TAM_STAT.refused 0, .set TAM_STAT.code 0, .resetRegs 0x128_0004 0x130_0000,
   .resetRegs 0x1_0120_0000 0x1_0130_0000, .set V.pmcOff 0, .set V.snapOwed 0, .set V.bwFrom ((s.now / 4000000 + 1) * 4000000), .set V.tokHeld 0,
   .set V.tokPath 0, .set V.msixNew 0, .pmu { evts := [], seqSeen := s.firn.clsSeq, lostSeen := s.firn.lostEver, bw := [] }]

/-- The management plane's registers and scalars return to reset (R546). -/
def mgmtRegs (s : State) : List Upd :=
  .resetRegs 0 0x10_0000 :: .resetRegs 0xC0_0000 0xC0_0008 :: ((List.range 8).flatMap mgmtCustody ++ mgmtKeeper s ++ mgmtHost ++ mgmtTest s)

/-- A plane is held in reset for some ticks of tray time (R35). -/
def holdPlane (p ticks : Nat) (s : State) : List Upd := [.set (V.planeHeld p) 1, .set (V.heldUntil p) (s.now + ticks + 1)]

/-- The management reset is released (R550): the wipe of management SRAM starts and the ROM runs. -/
def mgmtRelease (s : State) : State :=
  romStart (s.rd V.heldBad) (s.run [.set (V.planeHeld 3) 0, .set (V.heldUntil 3) 0, .wipe 0xF000_0000 0x1_0000_0000,
    .set MEM_STAT.wipe (setBit (s.rd MEM_STAT.wipe) 4)])

/-- The resets of single planes that have run their time end (R550; DESIGN CHOICE for the prediction plane, log 173). After a power-fail warning the
ROM does not start: the management plane waits for the cold reset of R556 (R557). -/
def releasePlanes (s : State) : State :=
  let due (p : Nat) : Bool := s.on (V.planeHeld p) && s.rd (V.heldUntil p) != 0 && decide (s.rd (V.heldUntil p) ≤ s.now + 1)
  let t := if due 1 then s.run [.set (V.planeHeld 1) 0, .set (V.heldUntil 1) 0] else s
  if due 3 && !t.on CRP_PFSTAT.warn then mgmtRelease t else t

/-- A management reset of a cause, with the cores that fail their self-test at the start that follows (R546, R550): the plane is held for
10 µs. Staged orders stay, and a BLOCK_STAMP of the reset gate with them (R55, R76; DESIGN CHOICE, log 212). -/
def mgmtReset (cause bad : Nat) (s : State) : State :=
  let t := if s.txBusy && isCore s.txOwner then s.does (txAbortWith 7 0) else s
  let u := stopEngines 3 (custodyMgmtReset t)
  let v := u.run [crpNote Ty.RESET [(24, 1, 1), (25, 1, cause), (28, 4, u.rd CRP_RSTCNT.mgmt + 1)], .firn { u.firn with held := [] }]
  let w := (v.memu.copies.filter (fun e => v.regionOf e.1 == some 4)).foldl (fun x e => x.does (repairEnd 1 e.1)) v
  ((w.does mgmtRegs).run
    [.set CRP_CAUSE.mgmt cause, .set CRP_RSTCNT.mgmt (w.rd CRP_RSTCNT.mgmt + 1), .set CRP_EVT.mreset 1, .set CRP_WDOGCFG.en 0,
     .set CRP_RSTCTL.mgmt 0, .set CRP_RSTCTL.key_ 0, .set V.heldBad bad]).does (holdPlane 3 40000)

/-! Prediction reset (R546). -/

/-- Staged writes of PRD are discarded, one record for each stamp (R55); its stamp registers are reset (R10, R76). -/
def cancelPrd (s : State) : State :=
  let gone := s.staging.vals.filter (fun v => v.blk == 0x50_0000)
  let t := ((gone.map (fun v => (v.req, v.stamp))).dedup).foldl (fun t e => t.does (cancelStage e.1 0x50_0000 2 e.2)) s
  t.run [.staging { t.staging with stamps := t.staging.stamps.filter (fun x => x.blk != 0x50_0000) }]

/-- A prediction reset (R546, R547): PRD and the step indices return to reset, and the Moraine is to be wiped. The models of the
committed image stand. The plane is held until the next boundary (DESIGN CHOICE, log 173). -/
def predReset (s : State) : State :=
  let t := (cancelPrd s).run
    ((List.range 8).flatMap (fun n => onlyIf (s.rd (PRD_SSTAT.state n) != PrdS.off) [prdStateRec n PrdS.off 5 s]) ++
     [crpNote Ty.RESET [(24, 1, 2), (25, 1, 0x40), (28, 4, s.rd V.predResets + 1)], bump s V.predResets, .set CRP_CAUSE.pred 0x40,
      .set CRP_RSTCTL.pred 0, .set CRP_RSTCTL.key_ 0, .resetRegs 0x50_0000 0x60_0000, .resetRegs 0x1_00D0_0000 0x1_00D1_0000, .wipe 0x4000_0000 0xC000_0000,
      .set MEM_STAT.wipe (setBit (s.rd MEM_STAT.wipe) 1)] ++ (List.range 8).map (fun n => .prd n {}))
  ((t.doEach (List.range 8) (modelCommit (fun _ => none))).does prdStat).does (holdPlane 1 (4000 - s.now % 4000))

/-! Standby (R543-R545). -/

/-- Why standby is refused (R543); 0 where it is accepted. -/
def State.standbyCode (s : State) : Nat :=
  if (List.range 16).any (fun g => s.grp g != GrpS.off && s.grp g != GrpS.fault) then 1
  else if (List.range 16).any (fun c => !([FedS.off, FedS.tripped, FedS.damaged].contains (s.fed c))) then 2
  else if s.on Sig.perstOff then 3
  else if s.txBusy || s.on IMG_STAT.busy || (List.range 8).any (fun n => s.on (ACU_CMDSTAT.busy n)) then 4
  else if s.rd CRP_WAKEEN.en = 0 then 5 else 0

/-- A write of CRP_SBCTL.enter is judged at the boundary (R543). -/
def standbyJudge (s : State) : List Upd :=
  let code := s.standbyCode
  if !s.on V.sbAsk then []
  else if code = 0 then [crpNote Ty.STANDBY [(24, 1, 2), (25, 1, 0), (26, 1, s.rd CRP_WAKEEN.en)], .set V.sbAsk 0, .set V.sbAt (s.now + 1)]
  else [.set V.sbAsk 0, .set CRP_SBSTAT.code code, .set CRP_EVT.sb_refused 1, crpNote Ty.STANDBY [(24, 1, 1), (25, 1, code), (26, 1, s.rd CRP_WAKEEN.en)]]

/-- The presence pins, one bit a slot. -/
def State.presence (s : State) : Nat := maskOf 8 (fun n => s.on (Sig.present n))

/-- The island holds every plane, turns the supplies off and drives the fans at THM_SBDUTY (R543, R544, R368). -/
def standbyHold (s : State) : State :=
  let duty := s.rd THM_SBDUTY.duty * 10
  (holdPlanes s).run ([Upd.set V.standby 1, .set V.prsThen s.presence, .set V.prsNow s.presence, .set CRP_SUPSTAT.supply_en 0, .set CRP_SUPSTAT.supply_pg 0, .set CRP_PLLSTAT.run 0, .set V.pllLock 0] ++
    (List.range 20).map (fun f => .set (THM_CHDUTY.duty f) duty))

/-! Clocks (R538-R540). -/

/-- A PLL runs (R538). PLLs 0 and 1 run outside standby. -/
def State.pllRuns (s : State) (k : Nat) : Bool :=
  let lit (i : Nat) : Bool := (s.lane i).stage != 0
  if s.on V.standby then false
  else if k < 2 then true
  else if k = 2 then (List.range 8).any (fun n => lit (primaryLane n))
  else if k = 3 then (List.range 8).any (fun n => lit (spareLane n))
  else if k = 4 then (List.range 5).any (fun m => s.on (JOB_LCFG.en m))
  else if k = 5 then s.rd MEM_STAT.lp_state != 0
  else if k = 6 then s.on Sig.perstOff && s.on Sig.refclk
  else k == 7 && (s.on IMG_STAT.busy || (List.range 8).any (fun n => s.on (ACU_CMDSTAT.busy n)))

/-- CRP_PLLSTAT shows the PLLs that run and have locked. -/
def pllStat (s : State) : List Upd :=
  let run := maskOf 8 s.pllRuns
  let lock := maskOf 8 (fun k => bit run k && bit (s.rd V.pllLock) k)
  [.set CRP_PLLSTAT.run run, .set V.pllLock lock, .set CRP_PLLSTAT.lock lock]

/-- A PLL other than PLL 0 loses lock (R539). -/
def pllLost (k : Nat) (s : State) : List Upd :=
  [.set V.pllLock (clearBit (s.rd V.pllLock) k), .set CRP_PLLSTAT.lock (clearBit (s.rd CRP_PLLSTAT.lock) k), bump s CRP_PLLLOSS.count, .set CRP_EVT.pll 1,
   crpNote Ty.CLOCK_EVENT [(24, 1, k), (25, 1, 2)]]

/-! Power fail (R554, R557). -/

/-- The warning: recorded, the open transaction aborts, the shutdown of R316 begins, and DMA, prediction and LPDDR5X stop. While the island
holds every plane there is nothing else to stop (R20). -/
def powerFail (ext : Bool) (aux12 : Nat) (ledger : Bool) (s : State) : State :=
  let t := s.run [.set CRP_PFSTAT.warn 1, setB CRP_PFSTAT.ext ext, .set CRP_PFSTAT.aux12 aux12, .set V.pfAt (s.now + 1),
    crpNote Ty.POWER_FAIL [(24, 1, if ext then 2 else 1), (26, 2, aux12), (28, 1, ofBool ledger)]]
  let u := if t.txBusy then t.does (txAbortWith 9 0) else t
  if s.on (V.planeHeld 0) then t else (beginShutdown 1 u).run [.set MEM_STAT.lp_state 0]

/-- The island watches AUX12 at each boundary, in standby too (R20, R556). -/
def auxWatch (s : State) : List Upd := since V.auxBack (decide (950 ≤ s.rd Sig.aux12)) s

/-- What the island watches of its supplies at a boundary (R537, R556). -/
def islandPower (s : State) : List Upd :=
  onlyIf (s.on CRP_SUPSTAT.supply_en) [.set CRP_SUPSTAT.supply_pg (s.rd Sig.supplyPg)] ++
  since V.supLow (s.on CRP_SUPSTAT.supply_en && !s.on Sig.supplyPg) s ++ auxWatch s

/-! Crossings (R553). -/

/-- A crossing's wander is measured: beyond 900 ps an alarm, recorded at its start and its end. -/
def xingMeasure (x : Nat) (w : Int) (s : State) : List Upd :=
  let peak := max (s.rd (CRP_XWANDER.peak x)) w.natAbs
  let bad := decide (900 < w.natAbs)
  [.set (CRP_XWANDER.peak x) peak, setISat (CRP_XWANDER.now x) w, setB (V.xingOn x) bad] ++
  onlyIf (bad && !s.on (V.xingOn x)) [.set CRP_EVT.xing 1, crpNote Ty.XING [(24, 1, x), (25, 1, 1), (26, 2, ofSigned 16 w)]] ++
  onlyIf (!bad && s.on (V.xingOn x)) [crpNote Ty.XING [(24, 1, x), (25, 1, 2), (26, 2, ofSigned 16 w)]]

end Sys2Proof.Machine
end

