-- ==== Sys2Proof/Machine/Tap.lean ====
section
/-! DEFINITION. Test access (R524-R532): the multiplexers, the unlock and the TAP controller's instructions. -/

namespace Sys2Proof.Machine

/-- A record of TAM (R532). -/
def tamNote (typ : Nat) (pay : List (Nat × Nat × Nat)) : Upd := note typ (srcOf 0xB 0) pay

/-- Private access is open without a token in TEST and RMA, and otherwise while unlocked (R527). -/
def State.openState (s : State) : Bool := s.lifecycle == 0 || s.lifecycle == 3
def State.privateOpen (s : State) : Bool := s.openState || ((s.lifecycle == 1 || s.lifecycle == 2) && s.on KPR_LCSTAT.unlocked)

/-- Private access opens until the next cold reset (R400, R527, R528). -/
def unlockNow : List Upd := [.set TAM_STAT.unlocked 1, .set KPR_LCSTAT.unlocked 1, .set KPR_KEYLOCK.all_use 1]

/-- A TEST_UNLOCK record: code of R528, path, and the bytes of the key identifier. -/
def unlockNote (code path key : Nat) (s : State) : Upd :=
  tamNote Ty.TEST_UNLOCK [(24, 1, code), (25, 1, path), (26, 1, s.lifecycle), (28, 16, key)]

/-- The first private use in TEST or RMA counts as an unlock (R527). -/
def privateUse (s : State) : List Upd := onlyIf (s.openState && !s.on KPR_LCSTAT.unlocked) (unlockNow ++ [unlockNote 0 2 0 s])

/-- A selection or an instruction is refused (R526, R529, R532). -/
def testRefuse (code pin ir word : Nat) : List Upd :=
  [.set TAM_STAT.refused 1, .set TAM_EVT.refused 1, tamNote Ty.TEST_REFUSED [(24, 1, code), (25, 1, pin), (26, 1, ir), (28, 4, word)]]

/-- Class of a DTEST source (R524): 1 public, 2 private, 0 none. -/
def dtestClass (group index : Nat) : Nat :=
  if group = 1 then (if index < 3 then 1 else 0)
  else if group = 2 then (if index < 8 then 1 else 0)
  else if group = 3 then (if index < 320 then 1 else 0)
  else if group = 6 then (if index < 128 then 1 else 0)
  else if group = 4 then (if index < 8 then 2 else 0)
  else if group = 5 then (if index < 4096 then 2 else 0) else 0

/-- Class of an ATEST source (R525). -/
def atestClass (source : Nat) : Nat :=
  if source = 1 || source = 2 then 1
  else if (0x10 ≤ source && source < 0x14) || (0x20 ≤ source && source < 0x24) || source = 0x30 || source = 0x31 || (0x40 ≤ source && source < 0x48) then 2 else 0

/-- Why a source may not be selected (R526, R527, R532): 0 where it may. A source of no class is not permitted. -/
def State.sourceRefused (s : State) (cls : Nat) : Nat :=
  if s.lifecycle = 4 then 4 else if cls = 1 || (cls = 2 && s.privateOpen) then 0 else 1

/-- A write of TAM_DSEL[k] (pin k) or TAM_ASEL[a] (pin 8 + a). A pin that is not driven selects no source. -/
def muxSelect (pin value : Nat) (s : State) : State :=
  let cls := if pin < 8 then dtestClass (bits value 12 4) (bits value 0 12) else atestClass (bits value 0 8)
  let code := if bit value 31 then s.sourceRefused cls else 0
  if code ≠ 0 then s.run (testRefuse code pin 0 value)
  else if pin < 8 then
    (if bit value 31 && cls == 2 then s.does privateUse else s).run
      [.set (TAM_DSEL.en pin) (bits value 31 1), .set (TAM_DSEL.group pin) (bits value 12 4), .set (TAM_DSEL.index pin) (bits value 0 12)]
  else
    (if bit value 31 && cls == 2 then s.does privateUse else s).run
      [.set (TAM_ASEL.en (pin - 8)) (bits value 31 1), .set (TAM_ASEL.index (pin - 8)) (bits value 8 8), .set (TAM_ASEL.source (pin - 8)) (bits value 0 8)]

/-- The level of DTEST[k] where it is a level of State (R524): brake flag, power-good, cell; low where it is not driven. Strobes, PWM
and clocks run inside a tick and have none. -/
def State.dtest (s : State) (k : Nat) : Option Bool :=
  let i := s.rd (TAM_DSEL.index k)
  if !s.on (TAM_DSEL.en k) then some false
  else if s.rd (TAM_DSEL.group k) = 2 then some (s.on (PHT_RSTAT.brake (railTile i) (railLocal i)))
  else if s.rd (TAM_DSEL.group k) = 6 then some (s.on (SEQ_RSTAT.pg i))
  else if s.rd (TAM_DSEL.group k) = 5 then some (tableGet 0 s.fab.prev i != 0)
  else none

/-! The unlock (R528). -/

/-- A go of a path, with its token: the first path owns the check. -/
def unlockGo (path : Nat) (tok : List Nat) (s : State) : State :=
  if s.on TAM_STAT.busy then s.run [.set TAM_STAT.code 6, .set TAM_EVT.unlock 1, unlockNote 6 path 0 s]
  else s.run [.set TAM_STAT.busy 1, .set V.tokHeld (ofLe tok), .set V.tokPath path]

/-- The keeper runs, or the ROM waits at stage 4. -/
def State.tokenChecker (s : State) : Bool :=
  (s.rd KPR_BOOT.stage == Stage.running || s.rd KPR_BOOT.stage == Stage.services || s.rd KPR_BOOT.stage == Stage.waiting) && !s.on (V.planeHeld 3)

/-- The check ends: accepted, private access opens and the nonce is drawn anew. -/
def tokenDone (s : State) : State :=
  let tok := leBytes 3076 (s.rd V.tokHeld)
  let code := if s.lifecycle = 1 || s.lifecycle = 2 then s.tokenCode tok 3 (fun _ => true) else 5
  let key := if code = 1 || code = 5 then 0 else leAt tok 60 16
  let t := s.run [.set TAM_STAT.busy 0, .set TAM_STAT.code code, .set TAM_EVT.unlock 1, unlockNote code (s.rd V.tokPath) key s]
  if code = 0 then (t.run unlockNow).does freshNonce else t

/-! The TAP controller (R529, R530). -/

/-- The tray is idle (R530). -/
def State.testIdle (s : State) : Bool :=
  s.trayIdle && (List.range 18).all (fun r => s.rd (rState r) == RailS.off) && (List.range 16).all (fun c => s.fed c == FedS.off)

/-- Instructions that need an idle tray, and those that R529 lists. -/
def tapHolds (ir : Nat) : Bool := ir == 0x00 || ir == 0x03 || ir == 0x04 || ir == 0x30 || ir == 0x31
def tapKnown (ir : Nat) : Bool := tapHolds ir || ir == 0x01 || ir == 0x02 || ir == 0x10 || ir == 0x20

/-- Why an instruction is loaded as BYPASS (R527, R529, R532); 0 where it takes effect. -/
def State.tapRefused (s : State) (ir : Nat) : Nat :=
  if ir = 0x02 then 0
  else if s.lifecycle = 4 then 2
  else if ir = 0x01 || ir = 0x10 then 0
  else if !s.privateOpen then 2
  else if tapHolds ir && !s.testIdle then 3 else 0

/-- The PROTECT orders of R530 begin or end. -/
def tapProtect (on : Bool) (s : State) : State :=
  if on then
    protectHoldAll ((List.range 16).map (fun g => ⟨.tap, Blk.seq, Tgt.groupPwr, g, 0⟩) ++ (List.range 2).map (fun f => ⟨.tap, Blk.fed, Tgt.chEn, f, 0⟩)) s
  else protectDropAll .tap s

/-- An instruction comes into force in place of the one before; leaving MBIST or SCAN asks for a cold reset (R530). -/
def tapLoad (ir : Nat) (s : State) : State × Bool :=
  let old := s.rd TAM_STAT.ir
  let t := s.run [.set TAM_STAT.ir ir]
  let u := if tapHolds ir == tapHolds old then t else tapProtect (tapHolds ir) t
  (u, (old == 0x30 || old == 0x31) && ir != old)

/-- An instruction code is shifted in (R529): what comes into force, and what is recorded. -/
def tapInstruction (code : Nat) (s : State) : State × Bool :=
  if !tapKnown code then tapLoad 0xFF s
  else
    let why := s.tapRefused code
    if why ≠ 0 then tapLoad 0xFF (s.run (testRefuse why 0xFF code 0))
    else tapLoad code (if tapHolds code || code == 0x20 then s.does privateUse else s)

end Sys2Proof.Machine
end

