-- ==== Sys2Proof/Machine/Job.lean ====
section
/-! DEFINITION. Timing lanes, the discipline loop, the huddle, tip-off, replay and lockstep (R44-R47 and chapter 8). -/

namespace Sys2Proof.Machine

/-- Discipline states (R44). -/
def Disc.free : Nat := 0
def Disc.root : Nat := 1
def Disc.acquire : Nat := 2
def Disc.locked : Nat := 3
def Disc.holdover : Nat := 4

/-- src of JOB's records that name no lane. -/
def jobSrc : Nat := srcOf 0x7 0xFFF

/-- The lane that carries the up link, as TIM_DISC.lane shows it. -/
def State.upLane (s : State) (m : Nat) : Nat := if s.on (JOB_LSTAT.on_spare m) then 4 else m

/-- The discipline loop changes state (R44, R65, R271). Job time is valid while the tray is the root or locked to it. -/
def discTo (new lane : Nat) (s : State) : List Upd :=
  let old := s.rd TIM_DISC.state
  if old = new then []
  else
    [.set TIM_DISC.state new, setB TIM_DISC.valid (new == Disc.root || new == Disc.locked), .set TIM_DISC.lane lane, .set V.discGood 0, .set V.discBad 0,
     .set V.discMissing 0, .set V.lockedSince (if new = Disc.locked then s.now + 1 else 0), setB JOB_STAT.settled (new == Disc.root),
     note Ty.TIME_EVENT (srcOf 1 0) [(24, 1, old), (25, 1, new), (26, 1, lane), (28, 4, s.rd TIM_PHERR.err), (32, 4, s.rd TIM_RATE.ppb)]] ++
    onlyIf (new == Disc.root || new == Disc.free) [.set TIM_RATE.ppb 0]

/-- The one step of the offset: on entry to ACQUIRE with a phase error beyond 1 µs (R45). `err` is in 10 ps. -/
def timeStep (err : Int) (lane : Nat) (s : State) : List Upd :=
  let old := s.rdI TIM_JOBOFS.ofs
  let new := old + divOpenI err 25
  onlyIf (decide (100000 < err.natAbs))
    [setI TIM_JOBOFS.ofs new, note Ty.TIME_STEP (srcOf 1 0) [(24, 1, Disc.acquire), (25, 1, lane), (28, 4, ofSigned 32 (satSigned 32 err)),
      (32, 8, ofSigned 64 old), (40, 8, ofSigned 64 new)]]

/-- Job time, in 1/1,024 tick, of an arrival in 10 ps of tray time. -/
def State.arrivalJob (s : State) (arrive : Nat) : Int := divOpen (arrive * 1024) 25 + s.rdI TIM_JOBOFS.ofs * 1024

/-- A rate correction, which the spec bounds and does not compute (R44). -/
def State.openRate (s : State) : Int := (s.free % 200001 : Nat) - 100000

/-- A valid time word of the up lane m (R44, R45, R268, R269): the phase error, the entry to ACQUIRE, and the rate. -/
def timeWord (m : Nat) (g : GotMsg) (s : State) : State :=
  let n := 8 + m
  let l := s.link n
  let t1 := g.msg.get 8 8 * 1024 + g.msg.get 16 2
  let t2 := s.arrivalJob g.arrive
  let err : Int := divOpenI (((t1 : Int) - t2) * 25) 1024 + s.rd (JOB_LDELAY.delay m)
  let st := s.rd TIM_DISC.state
  let u := s.run [.link n { l with t1 := t1, t2 := t2.toNat, depth := g.msg.get 19 1 }]
  if st = Disc.root then u
  else
    let v := u.run [setISat TIM_PHERR.err err, setI V.pherr err, .set V.discSeen 1]
    if st = Disc.free || st = Disc.holdover then (v.does (discTo Disc.acquire (s.upLane m))).does (timeStep err (s.upLane m))
    else v.run [setI TIM_RATE.ppb s.openRate, freeUsed s]

/-- Control ticks in the second that HOLDOVER's mean covers, and the places that hold the running sum of the rate correction (R44). -/
def rateSpan : Nat := 1000000
def rateRoom : Nat := 2 ^ 20

/-- The running sum of the rate correction up to the end of tick k; 0 before tick 0. -/
def State.rateSum (s : State) (k : Int) : Nat := if k < 0 then 0 else s.rd (V.rateCum (k.toNat % rateRoom))

/-- The mean rate correction of the last second, of the ticks that have ended (R44); since cold reset where that is less. -/
def State.meanRate (s : State) : Int :=
  let n := min s.tick rateSpan
  divOpenI (toSigned 64 ((s.rateSum (s.tick - 1) + 2 ^ 64 - s.rateSum ((s.tick : Int) - 1 - n)) % 2 ^ 64)) n

/-- The loop's counts at the end of a control tick (R44). -/
def discTick (s : State) : List Upd :=
  let st := s.rd TIM_DISC.state
  let e := (s.rdI TIM_PHERR.err).natAbs
  let seen := s.on V.discSeen
  let sum := Upd.set (V.rateCum (s.tick % rateRoom)) (s.rateSum (s.tick - 1) + ofSigned 64 (s.rdI TIM_RATE.ppb))
  if st = Disc.free || st = Disc.root then [.set V.discSeen 0, sum]
  else
    [sum, .set V.discSeen 0, .set V.discMissing (if seen then 0 else min 1000 (s.rd V.discMissing + 1)),
     .set V.discGood (if seen && e ≤ 10 && st == Disc.acquire then min 100000 (s.rd V.discGood + 1) else 0),
     .set V.discBad (if seen && 50 < e && st == Disc.locked then min 1000 (s.rd V.discBad + 1) else 0)]

/-- The tray stops being settled (R286): standing tip-offs are reported. -/
def unsettle (s : State) : State :=
  if s.on JOB_STAT.settled then s.doEach (List.range 8) (cancelTips · 3) else s

/-- What the committed configuration asks of the discipline loop (R44, R266, R286); the up role may have moved to another lane that runs (R75). -/
def discConfig (s : State) : State :=
  let st := s.rd TIM_DISC.state
  let up := (List.range 5).any (fun m => s.on (JOB_LCFG.en m) && s.rd (JOB_LCFG.role m) == 1)
  if s.on JOB_CTL.tree_root then s.does (discTo Disc.root 0)
  else if st = Disc.root || (st != Disc.free && !up) then (unsettle s).does (discTo Disc.free 0)
  else s.run ((List.range 5).flatMap (fun m => onlyIf (s.rd (lkState (8 + m)) == LinkS.run) (showUpLane (8 + m) s)))

/-- The parent's answer to a TIME_UP (R269): when it arrived, in the parent's job time. -/
def timeUp (m : Nat) (g : GotMsg) (s : State) : List Upd :=
  let t4 := (s.arrivalJob g.arrive).toNat
  queueMsg (8 + m) TmlT.delay (msgBytes [(8, 8, t4 / 1024), (16, 2, t4 % 1024)]) s

/-- The SURVEY record of JOB_LDELAY (R269): item 6 too, without the bounds, which are the round trip's (DESIGN CHOICE, log 176). -/
def delayRec (m d : Nat) : Rec := { typ := Ty.SURVEY, src := srcOf 7 m, pay := [(24, 1, 6), (28, 2, m), (32, 4, d)] }

/-- The round trip of an up lane from its four times (R269, R280). -/
def laneRtt (m : Nat) (g : GotMsg) (s : State) : State :=
  let n := 8 + m
  let l := s.link n
  let t4 := g.msg.get 8 8 * 1024 + g.msg.get 16 2
  let rtt : Int := divOpenI ((((l.t2 : Int) - l.t1) + ((t4 : Int) - l.t3)) * 25) 1024
  let delay := divOpenI rtt 2 + s.rdI (JOB_LCFG.asym m)
  let r := satUnsigned 32 rtt
  let d := satUnsigned 32 delay
  let t := s.run [.set (JOB_LRTT.rtt m) r, .set (JOB_LDELAY.delay m) d, .link n { l with t4 := t4 }, .emit (s.surveyRec (srcOf 7 m) 6 m r), .emit (delayRec m d)]
  let u := t.run (onlyIf (decide (100 * s.rd JOB_HOP.t_hop < d + 40000))
    [.set JOB_EVT.hop 1, note Ty.HOP_LATE (srcOf 7 m) [(24, 1, m), (28, 4, d), (32, 4, s.rd JOB_HOP.t_hop)]])
  if s.surveyResponse 6 m r = 3 then holdDown n 0 u else u

/-! The huddle. -/

/-- Ticks of job time in an epoch (100 µs), and its end. -/
def epochTicks : Nat := 400000
def epochEnd (e : Nat) : Nat := epochTicks * (e + 1)

/-- The class of a number of accelerators (R282). -/
def jobClass (acc : Nat) : Nat :=
  if acc = 0 then 0 else if acc ≤ 8 then 1 else if acc ≤ 64 then 2 else if acc ≤ 512 then 3 else if acc ≤ 2048 then 4
  else if acc ≤ 8192 then 5 else if acc ≤ 16384 then 6 else 7

/-- Slots of a job. -/
def JobRun.slotList (r : JobRun) : List Nat := bitsOf 8 r.slots

/-- A tray's own contribution (R275). -/
def State.ownReport (s : State) (j : Nat) (r : JobRun) : Report :=
  let ns := r.slotList
  let offer := ns.foldl (fun a n => min a (s.offered n)) 0xFF
  let ready := s.on (JOB_JTIPCTL.arm j) && s.on JOB_STAT.settled && ns.all (fun n => s.rd (lkState n) == LinkS.run && s.rd (rState n) == RailS.regulating)
  let dem := ((s.rd CAP_PIN.p : Int) - s.rd CAP_ENVA.a).natAbs / 1000
  ⟨0, offer, false, ofBool (!ns.isEmpty), 0, ns.length, min 0xFFFF_FFFF dem, ofBool (ready && !ns.isEmpty)⟩

/-- The epoch that ends at or after a moment of job time. -/
def epochAt (t : Nat) : Nat := (t - 1) / epochTicks

/-- Each valid job's contribution as the boundary finds it (R275); that of an epoch's last boundary counts. -/
def jobLatch (s : State) : List Upd :=
  let e := epochAt s.jobNow
  ((List.range 8).filter (fun j => (s.job j).valid)).map (fun j =>
    .job j { s.job j with latched := ((e, s.ownReport j (s.job j)) :: (s.job j).latched.filter (fun x => x.1 != e)).take 2 })

/-- The contribution of epoch e (R275, R288); with no boundary in the epoch, as things stand. -/
def State.contribution (s : State) (e j : Nat) (r : JobRun) : Report :=
  match r.latched.find? (fun x => x.1 == e) with
  | some x => x.2
  | none => s.ownReport j r

/-- Depth of this tray below a job's root (R276): the tree depth of the root's tray, which no register holds, is a FREE VALUE (log 84). -/
def State.jobDepth (s : State) (r : JobRun) : Nat := s.rd JOB_CTL.depth - Config.rootDepth r.key

/-- A descriptor as its registers give it. -/
def State.descriptor (s : State) (j : Nat) (r : JobRun) : JobRun :=
  { r with valid := s.on (JOB_JCFG.valid j), root := s.on (JOB_JCFG.root j), d := s.rd (JOB_JCFG.d j), parent := s.rd (JOB_JCFG.parent j),
           children := s.rd (JOB_JCFG.children j), slots := s.rd (JOB_JCFG.slots j), key := s.rd (JOB_JKEY.key_ j), missLimit := s.rd (JOB_JKEY.miss_limit j),
           sub := s.rd (JOB_JSUB.sub j), totAcc := s.rd (JOB_JTOT.acc j), totTrays := s.rd (JOB_JTOT.trays j), envUp := s.rd (JOB_JENV.up j), envDown := s.rd (JOB_JENV.down j),
           init := s.rd (JOB_JKEY.init_ j), lead := s.rd (JOB_JTIPCTL.lead j) }

/-- The classes of the slots of a job follow the class in force (R282). -/
def classSlots (r : JobRun) (c : Nat) : List Upd := r.slotList.map (fun n => .set (V.slotClass n) c)

/-- The end of epoch e for one descriptor (R273, R275, R288): its contribution is latched, or a new descriptor takes effect. -/
def epochJob (e j : Nat) (s : State) : List Upd :=
  let r := s.job j
  let now' := s.descriptor j r
  let nextOpen (x : JobRun) : JobRun := { x with epoch := e, reports := [], sent := false, taken := false, lost := false }
  if now' = r then
    (if r.valid then [.job j (nextOpen { r with own := some (s.contribution e j r) }), .set (JOB_JRES.offer j) (s.contribution e j r).offer] else [])
  else
    let fresh := s.descriptor j { epoch := e, sent := true, taken := true }
    let c := jobClass fresh.totAcc
    if !fresh.valid then [.job j {}, .set (JOB_JRES.detached j) 0]
    else
      [.job j fresh, .set (JOB_JRES.index j) fresh.init, .set (JOB_JRES.class_ j) c, .set (JOB_JEXCL.trays j) 0, .set (JOB_JRES.detached j) 0] ++ classSlots fresh c

/-- Slots in no job go back to class 0 (R282); JOB_STAT.valid shows the descriptors in force. -/
def freeSlots (s : State) : List Upd :=
  ((List.range 8).filter (fun n => (s.jobOf n).isNone)).map (fun n => Upd.set (V.slotClass n) 0) ++
  [.set JOB_STAT.valid (maskOf 8 (fun j => (s.job j).valid))]

/-- The envelope shares of the jobs together bound the tray's slopes (R182, R283). -/
def shareSum (s : State) : List Upd :=
  let js := (List.range 8).filter (fun j => (s.job j).valid && (s.job j).shared)
  [setB V.jobEnvBound (!js.isEmpty), .set V.jobEnvUp (js.foldl (fun a j => a + (s.job j).shareUp) 0), .set V.jobEnvDown (js.foldl (fun a j => a + (s.job j).shareDown) 0)]

/-- The end of an epoch on every descriptor. -/
def epochAll (e : Nat) (s : State) : State :=
  (((s.run [.set V.epochTaken (e + 1)]).doEach (List.range 8) (epochJob e)).does freeSlots).does shareSum

/-- Trays that a detached child stands for (R281): sub less this tray and what its other lanes last reported. -/
def JobRun.lost? (r : JobRun) (m : Nat) : Nat :=
  r.sub - ofBool (r.slots != 0) - ((bitsOf 5 r.children).filter (fun x => x != m && !bit r.detached x)).foldl (fun a x => a + tableGet 0 r.trays x) 0

/-- Trays excluded by the children this tray has detached. -/
def JobRun.excluded (r : JobRun) : Nat :=
  if r.detached = 0 then 0 else min r.sub (r.lost? ((bitsOf 5 r.detached).headD 0))

/-- Sum, saturating at a width. -/
def satSum (w : Nat) (l : List Nat) : Nat := min (2 ^ w - 1) (l.foldl (· + ·) 0)

/-- The aggregate of a tray (R276). -/
def JobRun.aggregate (r : JobRun) : Report :=
  let own := r.own.getD ⟨0, 0xFF, true, 0, 0, 0, 0, 0⟩
  let all := own :: r.reports
  let counted := satSum 16 (all.map (·.counted))
  let excl := satSum 16 (r.excluded :: all.map (·.excluded))
  ⟨0, all.foldl (fun a x => min a x.offer) 0xFF, all.any (·.missing) || decide (counted + excl < r.sub), counted, excl,
   satSum 32 (all.map (·.accs)), satSum 32 (all.map (·.demand)), satSum 16 (all.map (·.ready))⟩

/-- Child lanes that have not reported in this epoch (R276, R281). -/
def JobRun.missingLanes (r : JobRun) : List Nat := (bitsOf 5 r.children).filter (fun m => !r.reports.any (fun x => x.lane == m))

/-- The children's silence is counted at the instant of sending or deciding. -/
def countMisses (j : Nat) (s : State) : List Upd :=
  let r := s.job j
  let miss := r.missingLanes
  let silent := (bitsOf 5 r.children).foldl (fun m x => tablePut 0 m x (if miss.contains x then tableGet 0 m x + 1 else 0)) r.silent
  [.job j { r with silent := silent, sent := true }, .set (JOB_JMISS.count j) (s.rd (JOB_JMISS.count j) + miss.length), .set (JOB_JEXCL.trays j) r.excluded]

/-- A REPORT as a message (R268). -/
def State.reportMsg (s : State) (j : Nat) (r : JobRun) : List Nat :=
  let a := r.aggregate
  let ready := ofBool ((r.own.map (·.ready)).getD 0 == 1)
  msgBytes [(4, 2, r.key), (6, 2, r.epoch), (8, 1, a.offer), (9, 1, ofBool a.missing + 2 * ready), (10, 2, a.counted), (12, 2, a.excluded), (16, 4, a.accs),
    (20, 4, s.rd (JOB_JTIPBAR.barrier j)), (24, 4, a.demand), (28, 2, a.ready)]

/-- A tray's REPORT leaves on the parent lane (R276). -/
def reportSend (j : Nat) (s : State) : State :=
  let r := s.job j
  (s.does (countMisses j)).does (queueMsg (8 + r.parent) TmlT.report (s.reportMsg j r))

/-- The job that a key names on a lane. -/
def State.jobByKey (s : State) (key : Nat) : Option Nat := (List.range 8).find? (fun j => (s.job j).valid && (s.job j).key == key)

/-- A child REPORT is decoded (R276, R281, R288): in time for its epoch it counts, and readmits a detached child. -/
def takeReport (m : Nat) (g : GotMsg) (s : State) : List Upd :=
  match s.jobByKey (g.msg.get 4 2) with
  | none => []
  | some j =>
    let r := s.job j
    if !bit r.children m || r.sent || r.own.isNone || g.msg.get 6 2 != r.epoch % 65536 then []
    else
      let x : Report := ⟨m, g.msg.get 8 1, bit (g.msg.get 9 1) 0, g.msg.get 10 2, g.msg.get 12 2, g.msg.get 16 4, g.msg.get 24 4, g.msg.get 28 2⟩
      let back := bit r.detached m
      let r' := { r with reports := r.reports.filter (fun y => y.lane != m) ++ [x], trays := tablePut 0 r.trays m (x.counted + x.excluded), detached := clearBit r.detached m }
      [.job j r'] ++ onlyIf back [.set JOB_EVT.member 1, .set (JOB_JEXCL.trays j) r'.excluded,
        note Ty.JOB_MEMBER jobSrc [(24, 1, j), (25, 1, m), (26, 1, 2), (28, 2, r'.excluded)]]

/-- A silent child is detached (R281). -/
def childDetach (j m : Nat) (s : State) : List Upd :=
  let r := s.job j
  let r' := { r with detached := setBit r.detached m }
  [.job j r', .set JOB_EVT.member 1, .set (JOB_JEXCL.trays j) r'.excluded, note Ty.JOB_MEMBER jobSrc [(24, 1, j), (25, 1, m), (26, 1, 1), (28, 2, r'.excluded)]]

/-- A RESULT as a message, and back (R268). -/
def JobResult.bytes (r : JobResult) (key : Nat) : List Nat :=
  msgBytes [(4, 2, key), (6, 2, r.epoch), (8, 1, r.index), (9, 1, ofBool r.hold), (10, 1, r.cls), (11, 1, ofBool r.fires), (12, 4, r.accs), (16, 4, r.barrier),
    (20, 8, r.tipT), (28, 4, r.demand)]
def resultOf (e : Nat) (m : Msg) : JobResult :=
  ⟨e, m.get 8 1, bit (m.get 9 1) 0, m.get 10 1, bit (m.get 11 1) 0, m.get 12 4, m.get 16 4, m.get 20 8, m.get 28 4⟩

/-- The TIPOFF of one slot (R153, R284, R286): queued if it leaves 10 µs before X, and then 0. Else 2 where the slot's link or core rail has left its
state since the decision, and 1 where the lead is too short. -/
def tipSlot (j barrier t n : Nat) (s : State) : List Upd × Nat :=
  let x : Nat := s.trayTime t * 250 - s.tipLat n
  let p := s.tipPoint n x
  let l := s.link n
  if !(s.rd (lkState n) == LinkS.run || s.rd (lkState n) == LinkS.switch) || s.rd (rState n) != RailS.regulating then ([], 2)
  else if s.now * 250 + 10000000 ≤ x then
    let l' := l.send MsgT.tipoff (msgBytes [(4, 1, j), (8, 4, barrier), (12, 8, p.1), (20, 1, p.2.1), (22, 2, p.2.2.1), (24, 1, p.2.2.2)])
    ([.link n { l' with tips := l.tips ++ [⟨j, barrier, x / 250, t⟩] }], 0)
  else ([], 1)

/-- The tip-off of a RESULT (R278, R284); that of a tray no longer settled is recorded as such (R286). -/
def tipOff (j : Nat) (res : JobResult) (s : State) : List Upd :=
  let ns := (s.job j).slotList
  let out := ns.map (fun n => tipSlot j res.barrier res.tipT n s)
  let late := (out.filter (·.2 == 1)).length
  let off := (out.filter (·.2 == 2)).length
  let fired := ns.length - late - off
  out.flatMap (·.1) ++ [.set (JOB_JTIPT.t j) res.tipT, .set (JOB_JTIPCTL.arm j) 0, .set JOB_EVT.tipoff 1, tipRec j 0 fired res.barrier res.tipT] ++
  onlyIf (!s.on JOB_STAT.settled && fired != 0) [tipRec j 3 fired res.barrier res.tipT] ++
  onlyIf (off != 0) [tipRec j 2 off res.barrier res.tipT] ++
  onlyIf (decide (0 < late)) [.set JOB_EVT.tip_late 1, tipRec j 1 late res.barrier res.tipT]

/-- The apply-at of an epoch's index (R278). -/
def applyAtOf (e : Nat) : Nat := epochTicks * (e + 1) + 160000

/-- A RESULT for the present epoch is acted on (R278, R291). -/
def takeResult (j : Nat) (res : JobResult) (s : State) : State :=
  let r := s.job j
  let agg := r.aggregate
  let changed := res.hold || res.index != s.rd (JOB_JRES.index j) || res.cls != s.rd (JOB_JRES.class_ j)
  let t := s.run [.job j { r with taken := true, due := some res, noResult := 0 }, .set (JOB_JRES.detached j) 0]
  let u := if res.hold then t.run [.set JOB_EVT.hold 1, bump t (JOB_JHOLDS.count j), .set JOB_STAT.hold (setBit (t.rd JOB_STAT.hold) j)]
    else (t.run [.set JOB_STAT.hold (clearBit (t.rd JOB_STAT.hold) j)]).doEach r.slotList (fun n x => sendFreq n res.index j (applyAtOf res.epoch) x)
  let v := u.run (onlyIf changed [note Ty.HUDDLE jobSrc [(24, 1, j), (25, 1, res.index), (26, 1, ofBool res.hold), (27, 1, res.cls), (28, 4, res.epoch), (32, 4, agg.counted), (36, 4, agg.excluded)]])
  if res.fires && !res.hold then v.does (tipOff j res) else v

/-- The message goes to every child lane at once, and then in frame 0 of every tick (R268, R278). -/
def relayResult (j : Nat) (m : Msg) (s : State) : State :=
  let r := s.job j
  (s.run [.job j { r with relay := some m }]).doEach (bitsOf 5 r.children) (fun x => queueMsg (8 + x) m.typ m.pay)

/-- The root decides (R277). -/
def huddleDecide (j : Nat) (s : State) : State :=
  let t := s.does (countMisses j)
  let r := t.job j
  let a := (s.job j).aggregate
  let all := !a.missing && a.counted + a.excluded == r.totTrays
  let fires := all && s.on (JOB_JTIPCTL.arm j) && a.ready + a.excluded == r.totTrays
  let prev := r.last
  let res : JobResult :=
    if all then ⟨r.epoch, min a.offer 254, false, jobClass r.totAcc, fires, r.totAcc, s.rd (JOB_JTIPBAR.barrier j),
        if fires then epochEnd r.epoch + r.lead * 4000 else 0, a.demand⟩
    else ⟨r.epoch, s.rd (JOB_JRES.index j), true, s.rd (JOB_JRES.class_ j), false, r.totAcc, s.rd (JOB_JTIPBAR.barrier j), 0, (prev.map (·.demand)).getD 0⟩
  takeResult j res (relayResult j ⟨TmlT.result, res.bytes r.key⟩ t)

/-- A RESULT is decoded on lane m (R278): forwarded, and applied if its epoch matches and none has been. -/
def resultDecoded (m : Nat) (g : GotMsg) (s : State) : State :=
  match s.jobByKey (g.msg.get 4 2) with
  | none => s
  | some j =>
    let r := s.job j
    if r.parent ≠ m then s
    else
      let t := if r.relay = some g.msg then s else relayResult j g.msg s
      if g.msg.get 6 2 = r.epoch % 65536 && !r.taken && !r.lost && r.own.isSome then takeResult j (resultOf r.epoch g.msg) t else t

/-- No RESULT came for an epoch (R279). After miss_limit of them in a row the tray takes itself for detached (R281, R294; DESIGN CHOICE, log 86). -/
def resultLost (j : Nat) (s : State) : List Upd :=
  let r := s.job j
  [.job j { r with lost := true, noResult := r.noResult + 1 }, .set JOB_EVT.lost 1] ++ onlyIf (decide (r.missLimit ≤ r.noResult + 1)) [.set (JOB_JRES.detached j) 1]

/-- A tray's share of a job's slope (R283). -/
def shareOf (env a tot dem total : Nat) : Nat :=
  let half := env * 1000 / 2
  (if tot = 0 then 0 else half * a / tot) + (if 0 < total then half * dem / total else if tot = 0 then 0 else half * a / tot)

/-- A RESULT comes into force (R278, R282, R283): index, class, bench setting and share. -/
def resultApply (j : Nat) (s : State) : State :=
  let r := s.job j
  match r.due with
  | none => s
  | some res =>
    let a := r.slotList.length
    let dem := (r.own.map (·.demand)).getD 0
    let up := shareOf r.envUp a res.accs dem res.demand
    let dn := shareOf r.envDown a res.accs dem res.demand
    let r' := if res.hold then { r with due := none } else { r with due := none, last := some res, shareUp := up, shareDown := dn, shared := true }
    let t := s.run ([.job j r', setB (JOB_JRES.decision j) res.hold, .set (JOB_JEPOCH.epoch j) res.epoch] ++
      onlyIf (!res.hold) ([.set (JOB_JRES.index j) res.index, .set (JOB_JRES.class_ j) res.cls, .set (JOB_JSHARE.up j) (min 0xFFFF up), .set (JOB_JSHARE.down j) (min 0xFFFF dn)] ++
        classSlots r res.cls))
    t.does shareSum

/-- Lanes of a job. -/
def JobRun.lanes (r : JobRun) : List Nat := bitsOf 5 r.children ++ (if r.parent < 5 then [r.parent] else [])

/-- A TRIGGER is passed on once, and triggers the tray's capture (R287). -/
def takeTrigger (m : Nat) (g : GotMsg) (s : State) : State :=
  let at' := g.msg.get 8 8
  match s.jobByKey (g.msg.get 16 2) with
  | none => s
  | some j =>
    let r := s.job j
    if r.triggers.contains at' then s
    else
      ((s.run [.job j { r with triggers := (at' :: r.triggers).take 64 }, .set JOB_EVT.trig 1, .set V.capRaised (s.rd V.capRaised ||| 8), .set V.capJobTime at']).doEach
        (r.lanes.filter (· != m)) (fun x => queueMsg (8 + x) g.msg.typ g.msg.pay))

/-- A PROTECT_TRIP of the tick goes up the tree as a TRIGGER of every valid job (R287). -/
def sendTriggers (s : State) : State :=
  if s.firn.tripAt = 0 then s
  else
    let at' := (s.firn.tripAt - 1 + s.rd TIM_JOBOFS.ofs) % 2 ^ 64
    let t := s.run [.firn { s.firn with tripAt := 0 }]
    if !s.on JOB_CTL.trig_send then t
    else t.doEach ((List.range 8).filter (fun j => (s.job j).valid && decide ((s.job j).parent < 5))) (fun j x =>
      let r := x.job j
      .job j { r with triggers := (at' :: r.triggers).take 64 } :: queueMsg (8 + r.parent) TmlT.trigger (msgBytes [(8, 8, at'), (16, 2, r.key)]) x)

/-! Replay and lockstep. -/

/-- Every regulated rail is OFF (R257, R289, R290). -/
def State.railsOff (s : State) : Bool := (List.range 18).all (fun r => s.rd (rState r) == RailS.off)

/-- Replay runs; every output endpoint then holds its reset value (R289). -/
def State.replaying (s : State) : Bool := s.rd JOB_RPSTAT.state == 1

/-- The fabric's outputs at their reset values (R261, R289, R290). -/
def outputsReset (s : State) : List Upd :=
  (List.range 18).flatMap (fun r => [.set (V.outBaseBound r) 0, .set (V.outBase r) 0, .set (V.outGuard r) 0, .set (V.outFloor r) 0]) ++
  (List.range 20).map (fun f => .set (V.outDutyBound f) 0) ++
  (List.range 8).flatMap (fun n => [.set (CAP_QOUT.q_out n) 0, .set (CAP_ROUT.ramp_out n) (CAP_ROUT.ramp_out n).reset, .set (CAP_BAL.level n) 0]) ++
  (List.range 512).map (fun i => .set (V.probe i) 0) ++ [.fab { s.fab with outs := [] }]

/-- The orders of the fabric's outputs are withdrawn as they stop driving (R289, R290): its PROTECT holds end and its LOCAL orders are released. -/
def fabricOrdersEnd (s : State) : State :=
  let t := gathered (fun w => (w.orders.holds.filter (fun h => match h.holder with | .cell _ _ => true | _ => false)).foldl
    (fun v h => protectDrop h.holder h.blk h.target h.scope v) w) s
  ((outputs (t.bindings t.liveImg)).filter (fun b => b.cls == 0x44 && (match tableFind? t.fab.outs b.num with | some v => ofSigned 32 v != 0xFFFF_FFFF | none => false))).foldl
    (fun w b => w.does (issueLocal (b.idx / 256) (b.idx % 256) b.field true 0 0 w.now w.now (w.cellMark b.cell))) t

/-! The standard group on recorded inputs (R25, R232, R238). -/

/-- The field that stands behind a read binding whose value CAP's laws use (R243). -/
def Binding.behind? (g : Binding) : Option Fld :=
  let i := g.idx
  let k := railTile i
  let j := railLocal i
  if g.cls = 0x01 then
    [V.uMax i, V.brakeTick i, PHT_RI.i k j, PHT_RV.v k j, PHT_RP.p k j, PHT_RSTAT.climit k j, rNact i, rState i, V.faultEvt i][g.field]?
  else if g.cls = 0x03 then
    [CAP_FREQ.force i, V.upBubbles i, V.upBrake i, CAP_BAL.active i, SWJ_STEPOFS.offset i][g.field]? <|> (if g.field = 6 then some (lkState i) else none)
  else if g.cls = 0x04 then some (V.brakeTick i)
  else if g.cls = 0x06 then [Sig.fedCmp i, FED_CHI.i i, FED_CHV.vout i, FED_CHSTAT.state i][g.field]?
  else none

/-- The group's bindings that are read. -/
def groupReads : List Binding := groupBindings.filter (·.read)

/-- The value recorded for a field of a class and index, `d` where the group does not bind it. -/
def recordedOr (d : Int) (inp : Bool × Binding → Int) (cls i f : Nat) : Int :=
  match groupReads.find? (fun g => g.cls == cls && g.idx == i && g.field == f) with
  | some g => inp (true, g)
  | none => d

/-- The recorded forecast of a slot enters the fabric at boundary b (R25, R209); one of zeros asks for nothing. -/
def recordedVector (b : Nat) (inp : Bool × Binding → Int) (n : Nat) (s : State) : List Upd :=
  match s.model? n with
  | some a =>
    let H := s.mdHorizon a
    let word (f : Nat) : Nat := (recordedOr 0 inp 0x0A n f).toNat
    [.prd n { s.prdSlot n with past := [⟨b, (List.range H).map (fun h => word (200 + h)), (List.range H).map word⟩] }, .set (PRD_SSTAT.state n) PrdS.active]
  | none => [.prd n {}, .set (PRD_SSTAT.state n) PrdS.off]

/-- The hints of kinds 0, 2 and 4 that a pass's inputs show pending (R169, R243), each held once. -/
def recordedHints (b : Nat) (inp : Bool × Binding → Int) (s : State) : List Hint :=
  (List.range 8).flatMap (fun n => [0, 2, 4].filterMap (fun k =>
    let lead := recordedOr 0x7FFF inp 0x03 n (8 + 3 * k)
    let amps := (recordedOr 0 inp 0x03 n (9 + 3 * k)).toNat
    let h := s.hintOf n (b / 4000 - 1 - s.rd (SWJ_STAT.updelay n)) (k * 2 ^ 60 + (lead.toNat + s.rd (SWJ_STAT.updelay n)) % 65536 * 2 ^ 44 + amps % 65536 * 2 ^ 28)
    if lead = 0x7FFF || s.hints.any (fun x => x.slot == n && x.kind == k && x.event == h.event) then none else some h))

/-- Fields that hold what CAP's laws carry from one pass to the next (R164 to R176, R209). -/
def lawFields : List Fld :=
  (List.range 8).flatMap (fun n => [CAP_QOUT.q_droop n, CAP_QOUT.q_bridge n, CAP_QOUT.q_ceil n, CAP_ROUT.ramp_env n, CAP_BAL.elig n, CAP_BAL.level n, CAP_FREQ.ceil n, V.rising n,
    V.pwSum n, CAP_SP.p n, CAP_S1MS.p n, PRD_OUT.f_fc n, PRD_OUT.ramp_fc n, PRD_OUT.g_fc n] ++ (List.range 1000).map (V.pw n)) ++
  [CAP_ENVA.a, CAP_ENVQ.q_env, CAP_ENVQ.h, CAP_ENVBAL.b, CAP_ENVBAL.short, V.envRuns, V.overTicks, V.ballast, V.shortfall, V.floorClash]

/-- The standard group on the inputs of a recorded pass (R25, R232): its forecast stages and laws run on them. What they would raise, send or count
belongs to the machine that made the record. -/
def lawsOn (b : Nat) (inp : Bool × Binding → Int) (s : State) : State :=
  let given := groupReads.foldl (fun w g => match g.behind? with | some f => w.run [setI f (inp (true, g))] | none => w) s
  let known := (given.doEach (List.range 8) (recordedVector b inp)).run [.hints (s.hints ++ recordedHints b inp given)]
  let t := capLaws (known.doEach (List.range 8) (fun n => forecastStage n b))
  { t with firn := s.firn, orders := s.orders, links := s.links, prd := s.prd, pmu := s.pmu, pending := s.pending }

/-- After a recorded pass `t` the fields of the running machine are its own again: what the laws carry, what the pass published and the fields of FAB
stay. -/
def State.ownFields (s t : State) : State :=
  let kept := lawFields
  let own := (groupReads.filterMap Binding.behind?) ++
    (List.range 8).flatMap (fun n => [SWJ_FREQPEND.valid n, SWJ_FREQPEND.index n, SWJ_FREQAT.at_ n, SWJ_BRKTIME.ticks n, V.binAcc n, V.freqHeld n, PRD_SSTAT.state n]) ++
    [V.binAcc 8, CAP_EVT.ceil, CAP_EVT.env_over, CAP_EVT.bal_short]
  { t with regs := (own.filter (fun f => !kept.contains f)).foldl (fun m f => regsWrite m f (s.rd f)) t.regs }

/-- A pass of the committed image on recorded inputs (R289, R290), published and driving nothing. -/
def recordedPass (pass b : Nat) (inp : Bool × Binding → Int) (s : State) : State :=
  let x := s.passCtx pass b
  let t := lawsOn b inp s
  let u := publishPass x (inputSignature x.bs inp) (t.evalPass x inp) t
  (s.ownFields u).does outputsReset

/-- REPLAY_DONE (R289, R291). -/
def replayDone (result pass : Nat) : List Upd :=
  [.set JOB_RPSTAT.state 2, .set JOB_RPSTAT.result result, .set JOB_EVT.replay 1, note Ty.REPLAY_DONE jobSrc [(24, 1, result), (32, 8, pass)]] ++
  onlyIf (result == 1) [.set JOB_RPFIRST.pass pass]

/-- The manifest digest of the committed image as bytes. -/
def State.imgDigest (s : State) : List Nat := (List.range 8).flatMap (fun i => leBytes 4 (s.rd (FAB_IMGDIG.dig i)))

/-- Initial state words of a cell under a seed (R237). -/
def State.seedWords (s : State) (seed : Nat) : SMap (List Int) :=
  ((List.range (s.itemCount s.liveImg Sec.cells)).filter (fun c => (s.cellOf s.liveImg c).typ == 0 && (s.cellOf s.liveImg c).op == 0x12)).foldl
    (fun m c => let y := prngSeed seed c; tableInsert m c [((y % 2 ^ 32 : Nat) : Int), ((y / 2 ^ 32 : Nat) : Int)]) []

/-- Initial values of the cells of the committed image. -/
def State.initVals (s : State) : SMap Int :=
  (List.range (s.itemCount s.liveImg Sec.cells)).foldl (fun m c => tablePut 0 m c (s.cellOf s.liveImg c).init) []

/-- Cell values and state words from a snapshot (R239). -/
def State.snapVals (s : State) (a : Nat) : SMap Int := (List.range 4096).foldl (fun m c => tablePut 0 m c (toSigned 32 (s.leMem (a + 32 * c) 4))) []
def State.snapWords (s : State) (a : Nat) : SMap (List Int) :=
  (List.range (s.itemCount s.liveImg Sec.cells)).foldl (fun m c => tableInsert m c ((List.range 4).map (fun i => toSigned 32 (s.leMem (a + 32 * c + 4 + 4 * i) 4)))) []

/-- Replay starts at its commit (R289). The standard group starts afresh with the image; from a snapshot its cells' state is a FREE VALUE, since the
spec does not lay the group's cells out (DESIGN CHOICE, log 178). -/
def replayStart (s : State) : List Upd :=
  let a := s.rd JOB_RPADDR.addr
  let snap := s.leMem (a + 24) 8
  if memBytes s.mem a 8 != [0x4F, 0x52, 0x38, 0x52, 0x50, 0x4C, 0x41, 0x59] then replayDone 2 (s.leMem (a + 8) 8)
  else if memBytes s.mem (a + 32) 32 ≠ s.imgDigest then replayDone 2 (s.leMem (a + 8) 8)
  else
    [.set JOB_RPSTAT.state 1, .set JOB_RPSTAT.result 0] ++
    (if snap = 0 then lawFields.map (fun f => .set f f.reset)
     else lawFields.zipIdx.map (fun x => .set x.1 (Config.freeValue (s.rd V.freeCtr + x.2))) ++ [.set V.freeCtr (s.rd V.freeCtr + lawFields.length)]) ++
    [.hints [],
     .fab { s.fab with replayAt := 64, prev := if snap = 0 then s.initVals else s.snapVals snap, words := if snap = 0 then s.seedWords (s.leMem (a + 16) 8) else s.snapWords snap }]

/-- One pass of replay (R289). -/
def replayPass (b : Nat) (s : State) : State :=
  let ins := everyRead (s.bindings s.liveImg)
  let a := s.rd JOB_RPADDR.addr + s.fab.replayAt
  let size := 16 + 4 * ins.length
  let pass := s.leMem a 8
  if s.rd JOB_RPLEN.len < s.fab.replayAt + size then
    s.run (replayDone (if s.rd JOB_RPLEN.len = s.fab.replayAt then 0 else 2) (s.rd FAB_PASS.pass))
  else
    let inp (x : Bool × Binding) : Int := toSigned 32 (s.leMem (a + 8 + 4 * (ins.findIdx (· == x))) 4)
    let t := recordedPass pass b inp s
    let u := t.run [.fab { t.fab with replayAt := s.fab.replayAt + size }]
    if t.rd FAB_DSIG.sig = s.leMem (a + size - 8) 8 then u else u.run (replayDone 1 pass)

/-- Lockstep runs with this tray as leader, or as follower (R290). -/
def State.leads (s : State) : Bool := s.rd JOB_LSSTAT.state == 1 && !s.on JOB_LSCTL.role
def State.follows (s : State) : Bool := s.rd JOB_LSSTAT.state == 1 && s.on JOB_LSCTL.role

/-- Bytes are cut into LOCKSTEP messages of 28. -/
def lockMsgs (bs : List Nat) : List Msg := (List.range (ceilDiv bs.length 28)).map (fun i => ⟨TmlT.lockstep, sliceBytes bs (28 * i) 28⟩)

/-- A lane's queue takes messages. -/
def queueAll (n : Nat) (ms : List Msg) (s : State) : List Upd := [.link n { s.link n with queue := (s.link n).queue ++ ms }]

/-- The leader forwards a pass: its number, inputs and signature. -/
def lockForward (pass dsig : Nat) (bs : List Binding) (inp : Bool × Binding → Int) (s : State) : List Upd :=
  let body := leBytes 8 pass ++ ((everyRead bs).flatMap (fun b => leBytes 4 (ofSigned 32 (inp b)))) ++ leBytes 8 dsig
  queueAll (8 + s.rd JOB_LSCTL.lane) (lockMsgs body) s

/-- LOCKSTEP_DIFF (R290, R291): once, at the first pass that differs. -/
def lockDiffer (who pass own peer : Nat) : List Upd :=
  [.set JOB_EVT.lockstep 1, .set JOB_LSSTAT.state 2, .set JOB_LSFIRST.pass pass, note Ty.LOCKSTEP_DIFF jobSrc [(24, 1, who), (32, 8, pass), (40, 8, own), (48, 8, peer)]]

/-- A lockstep message is decoded (R290): a part of a pass at the follower, the follower's signature at the leader. -/
def takeLock (g : GotMsg) (s : State) : State :=
  let buf := s.fab.lockBytes ++ g.msg.pay
  if s.leads then
    (if buf.length < 28 then s
     else
       let pass := leAt buf 0 8
       let sig := leAt buf 8 8
       let t := s.run [.fab { s.fab with lockBytes := [] }]
       match s.fab.lockSigs.find? (fun e => e.1 == pass) with
       | some e => if e.2 = sig then t else t.run (lockDiffer 0 pass e.2 sig)
       | none => t)
  else if s.follows then
    let nb := (everyRead (s.bindings s.liveImg)).length
    let size := 16 + 4 * nb
    if buf.length < ceilDiv size 28 * 28 then s.run [.fab { s.fab with lockBytes := buf }]
    else s.run [.fab { s.fab with lockBytes := [], lockFrames := s.fab.lockFrames ++ [⟨s.tick, leAt buf 0 8, (List.range nb).map (fun i => leAt buf (8 + 4 * i) 4), leAt buf (8 + 4 * nb) 8⟩] }]
  else s

/-- A forwarded pass is run by the follower four passes after the leader (R290). -/
def lockPass (b : Nat) (s : State) : State :=
  match s.fab.lockFrames with
  | [] => s
  | f :: rest =>
    if s.tick < f.tick + 3 then s
    else
      let ins := everyRead (s.bindings s.liveImg)
      let inp (x : Bool × Binding) : Int := toSigned 32 (f.vals.getD (ins.findIdx (· == x)) 0)
      let t := recordedPass f.pass b inp s
      let sig := t.rd FAB_DSIG.sig
      let u := (t.run [.fab { t.fab with lockFrames := rest }]).does (queueAll (8 + s.rd JOB_LSCTL.lane) (lockMsgs (leBytes 8 f.pass ++ leBytes 8 sig)))
      if sig = f.sig then u else u.run (lockDiffer 1 f.pass sig f.sig)

/-- Lockstep is switched at a commit (R290): refused at rates 2 and 3, or for a follower with a rail up (log 81). A follower drives no outputs. -/
def lockSwitch (s : State) : State :=
  let t := s.run [.fab { s.fab with lockBytes := [], lockFrames := [], lockSigs := [] }]
  if !s.on JOB_LSEN.en then t.run [.set JOB_LSSTAT.state 0]
  else if 1 < s.rd (lkRate (8 + s.rd JOB_LSCTL.lane)) || (s.on JOB_LSCTL.role && !s.railsOff) then s.run [.set JOB_LSSTAT.state 3]
  else
    let u := t.run [.set JOB_LSSTAT.state 1]
    if s.on JOB_LSCTL.role then (fabricOrdersEnd u).does outputsReset else u

/-- Lockstep that runs on a lane which comes to rate 2 or 3 is refused (R290). -/
def lockRate (s : State) : List Upd :=
  onlyIf (s.rd JOB_LSSTAT.state == 1 && decide (1 < s.rd (lkRate (8 + s.rd JOB_LSCTL.lane)))) [.set JOB_LSSTAT.state 3]

/-- The fabric runs recorded passes (R289, R290). -/
def State.recorded (s : State) : Bool := s.committed && (s.replaying || s.follows)

/-- The pass of the tick in whatever mode the fabric runs (R229, R289, R290). -/
def fabricTick (b : Nat) (s : State) : State :=
  if !s.committed then s
  else if s.replaying then replayPass b s
  else if s.follows then lockPass b s
  else
    let t := fabricPass b s
    if s.leads then
      (t.does (lockForward s.tick (t.rd FAB_DSIG.sig) (s.bindings s.liveImg) s.passInput)).run
        [.fab { t.fab with lockSigs := ((s.tick, t.rd FAB_DSIG.sig) :: t.fab.lockSigs).take 64 }]
    else t

end Sys2Proof.Machine
end

