-- ==== Sys2Proof/Machine/Commit.lean ====
section
/-! DEFINITION. The boundary of effect of a transaction (R56-R60) and the commit of a structure image (R256-R260): what the
blocks check, what takes effect, and what a committed field sets going. -/

namespace Sys2Proof.Machine

/-- The transaction's boundary of effect (R58). -/
def State.txBoundary (s : State) : Nat :=
  if s.rd TIM_TXSTAMP.stamp = 0 then boundaryOf (s.tx.committedAt + 4000) else boundaryOf (s.rd TIM_TXSTAMP.stamp)

/-- A committing transaction has come to its boundary. -/
def State.txDue (s : State) : Bool := s.rd TIM_TXSTAT.state == TxS.committing && decide (s.txBoundary ≤ s.boundary)

/-- The value a transaction holds for a field. -/
def Tx.held? (t : Tx) (f : Fld) : Option Nat := (t.vals.find? (fun v => v.addr == f.addr && v.lsb == f.lsb)).map (·.val)

/-- A transaction writes 1 to a field. -/
def Tx.sets (t : Tx) (f : Fld) : Bool := t.held? f == some 1

/-- The transaction commits the loaded structure image (R256). With a regulated rail that is not OFF the commit is live (R257), and with a group that is
not OFF it may only be live (R318; DEDUCED, log 207). -/
def State.commitsImage (s : State) : Bool := s.tx.sets FAB_COMMIT.go
def State.commitLive (s : State) : Bool := s.commitsImage && !(s.railsOff && (List.range 16).all (fun g => s.grp g == GrpS.off))

/-! What takes effect. -/

/-- What a RAILS item gives the registers of its rail (R244, R321), delays in units of 10 µs. -/
def State.railVals (s : State) (r a : Nat) : List (Fld × Nat) :=
  [(SEQ_RAILCFG.on_delay r, s.leMem (a + 4) 4 / 10), (SEQ_RAILCFG.off_delay r, s.leMem (a + 8) 4 / 10), (SEQ_RAILQ.qual r, s.leMem (a + 12) 2),
   (SEQ_RAILTO.on_timeout r, s.leMem (a + 14) 2), (SEQ_RAILTO.off_timeout r, s.leMem (a + 16) 2), (SEQ_RAILDIS.dis_timeout r, s.leMem (a + 18) 2),
   (SEQ_RAILVG.vmon_good r, s.leMem (a + 20) 2), (SEQ_RAILVG.vmon_fall r, s.leMem (a + 22) 2), (SEQ_RAILVO.vmon_ov r, s.leMem (a + 24) 2),
   (SEQ_RAILMODE.policy r, s.leMem (a + 26) 1 % 4), (SEQ_RAILDIS.retries r, s.leMem (a + 27) 1), (SEQ_RAILDIS.deglitch r, s.leMem (a + 28) 1),
   (SEQ_RAILMODE.slot r, s.leMem (a + 29) 1), (SEQ_RAILMODE.flags r, s.leMem (a + 1) 1 % 16), (SEQ_RAILMODE.reg_rail r, s.leMem (a + 2) 1),
   (SEQ_RAILMODE.group r, s.leMem (a + 3) 1 % 16)]

/-- The RAILS item of a rail in the image at `b`. -/
def State.railItem? (s : State) (b r : Nat) : Option Nat :=
  ((List.range (s.itemCount b Sec.rails)).map (s.itemAt b Sec.rails 32)).find? (fun a => s.leMem a 1 == r)

/-- The rail table of the image at `b`: a rail without an item takes its reset values, which say that it is not present. -/
def State.tableVals (s : State) (b : Nat) : List (Fld × Nat) :=
  (List.range 128).flatMap (fun r => match s.railItem? b r with
    | some a => s.railVals r a
    | none => (s.railVals r 0).map (fun e => (e.1, e.1.reset)))

/-- The masked bits of a REGINIT item join what the transaction holds (R57, R247); those of a partner tile's local rail 4 do not (R81). -/
def regInit (a : Nat) (s : State) (t : Tx) : Tx :=
  match regAt? (s.leMem a 4) with
  | none => t
  | some h =>
    if partnerRail h.addr then t else
    let shift := if h.upper then 2 ^ 32 else 1
    let m := s.leMem (a + 4) 4 * shift
    let v := s.leMem (a + 8) 4 * shift
    h.fields.foldl (fun t e =>
      let fm := bits m e.2.lsb e.2.width
      if fm = 0 then t else t.place e.2 (clearBits ((t.held? e.2).getD (s.rd e.2)) fm ||| (bits v e.2.lsb e.2.width &&& fm))) t

/-- Everything a transaction holds at its boundary: with an image, its REGINIT writes, in item order, after the owner's. -/
def State.txAll (s : State) : Tx :=
  if s.commitsImage then
    (List.range (s.itemCount s.idleImg Sec.reginit)).foldl (fun t i => regInit (s.itemAt s.idleImg Sec.reginit 12 i) s t) s.tx
  else s.tx

/-- Channels that the transaction returns to the bench (R110). -/
def Tx.returns (t : Tx) : List Nat := (List.range 4).filterMap (fun k => (t.held? (PHT_RETCLR.channel k)).map (fun c => 80 * k + c))

/-- The role of a channel in the transaction, if it writes one. -/
def Tx.role? (t : Tx) (c : Nat) : Option Nat := t.held? (chRole c)

/-- The value written is a role of a channel that has failed: it does not take effect (R82). -/
def State.deadRole (s : State) (v : TxVal) : Bool :=
  decide (0x20_0000 ≤ v.addr) && decide (v.addr < 0x30_0000) && v.lsb == 30 && decide (0x4000 ≤ v.addr % 0x4_0000) && decide (v.addr % 0x4_0000 < 0x5400) &&
    v.addr % 0x40 == 0 && s.rd v.fld == Role.failed

/-- The value written is the nominal inductance of a channel that the survey has measured: the measured value stands (R86). -/
def State.oldNominal (s : State) (v : TxVal) : Bool :=
  decide (0x20_0000 ≤ v.addr) && decide (v.addr < 0x30_0000) &&
    (let c := 80 * ((v.addr - 0x20_0000) / 0x4_0000) + (v.addr % 0x4_0000 - 0x4000) / 0x40
     v.addr == (PHT_CHL.l (c / 80) (c % 80)).addr && v.lsb == (PHT_CHL.l (c / 80) (c % 80)).lsb && s.on (V.measured c))

/-- The values of a transaction take effect (R58). -/
def State.txWrites (s : State) (t : Tx) : List Upd := (t.vals.filter (fun v => !s.deadRole v && !s.oldNominal v)).map (fun v => Upd.set v.fld v.val)

/-- The state that the checks judge: every value written, failed channels returned and the banks swapped. -/
def State.txTrial (s : State) (t : Tx) : State :=
  s.run ((if s.commitsImage then (s.tableVals s.idleImg).map (fun e => Upd.set e.1 e.2) ++ [.set FAB_STAT.bank (1 - s.rd FAB_STAT.bank), .set FAB_STAT.committed 1] else []) ++
    s.txWrites t ++ t.returns.map (fun c => Upd.set (chRole c) Role.bench))

/-! The checks (R58). -/

/-- Base of the block at an address. -/
def blockBase? (a : Nat) : Option Nat :=
  match blockAt? a with
  | some (k : Block) => some k.base
  | none => none

/-- Bases of the blocks that a transaction writes; an image writes FAB, SEQ and THM. -/
def State.txBlocks (s : State) (t : Tx) : List Nat :=
  let bases : List Nat := List.filterMap (fun (v : TxVal) => blockBase? v.addr) t.vals
  (if s.commitsImage then bases ++ [0x60_0000, 0x90_0000, 0xB0_0000] else bases).dedup

/-- The check of a phase tile (R82, R101, R110, R124), `u` being the trial state. -/
def phtOk (k : Nat) (t : Tx) (s u : State) : Bool :=
  (List.range 80).all (fun c =>
    let id := 80 * k + c
    let role := u.rd (chRole id)
    t.role? id != some Role.failed && decide (u.rd (PHT_CHCOMP.slope_k k c) ≤ 128) &&
    (!(role == Role.working || role == Role.bench) || decide (u.rd (chRail id) < 5)) &&
    (role == Role.unused || decide (5 ≤ u.rd (chRail id)) || (u.rd (chRail id) == 4) == decide (78 ≤ c))) &&
  (List.range 18).all (fun r => !(railTile r == k || (16 ≤ r && railTile r + 1 == k)) ||
    (let w := (u.railChannels r Role.working).length
     let n := (u.railChannels r Role.bench).length
     decide (w + n ≤ 40) && decide (n ≤ 4) && decide (u.rd (PHT_RAILCFG.nfloor (railTile r) (railLocal r)) ≤ w))) &&
  (List.range 5).all (fun j => t.held? (PHT_ADDDROP.add_thr k j) != some 0) &&
  (match t.held? (PHT_RETCLR.channel k) with
   | some c => decide (c < 80) && s.rd (chRole (80 * k + c)) == Role.failed
   | none => true)

/-- The check of CAP_VTAB (R189): of every slot where the transaction writes CAP, and of a slot whose core rail's limits it writes (DESIGN CHOICE, log
25). -/
def vtabOk (t : Tx) (u : State) : Bool :=
  (List.range 8).all (fun n =>
    !(t.vals.any (fun v => (decide (0x40_0000 ≤ v.addr) && decide (v.addr < 0x50_0000)) ||
        v.addr == (PHT_VLIM.vmin (railTile n) (railLocal n)).addr)) ||
    (List.range (u.nfreq n)).all (fun i => decide (u.rd (PHT_VLIM.vmin (railTile n) (railLocal n)) ≤ u.vNom n i) &&
      decide (u.vNom n i ≤ u.rd (PHT_VLIM.vmax (railTile n) (railLocal n))) && (i == 0 || decide (u.vNom n (i - 1) ≤ u.vNom n i))))

/-- The check of the job descriptors (R273): t_hop is in ns. -/
def jobsOk (u : State) : Bool :=
  let live := (List.range 8).filter (fun j => u.on (JOB_JCFG.valid j))
  live.all (fun j => decide (2 * u.rd (JOB_JCFG.d j) * u.rd JOB_HOP.t_hop ≤ 26000) && !(u.on (JOB_JCFG.root j) && decide (u.rd (JOB_JCFG.parent j) < 5)) &&
    live.all (fun i => i == j || (u.rd (JOB_JKEY.key_ i) != u.rd (JOB_JKEY.key_ j) && u.rd (JOB_JCFG.slots i) &&& u.rd (JOB_JCFG.slots j) == 0)))

/-- The delays of the RAILS items of the image at `b` are multiples of 10 µs up to 655,350 µs (R296). -/
def State.delaysOk (s : State) (b : Nat) : Bool :=
  (List.range (s.itemCount b Sec.rails)).all (fun i =>
    let a := s.itemAt b Sec.rails 32 i
    [s.leMem (a + 4) 4, s.leMem (a + 8) 4].all (fun d => d % 10 == 0 && decide (d ≤ 655350)))

/-- A sequenced rail is up: neither OFF nor FAULT. -/
def State.seqUp (s : State) (r : Nat) : Bool := s.rd (SEQ_RSTAT.state r) != SeqS.off && s.rd (SEQ_RSTAT.state r) != SeqS.fault

/-- A live commit leaves running rails as they are (R257): roles and rails of their channels, failed ones aside, and the RAILS
items of the sequenced rails that are up. -/
def State.liveKeeps (s u : State) : Bool :=
  (List.range 320).all (fun c =>
    let off (x : State) : Bool := decide (5 ≤ x.rd (chRail c)) || s.rd (rState (x.railOf c)) == RailS.off
    s.rd (chRole c) == Role.failed || (s.rd (chRole c) == u.rd (chRole c) && s.rd (chRail c) == u.rd (chRail c)) ||
      ((s.rd (chRole c) == Role.unused || off s) && (u.rd (chRole c) == Role.unused || off u))) &&
  (List.range 128).all (fun r => !s.seqUp r ||
    (s.railItem? s.liveImg r).map (fun a => memBytes s.mem a 32) == (s.railItem? s.idleImg r).map (fun a => memBytes s.mem a 32))

/-- FAB's check (R256, R257). -/
def State.fabCheck (s u : State) : Bool :=
  !s.commitsImage || (s.rd FAB_STAT.load == LoadS.verified &&
    (!s.commitLive || (u.on FAB_COMMIT.live && bit (s.hdr s.idleImg 49 1) 0 && s.liveKeeps u)))

/-- FED's check (R324): a live commit leaves the limits of channels that are not OFF. -/
def State.fedCheck (s u : State) : Bool :=
  u.fedTableOk && (!s.commitLive || (List.range 16).all (fun c => s.fed c == FedS.off || (fedFrozen c).all (fun f => s.rd f == u.rd f)))

/-- THM's check (R351, R353, R360). -/
def State.thmCheck (s u : State) (t : Tx) : Bool :=
  u.diodeSelOk ((t.held? THM_DIODESEL.sel).isSome || s.rd THM_DIODESEL.sel != u.rd THM_DIODESEL.sel) && u.curvesOk && (!s.commitsImage || s.fansOk s.idleImg (fun c => decide (c < s.hdr s.idleImg 50 2) && (s.cellOf s.idleImg c).typ == 5))

/-- One block's check. -/
def State.blockOk (s u : State) (t : Tx) (base : Nat) : Bool :=
  if base = 0x60_0000 then s.fabCheck u
  else if 0x20_0000 ≤ base && base < 0x30_0000 then phtOk ((base - 0x20_0000) / 0x4_0000) t s u && vtabOk t u && u.seqTableOk
  else if base = 0x40_0000 then vtabOk t u
  else if base = 0x18_0000 then (List.range 3).all (fun c => u.rd (JRN_CLASSBASE.base c) % 65536 == 0 && u.rd (JRN_CLASSSIZE.size c) % 65536 == 0)
  else if base = 0x80_0000 then jobsOk u
  else if base = 0x90_0000 then u.seqTableOk && u.fedRailsOk && (!s.commitsImage || s.delaysOk s.idleImg)
  else if base = 0xA0_0000 then s.fedCheck u
  else if base = 0xB0_0000 then s.thmCheck u t
  else true

/-- The block whose check fails, FAB before the others. -/
def State.txFails (s : State) (t : Tx) : Option Nat :=
  ((s.txBlocks t).mergeSort (fun a b => a == 0x60_0000 || (b != 0x60_0000 && decide (a ≤ b)))).find? (fun b => !s.blockOk (s.txTrial t) t b)

/-- A safe boundary for a live commit (R258). -/
def State.safeBoundary (s : State) : Bool :=
  (List.range 18).all (fun r => !s.replacing r && s.rd (rState r) != RailS.softstart && s.rd (rState r) != RailS.discharge) &&
    (List.range 8).all (fun n => !([LinkS.train, LinkS.align, LinkS.switch].contains (s.rd (lkState n)))) && s.clearBoundary

/-! What a commit sets going. -/

/-- A class region that moves or is resized starts again at its base (R591). -/
def classMove (t : Tx) (old : State) (c : Nat) (s : State) : List Upd :=
  let f := s.firn
  let n := old.rd (V.stored c)
  let ack := old.rd (JRN_ACK.ack c)
  let base := s.rd (JRN_CLASSBASE.base c)
  if (t.held? (JRN_CLASSBASE.base c)).getD (old.rd (JRN_CLASSBASE.base c)) = old.rd (JRN_CLASSBASE.base c) &&
     (t.held? (JRN_CLASSSIZE.size c)).getD (old.rd (JRN_CLASSSIZE.size c)) == old.rd (JRN_CLASSSIZE.size c) then []
  else
    onlyIf (n != 0) [.firn (f.lose c 5 (s.leMem (ack + 8) 8) n)] ++
    [.set (JRN_HEAD.head c) base, .set (JRN_ACK.ack c) base, .set (HIF_DRPOS.pos c) base, .set (V.stored c) 0, .set (V.drained c) 0, .set (V.drainSince c) 0]

/-- A failed channel returns to the bench (R110); it is surveyed again at the next soft start of its rail. -/
def channelReturn (c : Nat) (s : State) : State :=
  let st := if s.rd (rState (s.railOf c)) = RailS.off then ChS.off else ChS.standby
  let t := s.run [.set (chRole c) Role.bench, .set (chState c) st, .set (V.surveyed c) 0, .set (V.place c) c, .set (V.repFor c) 0]
  phaseCeiling (s.railOf c) ((t.does (recount (s.railOf c))).does (failMaps (c / 80)))

/-- Roles written by the commit: each channel's role in the image, the counts of its rails and their ceilings (R82, R108, R109). -/
def rolesTaken (t : Tx) (old s : State) : State :=
  let written := (List.range 320).filter (fun c => (t.role? c).isSome)
  if written.isEmpty && (List.range 320).all (fun c => (t.held? (chRail c)).isNone) then s
  else
    (s.run (written.flatMap (fun c => [Upd.set (V.imgRole c) ((t.role? c).getD 0)] ++ onlyIf (old.rd (chRole c) != s.rd (chRole c)) [.set (V.place c) c]))).doEach (List.range 18) recount |> fun u => (List.range 18).foldl (fun w r => phaseCeiling r w) u

/-- Planned switches that the commit orders (R155, R272). -/
def forceLinks (t : Tx) (s : State) : List Upd :=
  ((List.range 8).filter (fun n => t.sets (SWJ_CTL.force_spare n))).map (fun n => Upd.link n { s.link n with forced := true }) ++
  ((List.range 5).filter (fun m => t.sets (JOB_LCFG.force m))).map (fun m => Upd.link (8 + m) { s.link (8 + m) with forced := true })

/-- Slots that the commit disables are OFF, and neutral, from its boundary (R212). -/
def prdDisabled (n : Nat) (s : State) : List Upd :=
  if s.rd (PRD_SSTAT.state n) != PrdS.off && (s.prdTarget s n).1 == PrdS.off then
    prdTo n PrdS.off (s.prdTarget s n).2 (s.boundary / 4000) s ++ [.set (PRD_OUT.f_fc n) 0, .set (PRD_OUT.ramp_fc n) 255, .set (PRD_OUT.g_fc n) 0]
  else []

/-- LOCAL orders whose LORD set the REGINIT writes whole (R57, R583). -/
def lordOrders (t : Tx) (s : State) : State :=
  let sets : List (Nat × Nat) := [(0x40_0000, 2), (0x90_0000, 1), (0xA0_0000, 1), (0xB0_0000, 1)]
  s.doEach (sets.filter (fun e => !(s.setMembers e.1 e.2).isEmpty && (s.setMembers e.1 e.2).all (fun f => (t.held? f).isSome)))
    (fun e w => formLocal ⟨e.1, Req.keeper, w.boundary, e.2, (w.setMembers e.1 e.2).map (fun f => ⟨e.1, Req.keeper, w.boundary, f.addr, f.lsb, f.width, f.reset, e.2, (t.held? f).getD 0, 0⟩)⟩ w)

/-- A tile that the commit takes off SYNC_IN runs on the time base: no lock and no holdover (R88, R122). -/
def syncOff (old : State) (k : Nat) (s : State) : List Upd :=
  onlyIf (old.on (PHT_SYNCCFG.src k) && !s.on (PHT_SYNCCFG.src k)) [.set (PHT_SYNCSTAT.lock k) 0, .set (PHT_SYNCSTAT.holdover k) 0, .set (V.syncGood k) 0, .set (V.syncPhase k) 0]

/-- An arm clears as its barrier number changes, unless the same commit sets it (R284). -/
def armCheck (old : State) (t : Tx) (s : State) : List Upd :=
  ((List.range 8).filter (fun j => s.rd (JOB_JTIPBAR.barrier j) != old.rd (JOB_JTIPBAR.barrier j) && (t.held? (JOB_JTIPCTL.arm j)).isNone)).map
    (fun j => .set (JOB_JTIPCTL.arm j) 0)

/-- What committed fields set going, image or not. -/
def txHooks (t : Tx) (old s : State) : State :=
  let s1 := ((rolesTaken t old s).doEach (List.range 4) (syncOff old)).does (forceLinks t)
  let s2 := t.returns.foldl (fun w c => channelReturn c w) s1
  let s3 := s2.doEach (List.range 3) (classMove t old)
  let s4 := s3.does diodeSwitch
  let s5 := if t.sets FED_DMGCLR.go then fedDamageClear (s4.rd FED_DMGCLR.channel) s4 else s4
  let s6 := (discConfig s5).does (armCheck old t)
  let s7 := if (t.held? JOB_LSEN.en).isSome || (t.held? JOB_LSCTL.role).isSome then lockSwitch s6 else s6
  let s8 := if t.sets JOB_RPCTL.start && s7.committed && s7.railsOff && (List.range 8).all (fun n => s7.rd (lkState n) == LinkS.off) then (let r := s7.does replayStart; if r.replaying then fabricOrdersEnd r else r) else s7
  lordOrders t (s8.doEach (List.range 8) prdDisabled)

/-! Staged writes that meet a commit. -/

/-- A staged set of a block that the commit writes is discarded (R60), an incomplete one too (DESIGN CHOICE, log 165). -/
def preemptStaged (blocks : List Nat) (s : State) : List Upd :=
  let due := s.dueBundles.filter (fun b => blocks.contains b.blk && !(s.commitsImage && b.blk == 0x60_0000))
  [.staging { s.staging with vals := s.staging.vals.filter (fun v => !(due.any (fun b => b.vals.contains v))) }] ++
  due.map (fun b => note Ty.STAGE_PREEMPTED (stageSrc b.blk) [(24, 4, b.blk), (28, 1, b.req), (29, 1, b.set), (32, 8, b.stamp), (40, 4, b.offsets.headD 0)])

/-- Parameter writes staged for the boundary of an image commit or later are cancelled (R260). -/
def cancelParams (s : State) : State :=
  let gone := s.staging.vals.filter (fun v => v.blk == 0x60_0000)
  ((gone.map (fun v => (v.req, v.stamp))).dedup).foldl (fun t e => t.does (cancelStage e.1 0x60_0000 3 e.2)) s

/-! The image. -/

/-- Cells whose value and state a live commit keeps (R259); `old` is the image before. -/
def keptCell (old : State) (c : Nat) : Bool :=
  let x := old.cellOf old.liveImg c
  let y := old.cellOf old.idleImg c
  old.committed && decide (c < old.itemCount old.liveImg Sec.cells) && bit x.flags 1 && bit y.flags 1 && x.typ == y.typ && x.op == y.op

/-- Cells of the standard group that the spec names: the ports (R233). -/
def portCells : List Nat := (List.range 8).flatMap (fun n => (List.range 10).map (fun p => 3584 + 16 * n + p))

/-- Values and state with which the new image's first pass starts (R219, R256, R259), in the state after the swap. What the
standard group starts from in a full commit the spec does not tell: FREE VALUES. -/
def fabStart (live : Bool) (old s : State) : List Upd :=
  let n := s.itemCount s.liveImg Sec.cells
  let keep (c : Nat) : Bool := live && keptCell old c
  let own := (List.range n).foldl (fun m c => tablePut 0 m c (if keep c then tableGet 0 old.fab.prev c else (s.cellOf s.liveImg c).init)) []
  let prev := portCells.foldl (fun m c => tablePut 0 m c (if live then tableGet 0 old.fab.prev c else toSigned 32 (Config.freeValue (s.rd V.freeCtr + c) % 2 ^ 32))) own
  [.fab { s.fab with prev := prev, words := old.fab.words.filter (fun e => live && (decide (3584 ≤ e.1) || keep e.1)), outs := [], issued := [] },
   .set V.freeCtr (s.rd V.freeCtr + 4096)]

/-- Initial values of the run-time parameters (R248). -/
def paramStart (s : State) : List Upd :=
  .resetRegs 0x60_8000 0x60_9000 :: (List.range (s.itemCount s.liveImg Sec.params)).filterMap (fun p =>
    (s.param? p).map (fun q => Upd.set (FAB_PARAM.value p) (if q.isB then (s.cellOf s.liveImg q.cell).b else (s.cellOf s.liveImg q.cell).a)))

/-- Slots and moves of the RECORD section (R249): 64 src words, then types with their classes. -/
def recordSection (s : State) : List Upd :=
  let n := s.itemCount s.liveImg Sec.record
  let item (i o : Nat) : Nat := s.leMem (s.itemAt s.liveImg Sec.record 2 i + o) 1
  [.firn { s.firn with slots := (List.range (min 64 n)).map (fun i => item i 0 + 256 * item i 1),
                       moves := (List.range (n - 64)).map (fun i => (item (64 + i) 0, item (64 + i) 1)) }]

/-- LOCAL RELEASEs among the POLICY items (R249). -/
def State.localReleases (s : State) (b : Nat) : List Order :=
  (List.range (s.itemCount b Sec.policy)).filterMap (fun i =>
    let p := s.policyAt b i
    if leAt p 0 1 == 2 && leAt p 5 1 == 0 then some ⟨leAt p 1 1, leAt p 2 1, leAt p 3 1, Src.loc, true, 0, 0, seqNone, s.boundary, false⟩ else none)

/-- The LOCAL defaults of the new image are to be installed with the orders of the commit's boundary, which may hold a LOCAL order
that stands in a default's place (R584). ACU takes none (R585), and one whose target or scope is not defined is only recorded (R32, R341). -/
def renewDefaults (s : State) : List Upd :=
  let ds := s.localDefaults s.liveImg
  [.orders { s.orders with defaults := ds.filter s.defaultFit, renewed := true, installs := s.localReleases s.liveImg ++ ds }]

/-- A slot's model at the commit (R199, R212): a model that does not change goes on. -/
def modelTaken (old : State) (n : Nat) (s : State) : List Upd := if old.modelChanges s n then modelCommit old.historyKey n s else modelKept n s

/-- FAB's registers after a commit (R253, R256, R264). -/
def fabShows (old s : State) (t : Tx) : List Upd :=
  let b := s.liveImg
  let svn := s.hdr b 28 4
  [.set FAB_STAT.cells (s.hdr b 50 2), .set FAB_STAT.load LoadS.empty, .set FAB_IMGVER.version (s.hdr b 24 4), .set FAB_IMGSVN.svn svn,
   .set (KPR_SVN.svn 2) svn, .set FAB_EVT.commit 1, .set FAB_SEED.seed ((t.held? FAB_SEED.seed).getD (s.hdr b 40 8))] ++
  (List.range 8).map (fun i => Upd.set (FAB_IMGDIG.dig i) (leAt (s.imageDigest b) (4 * i) 4)) ++
  [note Ty.IMG_COMMIT (srcOf 6 0) [(24, 1, ofBool old.commitLive), (25, 1, s.rd FAB_STAT.bank), (28, 4, s.hdr b 24 4), (32, 8, (t.held? FAB_SEED.seed).getD (s.hdr b 40 8))]]

/-- The image itself (R256): `s` has the banks swapped and every value written. -/
def imageTaken (t : Tx) (old s : State) : State :=
  let s1 := (s.does (fabStart old.commitLive old)).does recordSection
  let s2 := ((s1.doEach (List.range 8) (modelTaken old)).does prdStat).does renewDefaults
  s2.run (fabShows old s2 t)

/-- REGINIT writes of a partner tile's local rail 4 are discarded and recorded (R81, R588). -/
def partnerInits (s : State) : List Upd :=
  if !s.commitsImage then []
  else ((List.range (s.itemCount s.idleImg Sec.reginit)).map (fun i => s.itemAt s.idleImg Sec.reginit 12 i)).flatMap (fun a =>
    onlyIf (partnerRail (s.leMem a 4)) [discardWrite Req.hw 8 4 (s.leMem (a + 8) 4) (s.leMem a 4)])

/-- The transaction takes effect (R58, R256). -/
def txTakes (t : Tx) (s : State) : State :=
  let s1 := s.does (preemptStaged (s.txBlocks t))
  let s2 := if s.commitsImage then cancelParams s1 else s1
  let s3 := if s.commitsImage then
      (s2.run ((s.tableVals s.idleImg).map (fun e => Upd.set e.1 e.2) ++ [.set FAB_STAT.bank (1 - s.rd FAB_STAT.bank), .set FAB_STAT.committed 1])).does paramStart
    else s2
  let s4 := s3.run (s.txWrites t ++ partnerInits s ++
    [note Ty.TX_COMMIT (srcOf 1 0) [(24, 1, s.txOwner), (26, 2, s.rd TIM_TXCOUNT.writes), (32, 8, s.boundary), (40, 8, s.rd TIM_TXSTAMP.stamp)],
     .tx { s.tx with vals := [], waitFrom := none }, .set TIM_TXSTAT.state TxS.done])
  let s5 := if s.commitsImage then imageTaken t s s4 else s4
  txHooks t s s5

/-- Bindings whose latching waited for a commit are latched now (R229). -/
def latchNow (s : State) : State := if s.on V.latchOwed then (s.run [.set V.latchOwed 0]).does latchBindings else s

/-- The transaction at its boundary (R58, R258): it takes effect, aborts, or waits for a safe boundary. -/
def txEffect (s : State) : State :=
  gathered (fun s =>
  let t := s.txAll
  if s.commitLive && !s.safeBoundary then latchNow (s.run [.tx { s.tx with waitFrom := some (s.tx.waitFrom.getD s.boundary) }])
  else match s.txFails t with
    | some base => latchNow (s.does (txAbortWith 3 base))
    | none => latchNow (txTakes t s)) s

/-- What the commit due at boundary b leaves, where it will take effect then (R212); otherwise the state itself. -/
def State.commitView (b : Nat) (s : State) : State :=
  if s.rd TIM_TXSTAT.state == TxS.committing && decide (s.txBoundary ≤ b) then
    let t := s.txAll
    if (s.commitLive && !s.safeBoundary) || (s.txFails t).isSome then s else s.txTrial t
  else s

/-- A live commit has waited FAB_COMMITCFG.wait ticks (R258). -/
def State.waitedOut (s : State) : Bool :=
  match s.tx.waitFrom with
  | some b => s.commitLive && !s.safeBoundary && decide (b + s.rd FAB_COMMITCFG.wait * 4000 ≤ s.boundary)
  | none => false

end Sys2Proof.Machine
end

