-- ==== Sys2Proof/Machine/Tick.lean ====
section
/-! DEFINITION. The control tick (R23, R42): what the fixed region completes at the end of tick k, what the pins and converters
show at boundary k + 1, and what every unit does there. -/

namespace Sys2Proof.Machine

/-! What a CONTROL_TICK may be given. -/

/-- Codes beside those of signalTable: a memory word becomes uncorrectable, or correctable (R496, R497). -/
def memorySample (x : Sample) : Bool := (x.sig == 30 || x.sig == 31) && x.val % 8 == 0

/-- Counted events of the management cores and of the host link, as 0x1000 and the event's number (R522): the sender counts them. -/
def eventSample (x : Sample) : Bool :=
  [0x010, 0x011, 0x012, 0x013, 0x014, 0x015, 0x017, 0x018, 0x070].any (fun e => x.sig == 0x1000 + e) && decide (x.idx < 16)

/-- The sample is one the machine can be given (R1). -/
def sampleOk (x : Sample) : Bool := sampleInRange x.sig x.idx x.val || memorySample x || eventSample x

/-- The field that shows a sampled signal. -/
def sigField (code i : Nat) : Fld :=
  match code with
  | 1 => Sig.phVin i | 2 => Sig.vmon i | 3 => Sig.pg i | 4 => Sig.fedVin i | 5 => Sig.fedVout i | 6 => Sig.fedI i | 7 => Sig.fedVgs i
  | 8 => Sig.tempIn i | 9 => Sig.diode i | 10 => Sig.diodeBroken i | 11 => Sig.tach i | 12 => Sig.leak i | 13 => Sig.flow i
  | 14 => Sig.present i | 15 => Sig.alert i | 16 => Sig.faultN | 17 => Sig.aux12 | 18 => Sig.auxPf | 19 => Sig.supplyPg
  | 20 => Sig.fedCmp i | 21 => Sig.syncStamp i | 22 => Sig.cycMon i | 23 => Sig.brake i | 24 => Sig.perstOff | 25 => Sig.wakeN | 26 => Sig.refclk
  | 27 => Sig.bootErr i | _ => Sig.busTaken i

/-- One sample is taken (R25, R234, R326, R359, R364). -/
def takeSample (x : Sample) (s : State) : State :=
  if x.sig = 30 then s.run [.ue ((x.val :: s.ue).dedup), .memu { s.memu with ce := s.memu.ce.filter (· != x.val) }]
  else if x.sig = 31 then s.run (onlyIf (!s.ue.contains x.val) [.memu { s.memu with ce := (x.val :: s.memu.ce).dedup }])
  else if 0x1000 ≤ x.sig then s.run [.tally (x.sig - 0x1000) x.idx x.val]
  else
    let t := s.run [.set (sigField x.sig x.idx) x.val, setB (Sig.uncertain x.sig x.idx) x.uncertain]
    if x.sig = 6 then fedSample x.idx t
    else if x.sig = 13 then t.run [.set (V.flowCnt x.idx) (t.rd (V.flowCnt x.idx) + x.val % 65536)]
    else t

/-- The pins and converters at a boundary: edges and doubts of the tick before are gone. -/
def takeSamples (ins : List Sample) (s : State) : State :=
  let t := s.run (.resetRegs 0x2_0100_0000 0x2_0200_0000 :: (List.range 20).map (fun f => Upd.set (Sig.tach f) (s.rd (Sig.tach f) / 2 * 2)))
  ins.foldl (fun w x => takeSample x w) t

/-! Capture frames (R72-R74). -/

/-- The IMON channels of a frame, in channel order. -/
def State.capChannels (s : State) : List Nat :=
  (List.range 320).filter (fun c => if 78 ≤ c % 80 then s.on JRN_CAPSLOT.tray else bit (s.rd JRN_CAPSLOT.slots) (2 * (c / 80) + (if c % 80 < 39 then 0 else 1)))

/-- A sample of the frame; one that no command gave is a FREE VALUE. -/
def State.capSample (s : State) (have' : Bool) (f : Fld) (place : Nat) : List Nat :=
  leBytes 2 (if have' then s.rd f else Config.freeValue (s.rd V.freeCtr + place) % 65536)

/-- The frame of the tick that ends (R72): it shows the probe outputs in force during the tick. -/
def State.captureBytes (s : State) : List Nat :=
  let body := leBytes 8 s.tick ++ leBytes 8 s.boundary ++ leBytes 4 (s.rd V.capVariance) ++ leBytes 4 ((s.rd V.capFlags &&& 5) ||| 2) ++
    List.replicate 40 0 ++
    s.capChannels.flatMap (fun c => (List.range 4).flatMap (fun i => s.capSample (decide (i < s.rd (V.chiCnt c))) (V.imonS c i) (4 * c + i))) ++
    (bitsOf 24 (s.rd JRN_CAPSEL.vsen)).flatMap (fun p => (List.range 16).flatMap (fun i => s.capSample (decide (i < s.rd (V.pairCnt p))) (V.vsenS p i) (1280 + 16 * p + i))) ++
    (List.range (64 * s.rd JRN_CAPSEL.probes)).flatMap (fun i => leBytes 4 (s.rd (V.probe i)))
  sliceBytes body 0 s.frameSize

/-- A frame is written in this tick (R74): armed with an accelerator rail up, or in POST until the ring is full. A JRN_CAPPRE that is not
below JRN_CAPFRAMES leaves no frame after the trigger frame (DESIGN CHOICE, log 171). -/
def State.capWrites (s : State) : Bool :=
  s.capState == CapS.armed ||
    (s.capState == CapS.post && (bit (s.rd V.capFlags) 0 || decide (s.rd V.capPost + 1 + s.rd JRN_CAPPRE.pre < s.rd JRN_CAPFRAMES.frames)))

/-- CAPTURE_FRAME (R72, R74). -/
def captureFrame (s : State) : List Upd :=
  onlyIf s.capWrites
    ([.store (0xC100_0000 + s.rd V.capNext * s.frameSize) s.captureBytes, .set V.freeCtr (s.rd V.freeCtr + 2048),
      .set V.capNext ((s.rd V.capNext + 1) % s.ringFrames), .set V.capValid (min s.ringFrames (s.rd V.capValid + 1))] ++
     onlyIf (s.capState == CapS.post && !bit (s.rd V.capFlags) 0) [bump s V.capPost]) ++
  [.set V.capFlags 0, .set V.capVariance 0]

/-! The end of a tick. -/

/-- The patrol scrubbers of regions 1 to 3 (R497), none of a region that is being wiped. -/
def patrolAll (s : State) : State :=
  [1, 2, 3].foldl (fun t r => if bit (t.rd MEM_STAT.wipe) r then t else patrol r t) s

/-- Events of R522 that a tick brings by itself. -/
def tickEvents (s : State) : List Upd :=
  [.tally 0x001 0 1, .tally 0x002 0 1200] ++
  (List.range 8).flatMap (fun n => onlyIf (s.rd (CAP_QOUT.q_out n) != 0) [.tally 0x031 n 1])

/-- The tick's CAPTURE record is written; the triggers that were not taken in the tick are gone, and bindings that waited for a commit are
latched. -/
def tickCloses (s : State) : State :=
  let t := s.does captureRec
  latchNow (t.run [.firn { t.firn with tickTypes := [] }, .set V.capRaised 0])

/-- Measurement: the tick's capture frame, the feed tile and the phase tiles (R72, R119, R327). -/
def measureAll (s : State) : State := ((fedMeasure (s.does captureFrame)).does channelTick).doEach (List.range 18) powerTick

/-- The units of the fixed region at the end of the tick, in the order of R164, R191 and R229; `b` is the boundary that ends it. On recorded inputs CAP's
laws run within the pass (R289, R290). -/
def lawsAll (b : Nat) (s : State) : State :=
  let s0 := ((prdAll b (s.commitView b) s).does closeLate).does lockRate
  let s2 := if s0.recorded then fabricTick b ((s0.does trayEnergy).doEach (List.range 8) freqDue) else combineAll b (fabricTick b (capLaws s0))
  s2.doEach (List.range 18) phaseTick

/-- Everything that belongs to the tick that ends. -/
def tickEnds (b : Nat) (s : State) : State :=
  let s1 := sendTriggers ((gathered (lawsAll b) (measureAll (tickCloses s))).does discTick)
  let s2 := (patrolAll s1).does tickEvents
  (pmcFlush s2).does (pmcSnap b)

/-! The boundary. -/

/-- The Firn writer's slots are free again (R66), and the OVERRUN records are counted (R522). -/
def firnTick (s : State) : List Upd :=
  let f := s.firn.newTick s.now
  [.firn f, .tally 0x022 0 (s.firn.missed.length - f.missed.length)]

/-- Upstream data delivered at the boundary (R142, R144); ticks delivered earlier are let go. -/
def deliverUps (n : Nat) (s : State) : List Upd :=
  let t := s.tick - s.rd (SWJ_STAT.updelay n)
  let l := s.link n
  if s.rd (lkState n) = LinkS.run || s.rd (lkState n) = LinkS.switch then
    (match l.ups.find? (fun u => u.tick == t && u.heard) with
     | some u => [Upd.set (SWJ_STEPOFS.offset n) u.offset, .set (SWJ_STEP.step n) (s.rd (SWJ_STEP.step n) / 2 ^ 32 * 2 ^ 32 + u.step), .set (CAP_FREQ.force n) u.freq,
                  .set (CAP_BAL.active n) u.ballast, .set (V.upBubbles n) u.bubbles, .set (V.upBrake n) u.brakeAck]
     | none => []) ++
    [.link n { l with ups := l.ups.filter (fun u => decide (t ≤ u.tick + 1)) }]
  else []

/-- Quiet mode (R542). -/
def quietTick (s : State) : List Upd :=
  [setB CRP_QCTL.active (s.on CRP_QCTL.en && (List.range 8).all (fun g => s.grp g == GrpS.off || s.grp g == GrpS.fault))]

/-- The wake sources that the pins and CRP_RTC bring (R544): PERST_N, WAKE_N for 10 ms, the alarm, a leak wet for 100 ms, and a change of
presence held for 10 ms. Source 1 is the transaction itself. -/
def State.wakeCalls (s : State) (src : Nat) : Bool :=
  let held (f : Fld) (ms : Nat) : Bool := s.rd f != 0 && decide (s.rd f + ms * 4000000 ≤ s.now + 1)
  match src with
  | 0 => s.on Sig.perstOff
  | 1 => true
  | 2 => held V.wakeLow 10
  | 3 => s.rd CRP_WAKEAT.at_ != 0 && decide (s.rd CRP_WAKEAT.at_ ≤ s.rd CRP_RTC.count)
  | 4 => (List.range 8).any (fun i => held (V.wetAt i) 100)
  | 5 => held V.wakePrs 10
  | _ => false

/-- What the island watches of the pins while it holds every plane (R544): WAKE_N and the presence pins at each tick, and LEAK at each
millisecond. -/
def islandPins (s : State) : List Upd :=
  let p := s.presence
  since V.wakeLow (s.on Sig.wakeN) s ++
  [.set V.prsNow p, .set V.wakePrs (if p = s.rd V.prsThen then 0 else if p = s.rd V.prsNow && s.rd V.wakePrs != 0 then s.rd V.wakePrs else s.now + 1)] ++
  onlyIf (s.tick % 1000 == 0) ((List.range 8).flatMap (fun i => since (V.wetAt i) (s.rd (Sig.leak i) == 1) s))

/-- The device has read at most 115 °C (R352). -/
def islandCool (s : State) : List Upd :=
  since V.coolSince (!s.on (diodeBad (s.rd THM_DEVSTAT.sel)) && s.rd (V.dioCount (s.rd THM_DEVSTAT.sel)) != 0 &&
    decide (s.rdI (diodeT (s.rd THM_DEVSTAT.sel)) ≤ 115 * 64)) s

/-- CRP_RTC counts the crystal's cycles once it is valid (R545): 32,768 in a second of 1,000,000 ticks. -/
def rtcTick (s : State) : List Upd :=
  let p := s.rd V.rtcPart + 32768
  onlyIf (s.on CRP_CLKSTAT.xtal_ok)
    (if 1000000 ≤ p then [.set V.rtcPart (p - 1000000), .set CRP_RTC.count (s.rd CRP_RTC.count + 1)] else [.set V.rtcPart p])

/-- A 1 ms energy bin closes every 1,000 ticks (R176). -/
def binTick (s : State) : List Upd := if s.tick % 1000 = 0 then closeBins s else []

/-- What the units outside the fabric watch at each boundary. -/
def watchAll (s : State) : State :=
  let s1 := (List.range 13).foldl (fun t n => linkOffCheck n t) s
  let s2 := fedTick (thmTick (seqTick (s1.doEach (List.range 8) deliverUps)))
  let s3 := structCold (structReply (acuTick s2))
  if s3.on V.flrOwed && s3.decoding then releaseHost s3 else s3

/-- The bindings are latched as they stand at the boundary (R229); a commit due at it comes first. -/
def latchTick (s : State) : State :=
  if s.txDue && s.commitsImage then s.run [.set V.latchOwed 1] else s.does latchBindings

/-- Everything that belongs to the boundary at which the new tick begins. -/
def tickBegins (ins : List Sample) (b : Nat) (s : State) : State :=
  let s1 := releasePlanes (takeSamples ins ((s.run [.clock b]).does firnTick))
  let s2 := (((((gathered watchAll s1).does quietTick).does rtcTick).does binTick).does islandPower).does standbyJudge
  latchTick (((s2.does freeSlots).does jobLatch).does pllStat)

/-- A microsecond of the island while it holds every plane (R20, R352, R544): it converts the diodes, watches its pins and AUX12, and counts CRP_RTC.
Below AUX12's drop-out it does nothing. `now` then counts the island's own time: tray time restarts at the release (R40). -/
def heldTick (ins : List Sample) (s : State) : State :=
  let t := takeSamples ins s
  if s.on V.auxUp then
    let u := t.run [.clock (t.boundary + 4000)]
    let w := if u.tick % 50 = 0 then (u.doEach [0, 1] diodeConvert).does islandCool else u
    ((w.does islandPins).does auxWatch).does rtcTick
  else t

/-- One control tick passes. -/
def controlTick (ins : List Sample) (s : State) : State :=
  if s.on (V.planeHeld 0) then heldTick ins s
  else
    let b := s.boundary + 4000
    tickBegins ins b (tickEnds b s)

/-- An ordered survey (R39): supplies, feeds, regulator identification, round trips, and the capability exchange, whose result is recorded when
it ends; inductance and capacitance at the next soft start, or, with no accelerator rail up, of every channel again. -/
def orderedSurvey (supplies : List Nat) (s : State) : State :=
  let up := (List.range 13).filter (fun n => s.rd (lkState n) == LinkS.run)
  let t := (s.does (surveySupplies supplies)).run [.set V.identOwed 1]
  let u := up.foldl (fun w n => if n < 8 then rttNow n w else w.run [.link n { w.link n with upDue := true, rttAt := w.now + 1 }]) t
  let w := (up.filter (fun n => decide (n < 8) && u.rd (lkState n) == LinkS.run)).foldl (fun x n => beginCaps n true x) u
  if s.accRailUp then w else w.run ((List.range 320).map (fun c => Upd.set (V.surveyed c) 0))

/-- An error in the live tables (R260, R264): in one copy it is served from the other and the copy is rewritten; in both it is a
cold reset. -/
def tableError (sect entry : Nat) (both : Bool) (s : State) : List Upd :=
  [bump s FAB_ECCCNT.count, note Ty.FAB_FAULT (srcOf 6 0) [(24, 1, if both then 2 else 1), (25, 1, sect), (28, 4, entry)]]

end Sys2Proof.Machine
end

