-- ==== Sys2Proof/Machine/ExecReset.lean ====
section
/-! DEFINITION. The commands of test access, resets, standby, clocks and power (chapters 18 and 19), and LC_REQUEST (R418). -/

namespace Sys2Proof.Machine

/-- TEST_MUX_SELECT (R526): a write of TAM_DSEL or TAM_ASEL. -/
def execTestMuxSelect (req a value : Nat) (s : State) : Result :=
  if 0x128_0020 ≤ a && a < 0x128_0048 && a % 4 = 0 then s.gated req a 4 value false (muxSelect ((a - 0x128_0020) / 4) value s) else .next s

/-- The bytes of TAM_TOKBUF. -/
def State.tokBuf (s : State) : List Nat := (List.range 769).flatMap (fun w => leBytes 4 (s.rd (TAM_TOKBUF.token w)))

/-- UNLOCK (R528): a write of TAM_UNLOCK, or Update-DR after a shift through the TOKEN instruction in force. -/
def execUnlock (req value : Nat) (jtag : Option (List Nat)) (s : State) : Result :=
  match jtag with
  | some tok => whenever (s.rd TAM_STAT.ir == 0x10) s (unlockGo 1 (sliceBytes tok 0 3076) s)
  | none => s.gated req 0x128_0010 4 value false (if bit value 0 then unlockGo 0 s.tokBuf s else s)

/-- TOKEN_CHECK_DONE (R528). -/
def execTokenCheckDone (s : State) : Result := whenever (s.on TAM_STAT.busy && s.tokenChecker) s (tokenDone s)

/-- JTAG_INSTRUCTION (R529, R530): leaving MBIST or SCAN forces a cold reset with cause test. -/
def execJtagInstruction (code : Nat) (r : Restart) (s : State) : Result :=
  let (t, again) := tapInstruction (code % 256) s
  .next (if again then coldReset 7 r.bad r.strap r.lpHeld r.supplies t else t)

/-- TAP_RESET (R529): TRST_N. -/
def execTapReset (r : Restart) (s : State) : Result :=
  let (t, again) := tapLoad 0xFF s
  .next (if again then coldReset 7 r.bad r.strap r.lpHeld r.supplies t else t)

/-- LC_REQUEST (R411, R418): [8] target state, [16-23] token. The request ends in a refusal, or in the cold reset with cause 5. -/
def execLcRequest (core : Nat) (r : Restart) (s : State) : Result :=
  whenever (s.serving && s.nextCall == some core && s.gateCode core == 7) s
    (let target := s.gateArg core 8 1
     let t := s.does (gateTaken core)
     let why := t.lcRefusal core target (t.gateArg core 16 8)
     if why ≠ 0 then
       (t.run [keeperNote Ty.LIFECYCLE [(24, 1, t.lifecycle), (25, 1, target), (26, 1, 4), (27, 1, why)]]).does (gateReply core 7 why (s.gateSeq core) [])
     else coldReset 5 r.bad r.strap r.lpHeld r.supplies (lcProgram target t))

/-- COLD_RESET (R546, R548): the keeper's order stands in CRP_RSTCTL. -/
def execColdReset (r : Restart) (s : State) : Result :=
  whenever (s.on CRP_RSTCTL.cold) s (coldReset (if s.wipeOwed then 5 else 4) r.bad r.strap r.lpHeld r.supplies s)

/-- MANAGEMENT_RESET (R547, R550): the keeper's order, or the keeper core halted on a double trap. -/
def execManagementReset (halted : Bool) (bad : Nat) (s : State) : Result :=
  whenever ((halted || s.on CRP_RSTCTL.mgmt) && !s.on (V.planeHeld 3)) s (mgmtReset (if halted then 0x23 else 0x20) bad s)

/-- PREDICTION_RESET (R546). -/
def execPredictionReset (s : State) : Result := whenever (s.on CRP_RSTCTL.pred && !s.on (V.planeHeld 1)) s (predReset s)

/-- THERMAL_HARD_RESET (R352): 1 ms after shutdown qualified, in standby too (log 174); the cause was latched then. -/
def execThermalHardReset (s : State) : Result :=
  whenever (s.rd V.thermAt != 0 && decide (s.rd V.thermAt - 1 + 4000000 ≤ s.now + s.rd V.thermGone)) s
    ((holdPlanes s).run [.set V.thermHold 1, .set V.standby 0, setB V.lpKeep (s.rd MEM_STAT.lp_state == 3), .set V.lpGoodOld (s.rd V.lpGood)])

/-- THERMAL_RELEASE (R352): the diode in use has stood at 115 °C or less for 1 s. -/
def execThermalRelease (r : Restart) (s : State) : Result :=
  whenever (s.on V.thermHold && s.rd V.coolSince != 0 && decide (s.rd V.coolSince + 4000000000 ≤ s.now + 1)) s
    (let t := if s.on V.lpKeep then s.run [.set MEM_STAT.lp_state 3, .set V.lpGood (s.rd V.lpGoodOld)] else s
     coldReset (if s.rd CRP_CAUSE.cold = 2 then 2 else 3) r.bad r.strap r.lpHeld r.supplies t)

/-- STANDBY_ENTER (R543): a write of CRP_SBCTL, which the island checks at the next boundary. -/
def execStandbyEnter (req value : Nat) (s : State) : Result := s.gated req 0x130_0040 4 value true (s.run (onlyIf (bit value 0) [.set V.sbAsk 1]))

/-- STANDBY_HOLD (R543): 1 ms after acceptance. -/
def execStandbyHold (s : State) : Result := whenever (s.rd V.sbAt != 0 && decide (s.rd V.sbAt - 1 + 4000000 ≤ s.now)) s (standbyHold s)

/-- WAKE (R544, R545): an enabled source calls. -/
def execWake (src : Nat) (supplies : List Nat) (r : RomFind) (s : State) : Result :=
  whenever (s.on V.standby && decide (src < 6) && bit (s.rd CRP_WAKEEN.en) src && s.wakeCalls src) s
    (coldReset 8 r.bad r.strap false supplies
      (s.run [.set CRP_WAKESRC.src (2 ^ src), .set CRP_SUPSTAT.supply_en 1, .set CRP_SUPSTAT.supply_pg 1]))

/-- AUX_POWER_ON (R545, R546). -/
def execAuxPowerOn (r : Restart) (s : State) : Result := whenever (!s.on V.auxUp) s (coldReset 1 r.bad r.strap false r.supplies (islandReset s))

/-- AUX_DROPOUT (R554): AUX12 at 7.0 V after a warning; the island and every plane stop. -/
def execAuxDropout (s : State) : Result := whenever (s.on CRP_PFSTAT.warn) s ((holdPlanes s).run [.set V.auxUp 0])

/-- SUPPLY_PG_LOST (R537): low for 2 µs; not in standby, and not in the hold-up after a power-fail warning. -/
def execSupplyPgLost (r : Restart) (s : State) : Result :=
  whenever (s.on CRP_SUPSTAT.supply_en && !s.on CRP_PFSTAT.warn && s.rd V.supLow != 0 && decide (s.rd V.supLow + 8000 ≤ s.now + 1)) s (coldReset 0xA r.bad r.strap r.lpHeld r.supplies s)

/-- PLL_LOCK_LOST (R539). -/
def execPllLockLost (k : Nat) (r : Restart) (s : State) : Result :=
  whenever (decide (k < 8) && bit (s.rd V.pllLock) k) s
    (if k = 0 then coldReset 0xB r.bad r.strap r.lpHeld r.supplies s else s.does (pllLost k))

/-- PLL_LOCKED (R539): `ns` after its start. -/
def execPllLocked (k ns : Nat) (s : State) : Result :=
  whenever (decide (k < 8) && s.pllRuns k && !bit (s.rd V.pllLock) k) s
    ((s.run [.set V.pllLock (setBit (s.rd V.pllLock) k), crpNote Ty.CLOCK_EVENT [(24, 1, k), (25, 1, 1), (28, 4, ns)]]).does pllStat)

/-- REF_LOST and REF_BACK (R540). -/
def execRefLost (s : State) : Result :=
  whenever (!s.on CRP_CLKSTAT.ref_lost) s (s.run [.set CRP_CLKSTAT.ref_lost 1, .set CRP_EVT.ref 1, crpNote Ty.CLOCK_EVENT [(24, 1, 0xFF), (25, 1, 3)]])
def execRefBack (s : State) : Result :=
  whenever (s.on CRP_CLKSTAT.ref_lost) s (s.run [.set CRP_CLKSTAT.ref_lost 0, .set CRP_EVT.ref 1, crpNote Ty.CLOCK_EVENT [(24, 1, 0xFF), (25, 1, 4)]])

/-- WDOG_KICK (R549): a write of CRP_WDOGKICK. -/
def execWdogKick (req value : Nat) (s : State) : Result := s.gated req 0x130_0018 4 value true (if value = 0x0F08 then s.run [.set V.wdogAt s.now] else s)

/-- WDOG_EXPIRE (R549). -/
def execWdogExpire (bad : Nat) (s : State) : Result :=
  whenever (s.on CRP_WDOGCFG.en && decide (s.rd V.wdogAt + s.rd CRP_WDOGCFG.period * 4000000 ≤ s.now)) s (mgmtReset 0x21 bad s)

/-- XING_ALARM (R553): the wander of crossing x, in ps. -/
def execXingAlarm (x : Nat) (w : Int) (s : State) : Result := whenever (decide (x < 6)) s (s.does (xingMeasure x w))

/-- XING_RESET (R553, R557): at 1,100 ps; in the hold-up it is recorded only. -/
def execXingReset (x : Nat) (w : Int) (r : Restart) (s : State) : Result :=
  whenever (decide (x < 6) && decide (1100 ≤ w.natAbs)) s
    (let t := s.does (xingMeasure x w)
     if s.on CRP_PFSTAT.warn then t else coldReset 9 r.bad r.strap r.lpHeld r.supplies t)

/-- XTAL_VALID (R545). -/
def execXtalValid (s : State) : Result := .next (s.run [.set CRP_CLKSTAT.xtal_ok 1])

/-- POWER_FAIL (R554): AUX12 is below its threshold, which lies at most at 9.2 V, or the board holds AUXPF_N low; in standby too (R20). -/
def execPowerFail (ext : Bool) (aux12 : Nat) (ledger : Bool) (s : State) : Result :=
  whenever (!s.on CRP_PFSTAT.warn && s.on V.auxUp && (if ext then s.on Sig.auxPf else decide (aux12 < 920))) s (powerFail ext aux12 ledger s)

/-- PFAIL_RECOVERY (R556): AUX12 has stood at 9.5 V or above for 10 ms since the warning, and the keeper has halted by then. A thermal shutdown
latched earlier keeps its cause (R557), and its hold lasts until the diode allows the release (R352). -/
def execPfailRecovery (r : Restart) (s : State) : Result :=
  whenever (s.on CRP_PFSTAT.warn && s.on V.auxUp && !s.on V.thermHold && s.rd V.auxBack != 0 && decide (max (s.rd V.auxBack) (s.rd V.pfAt) + 40000000 ≤ s.now + 1)) s
    (coldReset (if s.rd V.thermAt != 0 && decide (s.rd V.thermAt ≤ s.rd V.pfAt) then 3 else 2) r.bad r.strap r.lpHeld r.supplies s)

end Sys2Proof.Machine
end

