-- ==== Sys2Proof/Machine/ExecSeq.lean ====
section
/-! DEFINITION. The sequencer's commands: RAIL_ENABLE and GROUP_POWER_UP to FAULT_IN_RELEASE (R299-R318). -/

namespace Sys2Proof.Machine

/-- A survey holds the rail off (R38, R118, R490). -/
def State.surveyHolds (s : State) (r : Nat) : Bool :=
  s.on (V.identHold r) || (match s.regOf? r with | some q => s.on (V.surveyHold q) | none => false)

/-- A rail comes up at its slot (R303), or fails there because the survey of its regulator holds it off (R38, R306): a retry then has nothing
that must fall. The survey of a regulated rail is made anew in its soft start. -/
def railComesUp (r : Nat) (s : State) : State :=
  if s.on (V.identHold r) then
    (let t := railFaults r 7 false s
     t.run (onlyIf (t.rd (SEQ_RSTAT.state r) == SeqS.retry) [.set (V.fallenAt r) (t.boundary + 1)]))
  else enableRail r s

/-- RAIL_ENABLE (R303, R111): rail r of group g. -/
def execRailEnable (g r : Nat) (s : State) : Result :=
  whenever (decide (r < 128) && s.groupOf r == g && s.enableDue r && (s.holdsEnable r).isEmpty) s (railComesUp r s)

/-- GROUP_POWER_UP (R302). -/
def execGroupPowerUp (g : Nat) (s : State) : Result :=
  whenever (decide (g < 16) && (s.grp g == GrpS.off || s.grp g == GrpS.wait) && s.mayStart g) s (groupStart g s)

/-- PG_CHANGE (R299): the latched level has differed for deglitch µs. -/
def execPgChange (r : Nat) (s : State) : Result :=
  whenever (decide (r < 128) && s.railPresent r && s.rd (V.pgSince r) != 0 &&
      decide (s.rd (V.pgSince r) + s.rd (SEQ_RAILDIS.deglitch r) * 4000 ≤ s.boundary + 1)) s
    ((s.does (setPg r (s.on (SEQ_RSTAT.pg_raw r)))).does (requalify r))

/-- RAIL_QUALIFIED (R301). -/
def execRailQualified (r : Nat) (s : State) : Result :=
  whenever (decide (r < 128) && (s.rd (SEQ_RSTAT.state r) == SeqS.qualify || s.rd (SEQ_RSTAT.state r) == SeqS.bad) && s.qualifies r &&
      s.rd (V.qualAt r) != 0 && decide (s.rd (V.qualAt r) + s.rd (SEQ_RAILQ.qual r) * 4000 ≤ s.boundary + 1)) s
    (railGoodNow r s)

/-- The tile of a regulated rail has tripped (R298). -/
def State.tileTripped (s : State) (r : Nat) : Bool := match s.regOf? r with | some q => s.on (V.tileTrip q) | none => false

/-- RAIL_ON_TIMEOUT (R301): the deadline, an overvoltage in QUALIFY, a soft-start trip or a survey's hold. -/
def execRailOnTimeout (r : Nat) (s : State) : Result :=
  whenever (decide (r < 128) && s.rd V.pfailRun == 0 && s.rd (SEQ_RSTAT.state r) == SeqS.qualify && s.on (SEQ_RSTAT.en r) &&
      (decide (s.rd (V.seqOnAt r) + s.rd (V.latOnTo r) * 400000 ≤ s.boundary + 1) || s.vmonOver r || s.tileTripped r || s.surveyHolds r)) s
    (feedsFollow (railFaults r (if s.surveyHolds r then 7 else 1) false s))

/-- GROUP_POWER_DOWN (R304). -/
def execGroupPowerDown (g : Nat) (s : State) : Result :=
  whenever (decide (g < 16) && (s.stopCause g).isSome) s (groupDown g ((s.stopCause g).getD 0) s)

/-- RAIL_DISABLE (R304). -/
def execRailDisable (r : Nat) (s : State) : Result :=
  whenever (decide (r < 128) && s.disableDue r && (s.holdsDisable r).isEmpty) s (feedsFollow (s.does (deassertRail r SeqS.falling)))

/-- A rail has fallen (R304, R305, R307). -/
def railFell (r : Nat) (s : State) : State :=
  let st := s.rd (SEQ_RSTAT.state r)
  (s.run ([.set (V.falling r) 0, .set (V.disNeed r) 0] ++
    (if st = SeqS.falling || st = SeqS.discharge then [.set (SEQ_RSTAT.state r) SeqS.off]
     else onlyIf (st == SeqS.retry) [.set (V.fallenAt r) (s.boundary + 1)]))).does (groupSettle (s.groupOf r))

/-- RAIL_FALLEN (R304). -/
def execRailFallen (r : Nat) (s : State) : Result :=
  whenever (decide (r < 128) && s.on (V.falling r) && s.hasFallen r) s (railFell r s)

/-- A time in units of 100 µs has passed since a rail lost its enable (R305). -/
def State.offFor (s : State) (r n : Nat) : Bool := decide (s.rd (V.seqOffAt r) + n * 400000 ≤ s.boundary + 1)

/-- RAIL_OFF_TIMEOUT (R305). -/
def execRailOffTimeout (r : Nat) (s : State) : Result :=
  whenever (decide (r < 128) && s.on (V.falling r) && !s.hasFallen r && !s.on (V.disNeed r) && bit (s.rd (SEQ_RAILMODE.flags r)) 3 && s.offFor r (s.rd (V.latOffTo r))) s
    (s.run ([.set (V.disNeed r) 1] ++ onlyIf (s.rd (SEQ_RSTAT.state r) == SeqS.falling) [.set (SEQ_RSTAT.state r) SeqS.discharge]))

/-- A rail is given up (R305): latched with cause 5; one that was being retried takes its group down. -/
def giveUp (r : Nat) (s : State) : State := deciding (s.railUncertain r) (fun s =>
  let g := s.groupOf r
  let t := (((s.run [.set (V.falling r) 0, .set (V.disNeed r) 0]).does (countFault r 5)).does (latchFault r 5)).run
    [.set (SEQ_RSTAT.state r) SeqS.fault, .set (V.inRetry r) 0]
  (protectGroups (.railLatch g) [g] (stopGroup g 1 t)).does (groupSettle g)) s

/-- RAIL_GIVEN_UP (R305), which the shutdown of R316 does not wait for. -/
def execRailGivenUp (r : Nat) (s : State) : Result :=
  whenever (decide (r < 128) && s.rd V.pfailRun == 0 && s.on (V.falling r) && !s.hasFallen r &&
      s.offFor r (s.rd (V.latOffTo r) + (if bit (s.rd (SEQ_RAILMODE.flags r)) 3 then s.rd (V.latDisTo r) else 0))) s
    (giveUp r s)

/-- The cause of R306 that a GOOD rail shows, 0 for none. -/
def State.railFaultCause (s : State) (r : Nat) : Nat :=
  if s.tileTripped r then 6 else if !s.on (SEQ_RSTAT.pg r) then 2 else if s.vmonUnder r then 3 else if s.vmonOver r then 4 else 0

/-- RAIL_FAULT (R306-R309); no rail latch is set while the shutdown of R316 runs. -/
def execRailFault (r : Nat) (s : State) : Result :=
  whenever (decide (r < 128) && s.rd V.pfailRun == 0 && s.rd (SEQ_RSTAT.state r) == SeqS.good && s.on (SEQ_RSTAT.en r) && s.railFaultCause r != 0) s
    (feedsFollow (railFaults r (s.railFaultCause r) true s))

/-- RETRY_REENABLE (R307): 1 ms after the retried rail has fallen. -/
def execRetryReenable (r : Nat) (s : State) : Result :=
  whenever (decide (r < 128) && s.rd (SEQ_RSTAT.state r) == SeqS.retry && !s.on (V.falling r) && s.rd (V.fallenAt r) != 0 &&
      decide (s.rd (V.fallenAt r) + 4000000 ≤ s.boundary + 1) && s.rd V.pfailRun == 0) s
    (railComesUp r s)

/-- SYSTEM_RESTART (R309): every group down for 100 ms, at most retries times after a cold reset. -/
def execSystemRestart (s : State) : Result :=
  whenever (s.rd V.sysRail != 0 && s.rd V.sysDownAt != 0 && decide (s.rd V.sysDownAt + 400000000 ≤ s.boundary + 1) &&
      decide (s.rd V.sysCount < s.rd (SEQ_RAILDIS.retries (s.rd V.sysRail - 1)))) s
    (systemRestart s)

/-- Latches named by a write are cleared (R310). -/
def faultClear (m value : Nat) (s : State) : State := gathered (fun s =>
  let rs := (bitsOf 32 (s.rd (SEQ_FAULTMAP.latch m) &&& value)).map (fun b => 32 * m + b)
  let t := rs.foldl (fun w r => unlatch r w) s
  let u := ((rs.map s.groupOf).dedup).foldl (fun w g => latchGone g 6 w) t
  if rs.contains (s.rd V.sysRail - 1) && s.rd V.sysRail != 0 then systemEnd u else u) s

/-- FAULT_CLEAR (R310): a write of SEQ_FAULTMAP[m]. -/
def execFaultClear (req m : Nat) (w : ClearWrite) (s : State) : Result :=
  if m < 4 then s.gated req (0x90_0020 + 4 * m) 4 w.value false (feedsFollow (faultClear m (clearBits w.value w.hw) s)) else .next s

/-- FIRST_REARM (R311): a write of SEQ_FIRST. -/
def execFirstRearm (req : Nat) (w : ClearWrite) (s : State) : Result :=
  s.gated req 0x90_0010 4 w.value false (s.run (onlyIf (bit (clearBits w.value w.hw) 31) [.set SEQ_FIRST.valid 0]))

/-- FAULT_IN (R312): FAULT_N low for 2 consecutive boundaries while the OR8 does not pull it. -/
def execFaultIn (s : State) : Result :=
  whenever (!s.on V.fnActive && !s.drivesFault && s.rd V.fnHigh == 0 && decide (2 ≤ s.rd V.fnLow)) s
    (deciding (s.on V.fnDoubt) (fun s =>
     let t := s.run [.set V.fnActive 1, .set SEQ_EVT.fault_in 1,
        .emit { typ := Ty.SEQ_FAULTIN, src := srcOf 0x8 0xFFF, pay := [(24, 1, 1), (28, 4, s.rd V.fnLow)], variableMark := s.on V.fnDoubt }]
     if s.on SEQ_CTL.fault_in then protectGroups .faultIn (List.range 16) t else t) s)

/-- FAULT_IN_RELEASE (R312): FAULT_N high for 10 ms. -/
def execFaultInRelease (s : State) : Result :=
  whenever (s.on V.fnActive && decide (10000 ≤ s.rd V.fnHigh)) s
    (deciding (s.on V.fnDoubt) (protectDropAll .faultIn) (s.run [.set V.fnActive 0,
      .emit { typ := Ty.SEQ_FAULTIN, src := srcOf 0x8 0xFFF, pay := [(24, 1, 0), (28, 4, s.rd V.fnLow)], variableMark := s.on V.fnDoubt }]))

end Sys2Proof.Machine
end

