-- ==== Sys2Proof/Machine/ExecSwija.lean ====
section
/-! DEFINITION. The commands of the Swija links: BRAKE_ASSERT to LOSS_TIMEOUT (chapters 3, 4 and the slot messages of 5). Links 8
to 12 are the timing lanes', which follow the same states (R272). -/

namespace Sys2Proof.Machine

/-- The brake flag rises at `t` (R116, R160, R164, R180). -/
def brakeAssert (r t : Nat) (s : State) : List Upd :=
  let k := railTile r
  let n := r % 8
  [.set (PHT_RSTAT.brake k (railLocal r)) 1, .set (PHT_EVT.brake k) 1, .set (V.brakeAt r) t, .set (V.brakes n) (s.rd (V.brakes n) + 1),
   .set (SWJ_EVT.brake n) 1, bump s (SWJ_BRKCNT.count n), brakeRec r 1 (s.rd (V.brakeLast r)) t s] ++ [.set (V.brakeTick r) 1]

/-- BRAKE_ASSERT (R116): V_sense of rail r falls below V_t − brake. -/
def execBrakeAssert (r : Nat) (e : BrakeEdge) (s : State) : Result :=
  whenever (s.brakeArmed r && !s.on (PHT_RSTAT.brake (railTile r) (railLocal r)) &&
      decide (e.v + 10 * s.rd (PHT_PROT.brake (railTile r) (railLocal r)) < s.rd (V.vt r))) s (s.does (brakeAssert r (s.moment e.dt)))

/-- BRAKE_CLEAR (R116): V_sense rises above V_t − brake + brake_hys. -/
def execBrakeClear (r : Nat) (e : BrakeEdge) (s : State) : Result :=
  let k := railTile r
  let j := railLocal r
  whenever (decide (r < 16) && s.on (PHT_RSTAT.brake k j) && decide (s.rd (V.vt r) + 10 * s.rd (PHT_PROT.brake_hys k j) < e.v + 10 * s.rd (PHT_PROT.brake k j))) s
    (s.does (brakeDown r (s.moment e.dt)))

/-- ENABLE (R134, R267): link n leaves OFF for DETECT. -/
def execEnable (n : Nat) (s : State) : Result :=
  whenever (decide (n < 13) && s.rd (lkState n) == LinkS.off && s.linkEnabled n && s.linkPower n) s (linkEnable n s)

/-- Energy is seen: the lane trains from now (R134, R139). -/
def energySeen (n : Nat) (s : State) : List Upd :=
  [.lane (s.currentLane n) { s.lane (s.currentLane n) with t0 := s.now }] ++ linkTo n LinkS.train 0 s

/-- Whether the pair shows energy (R135), from its swing in mV peak to peak, the longest run of symbol times without a level transition, and
the time in ns for which both have held; between the two thresholds it keeps what it showed. -/
def energyShown (was : Bool) (swing gap ns : Nat) : Bool :=
  if 100 ≤ swing && gap ≤ 64 && 10000 ≤ ns then true else if swing < 60 && 10000 ≤ ns then false else was

/-- ENERGY_CHECK (R135): once every 1 ms in DETECT the OR8 looks for energy on link n. -/
def execEnergyCheck (n : Nat) (x : EnergyLook) (s : State) : Result :=
  let e := energyShown (s.on (V.energy n)) x.swing x.gap x.ns
  whenever (decide (n < 13) && s.rd (lkState n) == LinkS.detect && (s.rd (V.lookAt n) == 0 || decide (s.rd (V.lookAt n) + 4000000 ≤ s.now + 1))) s
    (let t := s.run [setB (V.energy n) e, .set (V.lookAt n) (s.now + 1)]
     if e then t.does (energySeen n) else t)

/-- TRAINING_FRAME (R136, R137, R139): a training frame of 2,125 levels whose first symbol stands at `pos` arrives at a lane. -/
def execTrainingFrame (lane pos : Nat) (levels : List Int) (s : State) : Result :=
  let st := s.rd (lkState (s.linkOf lane))
  whenever (decide (lane < 21) && (s.lane lane).stage == 1 && (st == LinkS.train || st == LinkS.switch || st == LinkS.loss)) s (trainingFrame lane pos levels s)

/-- TRAIN_TIMEOUT (R139): 2 ms at a rate have passed. -/
def execTrainTimeout (lane : Nat) (s : State) : Result :=
  let st := s.rd (lkState (s.linkOf lane))
  whenever (decide (lane < 21) && (s.lane lane).stage == 1 && (st == LinkS.train || st == LinkS.switch || st == LinkS.loss) &&
      decide ((s.lane lane).t0 + 8000000 ≤ s.now)) s (trainFail lane s)

/-- FRAME_TRANSMIT (R128, R130, R136, R267): the next frame of a powered lane leaves; a tick holds no more frames than R126 gives. -/
def execFrameTransmit (lane : Nat) (s : State) : Result :=
  let t := s.lane lane
  if t.stage = 1 then whenever (decide (lane < 21)) s (sendTraining lane s)
  else whenever (decide (lane < 21) && decide (2 ≤ t.stage) && (t.txTick != s.tick || decide (t.txFidx < framesIn t.rate s.tick))) s (s.does (sendData lane))

/-- What a link's first entry to RUN after CAPS brings (R175, R181). -/
def afterCaps (n old : Nat) (s : State) : State :=
  if decide (n < 8) && old == LinkS.caps && s.rd (lkState n) == LinkS.run then s.does (tableCheck n) else s

/-- UPSTREAM_FRAME (R129-R132, R143, R144, R267): frame fidx of 2,125 levels, arriving at `arrive` in 10 ps of tray time. -/
def execUpstreamFrame (lane fidx arrive : Nat) (levels : List Int) (s : State) : Result :=
  let n := s.linkOf lane
  whenever (decide (lane < 21) && decide (2 ≤ (s.lane lane).stage)) s (afterCaps n (s.rd (lkState n)) (upstreamFrame lane fidx arrive levels s))

/-- MESSAGE_RESEND (R132): a message has waited 3 ticks for its acknowledgement. -/
def execMessageResend (n : Nat) (s : State) : Result :=
  let l := s.link n
  whenever (decide (n < 13) && l.sent.any (fun m => !m.again && decide (m.tick + 3 ≤ s.tick))) s
    (s.run [.link n { l with sent := l.sent.map (fun m => { m with again := true }) }])

/-- A command acts on the first accepted message of a type. -/
def withMsg (n typ : Nat) (s : State) (f : GotMsg → State → State) : Result :=
  match (s.link n).take? typ with
  | some (g, l) => if n < 8 then .next (f g (s.run [.link n l])) else .next s
  | none => .next s

/-- A capability page arrives (R140): the page is held, pages of the OR8's are sent as they become known. -/
def takePage (n : Nat) (g : GotMsg) (s : State) : State :=
  let l := s.link n
  let t := s.run [.link n { l with pages := tableInsert l.pages (g.msg.get 4 1) (sliceBytes g.msg.pay 1 27), gotPages := setBit l.gotPages (g.msg.get 4 1) }]
  let u := if t.rd (lkState n) = LinkS.caps || (t.link n).again then t.does (queuePages n) else t
  afterCaps n (u.rd (lkState n)) (capsCheck n u)

/-- CAP (R140). -/
def execCap (n : Nat) (s : State) : Result := withMsg n MsgT.cap s (takePage n)

/-- HINT (R145, R169). -/
def execHint (n : Nat) (s : State) : Result := withMsg n MsgT.hint s (fun g t => t.does (takeHints n g.tick g.msg))

/-- HINT_EXPIRE (R169): hints whose hold has ended. -/
def execHintExpire (s : State) : Result :=
  whenever (s.hints.any (fun h => decide (h.stop ≤ s.now))) s (s.run [.hints (s.hints.filter (fun h => decide (s.now < h.stop)))])

/-- The STEP messages of one upstream tick are delivered as one (R144, R195): the last of them stands. -/
def takeStep (n : Nat) (s : State) : State :=
  let l := s.link n
  match l.inbox.find? (fun g => g.msg.typ == MsgT.step) with
  | none => s
  | some g =>
    let same := l.inbox.filter (fun x => x.msg.typ == MsgT.step && x.tick == g.tick)
    let c := (same.getLastD g).msg.get 4 8
    let l1 := { l with inbox := l.inbox.filter (fun x => !same.contains x) }
    (stepDelivered n c) (s.run [.link n (l1.noteUp g.tick (fun u => { u with began := true }))])

/-- STEP (R142, R195, R196): delivered with its upstream tick. -/
def execStep (n : Nat) (s : State) : Result :=
  let due := match (s.link n).inbox.find? (fun g => g.msg.typ == MsgT.step) with
    | some g => decide (g.tick + s.rd (SWJ_STAT.updelay n) ≤ s.tick + 1)
    | none => false
  whenever (decide (n < 8) && due) s (takeStep n s)

/-- AGEING (R146, R181). -/
def execAgeing (n : Nat) (s : State) : Result := withMsg n MsgT.ageing s (fun g t => t.does (ageing n g.msg))

/-- A FREQ_ACK (R151, R159): the pending FREQ is answered; a late one is reported, a refused one leaves the index in force. -/
def freqAck (n : Nat) (m : Msg) (s : State) : List Upd :=
  let res := m.get 5 1
  [.set (SWJ_FREQPEND.valid n) 0, note Ty.FREQ_APPLY (s.linkSrcNow n) [(24, 1, m.get 4 1), (25, 1, res), (32, 8, m.get 8 8)],
   .set (V.freqHeld n) (if res < 2 then m.get 4 1 else s.rd (CAP_FREQ.force n))] ++
  onlyIf (res == 1) [.set (SWJ_EVT.late n) 1]

/-- FREQ_ACK (R151). -/
def execFreqAck (n : Nat) (s : State) : Result := withMsg n MsgT.freqAck s (fun g t => t.does (freqAck n g.msg))

/-- TIME_SEND (R152): at least every 1 ms to a slot in RUN. -/
def execTimeSend (n : Nat) (s : State) : Result :=
  whenever (decide (n < 8) && s.rd (lkState n) == LinkS.run) s (s.does (timeSend n))

/-- RTT_MEASURE (R141): at entry to RUN and every 1 s after. -/
def execRttMeasure (n : Nat) (s : State) : Result :=
  whenever (decide (n < 8) && s.rd (lkState n) == LinkS.run &&
      (s.link n).echoOk && ((s.link n).rttAt == 0 || decide ((s.link n).rttAt + 4000000000 ≤ s.now + 1))) s (rttRun n s)

/-- RTT_NOW (R141): a write of SWJ_CTL.rtt_now by a requester. -/
def execRttNow (req n : Nat) (s : State) : Result :=
  if n < 8 then s.gated req (0x30_0000 + 0x1_0000 * n) 4 2 false (rttNow n s) else .next s

/-- The link returns to DETECT on the lane in use (R160); nothing holds it down any more. The time from its entry to
LOSS runs on until a lane reaches RUN (R158). -/
def retrain (n : Nat) (s : State) : State :=
  let i := s.currentLane n
  let other := if i = primaryLane n then spareLane n else primaryLane n
  let t := s.run [dropLane other s, .link n { s.link n with held := false, again := false, twin := none }, .set (V.energy n) 0, .set (V.lookAt n) 0]
  ((t.does (seedLanes n)).does (startLane i (s.rd (lkRateMax n)) false)).does (linkTo n LinkS.detect 0)

/-- RETRAIN (R160): a write of SWJ_CTL.retrain; a link that is OFF stays so. -/
def execRetrain (req n : Nat) (s : State) : Result :=
  if n < 8 then s.gated req (0x30_0000 + 0x1_0000 * n) 4 4 false (if s.rd (lkState n) = LinkS.off then s else retrain n s) else .next s

/-- Uncorrectable frames of the last 1 ms pass the threshold of R155; a timing lane uses its reset value. -/
def State.switchDue (s : State) (n : Nat) : Bool :=
  decide ((if n < 8 then s.rd (SWJ_FECCFG.switch_thr n) else 16) < (recent s.now (s.link n).uncAt).length)

/-- The spare starts training at the rate in force (R155). -/
def plannedSwitch (n : Nat) (s : State) : State :=
  let by' := s.switchDue n
  ((s.run [.link n { s.link n with byRate := by', forced := false, switchAt := none }]).does (startLane (spareLane n) (s.rd (lkRate n)) true)).does
    (linkTo n LinkS.switch (if by' then 5 else 0))

/-- PLANNED_SWITCH (R155, R272). -/
def execPlannedSwitch (n : Nat) (s : State) : Result :=
  whenever (decide (n < 12) && s.rd (lkState n) == LinkS.run && !s.on (lkLane n) && s.spareFree n && !s.on (lkSpareFail n) &&
      (s.switchDue n || (s.link n).forced)) s (plannedSwitch n s)

/-- The tick that SWITCH names (R155): four boundaries on, or the first outside every tip-off and FREQ span. -/
def State.switchTick (s : State) (n : Nat) : Nat :=
  let first := boundaryOf s.now / 4000 + 4
  first + ((List.range 32768).find? (fun d => (s.guardTimes n).all (fun g => !near20 g ((first + d) * 4000)))).getD 0

/-- SPARE_TRAINED (R155): the spare carries frames; SWITCH names the boundary. -/
def execSpareTrained (n : Nat) (s : State) : Result :=
  let k := s.switchTick n
  let l := (s.link n).send MsgT.switch (msgBytes [(8, 8, k)])
  whenever (decide (n < 12) && s.rd (lkState n) == LinkS.switch && (s.lane (spareLane n)).stage == 3 && (s.link n).switchAt.isNone) s
    (s.run [.link n { l with switchAt := some k }])

/-- Both ends take frames from the spare (R155). -/
def laneSwitch (n : Nat) (s : State) : State :=
  let l := s.link n
  let t := s.run ([dropLane (primaryLane n) s, .set (lkLane n) 1, .set (lkRate n) (s.lane (spareLane n)).rate,
      .link n { l with switchAt := none, uncAt := [], rttAt := 0, echoOk := false, twin := none }] ++
    onlyIf (decide (n < 8)) [.set (SWJ_EVT.switch n) 1, .set (SWJ_STAT.updelay n) (s.upDelay (spareLane n))])
  ((t.does (showUpLane n)).run (onlyIf (decide (n < 8)) [note Ty.LANE_SWITCH (t.linkSrcNow n) [(24, 1, 0), (28, 8, (l.switchAt.getD 0) * 4000)]])).does
    (linkTo n LinkS.run (if l.byRate then 5 else 0))

/-- LANE_SWITCH (R155). -/
def execLaneSwitch (n : Nat) (s : State) : Result :=
  let due := match (s.link n).switchAt with | some k => decide (k * 4000 ≤ s.now) | none => false
  whenever (decide (n < 12) && s.rd (lkState n) == LinkS.switch && due) s (laneSwitch n s)

/-- Tray time of the last correctable frame; in ALIGN none may have come yet. -/
def State.lastFrame (s : State) (n : Nat) : Nat :=
  if s.rd (lkState n) = LinkS.align then max (s.link n).lastGood (s.link n).since else (s.link n).lastGood

/-- LINK_LOSS (R156): no correctable frame for 16 frame periods. -/
def execLinkLoss (n : Nat) (s : State) : Result :=
  whenever (decide (n < 13) && decide (3 ≤ s.rd (lkState n)) && s.rd (lkState n) != LinkS.loss &&
      decide (s.lastFrame n + 16 * framePeriod (s.rd (lkRate n)) ≤ s.now)) s (linkLost n s)

/-- Training is tried again, on the primary first (R158). -/
def lossRetry (n : Nat) (s : State) : State :=
  ((s.run ([.link n { s.link n with retryAt := s.now }] ++ onlyIf (decide (n < 8)) [dropLane (spareLane n) s])).does
    (startLane (primaryLane n) (s.rd (lkRateMax n)) false))

/-- LOSS_RETRY (R158): every 1 s in LOSS, unless a survey holds the lane down (R38). -/
def execLossRetry (n : Nat) (s : State) : Result :=
  whenever (decide (n < 13) && s.rd (lkState n) == LinkS.loss && !(s.link n).held && decide (max (s.link n).lossAt (s.link n).retryAt + 4000000000 ≤ s.now)) s (lossRetry n s)

/-- The timeout of a lost link (R158): PROTECT off on the slot's group. -/
def lossTimeout (n : Nat) (s : State) : State :=
  let l := s.link n
  let left := if l.leftRun = 0 then l.lossAt else l.leftRun
  let g := match s.seqRailOf? n with | some q => [s.rd (SEQ_RAILMODE.group q)] | none => []
  protectGroups (.linkLoss n) g
    (s.run [note Ty.PROTECT_TRIP (s.linkSrcNow n) [(24, 1, n), (25, 1, 1), (28, 4, (s.now - left) / 4000000), (32, 8, left)]])

/-- LOSS_TIMEOUT (R158): with action 1, no lane has reached RUN within SWJ_LOSSCFG.timeout of the entry to LOSS. -/
def execLossTimeout (n : Nat) (s : State) : Result :=
  whenever (decide (n < 8) && (s.link n).lossAt != 0 && s.rd (lkState n) != LinkS.off && s.on (SWJ_LOSSCFG.action n) &&
      decide ((s.link n).lossAt + s.rd (SWJ_LOSSCFG.timeout n) * 4000000 ≤ s.now) && !s.orders.holds.any (fun h => h.holder == .linkLoss n)) s
    (lossTimeout n s)

end Sys2Proof.Machine
end

