-- ==== Sys2Proof/Machine/ExecThermal.lean ====
section
/-! DEFINITION. THM's commands: DEV_TEMP_LEVEL to THERMAL_SHUTDOWN, and TEMP_INPUT_FAULT to LEAKMAP_CLEAR (R349-R366). -/

namespace Sys2Proof.Machine

/-- DEV_TEMP_LEVEL (R349). -/
def execDevTempLevel (s : State) : Result :=
  whenever (!s.on (V.planeHeld 0) && !s.on (diodeBad (s.rd THM_DEVSTAT.sel)) && s.devLevel != s.rd THM_DEVSTAT.level) s (devTo s.devLevel (s.rd THM_DEVSTAT.sel) 0 s)

/-- DIODE_BROKEN (R348, R350). -/
def execDiodeBroken (d : Nat) (s : State) : Result :=
  whenever (decide (d < 2) && s.rd (V.dioBad d) == 2 && !s.on (diodeBad d)) s (diodeBroke d s)

/-- DIODE_GRACE_EXPIRE (R350): shutdown follows. -/
def execDiodeGraceExpire (s : State) : Result :=
  let d := s.rd THM_DEVSTAT.sel
  whenever (s.on (diodeBad d) && s.rd V.graceAt != 0 && decide (s.rd V.graceAt + s.rd THM_DEVCFG.grace * 4000000000 ≤ s.now + 1)) s
    (s.run [.set V.shutDue 1, .set V.graceAt 0, devRec (s.rd THM_DEVSTAT.level) 3 d 2 s])

/-- THERMAL_SHUTDOWN (R352). -/
def execThermalShutdown (s : State) : Result := whenever (s.rd V.thermAt == 0 && !s.on V.thermHold && s.thermalDue) s (thermalShutdown s)

/-- TEMP_INPUT_FAULT (R354). -/
def execTempInputFault (i : Nat) (s : State) : Result :=
  let op := s.inputOpen i && !s.on (THM_EXTT.open_ i)
  let sh := s.inputShort i && !s.on (THM_EXTT.short i)
  whenever (decide (i < 16) && s.on (THM_EXTCFG.en i) && (op || sh)) s
    ((s.run [.set (THM_EXTT.t i) 9600, (if op then .set (THM_EXTT.open_ i) 1 else .set (THM_EXTT.short i) 1), .set THM_EVT.fault 1]).does
      (fun t => [limitRec i (if op then 5 else 6) t]))

/-- MAP_LOST (R355). -/
def execMapLost (n : Nat) (s : State) : Result :=
  whenever (decide (n < 8) && s.on THM_CTL.map_en && !s.on (THM_MAPT.lost n) && s.rd (V.mapMissing n) == 1000 && s.rd (rState n) == RailS.regulating) s (mapLose n s)

/-- THERMAL_CEILING_STEP (R357). -/
def execThermalCeilingStep (n : Nat) (s : State) : Result :=
  whenever (decide (n < 8) && (s.ceilStep n).isSome) s (setCeil n ((s.ceilStep n).getD 0xFF) s)

/-- A critical latch is cleared while its source reads at most crit − hys (R358). -/
def tlatchClear (i : Nat) (s : State) : State :=
  let cool := s.limCrit i == 0 || !s.srcUsed i || decide (s.srcTemp i + (64 * s.limHys i : Nat) ≤ (64 * s.limCrit i : Nat))
  if s.isLatched i && cool then protectDropAll (.thermal i) (s.run [setLatch i false s]) else s

/-- TLATCH_CLEAR (R358): a write of THM_TLATCH. -/
def execTlatchClear (req : Nat) (w : ClearWrite) (s : State) : Result :=
  s.gated req 0xB0_0028 4 w.value false
    (gathered (fun s => (sources.filter (fun i => bit (clearBits w.value w.hw) (if i < 16 then i else 16 + (i - 56)))).foldl (fun t i => tlatchClear i t) s) s)

/-- A kicking channel reaches stall speed, or its kick time elapses (R362). -/
def kickEnd (f a : Nat) (s : State) : State :=
  if s.zStall a ≤ s.rd (THM_CHSTAT.rpm f) then
    s.run (fanTo f FanS.run s ++ [.set (V.fanNext f) (s.fanDrive f a FanS.run (s.rd (THM_CHDUTY.demand f))), .set (V.kickAgain f) 0] ++
      onlyIf (s.on (V.kickAgain f)) [stallRec f 2 (s.zNum a) (s.rd (V.stallCount f)) s])
  else fanStalls f a (s.run [.set (V.fanNext f) 0])

/-- A channel has been in its state for some milliseconds. -/
def State.fanFor (s : State) (f ms : Nat) : Bool := decide (s.rd (V.fanAt f) + ms * 4000000 ≤ s.now + 1)

/-- FAN_KICK_END (R362). -/
def execFanKickEnd (f : Nat) (s : State) : Result :=
  match s.zoneOf? f with
  | some a => whenever (decide (f < 20) && s.rd (THM_CHSTAT.state f) == FanS.kick && (decide (s.zStall a ≤ s.rd (THM_CHSTAT.rpm f)) || s.fanFor f (s.zKick a))) s (kickEnd f a s)
  | none => .next s

/-- FAN_STALL (R362): below stall speed for 1 s in RUN. -/
def execFanStall (f : Nat) (s : State) : Result :=
  match s.zoneOf? f with
  | some a => whenever (decide (f < 20) && s.rd (THM_CHSTAT.state f) == FanS.run && s.rd (V.slowAt f) != 0 && decide (s.rd (V.slowAt f) + 4000000000 ≤ s.now + 1)) s
      (fanStalls f a (s.run [.set (V.fanNext f) 0]))
  | none => .next s

/-- FAN_RETRY (R362). -/
def execFanRetry (f : Nat) (s : State) : Result :=
  match s.zoneOf? f with
  | some a => whenever (decide (f < 20) && s.rd (THM_CHSTAT.state f) == FanS.stalled && s.fanFor f (s.zRetry a)) s
      (if s.rd (THM_CHDUTY.demand f) = 0 then s.run (fanTo f FanS.off s)
       else s.run (fanTo f FanS.kick s ++ [.set (V.kickAgain f) 1, .set (V.fanNext f) (s.fanDrive f a FanS.kick 0)]))
  | none => .next s

/-- FLOW_WINDOW (R364): the first tick after a whole second of tray time. -/
def execFlowWindow (s : State) : Result := whenever (decide (s.rd V.flowSecond < s.now / 4000000000)) s (flowWindow s)

/-- FLOW_POWER_OFF (R364). -/
def execFlowPowerOff (z : Nat) (s : State) : Result :=
  match s.fanItems.find? (fun a => s.zNum a == z) with
  | some a => whenever (s.on (THM_ZCFG.flow_act z) && bit (s.rd THM_FLOWLOW.zones) z && !s.on (V.flowOff z) && s.rd (V.flowLowAt z) != 0 &&
      decide (s.rd (V.flowLowAt z) + s.rd (THM_ZCFG.flow_to z) * 4000000000 ≤ s.now + 1)) s (flowPowerOff a s)
  | none => .next s

/-- LEAK_WET (R365, R366). -/
def execLeakWet (i : Nat) (s : State) : Result :=
  whenever (decide (i < 8) && s.rd (V.wetAt i) != 0 && decide (s.rd (V.wetAt i) + 400000000 ≤ s.now + 1) && !bit (s.rd THM_LEAKMAP.wet) i) s (leakLatch i true s)

/-- LEAK_OPEN (R365, R366). -/
def execLeakOpen (i : Nat) (s : State) : Result :=
  whenever (decide (i < 8) && s.rd (V.openAt i) != 0 && decide (s.rd (V.openAt i) + 4000000000 ≤ s.now + 1) && !bit (s.rd THM_LEAKMAP.open_) i) s (leakLatch i false s)

/-- A leak latch is cleared while the input reads dry (R366). -/
def leakClear (i : Nat) (s : State) : State :=
  if bit (s.rd THM_LEAKMAP.latch) i && s.rd (Sig.leak i) = 0 then
    protectDropAll (.leak i) (s.run [.set THM_LEAKMAP.latch (clearBit (s.rd THM_LEAKMAP.latch) i), .set (V.leakWas i) 0,
      note Ty.LEAK (thmSrc (36 + i)) [(24, 1, i), (25, 1, 3), (26, 1, s.leakTop i (s.on (V.leakWas i))),
        (27, 1, (s.leakZones i).foldl (fun m a => setBit m (s.zNum a)) 0)]])
  else s

/-- LEAKMAP_CLEAR (R366): a write of THM_LEAKMAP. -/
def execLeakmapClear (req : Nat) (w : ClearWrite) (s : State) : Result :=
  s.gated req 0xB0_0024 4 w.value false (gathered (fun s => (bitsOf 8 (clearBits w.value w.hw)).foldl (fun t i => leakClear i t) s) s)

end Sys2Proof.Machine
end

