-- ==== Sys2Proof/Machine/ExecTwoWire.lean ====
section
/-! DEFINITION. The two-wire ports' commands (R471-R490). -/

namespace Sys2Proof.Machine

/-- TRAY_WINDOW_READ (R478, R479): n bytes from a target port. -/
def execTrayWindowRead (port n : Nat) (s : State) : Result := whenever (decide (port < 2) && s.targetRuns) s (s.does (windowRead port n))

/-- TRAY_WINDOW_WRITE (R478, R481): the bytes of one write transaction. -/
def execTrayWindowWrite (port : Nat) (bs : List Nat) (s : State) : Result := whenever (decide (port < 2) && s.targetRuns) s (s.does (windowWrite port bs))

/-- ALERT_RESPONSE (R482): answered while the line is asserted. -/
def execAlertResponse (s : State) : Result := whenever (s.targetRuns && s.alertOn) s (s.run [giveBytes [s.cmdAddr] s])

/-- CLEAR_FAULTS (R484). -/
def execClearFaults (pec : Option Nat) (s : State) : Result := cmdWrite 0x03 [] true pec (s.run [.set V.twiStatus 0]) s

/-- CAPABILITY, STATUS_WORD, PMBUS_REVISION, MFR_ID, MFR_MODEL, MFR_REVISION and MFR_SERIAL (R484). -/
def execCapability (more : Bool) (s : State) : Result := cmdRead 0x19 [] [0xD0] more s
def execStatusWord (more : Bool) (s : State) : Result := cmdRead 0x79 [] (leBytes 2 s.statusWord) more s
def execPmbusRevision (more : Bool) (s : State) : Result := cmdRead 0x98 [] [0x44] more s
def execMfrId (more : Bool) (s : State) : Result := cmdRead 0x99 [] (blockOf (ascii "HZF")) more s
def execMfrModel (more : Bool) (s : State) : Result := cmdRead 0x9A [] (blockOf (ascii "OR8")) more s
def execMfrRevision (more : Bool) (s : State) : Result := cmdRead 0x9B [] (blockOf (ascii "B1")) more s
def execMfrSerial (more : Bool) (s : State) : Result := cmdRead 0x9E [] (blockOf (leBytes 8 (s.rd V.fuseSerial))) more s

/-- TRAY_ORDER (R485, R486). While the management plane does not run its command byte is NACKed; `acked` says that the byte came
before that, and the order is then discarded with code 3. -/
def execTrayOrder (body : List Nat) (pec : Option Nat) (acked : Bool) (s : State) : Result :=
  if s.mgmtRuns then cmdWrite 0xD0 (blockOf body) (body.length == 20) pec (s.does (trayOrderFx body)) s
  else whenever (s.targetRuns && acked) s (s.run [.set V.orderCode 3, setStatus 2 s])

/-- ORDER_RESULT (R484). -/
def execOrderResult (more : Bool) (s : State) : Result :=
  cmdRead 0xD1 [] (blockOf (leBytes 4 (s.rd V.orderSeq) ++ [s.rd V.orderCode, s.rd V.orderBlk, s.rd V.orderTgt, s.rd V.orderScope] ++ leBytes 4 (s.rd V.orderVal))) more s

/-- READ_INFORCE (R484): a body of another count is discarded. -/
def execReadInforce (body : List Nat) (more : Bool) (s : State) : Result :=
  let b := body.getD 0 0
  let src := if b < 5 then s.orders.source b (body.getD 1 0) (body.getD 2 0) else 0
  let v := if b < 5 then s.orders.value b (body.getD 1 0) (body.getD 2 0) else 0
  if body.length = 3 then cmdRead 0xD2 (blockOf body) (blockOf ([src, 0, 0, 0] ++ leBytes 4 v)) more s
  else cmdWrite 0xD2 (blockOf body) false none s s

/-- TRAY_TIME (R484). -/
def execTrayTime (more : Bool) (s : State) : Result := cmdRead 0xD3 [] (leBytes 8 s.now) more s

/-- RCV_ADDR, RCV_DATA, RCV_LEN and RCV_GO (R484, R488): NACKed while the window is closed. -/
def execRcvAddr (body : List Nat) (pec : Option Nat) (s : State) : Result :=
  if s.rcvOpen then cmdWrite 0xE0 body (body.length == 4) pec (s.run [.set V.rcvOfs (ofLe body)]) s else .next s
def execRcvData (body : List Nat) (pec : Option Nat) (s : State) : Result :=
  let fits := decide (1 ≤ body.length) && decide (body.length ≤ 240) && decide (s.rd V.rcvOfs + body.length ≤ recoveryRoom (s.rd HIF_RCVSTAT.kind))
  if s.rcvOpen then
    cmdWrite 0xE1 (blockOf body) fits pec (s.run [.store (mgmtSram + s.rd V.rcvOfs) (body.map (· % 256)), .set V.rcvOfs (s.rd V.rcvOfs + body.length)]) s
  else .next s
def execRcvLen (body : List Nat) (pec : Option Nat) (s : State) : Result :=
  if s.rcvOpen then cmdWrite 0xE2 body (body.length == 4) pec (s.run [.set HIF_RCVLEN.len (ofLe body)]) s else .next s
def execRcvGo (pec : Option Nat) (s : State) : Result :=
  if s.rcvOpen then cmdWrite 0xE3 [] true pec (s.does (recoveryGo 1)) s else .next s

/-- RCV_STAT (R484, R488). -/
def execRcvStat (more : Bool) (s : State) : Result := if s.rcvOpen then cmdRead 0xE4 [] (leBytes 2 s.rcvWord) more s else .next s

/-- Command codes of R484. -/
def commandCodes : List Nat :=
  [0x03, 0x19, 0x79, 0x98, 0x99, 0x9A, 0x9B, 0x9E, 0xD0, 0xD1, 0xD2, 0xD3, 0xE0, 0xE1, 0xE2, 0xE3, 0xE4]

/-- UNKNOWN_COMMAND (R483, R484). -/
def execUnknownCommand (code : Nat) (s : State) : Result := whenever (s.targetRuns && !commandCodes.contains code) s (s.run [setStatus 4 s])

/-- A port watches its bus: the target ports' decoders run, or the management plane does (R473, R476). -/
def State.portAlive (s : State) (n : Nat) : Bool := if n < 2 then s.targetRuns else decide (n < 16) && !s.on (V.planeHeld 3)

/-- SCL_LOW_TIMEOUT (R476). -/
def execSclLowTimeout (n : Nat) (s : State) : Result :=
  whenever (s.portAlive n) s
    ((s.run ([.set (TWI_PSTAT.scl_low n) 1, bump s (TWI_PTOUT.count n)] ++ onlyIf (s.on (TWI_CRES.busy n)) (transferEnd n 4 (Config.portBytes n s.now)))).does (portEvent n 1))

/-- SDA_STUCK (R477): a controller port recovers the bus before its next transfer. -/
def execSdaStuck (n : Nat) (s : State) : Result :=
  whenever (s.portAlive n) s
    ((s.run ([.set (TWI_PSTAT.sda_stuck n) 1] ++ onlyIf (decide (2 ≤ n)) [.set (V.sdaBad n) 1])).does (portEvent n 2))

/-- CONTROLLER_TRANSFER (R489): a write of TWI_CCMD of port n. -/
def execControllerTransfer (req n value recov : Nat) (s : State) : Result :=
  if 2 ≤ n && n < 16 then s.gated req (0x100_1020 + 0x100 * n) 4 value false (controllerStart req n value recov s) else .next s

/-- A transfer loses at most as many arbitrations as it has retries, and one more where it ends by that (R475). -/
def State.lossesFit (s : State) (n out lost : Nat) : Bool :=
  if out = 3 then lost == s.rd (TWI_PCFG.retries n) + 1 else decide (lost ≤ s.rd (TWI_PCFG.retries n))

/-- TRANSFER_DONE (R475, R489). -/
def execTransferDone (n out sent lost : Nat) (rx : List Nat) (s : State) : Result :=
  whenever (s.on (TWI_CRES.busy n) && decide (2 ≤ n) && s.portAlive n && decide (out ≤ 3) && s.lossesFit n out lost && decide (rx.length ≤ 33)) s (transferDone n out sent lost rx s)

/-- REGULATOR_IDENT (R490): once after each cold reset's first commit, and again for a survey ordered later. -/
def execRegulatorIdent (vals : List Nat) (s : State) : Result :=
  whenever (s.committed && (!s.on V.identDone || s.on V.identOwed) && !s.on (V.planeHeld 3)) s
    ((s.doEach (List.range 32) (identEntry vals)).run [.set V.identDone 1, .set V.identOwed 0, .set TWI_EVT.ident 1])

end Sys2Proof.Machine
end

