-- ==== Sys2Proof/Machine/ExecBoot.lean ====
section
/-! DEFINITION. The drain of the gated keeper's queue (R405), and the management cores' accesses to the device physical space and
to registers they hold no grant for (R36, R410). -/

namespace Sys2Proof.Machine

/-- The state a write leaves. -/
def stateAfter (s : State) : Result → State
  | .next t => t
  | _ => s

/-- An address of an array of registers, `step` bytes apart. -/
def inArray (a base step count : Nat) : Bool := decide (base ≤ a) && decide (a < base + step * count) && (a - base) % step == 0

/-- A whole 64-bit register whose write is a command of its own, of whatever widths the write came (R6). -/
def wideCommand (req a value hw : Nat) (s : State) : Option Result :=
  if a = 0x10_0108 then some (execTxStampWrite req value s)
  else if inArray a 0x18_0088 0x10 3 then some (execJrnAckWrite req ((a - 0x18_0088) / 0x10) value s)
  else if inArray a 0xF0_0040 8 16 then some (execB2segWrite req ((a - 0xF0_0040) / 8) value s)
  else if inArray a 0x120_0200 8 64 then some (execPmcCntWrite req ((a - 0x120_0200) / 8) value hw s)
  else none

/-- The register, the value and the state in which a write that completes a 64-bit register acts (R6); none where the write completes
none. -/
def completedWrite (req a width value : Nat) (s : State) : Option (Nat × Nat × State) :=
  match regAt? a with
  | some h =>
    if !h.desc.wide || (req == Req.keeper && s.keeperGated) then none
    else if h.upper then
      some (h.addr, (tableFind? s.bus.lower (pairKey req h.addr)).getD (s.regRead req h % 2 ^ 32) + value % 2 ^ 32 * 2 ^ 32,
        s.run [.bus { s.bus with lower := tableErase s.bus.lower (pairKey req h.addr) }])
    else if width = 8 then some (h.addr, value % 2 ^ 64, s)
    else none
  | none => none

/-- JRN_CAPCTL's three bits (R74): a trigger written with the arm falls in its tick. -/
def captureControl (k value : Nat) (s : State) : Result :=
  let act (b : Bool) (f : State → Result) (t : State) : State := if b then stateAfter t (f t) else t
  .next (act (bit value 1) (execCaptureTrigger true k) (act (bit value 0) (execCaptureArm k) (act (bit value 2) (execCaptureRelease k) s)))

/-- A write of a register of the Cirque or the record plane whose effect is a command of its own; none where nothing is commanded. -/
def rowControl (k a value hw : Nat) (s : State) : Option Result :=
  if a = 0x10_0100 then some (if bit value 0 then execTxBegin k value s else if bit value 1 then execTxCommit k value s else execTxAbort k value s)
  else if stagingBases.any (fun b => b + 0xFF0C == a) then (if bit value 0 then some (execStgCancel k (a - 0xFF0C) s) else none)
  else if a = 0x18_0140 then (if bit value 0 then some (execJrnMgmtPush k s) else none)
  else if a = 0x18_0200 then some (captureControl k value s)
  else if a = 0x60_004C then (if bit value 0 then some (execImageLoad k s) else if bit value 1 then some (execLoadDiscard k s) else none)
  else if inArray a 0x90_0020 4 4 then some (execFaultClear k ((a - 0x90_0020) / 4) ⟨value, hw⟩ s)
  else if a = 0x90_0010 then some (execFirstRearm k ⟨value, hw⟩ s)
  else if a = 0xA0_0030 then some (execTripClear k ⟨value, hw⟩ s)
  else if a = 0xB0_0028 then some (execTlatchClear k ⟨value, hw⟩ s)
  else if a = 0xB0_0024 then some (execLeakmapClear k ⟨value, hw⟩ s)
  else none

/-- The same for the management plane and the island. -/
def rowManagement (k a value : Nat) (s : State) : Option Result :=
  if inArray a 0xC0_100C 0x100 8 then
    some (custodyCommand k ((a - 0xC0_100C) / 0x100) (bits value 0 3) (bits value 7 1) (bits value 8 1) s)
  else if inArray a 0xC0_1000 0x100 8 then some (execStrapWrite k ((a - 0xC0_1000) / 0x100) value s)
  else if a = 0xD0_1000 then some (execCoreRelease k value s)
  else if a = 0xD0_1044 then some (execKeylock k value s)
  else if a = 0xF0_0200 then some (execRecoveryGo k value s)
  else if a = 0xF0_0340 then some (execSvcpush k value s)
  else if inArray a 0xF0_1030 0x40 64 then some (execDoorbell k ((a - 0xF0_1030) / 0x40) value s)
  else if inArray a 0xF0_4014 0x40 16 then some (execDmaStart k ((a - 0xF0_4014) / 0x40) value s)
  else if a = 0x120_0000 then some (execSnap k value s)
  else if a = 0x120_0038 then some (execBwwinWrite k value s)
  else if a = 0x128_0010 then some (execUnlock k value none s)
  else if inArray a 0x128_0020 4 10 then some (execTestMuxSelect k a value s)
  else if a = 0x130_0018 then some (execWdogKick k value s)
  else if a = 0x130_0040 then some (execStandbyEnter k value s)
  else none

/-- Registers that hold fields of both sorts: their other fields first, then the field whose effect is a command.
Of TWI_CCMD, `hw` says how a recovery of the bus ends. -/
def rowMixed (k a value hw : Nat) (s : State) : Option Result :=
  if inArray a 0x30_0000 0x1_0000 8 && (bit value 1 || bit value 2) then
    (let n := (a - 0x30_0000) / 0x1_0000
     if !bit value 1 then some (execRetrain k n s)
     else
       let t := stateAfter s (execRttNow k n s)
       some (.next (if bit value 2 && t.rd (lkState n) != LinkS.off then retrain n t else t)))
  else if inArray a 0xF0_1024 0x40 64 then some (execRingEnable k ((a - 0xF0_1024) / 0x40) value s)
  else if inArray a 0x100_1020 0x100 16 && bit value 31 then some (execControllerTransfer k ((a - 0x100_1020) / 0x100) value (bits hw 0 2) s)
  else none

/-- A register one of whose fields has a row of its own in the table, or a BLOCK_STGCANCEL register (R76). -/
def hasRow (a : Nat) : Bool :=
  stagingBases.any (fun b => b + 0xFF0C == a) ||
    (match regAt? a with | some h => h.fields.any (fun e => ownRow e.2.addr e.2.lsb) | none => false)

/-- A write of 4 bytes that a filter lets through to a register whose effect is a command: that command's effect, beside the register's other
fields. -/
def rowWrite (req a value hw : Nat) (s : State) : State :=
  match (rowControl req a value hw s).or (rowManagement req a value s) with
  | some r => stateAfter s r
  | none =>
    let t := s.does (writeEffect req a 4 value hw)
    match rowMixed req a value hw t with
    | some r => stateAfter t r
    | none => t.run (hostTraffic req true 4)

/-- A register write, by whatever row of the table its register has. `hw` holds the bits the hardware sets in the same cycle (R8). -/
def anyWrite (req a width value hw : Nat) (s0 : State) : State :=
  let s := countersSeen a s0
  let plain := s.does (writeRegister req a width value hw)
  match completedWrite req a width value s with
  | some (b, v, t) => (match wideCommand req b v hw t with | some r => stateAfter t r | none => plain)
  | none =>
    if (req == Req.keeper && s.keeperGated) || !hasRow a || (s.writeGate req a width value false).isSome then plain
    else if (regAt? a).any (fun h => h.desc.wide) then plain
    else rowWrite req a (value % 2 ^ 32) hw s

/-- REGISTER_WRITE (R5-R10, R34, R35, R48-R50, R57, R588). -/
def execRegisterWrite (req a width value hw : Nat) (s : State) : Result := whenever (!s.spaceOff req) s (anyWrite req a width value hw s)

/-- A memory write of the keeper (R36, R410). -/
def keeperStore (a width value : Nat) (s : State) : State :=
  if s.unmapped a width then s.run [discardMem Req.keeper 5 false width value a]
  else if !s.coreWrites Req.keeper a then s.run [discardMem Req.keeper 8 false width value a]
  else s.does (memStore Req.keeper a width value)

/-- The keeper's queue drains in order (R405). -/
def drainQueue (q : List Queued) (s : State) : State :=
  q.foldl (fun t e => if e.mem then keeperStore e.addr e.width e.data t else anyWrite Req.keeper e.addr e.width e.data 0 t) s

/-- KEEPER_CHECKS_PASS (R405, R446): checks 7 and 8 pass and the on-chip wipe has ended; the queue drains, configuration requests are
answered, and the keeper runs. -/
def execKeeperChecksPass (s : State) : Result :=
  whenever (s.keeperGated && s.rd KPR_BOOT.stage == Stage.gated && s.fwBody 0 s.keeperPlace == 0 && !bit (s.rd MEM_STAT.wipe) 4 && !s.on CRP_PFSTAT.warn) s
    (keeperRuns ((drainQueue s.gq (s.run [.set KPR_GQUEUE.gated 0, .gq []])).run [.set HIF_CTL.cfg_ready 1]))

/-- What a read gives a core (R496): an uncorrectable word in keeper SRAM resets the management plane, and one elsewhere is an access
fault that gives no data. -/
def coreRead (req a n bad : Nat) (s : State) : State :=
  let found := s.badWord? a n
  let t := (checkRead a n s).does (coreTraffic false a n)
  if found.isNone then t.run [giveData req (ofLe (s.physBytes a n)) t]
  else if req = Req.keeper && (s.regionOf a == some 0) then mgmtReset 0x22 bad t
  else t

/-- DEVICE_MEMORY_ACCESS (R36, R405, R410, R496, R510): the gated keeper's writes outside keeper SRAM are queued; a management core's access of n bytes; one to memory that is being wiped or not
ready waits. `bad` names the cores that fail their self-test, should the access bring a management reset. -/
def execDeviceMemoryAccess (req : Nat) (isWrite : Bool) (a n data bad : Nat) (s : State) : Result :=
  if !isCore req || n = 0 then .next s
  else if isWrite && req = Req.keeper && s.keeperGated && s.regionOf a != some 0 then .next (s.does (gateQueue true a n data))
  else if s.unmapped a n then .next (s.run (discardMem req 5 (!isWrite) n data a :: onlyIf (!isWrite) [giveData req 0 s]))
  else if !s.coreMay req a n isWrite then .next (s.run (discardMem req 2 (!isWrite) n data a :: onlyIf (!isWrite) [giveData req 0 s]))
  else if s.memWaits a then .next s
  else if !isWrite then .next (coreRead req a n bad s)
  else if !s.coreWrites req a then .next (s.run [discardMem req 8 false n data a])
  else .next (s.does (memStore req a n data))

/-- GRANT_FILTERED_READ (R410): a service core's register read that no grant passes returns 0 and is recorded. -/
def execGrantFilteredRead (req a width : Nat) (s : State) : Result :=
  whenever (isServiceCore req && !s.planeDown a && !s.mayRead req a width) s
    (s.run [giveData req 0 s, .emit (discardedRec req 2 0 true width 0 a)])

end Sys2Proof.Machine
end

