-- ==== Sys2Proof/Machine/ExecCaps.lean ====
section
/-! DEFINITION. The commands of the caps, the ageing trim and the predictor: CAP_LOOP to MORAINE_WIPE_DONE (chapters 5 and 6). -/

namespace Sys2Proof.Machine

/-- CAP_LOOP (R177, R180): 1,000 control ticks have passed since the last. -/
def execCapLoop (s : State) : Result :=
  whenever (s.rd V.capLoopAt == 0 || decide (s.rd V.capLoopAt + 1000 ≤ s.tick + 1)) s (capLoop s)

/-- ESCALATION_RELEASE (R180). -/
def execEscalationRelease (n : Nat) (s : State) : Result :=
  whenever (decide (n < 8) && s.rd (CAP_FREQ.esc n) != 0xFF && decide (s.rd (V.escUntil n) ≤ s.now)) s (escalationRelease n s)

/-- A cap of a scope that is not met (R176). -/
def State.unmetCap (s : State) (n : Nat) : Option (Nat × Nat) := (s.caps n).find? (s.capOver n 256)

/-- CAP_UNMET (R177, R186): a cap is not met 10 s after the scope was found over at index 0. -/
def execCapUnmet (n : Nat) (s : State) : Result :=
  let c := (s.unmetCap n).getD (0, 1)
  whenever (decide (n < 9) && s.rd (V.unmetSince n) != 0 && !s.on (V.unmetTold n) && decide (s.rd (V.unmetSince n) + 40000000000 ≤ s.now + 1) &&
      (s.unmetCap n).isSome) s
    (s.run [.set (V.unmetTold n) 1, capAct n 0 0 5 (s.meanW n c.2) c.1 c.2])

/-- AGE_TRIM_PERIOD (R181): the end of a 100 ms period of tray time. -/
def execAgeTrimPeriod (n : Nat) (s : State) : Result :=
  whenever (decide (n < 8) && decide (s.rd (V.agePeriod n) ≤ s.now / 400000000)) s (s.does (agePeriodEnd n))

/-- AGE_REPORT_TIMEOUT (R181): a group has not reported for 300 ms while the link ran, or the link has left RUN. -/
def execAgeReportTimeout (n : Nat) (s : State) : Result :=
  let run := s.rd (lkState n) == LinkS.run
  whenever (decide (n < 8) && (!run || (s.silentGroup n).isSome)) s (s.does (ageHold n ((s.silentGroup n).getD 0xFF)))

/-- ACCURACY_WINDOW (R211): a window of 1,000 ticks is full. -/
def execAccuracyWindow (n : Nat) (s : State) : Result :=
  whenever (decide (n < 8) && decide (1000 ≤ (s.prdSlot n).ticks) && (s.rd (PRD_SSTAT.state n) == PrdS.active || s.rd (PRD_SSTAT.state n) == PrdS.suspended)) s
    ((s.does (windowEnd n)).does prdStat)

/-- SUSPEND_HOLD_END (R211). -/
def execSuspendHoldEnd (n : Nat) (s : State) : Result :=
  whenever (decide (n < 8) && s.rd (PRD_SSTAT.state n) == PrdS.suspended && decide ((s.prdSlot n).holdUntil ≤ s.now)) s ((s.does (holdEnd n)).does prdStat)

/-- MORAINE_WIPE_DONE (R199). -/
def execMoraineWipeDone (s : State) : Result := whenever (s.on PRD_WIPE.busy) s (s.does moraineWiped)

end Sys2Proof.Machine
end

