-- ==== Sys2Proof/Machine/ExecJob.lean ====
section
/-! DEFINITION. The commands of the timing lanes and of JOB: TIME to TLANE_RTT_MEASURE, EPOCH_END to LOCKSTEP, and TIPOFF_ACK
(R44, R133, R268-R290). Lane m is link 8 + m. -/

namespace Sys2Proof.Machine

/-- A command acts on the first accepted message of a type on a timing lane. -/
def withLane (m typ : Nat) (s : State) (f : GotMsg → State → State) : Result :=
  match (s.link (8 + m)).take? typ with
  | some (g, l) => if m < 5 then .next (f g (s.run [.link (8 + m) l])) else .next s
  | none => .next s

/-- TIME (R268, R44, R45): on an up lane. -/
def execTime (m : Nat) (s : State) : Result :=
  withLane m TmlT.time s (fun g t => if t.rd (JOB_LCFG.role m) = 1 then timeWord m g t else t)

/-- DISC_LOCK (R44). -/
def execDiscLock (s : State) : Result :=
  whenever (s.rd TIM_DISC.state == Disc.acquire && decide (1000 ≤ s.rd V.discGood)) s (s.does (discTo Disc.locked (s.rd TIM_DISC.lane)))

/-- DISC_REACQUIRE (R44, R45, R271, R286). -/
def execDiscReacquire (s : State) : Result :=
  whenever (s.rd TIM_DISC.state == Disc.locked && decide (16 ≤ s.rd V.discBad)) s
    (((unsettle s).does (discTo Disc.acquire (s.rd TIM_DISC.lane))).does (timeStep (s.rdI V.pherr) (s.rd TIM_DISC.lane)))

/-- DISC_HOLDOVER (R44). -/
def execDiscHoldover (s : State) : Result :=
  whenever ((s.rd TIM_DISC.state == Disc.acquire || s.rd TIM_DISC.state == Disc.locked) && decide (8 ≤ s.rd V.discMissing)) s
    (((unsettle s).run [setI TIM_RATE.ppb s.meanRate]).does (discTo Disc.holdover (s.rd TIM_DISC.lane)))

/-- SETTLED (R271): LOCKED for 10 s. -/
def execSettled (s : State) : Result :=
  whenever (s.rd TIM_DISC.state == Disc.locked && s.rd V.lockedSince != 0 && decide (s.rd V.lockedSince + 40000000000 ≤ s.now + 1)) s
    (s.run [.set JOB_STAT.settled 1])

/-- TIME_UP (R269): from a child, on a down lane. -/
def execTimeUp (m : Nat) (s : State) : Result := withLane m TmlT.timeUp s (fun g t => t.does (timeUp m g))

/-- DELAY (R269). -/
def execDelay (m : Nat) (s : State) : Result := withLane m TmlT.delay s (laneRtt m)

/-- TLANE_RTT_MEASURE (R269): at link-up and every 1 s the up lane asks with a TIME_UP. -/
def execTlaneRttMeasure (m : Nat) (s : State) : Result :=
  let l := s.link (8 + m)
  whenever (decide (m < 5) && s.rd (JOB_LCFG.role m) == 1 && s.rd (lkState (8 + m)) == LinkS.run && (l.rttAt == 0 || decide (l.rttAt + 4000000000 ≤ s.now + 1))) s
    (s.run [.link (8 + m) { l with upDue := true, rttAt := s.now + 1 }])

/-- The last epoch that has ended, in job time. -/
def State.endedEpoch (s : State) : Nat := s.jobNow / epochTicks - 1

/-- EPOCH_END (R273, R275). -/
def execEpochEnd (s : State) : Result :=
  whenever (decide (epochTicks ≤ s.jobNow) && s.rd V.epochTaken != s.endedEpoch + 1) s (epochAll s.endedEpoch s)

/-- A descriptor has latched its contribution and not yet sent. -/
def State.reportOpen (s : State) (j : Nat) : Bool := (s.job j).valid && (s.job j).own.isSome && !(s.job j).sent

/-- REPORT_SEND (R276): at E + (D − d) × t_hop, with this tray's depth d below the job's root. -/
def execReportSend (j : Nat) (s : State) : Result :=
  let r := s.job j
  whenever (decide (j < 8) && s.reportOpen j && !r.root && decide (r.parent < 5) &&
      decide (epochEnd r.epoch + (r.d - s.jobDepth r) * s.rd JOB_HOP.t_hop * 4 ≤ s.jobNow)) s (reportSend j s)

/-- REPORT (R276, R281). -/
def execReport (m : Nat) (s : State) : Result := withLane m TmlT.report s (fun g t => t.does (takeReport m g))

/-- CHILD_DETACH (R281). -/
def execChildDetach (j m : Nat) (s : State) : Result :=
  let r := s.job j
  whenever (decide (j < 8) && r.valid && bit r.children m && !bit r.detached m && decide (0 < tableGet 0 r.silent m) && decide (r.missLimit ≤ tableGet 0 r.silent m)) s
    (s.does (childDetach j m))

/-- HUDDLE_DECIDE (R277). -/
def execHuddleDecide (j : Nat) (s : State) : Result :=
  let r := s.job j
  whenever (decide (j < 8) && s.reportOpen j && r.root && decide (epochEnd r.epoch + r.d * s.rd JOB_HOP.t_hop * 4 ≤ s.jobNow)) s (huddleDecide j s)

/-- RESULT (R278, R284). -/
def execResult (m : Nat) (s : State) : Result := withLane m TmlT.result s (resultDecoded m)

/-- RESULT_APPLY (R278, R282, R283): E + 40 µs. -/
def execResultApply (j : Nat) (s : State) : Result :=
  whenever (decide (j < 8) && (match (s.job j).due with | some r => decide (applyAtOf r.epoch ≤ s.jobNow) | none => false)) s (resultApply j s)

/-- RESULT_LOST (R279): E + 36 µs without a RESULT. -/
def execResultLost (j : Nat) (s : State) : Result :=
  let r := s.job j
  whenever (decide (j < 8) && r.valid && r.own.isSome && !r.root && !r.taken && !r.lost && decide (epochEnd r.epoch + 144000 ≤ s.jobNow)) s
    (s.does (resultLost j))

/-- TRIGGER (R287). -/
def execTrigger (m : Nat) (s : State) : Result := withLane m TmlT.trigger s (takeTrigger m)

/-- LOCKSTEP (R290). -/
def execLockstep (m : Nat) (s : State) : Result := withLane m TmlT.lockstep s (fun g t => if t.rd JOB_LSCTL.lane = m then takeLock g t else t)

/-- A TIPOFF_ACK (R133, R286, R291): the barrier is answered; late and cancelled ones are recorded, those cancelled once only. -/
def tipAck (n : Nat) (m : Msg) (s : State) : List Upd :=
  let l := s.link n
  let res := m.get 12 1
  let mine (x : Tip) : Bool := x.job == m.get 4 1 && x.barrier == m.get 8 4
  let t := ((l.tips.find? mine).map (·.t)).getD (s.rd (JOB_JTIPT.t (m.get 4 1)))
  let rest : Link := { l with tips := l.tips.filter (fun x => !mine x) }
  onlyIf (res != 0) [.link n (if res = 1 then (l.tips.filter mine).foldl (fun r x => r.mark s.now x.x) rest else rest)] ++
  onlyIf (res == 2) [.set (SWJ_EVT.late n) 1, tipRec (m.get 4 1) 1 1 (m.get 8 4) t] ++
  onlyIf (res == 3 && l.tips.any mine) [tipRec (m.get 4 1) 2 1 (m.get 8 4) t]

/-- TIPOFF_ACK (R133). -/
def execTipoffAck (n : Nat) (s : State) : Result := withMsg n MsgT.tipoffAck s (fun g t => t.does (tipAck n g.msg))

end Sys2Proof.Machine
end

