-- ==== Sys2Proof/Machine/ExecTick.lean ====
section
/-! DEFINITION. CONTROL_TICK, the transaction's boundary of effect, the ordered survey and errors of the live tables (R39, R42,
R58, R258, R260). -/

namespace Sys2Proof.Machine

/-- CONTROL_TICK (R42): one control tick passes, and `ins` is what the pins and converters show at the new boundary. Outside
the ratings the spec defines no behaviour (R1). -/
def execControlTick (ins : List Sample) (s : State) : Result :=
  if ins.all sampleOk then .next (controlTick ins s) else .fault .outsideRatings

/-- TX_EFFECT (R58, R256-R258): the transaction at its boundary of effect. -/
def execTxEffect (s : State) : Result := whenever s.txDue s (structReply (txEffect s))

/-- COMMIT_WAIT_TIMEOUT (R258): a live commit that has found no safe boundary in time aborts with cause 3. -/
def execCommitWaitTimeout (s : State) : Result :=
  whenever (s.txDue && s.waitedOut) s (structReply (latchNow (s.does (txAbortWith 3 0x60_0000))))

/-- SURVEY_ORDER (R39): `supplies` are the supplies measured, in 10 mV, AUX12 first. -/
def execSurveyOrder (supplies : List Nat) (s : State) : Result := whenever (!s.on (V.planeHeld 0)) s (orderedSurvey supplies s)

/-- TABLE_ECC_ERROR (R260, R264): an error of an entry of a section, in one copy or in both; `r` is what the cold reset that follows
the latter finds. -/
def execTableEccError (sect entry : Nat) (both : Bool) (r : Restart) (s : State) : Result :=
  whenever (!s.on (V.planeHeld 0)) s
    (let t := s.does (tableError sect entry both)
     if both then coldReset 6 r.bad r.strap r.lpHeld r.supplies t else t)

end Sys2Proof.Machine
end

