-- ==== Sys2Proof/Machine/Dispatch.lean ====
section
/-! DEFINITION. One arm per command: each calls the command's meaning, or is refused by name. -/

namespace Sys2Proof.Machine

def exec (i : Instr) (s : State) : Host.Outcome State Fault Refusal :=
  match i with
  | .registerWrite req a width value hw => Sys2Proof.Machine.execRegisterWrite req a width value hw s
  | .upperWordLatch req r => Sys2Proof.Machine.execUpperWordLatch req r s
  | .rcRead req a hw => Sys2Proof.Machine.execRcRead req a hw s
  | .stgCancel req blk => Sys2Proof.Machine.execStgCancel req blk s
  | .stageApply => Sys2Proof.Machine.execStageApply s
  | .txBegin req value => Sys2Proof.Machine.execTxBegin req value s
  | .txWrite req a width value => Sys2Proof.Machine.execTxWrite req a width value s
  | .txStampWrite req value => Sys2Proof.Machine.execTxStampWrite req value s
  | .txCommit req value => Sys2Proof.Machine.execTxCommit req value s
  | .txAbort req value => Sys2Proof.Machine.execTxAbort req value s
  | .txEffect => Sys2Proof.Machine.execTxEffect s
  | .txTimeout => Sys2Proof.Machine.execTxTimeout s
  | .commitWaitTimeout => Sys2Proof.Machine.execCommitWaitTimeout s
  | .controlTick ins => Sys2Proof.Machine.execControlTick ins s
  | .orderEffect => Sys2Proof.Machine.execOrderEffect s
  | .surveyOrder supplies => Sys2Proof.Machine.execSurveyOrder supplies s
  | .time m => Sys2Proof.Machine.execTime m s
  | .discLock => Sys2Proof.Machine.execDiscLock s
  | .discReacquire => Sys2Proof.Machine.execDiscReacquire s
  | .discHoldover => Sys2Proof.Machine.execDiscHoldover s
  | .settled => Sys2Proof.Machine.execSettled s
  | .timeUp m => Sys2Proof.Machine.execTimeUp m s
  | .delay m => Sys2Proof.Machine.execDelay m s
  | .tlaneRttMeasure m => Sys2Proof.Machine.execTlaneRttMeasure m s
  | .jrnMgmtPush req => Sys2Proof.Machine.execJrnMgmtPush req s
  | .mgmtQueueResume => Sys2Proof.Machine.execMgmtQueueResume s
  | .firnStart => Sys2Proof.Machine.execFirnStart s
  | .recordMove => Sys2Proof.Machine.execRecordMove s
  | .loss => Sys2Proof.Machine.execLoss s
  | .drain c fail => Sys2Proof.Machine.execDrain c fail s
  | .jrnAckWrite req c value => Sys2Proof.Machine.execJrnAckWrite req c value s
  | .captureArm req => Sys2Proof.Machine.execCaptureArm req s
  | .captureTrigger reg req => Sys2Proof.Machine.execCaptureTrigger reg req s
  | .captureFreeze => Sys2Proof.Machine.execCaptureFreeze s
  | .captureRelease req => Sys2Proof.Machine.execCaptureRelease req s
  | .switchingPeriod e p => Sys2Proof.Machine.execSwitchingPeriod e p s
  | .voltageLoopUpdate r v x => Sys2Proof.Machine.execVoltageLoopUpdate r v x s
  | .syncHoldover k period => Sys2Proof.Machine.execSyncHoldover k period s
  | .syncResume k period x => Sys2Proof.Machine.execSyncResume k period x s
  | .rotationAdvance => Sys2Proof.Machine.execRotationAdvance s
  | .senseSwitch r => Sys2Proof.Machine.execSenseSwitch r s
  | .fastAdd r => Sys2Proof.Machine.execFastAdd r s
  | .phaseFault c cause imon rise expected => Sys2Proof.Machine.execPhaseFault c cause imon rise expected s
  | .benchJoin c r => Sys2Proof.Machine.execBenchJoin c r s
  | .phaseSwap c => Sys2Proof.Machine.execPhaseSwap c s
  | .railEnable g r => Sys2Proof.Machine.execRailEnable g r s
  | .tileRailGood r => Sys2Proof.Machine.execTileRailGood r s
  | .softstartTrip r => Sys2Proof.Machine.execSoftstartTrip r s
  | .railTrip r => Sys2Proof.Machine.execRailTrip r s
  | .dischargeEnd r => Sys2Proof.Machine.execDischargeEnd r s
  | .brakeAssert r e => Sys2Proof.Machine.execBrakeAssert r e s
  | .brakeClear r e => Sys2Proof.Machine.execBrakeClear r e s
  | .enable n => Sys2Proof.Machine.execEnable n s
  | .energyCheck n x => Sys2Proof.Machine.execEnergyCheck n x s
  | .trainingFrame lane pos levels => Sys2Proof.Machine.execTrainingFrame lane pos levels s
  | .trainTimeout lane => Sys2Proof.Machine.execTrainTimeout lane s
  | .frameTransmit lane => Sys2Proof.Machine.execFrameTransmit lane s
  | .upstreamFrame lane fidx arrive levels => Sys2Proof.Machine.execUpstreamFrame lane fidx arrive levels s
  | .messageResend n => Sys2Proof.Machine.execMessageResend n s
  | .cap n => Sys2Proof.Machine.execCap n s
  | .hint n => Sys2Proof.Machine.execHint n s
  | .hintExpire => Sys2Proof.Machine.execHintExpire s
  | .step n => Sys2Proof.Machine.execStep n s
  | .ageing n => Sys2Proof.Machine.execAgeing n s
  | .freqAck n => Sys2Proof.Machine.execFreqAck n s
  | .tipoffAck n => Sys2Proof.Machine.execTipoffAck n s
  | .timeSend n => Sys2Proof.Machine.execTimeSend n s
  | .rttMeasure n => Sys2Proof.Machine.execRttMeasure n s
  | .rttNow req n => Sys2Proof.Machine.execRttNow req n s
  | .retrain req n => Sys2Proof.Machine.execRetrain req n s
  | .plannedSwitch n => Sys2Proof.Machine.execPlannedSwitch n s
  | .spareTrained n => Sys2Proof.Machine.execSpareTrained n s
  | .laneSwitch n => Sys2Proof.Machine.execLaneSwitch n s
  | .linkLoss n => Sys2Proof.Machine.execLinkLoss n s
  | .lossRetry n => Sys2Proof.Machine.execLossRetry n s
  | .lossTimeout n => Sys2Proof.Machine.execLossTimeout n s
  | .capLoop => Sys2Proof.Machine.execCapLoop s
  | .escalationRelease n => Sys2Proof.Machine.execEscalationRelease n s
  | .capUnmet n => Sys2Proof.Machine.execCapUnmet n s
  | .ageTrimPeriod n => Sys2Proof.Machine.execAgeTrimPeriod n s
  | .ageReportTimeout n => Sys2Proof.Machine.execAgeReportTimeout n s
  | .accuracyWindow n => Sys2Proof.Machine.execAccuracyWindow n s
  | .suspendHoldEnd n => Sys2Proof.Machine.execSuspendHoldEnd n s
  | .moraineWipeDone => Sys2Proof.Machine.execMoraineWipeDone s
  | .imageLoad req => Sys2Proof.Machine.execImageLoad req s
  | .loadDone => Sys2Proof.Machine.execLoadDone s
  | .loadDiscard req => Sys2Proof.Machine.execLoadDiscard req s
  | .tableEccError sect entry both r => Sys2Proof.Machine.execTableEccError sect entry both r s
  | .epochEnd => Sys2Proof.Machine.execEpochEnd s
  | .reportSend j => Sys2Proof.Machine.execReportSend j s
  | .report m => Sys2Proof.Machine.execReport m s
  | .childDetach j m => Sys2Proof.Machine.execChildDetach j m s
  | .huddleDecide j => Sys2Proof.Machine.execHuddleDecide j s
  | .result m => Sys2Proof.Machine.execResult m s
  | .resultApply j => Sys2Proof.Machine.execResultApply j s
  | .resultLost j => Sys2Proof.Machine.execResultLost j s
  | .trigger m => Sys2Proof.Machine.execTrigger m s
  | .lockstep m => Sys2Proof.Machine.execLockstep m s
  | .groupPowerUp g => Sys2Proof.Machine.execGroupPowerUp g s
  | .pgChange r => Sys2Proof.Machine.execPgChange r s
  | .railQualified r => Sys2Proof.Machine.execRailQualified r s
  | .railOnTimeout r => Sys2Proof.Machine.execRailOnTimeout r s
  | .groupPowerDown g => Sys2Proof.Machine.execGroupPowerDown g s
  | .railDisable r => Sys2Proof.Machine.execRailDisable r s
  | .railFallen r => Sys2Proof.Machine.execRailFallen r s
  | .railOffTimeout r => Sys2Proof.Machine.execRailOffTimeout r s
  | .railGivenUp r => Sys2Proof.Machine.execRailGivenUp r s
  | .railFault r => Sys2Proof.Machine.execRailFault r s
  | .retryReenable r => Sys2Proof.Machine.execRetryReenable r s
  | .systemRestart => Sys2Proof.Machine.execSystemRestart s
  | .faultClear req m w => Sys2Proof.Machine.execFaultClear req m w s
  | .firstRearm req w => Sys2Proof.Machine.execFirstRearm req w s
  | .faultIn => Sys2Proof.Machine.execFaultIn s
  | .faultInRelease => Sys2Proof.Machine.execFaultInRelease s
  | .inrushTrip c => Sys2Proof.Machine.execInrushTrip c s
  | .channelOn c => Sys2Proof.Machine.execChannelOn c s
  | .channelLimit c => Sys2Proof.Machine.execChannelLimit c s
  | .fastTrip c dt i0 => Sys2Proof.Machine.execFastTrip c dt i0 s
  | .reverseTrip c dt i0 => Sys2Proof.Machine.execReverseTrip c dt i0 s
  | .tripProtectOrders c => Sys2Proof.Machine.execTripProtectOrders c s
  | .tripClear req w => Sys2Proof.Machine.execTripClear req w s
  | .damageDetect c => Sys2Proof.Machine.execDamageDetect c s
  | .feedUsable f => Sys2Proof.Machine.execFeedUsable f s
  | .feedUnusable f => Sys2Proof.Machine.execFeedUnusable f s
  | .feedRevert => Sys2Proof.Machine.execFeedRevert s
  | .newFeedInrush => Sys2Proof.Machine.execNewFeedInrush s
  | .pinHoldEnd => Sys2Proof.Machine.execPinHoldEnd s
  | .devTempLevel => Sys2Proof.Machine.execDevTempLevel s
  | .diodeBroken d => Sys2Proof.Machine.execDiodeBroken d s
  | .diodeGraceExpire => Sys2Proof.Machine.execDiodeGraceExpire s
  | .thermalShutdown => Sys2Proof.Machine.execThermalShutdown s
  | .thermalHardReset => Sys2Proof.Machine.execThermalHardReset s
  | .thermalRelease r => Sys2Proof.Machine.execThermalRelease r s
  | .tempInputFault i0 => Sys2Proof.Machine.execTempInputFault i0 s
  | .mapLost n => Sys2Proof.Machine.execMapLost n s
  | .thermalCeilingStep n => Sys2Proof.Machine.execThermalCeilingStep n s
  | .tlatchClear req w => Sys2Proof.Machine.execTlatchClear req w s
  | .fanKickEnd f => Sys2Proof.Machine.execFanKickEnd f s
  | .fanStall f => Sys2Proof.Machine.execFanStall f s
  | .fanRetry f => Sys2Proof.Machine.execFanRetry f s
  | .flowWindow => Sys2Proof.Machine.execFlowWindow s
  | .flowPowerOff z => Sys2Proof.Machine.execFlowPowerOff z s
  | .leakWet i0 => Sys2Proof.Machine.execLeakWet i0 s
  | .leakOpen i0 => Sys2Proof.Machine.execLeakOpen i0 s
  | .leakmapClear req w => Sys2Proof.Machine.execLeakmapClear req w s
  | .presenceChange n => Sys2Proof.Machine.execPresenceChange n s
  | .alertChange n => Sys2Proof.Machine.execAlertChange n s
  | .accResetRelease n => Sys2Proof.Machine.execAccResetRelease n s
  | .strapWrite req n value => Sys2Proof.Machine.execStrapWrite req n value s
  | .readId req n keep => Sys2Proof.Machine.execReadId req n keep s
  | .verify req n keep => Sys2Proof.Machine.execVerify req n keep s
  | .check req n keep => Sys2Proof.Machine.execCheck req n keep s
  | .reflash req n keep skip => Sys2Proof.Machine.execReflash req n keep skip s
  | .release req n => Sys2Proof.Machine.execRelease req n s
  | .clear req n => Sys2Proof.Machine.execClear req n s
  | .custodyOpDone n id kib unit err bytes => Sys2Proof.Machine.execCustodyOpDone n id kib unit err bytes s
  | .custodyAuto n => Sys2Proof.Machine.execCustodyAuto n s
  | .bootTimeout n => Sys2Proof.Machine.execBootTimeout n s
  | .keeperChecksPass => Sys2Proof.Machine.execKeeperChecksPass s
  | .imageReject readErr => Sys2Proof.Machine.execImageReject readErr s
  | .coreRelease req value => Sys2Proof.Machine.execCoreRelease req value s
  | .keylock req value => Sys2Proof.Machine.execKeylock req value s
  | .goldenCheckDone bad => Sys2Proof.Machine.execGoldenCheckDone bad s
  | .grantQuery core => Sys2Proof.Machine.execGrantQuery core s
  | .stage core => Sys2Proof.Machine.execStage core s
  | .stageDone bad => Sys2Proof.Machine.execStageDone bad s
  | .activate core => Sys2Proof.Machine.execActivate core s
  | .confirm core => Sys2Proof.Machine.execConfirm core s
  | .abandon core => Sys2Proof.Machine.execAbandon core s
  | .ledgerCompact => Sys2Proof.Machine.execLedgerCompact s
  | .structCommit core => Sys2Proof.Machine.execStructCommit core s
  | .attest core => Sys2Proof.Machine.execAttest core s
  | .svnRaise core => Sys2Proof.Machine.execSvnRaise core s
  | .svnFuse core => Sys2Proof.Machine.execSvnFuse core s
  | .lcRequest core r => Sys2Proof.Machine.execLcRequest core r s
  | .keyEnroll core => Sys2Proof.Machine.execKeyEnroll core s
  | .keyRevoke core => Sys2Proof.Machine.execKeyRevoke core s
  | .coreRetire core => Sys2Proof.Machine.execCoreRetire core s
  | .attPublic core => Sys2Proof.Machine.execAttPublic core s
  | .functionReset cause => Sys2Proof.Machine.execFunctionReset cause s
  | .d3hotEntry => Sys2Proof.Machine.execD3hotEntry s
  | .d0Return => Sys2Proof.Machine.execD0Return s
  | .ringEnable req p value => Sys2Proof.Machine.execRingEnable req p value s
  | .doorbell req p value => Sys2Proof.Machine.execDoorbell req p value s
  | .ringPoll => Sys2Proof.Machine.execRingPoll s
  | .order p => Sys2Proof.Machine.execOrder p s
  | .buffer p => Sys2Proof.Machine.execBuffer p s
  | .service p => Sys2Proof.Machine.execService p s
  | .ping p => Sys2Proof.Machine.execPing p s
  | .ringResume p => Sys2Proof.Machine.execRingResume p s
  | .interruptCoalesce p => Sys2Proof.Machine.execInterruptCoalesce p s
  | .svcpush req value => Sys2Proof.Machine.execSvcpush req value s
  | .b2segWrite req seg value => Sys2Proof.Machine.execB2segWrite req seg value s
  | .dmaStart req e value => Sys2Proof.Machine.execDmaStart req e value s
  | .dmaDone e err n => Sys2Proof.Machine.execDmaDone e err n s
  | .recoveryGo req value => Sys2Proof.Machine.execRecoveryGo req value s
  | .recoveryCheckDone => Sys2Proof.Machine.execRecoveryCheckDone s
  | .trayWindowRead port n => Sys2Proof.Machine.execTrayWindowRead port n s
  | .trayWindowWrite port bs => Sys2Proof.Machine.execTrayWindowWrite port bs s
  | .alertResponse => Sys2Proof.Machine.execAlertResponse s
  | .clearFaults pec => Sys2Proof.Machine.execClearFaults pec s
  | .capability more => Sys2Proof.Machine.execCapability more s
  | .statusWord more => Sys2Proof.Machine.execStatusWord more s
  | .pmbusRevision more => Sys2Proof.Machine.execPmbusRevision more s
  | .mfrId more => Sys2Proof.Machine.execMfrId more s
  | .mfrModel more => Sys2Proof.Machine.execMfrModel more s
  | .mfrRevision more => Sys2Proof.Machine.execMfrRevision more s
  | .mfrSerial more => Sys2Proof.Machine.execMfrSerial more s
  | .trayOrder body pec acked => Sys2Proof.Machine.execTrayOrder body pec acked s
  | .orderResult more => Sys2Proof.Machine.execOrderResult more s
  | .readInforce body more => Sys2Proof.Machine.execReadInforce body more s
  | .trayTime more => Sys2Proof.Machine.execTrayTime more s
  | .rcvAddr body pec => Sys2Proof.Machine.execRcvAddr body pec s
  | .rcvData body pec => Sys2Proof.Machine.execRcvData body pec s
  | .rcvLen body pec => Sys2Proof.Machine.execRcvLen body pec s
  | .rcvGo pec => Sys2Proof.Machine.execRcvGo pec s
  | .rcvStat more => Sys2Proof.Machine.execRcvStat more s
  | .unknownCommand code => Sys2Proof.Machine.execUnknownCommand code s
  | .sclLowTimeout n => Sys2Proof.Machine.execSclLowTimeout n s
  | .sdaStuck n => Sys2Proof.Machine.execSdaStuck n s
  | .controllerTransfer req n value recov => Sys2Proof.Machine.execControllerTransfer req n value recov s
  | .transferDone n out sent lost rx => Sys2Proof.Machine.execTransferDone n out sent lost rx s
  | .regulatorIdent vals => Sys2Proof.Machine.execRegulatorIdent vals s
  | .rowRepair => Sys2Proof.Machine.execRowRepair s
  | .repairDone row => Sys2Proof.Machine.execRepairDone row s
  | .lpTrainDone res => Sys2Proof.Machine.execLpTrainDone res s
  | .lpInitDone => Sys2Proof.Machine.execLpInitDone s
  | .wckTracking => Sys2Proof.Machine.execWckTracking s
  | .mr4Poll vals => Sys2Proof.Machine.execMr4Poll vals s
  | .channelFail c => Sys2Proof.Machine.execChannelFail c s
  | .wipeDone r rows => Sys2Proof.Machine.execWipeDone r rows s
  | .pmcStart => Sys2Proof.Machine.execPmcStart s
  | .pmcStop => Sys2Proof.Machine.execPmcStop s
  | .counterWrap i0 n pc => Sys2Proof.Machine.execCounterWrap i0 n pc s
  | .pmcCntWrite req i0 value n => Sys2Proof.Machine.execPmcCntWrite req i0 value n s
  | .snap req value => Sys2Proof.Machine.execSnap req value s
  | .bwWindowEnd => Sys2Proof.Machine.execBwWindowEnd s
  | .bwwinWrite req value => Sys2Proof.Machine.execBwwinWrite req value s
  | .testMuxSelect req a value => Sys2Proof.Machine.execTestMuxSelect req a value s
  | .unlock req value jtag => Sys2Proof.Machine.execUnlock req value jtag s
  | .tokenCheckDone => Sys2Proof.Machine.execTokenCheckDone s
  | .jtagInstruction code r => Sys2Proof.Machine.execJtagInstruction code r s
  | .tapReset r => Sys2Proof.Machine.execTapReset r s
  | .standbyEnter req value => Sys2Proof.Machine.execStandbyEnter req value s
  | .standbyHold => Sys2Proof.Machine.execStandbyHold s
  | .wake src supplies r => Sys2Proof.Machine.execWake src supplies r s
  | .auxPowerOn r => Sys2Proof.Machine.execAuxPowerOn r s
  | .supplyPgLost r => Sys2Proof.Machine.execSupplyPgLost r s
  | .pllLockLost k r => Sys2Proof.Machine.execPllLockLost k r s
  | .refLost => Sys2Proof.Machine.execRefLost s
  | .refBack => Sys2Proof.Machine.execRefBack s
  | .coldReset r => Sys2Proof.Machine.execColdReset r s
  | .managementReset halted bad => Sys2Proof.Machine.execManagementReset halted bad s
  | .predictionReset => Sys2Proof.Machine.execPredictionReset s
  | .wdogKick req value => Sys2Proof.Machine.execWdogKick req value s
  | .wdogExpire bad => Sys2Proof.Machine.execWdogExpire bad s
  | .xingAlarm x w => Sys2Proof.Machine.execXingAlarm x w s
  | .xingReset x w r => Sys2Proof.Machine.execXingReset x w r s
  | .powerFail ext aux12 ledger => Sys2Proof.Machine.execPowerFail ext aux12 ledger s
  | .pfailRecovery r => Sys2Proof.Machine.execPfailRecovery r s
  | .auxDropout => Sys2Proof.Machine.execAuxDropout s
  | .hostLinkStateChange link rate width flit cfg => Sys2Proof.Machine.execHostLinkStateChange link rate width flit cfg s
  | .pcieError unc aer engine => Sys2Proof.Machine.execPcieError unc aer engine s
  | .bar2Access isWrite ofs n data => Sys2Proof.Machine.execBar2Access isWrite ofs n data s
  | .deviceMemoryAccess req isWrite a n data bad => Sys2Proof.Machine.execDeviceMemoryAccess req isWrite a n data bad s
  | .grantFilteredRead req a width => Sys2Proof.Machine.execGrantFilteredRead req a width s
  | .idleCycleScrub r => Sys2Proof.Machine.execIdleCycleScrub r s
  | .lpddr5xPatrolScrub n => Sys2Proof.Machine.execLpddr5xPatrolScrub n s
  | .pllLocked k ns => Sys2Proof.Machine.execPllLocked k ns s
  | .xtalValid => Sys2Proof.Machine.execXtalValid s
  | .limitTrip c => Sys2Proof.Machine.execLimitTrip c s
  | .unknownGateCall core => Sys2Proof.Machine.execUnknownGateCall core s
  | .unacceptedRequest p => Sys2Proof.Machine.execUnacceptedRequest p s

end Sys2Proof.Machine
end

