-- ==== Sys2Proof/Safety.lean ====
section
/-! DEFINITION. What every state of a run satisfies, and what one command may and may not do to a state, in the terms that the
statements use. -/

namespace Sys2Proof.Machine

/-- Every table of the state is in its one canonical form: keys rising, and nothing listed that an unlisted key reads as anyway.
The register file's defaults are its fields' reset values, so of it only the order of keys is said here. -/
abbrev State.Wf (s : State) : Prop :=
  tableSorted s.regs = true ∧ Memory.wf s.mem = true ∧ tableWf ({} : Lane) s.lanes = true ∧ tableWf ({} : Link) s.links = true ∧
    tableWf ({} : PrdSlot) s.prd = true ∧ tableWf ({} : JobRun) s.jobs = true

/-- The command ends in a next state of which `P` holds. -/
def Gives (i : Instr) (s : State) (P : State → Prop) : Prop := ∃ t, exec i s = .next t ∧ P t

/-- Fields that an update of another field can change: the MSI-X messages sent and pending, which the rise of an event line moves (R463). -/
def messageField (f : Fld) : Bool :=
  (decide (0x1_0152_0000 * 64 ≤ f.key) && decide (f.key < 0x1_0153_0000 * 64)) || f.key == V.msixNew.key ||
    (decide (0xF8_4000 * 64 ≤ f.key) && decide (f.key < 0xF8_4080 * 64))

/-- `t` differs from `s` in nothing but register fields of `fs`, the MSI-X messages of event lines and the events counted. -/
def OnlyFields (fs : List Fld) (s t : State) : Prop :=
  (∀ f : Fld, messageField f = false → (∀ g ∈ fs, f.key ≠ g.key) → t.rd f = s.rd f) ∧
    t.mem = s.mem ∧ t.now = s.now ∧ t.orders = s.orders ∧ t.staging = s.staging ∧ t.tx = s.tx ∧ t.bus = s.bus ∧ t.lanes = s.lanes ∧
    t.links = s.links ∧ t.hints = s.hints ∧ t.prd = s.prd ∧ t.fab = s.fab ∧ t.jobs = s.jobs ∧ t.gq = s.gq ∧ t.bufs = s.bufs ∧
    t.memu = s.memu ∧ t.ue = s.ue ∧ t.pending = s.pending

/-- A register write of this requester passes every filter and no gate holds it back (R9, R34, R35, R405, R410, R449, R588). -/
abbrev State.Reaches (s : State) (req a width value : Nat) (ko : Bool) : Prop :=
  s.spaceOff req = false ∧ s.writeGate req a width value ko = none ∧ (req = Req.keeper → s.keeperGated = false)

/-- A message of type `typ` was the last to join the queue of link n. -/
def Sends (n typ : Nat) (t : State) : Prop := ((t.link n).queue.getLast?).map (·.typ) = some typ

/-- A record of type `typ` was the last raised: the writer has taken it, or it waits, or it was lost and counted. -/
def Raised (typ : Nat) (t : State) : Prop := t.firn.tickTypes.getLast? = some typ

/-- What a CONTROL_TICK samples is inside the ratings (R1); any other command samples nothing. -/
def inRatings : Instr → Bool
  | .controlTick ins => ins.all sampleOk
  | _ => true

/-- The commands that can end in a cold reset (R547): those that carry what it finds. -/
def coldResetPossible : Instr → Bool
  | .tableEccError _ _ _ _ | .thermalRelease _ | .lcRequest _ _ | .jtagInstruction _ _ | .tapReset _ | .wake _ _ _ | .auxPowerOn _
  | .supplyPgLost _ | .pllLockLost _ _ | .coldReset _ | .xingReset _ _ _ | .pfailRecovery _ => true
  | _ => false

/-- The cause that CRP_CAUSE.cold shows after a cold reset ordered with cause `c`: a thermal shutdown that the island has latched keeps its own
(R352; DEDUCED, log 218). -/
def State.causeAfter (s : State) (c : Nat) : Nat :=
  if s.rd V.thermAt ≠ 0 ∧ s.rd V.thermHold = 0 ∧ s.rd V.auxUp = 1 then s.rd CRP_CAUSE.cold else c

/-- `t` stands `n` steps after `s`. -/
def After : Nat → State → State → Prop
  | 0, s, t => t = s
  | n + 1, s, t => ∃ u, step s = .next u ∧ After n u t

end Sys2Proof.Machine
end

