-- ==== Sys2Proof/Certificates/Slice0/Obligations.lean ====
section
/-! DEFINITION. The statements about the model. Those named after a family of commands say of each of its commands what it does:
`Gives c s P` is `∃ t, exec c s = .next t ∧ P t`: the command COMPLETES, in a next state of which `P` holds, for every state and
operands that meet the hypotheses before it, which are on them alone. Every constructor of Instr stands in such a clause. `OnlyFields fs s t` is the frame: nothing but those fields, the messages and the counted events differ. -/

open Sys2Proof Sys2Proof.Machine

/-- In every state whose queue begins with a command c, a step is exec of c on that state with the rest of the queue. (R24) -/
def Obligations.StepRunsTheCommandInFront : Prop :=
  ∀ (s : State) (c : Instr) (rest : List Instr), s.pending = c :: rest → step s = exec c { s with pending := rest }

/-- In a state whose queue is empty a step changes nothing. This is the model's choice (log entry 2), not a rule of the spec. (R24) -/
def Obligations.EmptyQueueIdles : Prop :=
  ∀ s : State, s.pending = [] → step s = .next s

/-- In State.reset every field reads its reset value, memory lists nothing, no command, order, staged value or open transaction waits, tray time is 0
(R40) and every table is canonical. The reset values the spec does not give are the model's (log entries 4 and 5). (R40) -/
def Obligations.ResetState : Prop :=
  (∀ f : Fld, State.reset.rd f = f.reset % 2 ^ f.width) ∧ State.reset.mem = [] ∧ State.reset.pending = [] ∧ State.reset.orders = {} ∧ State.reset.staging = {} ∧ State.reset.tx = {} ∧ State.reset.now = 0 ∧ State.reset.Wf

/-- If memory, the register file and the tables of lanes, links, forecast slots and jobs are in their canonical form and a step answers a next state,
they are in canonical form in it. The form is the model's own (log entry 6). (R36) -/
def Obligations.CanonicalFormIsKept : Prop :=
  ∀ s t : State, s.Wf → step s = .next t → t.Wf

/-- Whatever command runs and however its effect goes, the commands that wait are the same after it. (R24) -/
def Obligations.NoCommandTouchesTheQueue : Prop :=
  ∀ (c : Instr) (s t : State), exec c s = .next t → t.pending = s.pending

/-- A command that cannot end in a cold reset leaves tray time or, if it is CONTROL_TICK, VOLTAGE_LOOP_UPDATE or SWITCHING_PERIOD, moves it forward;
one that can leaves it or sets it to 0 (R40). A CONTROL_TICK that takes place puts it at the next control-tick boundary (R42). (R40, R42) -/
def Obligations.TrayTimeNeverStepsBack : Prop :=
  (∀ (c : Instr) (s t : State), exec c s = .next t → coldResetPossible c = false → s.now ≤ t.now) ∧
  (∀ (c : Instr) (s t : State), exec c s = .next t → coldResetPossible c = true → t.now = s.now ∨ t.now = 0) ∧
  (∀ (c : Instr) (s t : State), exec c s = .next t → coldResetPossible c = false → (∀ ins, c ≠ .controlTick ins) →
    (∀ r v x, c ≠ .voltageLoopUpdate r v x) → (∀ e p, c ≠ .switchingPeriod e p) → t.now = s.now) ∧
  (∀ (ins : List Sample) (s : State), ins.all sampleOk = true → s.rd (V.planeHeld 0) = 0 → Gives (.controlTick ins) s (fun t => t.now = s.boundary + 4000))

/-- Every command in every state answers a next state, but for a CONTROL_TICK whose samples are outside the ratings: there the spec defines no
behaviour (R1), and the machine stops with outsideRatings. (R1) -/
def Obligations.EveryCommandAnswers : Prop :=
  (∀ (c : Instr) (s : State), inRatings c = true → ∃ t, exec c s = .next t) ∧
  (∀ (c : Instr) (s : State), inRatings c = false → exec c s = .fault .outsideRatings)

/-- From every state whose waiting commands are inside the ratings, as many steps as commands wait lead to a state in which none waits. (R1) -/
def Obligations.EveryQueueDrains : Prop :=
  ∀ s : State, s.pending.all inRatings = true → ∃ t, After s.pending.length s t ∧ t.pending = []

/-- A write where no register is, to a block whose plane is held in reset, without a grant, or to a keeper-only register by another requester, changes
no register, no byte of memory and nothing staged or ordered, and raises DISCARDED_WRITE (R34, R35, R410, R9). A read of the same gives 0 and has no
side effect. (R34, R35, R9, R410) -/
def Obligations.AccessesThatDoNotAct : Prop :=
  (∀ (s : State) (req a width value hw : Nat), s.Wf → s.spaceOff req = false → (req = Req.keeper → s.keeperGated = false) → s.planeDown a = false → covered a = false → Gives (.registerWrite req a width value hw) s (fun t => Raised Ty.DISCARDED_WRITE t ∧ OnlyFields [] s t)) ∧
  (∀ (s : State) (req a hw : Nat), s.Wf → s.spaceOff req = false → s.planeDown a = false → stagingReg? a = none → regAt? a = none → partnerRail a = false → Gives (.rcRead req a hw) s (fun t => tableGet 0 t.bus.data req = 0 ∧ OnlyFields [] { s with bus := t.bus } t)) ∧
  (∀ (s : State) (req a width value hw : Nat), s.Wf → s.spaceOff req = false → (req = Req.keeper → s.keeperGated = false) → s.planeDown a = true → Gives (.registerWrite req a width value hw) s (fun t => Raised Ty.DISCARDED_WRITE t ∧ OnlyFields [] s t)) ∧
  (∀ (s : State) (req a hw : Nat), s.Wf → s.spaceOff req = false → s.planeDown a = true → Gives (.rcRead req a hw) s (fun t => tableGet 0 t.bus.data req = 0 ∧ OnlyFields [] { s with bus := t.bus } t)) ∧
  (∀ (s : State) (req a width value hw : Nat), s.Wf → isServiceCore req = true → s.granted req 0 a width = none → Gives (.registerWrite req a width value hw) s (fun t => Raised Ty.DISCARDED_WRITE t ∧ OnlyFields [] s t)) ∧
  (∀ (s : State) (req a hw : Nat), s.Wf → isServiceCore req = true → s.mayRead req a 4 = false → Gives (.rcRead req a hw) s (fun t => tableGet 0 t.bus.data req = 0 ∧ OnlyFields [] { s with bus := t.bus } t)) ∧
  (∀ (s : State) (req a value hw : Nat) (h : RegHit), s.Wf → req ≠ Req.keeper → s.Reaches req a 4 value false → stagingReg? a = none → regAt? a = some h → h.desc.wide = false → s.lockedNow h.addr = false → s.closedTo req h.addr = false → h.fields ≠ [] → h.fields.all (fun e => e.1 == Access.ko || e.1 == Access.koRws) = true → Gives (.registerWrite req a 4 value hw) s (fun t => Raised Ty.DISCARDED_WRITE t ∧ OnlyFields [] s t)) ∧
  (∀ (s : State) (req a hw : Nat) (h : RegHit), s.Wf → s.spaceOff req = false → req ≠ Req.keeper → stagingReg? a = none → regAt? (readHome a) = some h → regAt? a = some h → h.fields.all (fun e => e.1.keeperOnly) = true → Gives (.rcRead req a hw) s (fun t => tableGet 0 t.bus.data req = 0 ∧ OnlyFields [] { s with bus := t.bus } t))

/-- With ch IMON channels, pr VSEN pairs and pb probes selected, a frame is the least multiple of 64 bytes that holds 64 + 8 ch + 32 pr + 4 pb bytes,
and while capture is disarmed a read of JRN_CAPFRAMES gives floor(520,093,696 / frame size) and changes nothing. COMPLETION: for every state and
operands that meet the conditions of its clause, which are on them alone, exec answers a next state for this form: rcRead (R8). (R73) -/
def Obligations.CaptureFrameAndRing : Prop :=
  (∀ (s : State) (req hw ch pr pb : Nat), s.Wf → s.spaceOff req = false → s.rd JRN_CAPCTL.state = 0 → s.rd (V.planeHeld 2) = 0 → s.mayRead req 0x18_0214 4 = true → ch = 39 * popCount 8 (s.rd JRN_CAPSLOT.slots) + 8 * s.rd JRN_CAPSLOT.tray → pr = popCount 24 (s.rd JRN_CAPSEL.vsen) → pb = 64 * s.rd JRN_CAPSEL.probes → Gives (.rcRead req 0x18_0214 hw) s (fun t => s.frameSize % 64 = 0 ∧ 64 + 8 * ch + 32 * pr + 4 * pb ≤ s.frameSize ∧ s.frameSize < 64 + 8 * ch + 32 * pr + 4 * pb + 64 ∧ tableGet 0 t.bus.data req = 520093696 / s.frameSize ∧ OnlyFields [] { s with bus := t.bus } t))

/-- A write that selects a source that R527 does not permit changes nothing but TAM_STAT.refused and its event bit, and raises TEST_REFUSED. After a
management reset, whoever ordered it, every DTEST and ATEST pin has en = 0. (R526) -/
def Obligations.RefusedTestSource : Prop :=
  (∀ (s : State) (req k value : Nat), s.Wf → k < 10 → s.Reaches req (0x128_0020 + 4 * k) 4 value false → bit value 31 = true → s.sourceRefused (if k < 8 then dtestClass (bits value 12 4) (bits value 0 12) else atestClass (bits value 0 8)) ≠ 0 → Gives (.testMuxSelect req (0x128_0020 + 4 * k) value) s (fun t => t.rd TAM_STAT.refused = 1 ∧ Raised Ty.TEST_REFUSED t ∧ OnlyFields [TAM_STAT.refused, TAM_EVT.refused] s t)) ∧
  (∀ (s : State) (halted : Bool) (bad k a : Nat), s.Wf → (halted = true ∨ s.rd CRP_RSTCTL.mgmt = 1) → s.rd (V.planeHeld 3) = 0 → k < 8 → a < 2 → Gives (.managementReset halted bad) s (fun t => t.rd (TAM_DSEL.en k) = 0 ∧ t.rd (TAM_ASEL.en a) = 0)) ∧
  (∀ (s : State) (bad k a : Nat), s.Wf → s.rd CRP_WDOGCFG.en = 1 → s.rd V.wdogAt + s.rd CRP_WDOGCFG.period * 4000000 ≤ s.now → k < 8 → a < 2 → Gives (.wdogExpire bad) s (fun t => t.rd (TAM_DSEL.en k) = 0 ∧ t.rd (TAM_ASEL.en a) = 0))

/-- No register write brings a block over 16 pending stamps of a requester or 64 staged values of a stamp. A write of a register of staged fields,
none of which is staged yet against the stamp, that would exceed either limit leaves everything staged as it is, changes no register and raises
STAGE_FULL. (R50) -/
def Obligations.StagingLimits : Prop :=
  (∀ (s : State) (req a width value hw : Nat), s.spaceOff req = false → ((∀ b q, (s.staging.pendingStamps b q).length ≤ 16) ∧ (∀ b q x, (s.staging.against b q x).length ≤ 64)) → Gives (.registerWrite req a width value hw) s (fun t => (∀ b q, (t.staging.pendingStamps b q).length ≤ 16) ∧ (∀ b q x, (t.staging.against b q x).length ≤ 64))) ∧
  (∀ (s : State) (req a value hw b st : Nat) (h : RegHit), s.Wf → s.Reaches req a 4 value false → stagingReg? a = none → regAt? a = some h → h.desc.wide = false → h.addr = a → s.closedTo req a = false → s.lockedNow a = false → (blockAt? a).map (·.base) = some b → b ≠ 0x60_0000 → h.fields ≠ [] → h.fields.all (fun e => e.1 == Access.rws || (e.1 == Access.koRws && req == Req.keeper)) = true → h.fields.any (fun e => e.2.lsb == 12 && e.2.width == 12) = false → s.staging.stampOf b req = some st → stampInWindow s.now st = true → ∀ e ∈ h.fields, (s.staging.against b req st).any (fun x => x.addr == e.2.addr && x.lsb == e.2.lsb) = false → ((s.staging.against b req st = [] ∧ 16 ≤ (s.staging.pendingStamps b req).length) ∨ 64 ≤ (s.staging.against b req st).length) → Gives (.registerWrite req a 4 value hw) s (fun t => t.staging = s.staging ∧ Raised Ty.STAGE_FULL t ∧ OnlyFields [] s t))

/-- Any requester's read of GLB_ID, while the management plane is not held in reset, gives the family, part, revision letter and revision step in the
places of R11, with bits 3:0 reading 0, and changes nothing; after reset the four are 0x0A5, 0x08, 0x1 and 0x1. COMPLETION: for every state and
operands that meet the conditions of its clause, which are on them alone, exec answers a next state for this form: rcRead (R8). (R11) -/
def Obligations.GlbIdReads : Prop :=
  State.reset.rd GLB_ID.family = 0x0A5 ∧ State.reset.rd GLB_ID.part = 0x08 ∧ State.reset.rd GLB_ID.rev_letter = 0x1 ∧ State.reset.rd GLB_ID.rev_step = 0x1 ∧
  (∀ (s : State) (req hw : Nat), s.Wf → s.spaceOff req = false → s.rd (V.planeHeld 3) = 0 → Gives (.rcRead req 0 hw) s (fun t => tableGet 0 t.bus.data req = s.rd GLB_ID.family * 2 ^ 20 + s.rd GLB_ID.part * 2 ^ 12 + s.rd GLB_ID.rev_letter * 2 ^ 8 + s.rd GLB_ID.rev_step * 2 ^ 4 ∧ OnlyFields [] { s with bus := t.bus } t))

/-- A 4-byte write that no filter discards to a register of one plain RW field gives the field the bits written and changes nothing else; a read of
the lower word of a 64-bit register latches its upper word for that requester; a read of a register of one RC field leaves in it what the hardware
sets in the same cycle. Where the spec leaves a point of it open, the choices of log entries 15, 16, 17 hold. COMPLETION: for every state and operands
that meet the conditions of its clause, which are on them alone, exec answers a next state for each of these forms: registerWrite (R5), upperWordLatch
(R6), rcRead (R8). (R6, R7, R8) -/
def Obligations.RegisterAccessTakesEffect : Prop :=
  (∀ (s : State) (req a value hw : Nat) (d : RegDesc) (idx : List Nat) (f : Fld), s.Wf → s.Reaches req a 4 (value % 2 ^ 32) false → s.lockedNow a = false → regAt? a = some ⟨d, idx, a, false⟩ → d.wide = false → d.fields idx = [(Access.rw, f)] → stagingReg? a = none → ownRow f.addr f.lsb = false → messageField f = false → a < 0xF0_0000 → f.lsb + f.width ≤ 32 → Gives (.registerWrite req a 4 value hw) s (fun t => t.rd f = bits value f.lsb f.width ∧ OnlyFields [f] s t)) ∧
  (∀ (s : State) (req a : Nat) (h : RegHit), s.Wf → s.spaceOff req = false → regAt? (readHome a) = some h → stagingReg? a = none → h.desc.wide = true → h.upper = false → h.fields.all (fun e => e.1 != Access.rc) = true → s.planeDown a = false → s.mayRead req a 4 = true → (¬(0x120_0000 ≤ a ∧ a < 0x128_0000)) → Gives (.upperWordLatch req ⟨a, 4⟩) s (fun t => tableFind? t.bus.upper (pairKey req h.addr) = some (s.regRead req h / 2 ^ 32) ∧ tableGet 0 t.bus.data req = s.regRead req h % 2 ^ 32 ∧ t.regs = s.regs)) ∧
  (∀ (s : State) (req a : Nat) (h : RegHit), s.Wf → s.spaceOff req = false → regAt? (readHome a) = some h → stagingReg? a = none → h.desc.wide = true → h.upper = false → h.fields.all (fun e => e.1 != Access.rc) = true → s.planeDown a = false → s.mayRead req a 8 = true → (¬(0x120_0000 ≤ a ∧ a < 0x128_0000)) → Gives (.upperWordLatch req ⟨a, 8⟩) s (fun t => tableGet 0 t.bus.data req = s.regRead req h ∧ t.bus.upper = s.bus.upper ∧ t.regs = s.regs)) ∧
  (∀ (s : State) (req a hw : Nat) (h : RegHit) (f : Fld), s.Wf → s.spaceOff req = false → regAt? a = some h → h.fields = [(Access.rc, f)] → f.addr ≠ (JRN_LOST.count 0).addr → f.addr ≠ (JRN_LOST.count 1).addr → f.addr ≠ (JRN_LOST.count 2).addr → messageField f = false → s.planeDown a = false → s.mayRead req a 4 = true → (req = Req.keeper → s.keeperGated = false) → Gives (.rcRead req a hw) s (fun t => t.rd f = bits hw f.lsb f.width ∧ OnlyFields [f] { s with bus := t.bus } t))

/-- A BLOCK_STGCANCEL write leaves nothing staged against the requester's stamp. STAGE_APPLY leaves nothing staged whose boundary has come, and a lone
staged value that is due is in its field. Where the spec leaves a point of it open, the choices of log entries 18, 164 hold. COMPLETION: for every
state and operands that meet the conditions of its clause, which are on them alone, exec answers a next state for each of these forms: stgCancel
(R55), stageApply (R51). (R51, R55) -/
def Obligations.StagedWritesTakeEffect : Prop :=
  (∀ (s : State) (req blk st : Nat), s.Wf → s.spaceOff req = false → stagingBases.contains blk = true → s.planeDown blk = false → (isServiceCore req = true → (s.granted req 0 (blk + 0xFF0C) 4).getD 0 ≠ 0) → (req = Req.keeper → s.keeperGated = false) → s.staging.stampOf blk req = some st → Gives (.stgCancel req blk) s (fun t => t.staging.against blk req st = [] ∧ t.regs = s.regs)) ∧
  (∀ (s : State), s.Wf → Gives (.stageApply) s (fun t => ∀ v ∈ t.staging.vals, s.boundary < boundaryOf v.stamp)) ∧
  (∀ (s : State) (v : Staged), s.Wf → s.staging.vals = [v] → v.set = 0 → v.blk ≠ 0x60_0000 → boundaryOf v.stamp ≤ s.boundary → messageField v.fld = false → Gives (.stageApply) s (fun t => t.rd v.fld = v.val % 2 ^ v.width ∧ t.staging.vals = []))

/-- A TIM_TXCTL write that reaches the register (R35, R410) and sets one of its bits: begin with no transaction live opens an empty one for its
writer, with cause, stamp and write count 0 (R56, R586); commit by the owner of an open transaction whose stamp is 0 or inside the window is taken
(R58); abort by the owner aborts with cause 1 and by the keeper, where it is not the owner, with cause 2, and drops every value (R59). The owner's
write of a register of one RWT field, as R57 lets it, places the value and counts it. The owner's TIM_TXSTAMP write sets the stamp and nothing else
(R58). Where the spec leaves a point of it open, the choices of log entries 19, 27 hold. COMPLETION: for every state and operands that meet the
conditions of its clause, which are on them alone, exec answers a next state for each of these forms: txBegin (R56), txWrite (R57), txStampWrite
(R58), txCommit (R58), txAbort (R59). (R56, R57, R58, R59) -/
def Obligations.TransactionRequestsTakeEffect : Prop :=
  (∀ (s : State) (req value : Nat), s.Wf → s.spaceOff req = false → req < 16 → value % 8 = 1 → s.planeDown 0x10_0100 = false → (isServiceCore req = true → s.granted req 0 0x10_0100 4 = some 2) → (req = Req.keeper → s.keeperGated = false) → s.rd TIM_TXSTAT.state ≠ TxS.openS → s.rd TIM_TXSTAT.state ≠ TxS.committing → Gives (.txBegin req value) s (fun t => t.rd TIM_TXSTAT.state = TxS.openS ∧ t.rd TIM_TXSTAT.owner = req ∧ t.rd TIM_TXSTAT.cause = 0 ∧ t.rd TIM_TXSTAMP.stamp = 0 ∧ t.rd TIM_TXCOUNT.writes = 0 ∧ t.tx.vals = [])) ∧
  (∀ (s : State) (req a value : Nat) (h : RegHit) (f : Fld), s.Wf → s.spaceOff req = false → s.rd TIM_TXSTAT.state = TxS.openS → s.txOwner = req → regAt? a = some h → h.desc.wide = false → h.addr = a → h.fields = [(Access.rwt, f)] → stagingReg? a = none → s.planeDown a = false → (req = Req.keeper → s.keeperGated = false) → s.closedTo req a = false → s.lockedNow a = false → a ≠ 0x130_0010 → s.mayWrite req a 4 .rwt = true → reservedMask h &&& (value % 2 ^ 32) = 0 → s.rd TIM_TXCOUNT.writes < 4096 → Gives (.txWrite req a 4 value) s (fun t => t.tx.vals.getLast? = some ⟨f.addr, f.lsb, f.width, f.reset, bits (value % 2 ^ 32) f.lsb f.width⟩ ∧ t.rd TIM_TXCOUNT.writes = s.rd TIM_TXCOUNT.writes + 1)) ∧
  (∀ (s : State) (req value : Nat), s.Wf → s.rd TIM_TXSTAT.state = TxS.openS → s.txOwner = req → s.Reaches req 0x10_0108 8 value false → Gives (.txStampWrite req value) s (fun t => t.rd TIM_TXSTAMP.stamp = value % 2 ^ 64 ∧ OnlyFields [TIM_TXSTAMP.stamp] s t)) ∧
  (∀ (s : State) (req value : Nat), s.Wf → s.spaceOff req = false → value % 8 = 2 → s.planeDown 0x10_0100 = false → (isServiceCore req = true → s.granted req 0 0x10_0100 4 = some 2) → (req = Req.keeper → s.keeperGated = false) → s.rd TIM_TXSTAT.state = TxS.openS → s.txOwner = req → (s.rd TIM_TXSTAMP.stamp = 0 ∨ stampInWindow s.now (s.rd TIM_TXSTAMP.stamp) = true) → Gives (.txCommit req value) s (fun t => t.rd TIM_TXSTAT.state = TxS.committing ∧ t.tx.committedAt = s.now ∧ t.tx.vals = s.tx.vals)) ∧
  (∀ (s : State) (req value : Nat), s.Wf → s.spaceOff req = false → value % 8 = 4 → s.planeDown 0x10_0100 = false → (isServiceCore req = true → s.granted req 0 0x10_0100 4 = some 2) → (req = Req.keeper → s.keeperGated = false) → (s.rd TIM_TXSTAT.state = TxS.openS ∨ s.rd TIM_TXSTAT.state = TxS.committing) → s.txOwner = req → Gives (.txAbort req value) s (fun t => t.rd TIM_TXSTAT.state = TxS.aborted ∧ t.rd TIM_TXSTAT.cause = 1 ∧ t.tx.vals = [] ∧ Raised Ty.TX_ABORT t)) ∧
  (∀ (s : State) (value : Nat), s.Wf → value % 8 = 4 → s.planeDown 0x10_0100 = false → s.keeperGated = false → (s.rd TIM_TXSTAT.state = TxS.openS ∨ s.rd TIM_TXSTAT.state = TxS.committing) → s.txOwner ≠ Req.keeper → Gives (.txAbort Req.keeper value) s (fun t => t.rd TIM_TXSTAT.state = TxS.aborted ∧ t.rd TIM_TXSTAT.cause = 2 ∧ t.tx.vals = [] ∧ Raised Ty.TX_ABORT t))

/-- An open transaction past its timeout aborts with cause 6 (R59). One that is due and passes every check ends DONE with no value held (R58). One
that has waited out its safe boundary aborts with cause 3 (R258). An abort drops every value and raises TX_ABORT (R59). Where the spec leaves a point
of it open, the choices of log entries 19, 27 hold. COMPLETION: for every state and operands that meet the conditions of its clause, which are on them
alone, exec answers a next state for each of these forms: txTimeout (R59), txEffect (R58), commitWaitTimeout (R258). (R58, R59, R258) -/
def Obligations.TransactionsEnd : Prop :=
  (∀ (s : State), s.Wf → s.rd TIM_TXSTAT.state = TxS.openS → s.tx.openedAt + s.rd TIM_TXTIMEOUT.ticks * 4000 < s.now → Gives (.txTimeout) s (fun t => t.rd TIM_TXSTAT.state = TxS.aborted ∧ t.rd TIM_TXSTAT.cause = 6 ∧ t.tx.vals = [] ∧ Raised Ty.TX_ABORT t)) ∧
  (∀ (s : State), s.Wf → s.txDue = true → s.commitsImage = false → s.txFails s.tx = none → Gives (.txEffect) s (fun t => t.rd TIM_TXSTAT.state = TxS.done ∧ t.tx.vals = [])) ∧
  (∀ (s : State), s.Wf → s.txDue = true → s.waitedOut = true → s.rd V.latchOwed = 0 → s.rd V.structCore = 0 → Gives (.commitWaitTimeout) s (fun t => t.rd TIM_TXSTAT.state = TxS.aborted ∧ t.rd TIM_TXSTAT.cause = 3 ∧ t.tx.vals = [] ∧ Raised Ty.TX_ABORT t))

/-- With the Cirque running and every sample inside its converter's range, CONTROL_TICK takes tray time to the next control-tick boundary (R42). An
order that is due and not barred joins the standing orders and waits no more (R28, R30). An ordered survey owes the regulators' identification (R39).
An error of one copy of a live table is counted and recorded (R260). Where the spec leaves a point of it open, the choices of log entries 36, 40, 41,
42 hold. COMPLETION: for every state and operands that meet the conditions of its clause, which are on them alone, exec answers a next state for each
of these forms: controlTick (R42), orderEffect (R28), surveyOrder (R39), tableEccError (R260). (R42, R28, R30, R39, R260) -/
def Obligations.BoundaryCommandsTakeEffect : Prop :=
  (∀ (s : State) (ins : List Sample), s.Wf → s.rd (V.planeHeld 0) = 0 → ins.all sampleOk = true → Gives (.controlTick ins) s (fun t => t.now = s.boundary + 4000)) ∧
  (∀ (s : State) (o : Order), s.Wf → s.orders.pend = [o] → s.orders.installs = [] → boundaryOf o.applyAt ≤ s.boundary → s.orders.barred o = false → o.release = false → Gives (.orderEffect) s (fun t => o ∈ t.orders.standing ∧ t.orders.pend = [])) ∧
  (∀ (s : State) (supplies : List Nat) (c : Nat), s.Wf → s.rd (V.planeHeld 0) = 0 → Gives (.surveyOrder supplies) s (fun t => t.rd V.identOwed = 1 ∧ Ty.SURVEY ∈ t.firn.tickTypes ∧ (c < 320 → s.accRailUp = false → t.rd (V.surveyed c) = 0))) ∧
  (∀ (s : State) (sect entry : Nat) (r : Restart), s.Wf → s.rd (V.planeHeld 0) = 0 → Gives (.tableEccError sect entry false r) s (fun t => t.rd FAB_ECCCNT.count = (s.rd FAB_ECCCNT.count + 1) % 2 ^ FAB_ECCCNT.count.width ∧ Raised Ty.FAB_FAULT t))

/-- A TIME on the up lane takes a free or held-over loop to ACQUIRE; one on a tray that is not the root is counted as seen. The loop locks, loses
lock, holds over and settles as R44 and R271 say. A TIME_UP is answered with a DELAY; a DELAY gives the lane's round trip as satUnsigned 32 of the
open division of (t2 - t1 + t4 - t3) x 25 by 1,024; the up lane owes a TIME_UP at link-up and every second (R269). Where the spec leaves a point of it
open, the choices of log entries 83, 87 hold. COMPLETION: for every state and operands that meet the conditions of its clause, which are on them
alone, exec answers a next state for each of these forms: time (R268), discLock (R44), discReacquire (R44), discHoldover (R44), settled (R271), timeUp
(R269), delay (R269), tlaneRttMeasure (R269). (R44, R269, R271) -/
def Obligations.JobTimeCommandsTakeEffect : Prop :=
  (∀ (s : State) (m : Nat) (g : GotMsg) (l : Link), s.Wf → m < 5 → (s.link (8 + m)).take? TmlT.time = some (g, l) → s.rd (JOB_LCFG.role m) = 1 → (s.rd TIM_DISC.state = Disc.free ∨ s.rd TIM_DISC.state = Disc.holdover) → Gives (.time m) s (fun t => t.rd TIM_DISC.state = Disc.acquire ∧ t.rd TIM_DISC.valid = 0)) ∧
  (∀ (s : State) (m : Nat) (g : GotMsg) (l : Link), s.Wf → m < 5 → (s.link (8 + m)).take? TmlT.time = some (g, l) → s.rd (JOB_LCFG.role m) = 1 → (s.rd TIM_DISC.state = Disc.acquire ∨ s.rd TIM_DISC.state = Disc.locked) → Gives (.time m) s (fun t => t.rd V.discSeen = 1 ∧ (t.link (8 + m)).t1 = g.msg.get 8 8 * 1024 + g.msg.get 16 2)) ∧
  (∀ (s : State), s.Wf → s.rd TIM_DISC.state = Disc.acquire → 1000 ≤ s.rd V.discGood → Gives (.discLock) s (fun t => t.rd TIM_DISC.state = Disc.locked ∧ t.rd TIM_DISC.valid = 1 ∧ Raised Ty.TIME_EVENT t)) ∧
  (∀ (s : State), s.Wf → s.rd TIM_DISC.state = Disc.locked → 16 ≤ s.rd V.discBad → Gives (.discReacquire) s (fun t => t.rd TIM_DISC.state = Disc.acquire ∧ t.rd TIM_DISC.valid = 0 ∧ t.rd JOB_STAT.settled = 0)) ∧
  (∀ (s : State), s.Wf → (s.rd TIM_DISC.state = Disc.acquire ∨ s.rd TIM_DISC.state = Disc.locked) → 8 ≤ s.rd V.discMissing → Gives (.discHoldover) s (fun t => t.rd TIM_DISC.state = Disc.holdover ∧ t.rd TIM_DISC.valid = 0 ∧ Raised Ty.TIME_EVENT t)) ∧
  (∀ (s : State), s.Wf → s.rd TIM_DISC.state = Disc.locked → s.rd V.lockedSince ≠ 0 → s.rd V.lockedSince + 40000000000 ≤ s.now + 1 → Gives (.settled) s (fun t => t.rd JOB_STAT.settled = 1 ∧ OnlyFields [JOB_STAT.settled] s t)) ∧
  (∀ (s : State) (m : Nat) (g : GotMsg) (l : Link), s.Wf → m < 5 → (s.link (8 + m)).take? TmlT.timeUp = some (g, l) → Gives (.timeUp m) s (fun t => Sends (8 + m) TmlT.delay t)) ∧
  (∀ (s : State) (m : Nat) (g : GotMsg) (l : Link), s.Wf → m < 5 → (s.link (8 + m)).take? TmlT.delay = some (g, l) → Gives (.delay m) s (fun t => t.rd (JOB_LRTT.rtt m) = satUnsigned 32 (divOpenI ((((l.t2 : Int) - l.t1) + (((g.msg.get 8 8 * 1024 + g.msg.get 16 2 : Nat) : Int) - l.t3)) * 25) 1024))) ∧
  (∀ (s : State) (m : Nat), s.Wf → m < 5 → s.rd (JOB_LCFG.role m) = 1 → s.rd (lkState (8 + m)) = LinkS.run → ((s.link (8 + m)).rttAt = 0 ∨ (s.link (8 + m)).rttAt + 4000000000 ≤ s.now + 1) → Gives (.tlaneRttMeasure m) s (fun t => (t.link (8 + m)).upDue = true ∧ (t.link (8 + m)).rttAt = s.now + 1))

/-- A core's push joins the management port's queue; a core held on the full queue goes on when there is room; FIRN_START starts the writer; the
oldest staged record leaves for its class ring in LPDDR5X, head and count moving on; a LOSS record reports the oldest loss; a due drain fills the
oldest BUFFER of its ring; a valid acknowledgement moves JRN_ACK. Where the spec leaves a point of it open, the choices of log entries 43, 44, 46, 133
hold. COMPLETION: for every state and operands that meet the conditions of its clause, which are on them alone, exec answers a next state for each of
these forms: jrnMgmtPush (R66), mgmtQueueResume (R66), firnStart (R62), recordMove (R68), loss (R69), drain (R70), jrnAckWrite (R590). (R62, R66, R68,
R69, R589, R590) -/
def Obligations.FirnCommandsTakeEffect : Prop :=
  (∀ (s : State) (req : Nat), s.Wf → isCore req = true → s.planeDown 0x18_0140 = false → (isServiceCore req = true → (s.granted req 0 0x18_0140 4).getD 0 ≠ 0) → (req = Req.keeper → s.keeperGated = false) → (req = Req.keeper ∨ 0xF0 ≤ (s.pushedRec req).typ) → s.firn.queued < mgmtRoom → s.firn.started = true → Gives (.jrnMgmtPush req) s (fun t => t.firn.mgmt = s.firn.mgmt ++ [s.pushedRec req] ∧ OnlyFields [] s t)) ∧
  (∀ (s : State) (req : Nat), s.Wf → isCore req = true → s.planeDown 0x18_0140 = false → (isServiceCore req = true → (s.granted req 0 0x18_0140 4).getD 0 ≠ 0) → (req = Req.keeper → s.keeperGated = false) → (req = Req.keeper ∨ 0xF0 ≤ (s.pushedRec req).typ) → s.firn.queued < mgmtRoom → s.firn.started = false → Gives (.jrnMgmtPush req) s (fun t => t.firn = s.firn.enqueue (s.pushedRec req) ∧ t.firn.queued = s.firn.queued + 1 ∧ OnlyFields [] s t)) ∧
  (∀ (s : State) (c : Nat) (r : Rec) (rest : List (Nat × Rec)), s.Wf → s.firn.held = (c, r) :: rest → s.firn.queued < mgmtRoom → s.firn.started = true → Gives (.mgmtQueueResume) s (fun t => t.firn.mgmt = s.firn.mgmt ++ [r] ∧ t.firn.held = rest)) ∧
  (∀ (s : State), s.Wf → s.rd V.windowWiped = 1 → s.firn.started = false → Gives (.firnStart) s (fun t => t.firn.started = true ∧ t.firn.startup = [])) ∧
  (∀ (s : State) (w : StagedRec) (rest : List StagedRec), s.Wf → s.rd JRN_CTL.enable = 1 → s.rd MEM_STAT.lp_state = 3 → s.firn.area = w :: rest → wordsIn s.ue (0xC000_0000 + 64 * (w.seq % 262144)) 64 = [] → w.cls < 3 → (w.cls = 0 → s.rd (V.stored 0) < s.classRoom 0) → Gives (.recordMove) s (fun t => t.firn.area = rest ∧ t.rd (JRN_HEAD.head w.cls) = s.ringNext w.cls (s.rd (JRN_HEAD.head w.cls)) % 2 ^ (JRN_HEAD.head w.cls).width)) ∧
  (∀ (s : State) (c : Nat) (n : LossNote) (rest : List (Nat × LossNote)), s.Wf → s.firn.started = true → s.firn.area.length < areaRoom → s.firn.lossNotes = (c, n) :: rest → Gives (.loss) s (fun t => Raised Ty.LOSS t ∧ OnlyFields [] s t)) ∧
  (∀ (s : State) (c : Nat) (b : HostBuf), s.Wf → c < 3 → s.drainDue c = true → s.rd HIF_STAT.dstate = 0 → s.rd HIF_STAT.bme = 1 → s.rd CRP_PFSTAT.warn = 0 → b.ring = s.rd (JRN_DRAINCTL.ring c) → s.bufs = [b] → 64 ≤ b.len → s.rd (HIF_RCTL.en b.ring) = 1 → s.rd (HIF_RCFG.role b.ring) = 2 → s.rd (HIF_RCFG.class_ b.ring) = c → s.rd (HIF_RSTAT.state b.ring) ≠ RingS.halted → s.respFull b.ring = false → Gives (.drain c false) s (fun t => t.bufs = [] ∧ t.rd (HIF_DRPOS.pos c) = s.ringAhead c (s.rd (HIF_DRPOS.pos c)) (min (s.undrained c) (b.len / 64)) % 2 ^ (HIF_DRPOS.pos c).width)) ∧
  (∀ (s : State) (req c v : Nat), s.Wf → s.spaceOff req = false → c < 3 → (req = Req.keeper → s.keeperGated = false) → s.planeDown (0x18_0088 + 0x10 * c) = false → (isServiceCore req = true → (s.granted req 0 (0x18_0088 + 0x10 * c) 8).getD 0 ≠ 0) → s.ackValid c v = true → Gives (.jrnAckWrite req c v) s (fun t => t.rd (JRN_ACK.ack c) = s.ackClamp c v % 2 ^ (JRN_ACK.ack c).width ∧ t.firn = s.firn))

/-- CAPTURE_ARM takes a disarmed ring to ARMED with its frame count fixed; a trigger takes an armed one to POST, with its position, and its record is
owed for the tick; it freezes after the frames of R74; a release disarms it. Where the spec leaves a point of it open, the choices of log entries 37,
38, 39, 197 hold. COMPLETION: for every state and operands that meet the conditions of its clause, which are on them alone, exec answers a next state
for each of these forms: captureArm (R73), captureTrigger (R74), captureFreeze (R74), captureRelease (R74). (R73, R74) -/
def Obligations.CaptureCommandsTakeEffect : Prop :=
  (∀ (s : State) (req : Nat), s.Wf → s.Reaches req 0x18_0200 4 1 false → s.rd JRN_CAPCTL.state = CapS.disarmed → s.rd V.capTrigTick ≠ s.tick + 1 → Gives (.captureArm req) s (fun t => t.rd JRN_CAPCTL.state = CapS.armed ∧ t.rd JRN_CAPFRAMES.frames = s.ringFrames % 2 ^ JRN_CAPFRAMES.frames.width)) ∧
  (∀ (s : State) (req : Nat), s.Wf → s.spaceOff req = false → s.capSources false ≠ 0 → s.capState = CapS.armed → s.rd V.capTrigTick ≠ s.tick + 1 → Gives (.captureTrigger false req) s (fun t => t.rd JRN_CAPCTL.state = CapS.post ∧ t.rd JRN_CAPPOS.pos = s.rd V.capNext % 2 ^ JRN_CAPPOS.pos.width ∧ t.rd V.capTrigTick = (s.tick + 1) % 2 ^ V.capTrigTick.width ∧ t.now = s.now)) ∧
  (∀ (s : State), s.Wf → s.rd JRN_CAPCTL.state = CapS.post → bit (s.rd V.capFlags) 0 = false → s.rd JRN_CAPFRAMES.frames ≤ s.rd V.capPost + 1 + s.rd JRN_CAPPRE.pre → Gives (.captureFreeze) s (fun t => t.rd JRN_CAPCTL.state = CapS.frozen ∧ OnlyFields [JRN_CAPCTL.state] s t)) ∧
  (∀ (s : State) (req : Nat), s.Wf → s.Reaches req 0x18_0200 4 4 false → s.rd JRN_CAPCTL.state = CapS.frozen → Gives (.captureRelease req) s (fun t => t.rd JRN_CAPCTL.state = CapS.disarmed ∧ OnlyFields [JRN_CAPCTL.state] s t))

/-- EPOCH_END marks the epoch taken; a tray's REPORT leaves and is sent; a child's REPORT in time counts; a silent child is detached; the root decides
and a RESULT is taken once; the RESULT in force clears what was due; one not received by E + 36 us is given up; a TRIGGER is passed on once; a
follower gathers a forwarded pass; an answered tip-off waits no more. Where the spec leaves a point of it open, the choices of log entries 80, 84, 85,
86 hold. COMPLETION: for every state and operands that meet the conditions of its clause, which are on them alone, exec answers a next state for each
of these forms: epochEnd (R273), reportSend (R276), report (R276), childDetach (R281), huddleDecide (R277), result (R278), resultApply (R278),
resultLost (R279), trigger (R287), lockstep (R290), tipoffAck (R133). (R275, R276, R277, R278, R279, R281, R287, R290, R133) -/
def Obligations.JobCommandsTakeEffect : Prop :=
  (∀ (s : State), s.Wf → epochTicks ≤ s.jobNow → s.rd V.epochTaken ≠ s.endedEpoch + 1 → Gives (.epochEnd) s (fun t => t.rd V.epochTaken = s.endedEpoch + 1)) ∧
  (∀ (s : State) (j : Nat), s.Wf → j < 8 → s.reportOpen j = true → (s.job j).root = false → (s.job j).parent < 5 → epochEnd (s.job j).epoch + ((s.job j).d - s.jobDepth (s.job j)) * s.rd JOB_HOP.t_hop * 4 ≤ s.jobNow → Gives (.reportSend j) s (fun t => (t.job j).sent = true ∧ Sends (8 + (s.job j).parent) TmlT.report t)) ∧
  (∀ (s : State) (m j : Nat) (g : GotMsg) (l : Link), s.Wf → m < 5 → (s.link (8 + m)).take? TmlT.report = some (g, l) → s.jobByKey (g.msg.get 4 2) = some j → bit (s.job j).children m = true → (s.job j).sent = false → (s.job j).own.isSome = true → g.msg.get 6 2 = (s.job j).epoch % 65536 → Gives (.report m) s (fun t => ((t.job j).reports.getLast?).map (·.lane) = some m ∧ bit (t.job j).detached m = false)) ∧
  (∀ (s : State) (j m : Nat), s.Wf → j < 8 → m < 5 → (s.job j).valid = true → bit (s.job j).children m = true → bit (s.job j).detached m = false → 0 < tableGet 0 (s.job j).silent m → (s.job j).missLimit ≤ tableGet 0 (s.job j).silent m → Gives (.childDetach j m) s (fun t => bit (t.job j).detached m = true ∧ t.rd JOB_EVT.member = 1 ∧ Raised Ty.JOB_MEMBER t)) ∧
  (∀ (s : State) (j : Nat), s.Wf → j < 8 → s.reportOpen j = true → (s.job j).root = true → epochEnd (s.job j).epoch + (s.job j).d * s.rd JOB_HOP.t_hop * 4 ≤ s.jobNow → Gives (.huddleDecide j) s (fun t => (t.job j).taken = true ∧ (t.job j).due.isSome = true ∧ (t.job j).sent = true)) ∧
  (∀ (s : State) (m j : Nat) (g : GotMsg) (l : Link), s.Wf → m < 5 → (s.link (8 + m)).take? TmlT.result = some (g, l) → s.jobByKey (g.msg.get 4 2) = some j → (s.job j).parent = m → g.msg.get 6 2 = (s.job j).epoch % 65536 → (s.job j).taken = false → (s.job j).lost = false → (s.job j).own.isSome = true → Gives (.result m) s (fun t => (t.job j).taken = true ∧ (t.job j).due = some (resultOf (s.job j).epoch g.msg))) ∧
  (∀ (s : State) (j : Nat) (res : JobResult), s.Wf → j < 8 → (s.job j).due = some res → applyAtOf res.epoch ≤ s.jobNow → Gives (.resultApply j) s (fun t => (t.job j).due = none ∧ t.rd (JOB_JEPOCH.epoch j) = res.epoch % 2 ^ (JOB_JEPOCH.epoch j).width)) ∧
  (∀ (s : State) (j : Nat), s.Wf → j < 8 → (s.job j).valid = true → (s.job j).own.isSome = true → (s.job j).root = false → (s.job j).taken = false → (s.job j).lost = false → epochEnd (s.job j).epoch + 144000 ≤ s.jobNow → Gives (.resultLost j) s (fun t => (t.job j).lost = true ∧ t.rd JOB_EVT.lost = 1)) ∧
  (∀ (s : State) (m j : Nat) (g : GotMsg) (l : Link), s.Wf → m < 5 → (s.link (8 + m)).take? TmlT.trigger = some (g, l) → s.jobByKey (g.msg.get 16 2) = some j → (s.job j).triggers.contains (g.msg.get 8 8) = false → Gives (.trigger m) s (fun t => t.rd JOB_EVT.trig = 1 ∧ t.rd V.capJobTime = g.msg.get 8 8 % 2 ^ 64 ∧ (t.job j).triggers.contains (g.msg.get 8 8) = true)) ∧
  (∀ (s : State) (m : Nat) (g : GotMsg) (l : Link), s.Wf → m < 5 → (s.link (8 + m)).take? TmlT.lockstep = some (g, l) → s.rd JOB_LSCTL.lane = m → s.follows = true → (s.fab.lockBytes ++ g.msg.pay).length < ceilDiv (16 + 4 * (everyRead (s.bindings s.liveImg)).length) 28 * 28 → Gives (.lockstep m) s (fun t => t.fab.lockBytes = s.fab.lockBytes ++ g.msg.pay)) ∧
  (∀ (s : State) (n : Nat) (g : GotMsg) (l : Link), s.Wf → n < 8 → (s.link n).take? MsgT.tipoffAck = some (g, l) → g.msg.get 12 1 = 2 → Gives (.tipoffAck n) s (fun t => (t.link n).tips = l.tips.filter (fun x => !(x.job == g.msg.get 4 1 && x.barrier == g.msg.get 8 4)) ∧ t.rd (SWJ_EVT.late n) = 1 ∧ Raised Ty.TIPOFF t))

/-- A switching-period boundary puts the pending N_act of a regulating rail in force (R90, R101); a VSEN sample is taken and counted (R93, R97);
SYNC_IN is lost and found again (R89); rotation moves every pointer on by one each whole second (R91); a failed sense path moves to the alternate pair
(R96); fast add brings every working phase in at the next period boundary, wherever the rail's loop runs (R102). Where the spec leaves a point of it
open, the choices of log entries 54, 94, 198, 203 hold. COMPLETION: for every state and operands that meet the conditions of its clause, which are on
them alone, exec answers a next state for each of these forms: switchingPeriod (R84), voltageLoopUpdate (R93), syncHoldover (R89), syncResume (R89),
rotationAdvance (R91), senseSwitch (R96), fastAdd (R102). (R89, R90, R91, R93, R96, R101, R102) -/
def Obligations.TileCommandsTakeEffect : Prop :=
  (∀ (s : State) (k j r at_ period : Nat), s.Wf → k < 4 → j < 4 → s.boundaryDue k at_ period = true → s.tilesAt k = [j] → r ∈ tileRails j → s.rd (V.nactNext r) ≠ 0 → s.rd (rState r) = RailS.regulating → s.rd (V.fastAdd r) = 0 → (s.railChannels r Role.bench).all (fun c => s.rd (V.repFor c) != 0) = true → (s.railChannels r Role.working).all (fun c => s.rd (V.imgRole c) == Role.working) = true → Gives (.switchingPeriod ⟨k, at_, period⟩ ⟨[], []⟩) s (fun t => t.rd (rNact r) = min (s.rd (V.nactNext r) - 1) (s.rd (rNwork r)) % 2 ^ (rNact r).width ∧ t.rd (V.nactNext r) = 0 ∧ t.now = max s.now at_)) ∧
  (∀ (s : State) (r v : Nat) (x : LoopSamples), s.Wf → r < 18 → s.rd (V.vcnt r) < 16 → Gives (.voltageLoopUpdate r v x) s (fun t => t.rd (V.vcnt r) = s.rd (V.vcnt r) + 1 ∧ t.rd (V.vsense r) = v % 2 ^ (V.vsense r).width ∧ t.now = max s.now (s.boundary + 250 * s.rd (V.vcnt r)))) ∧
  (∀ (s : State) (k period : Nat), s.Wf → k < 4 → s.rd (PHT_SYNCCFG.src k) = 1 → s.rd (PHT_SYNCSTAT.lock k) = 1 → (period = 0 ∨ 100 * period < 95 * (1000000000 / s.rd (PHT_SYNCCFG.fsw k)) ∨ 105 * (1000000000 / s.rd (PHT_SYNCCFG.fsw k)) < 100 * period) → Gives (.syncHoldover k period) s (fun t => t.rd (PHT_SYNCSTAT.holdover k) = 1 ∧ t.rd (PHT_SYNCSTAT.lock k) = 0 ∧ t.rd (PHT_EVT.sync k) = 1 ∧ Raised Ty.SYNC_EVENT t)) ∧
  (∀ (s : State) (k period good : Nat) (phase : Int), s.Wf → k < 4 → s.rd (PHT_SYNCCFG.src k) = 1 → s.rd (PHT_SYNCSTAT.holdover k) = 1 → 95 * (1000000000 / s.rd (PHT_SYNCCFG.fsw k)) ≤ 100 * period → 100 * period ≤ 105 * (1000000000 / s.rd (PHT_SYNCCFG.fsw k)) → 1000 ≤ s.rd (V.syncGood k) + good → Gives (.syncResume k period ⟨good, phase⟩) s (fun t => t.rd (PHT_SYNCSTAT.holdover k) = 0 ∧ t.rd (PHT_SYNCSTAT.lock k) = 1 ∧ t.rd (PHT_EVT.sync k) = 1 ∧ Raised Ty.SYNC_EVENT t)) ∧
  (∀ (s : State) (r : Nat), s.Wf → r < 18 → s.rd V.rotSecond < s.now / 4000000000 → Gives (.rotationAdvance) s (fun t => t.rd (V.rotPtr r) = (s.rd (V.rotPtr r) + 1) % 2 ^ (V.rotPtr r).width)) ∧
  (∀ (s : State) (r : Nat) (p q : Nat × Nat), s.Wf → r < 18 → s.senseFailed r = true → s.sensePair? r false = some p → s.sensePair? r true = some q → s.rd (PHT_RSTAT.alt (railTile r) (railLocal r)) = 0 → Gives (.senseSwitch r) s (fun t => t.rd (PHT_RSTAT.alt (railTile r) (railLocal r)) = 1 ∧ t.rd (V.senseBad r) = 0 ∧ Raised Ty.SENSE_SWITCH t)) ∧
  (∀ (s : State) (r : Nat), s.Wf → r < 18 → s.loopRuns r = true → (2 ≤ s.rd (V.climitRun r) ∨ s.rd (PHT_RSTAT.brake (railTile r) (railLocal r)) = 1) → Gives (.fastAdd r) s (fun t => t.rd (V.fastAdd r) = 1 ∧ t.rd (V.dropRun r) = 0 ∧ OnlyFields [V.fastAdd r, V.noDrop r, V.dropRun r] s t))

/-- When a test of R103 fires the channel's role is FAILED (R105); the bench channel that was woken becomes WORKING with the zero it measured (R106);
the swap is recorded once its weight has risen (R106). Where the spec leaves a point of it open, the choices of log entries 53, 181, 198 hold.
COMPLETION: for every state and operands that meet the conditions of its clause, which are on them alone, exec answers a next state for each of these
forms: phaseFault (R103), benchJoin (R106), phaseSwap (R106). (R103, R105, R106) -/
def Obligations.ChannelCommandsTakeEffect : Prop :=
  (∀ (s : State) (c cause imon rise expected : Nat), s.Wf → c < 320 → s.rd (chRole c) ≠ Role.failed → s.rd (chRail c) < 5 → s.testFires c cause = true → s.testShows c imon rise expected = true → Gives (.phaseFault c cause imon rise expected) s (fun t => t.rd (chRole c) = Role.failed ∧ t.rd (PHT_CHSTAT.cause (c / 80) (c % 80)) = cause % 2 ^ (PHT_CHSTAT.cause (c / 80) (c % 80)).width)) ∧
  (∀ (s : State) (c r : Nat), s.Wf → c < 320 → s.railOf c = r → s.rd (chState c) = ChS.waking → s.rd (V.repFor c) ≠ 0 → s.rd (V.zeroing c) = 0 → s.rd (V.zeroDone c) ≠ 0 → s.rd (V.zeroDone c) + 800 ≤ s.now + 1 → s.rd (V.perAt (railTile r)) = s.now + 1 → 3000 ≤ s.rd (PHT_CHIMON.zero (c / 80) (c % 80)) → s.rd (PHT_CHIMON.zero (c / 80) (c % 80)) ≤ 16500 → Gives (.benchJoin c r) s (fun t => t.rd (chRole c) = Role.working ∧ t.rd (V.joinAt c) = (s.now + 1) % 2 ^ (V.joinAt c).width)) ∧
  (∀ (s : State) (c : Nat), s.Wf → c < 320 → s.rd (V.repFor c) ≠ 0 → s.rd (V.joinAt c) ≠ 0 → s.rd (V.joinAt c) + 24000 ≤ s.now + 1 → Gives (.phaseSwap c) s (fun t => t.rd (V.repFor c) = 0 ∧ t.rd (V.joinAt c) = 0 ∧ t.rd (PHT_EVT.swap (c / 80)) = 1 ∧ Raised Ty.PHASE_SWAP t))

/-- A ready rail becomes REGULATING (R111); a soft start that has folded or run too long, and a regulating rail with a condition of R115, trip with
their cause; a discharged rail is OFF with no phase active (R114); the brake flag rises and falls with the comparator (R116). Where the spec leaves a
point of it open, the choices of log entries 52, 56, 198, 201 hold. COMPLETION: for every state and operands that meet the conditions of its clause,
which are on them alone, exec answers a next state for each of these forms: tileRailGood (R111), softstartTrip (R113), railTrip (R115), dischargeEnd
(R114), brakeAssert (R116), brakeClear (R116). (R111, R113, R114, R115, R116) -/
def Obligations.RailCommandsTakeEffect : Prop :=
  (∀ (s : State) (r : Nat), s.Wf → r < 18 → s.railReady r = true → Gives (.tileRailGood r) s (fun t => t.rd (rState r) = RailS.regulating)) ∧
  (∀ (s : State) (r : Nat), s.Wf → r < 18 → s.softTrip r ≠ 0 → Gives (.softstartTrip r) s (fun t => t.rd (rState r) = RailS.tripped ∧ t.rd (PHT_RSTAT.cause (railTile r) (railLocal r)) = s.softTrip r ∧ t.rd (rNact r) = 0)) ∧
  (∀ (s : State) (r : Nat), s.Wf → r < 18 → (s.tripCause r).1 ≠ 0 → Gives (.railTrip r) s (fun t => t.rd (rState r) = RailS.tripped ∧ t.rd (PHT_RSTAT.cause (railTile r) (railLocal r)) = (s.tripCause r).1 ∧ t.rd (rNact r) = 0)) ∧
  (∀ (s : State) (r : Nat), s.Wf → r < 18 → s.rd (rState r) = RailS.discharge → (s.rd (V.vsense r) < 500 ∨ s.offTimedOut r = true) → Gives (.dischargeEnd r) s (fun t => t.rd (rState r) = RailS.off ∧ t.rd (rNact r) = 0 ∧ t.rd (V.vbase r) = 0)) ∧
  (∀ (s : State) (r : Nat) (e : BrakeEdge), s.Wf → s.brakeArmed r = true → s.rd (PHT_RSTAT.brake (railTile r) (railLocal r)) = 0 → e.v + 10 * s.rd (PHT_PROT.brake (railTile r) (railLocal r)) < s.rd (V.vt r) → Gives (.brakeAssert r e) s (fun t => t.rd (PHT_RSTAT.brake (railTile r) (railLocal r)) = 1 ∧ t.rd (SWJ_BRKCNT.count (r % 8)) = (s.rd (SWJ_BRKCNT.count (r % 8)) + 1) % 2 ^ (SWJ_BRKCNT.count (r % 8)).width ∧ Raised Ty.BRAKE t)) ∧
  (∀ (s : State) (r : Nat) (e : BrakeEdge), s.Wf → r < 16 → s.rd (PHT_RSTAT.brake (railTile r) (railLocal r)) = 1 → s.rd (V.vt r) + 10 * s.rd (PHT_PROT.brake_hys (railTile r) (railLocal r)) < e.v + 10 * s.rd (PHT_PROT.brake (railTile r) (railLocal r)) → Gives (.brakeClear r e) s (fun t => t.rd (PHT_RSTAT.brake (railTile r) (railLocal r)) = 0 ∧ Raised Ty.BRAKE t))

/-- ENABLE takes a link that is OFF to DETECT; energy that has held for 10 us takes it to TRAIN (R135); a training frame that completes both ends'
criteria takes it to ALIGN, and a training timeout of a lane that trains freely goes to the next slower rate (R139). A training frame of 2,125 symbols
or a data frame leaves a powered lane, and an uncorrectable one received is counted. A message not acknowledged for 3 ticks goes out again; RETRAIN
returns the link to DETECT (R160). Where the spec leaves a point of it open, the choices of log entries 58, 59, 60, 61, 62, 63 hold. COMPLETION: for
every state and operands that meet the conditions of its clause, which are on them alone, exec answers a next state for each of these forms: enable
(R134), energyCheck (R135), trainingFrame (R136), trainTimeout (R139), frameTransmit (R128), upstreamFrame (R129), messageResend (R132), retrain
(R160). (R134, R135, R136, R139, R160) -/
def Obligations.LinkTrainingCommandsTakeEffect : Prop :=
  (∀ (s : State) (n : Nat), s.Wf → n < 13 → s.rd (lkState n) = LinkS.off → s.linkEnabled n = true → s.linkPower n = true → Gives (.enable n) s (fun t => t.rd (lkState n) = LinkS.detect ∧ t.rd (lkLane n) = 0 ∧ (t.lane (primaryLane n)).stage = 1)) ∧
  (∀ (s : State) (n swing gap ns : Nat), s.Wf → n < 13 → s.rd (lkState n) = LinkS.detect → (s.rd (V.lookAt n) = 0 ∨ s.rd (V.lookAt n) + 4000000 ≤ s.now + 1) → 100 ≤ swing → gap ≤ 64 → 10000 ≤ ns → Gives (.energyCheck n ⟨swing, gap, ns⟩) s (fun t => t.rd (lkState n) = LinkS.train ∧ (t.lane (s.currentLane n)).t0 = s.now)) ∧
  (∀ (s : State) (lane pos : Nat) (levels : List Int), s.Wf → lane < 21 → (s.lane lane).stage = 1 → s.rd (lkState (s.linkOf lane)) = LinkS.train → ((s.lane lane).takeFrame s.now pos levels).rateDown = false → ((s.lane lane).takeFrame s.now pos levels).farDown = false → 3 ≤ ((s.lane lane).takeFrame s.now pos levels).doneSent → ((s.lane lane).takeFrame s.now pos levels).rxDone = true → 3 ≤ ((s.lane lane).takeFrame s.now pos levels).farDone → Gives (.trainingFrame lane pos levels) s (fun t => t.rd (lkState (s.linkOf lane)) = LinkS.align ∧ (t.lane lane).stage = 2)) ∧
  (∀ (s : State) (lane rate : Nat), s.Wf → lane < 21 → (s.lane lane).stage = 1 → s.rd (lkState (s.linkOf lane)) = LinkS.train → (s.lane lane).t0 + 8000000 ≤ s.now → (s.lane lane).fixed = false → (s.lane lane).slower = some rate → Gives (.trainTimeout lane) s (fun t => (t.lane lane).rate = rate ∧ (t.lane lane).t0 = s.now ∧ t.rd (lkRate (s.linkOf lane)) = rate)) ∧
  (∀ (s : State) (lane : Nat), s.Wf → lane < 21 → (s.lane lane).stage = 1 → Gives (.frameTransmit lane) s (fun t => (t.lane lane).out.length = 2125 ∧ t.regs = s.regs)) ∧
  (∀ (s : State) (lane : Nat), s.Wf → lane < 21 → 2 ≤ (s.lane lane).stage → (s.lane lane).txTick ≠ s.tick → Gives (.frameTransmit lane) s (fun t => (t.lane lane).txTick = s.tick ∧ (t.lane lane).txFidx = 1)) ∧
  (∀ (s : State) (lane fidx arrive : Nat) (levels : List Int), s.Wf → lane < 21 → 2 ≤ (s.lane lane).stage → (frameDecode fidx levels).payload = none → Gives (.upstreamFrame lane fidx arrive levels) s (fun t => t.rd (lkUnc (s.linkOf lane)) = (s.rd (lkUnc (s.linkOf lane)) + 1) % 2 ^ (lkUnc (s.linkOf lane)).width ∧ (t.lane lane).clean = 0)) ∧
  (∀ (s : State) (n : Nat), s.Wf → n < 13 → (s.link n).sent.any (fun m => !m.again && decide (m.tick + 3 ≤ s.tick)) = true → Gives (.messageResend n) s (fun t => (t.link n).sent.all (·.again) = true ∧ t.regs = s.regs)) ∧
  (∀ (s : State) (req n : Nat), s.Wf → n < 8 → s.Reaches req (0x30_0000 + 0x1_0000 * n) 4 4 false → s.rd (lkState n) ≠ LinkS.off → Gives (.retrain req n) s (fun t => t.rd (lkState n) = LinkS.detect))

/-- A planned switch takes a link in RUN to SWITCH, its trained spare names the boundary and sends SWITCH, and the lane change leaves RUN on the spare
(R155). No correctable frame for 16 frame periods is LOSS (R156). A lost link that nothing holds down is tried on the primary at its highest rate each
second (R158). With action 1 its timeout raises a PROTECT off for its slot's group (R158). Where the spec leaves a point of it open, the choices of
log entries 65, 66 hold. COMPLETION: for every state and operands that meet the conditions of its clause, which are on them alone, exec answers a next
state for each of these forms: plannedSwitch (R155), spareTrained (R155), laneSwitch (R155), linkLoss (R156), lossRetry (R158), lossTimeout (R158).
(R134, R155, R156, R158) -/
def Obligations.LinkChangeCommandsTakeEffect : Prop :=
  (∀ (s : State) (n : Nat), s.Wf → n < 12 → s.rd (lkState n) = LinkS.run → s.rd (lkLane n) = 0 → s.spareFree n = true → s.rd (lkSpareFail n) = 0 → (s.switchDue n = true ∨ (s.link n).forced = true) → Gives (.plannedSwitch n) s (fun t => t.rd (lkState n) = LinkS.switch ∧ (t.lane (spareLane n)).stage = 1)) ∧
  (∀ (s : State) (n : Nat), s.Wf → n < 12 → s.rd (lkState n) = LinkS.switch → (s.lane (spareLane n)).stage = 3 → (s.link n).switchAt = none → Gives (.spareTrained n) s (fun t => (t.link n).switchAt = some (s.switchTick n) ∧ Sends n MsgT.switch t)) ∧
  (∀ (s : State) (n k : Nat), s.Wf → n < 12 → s.rd (lkState n) = LinkS.switch → (s.link n).switchAt = some k → k * 4000 ≤ s.now → Gives (.laneSwitch n) s (fun t => t.rd (lkState n) = LinkS.run ∧ t.rd (lkLane n) = 1 ∧ (t.link n).switchAt = none)) ∧
  (∀ (s : State) (n : Nat), s.Wf → n < 13 → 3 ≤ s.rd (lkState n) → s.rd (lkState n) ≠ LinkS.loss → s.lastFrame n + 16 * framePeriod (s.rd (lkRate n)) ≤ s.now → Gives (.linkLoss n) s (fun t => t.rd (lkState n) = LinkS.loss)) ∧
  (∀ (s : State) (n : Nat), s.Wf → n < 13 → s.rd (lkState n) = LinkS.loss → (s.link n).held = false → max (s.link n).lossAt (s.link n).retryAt + 4000000000 ≤ s.now → Gives (.lossRetry n) s (fun t => (t.link n).retryAt = s.now ∧ (t.lane (primaryLane n)).stage = 1 ∧ (t.lane (primaryLane n)).rate = s.rd (lkRateMax n))) ∧
  (∀ (s : State) (n : Nat), s.Wf → n < 8 → (s.link n).lossAt ≠ 0 → s.rd (lkState n) ≠ LinkS.off → s.rd (SWJ_LOSSCFG.action n) = 1 → (s.link n).lossAt + s.rd (SWJ_LOSSCFG.timeout n) * 4000000 ≤ s.now → s.orders.holds.any (fun h => h.holder == .linkLoss n) = false → s.seqRailOf? n = none → Gives (.lossTimeout n) s (fun t => Raised Ty.PROTECT_TRIP t ∧ OnlyFields [] s t)) ∧
  (∀ (s : State) (n q : Nat), s.Wf → n < 8 → (s.link n).lossAt ≠ 0 → s.rd (lkState n) ≠ LinkS.off → s.rd (SWJ_LOSSCFG.action n) = 1 → (s.link n).lossAt + s.rd (SWJ_LOSSCFG.timeout n) * 4000000 ≤ s.now → s.orders.holds.any (fun h => h.holder == .linkLoss n) = false → s.seqRailOf? n = some q → Gives (.lossTimeout n) s (fun t => ⟨.linkLoss n, Blk.seq, Tgt.groupPwr, s.rd (SEQ_RAILMODE.group q), 0⟩ ∈ t.orders.holds))

/-- A capability page is held; hints are held and end; a step is delivered; ageing reports, frequency answers and times are taken and sent; round
trips are measured at entry to RUN, every second, and on request. Where the spec leaves a point of it open, the choices of log entry 67 hold.
COMPLETION: for every state and operands that meet the conditions of its clause, which are on them alone, exec answers a next state for each of these
forms: cap (R140), hint (R145), hintExpire (R169), step (R142), ageing (R146), freqAck (R151), timeSend (R152), rttMeasure (R141), rttNow (R141).
(R140, R141, R144, R145, R146, R151, R152, R169, R195) -/
def Obligations.SlotMessagesTakeEffect : Prop :=
  (∀ (s : State) (n : Nat) (g : GotMsg) (l : Link), s.Wf → n < 8 → (s.link n).take? MsgT.cap = some (g, l) → s.rd (lkState n) ≠ LinkS.caps → (s.link n).again = false → Gives (.cap n) s (fun t => tableFind? (t.link n).pages (g.msg.get 4 1) = some (sliceBytes g.msg.pay 1 27) ∧ t.regs = s.regs)) ∧
  (∀ (s : State) (n : Nat) (g : GotMsg) (l : Link), s.Wf → n < 8 → (s.link n).take? MsgT.hint = some (g, l) → Gives (.hint n) s (fun t => t.hints = s.hints ++ ((hintWords g.msg).filter (fun w => decide (bits w 60 4 < 7))).map (s.hintOf n g.tick) ∧ t.regs = s.regs)) ∧
  (∀ (s : State), s.Wf → s.hints.any (fun h => decide (h.stop ≤ s.now)) = true → Gives (.hintExpire) s (fun t => (∀ h ∈ t.hints, s.now < h.stop) ∧ OnlyFields [] { s with hints := t.hints } t)) ∧
  (∀ (s : State) (n : Nat) (g : GotMsg), s.Wf → n < 8 → (s.link n).inbox = [g] → g.msg.typ = MsgT.step → g.tick + s.rd (SWJ_STAT.updelay n) ≤ s.tick + 1 → Gives (.step n) s (fun t => t.rd (SWJ_STEP.step n) = g.msg.get 4 8 % 2 ^ (SWJ_STEP.step n).width ∧ (t.prdSlot n).prevStep = some (g.msg.get 4 8))) ∧
  (∀ (s : State) (n : Nat) (g : GotMsg) (l : Link), s.Wf → n < 8 → (s.link n).take? MsgT.ageing = some (g, l) → Gives (.ageing n) s (fun t => t.rd (SWJ_AGE.group n) = g.msg.get 4 1 % 2 ^ (SWJ_AGE.group n).width ∧ t.rd (SWJ_AGE.vmargin n) = g.msg.get 8 2 % 2 ^ (SWJ_AGE.vmargin n).width)) ∧
  (∀ (s : State) (n : Nat) (g : GotMsg) (l : Link), s.Wf → n < 8 → (s.link n).take? MsgT.freqAck = some (g, l) → g.msg.get 5 1 < 2 → Gives (.freqAck n) s (fun t => t.rd (SWJ_FREQPEND.valid n) = 0 ∧ t.rd (V.freqHeld n) = g.msg.get 4 1 % 2 ^ (V.freqHeld n).width ∧ Raised Ty.FREQ_APPLY t)) ∧
  (∀ (s : State) (n : Nat), s.Wf → n < 8 → s.rd (lkState n) = LinkS.run → Gives (.timeSend n) s (fun t => Sends n MsgT.time t ∧ (t.link n).timeAt = s.now ∧ t.regs = s.regs)) ∧
  (∀ (s : State) (n : Nat), s.Wf → n < 8 → s.rd (lkState n) = LinkS.run → (s.link n).echoOk = true → ((s.link n).rttAt = 0 ∨ (s.link n).rttAt + 4000000000 ≤ s.now + 1) → Gives (.rttMeasure n) s (fun t => (t.link n).rttAt = s.now + 1 ∧ t.rd (V.rttHad n) = 1)) ∧
  (∀ (s : State) (req n : Nat), s.Wf → n < 8 → s.Reaches req (0x30_0000 + 0x1_0000 * n) 4 2 false → s.rd (lkState n) = LinkS.run → (s.link n).echoOk = true → Gives (.rttNow req n) s (fun t => (t.link n).rttAt = s.now + 1 ∧ t.rd (V.rttHad n) = 1))

/-- The cap loop marks its tick (R177); an escalation that has lasted its time ends with its ceiling at none (R180); a cap unmet for 10 s is reported
once (R177); the ageing periods and their silence take effect (R181); a full accuracy window is judged and a suspended slot's hold ends (R211); the
end of the Moraine wipe clears every slot's history (R199). Where the spec leaves a point of it open, the choices of log entries 70, 72 hold.
COMPLETION: for every state and operands that meet the conditions of its clause, which are on them alone, exec answers a next state for each of these
forms: capLoop (R177), escalationRelease (R180), capUnmet (R177), ageTrimPeriod (R181), ageReportTimeout (R181), accuracyWindow (R211), suspendHoldEnd
(R211), moraineWipeDone (R199). (R177, R180, R181, R199, R211) -/
def Obligations.CapCommandsTakeEffect : Prop :=
  (∀ (s : State), s.Wf → (s.rd V.capLoopAt = 0 ∨ s.rd V.capLoopAt + 1000 ≤ s.tick + 1) → Gives (.capLoop) s (fun t => t.rd V.capLoopAt = (s.tick + 1) % 2 ^ V.capLoopAt.width)) ∧
  (∀ (s : State) (n : Nat), s.Wf → n < 8 → s.rd (CAP_FREQ.esc n) ≠ 0xFF → s.rd (V.escUntil n) ≤ s.now → Gives (.escalationRelease n) s (fun t => t.rd (CAP_FREQ.esc n) = 0xFF ∧ t.rd (V.escUntil n) = 0 ∧ t.rd CAP_EVT.escal = 1)) ∧
  (∀ (s : State) (n : Nat), s.Wf → n < 9 → s.rd (V.unmetSince n) ≠ 0 → s.rd (V.unmetTold n) = 0 → s.rd (V.unmetSince n) + 40000000000 ≤ s.now + 1 → (s.unmetCap n).isSome = true → Gives (.capUnmet n) s (fun t => t.rd (V.unmetTold n) = 1 ∧ Raised Ty.CAP_ACT t ∧ OnlyFields [V.unmetTold n] s t)) ∧
  (∀ (s : State) (n : Nat), s.Wf → n < 8 → s.rd (V.agePeriod n) ≤ s.now / 400000000 → Gives (.ageTrimPeriod n) s (fun t => t.rd (V.agePeriod n) = (s.now / 400000000 + 1) % 2 ^ (V.agePeriod n).width)) ∧
  (∀ (s : State) (n : Nat), s.Wf → n < 8 → (s.rd (lkState n) ≠ LinkS.run ∨ (s.silentGroup n).isSome = true) → Gives (.ageReportTimeout n) s (fun t => t.rd (V.ageStale n) = 1 ∧ t.rd (V.ageRun n) = 0)) ∧
  (∀ (s : State) (n : Nat), s.Wf → n < 8 → 1000 ≤ (s.prdSlot n).ticks → (s.rd (PRD_SSTAT.state n) = PrdS.active ∨ s.rd (PRD_SSTAT.state n) = PrdS.suspended) → Gives (.accuracyWindow n) s (fun t => t.rd (PRD_ACCSTAT.mae n) = min 0xFFFF (roundDiv (s.prdSlot n).absSum 1000).toNat ∧ (t.prdSlot n).ticks = 0)) ∧
  (∀ (s : State) (n : Nat), s.Wf → n < 8 → s.rd (PRD_SSTAT.state n) = PrdS.suspended → (s.prdSlot n).holdUntil ≤ s.now → (s.prdSlot n).lastGood = true → Gives (.suspendHoldEnd n) s (fun t => (t.prdSlot n).owed = PrdS.active)) ∧
  (∀ (s : State) (a n : Nat), s.Wf → n < 8 → 0x4000_0000 ≤ a → a < 0xC000_0000 → s.rd PRD_WIPE.busy = 1 → Gives (.moraineWipeDone) s (fun t => t.rd PRD_WIPE.busy = 0 ∧ memByte t.mem a = 0 ∧ t.rd (PRD_WRITTEN.count n) = 0))

/-- A group that may start is RAMP_UP or, with every rail good, UP (R302); one that must stop is neither (R304); a system restart counts and ends
policy 3's shutdown (R309); FAULT_N low is acted on, and ends after 10 ms (R312); the first-fault register is rearmed (R311); a clear of latched rails
clears their latches (R310). Where the spec leaves a point of it open, the choices of log entries 88, 89, 90, 93 hold. COMPLETION: for every state and
operands that meet the conditions of its clause, which are on them alone, exec answers a next state for each of these forms: groupPowerUp (R302),
groupPowerDown (R304), systemRestart (R309), faultClear (R310), firstRearm (R311), faultIn (R312), faultInRelease (R312). (R302, R304, R309, R310,
R311, R312) -/
def Obligations.GroupCommandsTakeEffect : Prop :=
  (∀ (s : State) (g : Nat), s.Wf → g < 16 → (s.grp g = GrpS.off ∨ s.grp g = GrpS.wait) → s.mayStart g = true → Gives (.groupPowerUp g) s (fun t => (t.grp g = GrpS.rampUp ∨ t.grp g = GrpS.up) ∧ t.rd (SEQ_GSTAT.clock g) = 0)) ∧
  (∀ (s : State) (g cause : Nat), s.Wf → g < 16 → s.stopCause g = some cause → Gives (.groupPowerDown g) s (fun t => t.grp g ≠ GrpS.rampUp ∧ t.grp g ≠ GrpS.up)) ∧
  (∀ (s : State), s.Wf → s.rd V.sysRail ≠ 0 → s.rd V.sysDownAt ≠ 0 → s.rd V.sysDownAt + 400000000 ≤ s.boundary + 1 → s.rd V.sysCount < s.rd (SEQ_RAILDIS.retries (s.rd V.sysRail - 1)) → Gives (.systemRestart) s (fun t => t.rd V.sysRail = 0 ∧ t.rd V.sysCount = (s.rd V.sysCount + 1) % 2 ^ V.sysCount.width)) ∧
  (∀ (s : State) (req m value b hw : Nat), s.Wf → m < 4 → b < 32 → s.Reaches req (0x90_0020 + 4 * m) 4 value false → bit value b = true → bit hw b = false → Gives (.faultClear req m ⟨value, hw⟩) s (fun t => bit (t.rd (SEQ_FAULTMAP.latch m)) b = false)) ∧
  (∀ (s : State) (req value hw : Nat), s.Wf → s.Reaches req 0x90_0010 4 value false → bit value 31 = true → bit hw 31 = false → Gives (.firstRearm req ⟨value, hw⟩) s (fun t => t.rd SEQ_FIRST.valid = 0 ∧ OnlyFields [SEQ_FIRST.valid] s t)) ∧
  (∀ (s : State), s.Wf → s.rd V.fnActive = 0 → s.drivesFault = false → s.rd V.fnHigh = 0 → 2 ≤ s.rd V.fnLow → Gives (.faultIn) s (fun t => t.rd V.fnActive = 1 ∧ t.rd SEQ_EVT.fault_in = 1)) ∧
  (∀ (s : State), s.Wf → s.rd V.fnActive = 1 → 10000 ≤ s.rd V.fnHigh → Gives (.faultInRelease) s (fun t => t.rd V.fnActive = 0 ∧ t.orders.holds.all (fun h => h.holder != .faultIn) = true))

/-- RAIL_ENABLE asserts the rail's enable and takes it to QUALIFY, a regulated one to SOFTSTART (R303); a rail that a survey holds off is counted as
failed there (R38). A deglitched power-good level is latched (R299). A qualified rail is GOOD and counts a cycle; one that does not come up is counted
with its cause (R301). A retried rail is enabled again (R307). Where the spec leaves a point of it open, the choices of log entries 91, 92 hold.
COMPLETION: for every state and operands that meet the conditions of its clause, which are on them alone, exec answers a next state for each of these
forms: railEnable (R303), pgChange (R299), railQualified (R301), railOnTimeout (R301), retryReenable (R307). (R299, R301, R303, R307) -/
def Obligations.RailsComeUp : Prop :=
  (∀ (s : State) (g r : Nat), s.Wf → r < 128 → s.groupOf r = g → s.enableDue r = true → s.holdsEnable r = [] → s.regOf? r = none → s.rd (V.identHold r) = 0 → Gives (.railEnable g r) s (fun t => t.rd (SEQ_RSTAT.en r) = 1 ∧ t.rd (SEQ_RSTAT.state r) = SeqS.qualify)) ∧
  (∀ (s : State) (g r q : Nat), s.Wf → r < 128 → s.groupOf r = g → s.enableDue r = true → s.holdsEnable r = [] → s.regOf? r = some q → s.rd (V.identHold r) = 0 → Gives (.railEnable g r) s (fun t => t.rd (SEQ_RSTAT.en r) = 1 ∧ t.rd (SEQ_RSTAT.state r) = SeqS.qualify ∧ t.rd (rState q) = RailS.softstart)) ∧
  (∀ (s : State) (g r : Nat), s.Wf → r < 128 → s.groupOf r = g → s.enableDue r = true → s.holdsEnable r = [] → s.rd (V.identHold r) = 1 → Gives (.railEnable g r) s (fun t => t.rd (SEQ_RFAULTS.count r) = (s.rd (SEQ_RFAULTS.count r) + 1) % 2 ^ (SEQ_RFAULTS.count r).width ∧ t.rd (SEQ_RRETRY.cause r) = 7)) ∧
  (∀ (s : State) (r : Nat), s.Wf → r < 128 → s.railPresent r = true → s.rd (V.pgSince r) ≠ 0 → s.rd (V.pgSince r) + s.rd (SEQ_RAILDIS.deglitch r) * 4000 ≤ s.boundary + 1 → Gives (.pgChange r) s (fun t => t.rd (SEQ_RSTAT.pg r) = s.rd (SEQ_RSTAT.pg_raw r) ∧ t.rd (V.pgSince r) = 0)) ∧
  (∀ (s : State) (r : Nat), s.Wf → r < 128 → (s.rd (SEQ_RSTAT.state r) = SeqS.qualify ∨ s.rd (SEQ_RSTAT.state r) = SeqS.bad) → s.qualifies r = true → s.rd (V.qualAt r) ≠ 0 → s.rd (V.qualAt r) + s.rd (SEQ_RAILQ.qual r) * 4000 ≤ s.boundary + 1 → Gives (.railQualified r) s (fun t => t.rd (SEQ_RSTAT.state r) = SeqS.good ∧ t.rd (SEQ_RCYCLES.count r) = (s.rd (SEQ_RCYCLES.count r) + 1) % 2 ^ (SEQ_RCYCLES.count r).width)) ∧
  (∀ (s : State) (r : Nat), s.Wf → r < 128 → s.rd V.pfailRun = 0 → s.rd (SEQ_RSTAT.state r) = SeqS.qualify → s.rd (SEQ_RSTAT.en r) = 1 → (s.rd (V.seqOnAt r) + s.rd (V.latOnTo r) * 400000 ≤ s.boundary + 1 ∨ s.vmonOver r = true ∨ s.tileTripped r = true ∨ s.surveyHolds r = true) → Gives (.railOnTimeout r) s (fun t => t.rd (SEQ_RFAULTS.count r) = (s.rd (SEQ_RFAULTS.count r) + 1) % 2 ^ (SEQ_RFAULTS.count r).width ∧ t.rd (SEQ_RRETRY.cause r) = (if s.surveyHolds r = true then 7 else 1))) ∧
  (∀ (s : State) (r : Nat), s.Wf → r < 128 → s.rd (SEQ_RSTAT.state r) = SeqS.retry → s.rd (V.falling r) = 0 → s.rd (V.fallenAt r) ≠ 0 → s.rd (V.fallenAt r) + 4000000 ≤ s.boundary + 1 → s.rd V.pfailRun = 0 → s.rd (V.identHold r) = 0 → Gives (.retryReenable r) s (fun t => t.rd (SEQ_RSTAT.en r) = 1 ∧ t.rd (SEQ_RSTAT.state r) = SeqS.qualify))

/-- A disabled rail falls (R304), and its ways of falling end as R305 says: OFF where its level has fallen, DISCHARGE where it has a discharge path
and has not, FAULT with its latch where it never does. A fault of a good rail is counted with its cause (R306). Where the spec leaves a point of it
open, the choices of log entries 91, 92 hold. COMPLETION: for every state and operands that meet the conditions of its clause, which are on them
alone, exec answers a next state for each of these forms: railDisable (R304), railFallen (R304), railOffTimeout (R305), railGivenUp (R305), railFault
(R306). (R304, R305, R306) -/
def Obligations.RailsGoDown : Prop :=
  (∀ (s : State) (r : Nat), s.Wf → r < 128 → s.disableDue r = true → s.holdsDisable r = [] → Gives (.railDisable r) s (fun t => t.rd (SEQ_RSTAT.en r) = 0 ∧ t.rd (SEQ_RSTAT.state r) = SeqS.falling ∧ t.rd (V.falling r) = 1)) ∧
  (∀ (s : State) (r : Nat), s.Wf → r < 128 → s.rd (V.falling r) = 1 → s.hasFallen r = true → (s.rd (SEQ_RSTAT.state r) = SeqS.falling ∨ s.rd (SEQ_RSTAT.state r) = SeqS.discharge) → Gives (.railFallen r) s (fun t => t.rd (V.falling r) = 0 ∧ t.rd (SEQ_RSTAT.state r) = SeqS.off)) ∧
  (∀ (s : State) (r : Nat), s.Wf → r < 128 → s.rd (V.falling r) = 1 → s.hasFallen r = false → s.rd (V.disNeed r) = 0 → bit (s.rd (SEQ_RAILMODE.flags r)) 3 = true → s.offFor r (s.rd (V.latOffTo r)) = true → s.rd (SEQ_RSTAT.state r) = SeqS.falling → Gives (.railOffTimeout r) s (fun t => t.rd (V.disNeed r) = 1 ∧ t.rd (SEQ_RSTAT.state r) = SeqS.discharge ∧ OnlyFields [V.disNeed r, SEQ_RSTAT.state r] s t)) ∧
  (∀ (s : State) (r : Nat), s.Wf → r < 128 → s.rd V.pfailRun = 0 → s.rd (V.falling r) = 1 → s.hasFallen r = false → s.offFor r (s.rd (V.latOffTo r) + (if bit (s.rd (SEQ_RAILMODE.flags r)) 3 then s.rd (V.latDisTo r) else 0)) = true → Gives (.railGivenUp r) s (fun t => t.rd (SEQ_RSTAT.state r) = SeqS.fault ∧ bit (t.rd (SEQ_FAULTMAP.latch (r / 32))) (r % 32) = true)) ∧
  (∀ (s : State) (r : Nat), s.Wf → r < 128 → s.rd V.pfailRun = 0 → s.rd (SEQ_RSTAT.state r) = SeqS.good → s.rd (SEQ_RSTAT.en r) = 1 → s.railFaultCause r ≠ 0 → Gives (.railFault r) s (fun t => t.rd (SEQ_RFAULTS.count r) = (s.rd (SEQ_RFAULTS.count r) + 1) % 2 ^ (SEQ_RFAULTS.count r).width ∧ t.rd (SEQ_RRETRY.cause r) = s.railFaultCause r))

/-- A channel whose gate has settled is ON with power-good (R329); one that reaches its limit regulates in LIMIT (R330); a fold that lasts or heats
too long, and a comparator, trip it with their cause and latch (R328, R330, R331), a damaged channel staying DAMAGED (R334); the trip's orders go out
at the next boundary, unless its latch has cleared by then (R333); a clear takes the latch away (R332); a channel shown damaged is DAMAGED (R334).
Where the spec leaves a point of it open, the choices of log entries 95, 98, 99 hold. COMPLETION: for every state and operands that meet the
conditions of its clause, which are on them alone, exec answers a next state for each of these forms: inrushTrip (R328), limitTrip (R330), channelOn
(R329), channelLimit (R330), fastTrip (R331), reverseTrip (R331), tripProtectOrders (R333), tripClear (R332), damageDetect (R334). (R328, R329, R330,
R331, R332, R333, R334) -/
def Obligations.FeedChannelCommandsTakeEffect : Prop :=
  (∀ (s : State) (c : Nat), s.Wf → c < 16 → s.fed c = FedS.inrush → s.foldTrip c ≠ 0 → Gives (.inrushTrip c) s (fun t => t.fed c = FedS.tripped ∧ t.rd (FED_CHSTAT.cause c) = s.foldTrip c ∧ bit (t.rd FED_TRIPMAP.latch) c = true)) ∧
  (∀ (s : State) (c : Nat), s.Wf → c < 16 → s.fed c = FedS.limit → s.foldTrip c ≠ 0 → Gives (.limitTrip c) s (fun t => t.fed c = FedS.tripped ∧ t.rd (FED_CHSTAT.cause c) = s.foldTrip c ∧ bit (t.rd FED_TRIPMAP.latch) c = true)) ∧
  (∀ (s : State) (c : Nat), s.Wf → c < 16 → (s.fed c = FedS.inrush ∨ (s.fed c = FedS.limit ∧ 16 * s.fedAmps c < 240 * s.rd (FED_CHLIM.i_lim c))) → s.rd (V.fedOkAt c) ≠ 0 → s.rd (V.fedOkAt c) + 400000 ≤ s.now + 1 → Gives (.channelOn c) s (fun t => t.fed c = FedS.on ∧ t.rd (FED_CHSTAT.pg c) = 1)) ∧
  (∀ (s : State) (c : Nat), s.Wf → c < 16 → s.fed c = FedS.on → (s.rd (V.limitHit c) = 1 ∨ s.atLimit c = true) → Gives (.channelLimit c) s (fun t => t.fed c = FedS.limit ∧ t.rd (FED_CHSTAT.pg c) = 0 ∧ t.rd (FED_CHE.e c) = 0)) ∧
  (∀ (s : State) (c dt : Nat) (i : Int), s.Wf → c < 16 → (s.fed c = FedS.inrush ∨ s.fed c = FedS.on ∨ s.fed c = FedS.limit) → 16 * s.rd (FED_CHLIM.i_fast c) ≤ i.natAbs → Gives (.fastTrip c dt i) s (fun t => t.fed c = FedS.tripped ∧ t.rd (FED_CHSTAT.cause c) = 1 ∧ bit (t.rd FED_TRIPMAP.latch) c = true)) ∧
  (∀ (s : State) (c dt : Nat) (i : Int), s.Wf → c < 2 → (s.fed c = FedS.inrush ∨ s.fed c = FedS.on ∨ s.fed c = FedS.limit) → i ≤ -((16 * s.rd (FED_CHREV.i_rev c) : Nat) : Int) → Gives (.reverseTrip c dt i) s (fun t => t.fed c = FedS.tripped ∧ t.rd (FED_CHSTAT.cause c) = 4 ∧ bit (t.rd FED_TRIPMAP.latch) c = true)) ∧
  (∀ (s : State) (c b sc : Nat), s.Wf → c < 16 → s.rd (V.tripDue c) = 1 → boundaryOf (s.rd (V.tripAt c) - 1) ≤ s.boundary → s.fedTarget? c = some (b, sc) → bit (s.rd FED_TRIPMAP.latch) c = true → Gives (.tripProtectOrders c) s (fun t => t.rd (V.tripDue c) = 0 ∧ ⟨.feedTrip c, b, 0, sc, 0⟩ ∈ t.orders.holds)) ∧
  (∀ (s : State) (req value c hw : Nat), s.Wf → s.Reaches req 0xA0_0030 4 value false → c < 16 → bit value c = true → bit hw c = false → Gives (.tripClear req ⟨value, hw⟩) s (fun t => bit (t.rd FED_TRIPMAP.latch) c = false)) ∧
  (∀ (s : State) (c : Nat), s.Wf → c < 16 → s.damageCode c ≠ 0 → Gives (.damageDetect c) s (fun t => t.fed c = FedS.damaged ∧ bit (t.rd FED_DMGMAP.dmg) c = true)) ∧
  (∀ (s : State) (c dt : Nat) (i : Int), s.Wf → c < 16 → s.fed c = FedS.damaged → bit (s.rd FED_TRIPMAP.latch) c = false → 16 * s.rd (FED_CHLIM.i_fast c) ≤ i.natAbs → Gives (.fastTrip c dt i) s (fun t => t.fed c = FedS.damaged ∧ t.rd (FED_CHSTAT.cause c) = 1 ∧ bit (t.rd FED_TRIPMAP.latch) c = true)) ∧
  (∀ (s : State) (c : Nat), s.Wf → c < 16 → s.rd (V.tripDue c) = 1 → boundaryOf (s.rd (V.tripAt c) - 1) ≤ s.boundary → bit (s.rd FED_TRIPMAP.latch) c = false → Gives (.tripProtectOrders c) s (fun t => t.rd (V.tripDue c) = 0 ∧ t.orders = s.orders ∧ Raised Ty.PROTECT_TRIP t))

/-- A feed fit for its qualification time is usable, and is chosen where none is selected and it is the primary or the only one that qualifies (R336);
one that is lost is not (R336); a revert waits for a clear boundary (R337); after the dead time the usable new feed is in INRUSH (R337); the hold of
P_in ends 10 ticks after the new feed is ON (R339). Where the spec leaves a point of it open, the choices of log entries 96, 97 hold. COMPLETION: for
every state and operands that meet the conditions of its clause, which are on them alone, exec answers a next state for each of these forms:
feedUsable (R336), feedUnusable (R336), feedRevert (R337), newFeedInrush (R337), pinHoldEnd (R339). (R336, R337, R339) -/
def Obligations.FeedSelectionCommandsTakeEffect : Prop :=
  (∀ (s : State) (f : Nat), s.Wf → f < 2 → s.rd (feedUsable f) = 0 → s.feedFit f = true → s.rd (V.vinInAt f) ≠ 0 → s.rd (V.vinInAt f) + s.rd (FED_FEEDQ.qual f) * 4000000 ≤ s.now + 1 → Gives (.feedUsable f) s (fun t => t.rd (feedUsable f) = 1 ∧ (s.rd FED_SELSTAT.sel = selNone → (s.rd FED_SELCFG.primary = f ∨ (s.rd (feedUsable (1 - f)) = 0 ∧ s.feedQualifies (1 - f) = false)) → t.rd FED_SELSTAT.sel = f ∧ t.fed f = FedS.inrush))) ∧
  (∀ (s : State) (f : Nat), s.Wf → f < 2 → s.rd (feedUsable f) = 1 → (s.feedFit f = false ∨ s.vinLost f = true) → Gives (.feedUnusable f) s (fun t => t.rd (feedUsable f) = 0)) ∧
  (∀ (s : State), s.Wf → s.rd FED_SELCFG.revert = 1 → s.rd FED_SELSTAT.sel = 1 - s.rd FED_SELCFG.primary → s.rd (feedUsable (s.rd FED_SELCFG.primary)) = 1 → s.rd V.swPhase = 0 → s.rd V.swPend = 0 → s.rd (V.usableAt (s.rd FED_SELCFG.primary)) ≠ 0 → s.rd (V.usableAt (s.rd FED_SELCFG.primary)) + s.rd FED_SELCFG.ret * 4000000000 ≤ s.now + 1 → Gives (.feedRevert) s (fun t => t.rd V.swPend = 2 ∧ OnlyFields [V.swPend] s t)) ∧
  (∀ (s : State), s.Wf → s.rd V.swPhase = 1 → s.rd V.pfailRun = 0 → s.rd V.swOld < 2 → s.rd V.swT0 + (s.judgeTime + s.rd FED_SELCFG.dead) * 4000 ≤ s.now + 1 → s.oldFeedOn = false → s.rd (feedUsable (1 - s.rd V.swOld)) = 1 → Gives (.newFeedInrush) s (fun t => t.rd V.swPhase = 2 ∧ t.fed (1 - s.rd V.swOld) = FedS.inrush)) ∧
  (∀ (s : State), s.Wf → s.rd FED_SELSTAT.hold = 1 → s.rd V.swPhase = 0 → s.rd V.swOnAt ≠ 0 → s.rd V.swOnAt + 40000 ≤ s.now + 1 → Gives (.pinHoldEnd) s (fun t => t.rd FED_SELSTAT.hold = 0 ∧ OnlyFields [FED_SELSTAT.hold, V.swOnAt] s t))

/-- The device's level follows its conversions (R349); a broken diode is marked, and after the grace of R350 shutdown is due; shutdown starts the
power-down of R316; with the reset cause latched (R352, R557); 1 ms later the planes are held, and the latched cause stands (R352). Where the spec
leaves a point of it open, the choices of log entry 101 hold. COMPLETION: for every state and operands that meet the conditions of its clause, which
are on them alone, exec answers a next state for each of these forms: devTempLevel (R349), diodeBroken (R348), diodeGraceExpire (R350),
thermalShutdown (R352), thermalHardReset (R352). (R349, R350, R352) -/
def Obligations.DeviceTemperatureCommandsTakeEffect : Prop :=
  (∀ (s : State), s.Wf → s.rd (V.planeHeld 0) = 0 → s.rd (diodeBad (s.rd THM_DEVSTAT.sel)) = 0 → s.devLevel ≠ s.rd THM_DEVSTAT.level → Gives (.devTempLevel) s (fun t => t.rd THM_DEVSTAT.level = s.devLevel)) ∧
  (∀ (s : State) (d : Nat), s.Wf → d < 2 → s.rd (V.dioBad d) = 2 → s.rd (diodeBad d) = 0 → Gives (.diodeBroken d) s (fun t => t.rd (diodeBad d) = 1 ∧ t.rd (diodeT d) = 0x7FFF)) ∧
  (∀ (s : State), s.Wf → s.rd (diodeBad (s.rd THM_DEVSTAT.sel)) = 1 → s.rd V.graceAt ≠ 0 → s.rd V.graceAt + s.rd THM_DEVCFG.grace * 4000000000 ≤ s.now + 1 → Gives (.diodeGraceExpire) s (fun t => t.rd V.shutDue = 1 ∧ t.rd V.graceAt = 0 ∧ Raised Ty.DEV_TEMP t ∧ OnlyFields [V.shutDue, V.graceAt] s t)) ∧
  (∀ (s : State), s.Wf → s.rd V.thermAt = 0 → s.rd V.thermHold = 0 → s.thermalDue = true → Gives (.thermalShutdown) s (fun t => t.rd V.thermAt = (s.now + 1) % 2 ^ V.thermAt.width ∧ t.rd CRP_CAUSE.cold = (if s.rd V.pfAt = 0 then 3 else 2) ∧ (s.rd (V.planeHeld 0) = 0 → t.rd V.pfailRun ≠ 0))) ∧
  (∀ (s : State), s.Wf → s.rd V.thermAt ≠ 0 → s.rd V.thermAt - 1 + 4000000 ≤ s.now + s.rd V.thermGone → Gives (.thermalHardReset) s (fun t => t.rd CRP_CAUSE.cold = s.rd CRP_CAUSE.cold ∧ t.rd V.thermHold = 1 ∧ t.rd (V.planeHeld 0) = 1))

/-- An open input reads 150 degrees and is recorded (R354); a lost map is marked (R355); a thermal ceiling steps (R357); a cool latch clears (R358); a
kicked fan runs, a slow one stalls, a stalled one is kicked again (R362). Where the spec leaves a point of it open, the choices of log entries 100,
102 hold. COMPLETION: for every state and operands that meet the conditions of its clause, which are on them alone, exec answers a next state for each
of these forms: tempInputFault (R354), mapLost (R355), thermalCeilingStep (R357), tlatchClear (R358), fanKickEnd (R362), fanStall (R362), fanRetry
(R362). (R354, R355, R357, R358, R362) -/
def Obligations.BoardTemperaturesAndFans : Prop :=
  (∀ (s : State) (i : Nat), s.Wf → i < 16 → s.rd (THM_EXTCFG.en i) = 1 → s.inputOpen i = true → s.rd (THM_EXTT.open_ i) = 0 → Gives (.tempInputFault i) s (fun t => t.rd (THM_EXTT.t i) = 9600 ∧ t.rd (THM_EXTT.open_ i) = 1 ∧ Raised Ty.TEMP_LIMIT t)) ∧
  (∀ (s : State) (n : Nat), s.Wf → n < 8 → s.rd THM_CTL.map_en = 1 → s.rd (THM_MAPT.lost n) = 0 → s.rd (V.mapMissing n) = 1000 → s.rd (rState n) = RailS.regulating → Gives (.mapLost n) s (fun t => t.rd (THM_MAPT.lost n) = 1 ∧ t.rd THM_EVT.map_lost = 1)) ∧
  (∀ (s : State) (n c : Nat), s.Wf → n < 8 → s.ceilStep n = some c → Gives (.thermalCeilingStep n) s (fun t => t.rd (THM_CEIL.ceil n) = c % 256)) ∧
  (∀ (s : State) (req value i hw : Nat), s.Wf → s.Reaches req 0xB0_0028 4 value false → i < 16 → bit value i = true → bit hw i = false → (s.limCrit i = 0 ∨ s.srcUsed i = false ∨ s.srcTemp i + (64 * s.limHys i : Nat) ≤ (64 * s.limCrit i : Nat)) → Gives (.tlatchClear req ⟨value, hw⟩) s (fun t => bit (t.rd THM_TLATCH.ext) i = false)) ∧
  (∀ (s : State) (f a : Nat), s.Wf → f < 20 → s.zoneOf? f = some a → s.rd (THM_CHSTAT.state f) = FanS.kick → s.zStall a ≤ s.rd (THM_CHSTAT.rpm f) → Gives (.fanKickEnd f) s (fun t => t.rd (THM_CHSTAT.state f) = FanS.run ∧ t.rd (V.fanNext f) = s.fanDrive f a FanS.run (s.rd (THM_CHDUTY.demand f)) % 2 ^ (V.fanNext f).width)) ∧
  (∀ (s : State) (f a : Nat), s.Wf → f < 20 → s.zoneOf? f = some a → s.rd (THM_CHSTAT.state f) = FanS.run → s.rd (V.slowAt f) ≠ 0 → s.rd (V.slowAt f) + 4000000000 ≤ s.now + 1 → Gives (.fanStall f) s (fun t => t.rd (THM_CHSTAT.state f) = FanS.stalled ∧ t.rd (V.fanNext f) = 0 ∧ t.rd THM_EVT.stall = 1)) ∧
  (∀ (s : State) (f a : Nat), s.Wf → f < 20 → s.zoneOf? f = some a → s.rd (THM_CHSTAT.state f) = FanS.stalled → s.fanFor f (s.zRetry a) = true → s.rd (THM_CHDUTY.demand f) ≠ 0 → Gives (.fanRetry f) s (fun t => t.rd (THM_CHSTAT.state f) = FanS.kick ∧ t.rd (V.fanNext f) = s.fanDrive f a FanS.kick 0 % 2 ^ (V.fanNext f).width))

/-- A flow window gives each input's rate, and a low flow stops its zone's slots (R364). A wet or open leak input latches (R365), and a dry one can be
cleared (R366). Where the spec leaves a point of it open, the choices of log entries 103, 104, 217 hold. COMPLETION: for every state and operands that
meet the conditions of its clause, which are on them alone, exec answers a next state for each of these forms: flowWindow (R364), flowPowerOff (R364),
leakWet (R365), leakOpen (R365), leakmapClear (R366). (R364, R365, R366) -/
def Obligations.FlowAndLeaks : Prop :=
  (∀ (s : State) (i : Nat), s.Wf → i < 8 → s.rd V.flowSecond < s.now / 4000000000 → Gives (.flowWindow) s (fun t => t.rd (THM_FLOW.rate i) = min 0xFFFF (s.rd (V.flowCnt i)) ∧ t.rd (V.flowCnt i) = 0)) ∧
  (∀ (s : State) (z a : Nat), s.Wf → z < 8 → s.fanItems.find? (fun a => s.zNum a == z) = some a → s.rd (THM_ZCFG.flow_act z) = 1 → bit (s.rd THM_FLOWLOW.zones) z = true → s.rd (V.flowOff z) = 0 → s.rd (V.flowLowAt z) ≠ 0 → s.rd (V.flowLowAt z) + s.rd (THM_ZCFG.flow_to z) * 4000000000 ≤ s.now + 1 → Gives (.flowPowerOff z) s (fun t => t.rd (V.flowOff z) = 1 ∧ ∀ n ∈ bitsOf 8 (s.zSlots a), ⟨.flow z, Blk.seq, Tgt.groupPwr, n, 0⟩ ∈ t.orders.holds)) ∧
  (∀ (s : State) (i : Nat), s.Wf → i < 8 → s.rd (V.wetAt i) ≠ 0 → s.rd (V.wetAt i) + 400000000 ≤ s.now + 1 → bit (s.rd THM_LEAKMAP.wet) i = false → Gives (.leakWet i) s (fun t => bit (t.rd THM_LEAKMAP.latch) i = true ∧ bit (t.rd THM_LEAKMAP.wet) i = true ∧ t.rd THM_EVT.leak = 1)) ∧
  (∀ (s : State) (i : Nat), s.Wf → i < 8 → s.rd (V.openAt i) ≠ 0 → s.rd (V.openAt i) + 4000000000 ≤ s.now + 1 → bit (s.rd THM_LEAKMAP.open_) i = false → Gives (.leakOpen i) s (fun t => bit (t.rd THM_LEAKMAP.latch) i = true ∧ bit (t.rd THM_LEAKMAP.open_) i = true ∧ t.rd THM_EVT.leak = 1)) ∧
  (∀ (s : State) (req value i hw : Nat), s.Wf → s.Reaches req 0xB0_0024 4 value false → i < 8 → bit value i = true → bit hw i = false → s.rd (Sig.leak i) = 0 → Gives (.leakmapClear req ⟨value, hw⟩) s (fun t => bit (t.rd THM_LEAKMAP.latch) i = false))

/-- A presence or alert level that has stood its time changes the slot's status (R379); the loss of an accelerator asserts its reset; the release of a
reset whose gates all hold clears it, counts a boot and starts the boot watchdog (R381, R389); a strap write is taken (R382); a boot that times out
asserts the reset and counts a failed attempt (R389). Where the spec leaves a point of it open, the choices of log entry 108 hold. COMPLETION: for
every state and operands that meet the conditions of its clause, which are on them alone, exec answers a next state for each of these forms:
presenceChange (R379), alertChange (R379), accResetRelease (R381), strapWrite (R382), bootTimeout (R389). (R379, R381, R382, R389) -/
def Obligations.ResetGateCommandsTakeEffect : Prop :=
  (∀ (s : State) (n : Nat), s.Wf → n < 8 → s.rd (ACU_SSTAT.present n) = 0 → s.stood (V.prsAt n) 40000000 = true → Gives (.presenceChange n) s (fun t => t.rd (ACU_SSTAT.present n) = 1 ∧ t.rd ACU_EVT.present = 1 ∧ Raised Ty.ACC_PRESENT t)) ∧
  (∀ (s : State) (n : Nat), s.Wf → n < 8 → s.rd (ACU_SSTAT.present n) = 1 → s.stood (V.prsOffAt n) 40000000 = true → Gives (.presenceChange n) s (fun t => t.rd (ACU_SSTAT.present n) = 0 ∧ t.rd (ACU_SSTAT.rst n) = 1 ∧ t.rd (ACU_CMDSTAT.busy n) = 0)) ∧
  (∀ (s : State) (n : Nat), s.Wf → n < 8 → s.rd (ACU_SSTAT.alert n) = 0 → s.stood (V.alertAt n) 4000000 = true → Gives (.alertChange n) s (fun t => t.rd (ACU_SSTAT.alert n) = 1 ∧ t.rd ACU_EVT.alert = 1 ∧ (s.rd (ACU_SBOOT.alert_act n) = 1 → t.rd (ACU_SSTAT.rst n) = 1))) ∧
  (∀ (s : State) (n : Nat), s.Wf → n < 8 → s.rd (ACU_SSTAT.alert n) = 1 → s.stood (V.alertOffAt n) 4000000 = true → Gives (.alertChange n) s (fun t => t.rd (ACU_SSTAT.alert n) = 0 ∧ Raised Ty.ACC_ALERT t ∧ OnlyFields [ACU_SSTAT.alert n] s t)) ∧
  (∀ (s : State) (n : Nat), s.Wf → n < 8 → s.rd (ACU_SSTAT.rst n) = 1 → s.gatesHold n = true → Gives (.accResetRelease n) s (fun t => t.rd (ACU_SSTAT.rst n) = 0 ∧ t.rd (ACU_BOOTS.count n) = (s.rd (ACU_BOOTS.count n) + 1) % 2 ^ 32 ∧ t.rd (V.bootAt n) = (s.boundary + 1) % 2 ^ 64 ∧ Raised Ty.ACC_RESET t ∧ OnlyFields [ACU_SSTAT.rst n, ACU_BOOTS.count n, ACU_RELT.stamp n, V.bootAt n, ACU_EVT.reset] s t)) ∧
  (∀ (s : State) (req n value : Nat), s.Wf → n < 8 → s.Reaches req (0xC0_1000 + 0x100 * n) 4 value false → Gives (.strapWrite req n value) s (fun t => t.rd (ACU_SCFG.strap n) = bits value 0 8 ∧ t.rd (ACU_SCFG.boot n) = bits value 16 2 ∧ (s.rd (ACU_SSTAT.rst n) = 1 → t.rd (V.strapOut n) = bits value 0 8 ∧ t.rd (V.bootOut n) = bits value 16 2) ∧ OnlyFields [ACU_SCFG.strap n, ACU_SCFG.boot n, V.strapOut n, V.bootOut n, V.strapAt n] s t)) ∧
  (∀ (s : State) (n : Nat), s.Wf → n < 8 → s.rd (ACU_SSTAT.rst n) = 0 → s.rd (V.bootAt n) ≠ 0 → s.rd (V.bootAt n) - 1 + 4000000 * s.rd (ACU_SBOOT.boot_to n) ≤ s.boundary → Gives (.bootTimeout n) s (fun t => t.rd (ACU_SSTAT.rst n) = 1 ∧ t.rd (V.bootAt n) = 0 ∧ t.rd ACU_EVT.boot = 1 ∧ (s.rd (ACU_SSTAT.attempts n) + 1 < s.rd (ACU_SBOOT.boot_retries n) → t.rd (ACU_SSTAT.attempts n) = s.rd (ACU_SSTAT.attempts n) + 1)))

/-- An operation that nothing refuses takes or keeps the flash and runs (R384, R386); RELEASE gives the flash back and CLEAR ends BOOT_FAILED and the
attempts (R386, R389); an operation that ends shows its code and, with keep clear, gives the flash back (R386); the engine starts by itself the verify
it owes a slot (R388). Where the spec leaves a point of it open, the choices of log entries 106, 107, 109, 213 hold. COMPLETION: for every state and
operands that meet the conditions of its clause, which are on them alone, exec answers a next state for each of these forms: readId (R383), verify
(R386), check (R386), reflash (R386), release (R384), clear (R386), custodyOpDone (R383), custodyAuto (R388). (R384, R386, R388, R389) -/
def Obligations.CustodyOperationsTakeEffect : Prop :=
  (∀ (s : State) (req n keep : Nat), s.Wf → n < 8 → s.Reaches req (0xC0_100C + 0x100 * n) 4 (CusOp.readId + keep % 2 * 128 + 0 % 2 * 256) false → s.custodyRefusal n CusOp.readId = 0 → Gives (.readId req n keep) s (fun t => t.rd (ACU_CMDSTAT.busy n) = 1 ∧ t.rd (ACU_CMDSTAT.op n) = CusOp.readId ∧ t.rd (ACU_SSTAT.owned n) = 1)) ∧
  (∀ (s : State) (req n keep : Nat), s.Wf → n < 8 → s.Reaches req (0xC0_100C + 0x100 * n) 4 (CusOp.verify + keep % 2 * 128 + 0 % 2 * 256) false → s.custodyRefusal n CusOp.verify = 0 → Gives (.verify req n keep) s (fun t => t.rd (ACU_CMDSTAT.busy n) = 1 ∧ t.rd (ACU_CMDSTAT.op n) = CusOp.verify ∧ t.rd (ACU_SSTAT.owned n) = 1)) ∧
  (∀ (s : State) (req n keep : Nat), s.Wf → n < 8 → s.Reaches req (0xC0_100C + 0x100 * n) 4 (CusOp.check + keep % 2 * 128 + 0 % 2 * 256) false → s.custodyRefusal n CusOp.check = 0 → Gives (.check req n keep) s (fun t => t.rd (ACU_CMDSTAT.busy n) = 1 ∧ t.rd (ACU_CMDSTAT.op n) = CusOp.check ∧ t.rd (ACU_SSTAT.owned n) = 1)) ∧
  (∀ (s : State) (req n keep skip : Nat), s.Wf → n < 8 → s.Reaches req (0xC0_100C + 0x100 * n) 4 (CusOp.reflash + keep % 2 * 128 + skip % 2 * 256) false → s.custodyRefusal n CusOp.reflash = 0 → Gives (.reflash req n keep skip) s (fun t => t.rd (ACU_CMDSTAT.busy n) = 1 ∧ t.rd (ACU_CMDSTAT.op n) = CusOp.reflash ∧ t.rd (ACU_SSTAT.owned n) = 1 ∧ t.rd (V.matched n) = 0)) ∧
  (∀ (s : State) (req n : Nat), s.Wf → n < 8 → s.Reaches req (0xC0_100C + 0x100 * n) 4 (CusOp.release + 0 % 2 * 128 + 0 % 2 * 256) false → s.rd (ACU_CMDSTAT.busy n) = 0 → Gives (.release req n) s (fun t => t.rd (ACU_SSTAT.owned n) = 0 ∧ t.rd (ACU_CMDSTAT.op n) = CusOp.release ∧ t.rd (ACU_CMDSTAT.code n) = 0)) ∧
  (∀ (s : State) (req n : Nat), s.Wf → n < 8 → s.Reaches req (0xC0_100C + 0x100 * n) 4 (CusOp.clear + 0 % 2 * 128 + 0 % 2 * 256) false → s.rd (ACU_CMDSTAT.busy n) = 0 → Gives (.clear req n) s (fun t => t.rd (ACU_SSTAT.attempts n) = 0 ∧ t.rd (V.bootFailed n) = 0 ∧ t.rd (ACU_CMDSTAT.op n) = CusOp.clear ∧ t.rd (ACU_CMDSTAT.code n) = 0)) ∧
  (∀ (s : State) (n id kib unit err bytes : Nat), s.Wf → n < 8 → s.rd (ACU_CMDSTAT.busy n) = 1 → errPossible (s.rd (V.cusOp n)) err = true → s.rd (V.cusAuto n) = 0 → s.rd (V.cusKeep n) = 0 → Gives (.custodyOpDone n id kib unit err bytes) s (fun t => t.rd (ACU_CMDSTAT.busy n) = 0 ∧ t.rd (ACU_SSTAT.owned n) = 0 ∧ t.rd (ACU_CMDSTAT.code n) = (s.custodyResult n kib err).1 % 2 ^ (ACU_CMDSTAT.code n).width)) ∧
  (∀ (s : State) (n : Nat), s.Wf → n < 8 → s.autoDue n = true → s.rd (V.cusOwed n) = 1 → s.custodyRefusal n CusOp.verify = 0 → Gives (.custodyAuto n) s (fun t => t.rd (ACU_CMDSTAT.busy n) = 1 ∧ t.rd (ACU_CMDSTAT.op n) = CusOp.verify ∧ t.rd (V.cusOwed n) = 0 ∧ t.rd (V.cusAuto n) = 1))

/-- A load with no transaction live is LOADING with its length (R254); its end is VERIFIED where every check of R255 passes and FAILED otherwise; a
discard leaves the image store EMPTY (R264). Where the spec leaves a point of it open, the choices of log entries 112, 113, 114 hold. COMPLETION: for
every state and operands that meet the conditions of its clause, which are on them alone, exec answers a next state for each of these forms: imageLoad
(R254), loadDone (R254), loadDiscard (R264). (R254, R255, R264) -/
def Obligations.ImageLoadCommandsTakeEffect : Prop :=
  (∀ (s : State) (req : Nat), s.Wf → s.Reaches req 0x60_004C 4 1 true → s.txBusy = false → Gives (.imageLoad req) s (fun t => t.rd FAB_STAT.load = LoadS.loading ∧ t.rd V.loadLen = s.rd FAB_LOADLEN.len % 2 ^ V.loadLen.width)) ∧
  (∀ (s : State), s.Wf → s.rd FAB_STAT.load = LoadS.loading → Gives (.loadDone) s (fun t => t.rd FAB_STAT.load = (if ((s.imageBad s.idleImg (s.rd V.loadLen)).or (failIf 12 (s.on V.loadUe))).isNone then LoadS.verified else LoadS.failed) ∧ t.mem = s.mem)) ∧
  (∀ (s : State) (req : Nat), s.Wf → s.Reaches req 0x60_004C 4 2 true → Gives (.loadDiscard req) s (fun t => t.rd FAB_STAT.load = LoadS.empty ∧ OnlyFields [FAB_STAT.load] s t))

/-- When the gated keeper's checks pass its outputs are released and it runs (R405). When one fails nothing that it wrote takes effect, and the ROM
starts the next slot gated or waits for an image (R403, R405, R407). A core whose physical core is fit is released (R408). Locks are set and never
cleared by a write (R400). The golden copies' checks end once (R431). Where the spec leaves a point of it open, the choices of log entries 116, 119
hold. COMPLETION: for every state and operands that meet the conditions of its clause, which are on them alone, exec answers a next state for each of
these forms: keeperChecksPass (R405), imageReject (R403), coreRelease (R408), keylock (R400), goldenCheckDone (R431). (R400, R403, R405, R407, R408,
R431) -/
def Obligations.KeeperCommandsTakeEffect : Prop :=
  (∀ (s : State), s.Wf → s.rd KPR_GQUEUE.gated = 1 → s.rd KPR_BOOT.stage = Stage.gated → bit (s.rd MEM_STAT.wipe) 4 = false → s.rd CRP_PFSTAT.warn = 0 → s.gq = [] → Gives (.keeperChecksPass) s (fun t => s.fwBody 0 s.keeperPlace = 0 → t.rd KPR_GQUEUE.gated = 0 ∧ t.gq = [] ∧ t.rd KPR_BOOT.stage = Stage.running ∧ t.rd HIF_CTL.cfg_ready = 1)) ∧
  (∀ (s : State) (readErr : Bool), s.Wf → s.rd KPR_GQUEUE.gated = 1 → s.rd KPR_BOOT.stage = Stage.gated → (readErr = true ∨ s.fwBody 0 s.keeperPlace ≠ 0) → Gives (.imageReject readErr) s (fun t => t.gq = [] ∧ ((t.rd KPR_BOOT.stage = Stage.gated ∧ t.rd KPR_GQUEUE.gated = 1) ∨ (t.rd KPR_BOOT.stage = Stage.waiting ∧ t.rd KPR_GQUEUE.gated = 0)))) ∧
  (∀ (s : State) (req value n : Nat), s.Wf → s.Reaches req 0xD0_1000 4 value true → 1 ≤ n → n ≤ 4 → bit value n = true → s.coreFit n = true → Gives (.coreRelease req value) s (fun t => bit (t.rd KPR_CORES.released) n = true)) ∧
  (∀ (s : State) (req value : Nat), s.Wf → s.Reaches req 0xD0_1044 4 value true → Gives (.keylock req value) s (fun t => t.rd KPR_KEYLOCK.ds_read = max (s.rd KPR_KEYLOCK.ds_read) (bits value 0 1) ∧ t.rd KPR_KEYLOCK.stor_use = max (s.rd KPR_KEYLOCK.stor_use) (bits value 1 1) ∧ t.rd KPR_KEYLOCK.att_use = max (s.rd KPR_KEYLOCK.att_use) (bits value 2 1) ∧ t.rd KPR_KEYLOCK.all_use = max (s.rd KPR_KEYLOCK.all_use) (bits value 3 1) ∧ OnlyFields [KPR_KEYLOCK.ds_read, KPR_KEYLOCK.stor_use, KPR_KEYLOCK.att_use, KPR_KEYLOCK.all_use] s t)) ∧
  (∀ (s : State) (bad : List Nat), s.Wf → s.rd KPR_BOOT.stage = Stage.services → s.rd V.goldDone = 0 → s.rd (V.planeHeld 3) = 0 → Gives (.goldenCheckDone bad) s (fun t => t.rd V.goldDone = 1 ∧ t.mem = s.mem))

/-- STAGE of an image that the caller may read, with a slot free and nothing under way, checks it: an image that passes is being written and the call
answers 0, one that fails is answered 5 with its code (R435, R436). ACTIVATE answers 0 for a VERIFIED slot and 3 for another. CONFIRM answers 3 where
the newest ACTIVE slot is not in use, else 0. ABANDON answers 0. Each answer names the call, counts it and takes it from the pending ones (R411). The
write ends (R436), and a compaction turns to the other ledger half, in which the standing records stand (R426). Where the spec leaves a point of it
open, the choices of log entries 121, 123, 211 hold. COMPLETION: for every state and operands that meet the conditions of its clause, which are on
them alone, exec answers a next state for each of these forms: stage (R411), activate (R411), confirm (R411), abandon (R411), stageDone (R436),
ledgerCompact (R426). (R411, R426, R435, R436) -/
def Obligations.ImageStageCallsTakeEffect : Prop :=
  (∀ (s : State) (core : Nat), s.Wf → s.serving = true → s.nextCall = some core → s.gateCode core = 2 → s.gateArg core 8 1 = 1 → (s.stageReq core).ok = true → s.storeOpen = true → (s.stageReq core).len ≤ imageMax (s.stageReq core).kind → s.callerReads core (s.stageReq core).addr (s.stageReq core).len = true → (s.stageTarget (s.stageReq core)).isSome = true → s.rd IMG_STAT.busy = 0 → s.rd CRP_PFSTAT.warn = 0 → s.num (memPlace (s.stageReq core).addr) 16 4 = (s.stageReq core).len → Gives (.stage core) s (fun t => (s.fullCheck (s.stageReq core).kind (memPlace (s.stageReq core).addr) (s.stageReq core).len = 0 → (s.stageReq core).kind ≠ 3 → t.rd KPR_GATESTAT.status = GateS.done ∧ t.rd IMG_STAT.busy = 1 ∧ t.rd IMG_STAT.step = 3) ∧ (s.fullCheck (s.stageReq core).kind (memPlace (s.stageReq core).addr) (s.stageReq core).len ≠ 0 → t.rd KPR_GATESTAT.status = GateS.checkFailed ∧ t.rd IMG_STAT.busy = 0) ∧ t.rd KPR_GATESTAT.call = 2 ∧ t.rd KPR_GATESTAT.served = (s.rd KPR_GATESTAT.served + 1) % 2 ^ KPR_GATESTAT.served.width ∧ bit (t.rd KPR_GATEPEND.pend) (core - 1) = false)) ∧
  (∀ (s : State) (core : Nat), s.Wf → s.serving = true → s.nextCall = some core → s.gateCode core = 2 → s.gateArg core 8 1 = 2 → (s.stageReq core).ok = true → s.storeOpen = true → (s.stageTarget (s.stageReq core)).isSome = true → s.rd CRP_PFSTAT.warn = 0 → Gives (.activate core) s (fun t => (∀ x, s.stageTarget (s.stageReq core) = some x → t.rd KPR_GATESTAT.status = (if (s.reqItem (s.stageReq core) x).state = ImgS.verified then GateS.done else GateS.notNow)) ∧ t.rd KPR_GATESTAT.call = 2 ∧ t.rd KPR_GATESTAT.served = (s.rd KPR_GATESTAT.served + 1) % 2 ^ KPR_GATESTAT.served.width ∧ bit (t.rd KPR_GATEPEND.pend) (core - 1) = false)) ∧
  (∀ (s : State) (core : Nat), s.Wf → s.serving = true → s.nextCall = some core → s.gateCode core = 2 → s.gateArg core 8 1 = 3 → (s.stageReq core).ok = true → s.storeOpen = true → s.rd CRP_PFSTAT.warn = 0 → Gives (.confirm core) s (fun t => t.rd KPR_GATESTAT.status = (match s.newestActive (s.stageReq core) with | none => GateS.notNow | some x => if s.inUse (s.stageReq core) x = true then GateS.done else GateS.notNow) ∧ t.rd KPR_GATESTAT.call = 2 ∧ t.rd KPR_GATESTAT.served = (s.rd KPR_GATESTAT.served + 1) % 2 ^ KPR_GATESTAT.served.width ∧ bit (t.rd KPR_GATEPEND.pend) (core - 1) = false)) ∧
  (∀ (s : State) (core : Nat), s.Wf → s.serving = true → s.nextCall = some core → s.gateCode core = 2 → s.gateArg core 8 1 = 4 → (s.stageReq core).ok = true → s.storeOpen = true → (s.stageTarget (s.stageReq core)).isSome = true → s.rd IMG_STAT.busy = 0 → s.rd CRP_PFSTAT.warn = 0 → Gives (.abandon core) s (fun t => t.rd KPR_GATESTAT.status = GateS.done ∧ t.rd IMG_STAT.op = 4 ∧ t.rd KPR_GATESTAT.call = 2 ∧ t.rd KPR_GATESTAT.served = (s.rd KPR_GATESTAT.served + 1) % 2 ^ KPR_GATESTAT.served.width ∧ bit (t.rd KPR_GATEPEND.pend) (core - 1) = false)) ∧
  (∀ (s : State) (bad : List Nat), s.Wf → s.rd IMG_STAT.busy = 1 → (s.rd KPR_BOOT.stage = Stage.running ∨ s.rd KPR_BOOT.stage = Stage.services) → s.rd CRP_PFSTAT.warn = 0 → Gives (.stageDone bad) s (fun t => t.rd IMG_STAT.busy = 0 ∧ t.rd IMG_STAT.step = 0 ∧ (4 < bad.length → t.rd IMG_STAT.code = 9 ∧ t.rd IMG_EVT.fail = 1 ∧ t.mem = s.mem))) ∧
  (∀ (s : State), s.Wf → ledgerRoom - 64 < s.rd IMG_LEDGER.used → (s.rd KPR_BOOT.stage = Stage.running ∨ s.rd KPR_BOOT.stage = Stage.services) → s.storeOpen = true → s.rd (V.planeHeld 3) = 0 → Gives (.ledgerCompact) s (fun t => t.rd IMG_LEDGER.half = 1 - s.rd IMG_LEDGER.half ∧ t.rd IMG_LEDGER.used = s.standingAll.length % 2 ^ IMG_LEDGER.used.width))

/-- GRANT_QUERY answers 0. STRUCT_COMMIT of a readable image with no transaction live loads it: a verified one is being committed for its caller,
another is answered 5 (R256). ATTEST takes the next index (R413). SVN_RAISE and SVN_FUSE raise the minimum (R406). KEY_ENROLL fills its slot;
KEY_REVOKE with a good token revokes its key, and with another answers 7. CORE_RETIRE retires the core. ATT_PUBLIC answers 0. A call of no code of
R411 answers 1, and an IMAGE_STAGE of no operation answers 2 (R411). Where the spec leaves a point of it open, the choices of log entries 121, 122,
124 hold. COMPLETION: for every state and operands that meet the conditions of its clause, which are on them alone, exec answers a next state for each
of these forms: grantQuery (R411), structCommit (R411), attest (R413), svnRaise (R406), svnFuse (R406), keyEnroll (R411), keyRevoke (R411), coreRetire
(R408), attPublic (R412), unknownGateCall (R411), lcRequest (R411). (R406, R408, R411, R412, R413) -/
def Obligations.GateCallsTakeEffect : Prop :=
  (∀ (s : State) (core : Nat), s.Wf → s.serving = true → s.nextCall = some core → s.gateCode core = 1 → Gives (.grantQuery core) s (fun t => t.rd KPR_GATESTAT.status = GateS.done ∧ t.rd KPR_GATESTAT.call = 1 ∧ t.rd KPR_GATESTAT.served = (s.rd KPR_GATESTAT.served + 1) % 2 ^ KPR_GATESTAT.served.width ∧ bit (t.rd KPR_GATEPEND.pend) (core - 1) = false)) ∧
  (∀ (s : State) (core : Nat), s.Wf → s.serving = true → s.nextCall = some core → s.gateCode core = 3 → s.callerReads core (s.gateArg core 16 8) (s.gateArg core 24 4) = true → s.txBusy = false → Gives (.structCommit core) s (fun t => ((t.rd FAB_STAT.load = LoadS.verified ∧ t.rd V.structCore = core ∧ t.rd TIM_TXSTAT.state = TxS.committing ∧ t.rd TIM_TXSTAT.owner = Req.keeper) ∨ (t.rd FAB_STAT.load = LoadS.failed ∧ t.rd KPR_GATESTAT.status = GateS.checkFailed ∧ t.rd KPR_GATESTAT.call = 3)) ∧ bit (t.rd KPR_GATEPEND.pend) (core - 1) = false)) ∧
  (∀ (s : State) (core : Nat), s.Wf → s.serving = true → s.nextCall = some core → s.gateCode core = 4 → s.callerReads core (s.gateArg core 40 8) 256 = true → s.callerWrites core (s.gateArg core 48 8) 4096 = true → s.lifecycle < 3 → s.attOpen = true → s.storeOpen = true → s.rd KPR_ATTIDX.next < 1048576 → s.rd CRP_PFSTAT.warn = 0 → Gives (.attest core) s (fun t => t.rd KPR_GATESTAT.status = GateS.done ∧ t.rd KPR_ATTIDX.next = s.rd KPR_ATTIDX.next + 1 ∧ t.rd KPR_GATESTAT.call = 4 ∧ t.rd KPR_GATESTAT.served = (s.rd KPR_GATESTAT.served + 1) % 2 ^ KPR_GATESTAT.served.width ∧ bit (t.rd KPR_GATEPEND.pend) (core - 1) = false)) ∧
  (∀ (s : State) (core : Nat), s.Wf → s.serving = true → s.nextCall = some core → s.gateCode core = 5 → s.gateArg core 8 1 < 4 → s.gateArg core 12 4 ≤ s.svnNow (s.gateArg core 8 1) → s.minOf (s.gateArg core 8 1) < s.gateArg core 12 4 → s.storeOpen = true → s.rd CRP_PFSTAT.warn = 0 → Gives (.svnRaise core) s (fun t => t.rd KPR_GATESTAT.status = GateS.done ∧ t.rd (KPR_SVNMIN.min (s.gateArg core 8 1)) = s.gateArg core 12 4 ∧ t.rd KPR_GATESTAT.call = 5 ∧ t.rd KPR_GATESTAT.served = (s.rd KPR_GATESTAT.served + 1) % 2 ^ KPR_GATESTAT.served.width ∧ bit (t.rd KPR_GATEPEND.pend) (core - 1) = false)) ∧
  (∀ (s : State) (core : Nat), s.Wf → s.serving = true → s.nextCall = some core → s.gateCode core = 6 → s.storeOpen = true → s.gateArg core 8 1 < 4 → s.gateArg core 12 4 ≤ 32 → s.gateArg core 12 4 ≤ ((s.standing (fun r => r.getD 0 0 == 2 && r.getD 8 0 == s.gateArg core 8 1)).map (fun r => leAt r 12 4)).getD 0 → s.rd (V.fuseFloor (s.gateArg core 8 1)) ≤ s.gateArg core 12 4 → s.rd CRP_PFSTAT.warn = 0 → Gives (.svnFuse core) s (fun t => t.rd KPR_GATESTAT.status = GateS.done ∧ t.rd (V.fuseFloor (s.gateArg core 8 1)) = s.gateArg core 12 4 ∧ t.rd KPR_GATESTAT.call = 6 ∧ t.rd KPR_GATESTAT.served = (s.rd KPR_GATESTAT.served + 1) % 2 ^ KPR_GATESTAT.served.width ∧ bit (t.rd KPR_GATEPEND.pend) (core - 1) = false)) ∧
  (∀ (s : State) (core : Nat), s.Wf → s.serving = true → s.nextCall = some core → s.gateCode core = 8 → 4 ≤ s.gateArg core 8 1 → s.gateArg core 8 1 < 8 → s.rd (V.fuseEnrolled (s.gateArg core 8 1)) = 0 → bit (s.gateArg core 9 1) 0 = false → bit (s.gateArg core 9 1) 5 = false → s.gateArg core 9 1 < 64 → s.callerReads core (s.gateArg core 16 8) 64 = true → (s.lifecycle = 1 ∨ s.lifecycle = 2) → s.storeOpen = true → s.rd CRP_PFSTAT.warn = 0 → Gives (.keyEnroll core) s (fun t => t.rd KPR_GATESTAT.status = GateS.done ∧ t.rd (V.fuseEnrolled (s.gateArg core 8 1)) = 1 ∧ t.rd (V.fuseUsage (s.gateArg core 8 1)) = s.gateArg core 9 1 ∧ t.rd KPR_GATESTAT.call = 8 ∧ t.rd KPR_GATESTAT.served = (s.rd KPR_GATESTAT.served + 1) % 2 ^ KPR_GATESTAT.served.width ∧ bit (t.rd KPR_GATEPEND.pend) (core - 1) = false)) ∧
  (∀ (s : State) (core : Nat), s.Wf → s.serving = true → s.nextCall = some core → s.gateCode core = 9 → s.gateArg core 8 1 < 8 → s.rd (V.fuseEnrolled (s.gateArg core 8 1)) = 1 → s.rd (V.fuseRevoked (s.gateArg core 8 1)) = 0 → (List.range 4).any (fun j => j != s.gateArg core 8 1 && s.keyUsable 0 j) = true → s.callerReads core (s.gateArg core 16 8) 3076 = true → s.storeOpen = true → s.rd CRP_PFSTAT.warn = 0 → Gives (.keyRevoke core) s (fun t => (s.tokenCode (s.tokenAt (s.gateArg core 16 8)) 4 (fun j => j != s.gateArg core 8 1) = 0 → t.rd KPR_GATESTAT.status = GateS.done ∧ t.rd (V.fuseRevoked (s.gateArg core 8 1)) = 1) ∧ (s.tokenCode (s.tokenAt (s.gateArg core 16 8)) 4 (fun j => j != s.gateArg core 8 1) ≠ 0 → t.rd KPR_GATESTAT.status = GateS.badToken ∧ t.rd (V.fuseRevoked (s.gateArg core 8 1)) = 0) ∧ t.rd KPR_GATESTAT.call = 9 ∧ t.rd KPR_GATESTAT.served = (s.rd KPR_GATESTAT.served + 1) % 2 ^ KPR_GATESTAT.served.width ∧ bit (t.rd KPR_GATEPEND.pend) (core - 1) = false)) ∧
  (∀ (s : State) (core : Nat), s.Wf → s.serving = true → s.nextCall = some core → s.gateCode core = 10 → 1 ≤ s.gateArg core 8 1 → s.gateArg core 8 1 ≤ 4 → s.rd CRP_PFSTAT.warn = 0 → Gives (.coreRetire core) s (fun t => t.rd KPR_GATESTAT.status = GateS.done ∧ bit (t.rd V.fuseRetire) (s.physCore (s.gateArg core 8 1)) = true ∧ t.rd KPR_GATESTAT.call = 10 ∧ t.rd KPR_GATESTAT.served = (s.rd KPR_GATESTAT.served + 1) % 2 ^ KPR_GATESTAT.served.width ∧ bit (t.rd KPR_GATEPEND.pend) (core - 1) = false)) ∧
  (∀ (s : State) (core : Nat), s.Wf → s.serving = true → s.nextCall = some core → s.gateCode core = 11 → s.callerWrites core (s.gateArg core 16 8) 2884 = true → Gives (.attPublic core) s (fun t => t.rd KPR_GATESTAT.status = GateS.done ∧ t.rd KPR_GATESTAT.call = 11 ∧ t.rd KPR_GATESTAT.served = (s.rd KPR_GATESTAT.served + 1) % 2 ^ KPR_GATESTAT.served.width ∧ bit (t.rd KPR_GATEPEND.pend) (core - 1) = false)) ∧
  (∀ (s : State) (core : Nat), s.Wf → s.serving = true → s.nextCall = some core → gateCallKnown (s.gateCode core) = false → Gives (.unknownGateCall core) s (fun t => t.rd KPR_GATESTAT.status = GateS.unknown ∧ bit (t.rd KPR_GATEPEND.pend) (core - 1) = false ∧ t.rd KPR_GATESTAT.served = (s.rd KPR_GATESTAT.served + 1) % 2 ^ KPR_GATESTAT.served.width)) ∧
  (∀ (s : State) (core : Nat), s.Wf → s.serving = true → s.nextCall = some core → s.gateCode core = 2 → (s.gateArg core 8 1 = 0 ∨ 4 < s.gateArg core 8 1) → Gives (.unknownGateCall core) s (fun t => t.rd KPR_GATESTAT.status = GateS.badArg ∧ bit (t.rd KPR_GATEPEND.pend) (core - 1) = false ∧ t.rd IMG_STAT.busy = s.rd IMG_STAT.busy)) ∧
  (∀ (s : State) (core : Nat) (r : Restart), s.Wf → s.serving = true → s.nextCall = some core → s.gateCode core = 7 → s.lcRefusal core (s.gateArg core 8 1) (s.gateArg core 16 8) ≠ 0 → Gives (.lcRequest core r) s (fun t => t.rd KPR_GATESTAT.status = s.lcRefusal core (s.gateArg core 8 1) (s.gateArg core 16 8) ∧ t.rd V.fuseState = s.rd V.fuseState)) ∧
  (∀ (s : State) (core : Nat) (r : Restart), s.Wf → s.serving = true → s.nextCall = some core → s.gateCode core = 7 → s.lcRefusal core (s.gateArg core 8 1) (s.gateArg core 16 8) = 0 → Gives (.lcRequest core r) s (fun t => t.rd CRP_CAUSE.cold = s.causeAfter 5 ∧ bit (t.rd V.fuseState) (s.gateArg core 8 1) = true ∧ t.now = 0))

/-- A reset of the function clears Bus Master Enable, MSI-X Enable and the power state, turns every ring off and, but for an FLR, brings the link down
(R448). D3hot is entered and left, and pending messages go on the return (R449). A link change shows the link's new state (R444). A PCI Express error
is counted, recorded, and ends the transfer, or halts the ring pair, that it belongs to (R447, R459). Where the spec leaves a point of it open, the
choices of log entries 125, 127, 132 hold. COMPLETION: for every state and operands that meet the conditions of its clause, which are on them alone,
exec answers a next state for each of these forms: functionReset (R448), d3hotEntry (R449), d0Return (R449), hostLinkStateChange (R444), pcieError
(R447). (R444, R447, R448, R449, R459) -/
def Obligations.HostFunctionCommandsTakeEffect : Prop :=
  (∀ (s : State) (cause p : Nat), s.Wf → 1 ≤ cause → cause ≤ 4 → p < 64 → Gives (.functionReset cause) s (fun t => t.rd HIF_STAT.bme = 0 ∧ t.rd HIF_STAT.dstate = 0 ∧ t.rd V.msixOn = 0 ∧ t.rd (HIF_RCTL.en p) = 0 ∧ t.rd HIF_EVT.reset = 1 ∧ (cause < 4 → t.rd HIF_STAT.link = 0))) ∧
  (∀ (s : State), s.Wf → s.rd HIF_STAT.dstate = 0 → Gives (.d3hotEntry) s (fun t => t.rd HIF_STAT.dstate = 3 ∧ Raised Ty.HOST_LINK t ∧ OnlyFields [HIF_STAT.dstate] s t)) ∧
  (∀ (s : State), s.Wf → s.rd HIF_STAT.dstate = 3 → Gives (.d0Return) s (fun t => t.rd HIF_STAT.dstate = 0 ∧ Raised Ty.HOST_LINK t ∧ OnlyFields [HIF_STAT.dstate] s t)) ∧
  (∀ (s : State) (link rate width flit cfg : Nat), s.Wf → 1 ≤ link → link ≤ 4 → Gives (.hostLinkStateChange link rate width flit cfg) s (fun t => t.rd HIF_STAT.link = link ∧ t.rd HIF_STAT.bme = bits cfg 0 1 ∧ t.rd V.msixOn = bits cfg 1 1 ∧ t.rd HIF_EVT.link = 1 ∧ Raised Ty.HOST_LINK t)) ∧
  (∀ (s : State) (aer engine : Nat), s.Wf → Gives (.pcieError true aer engine) s (fun t => t.rd HIF_AERUNC.count = (s.rd HIF_AERUNC.count + 1) % 2 ^ HIF_AERUNC.count.width ∧ t.rd HIF_EVT.aer_unc = 1 ∧ Raised Ty.HOST_ERROR t ∧ (engine < 16 → s.rd (HIF_DMASTAT.state engine) = 1 → t.rd (HIF_DMASTAT.state engine) = 3 ∧ t.rd (HIF_DMASTAT.err engine) = 2) ∧ (16 ≤ engine → engine < 80 → s.rd (HIF_RCTL.en (engine - 16)) = 1 → t.rd (HIF_RSTAT.state (engine - 16)) = RingS.halted ∧ t.rd (HIF_RSTAT.err (engine - 16)) = 6))) ∧
  (∀ (s : State) (aer engine : Nat), s.Wf → Gives (.pcieError false aer engine) s (fun t => t.rd HIF_AERCOR.count = (s.rd HIF_AERCOR.count + 1) % 2 ^ HIF_AERCOR.count.width ∧ Raised Ty.HOST_ERROR t ∧ OnlyFields [HIF_AERCOR.count] s t))

/-- Enabling a ring pair whose configuration passes sets it running with its indices at 0; one whose configuration fails stays off with error 1;
disabling it drops its buffers (R455). The doorbell and the poll mark a ring whose next request may be decoded as due (R459). A paused ring that need
not pause any more runs (R460). A coalesced vector goes when its time is over (R463). A service core's response is posted (R461). Where the spec
leaves a point of it open, the choices of log entries 128, 129, 130 hold. COMPLETION: for every state and operands that meet the conditions of its
clause, which are on them alone, exec answers a next state for each of these forms: ringEnable (R455), doorbell (R459), ringPoll (R459), ringResume
(R460), interruptCoalesce (R463), svcpush (R461). (R455, R459, R460, R461, R463) -/
def Obligations.RingCommandsTakeEffect : Prop :=
  (∀ (s : State) (req p value : Nat), s.Wf → p < 64 → s.Reaches req (0xF0_1024 + 0x40 * p) 4 value false → bit value 0 = true → s.rd (HIF_RCTL.en p) = 0 → s.ringConfigOk p = true → Gives (.ringEnable req p value) s (fun t => t.rd (HIF_RCTL.en p) = 1 ∧ t.rd (HIF_RSTAT.state p) = RingS.run ∧ t.rd (V.rqSeq p) = 0 ∧ t.rd (V.rsSeq p) = 0 ∧ Raised Ty.RING_EVENT t)) ∧
  (∀ (s : State) (req p value : Nat), s.Wf → p < 64 → s.Reaches req (0xF0_1024 + 0x40 * p) 4 value false → bit value 0 = true → s.rd (HIF_RCTL.en p) = 0 → s.ringConfigOk p = false → Gives (.ringEnable req p value) s (fun t => t.rd (HIF_RCTL.en p) = 0 ∧ t.rd (HIF_RSTAT.err p) = 1 ∧ t.rd HIF_EVT.ring_err = 1 ∧ t.mem = s.mem)) ∧
  (∀ (s : State) (req p value : Nat), s.Wf → p < 64 → s.Reaches req (0xF0_1024 + 0x40 * p) 4 value false → bit value 0 = false → s.rd (HIF_RCTL.en p) = 1 → Gives (.ringEnable req p value) s (fun t => t.rd (HIF_RCTL.en p) = 0 ∧ t.rd (HIF_RSTAT.state p) = RingS.off ∧ (∀ b ∈ t.bufs, b.ring ≠ p) ∧ t.mem = s.mem)) ∧
  (∀ (s : State) (req p value : Nat), s.Wf → s.Reaches req (0xF0_1030 + 0x40 * p) 4 value false → bit value 0 = true → s.decoding = true → p < 64 → s.rd (HIF_RSTAT.state p) = RingS.run → s.ringIndex p 0 < s.rqSize p → s.ringIndex p 12 < s.rsSize p → s.ringIndex p 0 ≠ s.rd (V.rqSeq p) % s.rqSize p → s.reqField p 8 4 = s.rd (V.rqSeq p) → s.mustPause p = false → Gives (.doorbell req p value) s (fun t => t.rd (V.ringDue p) = 1 ∧ OnlyFields [V.ringDue p] s t)) ∧
  (∀ (s : State) (p : Nat), s.Wf → s.decoding = true → p < 64 → s.rd (HIF_RSTAT.state p) = RingS.run → s.ringIndex p 0 < s.rqSize p → s.ringIndex p 12 < s.rsSize p → s.ringIndex p 0 ≠ s.rd (V.rqSeq p) % s.rqSize p → s.reqField p 8 4 = s.rd (V.rqSeq p) → s.mustPause p = false → Gives (.ringPoll) s (fun t => t.rd (V.ringDue p) = 1 ∧ t.rd V.flrOwed = s.rd V.flrOwed ∧ t.mem = s.mem)) ∧
  (∀ (s : State) (p : Nat), s.Wf → s.decoding = true → p < 64 → s.rd (HIF_RSTAT.state p) = RingS.paused → s.mustPause p = false → s.ringIndex p 0 < s.rqSize p → s.ringIndex p 12 < s.rsSize p → s.ringIndex p 0 ≠ s.rd (V.rqSeq p) % s.rqSize p → s.reqField p 8 4 = s.rd (V.rqSeq p) → Gives (.ringResume p) s (fun t => t.rd (HIF_RSTAT.state p) = RingS.run ∧ t.rd (V.ringDue p) = 1 ∧ OnlyFields [HIF_RSTAT.state p, V.ringDue p] s t)) ∧
  (∀ (s : State) (p : Nat), s.Wf → p < 64 → s.rd (V.coalAt p) ≠ 0 → s.rd (V.coalAt p) - 1 + 4000 * s.rd (HIF_RCTL.coal_us p) ≤ s.now → Gives (.interruptCoalesce p) s (fun t => t.rd (V.coalCount p) = 0 ∧ t.rd (V.coalAt p) = 0 ∧ OnlyFields [V.coalCount p, V.coalAt p] s t)) ∧
  (∀ (s : State) (req value : Nat), s.Wf → s.Reaches req 0xF0_0340 4 value false → bit value 6 = true → s.rd (HIF_RCTL.en (bits value 0 6)) = 1 → s.respFull (bits value 0 6) = false → Gives (.svcpush req value) s (fun t => t.rd (V.rsSeq (bits value 0 6)) = (s.rd (V.rsSeq (bits value 0 6)) + 1) % 2 ^ 32 ∧ t.rd HIF_SVCSTAT.full = 0)) ∧
  (∀ (s : State) (req value : Nat), s.Wf → s.Reaches req 0xF0_0340 4 value false → bit value 6 = true → s.rd (HIF_RCTL.en (bits value 0 6)) = 1 → s.respFull (bits value 0 6) = true → Gives (.svcpush req value) s (fun t => t.rd HIF_SVCSTAT.full = 1 ∧ OnlyFields [HIF_SVCSTAT.full] s t))

/-- A well-formed request of an accepted type is consumed and its ring is the last served (R456, R459). An accepted ORDER waits for its boundary and
takes the next HOST number (R458). A BUFFER waits for its drain (R462). A SERVICE request enters the service queue (R461). A PING changes no order,
buffer or service queue, and posts a response (R457). A request that is not acted on is answered with its error and consumed (R456). Where the spec
leaves a point of it open, the choices of log entries 128, 129 hold. COMPLETION: for every state and operands that meet the conditions of its clause,
which are on them alone, exec answers a next state for each of these forms: order (R458), buffer (R462), service (R461), ping (R457),
unacceptedRequest (R456). (R456, R457, R458, R461, R462) -/
def Obligations.RingRequestsTakeEffect : Prop :=
  (∀ (s : State) (p : Nat), s.Wf → s.decoding = true → p < 64 → s.nextRing = some p → s.unaccepted p = 0 → s.reqField p 2 1 = 1 → s.malformed p = false → Gives (.order p) s (fun t => t.rd (V.rqSeq p) = (s.rd (V.rqSeq p) + 1) % 2 ^ 32 ∧ t.rd V.ringLast = (p + 1) % 64 ∧ t.rd HIF_ORDSEQ.next = (s.rd HIF_ORDSEQ.next + 1) % 2 ^ HIF_ORDSEQ.next.width ∧ t.rd (V.rsSeq p) = (s.rd (V.rsSeq p) + 1) % 2 ^ 32 ∧ ((s.hostOrder p).blk < 5 → s.decodeResult (s.hostOrder p) = 0 → s.hostOrder p ∈ t.orders.pend) ∧ (s.decodeResult (s.hostOrder p) ≠ 0 → t.orders = s.orders))) ∧
  (∀ (s : State) (p : Nat), s.Wf → s.decoding = true → p < 64 → s.nextRing = some p → s.unaccepted p = 0 → s.reqField p 2 1 = 2 → s.malformed p = false → Gives (.buffer p) s (fun t => t.rd (V.rqSeq p) = (s.rd (V.rqSeq p) + 1) % 2 ^ 32 ∧ t.rd V.ringLast = (p + 1) % 64 ∧ t.bufs = s.bufs ++ [⟨p, s.reqField p 8 4, s.reqField p 12 4, s.reqField p 24 8, s.reqField p 32 4⟩] ∧ t.orders = s.orders)) ∧
  (∀ (s : State) (p : Nat), s.Wf → s.decoding = true → p < 64 → s.nextRing = some p → s.unaccepted p = 0 → s.reqField p 2 1 = 3 → s.malformed p = false → Gives (.service p) s (fun t => t.rd (V.rqSeq p) = (s.rd (V.rqSeq p) + 1) % 2 ^ 32 ∧ t.rd V.ringLast = (p + 1) % 64 ∧ t.rd HIF_SVCQPTR.tail = (s.rd HIF_SVCQPTR.tail + 1) % 256 ∧ t.orders = s.orders)) ∧
  (∀ (s : State) (p : Nat), s.Wf → s.decoding = true → p < 64 → s.nextRing = some p → s.unaccepted p = 0 → s.reqField p 2 1 = 4 → s.malformed p = false → Gives (.ping p) s (fun t => t.rd (V.rqSeq p) = (s.rd (V.rqSeq p) + 1) % 2 ^ 32 ∧ t.rd V.ringLast = (p + 1) % 64 ∧ t.rd (V.rsSeq p) = (s.rd (V.rsSeq p) + 1) % 2 ^ 32 ∧ t.orders = s.orders ∧ t.bufs = s.bufs ∧ t.rd HIF_SVCQPTR.tail = s.rd HIF_SVCQPTR.tail)) ∧
  (∀ (s : State) (p : Nat), s.Wf → s.decoding = true → p < 64 → s.nextRing = some p → s.unaccepted p ≠ 0 → Gives (.unacceptedRequest p) s (fun t => t.rd (V.rqSeq p) = (s.rd (V.rqSeq p) + 1) % 2 ^ 32 ∧ t.rd (V.rsSeq p) = (s.rd (V.rsSeq p) + 1) % 2 ^ 32 ∧ t.orders = s.orders ∧ t.bufs = s.bufs))

/-- A permitted BAR2 mapping is taken, and nothing else changes. A mapped BAR2 write stores its bytes and no other; a read returns what stands there
and changes no register and no byte (R452). Where the spec leaves a point of it open, the choices of log entries 134, 144 hold. COMPLETION: for every
state and operands that meet the conditions of its clause, which are on them alone, exec answers a next state for each of these forms: b2segWrite
(R452), bar2Access (R2). (R452) -/
def Obligations.Bar2Commands : Prop :=
  (∀ (s : State) (req seg value : Nat), s.Wf → seg < 16 → s.Reaches req (0xF0_0040 + 8 * seg) 8 value true → s.segmentPermitted value = true → Gives (.b2segWrite req seg value) s (fun t => t.rd (HIF_B2SEG.valid seg) = bits value 63 1 ∧ t.rd (HIF_B2SEG.rw seg) = bits value 62 1 ∧ t.rd (HIF_B2SEG.base seg) = bits value 0 10 ∧ OnlyFields [HIF_B2SEG.valid seg, HIF_B2SEG.rw seg, HIF_B2SEG.base seg] s t)) ∧
  (∀ (s : State) (ofs n data a : Nat), s.Wf → ofs / 0x1000_0000 < 16 → a = s.rd (HIF_B2SEG.base (ofs / 0x1000_0000)) * 0x1000_0000 + ofs % 0x1000_0000 → s.rd (HIF_B2SEG.valid (ofs / 0x1000_0000)) = 1 → s.rd (HIF_B2SEG.rw (ofs / 0x1000_0000)) = 1 → s.memWaits a = false → s.unmapped a n = false → s.spaceOff Req.host = false → pagesOpen Req.host a n = true → (∀ x, a ≤ x → x < a + n → s.channelDead x = false) → Gives (.bar2Access true ofs n data) s (fun t => memBytes t.mem a n = leBytes n data ∧ (∀ b, b < a ∨ a + n ≤ b → memByte t.mem b = memByte s.mem b) ∧ t.regs = s.regs)) ∧
  (∀ (s : State) (ofs n a : Nat), s.Wf → ofs / 0x1000_0000 < 16 → a = s.rd (HIF_B2SEG.base (ofs / 0x1000_0000)) * 0x1000_0000 + ofs % 0x1000_0000 → s.rd (HIF_B2SEG.valid (ofs / 0x1000_0000)) = 1 → s.memWaits a = false → s.unmapped a n = false → s.spaceOff Req.host = false → pagesOpen Req.host a n = true → wordsIn s.memu.ce a n = [] → s.badWord? a n = none → Gives (.bar2Access false ofs n 0) s (fun t => tableGet 0 t.bus.data Req.host = ofLe (s.physBytes a n) ∧ t.mem = s.mem ∧ t.regs = s.regs))

/-- A go of recovery makes its image CHECKING; the check ends accepted, or rejected with its code and memory unchanged (R465). A DMA go of a granted
core runs; its end towards the device has stored the bytes of host memory there and changed no other byte (R464). Where the spec leaves a point of it
open, the choices of log entries 134, 144 hold. COMPLETION: for every state and operands that meet the conditions of its clause, which are on them
alone, exec answers a next state for each of these forms: recoveryGo (R465), recoveryCheckDone (R465), dmaStart (R464), dmaDone (R464). (R464, R465)
-/
def Obligations.RecoveryAndDma : Prop :=
  (∀ (s : State) (req value : Nat), s.Wf → s.Reaches req 0xF0_0200 4 value false → bit value 0 = true → (s.rd HIF_RCVSTAT.state = 1 ∨ s.rd HIF_RCVSTAT.state = 4) → Gives (.recoveryGo req value) s (fun t => t.rd HIF_RCVSTAT.state = 2 ∧ t.rd HIF_RCVSTAT.path = 0 ∧ t.rd HIF_RCVSTAT.code = 0 ∧ OnlyFields [HIF_RCVSTAT.state, HIF_RCVSTAT.path, HIF_RCVSTAT.code] s t)) ∧
  (∀ (s : State), s.Wf → s.rd HIF_RCVSTAT.state = 2 → s.rd (V.planeHeld 3) = 0 → Gives (.recoveryCheckDone) s (fun t => t.rd HIF_EVT.recovery = 1 ∧ (s.recoveryCode ≠ 0 → t.rd HIF_RCVSTAT.state = 4 ∧ t.rd HIF_RCVSTAT.code = s.recoveryCode % 2 ^ HIF_RCVSTAT.code.width ∧ t.mem = s.mem))) ∧
  (∀ (s : State) (req e value : Nat), s.Wf → 3 ≤ e → e < 16 → isCore req = true → s.Reaches req (0xF0_4014 + 0x40 * e) 4 value false → bit value 0 = true → s.rd (HIF_DMASTAT.state e) ≠ 1 → s.dmaGranted req (if bits value 1 1 = 1 then s.rd (HIF_DMADST.addr e) else s.rd (HIF_DMASRC.addr e)) (s.rd (HIF_DMALEN.len e)) (bit value 1) = true → s.rd HIF_STAT.bme = 1 → Gives (.dmaStart req e value) s (fun t => t.rd (HIF_DMASTAT.state e) = 1 ∧ t.rd (HIF_DMASTAT.owner e) = req ∧ t.rd (HIF_DMADONE.bytes e) = 0 ∧ t.mem = s.mem)) ∧
  (∀ (s : State) (e n : Nat), s.Wf → 3 ≤ e → e < 16 → s.rd (HIF_DMASTAT.state e) = 1 → s.rd HIF_STAT.dstate = 0 → s.rd CRP_PFSTAT.warn = 0 → s.rd (HIF_DMACTL.dir e) = 1 → s.memWaits (s.rd (HIF_DMADST.addr e)) = false → s.dmaDiscards true (s.rd (HIF_DMADST.addr e)) (s.rd (HIF_DMALEN.len e)) = 0 → (∀ x, s.rd (HIF_DMADST.addr e) ≤ x → x < s.rd (HIF_DMADST.addr e) + s.rd (HIF_DMALEN.len e) → s.channelDead x = false) → Gives (.dmaDone e 0 n) s (fun t => t.rd (HIF_DMASTAT.state e) = 2 ∧ memBytes t.mem (s.rd (HIF_DMADST.addr e)) (s.rd (HIF_DMALEN.len e)) = memBytes s.mem (inSpace Sp.host (s.rd (HIF_DMASRC.addr e))) (s.rd (HIF_DMALEN.len e)) ∧ (∀ b, b < s.rd (HIF_DMADST.addr e) ∨ s.rd (HIF_DMADST.addr e) + s.rd (HIF_DMALEN.len e) ≤ b → memByte t.mem b = memByte s.mem b)))

/-- A read of the window gives its bytes from the pointer on and moves the pointer (R478); a write sets the pointer, and port 0's bytes at 48H and 49H
set the alert mask (R481, R482); the alert response gives the port's address (R482); an unknown command code sets STATUS_WORD's bit (R484). Where the
spec leaves a point of it open, the choices of log entry 137 hold. COMPLETION: for every state and operands that meet the conditions of its clause,
which are on them alone, exec answers a next state for each of these forms: trayWindowRead (R478), trayWindowWrite (R478), alertResponse (R482),
unknownCommand (R483). (R478, R481, R482, R484) -/
def Obligations.TrayWindowCommandsTakeEffect : Prop :=
  (∀ (s : State) (port n : Nat), s.Wf → port < 2 → s.targetRuns = true → Gives (.trayWindowRead port n) s (fun t => tableGet 0 t.bus.data Req.rack = ofLe ((List.range n).map (fun i => s.trayWindow.getD ((s.rd (V.winPtr port) + i) % 256) 0)) ∧ t.rd (V.winPtr port) = (s.rd (V.winPtr port) + n) % 256 ∧ OnlyFields [V.winPtr port] { s with bus := t.bus } t)) ∧
  (∀ (s : State) (port p : Nat) (rest : List Nat), s.Wf → port < 2 → s.targetRuns = true → Gives (.trayWindowWrite port (p :: rest)) s (fun t => t.rd (V.winPtr port) = (p + rest.length) % 256 ∧ (port = 1 → t.rd V.alertMask = s.rd V.alertMask) ∧ OnlyFields [V.winPtr port, V.alertMask, TWI_TWDISC.count] s t)) ∧
  (∀ (s : State) (lo hi : Nat), s.Wf → lo < 256 → hi < 256 → s.targetRuns = true → Gives (.trayWindowWrite 0 [0x48, lo, hi]) s (fun t => t.rd V.alertMask = lo + 256 * hi ∧ t.rd TWI_TWDISC.count = s.rd TWI_TWDISC.count)) ∧
  (∀ (s : State), s.Wf → s.targetRuns = true → s.alertOn = true → Gives (.alertResponse) s (fun t => tableGet 0 t.bus.data Req.rack = ofLe [s.cmdAddr] ∧ t.regs = s.regs ∧ t.mem = s.mem)) ∧
  (∀ (s : State) (code : Nat), s.Wf → s.targetRuns = true → commandCodes.contains code = false → Gives (.unknownCommand code) s (fun t => t.rd V.twiStatus = s.rd V.twiStatus ||| 4 ∧ OnlyFields [V.twiStatus] s t))

/-- Each read of the command set gives its bytes, with a PEC where R483 asks for one, and changes no register and no byte of memory. Where the spec
leaves a point of it open, the choices of log entry 137 hold. COMPLETION: for every state and operands that meet the conditions of its clause, which
are on them alone, exec answers a next state for each of these forms: capability (R484), statusWord (R484), pmbusRevision (R484), mfrId (R484),
mfrModel (R484), mfrRevision (R484), mfrSerial (R484), orderResult (R484), readInforce (R484), trayTime (R484), rcvStat (R484). (R483, R484, R488) -/
def Obligations.CommandSetReadsTakeEffect : Prop :=
  (∀ (s : State) (more : Bool), s.Wf → s.targetRuns = true → Gives (.capability more) s (fun t => tableGet 0 t.bus.data Req.rack = ofLe ([0xD0] ++ (if s.on TWI_TCFG.pec_req || more then [crc8 ([s.cmdAddr, 0x19] ++ [] ++ [s.cmdAddr + 1] ++ [0xD0])] else [])) ∧ t.regs = s.regs ∧ t.mem = s.mem)) ∧
  (∀ (s : State) (more : Bool), s.Wf → s.targetRuns = true → Gives (.statusWord more) s (fun t => tableGet 0 t.bus.data Req.rack = ofLe (leBytes 2 s.statusWord ++ (if s.on TWI_TCFG.pec_req || more then [crc8 ([s.cmdAddr, 0x79] ++ [] ++ [s.cmdAddr + 1] ++ leBytes 2 s.statusWord)] else [])) ∧ t.regs = s.regs ∧ t.mem = s.mem)) ∧
  (∀ (s : State) (more : Bool), s.Wf → s.targetRuns = true → Gives (.pmbusRevision more) s (fun t => tableGet 0 t.bus.data Req.rack = ofLe ([0x44] ++ (if s.on TWI_TCFG.pec_req || more then [crc8 ([s.cmdAddr, 0x98] ++ [] ++ [s.cmdAddr + 1] ++ [0x44])] else [])) ∧ t.regs = s.regs ∧ t.mem = s.mem)) ∧
  (∀ (s : State) (more : Bool), s.Wf → s.targetRuns = true → Gives (.mfrId more) s (fun t => tableGet 0 t.bus.data Req.rack = ofLe ([3, 0x48, 0x5A, 0x46] ++ (if s.on TWI_TCFG.pec_req || more then [crc8 ([s.cmdAddr, 0x99] ++ [] ++ [s.cmdAddr + 1] ++ [3, 0x48, 0x5A, 0x46])] else [])) ∧ t.regs = s.regs ∧ t.mem = s.mem)) ∧
  (∀ (s : State) (more : Bool), s.Wf → s.targetRuns = true → Gives (.mfrModel more) s (fun t => tableGet 0 t.bus.data Req.rack = ofLe ([3, 0x4F, 0x52, 0x38] ++ (if s.on TWI_TCFG.pec_req || more then [crc8 ([s.cmdAddr, 0x9A] ++ [] ++ [s.cmdAddr + 1] ++ [3, 0x4F, 0x52, 0x38])] else [])) ∧ t.regs = s.regs ∧ t.mem = s.mem)) ∧
  (∀ (s : State) (more : Bool), s.Wf → s.targetRuns = true → Gives (.mfrRevision more) s (fun t => tableGet 0 t.bus.data Req.rack = ofLe ([2, 0x42, 0x31] ++ (if s.on TWI_TCFG.pec_req || more then [crc8 ([s.cmdAddr, 0x9B] ++ [] ++ [s.cmdAddr + 1] ++ [2, 0x42, 0x31])] else [])) ∧ t.regs = s.regs ∧ t.mem = s.mem)) ∧
  (∀ (s : State) (more : Bool), s.Wf → s.targetRuns = true → Gives (.mfrSerial more) s (fun t => tableGet 0 t.bus.data Req.rack = ofLe (blockOf (leBytes 8 (s.rd V.fuseSerial)) ++ (if s.on TWI_TCFG.pec_req || more then [crc8 ([s.cmdAddr, 0x9E] ++ [] ++ [s.cmdAddr + 1] ++ blockOf (leBytes 8 (s.rd V.fuseSerial)))] else [])) ∧ t.regs = s.regs ∧ t.mem = s.mem)) ∧
  (∀ (s : State) (more : Bool), s.Wf → s.targetRuns = true → Gives (.orderResult more) s (fun t => tableGet 0 t.bus.data Req.rack = ofLe (blockOf (leBytes 4 (s.rd V.orderSeq) ++ [s.rd V.orderCode, s.rd V.orderBlk, s.rd V.orderTgt, s.rd V.orderScope] ++ leBytes 4 (s.rd V.orderVal)) ++ (if s.on TWI_TCFG.pec_req || more then [crc8 ([s.cmdAddr, 0xD1] ++ [] ++ [s.cmdAddr + 1] ++ blockOf (leBytes 4 (s.rd V.orderSeq) ++ [s.rd V.orderCode, s.rd V.orderBlk, s.rd V.orderTgt, s.rd V.orderScope] ++ leBytes 4 (s.rd V.orderVal)))] else [])) ∧ t.regs = s.regs ∧ t.mem = s.mem)) ∧
  (∀ (s : State) (b k x : Nat) (more : Bool), s.Wf → s.targetRuns = true → b < 5 → Gives (.readInforce [b, k, x] more) s (fun t => tableGet 0 t.bus.data Req.rack = ofLe (blockOf ([s.orders.source b k x, 0, 0, 0] ++ leBytes 4 (s.orders.value b k x)) ++ (if s.on TWI_TCFG.pec_req || more then [crc8 ([s.cmdAddr, 0xD2] ++ [3, b, k, x] ++ [s.cmdAddr + 1] ++ blockOf ([s.orders.source b k x, 0, 0, 0] ++ leBytes 4 (s.orders.value b k x)))] else [])) ∧ t.regs = s.regs ∧ t.mem = s.mem)) ∧
  (∀ (s : State) (more : Bool), s.Wf → s.targetRuns = true → Gives (.trayTime more) s (fun t => tableGet 0 t.bus.data Req.rack = ofLe (leBytes 8 s.now ++ (if s.on TWI_TCFG.pec_req || more then [crc8 ([s.cmdAddr, 0xD3] ++ [] ++ [s.cmdAddr + 1] ++ leBytes 8 s.now)] else [])) ∧ t.regs = s.regs ∧ t.mem = s.mem)) ∧
  (∀ (s : State) (more : Bool), s.Wf → s.targetRuns = true → s.rcvOpen = true → Gives (.rcvStat more) s (fun t => tableGet 0 t.bus.data Req.rack = ofLe (leBytes 2 s.rcvWord ++ (if s.on TWI_TCFG.pec_req || more then [crc8 ([s.cmdAddr, 0xE4] ++ [] ++ [s.cmdAddr + 1] ++ leBytes 2 s.rcvWord)] else [])) ∧ t.regs = s.regs ∧ t.mem = s.mem))

/-- A write whose count and PEC are right takes effect: CLEAR_FAULTS clears the port's status bits; TRAY_ORDER takes the next RACK number and gives a
result, and an order it accepts waits for its boundary (R485); RCV_ADDR, RCV_DATA, RCV_LEN and RCV_GO set the offset, store the bytes and no other,
set the length and start the check (R488). Where the spec leaves a point of it open, the choices of log entries 135, 136 hold. COMPLETION: for every
state and operands that meet the conditions of its clause, which are on them alone, exec answers a next state for each of these forms: clearFaults
(R484), trayOrder (R485), rcvAddr (R484), rcvData (R484), rcvLen (R484), rcvGo (R484). (R483, R484, R485, R488) -/
def Obligations.CommandSetWritesTakeEffect : Prop :=
  (∀ (s : State) (pec : Option Nat), s.Wf → s.targetRuns = true → (pec = none → s.rd TWI_TCFG.pec_req = 0) → (∀ x, pec = some x → x = crc8 (s.cmdAddr :: 0x03 :: [])) → Gives (.clearFaults pec) s (fun t => t.rd V.twiStatus = 0 ∧ OnlyFields [V.twiStatus] s t)) ∧
  (∀ (s : State) (body : List Nat) (pec : Option Nat) (acked : Bool), s.Wf → s.mgmtRuns = true → s.targetRuns = true → body.length = 20 → (pec = none → s.rd TWI_TCFG.pec_req = 0) → (∀ x, pec = some x → x = crc8 (s.cmdAddr :: 0xD0 :: blockOf body)) → Gives (.trayOrder body pec acked) s (fun t => t.rd TWI_ORDSEQ.next = (s.rd TWI_ORDSEQ.next + 1) % 2 ^ TWI_ORDSEQ.next.width ∧ t.rd V.orderSeq = s.rd TWI_ORDSEQ.next ∧ t.rd V.orderCode = s.decodeResult (s.rackOrder body) ∧ (s.decodeResult (s.rackOrder body) = 0 → s.rackOrder body ∈ t.orders.pend) ∧ (s.decodeResult (s.rackOrder body) ≠ 0 → t.orders = s.orders))) ∧
  (∀ (s : State) (body : List Nat) (pec : Option Nat), s.Wf → s.targetRuns = true → s.rcvOpen = true → body.length = 4 → (pec = none → s.rd TWI_TCFG.pec_req = 0) → (∀ x, pec = some x → x = crc8 (s.cmdAddr :: 0xE0 :: body)) → Gives (.rcvAddr body pec) s (fun t => t.rd V.rcvOfs = ofLe body % 2 ^ 32 ∧ OnlyFields [V.rcvOfs] s t)) ∧
  (∀ (s : State) (body : List Nat) (pec : Option Nat), s.Wf → s.targetRuns = true → s.rcvOpen = true → 1 ≤ body.length → body.length ≤ 240 → s.rd V.rcvOfs + body.length ≤ recoveryRoom (s.rd HIF_RCVSTAT.kind) → (pec = none → s.rd TWI_TCFG.pec_req = 0) → (∀ x, pec = some x → x = crc8 (s.cmdAddr :: 0xE1 :: blockOf body)) → Gives (.rcvData body pec) s (fun t => memBytes t.mem (mgmtSram + s.rd V.rcvOfs) body.length = body.map (· % 256) ∧ t.rd V.rcvOfs = s.rd V.rcvOfs + body.length ∧ (∀ b, b < mgmtSram + s.rd V.rcvOfs ∨ mgmtSram + s.rd V.rcvOfs + body.length ≤ b → memByte t.mem b = memByte s.mem b))) ∧
  (∀ (s : State) (body : List Nat) (pec : Option Nat), s.Wf → s.targetRuns = true → s.rcvOpen = true → body.length = 4 → (pec = none → s.rd TWI_TCFG.pec_req = 0) → (∀ x, pec = some x → x = crc8 (s.cmdAddr :: 0xE2 :: body)) → Gives (.rcvLen body pec) s (fun t => t.rd HIF_RCVLEN.len = ofLe body % 2 ^ HIF_RCVLEN.len.width ∧ OnlyFields [HIF_RCVLEN.len] s t)) ∧
  (∀ (s : State) (pec : Option Nat), s.Wf → s.targetRuns = true → s.rd (V.planeHeld 3) = 0 → (s.rd HIF_RCVSTAT.state = 1 ∨ s.rd HIF_RCVSTAT.state = 4) → (pec = none → s.rd TWI_TCFG.pec_req = 0) → (∀ x, pec = some x → x = crc8 (s.cmdAddr :: 0xE3 :: [])) → Gives (.rcvGo pec) s (fun t => t.rd HIF_RCVSTAT.state = 2 ∧ t.rd HIF_RCVSTAT.path = 1 ∧ t.rd HIF_RCVSTAT.code = 0 ∧ OnlyFields [HIF_RCVSTAT.state, HIF_RCVSTAT.path, HIF_RCVSTAT.code] s t))

/-- An SCL timeout is shown and counted, and ends a transfer with code 4 (R476). A stuck SDA is shown, and a controller port has a recovery to do
(R477). A transfer starts on an enabled free port (R489) and ends with its result code, counting what was not acknowledged. The identification engine
ends its pass (R490). Where the spec leaves a point of it open, the choices of log entries 138, 139, 213, 215 hold. COMPLETION: for every state and
operands that meet the conditions of its clause, which are on them alone, exec answers a next state for each of these forms: sclLowTimeout (R476),
sdaStuck (R477), controllerTransfer (R489), transferDone (R475), regulatorIdent (R490). (R476, R477, R489, R490) -/
def Obligations.PortCommandsTakeEffect : Prop :=
  (∀ (s : State) (n : Nat), s.Wf → s.portAlive n = true → Gives (.sclLowTimeout n) s (fun t => t.rd (TWI_PSTAT.scl_low n) = 1 ∧ t.rd (TWI_PTOUT.count n) = (s.rd (TWI_PTOUT.count n) + 1) % 2 ^ (TWI_PTOUT.count n).width ∧ (s.rd (TWI_CRES.busy n) = 1 → t.rd (TWI_CRES.busy n) = 0 ∧ t.rd (TWI_CRES.code n) = 4) ∧ Raised Ty.TWI_EVENT t)) ∧
  (∀ (s : State) (n : Nat), s.Wf → s.portAlive n = true → Gives (.sdaStuck n) s (fun t => t.rd (TWI_PSTAT.sda_stuck n) = 1 ∧ (2 ≤ n → t.rd (V.sdaBad n) = 1) ∧ Raised Ty.TWI_EVENT t)) ∧
  (∀ (s : State) (req n value recov : Nat), s.Wf → 2 ≤ n → n < 16 → s.Reaches req (0x100_1020 + 0x100 * n) 4 value false → bit value 31 = true → s.rd (TWI_CRES.busy n) = 0 → s.rd (TWI_PCFG.en n) = 1 → s.identHolds n = false → s.rd (V.sdaBad n) = 0 → Gives (.controllerTransfer req n value recov) s (fun t => t.rd (TWI_CRES.busy n) = 1 ∧ t.rd (TWI_CCMD.addr n) = bits value 16 7 ∧ t.rd (TWI_CCMD.rd_len n) = bits value 8 6 ∧ t.rd (TWI_CCMD.wr_len n) = bits value 0 6)) ∧
  (∀ (s : State) (n out sent lost : Nat) (rx : List Nat), s.Wf → 2 ≤ n → s.portAlive n = true → s.rd (TWI_CRES.busy n) = 1 → out ≤ 3 → s.lossesFit n out lost = true → rx.length ≤ 33 → Gives (.transferDone n out sent lost rx) s (fun t => t.rd (TWI_CRES.busy n) = 0 ∧ t.rd (TWI_CRES.code n) = (if s.identHolds n = true then 6 else if out = 0 then s.readCode n rx else out) ∧ (out = 1 ∨ out = 2 → t.rd (TWI_PNACK.count n) = (s.rd (TWI_PNACK.count n) + 1) % 2 ^ (TWI_PNACK.count n).width))) ∧
  (∀ (s : State) (vals : List Nat), s.Wf → s.committed = true → s.rd V.identDone = 0 → s.rd (V.planeHeld 3) = 0 → Gives (.regulatorIdent vals) s (fun t => t.rd V.identDone = 1 ∧ t.rd V.identOwed = 0 ∧ t.rd TWI_EVT.ident = 1))

/-- A permitted core's write to memory that its cores write stores its bytes and no other (R36, R410); its read gives what stands there and changes no
byte and no register; a register read that no grant passes gives 0 and is recorded (R410). Where the spec leaves a point of it open, the choices of
log entry 144 hold. COMPLETION: for every state and operands that meet the conditions of its clause, which are on them alone, exec answers a next
state for each of these forms: deviceMemoryAccess (R36), grantFilteredRead (R410). (R36, R410) -/
def Obligations.MemoryAccessesTakeEffect : Prop :=
  (∀ (s : State) (req a n data bad : Nat), s.Wf → isCore req = true → n ≠ 0 → s.unmapped a n = false → s.coreMay req a n true = true → s.memWaits a = false → s.rd KPR_GQUEUE.gated = 0 → s.coreWrites req a = true → (∀ x, a ≤ x → x < a + n → s.channelDead x = false) → Gives (.deviceMemoryAccess req true a n data bad) s (fun t => memBytes t.mem a n = leBytes n data ∧ (∀ b, b < a ∨ a + n ≤ b → memByte t.mem b = memByte s.mem b) ∧ OnlyFields [KPR_GATEPEND.pend, V.gateOrder] { s with mem := t.mem, ue := t.ue, memu := t.memu } t)) ∧
  (∀ (s : State) (req a n bad : Nat), s.Wf → isCore req = true → n ≠ 0 → s.unmapped a n = false → s.coreMay req a n false = true → s.memWaits a = false → wordsIn s.memu.ce a n = [] → s.badWord? a n = none → Gives (.deviceMemoryAccess req false a n 0 bad) s (fun t => tableGet 0 t.bus.data req = ofLe (s.physBytes a n) ∧ t.mem = s.mem ∧ t.regs = s.regs)) ∧
  (∀ (s : State) (req a width : Nat), s.Wf → isServiceCore req = true → s.planeDown a = false → s.mayRead req a width = false → Gives (.grantFilteredRead req a width) s (fun t => tableGet 0 t.bus.data req = 0 ∧ Raised Ty.DISCARDED_WRITE t ∧ OnlyFields [] { s with bus := t.bus } t))

/-- A pass over keeper SRAM or management SRAM counts (R497). The oldest repair due starts where its macro has a spare row, and else is given up
(R499). A repair that ends sends its row to the spare (R499). A wipe leaves zeros in its region and every other byte as it was (R508). Where the spec
leaves a point of it open, the choices of log entries 141, 142 hold. COMPLETION: for every state and operands that meet the conditions of its clause,
which are on them alone, exec answers a next state for each of these forms: idleCycleScrub (R497), rowRepair (R498), repairDone (R499), wipeDone
(R508). (R497, R498, R499, R508) -/
def Obligations.MemoryCareCommandsTakeEffect : Prop :=
  (∀ (s : State) (r : Nat), s.Wf → (r = 0 ∨ r = 4) → bit (s.rd MEM_STAT.wipe) r = false → Gives (.idleCycleScrub r) s (fun t => t.rd (MEM_RSCRUB.passes r) = (s.rd (MEM_RSCRUB.passes r) + 1) % 2 ^ 32 ∧ t.mem = s.mem)) ∧
  (∀ (s : State) (row : Nat) (rest : List Nat), s.Wf → s.memu.due = row :: rest → s.spareLeft (macroOf row) = true → Gives (.rowRepair) s (fun t => t.memu = { s.memu with due := s.memu.due.filter (· != row), copies := s.memu.copies ++ [(row, s.now)] } ∧ t.regs = s.regs ∧ t.mem = s.mem)) ∧
  (∀ (s : State) (row : Nat) (rest : List Nat), s.Wf → s.memu.due = row :: rest → s.spareLeft (macroOf row) = false → Gives (.rowRepair) s (fun t => t.memu = { s.memu with due := s.memu.due.filter (· != row) } ∧ t.rd MEM_EVT.spare_out = 1 ∧ Raised Ty.MEM_REPAIR t ∧ t.mem = s.mem)) ∧
  (∀ (s : State) (row : Nat), s.Wf → s.copyDone row = true → Gives (.repairDone row) s (fun t => t.memu.maps = s.memu.maps ++ [(row, s.sparesTaken (macroOf row))] ∧ t.memu.copies.all (fun e => e.1 != row) = true ∧ t.rd MEM_EVT.repair = 1 ∧ Raised Ty.MEM_REPAIR t ∧ OnlyFields [MEM_EVT.repair, MEM_EVT.spare_out] { s with memu := t.memu } t)) ∧
  (∀ (s : State) (r : Nat) (rows : List Nat), s.Wf → r < 5 → bit (s.rd MEM_STAT.wipe) r = true → s.rd CRP_PFSTAT.warn = 0 → Gives (.wipeDone r rows) s (fun t => bit (t.rd MEM_STAT.wipe) r = false ∧ t.rd MEM_EVT.wipe = 1 ∧ (∀ a, regionBase r ≤ a → a < regionBase r + regionSize r → memByte t.mem a = 0) ∧ (∀ a, a < regionBase r ∨ regionBase r + regionSize r ≤ a → memByte t.mem a = memByte s.mem a)))

/-- Training that ends without retention goes on to initialisation (R502, R507), which leaves zeros and memory that is ready. WCK tracking sets its
time (R502). MR4 is shown for each good channel (R501). The patrol moves on, and counts a pass at the end (R505). A channel with the errors of R506
fails. Where the spec leaves a point of it open, the choices of log entries 140, 143 hold. COMPLETION: for every state and operands that meet the
conditions of its clause, which are on them alone, exec answers a next state for each of these forms: lpTrainDone (R502), lpInitDone (R507),
wckTracking (R502), mr4Poll (R4), lpddr5xPatrolScrub (R5), channelFail (R506). (R501, R502, R505, R506, R507) -/
def Obligations.ExternalMemoryCommandsTakeEffect : Prop :=
  (∀ (s : State) (res : List (Nat × Nat × Nat × Nat)), s.Wf → s.rd MEM_STAT.lp_state ≤ 1 → s.rd (V.planeHeld 2) = 0 → s.rd CRP_PFSTAT.warn = 0 → s.rd V.lpKeep = 0 → Gives (.lpTrainDone res) s (fun t => t.rd MEM_STAT.lp_state = 2 ∧ t.rd MEM_STAT.retained = 0 ∧ t.rd MEM_EVT.train = 1 ∧ t.mem = s.mem)) ∧
  (∀ (s : State), s.Wf → s.rd MEM_STAT.lp_state = 2 → Gives (.lpInitDone) s (fun t => t.rd MEM_STAT.lp_state = 3 ∧ bit (t.rd MEM_STAT.wipe) 5 = false ∧ (∀ a, 0x10_0000_0000 ≤ a → a < 0x3A_0000_0000 → memByte t.mem a = 0) ∧ (∀ a, a < 0x10_0000_0000 ∨ 0x3A_0000_0000 ≤ a → memByte t.mem a = memByte s.mem a))) ∧
  (∀ (s : State), s.Wf → s.rd MEM_STAT.lp_state = 3 → (s.rd V.wckDue = 1 ∨ s.rd V.wckAt + 400000000 ≤ s.now + 1) → Gives (.wckTracking) s (fun t => t.rd V.wckDue = 0 ∧ t.rd V.wckAt = (s.now + 1) % 2 ^ 64 ∧ OnlyFields [V.wckAt, V.wckDue] s t)) ∧
  (∀ (s : State) (vals : List Nat) (c : Nat), s.Wf → s.rd MEM_STAT.lp_state = 3 → s.goodChannels.contains c = true → Gives (.mr4Poll vals) s (fun t => t.rd (MEM_LPCH.mr4 c) = vals.getD c 0 % 2 ^ (MEM_LPCH.mr4 c).width ∧ t.mem = s.mem)) ∧
  (∀ (s : State) (n : Nat), s.Wf → s.rd MEM_STAT.lp_state = 3 → s.rd MEM_LPCFG.scrub_en = 1 → Gives (.lpddr5xPatrolScrub n) s (fun t => t.mem = s.mem ∧ (s.rd MEM_LPTOP.top ≤ max 0x10_0000_0000 (s.rd MEM_LPSCRUB.pos) + n → t.rd (MEM_RSCRUB.passes 5) = (s.rd (MEM_RSCRUB.passes 5) + 1) % 2 ^ 32 ∧ t.rd MEM_LPSCRUB.pos = 0x10_0000_0000 % 2 ^ MEM_LPSCRUB.pos.width) ∧ (max 0x10_0000_0000 (s.rd MEM_LPSCRUB.pos) + n < s.rd MEM_LPTOP.top → t.rd MEM_LPSCRUB.pos = (max 0x10_0000_0000 (s.rd MEM_LPSCRUB.pos) + n) % 2 ^ MEM_LPSCRUB.pos.width))) ∧
  (∀ (s : State) (c : Nat), s.Wf → s.rd MEM_STAT.lp_state = 3 → s.goodChannels.contains c = true → s.rd (MEM_LPCH.state c) = 2 → s.rd MEM_LPCFG.fail_ue ≤ s.lpUeCount c → Gives (.channelFail c) s (fun t => t.rd (MEM_LPCH.state c) = 3 ∧ bit (t.rd V.lpFailed) c = true ∧ Raised Ty.MEM_ERROR t ∧ OnlyFields [MEM_LPCH.state c, V.lpFailed, MEM_EVT.chan_fail] s t))

/-- Counting begins and ends with PMC_START and PMC_STOP (R518). A counter that wraps keeps its bit in PMC_OVF and counts on from 0 (R519). A write
gives the value plus the events of its clock where the counter counts (R519). A snapshot is owed (R520). A window that ends shows its bytes, and a new
length restarts the windows at its next multiple (R523). Where the spec leaves a point of it open, the choices of log entries 146, 148, 149 hold.
COMPLETION: for every state and operands that meet the conditions of its clause, which are on them alone, exec answers a next state for each of these
forms: pmcStart (R518), pmcStop (R518), counterWrap (R519), pmcCntWrite (R519), snap (R520), bwWindowEnd (R523), bwwinWrite (R523). (R518, R519, R520,
R521, R523) -/
def Obligations.CounterCommandsTakeEffect : Prop :=
  (∀ (s : State), s.Wf → s.rd V.pmcOff = 1 → s.pmcRuns = true → Gives (.pmcStart) s (fun t => t.rd V.pmcOff = 0 ∧ t.mem = s.mem)) ∧
  (∀ (s : State), s.Wf → s.rd V.pmcOff = 0 → s.pmcRuns = false → Gives (.pmcStop) s (fun t => t.rd V.pmcOff = 1 ∧ t.mem = s.mem)) ∧
  (∀ (s : State) (i n pc : Nat), s.Wf → i < 64 → s.counting i = true → 2 ^ 48 ≤ (pmcFlush s).rd (PMC_CNT.count i) + n → Gives (.counterWrap i n pc) s (fun t => bit (t.rd PMC_OVF.ovf) i = true ∧ t.rd (PMC_CNT.count i) = ((pmcFlush s).rd (PMC_CNT.count i) + n) % 2 ^ 48 ∧ t.rd (PMC_OVFPC.pc i) = pc % 2 ^ (PMC_OVFPC.pc i).width ∧ (s.rd (PMC_CFG.irq i) = 1 → t.rd PMC_EVT.ovf = 1))) ∧
  (∀ (s : State) (req i value n : Nat), s.Wf → i < 64 → s.Reaches req (0x120_0200 + 8 * i) 8 value false → Gives (.pmcCntWrite req i value n) s (fun t => t.rd (PMC_CNT.count i) = (value % 2 ^ 48 + (if s.counting i = true then n else 0)) % 2 ^ 48)) ∧
  (∀ (s : State) (req value : Nat), s.Wf → s.Reaches req 0x120_0000 4 value false → bit value 0 = true → Gives (.snap req value) s (fun t => t.rd V.snapOwed = 1 ∧ OnlyFields [V.snapOwed] s t)) ∧
  (∀ (s : State) (p : Nat), s.Wf → p < 32 → s.rd V.bwFrom + s.rd PMC_BWWIN.us * 4000 ≤ s.now → Gives (.bwWindowEnd) s (fun t => t.rd PMC_EVT.bw = 1 ∧ t.pmu.bw = [] ∧ t.rd (PMC_BWRD.bytes p) = tableGet 0 s.pmu.bw (2 * p) % 2 ^ (PMC_BWRD.bytes p).width ∧ t.rd (PMC_BWWR.bytes p) = tableGet 0 s.pmu.bw (2 * p + 1) % 2 ^ (PMC_BWWR.bytes p).width)) ∧
  (∀ (s : State) (req value : Nat), s.Wf → s.Reaches req 0x120_0038 4 value false → 1 ≤ value % 2 ^ 20 → value % 2 ^ 20 ≤ 1000000 → Gives (.bwwinWrite req value) s (fun t => t.rd PMC_BWWIN.us = value % 2 ^ 20 ∧ t.rd V.bwFrom = (s.now / (value % 2 ^ 20 * 4000) + 1) * (value % 2 ^ 20 * 4000) % 2 ^ 64 ∧ t.pmu.bw = [] ∧ OnlyFields [PMC_BWWIN.us, V.bwFrom] s t))

/-- A source that may be selected is, on its digital or analog pin (R524 to R526). A go of the unlock holds its token (R528), and the check ends; in a
lifecycle state other than DEV and PROD it gives 5 and opens nothing. An instruction that takes effect is in force (R529); leaving MBIST or SCAN
forces a cold reset with cause test (R530); TRST_N loads BYPASS. Where the spec leaves a point of it open, the choices of log entries 150, 151, 152
hold. COMPLETION: for every state and operands that meet the conditions of its clause, which are on them alone, exec answers a next state for each of
these forms: testMuxSelect (R526), unlock (R528), tokenCheckDone (R528), jtagInstruction (R529), tapReset (R529). (R524, R525, R526, R528, R529, R530)
-/
def Obligations.TestAccessCommandsTakeEffect : Prop :=
  (∀ (s : State) (req k value : Nat), s.Wf → k < 8 → s.Reaches req (0x128_0020 + 4 * k) 4 value false → bit value 31 = true → s.sourceRefused (dtestClass (bits value 12 4) (bits value 0 12)) = 0 → Gives (.testMuxSelect req (0x128_0020 + 4 * k) value) s (fun t => t.rd (TAM_DSEL.en k) = 1 ∧ t.rd (TAM_DSEL.group k) = bits value 12 4 ∧ t.rd (TAM_DSEL.index k) = bits value 0 12)) ∧
  (∀ (s : State) (req k value : Nat), s.Wf → k < 2 → s.Reaches req (0x128_0020 + 4 * (8 + k)) 4 value false → bit value 31 = true → s.sourceRefused (atestClass (bits value 0 8)) = 0 → Gives (.testMuxSelect req (0x128_0020 + 4 * (8 + k)) value) s (fun t => t.rd (TAM_ASEL.en k) = 1 ∧ t.rd (TAM_ASEL.index k) = bits value 8 8 ∧ t.rd (TAM_ASEL.source k) = bits value 0 8)) ∧
  (∀ (s : State) (req value : Nat), s.Wf → s.Reaches req 0x128_0010 4 value false → bit value 0 = true → s.rd TAM_STAT.busy = 0 → Gives (.unlock req value none) s (fun t => t.rd TAM_STAT.busy = 1 ∧ t.rd V.tokPath = 0 ∧ t.rd V.tokHeld = ofLe s.tokBuf % 2 ^ V.tokHeld.width)) ∧
  (∀ (s : State) (req value : Nat) (tok : List Nat), s.Wf → s.rd TAM_STAT.ir = 0x10 → s.rd TAM_STAT.busy = 0 → Gives (.unlock req value (some tok)) s (fun t => t.rd TAM_STAT.busy = 1 ∧ t.rd V.tokPath = 1)) ∧
  (∀ (s : State), s.Wf → s.rd TAM_STAT.busy = 1 → s.tokenChecker = true → Gives (.tokenCheckDone) s (fun t => t.rd TAM_STAT.busy = 0 ∧ t.rd TAM_EVT.unlock = 1 ∧ (s.lifecycle ≠ 1 → s.lifecycle ≠ 2 → t.rd TAM_STAT.code = 5 ∧ t.rd KPR_LCSTAT.unlocked = s.rd KPR_LCSTAT.unlocked))) ∧
  (∀ (s : State) (code : Nat) (r : Restart), s.Wf → s.rd TAM_STAT.ir ≠ 0x30 → s.rd TAM_STAT.ir ≠ 0x31 → tapKnown (code % 256) = true → s.tapRefused (code % 256) = 0 → Gives (.jtagInstruction code r) s (fun t => t.rd TAM_STAT.ir = code % 256 ∧ t.now = s.now)) ∧
  (∀ (s : State) (code : Nat) (r : Restart), s.Wf → (s.rd TAM_STAT.ir = 0x30 ∨ s.rd TAM_STAT.ir = 0x31) → code % 256 ≠ s.rd TAM_STAT.ir → code % 256 ≠ 0x30 → code % 256 ≠ 0x31 → Gives (.jtagInstruction code r) s (fun t => t.rd CRP_CAUSE.cold = s.causeAfter 7 ∧ t.now = 0)) ∧
  (∀ (s : State) (r : Restart), s.Wf → s.rd TAM_STAT.ir ≠ 0x30 → s.rd TAM_STAT.ir ≠ 0x31 → Gives (.tapReset r) s (fun t => t.rd TAM_STAT.ir = 0xFF ∧ t.now = s.now))

/-- Each of R547's causes of a cold reset leaves its cause and one more in the count, tray time at 0 and no order, staged write or transaction (R40,
R546): power-on, the keeper's order, AUX12's return, a PLL or a supply lost, a crossing at 1,100 ps, a wake and the release of thermal shutdown. A
thermal shutdown that the island has latched keeps its own cause (the model's reading, log 218). Where the spec leaves a point of it open, the choices
of log entries 153, 155, 218 hold. COMPLETION: for every state and operands that meet the conditions of its clause, which are on them alone, exec
answers a next state for each of these forms: auxPowerOn (R545), coldReset (R546), pfailRecovery (R556), pllLockLost (R539), supplyPgLost (R537),
xingReset (R553), wake (R544), thermalRelease (R352). (R537, R539, R546, R547, R553, R556, R40) -/
def Obligations.ColdResetCommandsTakeEffect : Prop :=
  (∀ (s : State) (r : Restart), s.Wf → s.rd V.auxUp = 0 → Gives (.auxPowerOn r) s (fun t => t.rd CRP_CAUSE.cold = 1 ∧ t.rd CRP_RSTCNT.cold = 1 ∧ t.now = 0 ∧ t.orders = {} ∧ t.rd V.auxUp = 1)) ∧
  (∀ (s : State) (r : Restart), s.Wf → s.rd CRP_RSTCTL.cold = 1 → Gives (.coldReset r) s (fun t => t.rd CRP_CAUSE.cold = s.causeAfter (if s.wipeOwed = true then 5 else 4) ∧ t.rd CRP_RSTCNT.cold = (s.rd CRP_RSTCNT.cold + 1) % 2 ^ 16 ∧ t.now = 0 ∧ t.orders = {} ∧ t.staging = {} ∧ t.tx = {} ∧ t.rd CRP_RTC.count = s.rd CRP_RTC.count ∧ t.rd CRP_RSTCTL.cold = 0)) ∧
  (∀ (s : State) (r : Restart), s.Wf → s.rd CRP_PFSTAT.warn = 1 → s.rd V.auxUp = 1 → s.rd V.thermHold = 0 → s.rd V.auxBack ≠ 0 → max (s.rd V.auxBack) (s.rd V.pfAt) + 40000000 ≤ s.now + 1 → (s.rd V.thermAt = 0 ∨ s.rd V.pfAt < s.rd V.thermAt) → Gives (.pfailRecovery r) s (fun t => t.rd CRP_CAUSE.cold = s.causeAfter 2 ∧ t.rd CRP_RSTCNT.cold = (s.rd CRP_RSTCNT.cold + 1) % 2 ^ 16 ∧ t.now = 0 ∧ t.orders = {} ∧ t.staging = {} ∧ t.tx = {} ∧ t.rd CRP_PFSTAT.warn = 0)) ∧
  (∀ (s : State) (r : Restart), s.Wf → bit (s.rd V.pllLock) 0 = true → Gives (.pllLockLost 0 r) s (fun t => t.rd CRP_CAUSE.cold = s.causeAfter 0xB ∧ t.rd CRP_RSTCNT.cold = (s.rd CRP_RSTCNT.cold + 1) % 2 ^ 16 ∧ t.now = 0 ∧ t.orders = {} ∧ t.staging = {} ∧ t.tx = {})) ∧
  (∀ (s : State) (r : Restart), s.Wf → s.rd CRP_SUPSTAT.supply_en = 1 → s.rd CRP_PFSTAT.warn = 0 → s.rd V.supLow ≠ 0 → s.rd V.supLow + 8000 ≤ s.now + 1 → Gives (.supplyPgLost r) s (fun t => t.rd CRP_CAUSE.cold = s.causeAfter 0xA ∧ t.rd CRP_RSTCNT.cold = (s.rd CRP_RSTCNT.cold + 1) % 2 ^ 16 ∧ t.now = 0 ∧ t.orders = {} ∧ t.staging = {} ∧ t.tx = {})) ∧
  (∀ (s : State) (x : Nat) (w : Int) (r : Restart), s.Wf → x < 6 → 1100 ≤ w.natAbs → s.rd CRP_PFSTAT.warn = 0 → Gives (.xingReset x w r) s (fun t => t.rd CRP_CAUSE.cold = s.causeAfter 9 ∧ t.rd CRP_RSTCNT.cold = (s.rd CRP_RSTCNT.cold + 1) % 2 ^ 16 ∧ t.now = 0 ∧ t.orders = {} ∧ t.staging = {} ∧ t.tx = {})) ∧
  (∀ (s : State) (src : Nat) (supplies : List Nat) (r : RomFind), s.Wf → s.rd V.standby = 1 → src < 6 → bit (s.rd CRP_WAKEEN.en) src = true → s.wakeCalls src = true → Gives (.wake src supplies r) s (fun t => t.rd CRP_CAUSE.cold = s.causeAfter 8 ∧ t.rd CRP_RSTCNT.cold = (s.rd CRP_RSTCNT.cold + 1) % 2 ^ 16 ∧ t.now = 0 ∧ t.orders = {} ∧ t.staging = {} ∧ t.tx = {} ∧ t.rd CRP_WAKESRC.src = 2 ^ src ∧ t.rd V.standby = 0)) ∧
  (∀ (s : State) (r : Restart), s.Wf → s.rd V.thermHold = 1 → s.rd V.coolSince ≠ 0 → s.rd V.coolSince + 4000000000 ≤ s.now + 1 → Gives (.thermalRelease r) s (fun t => t.rd CRP_CAUSE.cold = (if s.rd CRP_CAUSE.cold = 2 then 2 else 3) ∧ t.rd CRP_RSTCNT.cold = (s.rd CRP_RSTCNT.cold + 1) % 2 ^ 16 ∧ t.now = 0 ∧ t.orders = {} ∧ t.staging = {} ∧ t.tx = {} ∧ t.rd V.thermHold = 0))

/-- A management reset, ordered by the keeper, by a halted keeper core or by the watchdog, is counted with its cause and keeps tray time, the orders,
the links, the lanes and the fabric (R546, R549, R550). A prediction reset is counted with its cause, keeps the orders and the fabric, and the Moraine
is to be wiped (R546, R547). Where the spec leaves a point of it open, the choices of log entries 154, 156, 212 hold. COMPLETION: for every state and
operands that meet the conditions of its clause, which are on them alone, exec answers a next state for each of these forms: managementReset (R547),
wdogExpire (R549), predictionReset (R546), wdogKick (R549). (R546, R547, R549, R550) -/
def Obligations.OtherResetCommandsTakeEffect : Prop :=
  (∀ (s : State) (halted : Bool) (bad : Nat), s.Wf → (halted = true ∨ s.rd CRP_RSTCTL.mgmt = 1) → s.rd (V.planeHeld 3) = 0 → Gives (.managementReset halted bad) s (fun t => t.rd CRP_CAUSE.mgmt = (if halted then 0x23 else 0x20) ∧ t.rd CRP_RSTCNT.mgmt = (s.rd CRP_RSTCNT.mgmt + 1) % 2 ^ 16 ∧ t.rd CRP_EVT.mreset = 1 ∧ t.now = s.now ∧ t.orders = s.orders ∧ t.links = s.links ∧ t.lanes = s.lanes ∧ t.fab = s.fab ∧ t.staging = s.staging)) ∧
  (∀ (s : State) (bad : Nat), s.Wf → s.rd CRP_WDOGCFG.en = 1 → s.rd V.wdogAt + s.rd CRP_WDOGCFG.period * 4000000 ≤ s.now → Gives (.wdogExpire bad) s (fun t => t.rd CRP_CAUSE.mgmt = 0x21 ∧ t.rd CRP_RSTCNT.mgmt = (s.rd CRP_RSTCNT.mgmt + 1) % 2 ^ 16 ∧ t.rd CRP_WDOGCFG.en = 0 ∧ t.now = s.now ∧ t.orders = s.orders)) ∧
  (∀ (s : State), s.Wf → s.rd CRP_RSTCTL.pred = 1 → s.rd (V.planeHeld 1) = 0 → Gives (.predictionReset) s (fun t => t.rd CRP_CAUSE.pred = 0x40 ∧ t.rd V.predResets = (s.rd V.predResets + 1) % 2 ^ 32 ∧ bit (t.rd MEM_STAT.wipe) 1 = true ∧ t.now = s.now ∧ t.orders = s.orders ∧ t.fab = s.fab)) ∧
  (∀ (s : State) (req value : Nat), s.Wf → s.Reaches req 0x130_0018 4 value true → value = 0x0F08 → Gives (.wdogKick req value) s (fun t => t.rd V.wdogAt = s.now % 2 ^ 64 ∧ OnlyFields [V.wdogAt] s t))

/-- A write that asks for standby waits for the island to judge it at the next boundary, where it is accepted, or refused with its code; 1 ms after
acceptance every plane is held and the supplies are off (R543). A power-fail warning is kept, and LPDDR5X loses its contents (R554); at 7.0 V the
island stops. A PLL that locks or loses lock is shown and recorded (R539). The reference is lost and comes back (R540). The crystal becomes valid
(R545). A crossing's wander keeps its peak and raises the alarm beyond 900 ps (R553). Where the spec leaves a point of it open, the choices of log
entries 157, 158, 159 hold. COMPLETION: for every state and operands that meet the conditions of its clause, which are on them alone, exec answers a
next state for each of these forms: standbyEnter (R543), standbyHold (R543), powerFail (R554), auxDropout (R554), pllLockLost (R539), pllLocked
(R539), refLost (R540), refBack (R540), xtalValid (R545), xingAlarm (R553). (R539, R540, R543, R545, R553, R554) -/
def Obligations.PowerAndClockCommandsTakeEffect : Prop :=
  (∀ s : State, s.rd V.sbAsk = 1 → s.standbyCode = 0 → (s.does standbyJudge).rd V.sbAt = (s.now + 1) % 2 ^ 64 ∧ (s.does standbyJudge).rd V.sbAsk = 0 ∧ Raised Ty.STANDBY (s.does standbyJudge) ∧ OnlyFields [V.sbAsk, V.sbAt] s (s.does standbyJudge)) ∧
  (∀ s : State, s.rd V.sbAsk = 1 → s.standbyCode ≠ 0 → (s.does standbyJudge).rd CRP_SBSTAT.code = s.standbyCode ∧ (s.does standbyJudge).rd V.sbAt = s.rd V.sbAt ∧ (s.does standbyJudge).rd CRP_EVT.sb_refused = 1 ∧ Raised Ty.STANDBY (s.does standbyJudge) ∧ OnlyFields [V.sbAsk, CRP_SBSTAT.code, CRP_EVT.sb_refused] s (s.does standbyJudge)) ∧
  (∀ (s : State) (req value : Nat), s.Wf → s.Reaches req 0x130_0040 4 value true → bit value 0 = true → Gives (.standbyEnter req value) s (fun t => t.rd V.sbAsk = 1 ∧ OnlyFields [V.sbAsk] s t)) ∧
  (∀ (s : State) (p : Nat), s.Wf → p < 4 → s.rd V.sbAt ≠ 0 → s.rd V.sbAt - 1 + 4000000 ≤ s.now → Gives (.standbyHold) s (fun t => t.rd V.standby = 1 ∧ t.rd (V.planeHeld p) = 1 ∧ t.rd CRP_SUPSTAT.supply_en = 0 ∧ t.rd CRP_RTC.count = s.rd CRP_RTC.count)) ∧
  (∀ (s : State) (ext ledger : Bool) (aux12 : Nat), s.Wf → s.rd CRP_PFSTAT.warn = 0 → s.rd V.auxUp = 1 → s.rd (V.planeHeld 0) = 0 → if ext = true then s.rd Sig.auxPf = 1 else aux12 < 920 → Gives (.powerFail ext aux12 ledger) s (fun t => t.rd CRP_PFSTAT.warn = 1 ∧ t.rd CRP_PFSTAT.ext = ofBool ext ∧ t.rd MEM_STAT.lp_state = 0 ∧ t.now = s.now)) ∧
  (∀ (s : State) (p : Nat), s.Wf → p < 4 → s.rd CRP_PFSTAT.warn = 1 → Gives (.auxDropout) s (fun t => t.rd V.auxUp = 0 ∧ t.rd (V.planeHeld p) = 1)) ∧
  (∀ (s : State) (k : Nat) (r : Restart), s.Wf → 1 ≤ k → k < 8 → bit (s.rd V.pllLock) k = true → Gives (.pllLockLost k r) s (fun t => bit (t.rd V.pllLock) k = false ∧ bit (t.rd CRP_PLLSTAT.lock) k = false ∧ t.rd CRP_EVT.pll = 1 ∧ Raised Ty.CLOCK_EVENT t ∧ t.now = s.now)) ∧
  (∀ (s : State) (k ns : Nat), s.Wf → k < 8 → s.pllRuns k = true → bit (s.rd V.pllLock) k = false → Gives (.pllLocked k ns) s (fun t => bit (t.rd CRP_PLLSTAT.lock) k = true ∧ bit (t.rd CRP_PLLSTAT.run) k = true ∧ Raised Ty.CLOCK_EVENT t ∧ OnlyFields [V.pllLock, CRP_PLLSTAT.lock, CRP_PLLSTAT.run] s t)) ∧
  (∀ (s : State), s.Wf → s.rd CRP_CLKSTAT.ref_lost = 0 → Gives (.refLost) s (fun t => t.rd CRP_CLKSTAT.ref_lost = 1 ∧ Raised Ty.CLOCK_EVENT t ∧ OnlyFields [CRP_CLKSTAT.ref_lost, CRP_EVT.ref] s t)) ∧
  (∀ (s : State), s.Wf → s.rd CRP_CLKSTAT.ref_lost = 1 → Gives (.refBack) s (fun t => t.rd CRP_CLKSTAT.ref_lost = 0 ∧ Raised Ty.CLOCK_EVENT t ∧ OnlyFields [CRP_CLKSTAT.ref_lost, CRP_EVT.ref] s t)) ∧
  (∀ (s : State), s.Wf → Gives (.xtalValid) s (fun t => t.rd CRP_CLKSTAT.xtal_ok = 1 ∧ OnlyFields [CRP_CLKSTAT.xtal_ok] s t)) ∧
  (∀ (s : State) (x : Nat) (w : Int), s.Wf → x < 6 → Gives (.xingAlarm x w) s (fun t => t.rd (CRP_XWANDER.peak x) = max (s.rd (CRP_XWANDER.peak x)) w.natAbs % 2 ^ (CRP_XWANDER.peak x).width ∧ t.rd (V.xingOn x) = (if 900 < w.natAbs then 1 else 0)))
end

