-- ==== Sys2Proof/Laws/Table.lean ====
section
/-! SUPPORT. What the operations over sparse tables and over the byte memory do, and that they keep the canonical form. -/

namespace Sys2Proof.Machine

variable {α : Type}

/-- A key lies below every key of a table. -/
def BelowAll (i : Nat) (m : List (Nat × α)) : Prop := ∀ e ∈ m, i < e.1

theorem sorted_cons (k : Nat) (v : α) (m : List (Nat × α)) : tableSorted ((k, v) :: m) = true ↔ BelowAll k m ∧ tableSorted m = true := by
  induction m generalizing k v with
  | nil => simp [tableSorted, BelowAll]
  | cons e m ih =>
    obtain ⟨j, w⟩ := e
    simp only [tableSorted, Bool.and_eq_true, decide_eq_true_eq]
    constructor
    · rintro ⟨hk, hs⟩
      refine ⟨?_, hs⟩
      intro e he
      rcases List.mem_cons.mp he with rfl | he
      · exact hk
      · exact Nat.lt_trans hk (((ih j w).mp hs).1 e he)
    · rintro ⟨hb, hs⟩
      exact ⟨hb (j, w) (by simp), hs⟩

theorem find_below {i : Nat} {m : List (Nat × α)} (h : BelowAll i m) : tableFind? m i = none := by
  induction m with
  | nil => rfl
  | cons e m ih =>
    obtain ⟨k, v⟩ := e
    have hk : i < k := h (k, v) (by simp)
    simp [tableFind?, Nat.ne_of_gt hk, ih (fun e he => h e (by simp [he]))]

@[simp] theorem find_insert_same (m : List (Nat × α)) (i : Nat) (v : α) : tableFind? (tableInsert m i v) i = some v := by
  induction m with
  | nil => simp [tableInsert, tableFind?]
  | cons e m ih =>
    obtain ⟨k, w⟩ := e
    simp only [tableInsert]
    split
    · simp [tableFind?]
    · split
      · simp [tableFind?]
      · rename_i h1 h2
        simp [tableFind?, Ne.symm h2, ih]

theorem find_insert_ne (m : List (Nat × α)) {i j : Nat} (v : α) (h : j ≠ i) : tableFind? (tableInsert m i v) j = tableFind? m j := by
  induction m with
  | nil => simp [tableInsert, tableFind?, Ne.symm h]
  | cons e m ih =>
    obtain ⟨k, w⟩ := e
    simp only [tableInsert]
    split
    · simp [tableFind?, Ne.symm h]
    · split
      · rename_i h1 h2
        subst h2
        simp [tableFind?, Ne.symm h]
      · simp [tableFind?, ih]

theorem find_erase_ne (m : List (Nat × α)) {i j : Nat} (h : j ≠ i) : tableFind? (tableErase m i) j = tableFind? m j := by
  induction m with
  | nil => rfl
  | cons e m ih =>
    obtain ⟨k, w⟩ := e
    simp only [tableErase]
    split
    · rename_i hk
      subst hk
      simp [tableFind?, Ne.symm h]
    · simp [tableFind?, ih]

theorem find_erase_same {m : List (Nat × α)} (i : Nat) (h : tableSorted m = true) : tableFind? (tableErase m i) i = none := by
  induction m with
  | nil => rfl
  | cons e m ih =>
    obtain ⟨k, w⟩ := e
    have hs := (sorted_cons k w m).mp h
    simp only [tableErase]
    split
    · rename_i hk
      subst hk
      exact find_below hs.1
    · rename_i hk
      simp [tableFind?, hk, ih hs.2]

theorem get_put_same [DecidableEq α] (d : α) {m : List (Nat × α)} (i : Nat) (v : α) (h : tableSorted m = true) : tableGet d (tablePut d m i v) i = v := by
  unfold tableGet tablePut
  split
  · rename_i hv
    simp [find_erase_same i h, hv]
  · simp

theorem get_put_ne [DecidableEq α] (d e : α) (m : List (Nat × α)) {i j : Nat} (v : α) (h : j ≠ i) : tableGet e (tablePut d m i v) j = tableGet e m j := by
  unfold tableGet tablePut
  split
  · rw [find_erase_ne m h]
  · rw [find_insert_ne m v h]

theorem mem_insert {m : List (Nat × α)} {i : Nat} {v : α} {e : Nat × α} (h : e ∈ tableInsert m i v) : e = (i, v) ∨ e ∈ m := by
  induction m with
  | nil => simpa [tableInsert] using h
  | cons x m ih =>
    obtain ⟨k, w⟩ := x
    simp only [tableInsert] at h
    split at h
    · simpa using h
    · split at h
      · rcases List.mem_cons.mp h with h | h
        · exact .inl h
        · exact .inr (by simp [h])
      · rcases List.mem_cons.mp h with h | h
        · exact .inr (by simp [h])
        · rcases ih h with h | h
          · exact .inl h
          · exact .inr (by simp [h])

theorem mem_erase {m : List (Nat × α)} {i : Nat} {e : Nat × α} (h : e ∈ tableErase m i) : e ∈ m := by
  induction m with
  | nil => exact h
  | cons x m ih =>
    obtain ⟨k, w⟩ := x
    simp only [tableErase] at h
    split at h
    · simp [h]
    · rcases List.mem_cons.mp h with h | h
      · simp [h]
      · simp [ih h]

theorem insert_sorted {m : List (Nat × α)} (i : Nat) (v : α) (h : tableSorted m = true) : tableSorted (tableInsert m i v) = true := by
  induction m with
  | nil => rfl
  | cons x m ih =>
    obtain ⟨k, w⟩ := x
    have hs := (sorted_cons k w m).mp h
    simp only [tableInsert]
    split
    · rename_i hk
      refine (sorted_cons i v _).mpr ⟨?_, h⟩
      intro e he
      rcases List.mem_cons.mp he with rfl | he
      · exact hk
      · exact Nat.lt_trans hk (hs.1 e he)
    · split
      · rename_i h1 h2
        subst h2
        exact (sorted_cons _ v m).mpr hs
      · rename_i h1 h2
        refine (sorted_cons k w _).mpr ⟨?_, ih hs.2⟩
        intro e he
        rcases mem_insert he with rfl | he
        · simp only; omega
        · exact hs.1 e he

theorem erase_sorted {m : List (Nat × α)} (i : Nat) (h : tableSorted m = true) : tableSorted (tableErase m i) = true := by
  induction m with
  | nil => rfl
  | cons x m ih =>
    obtain ⟨k, w⟩ := x
    have hs := (sorted_cons k w m).mp h
    simp only [tableErase]
    split
    · exact hs.2
    · exact (sorted_cons k w _).mpr ⟨fun e he => hs.1 e (mem_erase he), ih hs.2⟩

theorem put_sorted [DecidableEq α] (d : α) {m : List (Nat × α)} (i : Nat) (v : α) (h : tableSorted m = true) : tableSorted (tablePut d m i v) = true := by
  unfold tablePut
  split
  · exact erase_sorted i h
  · exact insert_sorted i v h

theorem drop_sorted (p : Nat → Bool) {m : List (Nat × α)} (h : tableSorted m = true) : tableSorted (tableDrop p m) = true := by
  unfold tableDrop
  induction m with
  | nil => rfl
  | cons x m ih =>
    obtain ⟨k, w⟩ := x
    have hs := (sorted_cons k w m).mp h
    simp only [List.filter_cons]
    split
    · exact (sorted_cons k w _).mpr ⟨fun e he => hs.1 e (List.mem_filter.mp he).1, ih hs.2⟩
    · exact ih hs.2

theorem put_wf [DecidableEq α] {d : α} {m : List (Nat × α)} (i : Nat) (v : α) (h : tableWf d m = true) : tableWf d (tablePut d m i v) = true := by
  simp only [tableWf, tableNoDefault, Bool.and_eq_true, List.all_eq_true, bne_iff_ne] at h ⊢
  refine ⟨put_sorted d i v h.1, ?_⟩
  unfold tablePut
  split
  · exact fun e he => h.2 e (mem_erase he)
  · rename_i hv
    intro e he
    rcases mem_insert he with rfl | he
    · exact hv
    · exact h.2 e he

theorem drop_wf [DecidableEq α] {d : α} (p : Nat → Bool) {m : List (Nat × α)} (h : tableWf d m = true) : tableWf d (tableDrop p m) = true := by
  simp only [tableWf, tableNoDefault, Bool.and_eq_true, List.all_eq_true, bne_iff_ne] at h ⊢
  exact ⟨drop_sorted p h.1, fun e he => h.2 e (List.mem_filter.mp he).1⟩

/-- A dropped key is not found. -/
theorem find_drop_in (p : Nat → Bool) (m : List (Nat × α)) {i : Nat} (h : p i = true) : tableFind? (tableDrop p m) i = none := by
  induction m with
  | nil => rfl
  | cons e m ih =>
    obtain ⟨k, w⟩ := e
    unfold tableDrop at ih ⊢
    simp only [List.filter_cons]
    split
    · rename_i hk
      have : k ≠ i := by
        rintro rfl
        rw [h] at hk
        exact absurd hk (by decide)
      simp only [tableFind?, if_neg this]
      exact ih
    · exact ih

/-- A key that is not dropped is found as before. -/
theorem find_drop_out (p : Nat → Bool) (m : List (Nat × α)) {i : Nat} (h : p i = false) : tableFind? (tableDrop p m) i = tableFind? m i := by
  induction m with
  | nil => rfl
  | cons e m ih =>
    obtain ⟨k, w⟩ := e
    unfold tableDrop at ih ⊢
    simp only [List.filter_cons]
    split
    · simp only [tableFind?]
      split
      · rfl
      · exact ih
    · rename_i hk
      have : k ≠ i := by
        rintro rfl
        rw [h] at hk
        exact hk rfl
      simp only [tableFind?, if_neg this]
      exact ih

/-! The byte memory. -/

/-- Writing one byte keeps the form of memory. -/
theorem memSetByte_wf {m : List Host.Cell} (a v : Nat) (h : Memory.wf m = true) : Memory.wf (memSetByte m a v) = true := put_wf a _ h

/-- Writing bytes keeps the form of memory. -/
theorem memSetBytes_wf {m : List Host.Cell} (a : Nat) (bs : List Nat) (h : Memory.wf m = true) : Memory.wf (memSetBytes m a bs) = true := by
  induction bs generalizing m a with
  | nil => exact h
  | cons b bs ih => exact ih (a + 1) (memSetByte_wf a b h)

/-- Wiping a range keeps the form of memory. -/
theorem memWipe_wf {m : List Host.Cell} (p : Nat → Bool) (h : Memory.wf m = true) : Memory.wf (tableDrop p m) = true := drop_wf p h

/-- A written byte reads back. -/
theorem memByte_set_same {m : List Host.Cell} (a v : Nat) (h : Memory.wf m = true) : memByte (memSetByte m a v) a = v % 256 := by
  have hs : tableSorted m = true := by simpa [Memory.wf, tableWf] using (by simpa [Memory.wf, tableWf] using h : _ ∧ _).1
  unfold memByte memSetByte
  rw [get_put_same memDefault a _ hs]
  simp

/-- Every other byte reads as before. -/
theorem memByte_set_ne (m : List Host.Cell) {a b : Nat} (v : Nat) (h : b ≠ a) : memByte (memSetByte m a v) b = memByte m b := by
  unfold memByte memSetByte
  rw [get_put_ne memDefault memDefault m _ h]

/-- Bytes outside the range written read as before. -/
theorem memByte_setBytes_out (m : List Host.Cell) {a b : Nat} (bs : List Nat) (h : b < a ∨ a + bs.length ≤ b) :
    memByte (memSetBytes m a bs) b = memByte m b := by
  induction bs generalizing m a with
  | nil => rfl
  | cons x bs ih =>
    simp only [memSetBytes]
    rw [ih _ (by simp only [List.length_cons] at h; omega), memByte_set_ne _ _ (by simp only [List.length_cons] at h; omega)]

end Sys2Proof.Machine
end

