-- ==== Sys2Proof/Laws/State.lean ====
section
/-! SUPPORT. What each update does to each part of the state, and what a list of updates keeps. -/

namespace Sys2Proof.Machine

/-! Lists of updates. -/

@[simp] theorem run_nil (s : State) : s.run [] = s := rfl
@[simp] theorem run_cons (s : State) (u : Upd) (us : List Upd) : s.run (u :: us) = (s.apply u).run us := rfl
theorem run_append (s : State) (us vs : List Upd) : s.run (us ++ vs) = (s.run us).run vs := List.foldl_append
@[simp] theorem does_eq (s : State) (fx : State → List Upd) : s.does fx = s.run (fx s) := rfl
@[simp] theorem onlyIf_true (us : List Upd) : onlyIf true us = us := rfl
@[simp] theorem onlyIf_false (us : List Upd) : onlyIf false us = [] := rfl
@[simp] theorem whenever_true (s t : State) : whenever true s t = .next t := rfl
@[simp] theorem whenever_false (s t : State) : whenever false s t = .next s := rfl

/-! An update that writes no register field leaves them all; each update touches its own part alone. -/

@[simp] theorem apply_set_mem (s : State) (f : Fld) (v : Nat) : (s.apply (.set f v)).mem = s.mem := rfl
@[simp] theorem apply_set_now (s : State) (f : Fld) (v : Nat) : (s.apply (.set f v)).now = s.now := rfl
@[simp] theorem apply_set_firn (s : State) (f : Fld) (v : Nat) : (s.apply (.set f v)).firn = s.firn := rfl
@[simp] theorem apply_set_orders (s : State) (f : Fld) (v : Nat) : (s.apply (.set f v)).orders = s.orders := rfl
@[simp] theorem apply_set_staging (s : State) (f : Fld) (v : Nat) : (s.apply (.set f v)).staging = s.staging := rfl
@[simp] theorem apply_set_tx (s : State) (f : Fld) (v : Nat) : (s.apply (.set f v)).tx = s.tx := rfl
@[simp] theorem apply_set_bus (s : State) (f : Fld) (v : Nat) : (s.apply (.set f v)).bus = s.bus := rfl
@[simp] theorem apply_set_lanes (s : State) (f : Fld) (v : Nat) : (s.apply (.set f v)).lanes = s.lanes := rfl
@[simp] theorem apply_set_links (s : State) (f : Fld) (v : Nat) : (s.apply (.set f v)).links = s.links := rfl
@[simp] theorem apply_set_hints (s : State) (f : Fld) (v : Nat) : (s.apply (.set f v)).hints = s.hints := rfl
@[simp] theorem apply_set_prd (s : State) (f : Fld) (v : Nat) : (s.apply (.set f v)).prd = s.prd := rfl
@[simp] theorem apply_set_fab (s : State) (f : Fld) (v : Nat) : (s.apply (.set f v)).fab = s.fab := rfl
@[simp] theorem apply_set_jobs (s : State) (f : Fld) (v : Nat) : (s.apply (.set f v)).jobs = s.jobs := rfl
@[simp] theorem apply_set_gq (s : State) (f : Fld) (v : Nat) : (s.apply (.set f v)).gq = s.gq := rfl
@[simp] theorem apply_set_bufs (s : State) (f : Fld) (v : Nat) : (s.apply (.set f v)).bufs = s.bufs := rfl
@[simp] theorem apply_set_memu (s : State) (f : Fld) (v : Nat) : (s.apply (.set f v)).memu = s.memu := rfl
@[simp] theorem apply_set_ue (s : State) (f : Fld) (v : Nat) : (s.apply (.set f v)).ue = s.ue := rfl
@[simp] theorem apply_set_pending (s : State) (f : Fld) (v : Nat) : (s.apply (.set f v)).pending = s.pending := rfl

@[simp] theorem apply_emit_mem (s : State) (r : Rec) : (s.apply (.emit r)).mem = s.mem := rfl
@[simp] theorem apply_emit_now (s : State) (r : Rec) : (s.apply (.emit r)).now = s.now := rfl
@[simp] theorem apply_emit_firn (s : State) (r : Rec) : (s.apply (.emit r)).firn = s.firn.raise s.now r := rfl
@[simp] theorem apply_emit_orders (s : State) (r : Rec) : (s.apply (.emit r)).orders = s.orders := rfl
@[simp] theorem apply_emit_staging (s : State) (r : Rec) : (s.apply (.emit r)).staging = s.staging := rfl
@[simp] theorem apply_emit_tx (s : State) (r : Rec) : (s.apply (.emit r)).tx = s.tx := rfl
@[simp] theorem apply_emit_bus (s : State) (r : Rec) : (s.apply (.emit r)).bus = s.bus := rfl
@[simp] theorem apply_emit_lanes (s : State) (r : Rec) : (s.apply (.emit r)).lanes = s.lanes := rfl
@[simp] theorem apply_emit_links (s : State) (r : Rec) : (s.apply (.emit r)).links = s.links := rfl
@[simp] theorem apply_emit_hints (s : State) (r : Rec) : (s.apply (.emit r)).hints = s.hints := rfl
@[simp] theorem apply_emit_prd (s : State) (r : Rec) : (s.apply (.emit r)).prd = s.prd := rfl
@[simp] theorem apply_emit_fab (s : State) (r : Rec) : (s.apply (.emit r)).fab = s.fab := rfl
@[simp] theorem apply_emit_jobs (s : State) (r : Rec) : (s.apply (.emit r)).jobs = s.jobs := rfl
@[simp] theorem apply_emit_gq (s : State) (r : Rec) : (s.apply (.emit r)).gq = s.gq := rfl
@[simp] theorem apply_emit_bufs (s : State) (r : Rec) : (s.apply (.emit r)).bufs = s.bufs := rfl
@[simp] theorem apply_emit_memu (s : State) (r : Rec) : (s.apply (.emit r)).memu = s.memu := rfl
@[simp] theorem apply_emit_ue (s : State) (r : Rec) : (s.apply (.emit r)).ue = s.ue := rfl
@[simp] theorem apply_emit_pending (s : State) (r : Rec) : (s.apply (.emit r)).pending = s.pending := rfl

theorem apply_store (s : State) (a : Nat) (bs : List Nat) : (s.apply (.store a bs)).mem = memSetBytes s.mem a bs := rfl
theorem apply_wipe (s : State) (lo hi : Nat) : (s.apply (.wipe lo hi)).mem = tableDrop (fun a => decide (lo ≤ a) && decide (a < hi)) s.mem := rfl
theorem apply_flush (s : State) : s.apply .flushVectors = { s with regs := flushVectors s.regs } := by simp only [State.apply]
@[simp] theorem apply_clock_now (s : State) (t : Nat) : (s.apply (.clock t)).now = max s.now t := rfl
@[simp] theorem apply_orders (s : State) (o : Orders) : s.apply (.orders o) = { s with orders := o } := rfl
@[simp] theorem apply_staging (s : State) (g : Staging) : s.apply (.staging g) = { s with staging := g } := rfl
@[simp] theorem apply_tx (s : State) (t : Tx) : s.apply (.tx t) = { s with tx := t } := rfl
@[simp] theorem apply_bus (s : State) (b : Bus) : s.apply (.bus b) = { s with bus := b } := rfl
@[simp] theorem apply_lane (s : State) (i : Nat) (l : Lane) : s.apply (.lane i l) = { s with lanes := tablePut {} s.lanes i l } := rfl
@[simp] theorem apply_link (s : State) (n : Nat) (l : Link) : s.apply (.link n l) = { s with links := tablePut {} s.links n l } := rfl
@[simp] theorem apply_hints (s : State) (hs : List Hint) : s.apply (.hints hs) = { s with hints := hs } := rfl
@[simp] theorem apply_prd (s : State) (n : Nat) (p : PrdSlot) : s.apply (.prd n p) = { s with prd := tablePut {} s.prd n p } := rfl
@[simp] theorem apply_ue (s : State) (l : List Nat) : s.apply (.ue l) = { s with ue := l } := rfl
@[simp] theorem apply_fab (s : State) (f : Fab) : s.apply (.fab f) = { s with fab := f } := rfl
@[simp] theorem apply_job (s : State) (j : Nat) (r : JobRun) : s.apply (.job j r) = { s with jobs := tablePut {} s.jobs j r } := rfl
@[simp] theorem apply_gq (s : State) (l : List Queued) : s.apply (.gq l) = { s with gq := l } := rfl
@[simp] theorem apply_bufs (s : State) (l : List HostBuf) : s.apply (.bufs l) = { s with bufs := l } := rfl
@[simp] theorem apply_memu (s : State) (m : MemUnit) : s.apply (.memu m) = { s with memu := m } := rfl

/-! Register fields. -/

theorem rd_of_regs {s t : State} (f : Fld) (h : t.regs = s.regs) : t.rd f = s.rd f := by simp [State.rd, h]

/-- A field reads below its width. -/
theorem regsRd_lt (m : SMap Nat) (f : Fld) : regsRd m f < 2 ^ f.width := Nat.mod_lt _ (Nat.two_pow_pos _)
theorem rd_lt (s : State) (f : Fld) : s.rd f < 2 ^ f.width := regsRd_lt s.regs f

/-- A field just set reads the value, cut to its width. -/
theorem regsRd_set_same {m : SMap Nat} (f : Fld) (v : Nat) (h : tableSorted m = true) : regsRd (regsSet m f v) f = v % 2 ^ f.width := by
  unfold regsRd regsSet
  rw [get_put_same f.reset f.key _ h, Nat.mod_mod]

/-- Setting a field leaves every other. -/
theorem regsRd_set_ne (m : SMap Nat) {f g : Fld} (v : Nat) (h : g.key ≠ f.key) : regsRd (regsSet m f v) g = regsRd m g := by
  unfold regsRd regsSet
  rw [get_put_ne f.reset g.reset m _ h]

theorem regsSet_sorted {m : SMap Nat} (f : Fld) (v : Nat) (h : tableSorted m = true) : tableSorted (regsSet m f v) = true := put_sorted _ _ _ h

theorem sent_ne {g : Fld} (h : messageField g = false) (v : Nat) : g.key ≠ (V.msixSent (v % 1024)).key := by
  simp only [messageField, Bool.or_eq_false_iff, Bool.and_eq_false_iff, decide_eq_false_iff_not, beq_eq_false_iff_ne] at h
  obtain ⟨⟨h1, -⟩, -⟩ := h
  simp only [V.msixSent, ivar, Fld.key] at h1 ⊢
  omega

theorem new_ne {g : Fld} (h : messageField g = false) : g.key ≠ V.msixNew.key := by
  simp only [messageField, Bool.or_eq_false_iff, beq_eq_false_iff_ne] at h
  exact h.1.2

theorem pend_ne {g : Fld} (h : messageField g = false) (v : Nat) : g.key ≠ (HIF_PBA.pend (v % 1024 / 32)).key := by
  simp only [messageField, Bool.or_eq_false_iff, Bool.and_eq_false_iff, decide_eq_false_iff_not, beq_eq_false_iff_ne] at h
  obtain ⟨-, h2⟩ := h
  simp only [HIF_PBA.pend, Fld.key] at h2 ⊢
  omega

/-- A vector that is raised moves the MSI-X messages alone. -/
theorem regsRd_raiseVector (v : Nat) (m : SMap Nat) {g : Fld} (h : messageField g = false) : regsRd (raiseVector v m) g = regsRd m g := by
  unfold raiseVector
  simp only
  split
  · rfl
  · split
    · unfold sendVector
      rw [regsRd_set_ne _ _ (new_ne h), regsRd_set_ne _ _ (sent_ne h v)]
    · rw [regsRd_set_ne _ _ (pend_ne h v)]

theorem raiseVector_sorted (v : Nat) {m : SMap Nat} (h : tableSorted m = true) : tableSorted (raiseVector v m) = true := by
  unfold raiseVector
  simp only
  split
  · exact h
  · split
    · exact regsSet_sorted _ _ (regsSet_sorted _ _ h)
    · exact regsSet_sorted _ _ h

theorem regsRd_raiseLine (n : Nat) (m : SMap Nat) {g : Fld} (h : messageField g = false) : regsRd (raiseLine n m) g = regsRd m g := by
  unfold raiseLine
  split
  · exact regsRd_raiseVector _ m h
  · rfl

theorem raiseLine_sorted (n : Nat) {m : SMap Nat} (h : tableSorted m = true) : tableSorted (raiseLine n m) = true := by
  unfold raiseLine
  split
  · exact raiseVector_sorted _ h
  · exact h

theorem regsWrite_sorted {m : SMap Nat} (f : Fld) (v : Nat) (h : tableSorted m = true) : tableSorted (regsWrite m f v) = true := by
  unfold regsWrite
  split
  · exact regsSet_sorted f v h
  · split
    · exact raiseLine_sorted _ (regsSet_sorted f v h)
    · exact regsSet_sorted f v h

/-- An event line's rise aside, a written field reads its value. -/
theorem regsRd_write_same {m : SMap Nat} (f : Fld) (v : Nat) (hm : messageField f = false) (h : tableSorted m = true) :
    regsRd (regsWrite m f v) f = v % 2 ^ f.width := by
  unfold regsWrite
  split
  · exact regsRd_set_same f v h
  · split
    · rw [regsRd_raiseLine _ _ hm, regsRd_set_same f v h]
    · exact regsRd_set_same f v h

theorem regsRd_write_ne (m : SMap Nat) {f g : Fld} (v : Nat) (hm : messageField g = false) (h : g.key ≠ f.key) :
    regsRd (regsWrite m f v) g = regsRd m g := by
  unfold regsWrite
  split
  · exact regsRd_set_ne m v h
  · split
    · rw [regsRd_raiseLine _ _ hm, regsRd_set_ne m v h]
    · exact regsRd_set_ne m v h

theorem regsRd_jrnLine (f g : Firn) (m : SMap Nat) {x : Fld} (h : messageField x = false) : regsRd (jrnLine f g m) x = regsRd m x := by
  unfold jrnLine
  split
  · exact regsRd_raiseLine _ m h
  · rfl

theorem jrnLine_sorted (f g : Firn) {m : SMap Nat} (h : tableSorted m = true) : tableSorted (jrnLine f g m) = true := by
  unfold jrnLine
  split
  · exact raiseLine_sorted _ h
  · exact h

theorem flushVectors_sorted {m : SMap Nat} (h : tableSorted m = true) : tableSorted (flushVectors m) = true := by
  have aux : ∀ (l : List Nat) (m : SMap Nat), tableSorted m = true → tableSorted (l.foldl (fun n v =>
      if bit (regsRd n (HIF_PBA.pend (v / 32))) (v % 32) && regsRd n V.msixOn == 1 && vectorOpen n v then
        sendVector v (regsSet n (HIF_PBA.pend (v / 32)) (clearBit (regsRd n (HIF_PBA.pend (v / 32))) (v % 32)))
      else n) m) = true := by
    intro l
    induction l with
    | nil => exact fun _ h => h
    | cons v l ih =>
      intro m h
      simp only [List.foldl_cons]
      apply ih
      split
      · exact regsSet_sorted _ _ (regsSet_sorted _ _ (regsSet_sorted _ _ h))
      · exact h
  exact aux _ m h

/-! Reads after one update. -/

@[simp] theorem rd_set_same {s : State} (f : Fld) (v : Nat) (hm : messageField f = false) (h : tableSorted s.regs = true) :
    (s.apply (.set f v)).rd f = v % 2 ^ f.width := regsRd_write_same f v hm h
@[simp] theorem rd_set_ne (s : State) {f g : Fld} (v : Nat) (hm : messageField g = false) (h : g.key ≠ f.key) :
    (s.apply (.set f v)).rd g = s.rd g := regsRd_write_ne s.regs v hm h
@[simp] theorem rd_emit (s : State) (r : Rec) {g : Fld} (hm : messageField g = false) : (s.apply (.emit r)).rd g = s.rd g := regsRd_jrnLine _ _ _ hm
@[simp] theorem rd_firn (s : State) (f : Firn) {g : Fld} (hm : messageField g = false) : (s.apply (.firn f)).rd g = s.rd g := regsRd_jrnLine _ _ _ hm
@[simp] theorem rd_vector (s : State) (v : Nat) {g : Fld} (hm : messageField g = false) : (s.apply (.vector v)).rd g = s.rd g := regsRd_raiseVector v s.regs hm
@[simp] theorem rd_store (s : State) (a : Nat) (bs : List Nat) (g : Fld) : (s.apply (.store a bs)).rd g = s.rd g := rfl
@[simp] theorem rd_wipe (s : State) (lo hi : Nat) (g : Fld) : (s.apply (.wipe lo hi)).rd g = s.rd g := rfl
@[simp] theorem rd_clock (s : State) (t : Nat) (g : Fld) : (s.apply (.clock t)).rd g = s.rd g := rfl
@[simp] theorem rd_tally (s : State) (e i n : Nat) (g : Fld) : (s.apply (.tally e i n)).rd g = s.rd g := rfl
@[simp] theorem rd_carry (s : State) (p : Nat) (w : Bool) (n : Nat) (g : Fld) : (s.apply (.carry p w n)).rd g = s.rd g := rfl
@[simp] theorem rd_pmu (s : State) (u : PmcUnit) (g : Fld) : (s.apply (.pmu u)).rd g = s.rd g := rfl
@[simp] theorem rd_coldStart (s : State) (g : Fld) : (s.apply .coldStart).rd g = s.rd g := rfl
@[simp] theorem rd_memu (s : State) (m : MemUnit) (g : Fld) : (s.apply (.memu m)).rd g = s.rd g := rfl
@[simp] theorem rd_link (s : State) (n : Nat) (l : Link) (g : Fld) : (s.apply (.link n l)).rd g = s.rd g := rfl
@[simp] theorem rd_lane (s : State) (n : Nat) (l : Lane) (g : Fld) : (s.apply (.lane n l)).rd g = s.rd g := rfl
@[simp] theorem rd_prd (s : State) (n : Nat) (p : PrdSlot) (g : Fld) : (s.apply (.prd n p)).rd g = s.rd g := rfl
@[simp] theorem rd_job (s : State) (n : Nat) (r : JobRun) (g : Fld) : (s.apply (.job n r)).rd g = s.rd g := rfl
@[simp] theorem rd_orders (s : State) (o : Orders) (g : Fld) : (s.apply (.orders o)).rd g = s.rd g := rfl
@[simp] theorem rd_staging (s : State) (o : Staging) (g : Fld) : (s.apply (.staging o)).rd g = s.rd g := rfl
@[simp] theorem rd_tx (s : State) (t : Tx) (g : Fld) : (s.apply (.tx t)).rd g = s.rd g := rfl
@[simp] theorem rd_fab (s : State) (f : Fab) (g : Fld) : (s.apply (.fab f)).rd g = s.rd g := rfl

/-- Registers reset in a range of addresses read their reset values. -/
theorem rd_reset_in (s : State) (lo hi : Nat) {g : Fld} (h1 : lo * 64 ≤ g.key) (h2 : g.key < hi * 64) : (s.apply (.resetRegs lo hi)).rd g = g.reset % 2 ^ g.width := by
  have h := find_drop_in (fun k => decide (lo * 64 ≤ k) && decide (k < hi * 64)) s.regs (i := g.key) (by simp [h1, h2])
  simp only [State.apply, State.rd, regsRd, tableGet, h, Option.getD_none]

/-- Registers outside the range keep their values. -/
theorem rd_reset_out (s : State) (lo hi : Nat) {g : Fld} (h : g.key < lo * 64 ∨ hi * 64 ≤ g.key) : (s.apply (.resetRegs lo hi)).rd g = s.rd g := by
  have h := find_drop_out (fun k => decide (lo * 64 ≤ k) && decide (k < hi * 64)) s.regs (i := g.key) (by
    simp only [Bool.and_eq_false_iff, decide_eq_false_iff_not]
    omega)
  simp only [State.apply, State.rd, regsRd, tableGet, h]

/-! What every list of updates keeps. -/

/-- No update touches the queue of commands. -/
@[simp] theorem apply_pending (s : State) (u : Upd) : (s.apply u).pending = s.pending := by
  cases u
  case flushVectors => rw [apply_flush]
  all_goals rfl

theorem run_pending (s : State) (us : List Upd) : (s.run us).pending = s.pending := by
  induction us generalizing s with
  | nil => rfl
  | cons u us ih => simp [ih]

/-- Tray time never steps back, but at a cold start (R40). -/
theorem apply_now_le (s : State) (u : Upd) (h : u ≠ .coldStart) : s.now ≤ (s.apply u).now := by
  cases u
  case flushVectors => simp only [apply_flush, Nat.le_refl]
  all_goals first | exact Nat.le_max_left _ _ | exact Nat.le_refl _ | exact absurd rfl h

theorem run_now_le (s : State) (us : List Upd) (h : ∀ u ∈ us, u ≠ .coldStart) : s.now ≤ (s.run us).now := by
  induction us generalizing s with
  | nil => exact Nat.le_refl _
  | cons u us ih =>
    exact Nat.le_trans (apply_now_le s u (h u (by simp))) (ih _ (fun v hv => h v (by simp [hv])))

theorem wf_regs {s : State} {m : SMap Nat} (h : s.Wf) (hm : tableSorted m = true) : State.Wf { s with regs := m } := ⟨hm, h.2⟩

/-- Every update keeps the canonical form of every table. -/
theorem apply_wf {s : State} (u : Upd) (h : s.Wf) : (s.apply u).Wf := by
  have h0 := h
  obtain ⟨hr, hm, hl, hk, hp, hj⟩ := h
  cases u
  case set f v => exact ⟨regsWrite_sorted f v hr, hm, hl, hk, hp, hj⟩
  case store a bs => exact ⟨hr, memSetBytes_wf a bs hm, hl, hk, hp, hj⟩
  case emit r => exact ⟨jrnLine_sorted _ _ hr, hm, hl, hk, hp, hj⟩
  case resetRegs lo hi => exact ⟨drop_sorted (fun k => decide (lo * 64 ≤ k) && decide (k < hi * 64)) hr, hm, hl, hk, hp, hj⟩
  case wipe lo hi => exact ⟨hr, memWipe_wf (fun a => decide (lo ≤ a) && decide (a < hi)) hm, hl, hk, hp, hj⟩
  case firn f => exact ⟨jrnLine_sorted _ _ hr, hm, hl, hk, hp, hj⟩
  case lane i l => exact ⟨hr, hm, put_wf i l hl, hk, hp, hj⟩
  case link i l => exact ⟨hr, hm, hl, put_wf i l hk, hp, hj⟩
  case prd i l => exact ⟨hr, hm, hl, hk, put_wf i l hp, hj⟩
  case job i l => exact ⟨hr, hm, hl, hk, hp, put_wf i l hj⟩
  case vector v => exact ⟨raiseVector_sorted v hr, hm, hl, hk, hp, hj⟩
  case flushVectors =>
    rw [apply_flush]
    exact wf_regs h0 (flushVectors_sorted hr)
  case coldStart => exact ⟨hr, hm, rfl, rfl, rfl, rfl⟩
  all_goals exact ⟨hr, hm, hl, hk, hp, hj⟩

theorem run_wf {s : State} (us : List Upd) (h : s.Wf) : (s.run us).Wf := by
  induction us generalizing s with
  | nil => exact h
  | cons u us ih => exact ih (apply_wf u h)

/-! Functions made of updates. A meaning that is composed of `run`, `does`, `doEach` and folds of such functions goes from its
state to its answer by a list of updates; what every one of them does, the whole does. -/

/-- `t` is `s` after some list of updates, all of them `P`. -/
def Via (P : Upd → Prop) (s t : State) : Prop := ∃ us : List Upd, (∀ u ∈ us, P u) ∧ t = s.run us

theorem Via.refl {P : Upd → Prop} (s : State) : Via P s s := ⟨[], by simp, rfl⟩
theorem Via.trans {P : Upd → Prop} {s t u : State} (h : Via P s t) (k : Via P t u) : Via P s u := by
  obtain ⟨us, hu, rfl⟩ := h
  obtain ⟨vs, hv, rfl⟩ := k
  exact ⟨us ++ vs, by simpa [or_imp, forall_and] using ⟨hu, hv⟩, (run_append s us vs).symm⟩
theorem Via.run {P : Upd → Prop} {s t : State} (h : Via P s t) {us : List Upd} (hu : ∀ u ∈ us, P u) : Via P s (t.run us) := h.trans ⟨us, hu, rfl⟩
theorem Via.does {P : Upd → Prop} {s t : State} (h : Via P s t) {fx : State → List Upd} (hu : ∀ u ∈ fx t, P u) : Via P s (t.does fx) := h.trans ⟨fx t, hu, rfl⟩
theorem Via.ite {P : Upd → Prop} {s t u : State} {c : Prop} [Decidable c] (h : c → Via P s t) (k : ¬c → Via P s u) : Via P s (if c then t else u) := by
  split
  · exact h ‹_›
  · exact k ‹_›
theorem Via.foldl {P : Upd → Prop} {α : Type} {f : State → α → State} {l : List α} (hf : ∀ t, ∀ a ∈ l, Via P t (f t a)) {s t : State} (h : Via P s t) :
    Via P s (l.foldl f t) := by
  induction l generalizing t with
  | nil => exact h
  | cons a l ih => exact ih (fun t b hb => hf t b (by simp [hb])) (h.trans (hf t a (by simp)))
theorem Via.doEach {P : Upd → Prop} {α : Type} {s t : State} (h : Via P s t) {l : List α} {fx : α → State → List Upd} (hf : ∀ t, ∀ a ∈ l, ∀ u ∈ fx a t, P u) :
    Via P s (t.doEach l fx) := by
  unfold State.doEach
  exact Via.foldl (fun t a ha => ⟨fx a t, hf t a ha, rfl⟩) h
theorem Via.mono {P Q : Upd → Prop} {s t : State} (h : Via P s t) (k : ∀ u, P u → Q u) : Via Q s t :=
  h.imp (fun _ h => ⟨fun u hu => k u (h.1 u hu), h.2⟩)

/-- Updates listed only where a condition holds are as those listed. -/
theorem all_onlyIf {P : Upd → Prop} {c : Bool} {us : List Upd} (h : c = true → ∀ u ∈ us, P u) : ∀ u ∈ onlyIf c us, P u := by
  cases c
  · simp
  · exact h rfl
theorem all_append {P : Upd → Prop} {us vs : List Upd} (h : ∀ u ∈ us, P u) (k : ∀ u ∈ vs, P u) : ∀ u ∈ us ++ vs, P u := by
  simpa [or_imp, forall_and] using ⟨h, k⟩

theorem Via.wf {P : Upd → Prop} {s t : State} (h : Via P s t) (hs : s.Wf) : t.Wf := by
  obtain ⟨us, -, rfl⟩ := h
  exact run_wf us hs
theorem Via.pending {P : Upd → Prop} {s t : State} (h : Via P s t) : t.pending = s.pending := by
  obtain ⟨us, -, rfl⟩ := h
  exact run_pending s us

/-- `t` is `s` after some list of updates. -/
abbrev Comes (s t : State) : Prop := Via (fun _ => True) s t

/-- `t` is `s` after some list of updates, none of them a cold start. -/
abbrev Moves (s t : State) : Prop := Via (fun u => u ≠ .coldStart) s t

theorem Via.comes {P : Upd → Prop} {s t : State} (h : Via P s t) : Comes s t := h.mono (fun _ _ => trivial)
theorem Moves.now_le {s t : State} (h : Moves s t) : s.now ≤ t.now := by
  obtain ⟨us, hu, rfl⟩ := h
  exact run_now_le s us hu

/-- The update leaves a field that no message touches. -/
def Upd.keeps (g : Fld) : Upd → Prop
  | .set f _ => g.key ≠ f.key
  | .resetRegs lo hi => g.key < lo * 64 ∨ hi * 64 ≤ g.key
  | .flushVectors => False
  | _ => True

theorem rd_apply_keeps {s : State} {g : Fld} (hm : messageField g = false) {u : Upd} (h : u.keeps g) : (s.apply u).rd g = s.rd g := by
  cases u
  case set f v => exact rd_set_ne s v hm h
  case resetRegs lo hi => exact rd_reset_out s lo hi h
  case emit r => exact rd_emit s r hm
  case firn f => exact rd_firn s f hm
  case vector v => exact rd_vector s v hm
  case flushVectors => exact h.elim
  all_goals rfl

/-- A field that every update keeps has its value after them all. -/
theorem Via.rd {s t : State} {g : Fld} (h : Via (Upd.keeps g) s t) (hm : messageField g = false) : t.rd g = s.rd g := by
  obtain ⟨us, hu, rfl⟩ := h
  induction us generalizing s with
  | nil => rfl
  | cons u us ih =>
    rw [run_cons, ih (fun v hv => hu v (by simp [hv])), rd_apply_keeps hm (hu u (by simp))]

theorem rd_run_keeps {s : State} {g : Fld} (hm : messageField g = false) {us : List Upd} (h : ∀ u ∈ us, u.keeps g) : (s.run us).rd g = s.rd g :=
  Via.rd ⟨us, h, rfl⟩ hm

/-- A field that a list of updates sets, and none after sets again. -/
theorem rd_run_set {s : State} (hs : s.Wf) {g : Fld} (hm : messageField g = false) (us vs : List Upd) (v : Nat) (h : ∀ u ∈ vs, u.keeps g) :
    (s.run (us ++ .set g v :: vs)).rd g = v % 2 ^ g.width := by
  rw [run_append, run_cons, rd_run_keeps hm h, rd_set_same g v hm (run_wf us hs).1]

end Sys2Proof.Machine
end

