-- ==== Sys2Proof/Laws/Parts.lean ====
section
/-! SUPPORT. What the updates of links, lanes, jobs and slots do to the parts they name, and what a raised record does to the
Firn writer. -/

namespace Sys2Proof.Machine

theorem wf_sorted {α : Type} [DecidableEq α] {d : α} {m : SMap α} (h : tableWf d m = true) : tableSorted m = true := by
  simp only [tableWf, Bool.and_eq_true] at h
  exact h.1

/-! Links. -/

theorem link_put_same {s : State} (hs : s.Wf) (n : Nat) (l : Link) : (s.apply (.link n l)).link n = l :=
  get_put_same _ _ _ (wf_sorted hs.2.2.2.1)
theorem link_put_ne (s : State) {n m : Nat} (l : Link) (h : m ≠ n) : (s.apply (.link n l)).link m = s.link m :=
  get_put_ne _ _ _ _ h

/-- The update leaves link n. -/
def Upd.keepsLink (n : Nat) : Upd → Prop
  | .link m _ => n ≠ m
  | .coldStart => False
  | _ => True

theorem Via.link {s t : State} {n : Nat} (h : Via (Upd.keepsLink n) s t) : t.link n = s.link n := by
  obtain ⟨us, hu, rfl⟩ := h
  induction us generalizing s with
  | nil => rfl
  | cons u us ih =>
    rw [run_cons, ih (fun v hv => hu v (by simp [hv]))]
    have h := hu u (by simp)
    cases u
    case link m l => exact link_put_ne s l h
    case coldStart => exact h.elim
    case flushVectors => simp only [apply_flush, State.link]
    all_goals rfl

/-! Lanes. -/

theorem lane_put_same {s : State} (hs : s.Wf) (n : Nat) (l : Lane) : (s.apply (.lane n l)).lane n = l :=
  get_put_same _ _ _ (wf_sorted hs.2.2.1)
theorem lane_put_ne (s : State) {n m : Nat} (l : Lane) (h : m ≠ n) : (s.apply (.lane n l)).lane m = s.lane m :=
  get_put_ne _ _ _ _ h

/-- The update leaves lane n. -/
def Upd.keepsLane (n : Nat) : Upd → Prop
  | .lane m _ => n ≠ m
  | .coldStart => False
  | _ => True

theorem Via.lane {s t : State} {n : Nat} (h : Via (Upd.keepsLane n) s t) : t.lane n = s.lane n := by
  obtain ⟨us, hu, rfl⟩ := h
  induction us generalizing s with
  | nil => rfl
  | cons u us ih =>
    rw [run_cons, ih (fun v hv => hu v (by simp [hv]))]
    have h := hu u (by simp)
    cases u
    case lane m l => exact lane_put_ne s l h
    case coldStart => exact h.elim
    case flushVectors => simp only [apply_flush, State.lane]
    all_goals rfl

/-! Jobs. -/

theorem job_put_same {s : State} (hs : s.Wf) (j : Nat) (r : JobRun) : (s.apply (.job j r)).job j = r :=
  get_put_same _ _ _ (wf_sorted hs.2.2.2.2.2)
theorem job_put_ne (s : State) {j k : Nat} (r : JobRun) (h : k ≠ j) : (s.apply (.job j r)).job k = s.job k :=
  get_put_ne _ _ _ _ h

/-- The update leaves job j. -/
def Upd.keepsJob (j : Nat) : Upd → Prop
  | .job k _ => j ≠ k
  | .coldStart => False
  | _ => True

theorem Via.job {s t : State} {j : Nat} (h : Via (Upd.keepsJob j) s t) : t.job j = s.job j := by
  obtain ⟨us, hu, rfl⟩ := h
  induction us generalizing s with
  | nil => rfl
  | cons u us ih =>
    rw [run_cons, ih (fun v hv => hu v (by simp [hv]))]
    have h := hu u (by simp)
    cases u
    case job m l => exact job_put_ne s l h
    case coldStart => exact h.elim
    case flushVectors => simp only [apply_flush, State.job]
    all_goals rfl

/-! Records. -/

theorem lose_tickTypes (f : Firn) (c cause seq n : Nat) : (f.lose c cause seq n).tickTypes = f.tickTypes := by
  unfold Firn.lose
  split <;> rfl

theorem accept_tickTypes (f : Firn) (now : Nat) (r : Rec) : (f.accept now r).tickTypes = f.tickTypes := by
  unfold Firn.accept
  simp only
  split
  · rw [lose_tickTypes]
  · rfl

/-- Every record raised is seen by the capture triggers of its tick, written or not (R74). -/
theorem raise_tickTypes (f : Firn) (now : Nat) (r : Rec) : (f.raise now r).tickTypes = f.tickTypes ++ [r.typ] := by
  unfold Firn.raise Firn.seen
  simp only
  split
  · split
    · rfl
    · rw [lose_tickTypes]
  · split
    · rw [accept_tickTypes]
    · split
      · exact accept_tickTypes _ _ _
      · rfl

theorem raised_emit (s : State) (r : Rec) : Raised r.typ (s.apply (.emit r)) := by
  simp only [Raised, apply_emit_firn, raise_tickTypes, List.getLast?_append, List.getLast?_singleton, Option.some_or]

/-- The update raises nothing. -/
def Upd.quiet : Upd → Prop
  | .emit _ => False
  | .firn _ => False
  | .coldStart => False
  | _ => True

theorem Via.firn {s t : State} (h : Via Upd.quiet s t) : t.firn = s.firn := by
  obtain ⟨us, hu, rfl⟩ := h
  induction us generalizing s with
  | nil => rfl
  | cons u us ih =>
    rw [run_cons, ih (fun v hv => hu v (by simp [hv]))]
    have h := hu u (by simp)
    cases u
    case emit r => exact h.elim
    case firn f => exact h.elim
    case coldStart => exact h.elim
    case flushVectors => rw [apply_flush]
    all_goals rfl

/-- A record stays the last raised while nothing else is. -/
theorem Via.raised {s t : State} {typ : Nat} (h : Via Upd.quiet s t) (k : Raised typ s) : Raised typ t := by
  unfold Raised
  rw [h.firn]
  exact k

end Sys2Proof.Machine
end

