-- ==== Sys2Proof/WellFormed.lean ====
section
/-! DEFINITION. Commands whose operands name something that exists: a unit by a number it has, a width the register bus has, a
byte where bytes are sent. The machine answers other operands too: an event of a unit that does not exist changes nothing. -/

namespace Sys2Proof

/-- A requester of the register bus (R65): management cores 0 to 5, host 6, rack 7, DMA 8, hardware 9. -/
def busRequester (req : Nat) : Bool := decide (req < 10)

/-- The operands of a command are in range. -/
def Instr.wf : Instr → Bool
  | .registerWrite req a width _ _ => busRequester req && decide (a % 4 = 0)  && (width == 4 || width == 8)
  | .upperWordLatch req r => busRequester req && decide (r.a % 4 = 0) && (r.width == 4 || r.width == 8)
  | .rcRead req a _ => busRequester req && decide (a % 4 = 0) 
  | .stgCancel req _ => busRequester req
  | .stageApply => true
  | .txBegin req _ => busRequester req
  | .txWrite req a width _ => busRequester req && decide (a % 4 = 0)  && (width == 4 || width == 8)
  | .txStampWrite req _ => busRequester req
  | .txCommit req _ => busRequester req
  | .txAbort req _ => busRequester req
  | .txEffect => true
  | .txTimeout => true
  | .commitWaitTimeout => true
  | .controlTick _ => true
  | .orderEffect => true
  | .surveyOrder _ => true
  | .time m => decide (m < 5)
  | .discLock => true
  | .discReacquire => true
  | .discHoldover => true
  | .settled => true
  | .timeUp m => decide (m < 5)
  | .delay m => decide (m < 5)
  | .tlaneRttMeasure m => decide (m < 5)
  | .jrnMgmtPush req => busRequester req
  | .mgmtQueueResume => true
  | .firnStart => true
  | .recordMove => true
  | .loss => true
  | .drain c _ => decide (c < 3)
  | .jrnAckWrite req c _ => busRequester req && decide (c < 3)
  | .captureArm req => busRequester req
  | .captureTrigger _ req => busRequester req
  | .captureFreeze => true
  | .captureRelease req => busRequester req
  | .switchingPeriod e _ => decide (e.k < 4)
  | .voltageLoopUpdate r _ _ => decide (r < 18)
  | .syncHoldover k _ => decide (k < 4)
  | .syncResume k _ _ => decide (k < 4)
  | .rotationAdvance => true
  | .senseSwitch r => decide (r < 18)
  | .fastAdd r => decide (r < 18)
  | .phaseFault c _ _ _ _ => decide (c < 320)
  | .benchJoin c r => decide (c < 320) && decide (r < 18)
  | .phaseSwap c => decide (c < 320)
  | .railEnable g r => decide (g < 16) && decide (r < 128)
  | .tileRailGood r => decide (r < 18)
  | .softstartTrip r => decide (r < 18)
  | .railTrip r => decide (r < 18)
  | .dischargeEnd r => decide (r < 18)
  | .brakeAssert r _ => decide (r < 18)
  | .brakeClear r _ => decide (r < 18)
  | .enable n => decide (n < 13)
  | .energyCheck n _ => decide (n < 13)
  | .trainingFrame lane _ _ => decide (lane < 21)
  | .trainTimeout lane => decide (lane < 21)
  | .frameTransmit lane => decide (lane < 21)
  | .upstreamFrame lane fidx _ _ => decide (lane < 21) && decide (fidx < 80)
  | .messageResend n => decide (n < 13)
  | .cap n => decide (n < 8)
  | .hint n => decide (n < 8)
  | .hintExpire => true
  | .step n => decide (n < 8)
  | .ageing n => decide (n < 8)
  | .freqAck n => decide (n < 8)
  | .tipoffAck n => decide (n < 8)
  | .timeSend n => decide (n < 8)
  | .rttMeasure n => decide (n < 8)
  | .rttNow req n => busRequester req && decide (n < 8)
  | .retrain req n => busRequester req && decide (n < 8)
  | .plannedSwitch n => decide (n < 13)
  | .spareTrained n => decide (n < 13)
  | .laneSwitch n => decide (n < 13)
  | .linkLoss n => decide (n < 13)
  | .lossRetry n => decide (n < 13)
  | .lossTimeout n => decide (n < 8)
  | .capLoop => true
  | .escalationRelease n => decide (n < 8)
  | .capUnmet n => decide (n < 9)
  | .ageTrimPeriod n => decide (n < 8)
  | .ageReportTimeout n => decide (n < 8)
  | .accuracyWindow n => decide (n < 8)
  | .suspendHoldEnd n => decide (n < 8)
  | .moraineWipeDone => true
  | .imageLoad req => busRequester req
  | .loadDone => true
  | .loadDiscard req => busRequester req
  | .tableEccError _ _ _ _ => true
  | .epochEnd => true
  | .reportSend j => decide (j < 8)
  | .report m => decide (m < 5)
  | .childDetach j m => decide (j < 8) && decide (m < 5)
  | .huddleDecide j => decide (j < 8)
  | .result m => decide (m < 5)
  | .resultApply j => decide (j < 8)
  | .resultLost j => decide (j < 8)
  | .trigger m => decide (m < 5)
  | .lockstep m => decide (m < 5)
  | .groupPowerUp g => decide (g < 16)
  | .pgChange r => decide (r < 128)
  | .railQualified r => decide (r < 128)
  | .railOnTimeout r => decide (r < 128)
  | .groupPowerDown g => decide (g < 16)
  | .railDisable r => decide (r < 128)
  | .railFallen r => decide (r < 128)
  | .railOffTimeout r => decide (r < 128)
  | .railGivenUp r => decide (r < 128)
  | .railFault r => decide (r < 128)
  | .retryReenable r => decide (r < 128)
  | .systemRestart => true
  | .faultClear req m _ => busRequester req && decide (m < 4)
  | .firstRearm req _ => busRequester req
  | .faultIn => true
  | .faultInRelease => true
  | .inrushTrip c => decide (c < 16)
  | .channelOn c => decide (c < 16)
  | .channelLimit c => decide (c < 16)
  | .fastTrip c _ _ => decide (c < 16)
  | .reverseTrip c _ _ => decide (c < 16)
  | .tripProtectOrders c => decide (c < 16)
  | .tripClear req _ => busRequester req
  | .damageDetect c => decide (c < 16)
  | .feedUsable f => decide (f < 2)
  | .feedUnusable f => decide (f < 2)
  | .feedRevert => true
  | .newFeedInrush => true
  | .pinHoldEnd => true
  | .devTempLevel => true
  | .diodeBroken d => decide (d < 2)
  | .diodeGraceExpire => true
  | .thermalShutdown => true
  | .thermalHardReset => true
  | .thermalRelease _ => true
  | .tempInputFault i => decide (i < 16)
  | .mapLost n => decide (n < 8)
  | .thermalCeilingStep n => decide (n < 8)
  | .tlatchClear req _ => busRequester req
  | .fanKickEnd f => decide (f < 20)
  | .fanStall f => decide (f < 20)
  | .fanRetry f => decide (f < 20)
  | .flowWindow => true
  | .flowPowerOff z => decide (z < 8)
  | .leakWet i => decide (i < 8)
  | .leakOpen i => decide (i < 8)
  | .leakmapClear req _ => busRequester req
  | .presenceChange n => decide (n < 8)
  | .alertChange n => decide (n < 8)
  | .accResetRelease n => decide (n < 8)
  | .strapWrite req n _ => busRequester req && decide (n < 8)
  | .readId req n _ => busRequester req && decide (n < 8)
  | .verify req n _ => busRequester req && decide (n < 8)
  | .check req n _ => busRequester req && decide (n < 8)
  | .reflash req n _ _ => busRequester req && decide (n < 8)
  | .release req n => busRequester req && decide (n < 8)
  | .clear req n => busRequester req && decide (n < 8)
  | .custodyOpDone n _ _ _ _ _ => decide (n < 8)
  | .custodyAuto n => decide (n < 8)
  | .bootTimeout n => decide (n < 8)
  | .keeperChecksPass => true
  | .imageReject _ => true
  | .coreRelease req _ => busRequester req
  | .keylock req _ => busRequester req
  | .goldenCheckDone _ => true
  | .grantQuery core => decide (1 ≤ core) && decide (core ≤ 4)
  | .stage core => decide (1 ≤ core) && decide (core ≤ 4)
  | .stageDone _ => true
  | .activate core => decide (1 ≤ core) && decide (core ≤ 4)
  | .confirm core => decide (1 ≤ core) && decide (core ≤ 4)
  | .abandon core => decide (1 ≤ core) && decide (core ≤ 4)
  | .ledgerCompact => true
  | .structCommit core => decide (1 ≤ core) && decide (core ≤ 4)
  | .attest core => decide (1 ≤ core) && decide (core ≤ 4)
  | .svnRaise core => decide (1 ≤ core) && decide (core ≤ 4)
  | .svnFuse core => decide (1 ≤ core) && decide (core ≤ 4)
  | .lcRequest core _ => decide (1 ≤ core) && decide (core ≤ 4)
  | .keyEnroll core => decide (1 ≤ core) && decide (core ≤ 4)
  | .keyRevoke core => decide (1 ≤ core) && decide (core ≤ 4)
  | .coreRetire core => decide (1 ≤ core) && decide (core ≤ 4)
  | .attPublic core => decide (1 ≤ core) && decide (core ≤ 4)
  | .functionReset cause => decide (1 ≤ cause) && decide (cause ≤ 4)
  | .d3hotEntry => true
  | .d0Return => true
  | .ringEnable req p _ => busRequester req && decide (p < 64)
  | .doorbell req p _ => busRequester req && decide (p < 64)
  | .ringPoll => true
  | .order p => decide (p < 64)
  | .buffer p => decide (p < 64)
  | .service p => decide (p < 64)
  | .ping p => decide (p < 64)
  | .ringResume p => decide (p < 64)
  | .interruptCoalesce p => decide (p < 64)
  | .svcpush req _ => busRequester req
  | .b2segWrite req seg _ => busRequester req && decide (seg < 16)
  | .dmaStart req e _ => busRequester req && decide (e < 16)
  | .dmaDone e _ _ => decide (e < 16)
  | .recoveryGo req _ => busRequester req
  | .recoveryCheckDone => true
  | .trayWindowRead port _ => decide (port < 2)
  | .trayWindowWrite port bs => decide (port < 2) && bs.all (fun b => decide (b < 256))
  | .alertResponse => true
  | .clearFaults pec => (match pec with | some b => decide (b < 256) | none => true)
  | .capability _ => true
  | .statusWord _ => true
  | .pmbusRevision _ => true
  | .mfrId _ => true
  | .mfrModel _ => true
  | .mfrRevision _ => true
  | .mfrSerial _ => true
  | .trayOrder body pec _ => body.all (fun b => decide (b < 256)) && (match pec with | some b => decide (b < 256) | none => true)
  | .orderResult _ => true
  | .readInforce body _ => body.all (fun b => decide (b < 256))
  | .trayTime _ => true
  | .rcvAddr body pec => body.all (fun b => decide (b < 256)) && (match pec with | some b => decide (b < 256) | none => true)
  | .rcvData body pec => body.all (fun b => decide (b < 256)) && (match pec with | some b => decide (b < 256) | none => true)
  | .rcvLen body pec => body.all (fun b => decide (b < 256)) && (match pec with | some b => decide (b < 256) | none => true)
  | .rcvGo pec => (match pec with | some b => decide (b < 256) | none => true)
  | .rcvStat _ => true
  | .unknownCommand code => decide (code < 256)
  | .sclLowTimeout n => decide (n < 16)
  | .sdaStuck n => decide (n < 16)
  | .controllerTransfer req n _ recov => busRequester req && decide (n < 16) && decide (recov ≤ 2)
  | .transferDone n _ _ _ rx => decide (n < 16) && rx.all (fun b => decide (b < 256))
  | .regulatorIdent _ => true
  | .rowRepair => true
  | .repairDone _ => true
  | .lpTrainDone _ => true
  | .lpInitDone => true
  | .wckTracking => true
  | .mr4Poll _ => true
  | .channelFail c => decide (c < 48)
  | .wipeDone r _ => decide (r < 6)
  | .pmcStart => true
  | .pmcStop => true
  | .counterWrap i _ _ => decide (i < 64)
  | .pmcCntWrite req i _ _ => busRequester req && decide (i < 64)
  | .snap req _ => busRequester req
  | .bwWindowEnd => true
  | .bwwinWrite req _ => busRequester req
  | .testMuxSelect req a _ => busRequester req && decide (a % 4 = 0) 
  | .unlock req _ _ => busRequester req
  | .tokenCheckDone => true
  | .jtagInstruction _ _ => true
  | .tapReset _ => true
  | .standbyEnter req _ => busRequester req
  | .standbyHold => true
  | .wake _ _ _ => true
  | .auxPowerOn _ => true
  | .supplyPgLost _ => true
  | .pllLockLost k _ => decide (k < 8)
  | .refLost => true
  | .refBack => true
  | .coldReset _ => true
  | .managementReset _ _ => true
  | .predictionReset => true
  | .wdogKick req _ => busRequester req
  | .wdogExpire _ => true
  | .xingAlarm x _ => decide (x < 6)
  | .xingReset x _ _ => decide (x < 6)
  | .powerFail _ _ _ => true
  | .pfailRecovery _ => true
  | .auxDropout => true
  | .hostLinkStateChange _ _ _ _ _ => true
  | .pcieError _ _ _ => true
  | .bar2Access _ _ _ _ => true
  | .deviceMemoryAccess req _ _ _ _ _ => busRequester req
  | .grantFilteredRead req a width => busRequester req && decide (a % 4 = 0)  && (width == 4 || width == 8)
  | .idleCycleScrub r => decide (r < 6)
  | .lpddr5xPatrolScrub _ => true
  | .pllLocked k _ => decide (k < 8)
  | .xtalValid => true
  | .limitTrip c => decide (c < 16)
  | .unknownGateCall core => decide (1 ≤ core) && decide (core ≤ 4)
  | .unacceptedRequest p => decide (p < 64)

end Sys2Proof
end

