-- ==== Sys2Proof/Tests/Slice0.lean ====
section
/-! SUPPORT. Tests: for every statement a theorem that shows, clause by clause, a state and operands that meet its hypotheses
together; the check refuses ill-formed operands; and small tests of single steps against the spec's numbers. -/

open Sys2Proof Sys2Proof.Machine

namespace Sys2Proof.Tests

set_option Elab.async false
set_option linter.unusedVariables false
set_option linter.unreachableTactic false
set_option linter.unusedTactic false

/-- The state after reset with fields at other values. -/
def stateWith (l : List (Fld × Nat)) : State := State.reset.run (l.map (fun e => Upd.set e.1 e.2))

/-- Bytes of 0. -/
def zeros (n : Nat) : List Nat := List.replicate n 0

theorem find_none (m : List Host.Cell) (a : Nat) (h : m.all (fun e => decide (e.1 < a)) = true) (b : Nat) (hb : a ≤ b) : tableFind? m b = none := by
  induction m with
  | nil => rfl
  | cons e m ih =>
    obtain ⟨k, v⟩ := e
    simp only [List.all_cons, Bool.and_eq_true, decide_eq_true_eq] at h
    simp only [tableFind?, ih h.2]
    split
    · omega
    · rfl

/-- A boot flash that holds nothing gives an image item EMPTY, whatever the storage key. -/
theorem erased_item (s : State) (k sl : Nat) (h : s.mem.all (fun e => decide (e.1 < inSpace Sp.boot 0)) = true) : s.item k sl = {} := by
  have e : ∀ a, (s.flash Sp.boot a 64).getD 0 0 = 255 := by
    intro a
    have := find_none s.mem _ h (inSpace Sp.boot a + 0) (by unfold inSpace; omega)
    simp [State.flash, memBytes, memByte, tableGet, memDefault] at this ⊢
    simp [this]
  have hs : s.standing (isItem k sl) = none := by
    unfold State.standing
    rw [List.filter_eq_nil_iff.2]
    · rfl
    · intro r hr
      simp only [State.ledger, List.mem_filter, List.mem_flatMap, List.mem_map] at hr
      obtain ⟨⟨j, -, i, -, rfl⟩, -⟩ := hr
      simp only [isItem, e]
      simp
  unfold State.item
  rw [hs]

/-- So a stage has its target in slot or copy 0. -/
theorem erased_target (s : State) (r : StageReq) (h : s.mem.all (fun e => decide (e.1 < inSpace Sp.boot 0)) = true) : (s.stageTarget r).isSome = true := by
  simp [State.stageTarget, State.reqItem, erased_item s _ _ h, ImgS.active]

/-- No channel stands below LPDDR5X. -/
theorem onchip_live (s : State) (a n : Nat) (h : a + n ≤ 0x10_0000_0000) : ∀ x, a ≤ x → x < a + n → s.channelDead x = false := by
  intro x _ hx
  simp only [State.channelDead, Bool.and_eq_false_iff, decide_eq_false_iff_not]
  exact Or.inl (by omega)

/-- Fewer bytes than one message are fewer than any pass takes. -/
theorem lock_partial (n k : Nat) (h : n < 28) : n < ceilDiv (16 + 4 * k) 28 * 28 := by
  rw [ceilDiv, if_neg (by decide)]; omega

/-- A report of a tray at the job's own depth is due at the end of the epoch. -/
theorem report_due (s : State) (j : Nat) (h : (s.job j).d = 0) (k : epochEnd (s.job j).epoch ≤ s.jobNow) :
    epochEnd (s.job j).epoch + ((s.job j).d - s.jobDepth (s.job j)) * s.rd JOB_HOP.t_hop * 4 ≤ s.jobNow := by
  rw [h, Nat.zero_sub, Nat.zero_mul, Nat.zero_mul]; exact k

/-- The hypotheses of each clause of `Obligations.AccessesThatDoNotAct` hold together (part 1 of 2). -/
theorem test_accesses_that_do_not_act_met_1 :
    (∃ (s : State) (req a width value hw : Nat), s.Wf ∧ s.spaceOff req = false ∧ (req = Req.keeper → s.keeperGated = false) ∧ s.planeDown a = false ∧ covered a = false) ∧
    (∃ (s : State) (req a hw : Nat), s.Wf ∧ s.spaceOff req = false ∧ s.planeDown a = false ∧ stagingReg? a = none ∧ partnerRail a = false ∧ regAt? a = none) ∧
    (∃ (s : State) (req a width value hw : Nat), s.Wf ∧ s.spaceOff req = false ∧ (req = Req.keeper → s.keeperGated = false) ∧ s.planeDown a = true) ∧
    (∃ (s : State) (req a hw : Nat), s.Wf ∧ s.spaceOff req = false ∧ s.planeDown a = true) :=
  ⟨⟨{ stateWith [(V.planeHeld 0, 0), (V.planeHeld 1, 0), (V.planeHeld 2, 0), (V.planeHeld 3, 0)] with now := 4000000000000 }, (6 : Nat), (0x14_0000 : Nat), (1 : Nat), (0 : Nat), (1 : Nat), by decide +kernel⟩,
   ⟨{ stateWith [(V.planeHeld 0, 0), (V.planeHeld 1, 0), (V.planeHeld 2, 0), (V.planeHeld 3, 0)] with now := 4000000000000 }, (6 : Nat), (0x14_0000 : Nat), (1 : Nat), by
      repeat' apply And.intro
      all_goals first | decide +kernel | exact rfl⟩,
   ⟨{ stateWith [(V.planeHeld 0, 0), (V.planeHeld 1, 0), (V.planeHeld 2, 0), (V.planeHeld 3, 0), (V.planeHeld 0, 1)] with now := 4000000000000 }, (6 : Nat), (0x60_0044 : Nat), (1 : Nat), (0 : Nat), (1 : Nat), by decide +kernel⟩,
   ⟨{ stateWith [(V.planeHeld 0, 0), (V.planeHeld 1, 0), (V.planeHeld 2, 0), (V.planeHeld 3, 0), (V.planeHeld 0, 1)] with now := 4000000000000 }, (6 : Nat), (0x60_0044 : Nat), (1 : Nat), by decide +kernel⟩⟩

/-- The hypotheses of each clause of `Obligations.AccessesThatDoNotAct` hold together (part 2 of 2). -/
theorem test_accesses_that_do_not_act_met_2 :
    (∃ (s : State) (req a width value hw : Nat), s.Wf ∧ isServiceCore req = true ∧ s.granted req 0 a width = none) ∧
    (∃ (s : State) (req a hw : Nat), s.Wf ∧ isServiceCore req = true ∧ s.mayRead req a 4 = false) ∧
    (∃ (s : State) (req a value hw : Nat) (h : RegHit), s.Wf ∧ req ≠ Req.keeper ∧ s.Reaches req a 4 value false ∧ stagingReg? a = none ∧ h.desc.wide = false ∧ s.lockedNow h.addr = false ∧ s.closedTo req h.addr = false ∧ h.fields ≠ [] ∧ h.fields.all (fun e => e.1 == Access.ko || e.1 == Access.koRws) = true ∧ regAt? a = some h) ∧
    (∃ (s : State) (req a hw : Nat) (h : RegHit), s.Wf ∧ s.spaceOff req = false ∧ req ≠ Req.keeper ∧ stagingReg? a = none ∧ h.fields.all (fun e => e.1.keeperOnly) = true ∧ regAt? (readHome a) = some h ∧ regAt? a = some h) :=
  ⟨⟨{ stateWith [(V.planeHeld 0, 0), (V.planeHeld 1, 0), (V.planeHeld 2, 0), (V.planeHeld 3, 0)] with now := 4000000000000 }, (2 : Nat), (0x60_0044 : Nat), (1 : Nat), (0 : Nat), (1 : Nat), by decide +kernel⟩,
   ⟨{ stateWith [(V.planeHeld 0, 0), (V.planeHeld 1, 0), (V.planeHeld 2, 0), (V.planeHeld 3, 0)] with now := 4000000000000 }, (2 : Nat), (0x60_0044 : Nat), (1 : Nat), by decide +kernel⟩,
   ⟨{ stateWith [(V.planeHeld 0, 0), (V.planeHeld 1, 0), (V.planeHeld 2, 0), (V.planeHeld 3, 0)] with now := 4000000000000 }, (6 : Nat), (0x60_0048 : Nat), (0 : Nat), (1 : Nat), (⟨FAB_LOADLEN.desc, [], 0x60_0048, false⟩ : RegHit), by
      repeat' apply And.intro
      all_goals first | decide +kernel | exact rfl⟩,
   ⟨{ stateWith [(V.planeHeld 0, 0), (V.planeHeld 1, 0), (V.planeHeld 2, 0), (V.planeHeld 3, 0)] with now := 4000000000000 }, (6 : Nat), (0x60_0048 : Nat), (1 : Nat), (⟨FAB_LOADLEN.desc, [], 0x60_0048, false⟩ : RegHit), by
      repeat' apply And.intro
      all_goals first | decide +kernel | exact rfl⟩⟩

/-- The hypotheses of `Obligations.CaptureFrameAndRing` hold together. -/
theorem test_capture_frame_and_ring_met :
    ∃ (s : State) (req hw ch pr pb : Nat), s.Wf ∧ s.spaceOff req = false ∧ s.rd JRN_CAPCTL.state = 0 ∧ s.rd (V.planeHeld 2) = 0 ∧ s.mayRead req 0x18_0214 4 = true ∧ ch = 39 * popCount 8 (s.rd JRN_CAPSLOT.slots) + 8 * s.rd JRN_CAPSLOT.tray ∧ pr = popCount 24 (s.rd JRN_CAPSEL.vsen) ∧ pb = 64 * s.rd JRN_CAPSEL.probes :=
  ⟨{ stateWith [(V.planeHeld 0, 0), (V.planeHeld 1, 0), (V.planeHeld 2, 0), (V.planeHeld 3, 0), (JRN_CAPCTL.state, 0), (V.planeHeld 2, 0), (JRN_CAPSLOT.slots, 1), (JRN_CAPSLOT.tray, 0), (JRN_CAPSEL.vsen, 0), (JRN_CAPSEL.probes, 0)] with now := 4000000000000 }, (6 : Nat), (1 : Nat), (39 : Nat), (0 : Nat), (0 : Nat), by decide +kernel⟩

/-- The hypotheses of each clause of `Obligations.RefusedTestSource` hold together. -/
theorem test_refused_test_source_met :
    (∃ (s : State) (req k value : Nat), s.Wf ∧ k < 10 ∧ s.Reaches req (0x128_0020 + 4 * k) 4 value false ∧ bit value 31 = true ∧ s.sourceRefused (if k < 8 then dtestClass (bits value 12 4) (bits value 0 12) else atestClass (bits value 0 8)) ≠ 0) ∧
    (∃ (s : State) (halted : Bool) (bad k a : Nat), s.Wf ∧ (halted = true ∨ s.rd CRP_RSTCTL.mgmt = 1) ∧ s.rd (V.planeHeld 3) = 0 ∧ k < 8 ∧ a < 2) ∧
    (∃ (s : State) (bad k a : Nat), s.Wf ∧ s.rd CRP_WDOGCFG.en = 1 ∧ s.rd V.wdogAt + s.rd CRP_WDOGCFG.period * 4000000 ≤ s.now ∧ k < 8 ∧ a < 2) :=
  ⟨⟨{ stateWith [(V.planeHeld 0, 0), (V.planeHeld 1, 0), (V.planeHeld 2, 0), (V.planeHeld 3, 0)] with now := 4000000000000 }, (6 : Nat), (1 : Nat), (0x8000_0000 : Nat), by decide +kernel⟩,
   ⟨{ stateWith [(V.planeHeld 0, 0), (V.planeHeld 1, 0), (V.planeHeld 2, 0), (V.planeHeld 3, 0), (V.planeHeld 3, 0)] with now := 4000000000000 }, (true : Bool), (1 : Nat), (1 : Nat), (1 : Nat), by decide +kernel⟩,
   ⟨{ stateWith [(V.planeHeld 0, 0), (V.planeHeld 1, 0), (V.planeHeld 2, 0), (V.planeHeld 3, 0), (CRP_WDOGCFG.en, 1)] with now := 4000000000000 }, (1 : Nat), (1 : Nat), (1 : Nat), by decide +kernel⟩⟩

/-- The hypotheses of each clause of `Obligations.StagingLimits` hold together. -/
theorem test_staging_limits_met :
    (∃ (s : State) (req a width value hw : Nat), s.spaceOff req = false ∧ ((∀ b q, (s.staging.pendingStamps b q).length ≤ 16) ∧ (∀ b q x, (s.staging.against b q x).length ≤ 64))) ∧
    (∃ (s : State) (req a value hw b st : Nat) (h : RegHit), s.Wf ∧ s.Reaches req a 4 value false ∧ stagingReg? a = none ∧ h.desc.wide = false ∧ h.addr = a ∧ s.closedTo req a = false ∧ s.lockedNow a = false ∧ (blockAt? a).map (·.base) = some b ∧ b ≠ 0x60_0000 ∧ h.fields ≠ [] ∧ h.fields.all (fun e => e.1 == Access.rws || (e.1 == Access.koRws && req == Req.keeper)) = true ∧ h.fields.any (fun e => e.2.lsb == 12 && e.2.width == 12) = false ∧ s.staging.stampOf b req = some st ∧ stampInWindow s.now st = true ∧ (∀ e ∈ h.fields, (s.staging.against b req st).any (fun x => x.addr == e.2.addr && x.lsb == e.2.lsb) = false) ∧ ((s.staging.against b req st = [] ∧ 16 ≤ (s.staging.pendingStamps b req).length) ∨ 64 ≤ (s.staging.against b req st).length) ∧ regAt? a = some h) :=
  ⟨⟨{ stateWith [(V.planeHeld 0, 0), (V.planeHeld 1, 0), (V.planeHeld 2, 0), (V.planeHeld 3, 0)] with now := 4000000000000 }, (6 : Nat), (1 : Nat), (1 : Nat), (0 : Nat), (1 : Nat), by
      repeat' apply And.intro
      all_goals first | decide +kernel | exact fun _ _ => Nat.zero_le 16 | exact fun _ _ _ => Nat.zero_le 64⟩,
   ⟨{ stateWith [(V.planeHeld 0, 0), (V.planeHeld 1, 0), (V.planeHeld 2, 0), (V.planeHeld 3, 0)] with staging := { stamps := [⟨0x40_0000, 0, 4000000008000⟩], vals := (List.range 16).map (fun i => ⟨0x40_0000, 0, 4000000012000 + i, 0x40_0044, 0, 32, 0, 0, 0, 0⟩), next := 1 }, now := 4000000000000 }, (0 : Nat), (0x40_0044 : Nat), (7 : Nat), (1 : Nat), (0x40_0000 : Nat), (4000000008000 : Nat), (⟨CAP_LORDB.desc, [], 0x40_0044, false⟩ : RegHit), by
      repeat' apply And.intro
      all_goals first | decide +kernel | exact rfl⟩⟩

/-- The hypotheses of `Obligations.GlbIdReads` hold together. -/
theorem test_glb_id_reads_met :
    ∃ (s : State) (req hw : Nat), s.Wf ∧ s.spaceOff req = false ∧ s.rd (V.planeHeld 3) = 0 :=
  ⟨{ stateWith [(V.planeHeld 0, 0), (V.planeHeld 1, 0), (V.planeHeld 2, 0), (V.planeHeld 3, 0), (V.planeHeld 3, 0)] with now := 4000000000000 }, (6 : Nat), (1 : Nat), by decide +kernel⟩

/-- The hypotheses of each clause of `Obligations.RegisterAccessTakesEffect` hold together. -/
theorem test_register_access_met :
    (∃ (s : State) (req a value hw : Nat) (d : RegDesc) (idx : List Nat) (f : Fld), s.Wf ∧ s.Reaches req a 4 (value % 2 ^ 32) false ∧ s.lockedNow a = false ∧ d.wide = false ∧ d.fields idx = [(Access.rw, f)] ∧ stagingReg? a = none ∧ ownRow f.addr f.lsb = false ∧ messageField f = false ∧ a < 0xF0_0000 ∧ f.lsb + f.width ≤ 32 ∧ regAt? a = some ⟨d, idx, a, false⟩) ∧
    (∃ (s : State) (req a : Nat) (h : RegHit), s.Wf ∧ s.spaceOff req = false ∧ stagingReg? a = none ∧ h.desc.wide = true ∧ h.upper = false ∧ h.fields.all (fun e => e.1 != Access.rc) = true ∧ s.planeDown a = false ∧ s.mayRead req a 4 = true ∧ (¬(0x120_0000 ≤ a ∧ a < 0x128_0000)) ∧ regAt? (readHome a) = some h) ∧
    (∃ (s : State) (req a : Nat) (h : RegHit), s.Wf ∧ s.spaceOff req = false ∧ stagingReg? a = none ∧ h.desc.wide = true ∧ h.upper = false ∧ h.fields.all (fun e => e.1 != Access.rc) = true ∧ s.planeDown a = false ∧ s.mayRead req a 8 = true ∧ (¬(0x120_0000 ≤ a ∧ a < 0x128_0000)) ∧ regAt? (readHome a) = some h) ∧
    (∃ (s : State) (req a hw : Nat) (h : RegHit) (f : Fld), s.Wf ∧ s.spaceOff req = false ∧ h.fields = [(Access.rc, f)] ∧ f.addr ≠ (JRN_LOST.count 0).addr ∧ f.addr ≠ (JRN_LOST.count 1).addr ∧ f.addr ≠ (JRN_LOST.count 2).addr ∧ messageField f = false ∧ s.planeDown a = false ∧ s.mayRead req a 4 = true ∧ (req = Req.keeper → s.keeperGated = false) ∧ regAt? a = some h) :=
  ⟨⟨{ stateWith [(V.planeHeld 0, 0), (V.planeHeld 1, 0), (V.planeHeld 2, 0), (V.planeHeld 3, 0)] with now := 4000000000000 }, (6 : Nat), (0x18_0218 : Nat), (7 : Nat), (0 : Nat), (JRN_CAPPRE.desc : RegDesc), ([] : List Nat), (JRN_CAPPRE.pre : Fld), by
      repeat' apply And.intro
      all_goals first | decide +kernel | exact rfl⟩,
   ⟨{ stateWith [(V.planeHeld 0, 0), (V.planeHeld 1, 0), (V.planeHeld 2, 0), (V.planeHeld 3, 0)] with now := 4000000000000 }, (6 : Nat), (0x10_0000 : Nat), (⟨TIM_NOW.desc, [], 0x10_0000, false⟩ : RegHit), by
      repeat' apply And.intro
      all_goals first | decide +kernel | exact rfl⟩,
   ⟨{ stateWith [(V.planeHeld 0, 0), (V.planeHeld 1, 0), (V.planeHeld 2, 0), (V.planeHeld 3, 0)] with now := 4000000000000 }, (6 : Nat), (0x10_0000 : Nat), (⟨TIM_NOW.desc, [], 0x10_0000, false⟩ : RegHit), by
      repeat' apply And.intro
      all_goals first | decide +kernel | exact rfl⟩,
   ⟨{ stateWith [(V.planeHeld 0, 0), (V.planeHeld 1, 0), (V.planeHeld 2, 0), (V.planeHeld 3, 0)] with now := 4000000000000 }, (6 : Nat), (0x60_009C : Nat), (0 : Nat), (⟨FAB_ECCCNT.desc, [], 0x60_009C, false⟩ : RegHit), (FAB_ECCCNT.count : Fld), by
      repeat' apply And.intro
      all_goals first | decide +kernel | exact rfl⟩⟩

/-- The hypotheses of each clause of `Obligations.StagedWritesTakeEffect` hold together. -/
theorem test_staged_writes_met :
    (∃ (s : State) (req blk st : Nat), s.Wf ∧ s.spaceOff req = false ∧ stagingBases.contains blk = true ∧ s.planeDown blk = false ∧ (isServiceCore req = true → (s.granted req 0 (blk + 0xFF0C) 4).getD 0 ≠ 0) ∧ (req = Req.keeper → s.keeperGated = false) ∧ s.staging.stampOf blk req = some st) ∧
    (∃ (s : State) (v : Staged), s.Wf ∧ s.staging.vals = [v] ∧ v.set = 0 ∧ v.blk ≠ 0x60_0000 ∧ boundaryOf v.stamp ≤ s.boundary ∧ messageField v.fld = false) :=
  ⟨⟨{ stateWith [(V.planeHeld 0, 0), (V.planeHeld 1, 0), (V.planeHeld 2, 0), (V.planeHeld 3, 0)] with staging := { stamps := [⟨0x10_0000, 6, 5⟩] }, now := 4000000000000 }, (6 : Nat), (0x10_0000 : Nat), (5 : Nat), by decide +kernel⟩,
   ⟨{ stateWith [(V.planeHeld 0, 0), (V.planeHeld 1, 0), (V.planeHeld 2, 0), (V.planeHeld 3, 0)] with staging := { vals := [⟨0x20_0000, 6, 5, 0x20_0050, 0, 8, 0, 0, 3, 0⟩] }, now := 4000000000000 }, (⟨0x20_0000, 6, 5, 0x20_0050, 0, 8, 0, 0, 3, 0⟩ : Staged), by decide +kernel⟩⟩

/-- The hypotheses of each clause of `Obligations.TransactionRequestsTakeEffect` hold together. -/
theorem test_transaction_requests_met :
    (∃ (s : State) (req value : Nat), s.Wf ∧ s.spaceOff req = false ∧ req < 16 ∧ value % 8 = 1 ∧ s.planeDown 0x10_0100 = false ∧ (isServiceCore req = true → s.granted req 0 0x10_0100 4 = some 2) ∧ (req = Req.keeper → s.keeperGated = false) ∧ s.rd TIM_TXSTAT.state ≠ TxS.openS ∧ s.rd TIM_TXSTAT.state ≠ TxS.committing) ∧
    (∃ (s : State) (req a value : Nat) (h : RegHit) (f : Fld), s.Wf ∧ s.spaceOff req = false ∧ s.rd TIM_TXSTAT.state = TxS.openS ∧ s.txOwner = req ∧ h.desc.wide = false ∧ h.addr = a ∧ h.fields = [(Access.rwt, f)] ∧ stagingReg? a = none ∧ s.planeDown a = false ∧ (req = Req.keeper → s.keeperGated = false) ∧ s.closedTo req a = false ∧ s.lockedNow a = false ∧ a ≠ 0x130_0010 ∧ s.mayWrite req a 4 .rwt = true ∧ reservedMask h &&& (value % 2 ^ 32) = 0 ∧ s.rd TIM_TXCOUNT.writes < 4096 ∧ regAt? a = some h) ∧
    (∃ (s : State) (req value : Nat), s.Wf ∧ s.rd TIM_TXSTAT.state = TxS.openS ∧ s.txOwner = req ∧ s.Reaches req 0x10_0108 8 value false) ∧
    (∃ (s : State) (req value : Nat), s.Wf ∧ s.spaceOff req = false ∧ value % 8 = 2 ∧ s.planeDown 0x10_0100 = false ∧ (isServiceCore req = true → s.granted req 0 0x10_0100 4 = some 2) ∧ (req = Req.keeper → s.keeperGated = false) ∧ s.rd TIM_TXSTAT.state = TxS.openS ∧ s.txOwner = req ∧ (s.rd TIM_TXSTAMP.stamp = 0 ∨ stampInWindow s.now (s.rd TIM_TXSTAMP.stamp) = true)) ∧
    (∃ (s : State) (req value : Nat), s.Wf ∧ s.spaceOff req = false ∧ value % 8 = 4 ∧ s.planeDown 0x10_0100 = false ∧ (isServiceCore req = true → s.granted req 0 0x10_0100 4 = some 2) ∧ (req = Req.keeper → s.keeperGated = false) ∧ (s.rd TIM_TXSTAT.state = TxS.openS ∨ s.rd TIM_TXSTAT.state = TxS.committing) ∧ s.txOwner = req) ∧
    (∃ (s : State) (value : Nat), s.Wf ∧ value % 8 = 4 ∧ s.planeDown 0x10_0100 = false ∧ s.keeperGated = false ∧ (s.rd TIM_TXSTAT.state = TxS.openS ∨ s.rd TIM_TXSTAT.state = TxS.committing) ∧ s.txOwner ≠ Req.keeper) :=
  ⟨⟨{ stateWith [(V.planeHeld 0, 0), (V.planeHeld 1, 0), (V.planeHeld 2, 0), (V.planeHeld 3, 0), (TIM_TXSTAT.state, 0)] with now := 4000000000000 }, (6 : Nat), (1 : Nat), by decide +kernel⟩,
   ⟨{ stateWith [(V.planeHeld 0, 0), (V.planeHeld 1, 0), (V.planeHeld 2, 0), (V.planeHeld 3, 0), (TIM_TXSTAT.state, TxS.openS), (TIM_TXSTAT.owner, 6)] with now := 4000000000000 }, (6 : Nat), (0x80_1010 : Nat), (1 : Nat), (⟨JOB_JSUB.desc, [0], 0x80_1010, false⟩ : RegHit), (JOB_JSUB.sub 0 : Fld), by
      repeat' apply And.intro
      all_goals first | decide +kernel | exact rfl⟩,
   ⟨{ stateWith [(V.planeHeld 0, 0), (V.planeHeld 1, 0), (V.planeHeld 2, 0), (V.planeHeld 3, 0), (TIM_TXSTAT.state, TxS.openS), (TIM_TXSTAT.owner, 6)] with now := 4000000000000 }, (6 : Nat), (0 : Nat), by decide +kernel⟩,
   ⟨{ stateWith [(V.planeHeld 0, 0), (V.planeHeld 1, 0), (V.planeHeld 2, 0), (V.planeHeld 3, 0), (TIM_TXSTAT.state, TxS.openS), (TIM_TXSTAMP.stamp, 0), (TIM_TXSTAT.owner, 6)] with now := 4000000000000 }, (6 : Nat), (2 : Nat), by decide +kernel⟩,
   ⟨{ stateWith [(V.planeHeld 0, 0), (V.planeHeld 1, 0), (V.planeHeld 2, 0), (V.planeHeld 3, 0), (TIM_TXSTAT.state, TxS.openS), (TIM_TXSTAT.owner, 6)] with now := 4000000000000 }, (6 : Nat), (4 : Nat), by decide +kernel⟩,
   ⟨{ stateWith [(V.planeHeld 0, 0), (V.planeHeld 1, 0), (V.planeHeld 2, 0), (V.planeHeld 3, 0), (TIM_TXSTAT.state, TxS.openS), (TIM_TXSTAT.owner, 6)] with now := 4000000000000 }, (4 : Nat), by decide +kernel⟩⟩

/-- The hypotheses of each clause of `Obligations.TransactionsEnd` hold together. -/
theorem test_transactions_end_met :
    (∃ (s : State), s.Wf ∧ s.rd TIM_TXSTAT.state = TxS.openS ∧ s.tx.openedAt + s.rd TIM_TXTIMEOUT.ticks * 4000 < s.now) ∧
    (∃ (s : State), s.Wf ∧ s.txDue = true ∧ s.commitsImage = false ∧ s.txFails s.tx = none) ∧
    (∃ (s : State), s.Wf ∧ s.txDue = true ∧ s.waitedOut = true ∧ s.rd V.latchOwed = 0 ∧ s.rd V.structCore = 0) :=
  ⟨⟨{ stateWith [(V.planeHeld 0, 0), (V.planeHeld 1, 0), (V.planeHeld 2, 0), (V.planeHeld 3, 0), (TIM_TXSTAT.state, TxS.openS)] with now := 4000000000000 }, by decide +kernel⟩,
   ⟨{ stateWith [(V.planeHeld 0, 0), (V.planeHeld 1, 0), (V.planeHeld 2, 0), (V.planeHeld 3, 0), (TIM_TXSTAT.state, TxS.committing)] with now := 4000000000000 }, by decide +kernel⟩,
   ⟨{ stateWith [(V.planeHeld 0, 0), (V.planeHeld 1, 0), (V.planeHeld 2, 0), (V.planeHeld 3, 0), (V.latchOwed, 0), (V.structCore, 0), (TIM_TXSTAT.state, TxS.committing), (rState 0, RailS.regulating)] with tx := { vals := [⟨FAB_COMMIT.go.addr, FAB_COMMIT.go.lsb, 1, 0, 1⟩, ⟨FAB_COMMIT.live.addr, FAB_COMMIT.live.lsb, 1, 0, 1⟩], waitFrom := some 4000 }, links := [(0, { tips := [⟨1, 1, 4000000000000, 4000000000000⟩] })], now := 4000000000000 }, by decide +kernel⟩⟩

/-- The hypotheses of each clause of `Obligations.BoundaryCommandsTakeEffect` hold together. -/
theorem test_boundary_met :
    (∃ (s : State) (ins : List Sample), s.Wf ∧ s.rd (V.planeHeld 0) = 0 ∧ ins.all sampleOk = true) ∧
    (∃ (s : State) (o : Order), s.Wf ∧ s.orders.pend = [o] ∧ s.orders.installs = [] ∧ boundaryOf o.applyAt ≤ s.boundary ∧ s.orders.barred o = false ∧ o.release = false) ∧
    (∃ (s : State) (supplies : List Nat) (c : Nat), s.Wf ∧ s.rd (V.planeHeld 0) = 0) ∧
    (∃ (s : State) (sect entry : Nat) (r : Restart), s.Wf ∧ s.rd (V.planeHeld 0) = 0) :=
  ⟨⟨{ stateWith [(V.planeHeld 0, 0), (V.planeHeld 1, 0), (V.planeHeld 2, 0), (V.planeHeld 3, 0), (V.planeHeld 0, 0)] with now := 4000000000000 }, ([] : List Sample), by decide +kernel⟩,
   ⟨{ stateWith [(V.planeHeld 0, 0), (V.planeHeld 1, 0), (V.planeHeld 2, 0), (V.planeHeld 3, 0)] with orders := { pend := [⟨Blk.acu, 0, 0, Src.host, false, 1, 0, 0, 4000, false⟩] }, now := 4000000000000 }, (⟨Blk.acu, 0, 0, Src.host, false, 1, 0, 0, 4000, false⟩ : Order), by decide +kernel⟩,
   ⟨{ stateWith [(V.planeHeld 0, 0), (V.planeHeld 1, 0), (V.planeHeld 2, 0), (V.planeHeld 3, 0), (V.planeHeld 0, 0)] with now := 4000000000000 }, ([] : List Nat), (1 : Nat), by decide +kernel⟩,
   ⟨{ stateWith [(V.planeHeld 0, 0), (V.planeHeld 1, 0), (V.planeHeld 2, 0), (V.planeHeld 3, 0), (V.planeHeld 0, 0)] with now := 4000000000000 }, (1 : Nat), (1 : Nat), (⟨0, 0, false, []⟩ : Restart), by decide +kernel⟩⟩

/-- The hypotheses of each clause of `Obligations.JobTimeCommandsTakeEffect` hold together (part 1 of 2). -/
theorem test_job_time_met_1 :
    (∃ (s : State) (m : Nat) (g : GotMsg) (l : Link), s.Wf ∧ m < 5 ∧ (s.link (8 + m)).take? TmlT.time = some (g, l) ∧ s.rd (JOB_LCFG.role m) = 1 ∧ (s.rd TIM_DISC.state = Disc.free ∨ s.rd TIM_DISC.state = Disc.holdover)) ∧
    (∃ (s : State) (m : Nat) (g : GotMsg) (l : Link), s.Wf ∧ m < 5 ∧ (s.link (8 + m)).take? TmlT.time = some (g, l) ∧ s.rd (JOB_LCFG.role m) = 1 ∧ (s.rd TIM_DISC.state = Disc.acquire ∨ s.rd TIM_DISC.state = Disc.locked)) ∧
    (∃ (s : State), s.Wf ∧ s.rd TIM_DISC.state = Disc.acquire ∧ 1000 ≤ s.rd V.discGood) ∧
    (∃ (s : State), s.Wf ∧ s.rd TIM_DISC.state = Disc.locked ∧ 16 ≤ s.rd V.discBad) ∧
    (∃ (s : State), s.Wf ∧ (s.rd TIM_DISC.state = Disc.acquire ∨ s.rd TIM_DISC.state = Disc.locked) ∧ 8 ≤ s.rd V.discMissing) :=
  ⟨⟨{ stateWith [(V.planeHeld 0, 0), (V.planeHeld 1, 0), (V.planeHeld 2, 0), (V.planeHeld 3, 0), (JOB_LCFG.role 1, 1), (TIM_DISC.state, Disc.free)] with links := [(9, { inbox := [⟨⟨TmlT.time, ([0, 0, 0, 0, 9] ++ zeros 23)⟩, 400000000000000, 1000000000⟩] })], now := 4000000000000 }, (1 : Nat), (⟨⟨TmlT.time, ([0, 0, 0, 0, 9] ++ zeros 23)⟩, 400000000000000, 1000000000⟩ : GotMsg), (({  } : Link) : Link), by decide +kernel⟩,
   ⟨{ stateWith [(V.planeHeld 0, 0), (V.planeHeld 1, 0), (V.planeHeld 2, 0), (V.planeHeld 3, 0), (JOB_LCFG.role 1, 1), (TIM_DISC.state, Disc.acquire)] with links := [(9, { inbox := [⟨⟨TmlT.time, ([0, 0, 0, 0, 9] ++ zeros 23)⟩, 400000000000000, 1000000000⟩] })], now := 4000000000000 }, (1 : Nat), (⟨⟨TmlT.time, ([0, 0, 0, 0, 9] ++ zeros 23)⟩, 400000000000000, 1000000000⟩ : GotMsg), (({  } : Link) : Link), by decide +kernel⟩,
   ⟨{ stateWith [(V.planeHeld 0, 0), (V.planeHeld 1, 0), (V.planeHeld 2, 0), (V.planeHeld 3, 0), (TIM_DISC.state, Disc.acquire), (V.discGood, 1001)] with now := 4000000000000 }, by decide +kernel⟩,
   ⟨{ stateWith [(V.planeHeld 0, 0), (V.planeHeld 1, 0), (V.planeHeld 2, 0), (V.planeHeld 3, 0), (TIM_DISC.state, Disc.locked), (V.discBad, 17)] with now := 4000000000000 }, by decide +kernel⟩,
   ⟨{ stateWith [(V.planeHeld 0, 0), (V.planeHeld 1, 0), (V.planeHeld 2, 0), (V.planeHeld 3, 0), (TIM_DISC.state, Disc.acquire), (V.discMissing, 9)] with now := 4000000000000 }, by decide +kernel⟩⟩

/-- The hypotheses of each clause of `Obligations.JobTimeCommandsTakeEffect` hold together (part 2 of 2). -/
theorem test_job_time_met_2 :
    (∃ (s : State), s.Wf ∧ s.rd TIM_DISC.state = Disc.locked ∧ s.rd V.lockedSince ≠ 0 ∧ s.rd V.lockedSince + 40000000000 ≤ s.now + 1) ∧
    (∃ (s : State) (m : Nat) (g : GotMsg) (l : Link), s.Wf ∧ m < 5 ∧ (s.link (8 + m)).take? TmlT.timeUp = some (g, l)) ∧
    (∃ (s : State) (m : Nat) (g : GotMsg) (l : Link), s.Wf ∧ m < 5 ∧ (s.link (8 + m)).take? TmlT.delay = some (g, l)) ∧
    (∃ (s : State) (m : Nat), s.Wf ∧ m < 5 ∧ s.rd (JOB_LCFG.role m) = 1 ∧ s.rd (lkState (8 + m)) = LinkS.run ∧ ((s.link (8 + m)).rttAt = 0 ∨ (s.link (8 + m)).rttAt + 4000000000 ≤ s.now + 1)) :=
  ⟨⟨{ stateWith [(V.planeHeld 0, 0), (V.planeHeld 1, 0), (V.planeHeld 2, 0), (V.planeHeld 3, 0), (TIM_DISC.state, Disc.locked), (V.lockedSince, 1)] with now := 4000000000000 }, by decide +kernel⟩,
   ⟨{ stateWith [(V.planeHeld 0, 0), (V.planeHeld 1, 0), (V.planeHeld 2, 0), (V.planeHeld 3, 0)] with links := [(9, { inbox := [⟨⟨TmlT.timeUp, ([0, 0, 0, 0, 9] ++ zeros 23)⟩, 400000000000000, 1000000000⟩] })], now := 4000000000000 }, (1 : Nat), (⟨⟨TmlT.timeUp, ([0, 0, 0, 0, 9] ++ zeros 23)⟩, 400000000000000, 1000000000⟩ : GotMsg), (({  } : Link) : Link), by decide +kernel⟩,
   ⟨{ stateWith [(V.planeHeld 0, 0), (V.planeHeld 1, 0), (V.planeHeld 2, 0), (V.planeHeld 3, 0)] with links := [(9, { inbox := [⟨⟨TmlT.delay, ([0, 0, 0, 0, 9] ++ zeros 23)⟩, 400000000000000, 1000000000⟩] })], now := 4000000000000 }, (1 : Nat), (⟨⟨TmlT.delay, ([0, 0, 0, 0, 9] ++ zeros 23)⟩, 400000000000000, 1000000000⟩ : GotMsg), (({  } : Link) : Link), by decide +kernel⟩,
   ⟨{ stateWith [(V.planeHeld 0, 0), (V.planeHeld 1, 0), (V.planeHeld 2, 0), (V.planeHeld 3, 0), (JOB_LCFG.role 1, 1), (lkState (8 + 1), LinkS.run)] with now := 4000000000000 }, (1 : Nat), by decide +kernel⟩⟩

/-- The hypotheses of each clause of `Obligations.FirnCommandsTakeEffect` hold together (part 1 of 2). -/
theorem test_firn_met_1 :
    (∃ (s : State) (req : Nat), s.Wf ∧ isCore req = true ∧ s.planeDown 0x18_0140 = false ∧ (isServiceCore req = true → (s.granted req 0 0x18_0140 4).getD 0 ≠ 0) ∧ (req = Req.keeper → s.keeperGated = false) ∧ (req = Req.keeper ∨ 0xF0 ≤ (s.pushedRec req).typ) ∧ s.firn.queued < mgmtRoom ∧ s.firn.started = true) ∧
    (∃ (s : State) (req : Nat), s.Wf ∧ isCore req = true ∧ s.planeDown 0x18_0140 = false ∧ (isServiceCore req = true → (s.granted req 0 0x18_0140 4).getD 0 ≠ 0) ∧ (req = Req.keeper → s.keeperGated = false) ∧ (req = Req.keeper ∨ 0xF0 ≤ (s.pushedRec req).typ) ∧ s.firn.queued < mgmtRoom ∧ s.firn.started = false) ∧
    (∃ (s : State) (c : Nat) (r : Rec) (rest : List (Nat × Rec)), s.Wf ∧ s.firn.held = (c, r) :: rest ∧ s.firn.queued < mgmtRoom ∧ s.firn.started = true) ∧
    (∃ (s : State), s.Wf ∧ s.rd V.windowWiped = 1 ∧ s.firn.started = false) :=
  ⟨⟨{ stateWith [(V.planeHeld 0, 0), (V.planeHeld 1, 0), (V.planeHeld 2, 0), (V.planeHeld 3, 0)] with firn := { started := true }, now := 4000000000000 }, (0 : Nat), by decide +kernel⟩,
   ⟨{ stateWith [(V.planeHeld 0, 0), (V.planeHeld 1, 0), (V.planeHeld 2, 0), (V.planeHeld 3, 0)] with now := 4000000000000 }, (0 : Nat), by decide +kernel⟩,
   ⟨{ stateWith [(V.planeHeld 0, 0), (V.planeHeld 1, 0), (V.planeHeld 2, 0), (V.planeHeld 3, 0)] with firn := { started := true, held := [(1, ⟨0xF0, 0, [], none, 0, false, false, some 2, false⟩)] }, now := 4000000000000 }, (1 : Nat), (⟨0xF0, 0, [], none, 0, false, false, some 2, false⟩ : Rec), ([] : List (Nat × Rec)), by decide +kernel⟩,
   ⟨{ stateWith [(V.planeHeld 0, 0), (V.planeHeld 1, 0), (V.planeHeld 2, 0), (V.planeHeld 3, 0), (V.windowWiped, 1)] with now := 4000000000000 }, by decide +kernel⟩⟩

/-- The hypotheses of each clause of `Obligations.FirnCommandsTakeEffect` hold together (part 2 of 2). -/
theorem test_firn_met_2 :
    (∃ (s : State) (w : StagedRec) (rest : List StagedRec), s.Wf ∧ s.rd JRN_CTL.enable = 1 ∧ s.rd MEM_STAT.lp_state = 3 ∧ s.firn.area = w :: rest ∧ wordsIn s.ue (0xC000_0000 + 64 * (w.seq % 262144)) 64 = [] ∧ w.cls < 3 ∧ (w.cls = 0 → s.rd (V.stored 0) < s.classRoom 0)) ∧
    (∃ (s : State) (c : Nat) (n : LossNote) (rest : List (Nat × LossNote)), s.Wf ∧ s.firn.started = true ∧ s.firn.area.length < areaRoom ∧ s.firn.lossNotes = (c, n) :: rest) ∧
    (∃ (s : State) (c : Nat) (b : HostBuf), s.Wf ∧ c < 3 ∧ s.drainDue c = true ∧ s.rd HIF_STAT.dstate = 0 ∧ s.rd HIF_STAT.bme = 1 ∧ s.rd CRP_PFSTAT.warn = 0 ∧ b.ring = s.rd (JRN_DRAINCTL.ring c) ∧ s.bufs = [b] ∧ 64 ≤ b.len ∧ s.rd (HIF_RCTL.en b.ring) = 1 ∧ s.rd (HIF_RCFG.role b.ring) = 2 ∧ s.rd (HIF_RCFG.class_ b.ring) = c ∧ s.rd (HIF_RSTAT.state b.ring) ≠ RingS.halted ∧ s.respFull b.ring = false) ∧
    (∃ (s : State) (req c v : Nat), s.Wf ∧ s.spaceOff req = false ∧ c < 3 ∧ (req = Req.keeper → s.keeperGated = false) ∧ s.planeDown (0x18_0088 + 0x10 * c) = false ∧ (isServiceCore req = true → (s.granted req 0 (0x18_0088 + 0x10 * c) 8).getD 0 ≠ 0) ∧ s.ackValid c v = true) :=
  ⟨⟨{ stateWith [(V.planeHeld 0, 0), (V.planeHeld 1, 0), (V.planeHeld 2, 0), (V.planeHeld 3, 0), (JRN_CTL.enable, 1), (MEM_STAT.lp_state, 3)] with firn := { started := true, area := [⟨3, 0, 2, false, 4000, ⟨0xF0, 0, [], none, 0, false, false, some 2, false⟩⟩] }, now := 4000000000000 }, (⟨3, 0, 2, false, 4000, ⟨0xF0, 0, [], none, 0, false, false, some 2, false⟩⟩ : StagedRec), ([] : List StagedRec), by decide +kernel⟩,
   ⟨{ stateWith [(V.planeHeld 0, 0), (V.planeHeld 1, 0), (V.planeHeld 2, 0), (V.planeHeld 3, 0)] with firn := { started := true, lossNotes := [(1, ⟨2, 1, 5⟩)] }, now := 4000000000000 }, (1 : Nat), (⟨2, 1, 5⟩ : LossNote), ([] : List (Nat × LossNote)), by decide +kernel⟩,
   ⟨{ stateWith [(V.planeHeld 0, 0), (V.planeHeld 1, 0), (V.planeHeld 2, 0), (V.planeHeld 3, 0), (HIF_STAT.dstate, 0), (HIF_STAT.bme, 1), (CRP_PFSTAT.warn, 0), (JRN_DRAINCTL.ring 1, 2), (JRN_DRAINCTL.en 1, 1), (V.stored 1, 1000000), (HIF_RCTL.en 2, 1), (HIF_RCFG.role 2, 2), (HIF_RCFG.class_ 2, 1), (HIF_RCFG.rs_log 2, 6), (HIF_RCFG.rq_log 2, 6), (HIF_RCB.base 2, 0x10_0000_0000)] with bufs := [⟨2, 0, 0, 0x1000, 4096⟩], now := 4000000000000 }, (1 : Nat), (⟨2, 0, 0, 0x1000, 4096⟩ : HostBuf), by decide +kernel⟩,
   ⟨{ stateWith [(V.planeHeld 0, 0), (V.planeHeld 1, 0), (V.planeHeld 2, 0), (V.planeHeld 3, 0), (JRN_CLASSBASE.base 1, 0x10_0000_0000), (JRN_CLASSSIZE.size 1, 4096), (JRN_ACK.ack 1, 0x10_0000_0000), (V.stored 1, 4)] with now := 4000000000000 }, (6 : Nat), (1 : Nat), (0x10_0000_0040 : Nat), by decide +kernel⟩⟩

/-- The hypotheses of each clause of `Obligations.CaptureCommandsTakeEffect` hold together. -/
theorem test_capture_met :
    (∃ (s : State) (req : Nat), s.Wf ∧ s.Reaches req 0x18_0200 4 1 false ∧ s.rd JRN_CAPCTL.state = CapS.disarmed ∧ s.rd V.capTrigTick ≠ s.tick + 1) ∧
    (∃ (s : State) (req : Nat), s.Wf ∧ s.spaceOff req = false ∧ s.capSources false ≠ 0 ∧ s.capState = CapS.armed ∧ s.rd V.capTrigTick ≠ s.tick + 1) ∧
    (∃ (s : State), s.Wf ∧ s.rd JRN_CAPCTL.state = CapS.post ∧ bit (s.rd V.capFlags) 0 = false ∧ s.rd JRN_CAPFRAMES.frames ≤ s.rd V.capPost + 1 + s.rd JRN_CAPPRE.pre) ∧
    (∃ (s : State) (req : Nat), s.Wf ∧ s.Reaches req 0x18_0200 4 4 false ∧ s.rd JRN_CAPCTL.state = CapS.frozen) :=
  ⟨⟨{ stateWith [(V.planeHeld 0, 0), (V.planeHeld 1, 0), (V.planeHeld 2, 0), (V.planeHeld 3, 0), (JRN_CAPCTL.state, CapS.disarmed), (V.capTrigTick, 1)] with now := 4000000000000 }, (6 : Nat), by decide +kernel⟩,
   ⟨{ stateWith [(V.planeHeld 0, 0), (V.planeHeld 1, 0), (V.planeHeld 2, 0), (V.planeHeld 3, 0), (V.capTrigTick, 1), (JRN_CAPCTL.state, CapS.armed), (JRN_CAPTRIG.trip, 1), (rState 0, RailS.regulating)] with firn := { tickTypes := [Ty.PROTECT_TRIP] }, now := 4000000000000 }, (6 : Nat), by decide +kernel⟩,
   ⟨{ stateWith [(V.planeHeld 0, 0), (V.planeHeld 1, 0), (V.planeHeld 2, 0), (V.planeHeld 3, 0), (JRN_CAPCTL.state, CapS.post)] with now := 4000000000000 }, by decide +kernel⟩,
   ⟨{ stateWith [(V.planeHeld 0, 0), (V.planeHeld 1, 0), (V.planeHeld 2, 0), (V.planeHeld 3, 0), (JRN_CAPCTL.state, CapS.frozen)] with now := 4000000000000 }, (6 : Nat), by decide +kernel⟩⟩

/-- The hypotheses of each clause of `Obligations.JobCommandsTakeEffect` hold together (part 1 of 2). -/
theorem test_job_met_1 :
    (∃ (s : State), s.Wf ∧ epochTicks ≤ s.jobNow ∧ s.rd V.epochTaken ≠ s.endedEpoch + 1) ∧
    (∃ (s : State) (j : Nat), s.Wf ∧ j < 8 ∧ s.reportOpen j = true ∧ (s.job j).root = false ∧ (s.job j).parent < 5 ∧ epochEnd (s.job j).epoch + ((s.job j).d - s.jobDepth (s.job j)) * s.rd JOB_HOP.t_hop * 4 ≤ s.jobNow) ∧
    (∃ (s : State) (m j : Nat) (g : GotMsg) (l : Link), s.Wf ∧ m < 5 ∧ (s.link (8 + m)).take? TmlT.report = some (g, l) ∧ s.jobByKey (g.msg.get 4 2) = some j ∧ bit (s.job j).children m = true ∧ (s.job j).sent = false ∧ (s.job j).own.isSome = true ∧ g.msg.get 6 2 = (s.job j).epoch % 65536) ∧
    (∃ (s : State) (j m : Nat), s.Wf ∧ j < 8 ∧ m < 5 ∧ (s.job j).valid = true ∧ bit (s.job j).children m = true ∧ bit (s.job j).detached m = false ∧ 0 < tableGet 0 (s.job j).silent m ∧ (s.job j).missLimit ≤ tableGet 0 (s.job j).silent m) ∧
    (∃ (s : State) (j : Nat), s.Wf ∧ j < 8 ∧ s.reportOpen j = true ∧ (s.job j).root = true ∧ epochEnd (s.job j).epoch + (s.job j).d * s.rd JOB_HOP.t_hop * 4 ≤ s.jobNow) ∧
    (∃ (s : State) (m j : Nat) (g : GotMsg) (l : Link), s.Wf ∧ m < 5 ∧ (s.link (8 + m)).take? TmlT.result = some (g, l) ∧ s.jobByKey (g.msg.get 4 2) = some j ∧ (s.job j).parent = m ∧ g.msg.get 6 2 = (s.job j).epoch % 65536 ∧ (s.job j).taken = false ∧ (s.job j).lost = false ∧ (s.job j).own.isSome = true) :=
  ⟨⟨{ stateWith [(V.planeHeld 0, 0), (V.planeHeld 1, 0), (V.planeHeld 2, 0), (V.planeHeld 3, 0), (V.epochTaken, 1)] with now := 4000000000000 }, by decide +kernel⟩,
   ⟨{ stateWith [(V.planeHeld 0, 0), (V.planeHeld 1, 0), (V.planeHeld 2, 0), (V.planeHeld 3, 0)] with jobs := [(1, { valid := true, own := some ⟨7, 0, false, 0, 0, 0, 0, 0⟩, key := 3, parent := 1 })], now := 4000000000000 }, (1 : Nat), by
      repeat' apply And.intro
      all_goals first | decide +kernel | exact report_due _ _ (by decide +kernel) (by decide +kernel)⟩,
   ⟨{ stateWith [(V.planeHeld 0, 0), (V.planeHeld 1, 0), (V.planeHeld 2, 0), (V.planeHeld 3, 0)] with jobs := [(1, { valid := true, own := some ⟨7, 0, false, 0, 0, 0, 0, 0⟩, key := 3, children := 2 })], links := [(9, { inbox := [⟨⟨TmlT.report, ([3] ++ zeros 27)⟩, 400000000000000, 1000000000⟩] })], now := 4000000000000 }, (1 : Nat), (1 : Nat), (⟨⟨TmlT.report, ([3] ++ zeros 27)⟩, 400000000000000, 1000000000⟩ : GotMsg), (({  } : Link) : Link), by decide +kernel⟩,
   ⟨{ stateWith [(V.planeHeld 0, 0), (V.planeHeld 1, 0), (V.planeHeld 2, 0), (V.planeHeld 3, 0)] with jobs := [(1, { valid := true, own := some ⟨7, 0, false, 0, 0, 0, 0, 0⟩, key := 3, children := 2, silent := [(1, 3)], missLimit := 2 })], now := 4000000000000 }, (1 : Nat), (1 : Nat), by decide +kernel⟩,
   ⟨{ stateWith [(V.planeHeld 0, 0), (V.planeHeld 1, 0), (V.planeHeld 2, 0), (V.planeHeld 3, 0)] with jobs := [(1, { valid := true, own := some ⟨7, 0, false, 0, 0, 0, 0, 0⟩, key := 3, root := true })], now := 4000000000000 }, (1 : Nat), by decide +kernel⟩,
   ⟨{ stateWith [(V.planeHeld 0, 0), (V.planeHeld 1, 0), (V.planeHeld 2, 0), (V.planeHeld 3, 0)] with jobs := [(1, { valid := true, own := some ⟨7, 0, false, 0, 0, 0, 0, 0⟩, key := 3, parent := 1 })], links := [(9, { inbox := [⟨⟨TmlT.result, ([3] ++ zeros 27)⟩, 400000000000000, 1000000000⟩] })], now := 4000000000000 }, (1 : Nat), (1 : Nat), (⟨⟨TmlT.result, ([3] ++ zeros 27)⟩, 400000000000000, 1000000000⟩ : GotMsg), (({  } : Link) : Link), by decide +kernel⟩⟩

/-- The hypotheses of each clause of `Obligations.JobCommandsTakeEffect` hold together (part 2 of 2). -/
theorem test_job_met_2 :
    (∃ (s : State) (j : Nat) (res : JobResult), s.Wf ∧ j < 8 ∧ (s.job j).due = some res ∧ applyAtOf res.epoch ≤ s.jobNow) ∧
    (∃ (s : State) (j : Nat), s.Wf ∧ j < 8 ∧ (s.job j).valid = true ∧ (s.job j).own.isSome = true ∧ (s.job j).root = false ∧ (s.job j).taken = false ∧ (s.job j).lost = false ∧ epochEnd (s.job j).epoch + 144000 ≤ s.jobNow) ∧
    (∃ (s : State) (m j : Nat) (g : GotMsg) (l : Link), s.Wf ∧ m < 5 ∧ (s.link (8 + m)).take? TmlT.trigger = some (g, l) ∧ s.jobByKey (g.msg.get 16 2) = some j ∧ (s.job j).triggers.contains (g.msg.get 8 8) = false) ∧
    (∃ (s : State) (m : Nat) (g : GotMsg) (l : Link), s.Wf ∧ m < 5 ∧ (s.link (8 + m)).take? TmlT.lockstep = some (g, l) ∧ s.rd JOB_LSCTL.lane = m ∧ s.follows = true ∧ (s.fab.lockBytes ++ g.msg.pay).length < ceilDiv (16 + 4 * (everyRead (s.bindings s.liveImg)).length) 28 * 28) ∧
    (∃ (s : State) (n : Nat) (g : GotMsg) (l : Link), s.Wf ∧ n < 8 ∧ (s.link n).take? MsgT.tipoffAck = some (g, l) ∧ g.msg.get 12 1 = 2) :=
  ⟨⟨{ stateWith [(V.planeHeld 0, 0), (V.planeHeld 1, 0), (V.planeHeld 2, 0), (V.planeHeld 3, 0)] with jobs := [(1, { valid := true, own := some ⟨7, 0, false, 0, 0, 0, 0, 0⟩, key := 3, due := some ⟨0, 0, false, 0, false, 0, 0, 0, 0⟩ })], now := 4000000000000 }, (1 : Nat), (⟨0, 0, false, 0, false, 0, 0, 0, 0⟩ : JobResult), by decide +kernel⟩,
   ⟨{ stateWith [(V.planeHeld 0, 0), (V.planeHeld 1, 0), (V.planeHeld 2, 0), (V.planeHeld 3, 0)] with jobs := [(1, { valid := true, own := some ⟨7, 0, false, 0, 0, 0, 0, 0⟩, key := 3 })], now := 4000000000000 }, (1 : Nat), by decide +kernel⟩,
   ⟨{ stateWith [(V.planeHeld 0, 0), (V.planeHeld 1, 0), (V.planeHeld 2, 0), (V.planeHeld 3, 0)] with jobs := [(1, { valid := true, own := some ⟨7, 0, false, 0, 0, 0, 0, 0⟩, key := 3 })], links := [(9, { inbox := [⟨⟨TmlT.trigger, ([0, 0, 0, 0, 9] ++ zeros 7 ++ [3] ++ zeros 15)⟩, 400000000000000, 1000000000⟩] })], now := 4000000000000 }, (1 : Nat), (1 : Nat), (⟨⟨TmlT.trigger, ([0, 0, 0, 0, 9] ++ zeros 7 ++ [3] ++ zeros 15)⟩, 400000000000000, 1000000000⟩ : GotMsg), (({  } : Link) : Link), by decide +kernel⟩,
   ⟨{ stateWith [(V.planeHeld 0, 0), (V.planeHeld 1, 0), (V.planeHeld 2, 0), (V.planeHeld 3, 0), (JOB_LSCTL.lane, 1), (JOB_LSSTAT.state, 1), (JOB_LSCTL.role, 1)] with links := [(9, { inbox := [⟨⟨TmlT.lockstep, [1, 2, 3]⟩, 400000000000000, 1000000000⟩] })], now := 4000000000000 }, (1 : Nat), (⟨⟨TmlT.lockstep, [1, 2, 3]⟩, 400000000000000, 1000000000⟩ : GotMsg), (({  } : Link) : Link), by
      repeat' apply And.intro
      all_goals first | decide +kernel | exact lock_partial _ _ (by decide +kernel)⟩,
   ⟨{ stateWith [(V.planeHeld 0, 0), (V.planeHeld 1, 0), (V.planeHeld 2, 0), (V.planeHeld 3, 0)] with links := [(1, { inbox := [⟨⟨MsgT.tipoffAck, (zeros 8 ++ [2] ++ zeros 19)⟩, 400000000000000, 1000000000⟩] })], now := 4000000000000 }, (1 : Nat), (⟨⟨MsgT.tipoffAck, (zeros 8 ++ [2] ++ zeros 19)⟩, 400000000000000, 1000000000⟩ : GotMsg), (({  } : Link) : Link), by decide +kernel⟩⟩

/-- The hypotheses of each clause of `Obligations.TileCommandsTakeEffect` hold together. -/
theorem test_tile_met :
    (∃ (s : State) (k j r at_ period : Nat), s.Wf ∧ k < 4 ∧ j < 4 ∧ s.boundaryDue k at_ period = true ∧ s.tilesAt k = [j] ∧ r ∈ tileRails j ∧ s.rd (V.nactNext r) ≠ 0 ∧ s.rd (rState r) = RailS.regulating ∧ s.rd (V.fastAdd r) = 0 ∧ (s.railChannels r Role.bench).all (fun c => s.rd (V.repFor c) != 0) = true ∧ (s.railChannels r Role.working).all (fun c => s.rd (V.imgRole c) == Role.working) = true) ∧
    (∃ (s : State) (r v : Nat) (x : LoopSamples), s.Wf ∧ r < 18 ∧ s.rd (V.vcnt r) < 16) ∧
    (∃ (s : State) (k period : Nat), s.Wf ∧ k < 4 ∧ s.rd (PHT_SYNCCFG.src k) = 1 ∧ s.rd (PHT_SYNCSTAT.lock k) = 1 ∧ (period = 0 ∨ 100 * period < 95 * (1000000000 / s.rd (PHT_SYNCCFG.fsw k)) ∨ 105 * (1000000000 / s.rd (PHT_SYNCCFG.fsw k)) < 100 * period)) ∧
    (∃ (s : State) (k period good : Nat) (phase : Int), s.Wf ∧ k < 4 ∧ s.rd (PHT_SYNCCFG.src k) = 1 ∧ s.rd (PHT_SYNCSTAT.holdover k) = 1 ∧ 95 * (1000000000 / s.rd (PHT_SYNCCFG.fsw k)) ≤ 100 * period ∧ 100 * period ≤ 105 * (1000000000 / s.rd (PHT_SYNCCFG.fsw k)) ∧ 1000 ≤ s.rd (V.syncGood k) + good) ∧
    (∃ (s : State) (r : Nat), s.Wf ∧ r < 18 ∧ s.rd V.rotSecond < s.now / 4000000000) ∧
    (∃ (s : State) (r : Nat) (p q : Nat × Nat), s.Wf ∧ r < 18 ∧ s.senseFailed r = true ∧ s.sensePair? r false = some p ∧ s.sensePair? r true = some q ∧ s.rd (PHT_RSTAT.alt (railTile r) (railLocal r)) = 0) ∧
    (∃ (s : State) (r : Nat), s.Wf ∧ r < 18 ∧ s.loopRuns r = true ∧ (2 ≤ s.rd (V.climitRun r) ∨ s.rd (PHT_RSTAT.brake (railTile r) (railLocal r)) = 1)) :=
  ⟨⟨{ stateWith [(V.planeHeld 0, 0), (V.planeHeld 1, 0), (V.planeHeld 2, 0), (V.planeHeld 3, 0), (V.nactNext 2, 1), (rState 2, RailS.regulating), (V.fastAdd 2, 0), (PHT_SYNCCFG.src 0, 1), (PHT_SYNCCFG.src 2, 1), (PHT_SYNCCFG.src 3, 1)] with now := 4000000000000 }, (1 : Nat), (1 : Nat), (2 : Nat), (4000000000000 : Nat), (0 : Nat), by decide +kernel⟩,
   ⟨{ stateWith [(V.planeHeld 0, 0), (V.planeHeld 1, 0), (V.planeHeld 2, 0), (V.planeHeld 3, 0)] with now := 4000000000000 }, (1 : Nat), (1 : Nat), (⟨[], []⟩ : LoopSamples), by decide +kernel⟩,
   ⟨{ stateWith [(V.planeHeld 0, 0), (V.planeHeld 1, 0), (V.planeHeld 2, 0), (V.planeHeld 3, 0), (PHT_SYNCCFG.src 1, 1), (PHT_SYNCSTAT.lock 1, 1)] with now := 4000000000000 }, (1 : Nat), (1 : Nat), by decide +kernel⟩,
   ⟨{ stateWith [(V.planeHeld 0, 0), (V.planeHeld 1, 0), (V.planeHeld 2, 0), (V.planeHeld 3, 0), (PHT_SYNCCFG.src 1, 1), (PHT_SYNCSTAT.holdover 1, 1)] with now := 4000000000000 }, (1 : Nat), (1000000 : Nat), (1000 : Nat), (0 : Int), by decide +kernel⟩,
   ⟨{ stateWith [(V.planeHeld 0, 0), (V.planeHeld 1, 0), (V.planeHeld 2, 0), (V.planeHeld 3, 0)] with now := 4000000000000 }, (1 : Nat), by decide +kernel⟩,
   ⟨{ stateWith [(V.planeHeld 0, 0), (V.planeHeld 1, 0), (V.planeHeld 2, 0), (V.planeHeld 3, 0), (PHT_RSTAT.alt (railTile 1) (railLocal 1), 0), (V.senseBad 1, 1), (PHT_VSCFG.role 0 0, 1), (PHT_VSCFG.role 0 1, 2), (PHT_VSCFG.rail 0 0, railLocal 1), (PHT_VSCFG.rail 0 1, railLocal 1)] with now := 4000000000000 }, (1 : Nat), ((0, 0) : Nat × Nat), ((0, 1) : Nat × Nat), by decide +kernel⟩,
   ⟨{ stateWith [(V.planeHeld 0, 0), (V.planeHeld 1, 0), (V.planeHeld 2, 0), (V.planeHeld 3, 0), (V.climitRun 1, 3), (rState 1, RailS.regulating), (V.climitRun 1, 2)] with now := 4000000000000 }, (1 : Nat), by decide +kernel⟩⟩

/-- The hypotheses of each clause of `Obligations.ChannelCommandsTakeEffect` hold together. -/
theorem test_channel_met :
    (∃ (s : State) (c cause imon rise expected : Nat), s.Wf ∧ c < 320 ∧ s.rd (chRole c) ≠ Role.failed ∧ s.rd (chRail c) < 5 ∧ s.testFires c cause = true ∧ s.testShows c imon rise expected = true) ∧
    (∃ (s : State) (c r : Nat), s.Wf ∧ c < 320 ∧ s.railOf c = r ∧ s.rd (chState c) = ChS.waking ∧ s.rd (V.repFor c) ≠ 0 ∧ s.rd (V.zeroing c) = 0 ∧ s.rd (V.zeroDone c) ≠ 0 ∧ s.rd (V.zeroDone c) + 800 ≤ s.now + 1 ∧ s.rd (V.perAt (railTile r)) = s.now + 1 ∧ 3000 ≤ s.rd (PHT_CHIMON.zero (c / 80) (c % 80)) ∧ s.rd (PHT_CHIMON.zero (c / 80) (c % 80)) ≤ 16500) ∧
    (∃ (s : State) (c : Nat), s.Wf ∧ c < 320 ∧ s.rd (V.repFor c) ≠ 0 ∧ s.rd (V.joinAt c) ≠ 0 ∧ s.rd (V.joinAt c) + 24000 ≤ s.now + 1) :=
  ⟨⟨{ stateWith [(V.planeHeld 0, 0), (V.planeHeld 1, 0), (V.planeHeld 2, 0), (V.planeHeld 3, 0), (V.imon 1, 1000), (V.imonOut 1, 2), (chRole 1, Role.working), (chRail 1, 0)] with now := 4000000000000 }, (1 : Nat), (3 : Nat), (1000 : Nat), (0 : Nat), (0 : Nat), by decide +kernel⟩,
   ⟨{ stateWith [(V.planeHeld 0, 0), (V.planeHeld 1, 0), (V.planeHeld 2, 0), (V.planeHeld 3, 0), (chState 1, ChS.waking), (V.repFor 1, 1), (V.zeroing 1, 0), (V.zeroDone 1, 1), (PHT_CHIMON.zero (1 / 80) (1 % 80), 3001), (chRail 1, 0), (PHT_CHIMON.zero 0 1, 3300), (V.zeroDone 1, 3999999000000), (V.perAt 0, 4000000000001)] with now := 4000000000000 }, (1 : Nat), (0 : Nat), by decide +kernel⟩,
   ⟨{ stateWith [(V.planeHeld 0, 0), (V.planeHeld 1, 0), (V.planeHeld 2, 0), (V.planeHeld 3, 0), (V.repFor 1, 1), (V.joinAt 1, 1)] with now := 4000000000000 }, (1 : Nat), by decide +kernel⟩⟩

/-- The hypotheses of each clause of `Obligations.RailCommandsTakeEffect` hold together. -/
theorem test_rail_met :
    (∃ (s : State) (r : Nat), s.Wf ∧ r < 18 ∧ s.railReady r = true) ∧
    (∃ (s : State) (r : Nat), s.Wf ∧ r < 18 ∧ s.softTrip r ≠ 0) ∧
    (∃ (s : State) (r : Nat), s.Wf ∧ r < 18 ∧ (s.tripCause r).1 ≠ 0) ∧
    (∃ (s : State) (r : Nat), s.Wf ∧ r < 18 ∧ s.rd (rState r) = RailS.discharge ∧ (s.rd (V.vsense r) < 500 ∨ s.offTimedOut r = true)) ∧
    (∃ (s : State) (r : Nat) (e : BrakeEdge), s.Wf ∧ s.brakeArmed r = true ∧ s.rd (PHT_RSTAT.brake (railTile r) (railLocal r)) = 0 ∧ e.v + 10 * s.rd (PHT_PROT.brake (railTile r) (railLocal r)) < s.rd (V.vt r)) ∧
    (∃ (s : State) (r : Nat) (e : BrakeEdge), s.Wf ∧ r < 16 ∧ s.rd (PHT_RSTAT.brake (railTile r) (railLocal r)) = 1 ∧ s.rd (V.vt r) + 10 * s.rd (PHT_PROT.brake_hys (railTile r) (railLocal r)) < e.v + 10 * s.rd (PHT_PROT.brake (railTile r) (railLocal r))) :=
  ⟨⟨{ stateWith [(V.planeHeld 0, 0), (V.planeHeld 1, 0), (V.planeHeld 2, 0), (V.planeHeld 3, 0), (rState 1, RailS.softstart), (V.rampOn 1, 1), (PHT_VLIM.vmax (railTile 1) (railLocal 1), 9000), (PHT_VSET.vset (railTile 1) (railLocal 1), 8000), (V.vbase 1, 128000), (V.vsense 1, 8000)] with now := 4000000000000 }, (1 : Nat), by decide +kernel⟩,
   ⟨{ stateWith [(V.planeHeld 0, 0), (V.planeHeld 1, 0), (V.planeHeld 2, 0), (V.planeHeld 3, 0), (rState 1, RailS.softstart), (V.foldSince 1, 1)] with now := 4000000000000 }, (1 : Nat), by decide +kernel⟩,
   ⟨{ stateWith [(V.planeHeld 0, 0), (V.planeHeld 1, 0), (V.planeHeld 2, 0), (V.planeHeld 3, 0), (rState 1, RailS.regulating), (V.ovSince 1, 1)] with now := 4000000000000 }, (1 : Nat), by decide +kernel⟩,
   ⟨{ stateWith [(V.planeHeld 0, 0), (V.planeHeld 1, 0), (V.planeHeld 2, 0), (V.planeHeld 3, 0), (rState 1, RailS.discharge)] with now := 4000000000000 }, (1 : Nat), by decide +kernel⟩,
   ⟨{ stateWith [(V.planeHeld 0, 0), (V.planeHeld 1, 0), (V.planeHeld 2, 0), (V.planeHeld 3, 0), (PHT_RSTAT.brake (railTile 1) (railLocal 1), 0), (rState 1, RailS.regulating), (PHT_RAILCFG.brake_en (railTile 1) (railLocal 1), 1), (V.vt 1, 9000)] with now := 4000000000000 }, (1 : Nat), (⟨5000, 0⟩ : BrakeEdge), by decide +kernel⟩,
   ⟨{ stateWith [(V.planeHeld 0, 0), (V.planeHeld 1, 0), (V.planeHeld 2, 0), (V.planeHeld 3, 0), (PHT_RSTAT.brake (railTile 1) (railLocal 1), 1), (V.vt 1, 1000)] with now := 4000000000000 }, (1 : Nat), (⟨60000, 0⟩ : BrakeEdge), by decide +kernel⟩⟩

/-- The hypotheses of each clause of `Obligations.LinkTrainingCommandsTakeEffect` hold together (part 1 of 3). -/
theorem test_link_training_met_1 :
    (∃ (s : State) (n : Nat), s.Wf ∧ n < 13 ∧ s.rd (lkState n) = LinkS.off ∧ s.linkEnabled n = true ∧ s.linkPower n = true) ∧
    (∃ (s : State) (n swing gap ns : Nat), s.Wf ∧ n < 13 ∧ s.rd (lkState n) = LinkS.detect ∧ (s.rd (V.lookAt n) = 0 ∨ s.rd (V.lookAt n) + 4000000 ≤ s.now + 1) ∧ 100 ≤ swing ∧ gap ≤ 64 ∧ 10000 ≤ ns) ∧
    (∃ (s : State) (lane pos : Nat) (levels : List Int), s.Wf ∧ lane < 21 ∧ (s.lane lane).stage = 1 ∧ s.rd (lkState (s.linkOf lane)) = LinkS.train ∧ ((s.lane lane).takeFrame s.now pos levels).rateDown = false ∧ ((s.lane lane).takeFrame s.now pos levels).farDown = false ∧ 3 ≤ ((s.lane lane).takeFrame s.now pos levels).doneSent ∧ ((s.lane lane).takeFrame s.now pos levels).rxDone = true ∧ 3 ≤ ((s.lane lane).takeFrame s.now pos levels).farDone) ∧
    (∃ (s : State) (lane rate : Nat), s.Wf ∧ lane < 21 ∧ (s.lane lane).stage = 1 ∧ s.rd (lkState (s.linkOf lane)) = LinkS.train ∧ (s.lane lane).t0 + 8000000 ≤ s.now ∧ (s.lane lane).fixed = false ∧ (s.lane lane).slower = some rate) :=
  ⟨⟨{ stateWith [(V.planeHeld 0, 0), (V.planeHeld 1, 0), (V.planeHeld 2, 0), (V.planeHeld 3, 0), (lkState 1, LinkS.off), (SWJ_CTL.enable 1, 1), (rState 1, RailS.regulating)] with now := 4000000000000 }, (1 : Nat), by decide +kernel⟩,
   ⟨{ stateWith [(V.planeHeld 0, 0), (V.planeHeld 1, 0), (V.planeHeld 2, 0), (V.planeHeld 3, 0), (lkState 1, LinkS.detect), (V.lookAt 1, 0)] with now := 4000000000000 }, (1 : Nat), (100 : Nat), (64 : Nat), (10000 : Nat), by decide +kernel⟩,
   ⟨{ stateWith [(V.planeHeld 0, 0), (V.planeHeld 1, 0), (V.planeHeld 2, 0), (V.planeHeld 3, 0), (lkState 1, LinkS.train)] with lanes := [(2, { stage := 1, rxDone := true, doneSent := 3, farDone := 3 })], now := 4000000000000 }, (2 : Nat), (0 : Nat), ([] : List Int), by decide +kernel⟩,
   ⟨{ stateWith [(V.planeHeld 0, 0), (V.planeHeld 1, 0), (V.planeHeld 2, 0), (V.planeHeld 3, 0), (lkState 1, LinkS.train)] with lanes := [(2, { stage := 1 })], now := 4000000000000 }, (2 : Nat), (1 : Nat), by decide +kernel⟩⟩

/-- The hypotheses of each clause of `Obligations.LinkTrainingCommandsTakeEffect` hold together (part 2 of 3). -/
theorem test_link_training_met_2 :
    (∃ (s : State) (lane : Nat), s.Wf ∧ lane < 21 ∧ (s.lane lane).stage = 1) ∧
    (∃ (s : State) (lane : Nat), s.Wf ∧ lane < 21 ∧ 2 ≤ (s.lane lane).stage ∧ (s.lane lane).txTick ≠ s.tick) ∧
    (∃ (s : State) (n : Nat), s.Wf ∧ n < 13 ∧ (s.link n).sent.any (fun m => !m.again && decide (m.tick + 3 ≤ s.tick)) = true) ∧
    (∃ (s : State) (req n : Nat), s.Wf ∧ n < 8 ∧ s.Reaches req (0x30_0000 + 0x1_0000 * n) 4 4 false ∧ s.rd (lkState n) ≠ LinkS.off) :=
  ⟨⟨{ stateWith [(V.planeHeld 0, 0), (V.planeHeld 1, 0), (V.planeHeld 2, 0), (V.planeHeld 3, 0)] with lanes := [(2, { stage := 1 })], now := 4000000000000 }, (2 : Nat), by decide +kernel⟩,
   ⟨{ stateWith [(V.planeHeld 0, 0), (V.planeHeld 1, 0), (V.planeHeld 2, 0), (V.planeHeld 3, 0)] with lanes := [(2, { stage := 3 })], now := 4000000000000 }, (2 : Nat), by decide +kernel⟩,
   ⟨{ stateWith [(V.planeHeld 0, 0), (V.planeHeld 1, 0), (V.planeHeld 2, 0), (V.planeHeld 3, 0)] with links := [(1, { sent := [⟨⟨MsgT.time, []⟩, 1, 5, false⟩] })], now := 4000000000000 }, (1 : Nat), by decide +kernel⟩,
   ⟨{ stateWith [(V.planeHeld 0, 0), (V.planeHeld 1, 0), (V.planeHeld 2, 0), (V.planeHeld 3, 0), (lkState 1, 1)] with now := 4000000000000 }, (6 : Nat), (1 : Nat), by decide +kernel⟩⟩

set_option maxRecDepth 1000000 in
/-- The hypotheses of `Obligations.LinkTrainingCommandsTakeEffect` hold together (part 3 of 3). -/
theorem test_link_training_met_3 :
    ∃ (s : State) (lane fidx arrive : Nat) (levels : List Int), s.Wf ∧ lane < 21 ∧ 2 ≤ (s.lane lane).stage ∧ (frameDecode fidx levels).payload = none :=
  ⟨{ stateWith [(V.planeHeld 0, 0), (V.planeHeld 1, 0), (V.planeHeld 2, 0), (V.planeHeld 3, 0)] with lanes := [(2, { stage := 3 })], now := 4000000000000 }, (2 : Nat), (0 : Nat), (0 : Nat), (List.replicate 70 3 : List Int), by decide +kernel⟩

/-- The hypotheses of each clause of `Obligations.LinkChangeCommandsTakeEffect` hold together. -/
theorem test_link_change_met :
    (∃ (s : State) (n : Nat), s.Wf ∧ n < 12 ∧ s.rd (lkState n) = LinkS.run ∧ s.rd (lkLane n) = 0 ∧ s.spareFree n = true ∧ s.rd (lkSpareFail n) = 0 ∧ (s.switchDue n = true ∨ (s.link n).forced = true)) ∧
    (∃ (s : State) (n : Nat), s.Wf ∧ n < 12 ∧ s.rd (lkState n) = LinkS.switch ∧ (s.lane (spareLane n)).stage = 3 ∧ (s.link n).switchAt = none) ∧
    (∃ (s : State) (n k : Nat), s.Wf ∧ n < 12 ∧ s.rd (lkState n) = LinkS.switch ∧ (s.link n).switchAt = some k ∧ k * 4000 ≤ s.now) ∧
    (∃ (s : State) (n : Nat), s.Wf ∧ n < 13 ∧ 3 ≤ s.rd (lkState n) ∧ s.rd (lkState n) ≠ LinkS.loss ∧ s.lastFrame n + 16 * framePeriod (s.rd (lkRate n)) ≤ s.now) ∧
    (∃ (s : State) (n : Nat), s.Wf ∧ n < 13 ∧ s.rd (lkState n) = LinkS.loss ∧ (s.link n).held = false ∧ max (s.link n).lossAt (s.link n).retryAt + 4000000000 ≤ s.now) ∧
    (∃ (s : State) (n : Nat), s.Wf ∧ n < 8 ∧ (s.link n).lossAt ≠ 0 ∧ s.rd (lkState n) ≠ LinkS.off ∧ s.rd (SWJ_LOSSCFG.action n) = 1 ∧ (s.link n).lossAt + s.rd (SWJ_LOSSCFG.timeout n) * 4000000 ≤ s.now ∧ s.orders.holds.any (fun h => h.holder == .linkLoss n) = false ∧ s.seqRailOf? n = none) ∧
    (∃ (s : State) (n q : Nat), s.Wf ∧ n < 8 ∧ (s.link n).lossAt ≠ 0 ∧ s.rd (lkState n) ≠ LinkS.off ∧ s.rd (SWJ_LOSSCFG.action n) = 1 ∧ (s.link n).lossAt + s.rd (SWJ_LOSSCFG.timeout n) * 4000000 ≤ s.now ∧ s.orders.holds.any (fun h => h.holder == .linkLoss n) = false ∧ s.seqRailOf? n = some q) :=
  ⟨⟨{ stateWith [(V.planeHeld 0, 0), (V.planeHeld 1, 0), (V.planeHeld 2, 0), (V.planeHeld 3, 0), (lkState 1, LinkS.run), (lkLane 1, 0), (lkSpareFail 1, 0), (SWJ_CTL.spare_en 1, 1)] with links := [(1, { forced := true })], now := 4000000000000 }, (1 : Nat), by decide +kernel⟩,
   ⟨{ stateWith [(V.planeHeld 0, 0), (V.planeHeld 1, 0), (V.planeHeld 2, 0), (V.planeHeld 3, 0), (lkState 1, LinkS.switch)] with lanes := [(3, { stage := 3 })], now := 4000000000000 }, (1 : Nat), by decide +kernel⟩,
   ⟨{ stateWith [(V.planeHeld 0, 0), (V.planeHeld 1, 0), (V.planeHeld 2, 0), (V.planeHeld 3, 0), (lkState 1, LinkS.switch)] with links := [(1, { switchAt := some 5 })], now := 4000000000000 }, (1 : Nat), (5 : Nat), by decide +kernel⟩,
   ⟨{ stateWith [(V.planeHeld 0, 0), (V.planeHeld 1, 0), (V.planeHeld 2, 0), (V.planeHeld 3, 0), (lkState 1, LinkS.run)] with now := 4000000000000 }, (1 : Nat), by decide +kernel⟩,
   ⟨{ stateWith [(V.planeHeld 0, 0), (V.planeHeld 1, 0), (V.planeHeld 2, 0), (V.planeHeld 3, 0), (lkState 1, LinkS.loss)] with now := 4000000000000 }, (1 : Nat), by decide +kernel⟩,
   ⟨{ stateWith [(V.planeHeld 0, 0), (V.planeHeld 1, 0), (V.planeHeld 2, 0), (V.planeHeld 3, 0), (lkState 1, 1), (SWJ_LOSSCFG.action 1, 1)] with links := [(1, { lossAt := 5 })], now := 4000000000000 }, (1 : Nat), by decide +kernel⟩,
   ⟨{ stateWith [(V.planeHeld 0, 0), (V.planeHeld 1, 0), (V.planeHeld 2, 0), (V.planeHeld 3, 0), (lkState 1, 1), (SWJ_LOSSCFG.action 1, 1), (SEQ_RAILMODE.flags 5, 3), (SEQ_RAILMODE.reg_rail 5, 1), (SEQ_RAILMODE.group 5, 2)] with links := [(1, { lossAt := 5 })], now := 4000000000000 }, (1 : Nat), (5 : Nat), by decide +kernel⟩⟩

/-- The hypotheses of each clause of `Obligations.SlotMessagesTakeEffect` hold together (part 1 of 2). -/
theorem test_slot_messages_met_1 :
    (∃ (s : State) (n : Nat) (g : GotMsg) (l : Link), s.Wf ∧ n < 8 ∧ (s.link n).take? MsgT.cap = some (g, l) ∧ s.rd (lkState n) ≠ LinkS.caps ∧ (s.link n).again = false) ∧
    (∃ (s : State) (n : Nat) (g : GotMsg) (l : Link), s.Wf ∧ n < 8 ∧ (s.link n).take? MsgT.hint = some (g, l)) ∧
    (∃ (s : State), s.Wf ∧ s.hints.any (fun h => decide (h.stop ≤ s.now)) = true) ∧
    (∃ (s : State) (n : Nat) (g : GotMsg), s.Wf ∧ n < 8 ∧ (s.link n).inbox = [g] ∧ g.msg.typ = MsgT.step ∧ g.tick + s.rd (SWJ_STAT.updelay n) ≤ s.tick + 1) ∧
    (∃ (s : State) (n : Nat) (g : GotMsg) (l : Link), s.Wf ∧ n < 8 ∧ (s.link n).take? MsgT.ageing = some (g, l)) :=
  ⟨⟨{ stateWith [(V.planeHeld 0, 0), (V.planeHeld 1, 0), (V.planeHeld 2, 0), (V.planeHeld 3, 0), (lkState 1, 1)] with links := [(1, { inbox := [⟨⟨MsgT.cap, ([2, 7] ++ zeros 26)⟩, 400000000000000, 1000000000⟩] })], now := 4000000000000 }, (1 : Nat), (⟨⟨MsgT.cap, ([2, 7] ++ zeros 26)⟩, 400000000000000, 1000000000⟩ : GotMsg), (({  } : Link) : Link), by decide +kernel⟩,
   ⟨{ stateWith [(V.planeHeld 0, 0), (V.planeHeld 1, 0), (V.planeHeld 2, 0), (V.planeHeld 3, 0)] with links := [(1, { inbox := [⟨⟨MsgT.hint, (zeros 28)⟩, 400000000000000, 1000000000⟩] })], now := 4000000000000 }, (1 : Nat), (⟨⟨MsgT.hint, (zeros 28)⟩, 400000000000000, 1000000000⟩ : GotMsg), (({  } : Link) : Link), by decide +kernel⟩,
   ⟨{ stateWith [(V.planeHeld 0, 0), (V.planeHeld 1, 0), (V.planeHeld 2, 0), (V.planeHeld 3, 0)] with hints := [⟨1, 0, 0, 0, 0, 5, 0, 0, 0, 0⟩], now := 4000000000000 }, by decide +kernel⟩,
   ⟨{ stateWith [(V.planeHeld 0, 0), (V.planeHeld 1, 0), (V.planeHeld 2, 0), (V.planeHeld 3, 0)] with links := [(1, { inbox := [⟨⟨MsgT.step, ([7] ++ zeros 27)⟩, 0, 5⟩] })], now := 4000000000000 }, (1 : Nat), (⟨⟨MsgT.step, ([7] ++ zeros 27)⟩, 0, 5⟩ : GotMsg), by decide +kernel⟩,
   ⟨{ stateWith [(V.planeHeld 0, 0), (V.planeHeld 1, 0), (V.planeHeld 2, 0), (V.planeHeld 3, 0)] with links := [(1, { inbox := [⟨⟨MsgT.ageing, ([1, 0, 0, 0, 9] ++ zeros 23)⟩, 400000000000000, 1000000000⟩] })], now := 4000000000000 }, (1 : Nat), (⟨⟨MsgT.ageing, ([1, 0, 0, 0, 9] ++ zeros 23)⟩, 400000000000000, 1000000000⟩ : GotMsg), (({  } : Link) : Link), by decide +kernel⟩⟩

/-- The hypotheses of each clause of `Obligations.SlotMessagesTakeEffect` hold together (part 2 of 2). -/
theorem test_slot_messages_met_2 :
    (∃ (s : State) (n : Nat) (g : GotMsg) (l : Link), s.Wf ∧ n < 8 ∧ (s.link n).take? MsgT.freqAck = some (g, l) ∧ g.msg.get 5 1 < 2) ∧
    (∃ (s : State) (n : Nat), s.Wf ∧ n < 8 ∧ s.rd (lkState n) = LinkS.run) ∧
    (∃ (s : State) (n : Nat), s.Wf ∧ n < 8 ∧ s.rd (lkState n) = LinkS.run ∧ (s.link n).echoOk = true ∧ ((s.link n).rttAt = 0 ∨ (s.link n).rttAt + 4000000000 ≤ s.now + 1)) ∧
    (∃ (s : State) (req n : Nat), s.Wf ∧ n < 8 ∧ s.Reaches req (0x30_0000 + 0x1_0000 * n) 4 2 false ∧ s.rd (lkState n) = LinkS.run ∧ (s.link n).echoOk = true) :=
  ⟨⟨{ stateWith [(V.planeHeld 0, 0), (V.planeHeld 1, 0), (V.planeHeld 2, 0), (V.planeHeld 3, 0)] with links := [(1, { inbox := [⟨⟨MsgT.freqAck, ([2] ++ zeros 27)⟩, 400000000000000, 1000000000⟩] })], now := 4000000000000 }, (1 : Nat), (⟨⟨MsgT.freqAck, ([2] ++ zeros 27)⟩, 400000000000000, 1000000000⟩ : GotMsg), (({  } : Link) : Link), by decide +kernel⟩,
   ⟨{ stateWith [(V.planeHeld 0, 0), (V.planeHeld 1, 0), (V.planeHeld 2, 0), (V.planeHeld 3, 0), (lkState 1, LinkS.run)] with now := 4000000000000 }, (1 : Nat), by decide +kernel⟩,
   ⟨{ stateWith [(V.planeHeld 0, 0), (V.planeHeld 1, 0), (V.planeHeld 2, 0), (V.planeHeld 3, 0), (lkState 1, LinkS.run)] with links := [(1, { echoOk := true })], now := 4000000000000 }, (1 : Nat), by decide +kernel⟩,
   ⟨{ stateWith [(V.planeHeld 0, 0), (V.planeHeld 1, 0), (V.planeHeld 2, 0), (V.planeHeld 3, 0), (lkState 1, LinkS.run)] with links := [(1, { echoOk := true })], now := 4000000000000 }, (6 : Nat), (1 : Nat), by decide +kernel⟩⟩

/-- The hypotheses of each clause of `Obligations.CapCommandsTakeEffect` hold together (part 1 of 2). -/
theorem test_cap_met_1 :
    (∃ (s : State), s.Wf ∧ (s.rd V.capLoopAt = 0 ∨ s.rd V.capLoopAt + 1000 ≤ s.tick + 1)) ∧
    (∃ (s : State) (n : Nat), s.Wf ∧ n < 8 ∧ s.rd (CAP_FREQ.esc n) ≠ 0xFF ∧ s.rd (V.escUntil n) ≤ s.now) ∧
    (∃ (s : State) (n : Nat), s.Wf ∧ n < 9 ∧ s.rd (V.unmetSince n) ≠ 0 ∧ s.rd (V.unmetTold n) = 0 ∧ s.rd (V.unmetSince n) + 40000000000 ≤ s.now + 1 ∧ (s.unmetCap n).isSome = true) ∧
    (∃ (s : State) (n : Nat), s.Wf ∧ n < 8 ∧ s.rd (V.agePeriod n) ≤ s.now / 400000000) :=
  ⟨⟨{ stateWith [(V.planeHeld 0, 0), (V.planeHeld 1, 0), (V.planeHeld 2, 0), (V.planeHeld 3, 0), (V.capLoopAt, 0)] with now := 4000000000000 }, by decide +kernel⟩,
   ⟨{ stateWith [(V.planeHeld 0, 0), (V.planeHeld 1, 0), (V.planeHeld 2, 0), (V.planeHeld 3, 0), (CAP_FREQ.esc 1, 1)] with now := 4000000000000 }, (1 : Nat), by decide +kernel⟩,
   ⟨{ stateWith [(V.planeHeld 0, 0), (V.planeHeld 1, 0), (V.planeHeld 2, 0), (V.planeHeld 3, 0), (V.unmetSince 1, 1), (V.unmetTold 1, 0), (V.binCount, 1), (V.bin 1 0, 1)] with orders := { standing := [⟨Blk.cap, Tgt.slotCap, 1, Src.loc, false, 0, 1, 0, 0, false⟩] }, now := 4000000000000 }, (1 : Nat), by decide +kernel⟩,
   ⟨{ stateWith [(V.planeHeld 0, 0), (V.planeHeld 1, 0), (V.planeHeld 2, 0), (V.planeHeld 3, 0)] with now := 4000000000000 }, (1 : Nat), by decide +kernel⟩⟩

/-- The hypotheses of each clause of `Obligations.CapCommandsTakeEffect` hold together (part 2 of 2). -/
theorem test_cap_met_2 :
    (∃ (s : State) (n : Nat), s.Wf ∧ n < 8 ∧ (s.rd (lkState n) ≠ LinkS.run ∨ (s.silentGroup n).isSome = true)) ∧
    (∃ (s : State) (n : Nat), s.Wf ∧ n < 8 ∧ 1000 ≤ (s.prdSlot n).ticks ∧ (s.rd (PRD_SSTAT.state n) = PrdS.active ∨ s.rd (PRD_SSTAT.state n) = PrdS.suspended)) ∧
    (∃ (s : State) (n : Nat), s.Wf ∧ n < 8 ∧ s.rd (PRD_SSTAT.state n) = PrdS.suspended ∧ (s.prdSlot n).holdUntil ≤ s.now ∧ (s.prdSlot n).lastGood = true) ∧
    (∃ (s : State) (a n : Nat), s.Wf ∧ n < 8 ∧ 0x4000_0000 ≤ a ∧ a < 0xC000_0000 ∧ s.rd PRD_WIPE.busy = 1) :=
  ⟨⟨{ stateWith [(V.planeHeld 0, 0), (V.planeHeld 1, 0), (V.planeHeld 2, 0), (V.planeHeld 3, 0), (lkState 1, 1)] with now := 4000000000000 }, (1 : Nat), by decide +kernel⟩,
   ⟨{ stateWith [(V.planeHeld 0, 0), (V.planeHeld 1, 0), (V.planeHeld 2, 0), (V.planeHeld 3, 0), (PRD_SSTAT.state 1, PrdS.active)] with prd := [(1, { ticks := 1000, absSum := 5000 })], now := 4000000000000 }, (1 : Nat), by decide +kernel⟩,
   ⟨{ stateWith [(V.planeHeld 0, 0), (V.planeHeld 1, 0), (V.planeHeld 2, 0), (V.planeHeld 3, 0), (PRD_SSTAT.state 1, PrdS.suspended)] with now := 4000000000000 }, (1 : Nat), by decide +kernel⟩,
   ⟨{ stateWith [(V.planeHeld 0, 0), (V.planeHeld 1, 0), (V.planeHeld 2, 0), (V.planeHeld 3, 0), (PRD_WIPE.busy, 1)] with now := 4000000000000 }, (0x4000_0000 : Nat), (1 : Nat), by decide +kernel⟩⟩

/-- The hypotheses of each clause of `Obligations.GroupCommandsTakeEffect` hold together. -/
theorem test_group_met :
    (∃ (s : State) (g : Nat), s.Wf ∧ g < 16 ∧ (s.grp g = GrpS.off ∨ s.grp g = GrpS.wait) ∧ s.mayStart g = true) ∧
    (∃ (s : State) (g cause : Nat), s.Wf ∧ g < 16 ∧ s.stopCause g = some cause) ∧
    (∃ (s : State), s.Wf ∧ s.rd V.sysRail ≠ 0 ∧ s.rd V.sysDownAt ≠ 0 ∧ s.rd V.sysDownAt + 400000000 ≤ s.boundary + 1 ∧ s.rd V.sysCount < s.rd (SEQ_RAILDIS.retries (s.rd V.sysRail - 1))) ∧
    (∃ (s : State) (req m value b hw : Nat), s.Wf ∧ m < 4 ∧ b < 32 ∧ s.Reaches req (0x90_0020 + 4 * m) 4 value false ∧ bit value b = true ∧ bit hw b = false) ∧
    (∃ (s : State) (req value hw : Nat), s.Wf ∧ s.Reaches req 0x90_0010 4 value false ∧ bit value 31 = true ∧ bit hw 31 = false) ∧
    (∃ (s : State), s.Wf ∧ s.rd V.fnActive = 0 ∧ s.drivesFault = false ∧ s.rd V.fnHigh = 0 ∧ 2 ≤ s.rd V.fnLow) ∧
    (∃ (s : State), s.Wf ∧ s.rd V.fnActive = 1 ∧ 10000 ≤ s.rd V.fnHigh) :=
  ⟨⟨{ stateWith [(V.planeHeld 0, 0), (V.planeHeld 1, 0), (V.planeHeld 2, 0), (V.planeHeld 3, 0), (SEQ_GSTAT.state 1, GrpS.off), (V.identDone, 1)] with orders := { standing := [⟨Blk.seq, Tgt.groupPwr, 1, Src.loc, false, 1, 0, 0, 0, false⟩] }, now := 4000000000000 }, (1 : Nat), by decide +kernel⟩,
   ⟨{ stateWith [(V.planeHeld 0, 0), (V.planeHeld 1, 0), (V.planeHeld 2, 0), (V.planeHeld 3, 0), (SEQ_GSTAT.state 1, GrpS.up)] with now := 4000000000000 }, (1 : Nat), (0 : Nat), by decide +kernel⟩,
   ⟨{ stateWith [(V.planeHeld 0, 0), (V.planeHeld 1, 0), (V.planeHeld 2, 0), (V.planeHeld 3, 0), (V.sysRail, 1), (V.sysDownAt, 1), (SEQ_RAILDIS.retries 0, 3), (V.sysRail, 1)] with now := 4000000000000 }, by decide +kernel⟩,
   ⟨{ stateWith [(V.planeHeld 0, 0), (V.planeHeld 1, 0), (V.planeHeld 2, 0), (V.planeHeld 3, 0)] with now := 4000000000000 }, (6 : Nat), (1 : Nat), (2 : Nat), (1 : Nat), (1 : Nat), by decide +kernel⟩,
   ⟨{ stateWith [(V.planeHeld 0, 0), (V.planeHeld 1, 0), (V.planeHeld 2, 0), (V.planeHeld 3, 0)] with now := 4000000000000 }, (6 : Nat), (2147483648 : Nat), (1 : Nat), by decide +kernel⟩,
   ⟨{ stateWith [(V.planeHeld 0, 0), (V.planeHeld 1, 0), (V.planeHeld 2, 0), (V.planeHeld 3, 0), (V.fnActive, 0), (V.fnHigh, 0), (V.fnLow, 3)] with now := 4000000000000 }, by decide +kernel⟩,
   ⟨{ stateWith [(V.planeHeld 0, 0), (V.planeHeld 1, 0), (V.planeHeld 2, 0), (V.planeHeld 3, 0), (V.fnActive, 1), (V.fnHigh, 10001)] with now := 4000000000000 }, by decide +kernel⟩⟩

/-- The hypotheses of each clause of `Obligations.RailsComeUp` hold together. -/
theorem test_rails_come_up_met :
    (∃ (s : State) (g r : Nat), s.Wf ∧ r < 128 ∧ s.groupOf r = g ∧ s.enableDue r = true ∧ s.holdsEnable r = [] ∧ s.regOf? r = none ∧ s.rd (V.identHold r) = 0) ∧
    (∃ (s : State) (g r q : Nat), s.Wf ∧ r < 128 ∧ s.groupOf r = g ∧ s.enableDue r = true ∧ s.holdsEnable r = [] ∧ s.regOf? r = some q ∧ s.rd (V.identHold r) = 0) ∧
    (∃ (s : State) (g r : Nat), s.Wf ∧ r < 128 ∧ s.groupOf r = g ∧ s.enableDue r = true ∧ s.holdsEnable r = [] ∧ s.rd (V.identHold r) = 1) ∧
    (∃ (s : State) (r : Nat), s.Wf ∧ r < 128 ∧ s.railPresent r = true ∧ s.rd (V.pgSince r) ≠ 0 ∧ s.rd (V.pgSince r) + s.rd (SEQ_RAILDIS.deglitch r) * 4000 ≤ s.boundary + 1) ∧
    (∃ (s : State) (r : Nat), s.Wf ∧ r < 128 ∧ (s.rd (SEQ_RSTAT.state r) = SeqS.qualify ∨ s.rd (SEQ_RSTAT.state r) = SeqS.bad) ∧ s.qualifies r = true ∧ s.rd (V.qualAt r) ≠ 0 ∧ s.rd (V.qualAt r) + s.rd (SEQ_RAILQ.qual r) * 4000 ≤ s.boundary + 1) ∧
    (∃ (s : State) (r : Nat), s.Wf ∧ r < 128 ∧ s.rd V.pfailRun = 0 ∧ s.rd (SEQ_RSTAT.state r) = SeqS.qualify ∧ s.rd (SEQ_RSTAT.en r) = 1 ∧ (s.rd (V.seqOnAt r) + s.rd (V.latOnTo r) * 400000 ≤ s.boundary + 1 ∨ s.vmonOver r = true ∨ s.tileTripped r = true ∨ s.surveyHolds r = true)) ∧
    (∃ (s : State) (r : Nat), s.Wf ∧ r < 128 ∧ s.rd (SEQ_RSTAT.state r) = SeqS.retry ∧ s.rd (V.falling r) = 0 ∧ s.rd (V.fallenAt r) ≠ 0 ∧ s.rd (V.fallenAt r) + 4000000 ≤ s.boundary + 1 ∧ s.rd V.pfailRun = 0 ∧ s.rd (V.identHold r) = 0) :=
  ⟨⟨{ stateWith [(V.planeHeld 0, 0), (V.planeHeld 1, 0), (V.planeHeld 2, 0), (V.planeHeld 3, 0), (V.identHold 1, 0), (SEQ_RAILMODE.flags 1, 1), (SEQ_GSTAT.state 0, GrpS.rampUp)] with now := 4000000000000 }, (0 : Nat), (1 : Nat), by decide +kernel⟩,
   ⟨{ stateWith [(V.planeHeld 0, 0), (V.planeHeld 1, 0), (V.planeHeld 2, 0), (V.planeHeld 3, 0), (V.identHold 1, 0), (SEQ_RAILMODE.flags 1, 3), (SEQ_RAILMODE.reg_rail 1, 4), (SEQ_GSTAT.state 0, GrpS.rampUp)] with now := 4000000000000 }, (0 : Nat), (1 : Nat), (4 : Nat), by decide +kernel⟩,
   ⟨{ stateWith [(V.planeHeld 0, 0), (V.planeHeld 1, 0), (V.planeHeld 2, 0), (V.planeHeld 3, 0), (V.identHold 1, 1), (SEQ_RAILMODE.flags 1, 1), (SEQ_GSTAT.state 0, GrpS.rampUp), (V.identHold 1, 1)] with now := 4000000000000 }, (0 : Nat), (1 : Nat), by decide +kernel⟩,
   ⟨{ stateWith [(V.planeHeld 0, 0), (V.planeHeld 1, 0), (V.planeHeld 2, 0), (V.planeHeld 3, 0), (V.pgSince 1, 1), (SEQ_RAILMODE.flags 1, 1)] with now := 4000000000000 }, (1 : Nat), by decide +kernel⟩,
   ⟨{ stateWith [(V.planeHeld 0, 0), (V.planeHeld 1, 0), (V.planeHeld 2, 0), (V.planeHeld 3, 0), (SEQ_RSTAT.state 1, SeqS.qualify), (V.qualAt 1, 1), (SEQ_RSTAT.en 1, 1), (SEQ_RSTAT.pg 1, 1)] with now := 4000000000000 }, (1 : Nat), by decide +kernel⟩,
   ⟨{ stateWith [(V.planeHeld 0, 0), (V.planeHeld 1, 0), (V.planeHeld 2, 0), (V.planeHeld 3, 0), (V.pfailRun, 0), (SEQ_RSTAT.state 1, SeqS.qualify), (SEQ_RSTAT.en 1, 1)] with now := 4000000000000 }, (1 : Nat), by decide +kernel⟩,
   ⟨{ stateWith [(V.planeHeld 0, 0), (V.planeHeld 1, 0), (V.planeHeld 2, 0), (V.planeHeld 3, 0), (SEQ_RSTAT.state 1, SeqS.retry), (V.falling 1, 0), (V.fallenAt 1, 1), (V.pfailRun, 0), (V.identHold 1, 0)] with now := 4000000000000 }, (1 : Nat), by decide +kernel⟩⟩

/-- The hypotheses of each clause of `Obligations.RailsGoDown` hold together. -/
theorem test_rails_go_down_met :
    (∃ (s : State) (r : Nat), s.Wf ∧ r < 128 ∧ s.disableDue r = true ∧ s.holdsDisable r = []) ∧
    (∃ (s : State) (r : Nat), s.Wf ∧ r < 128 ∧ s.rd (V.falling r) = 1 ∧ s.hasFallen r = true ∧ (s.rd (SEQ_RSTAT.state r) = SeqS.falling ∨ s.rd (SEQ_RSTAT.state r) = SeqS.discharge)) ∧
    (∃ (s : State) (r : Nat), s.Wf ∧ r < 128 ∧ s.rd (V.falling r) = 1 ∧ s.hasFallen r = false ∧ s.rd (V.disNeed r) = 0 ∧ bit (s.rd (SEQ_RAILMODE.flags r)) 3 = true ∧ s.offFor r (s.rd (V.latOffTo r)) = true ∧ s.rd (SEQ_RSTAT.state r) = SeqS.falling) ∧
    (∃ (s : State) (r : Nat), s.Wf ∧ r < 128 ∧ s.rd V.pfailRun = 0 ∧ s.rd (V.falling r) = 1 ∧ s.hasFallen r = false ∧ s.offFor r (s.rd (V.latOffTo r) + (if bit (s.rd (SEQ_RAILMODE.flags r)) 3 then s.rd (V.latDisTo r) else 0)) = true) ∧
    (∃ (s : State) (r : Nat), s.Wf ∧ r < 128 ∧ s.rd V.pfailRun = 0 ∧ s.rd (SEQ_RSTAT.state r) = SeqS.good ∧ s.rd (SEQ_RSTAT.en r) = 1 ∧ s.railFaultCause r ≠ 0) :=
  ⟨⟨{ stateWith [(V.planeHeld 0, 0), (V.planeHeld 1, 0), (V.planeHeld 2, 0), (V.planeHeld 3, 0), (SEQ_RAILMODE.flags 1, 1), (SEQ_GSTAT.state 0, GrpS.rampDown), (SEQ_RSTAT.en 1, 1)] with now := 4000000000000 }, (1 : Nat), by decide +kernel⟩,
   ⟨{ stateWith [(V.planeHeld 0, 0), (V.planeHeld 1, 0), (V.planeHeld 2, 0), (V.planeHeld 3, 0), (V.falling 1, 1), (SEQ_RSTAT.state 1, SeqS.falling)] with now := 4000000000000 }, (1 : Nat), by decide +kernel⟩,
   ⟨{ stateWith [(V.planeHeld 0, 0), (V.planeHeld 1, 0), (V.planeHeld 2, 0), (V.planeHeld 3, 0), (V.falling 1, 1), (V.disNeed 1, 0), (SEQ_RAILMODE.flags 1, 2 ^ (3)), (SEQ_RSTAT.state 1, SeqS.falling), (SEQ_RSTAT.pg 1, 1)] with now := 4000000000000 }, (1 : Nat), by decide +kernel⟩,
   ⟨{ stateWith [(V.planeHeld 0, 0), (V.planeHeld 1, 0), (V.planeHeld 2, 0), (V.planeHeld 3, 0), (V.pfailRun, 0), (V.falling 1, 1), (SEQ_RSTAT.pg 1, 1)] with now := 4000000000000 }, (1 : Nat), by decide +kernel⟩,
   ⟨{ stateWith [(V.planeHeld 0, 0), (V.planeHeld 1, 0), (V.planeHeld 2, 0), (V.planeHeld 3, 0), (V.pfailRun, 0), (SEQ_RSTAT.state 1, SeqS.good), (SEQ_RSTAT.en 1, 1)] with now := 4000000000000 }, (1 : Nat), by decide +kernel⟩⟩

/-- The hypotheses of each clause of `Obligations.FeedChannelCommandsTakeEffect` hold together (part 1 of 2). -/
theorem test_feed_channel_met_1 :
    (∃ (s : State) (c : Nat), s.Wf ∧ c < 16 ∧ s.fed c = FedS.inrush ∧ s.foldTrip c ≠ 0) ∧
    (∃ (s : State) (c : Nat), s.Wf ∧ c < 16 ∧ s.fed c = FedS.limit ∧ s.foldTrip c ≠ 0) ∧
    (∃ (s : State) (c : Nat), s.Wf ∧ c < 16 ∧ (s.fed c = FedS.inrush ∨ (s.fed c = FedS.limit ∧ 16 * s.fedAmps c < 240 * s.rd (FED_CHLIM.i_lim c))) ∧ s.rd (V.fedOkAt c) ≠ 0 ∧ s.rd (V.fedOkAt c) + 400000 ≤ s.now + 1) ∧
    (∃ (s : State) (c : Nat), s.Wf ∧ c < 16 ∧ s.fed c = FedS.on ∧ (s.rd (V.limitHit c) = 1 ∨ s.atLimit c = true)) ∧
    (∃ (s : State) (c dt : Nat) (i : Int), s.Wf ∧ c < 16 ∧ (s.fed c = FedS.inrush ∨ s.fed c = FedS.on ∨ s.fed c = FedS.limit) ∧ 16 * s.rd (FED_CHLIM.i_fast c) ≤ i.natAbs) ∧
    (∃ (s : State) (c dt : Nat) (i : Int), s.Wf ∧ c < 2 ∧ (s.fed c = FedS.inrush ∨ s.fed c = FedS.on ∨ s.fed c = FedS.limit) ∧ i ≤ -((16 * s.rd (FED_CHREV.i_rev c) : Nat) : Int)) :=
  ⟨⟨{ stateWith [(V.planeHeld 0, 0), (V.planeHeld 1, 0), (V.planeHeld 2, 0), (V.planeHeld 3, 0), (FED_CHSTAT.state 1, FedS.inrush)] with now := 4000000000000 }, (1 : Nat), by decide +kernel⟩,
   ⟨{ stateWith [(V.planeHeld 0, 0), (V.planeHeld 1, 0), (V.planeHeld 2, 0), (V.planeHeld 3, 0), (FED_CHSTAT.state 1, FedS.limit)] with now := 4000000000000 }, (1 : Nat), by decide +kernel⟩,
   ⟨{ stateWith [(V.planeHeld 0, 0), (V.planeHeld 1, 0), (V.planeHeld 2, 0), (V.planeHeld 3, 0), (FED_CHSTAT.state 1, FedS.inrush), (V.fedOkAt 1, 1)] with now := 4000000000000 }, (1 : Nat), by decide +kernel⟩,
   ⟨{ stateWith [(V.planeHeld 0, 0), (V.planeHeld 1, 0), (V.planeHeld 2, 0), (V.planeHeld 3, 0), (FED_CHSTAT.state 1, FedS.on), (V.limitHit 1, 1)] with now := 4000000000000 }, (1 : Nat), by decide +kernel⟩,
   ⟨{ stateWith [(V.planeHeld 0, 0), (V.planeHeld 1, 0), (V.planeHeld 2, 0), (V.planeHeld 3, 0), (FED_CHSTAT.state 1, FedS.inrush)] with now := 4000000000000 }, (1 : Nat), (1 : Nat), (0 : Int), by decide +kernel⟩,
   ⟨{ stateWith [(V.planeHeld 0, 0), (V.planeHeld 1, 0), (V.planeHeld 2, 0), (V.planeHeld 3, 0), (FED_CHSTAT.state 1, FedS.inrush)] with now := 4000000000000 }, (1 : Nat), (1 : Nat), (-1000000 : Int), by decide +kernel⟩⟩

/-- The hypotheses of each clause of `Obligations.FeedChannelCommandsTakeEffect` hold together (part 2 of 2). -/
theorem test_feed_channel_met_2 :
    (∃ (s : State) (c b sc : Nat), s.Wf ∧ c < 16 ∧ s.rd (V.tripDue c) = 1 ∧ boundaryOf (s.rd (V.tripAt c) - 1) ≤ s.boundary ∧ s.fedTarget? c = some (b, sc) ∧ bit (s.rd FED_TRIPMAP.latch) c = true) ∧
    (∃ (s : State) (req value c hw : Nat), s.Wf ∧ s.Reaches req 0xA0_0030 4 value false ∧ c < 16 ∧ bit value c = true ∧ bit hw c = false) ∧
    (∃ (s : State) (c : Nat), s.Wf ∧ c < 16 ∧ s.damageCode c ≠ 0) ∧
    (∃ (s : State) (c dt : Nat) (i : Int), s.Wf ∧ c < 16 ∧ s.fed c = FedS.damaged ∧ bit (s.rd FED_TRIPMAP.latch) c = false ∧ 16 * s.rd (FED_CHLIM.i_fast c) ≤ i.natAbs) ∧
    (∃ (s : State) (c : Nat), s.Wf ∧ c < 16 ∧ s.rd (V.tripDue c) = 1 ∧ boundaryOf (s.rd (V.tripAt c) - 1) ≤ s.boundary ∧ bit (s.rd FED_TRIPMAP.latch) c = false) :=
  ⟨⟨{ stateWith [(V.planeHeld 0, 0), (V.planeHeld 1, 0), (V.planeHeld 2, 0), (V.planeHeld 3, 0), (V.tripDue 5, 1), (FED_TRIPMAP.latch, 2 ^ (5))] with now := 4000000000000 }, (5 : Nat), (Blk.seq : Nat), (3 : Nat), by decide +kernel⟩,
   ⟨{ stateWith [(V.planeHeld 0, 0), (V.planeHeld 1, 0), (V.planeHeld 2, 0), (V.planeHeld 3, 0)] with now := 4000000000000 }, (6 : Nat), (2 : Nat), (1 : Nat), (1 : Nat), by decide +kernel⟩,
   ⟨{ stateWith [(V.planeHeld 0, 0), (V.planeHeld 1, 0), (V.planeHeld 2, 0), (V.planeHeld 3, 0), (V.leakAt 1, 1)] with now := 4000000000000 }, (1 : Nat), by decide +kernel⟩,
   ⟨{ stateWith [(V.planeHeld 0, 0), (V.planeHeld 1, 0), (V.planeHeld 2, 0), (V.planeHeld 3, 0), (FED_CHSTAT.state 1, FedS.damaged)] with now := 4000000000000 }, (1 : Nat), (1 : Nat), (0 : Int), by decide +kernel⟩,
   ⟨{ stateWith [(V.planeHeld 0, 0), (V.planeHeld 1, 0), (V.planeHeld 2, 0), (V.planeHeld 3, 0), (V.tripDue 1, 1)] with now := 4000000000000 }, (1 : Nat), by decide +kernel⟩⟩

/-- The hypotheses of each clause of `Obligations.FeedSelectionCommandsTakeEffect` hold together. -/
theorem test_feed_selection_met :
    (∃ (s : State) (f : Nat), s.Wf ∧ f < 2 ∧ s.rd (feedUsable f) = 0 ∧ s.feedFit f = true ∧ s.rd (V.vinInAt f) ≠ 0 ∧ s.rd (V.vinInAt f) + s.rd (FED_FEEDQ.qual f) * 4000000 ≤ s.now + 1) ∧
    (∃ (s : State) (f : Nat), s.Wf ∧ f < 2 ∧ s.rd (feedUsable f) = 1 ∧ (s.feedFit f = false ∨ s.vinLost f = true)) ∧
    (∃ (s : State), s.Wf ∧ s.rd FED_SELCFG.revert = 1 ∧ s.rd FED_SELSTAT.sel = 1 - s.rd FED_SELCFG.primary ∧ s.rd (feedUsable (s.rd FED_SELCFG.primary)) = 1 ∧ s.rd V.swPhase = 0 ∧ s.rd V.swPend = 0 ∧ s.rd (V.usableAt (s.rd FED_SELCFG.primary)) ≠ 0 ∧ s.rd (V.usableAt (s.rd FED_SELCFG.primary)) + s.rd FED_SELCFG.ret * 4000000000 ≤ s.now + 1) ∧
    (∃ (s : State), s.Wf ∧ s.rd V.swPhase = 1 ∧ s.rd V.pfailRun = 0 ∧ s.rd V.swOld < 2 ∧ s.rd V.swT0 + (s.judgeTime + s.rd FED_SELCFG.dead) * 4000 ≤ s.now + 1 ∧ s.oldFeedOn = false ∧ s.rd (feedUsable (1 - s.rd V.swOld)) = 1) ∧
    (∃ (s : State), s.Wf ∧ s.rd FED_SELSTAT.hold = 1 ∧ s.rd V.swPhase = 0 ∧ s.rd V.swOnAt ≠ 0 ∧ s.rd V.swOnAt + 40000 ≤ s.now + 1) :=
  ⟨⟨{ stateWith [(V.planeHeld 0, 0), (V.planeHeld 1, 0), (V.planeHeld 2, 0), (V.planeHeld 3, 0), (feedUsable 1, 0), (V.vinInAt 1, 1)] with orders := { standing := [⟨Blk.fed, Tgt.chEn, 1, Src.loc, false, 1, 0, 0, 0, false⟩] }, now := 4000000000000 }, (1 : Nat), by decide +kernel⟩,
   ⟨{ stateWith [(V.planeHeld 0, 0), (V.planeHeld 1, 0), (V.planeHeld 2, 0), (V.planeHeld 3, 0), (feedUsable 1, 1)] with now := 4000000000000 }, (1 : Nat), by decide +kernel⟩,
   ⟨{ stateWith [(V.planeHeld 0, 0), (V.planeHeld 1, 0), (V.planeHeld 2, 0), (V.planeHeld 3, 0), (FED_SELCFG.revert, 1), (V.swPhase, 0), (V.swPend, 0), (FED_SELCFG.primary, 0), (FED_SELSTAT.sel, 1), (feedUsable 0, 1), (V.usableAt 0, 1)] with now := 4000000000000 }, by decide +kernel⟩,
   ⟨{ stateWith [(V.planeHeld 0, 0), (V.planeHeld 1, 0), (V.planeHeld 2, 0), (V.planeHeld 3, 0), (V.swPhase, 1), (V.pfailRun, 0), (V.swOld, 0), (feedUsable 1, 1), (V.swT0, 1), (V.swPhase, 1)] with now := 4000000000000 }, by decide +kernel⟩,
   ⟨{ stateWith [(V.planeHeld 0, 0), (V.planeHeld 1, 0), (V.planeHeld 2, 0), (V.planeHeld 3, 0), (FED_SELSTAT.hold, 1), (V.swPhase, 0), (V.swOnAt, 1)] with now := 4000000000000 }, by decide +kernel⟩⟩

/-- The hypotheses of each clause of `Obligations.DeviceTemperatureCommandsTakeEffect` hold together. -/
theorem test_device_temperature_met :
    (∃ (s : State), s.Wf ∧ s.rd (V.planeHeld 0) = 0 ∧ s.rd (diodeBad (s.rd THM_DEVSTAT.sel)) = 0 ∧ s.devLevel ≠ s.rd THM_DEVSTAT.level) ∧
    (∃ (s : State) (d : Nat), s.Wf ∧ d < 2 ∧ s.rd (V.dioBad d) = 2 ∧ s.rd (diodeBad d) = 0) ∧
    (∃ (s : State), s.Wf ∧ s.rd (diodeBad (s.rd THM_DEVSTAT.sel)) = 1 ∧ s.rd V.graceAt ≠ 0 ∧ s.rd V.graceAt + s.rd THM_DEVCFG.grace * 4000000000 ≤ s.now + 1) ∧
    (∃ (s : State), s.Wf ∧ s.rd V.thermAt = 0 ∧ s.rd V.thermHold = 0 ∧ s.thermalDue = true) ∧
    (∃ (s : State), s.Wf ∧ s.rd V.thermAt ≠ 0 ∧ s.rd V.thermAt - 1 + 4000000 ≤ s.now + s.rd V.thermGone) :=
  ⟨⟨{ stateWith [(V.planeHeld 0, 0), (V.planeHeld 1, 0), (V.planeHeld 2, 0), (V.planeHeld 3, 0), (V.planeHeld 0, 0), (V.dioCount 0, 2), (diodeT 0, 64 * 115), (V.dioPrev 0, 64 * 115)] with now := 4000000000000 }, by decide +kernel⟩,
   ⟨{ stateWith [(V.planeHeld 0, 0), (V.planeHeld 1, 0), (V.planeHeld 2, 0), (V.planeHeld 3, 0), (V.dioBad 1, 2), (diodeBad 1, 0)] with now := 4000000000000 }, (1 : Nat), by decide +kernel⟩,
   ⟨{ stateWith [(V.planeHeld 0, 0), (V.planeHeld 1, 0), (V.planeHeld 2, 0), (V.planeHeld 3, 0), (V.graceAt, 1), (diodeBad 0, 1)] with now := 4000000000000 }, by decide +kernel⟩,
   ⟨{ stateWith [(V.planeHeld 0, 0), (V.planeHeld 1, 0), (V.planeHeld 2, 0), (V.planeHeld 3, 0), (V.thermAt, 0), (V.thermHold, 0), (V.shutDue, 1)] with now := 4000000000000 }, by decide +kernel⟩,
   ⟨{ stateWith [(V.planeHeld 0, 0), (V.planeHeld 1, 0), (V.planeHeld 2, 0), (V.planeHeld 3, 0), (V.thermAt, 1)] with now := 4000000000000 }, by decide +kernel⟩⟩

/-- The hypotheses of each clause of `Obligations.BoardTemperaturesAndFans` hold together. -/
theorem test_board_temperatures_and_fans_met :
    (∃ (s : State) (i : Nat), s.Wf ∧ i < 16 ∧ s.rd (THM_EXTCFG.en i) = 1 ∧ s.inputOpen i = true ∧ s.rd (THM_EXTT.open_ i) = 0) ∧
    (∃ (s : State) (n : Nat), s.Wf ∧ n < 8 ∧ s.rd THM_CTL.map_en = 1 ∧ s.rd (THM_MAPT.lost n) = 0 ∧ s.rd (V.mapMissing n) = 1000 ∧ s.rd (rState n) = RailS.regulating) ∧
    (∃ (s : State) (n c : Nat), s.Wf ∧ n < 8 ∧ s.ceilStep n = some c) ∧
    (∃ (s : State) (req value i hw : Nat), s.Wf ∧ s.Reaches req 0xB0_0028 4 value false ∧ i < 16 ∧ bit value i = true ∧ bit hw i = false ∧ (s.limCrit i = 0 ∨ s.srcUsed i = false ∨ s.srcTemp i + (64 * s.limHys i : Nat) ≤ (64 * s.limCrit i : Nat))) ∧
    (∃ (s : State) (f a : Nat), s.Wf ∧ f < 20 ∧ s.zoneOf? f = some a ∧ s.rd (THM_CHSTAT.state f) = FanS.kick ∧ s.zStall a ≤ s.rd (THM_CHSTAT.rpm f)) ∧
    (∃ (s : State) (f a : Nat), s.Wf ∧ f < 20 ∧ s.zoneOf? f = some a ∧ s.rd (THM_CHSTAT.state f) = FanS.run ∧ s.rd (V.slowAt f) ≠ 0 ∧ s.rd (V.slowAt f) + 4000000000 ≤ s.now + 1) ∧
    (∃ (s : State) (f a : Nat), s.Wf ∧ f < 20 ∧ s.zoneOf? f = some a ∧ s.rd (THM_CHSTAT.state f) = FanS.stalled ∧ s.fanFor f (s.zRetry a) = true ∧ s.rd (THM_CHDUTY.demand f) ≠ 0) :=
  ⟨⟨{ stateWith [(V.planeHeld 0, 0), (V.planeHeld 1, 0), (V.planeHeld 2, 0), (V.planeHeld 3, 0), (THM_EXTCFG.en 1, 1), (THM_EXTT.open_ 1, 0), (Sig.tempIn 1, 65535)] with now := 4000000000000 }, (1 : Nat), by decide +kernel⟩,
   ⟨{ stateWith [(V.planeHeld 0, 0), (V.planeHeld 1, 0), (V.planeHeld 2, 0), (V.planeHeld 3, 0), (THM_CTL.map_en, 1), (THM_MAPT.lost 1, 0), (V.mapMissing 1, 1000), (rState 1, RailS.regulating)] with now := 4000000000000 }, (1 : Nat), by decide +kernel⟩,
   ⟨{ stateWith [(V.planeHeld 0, 0), (V.planeHeld 1, 0), (V.planeHeld 2, 0), (V.planeHeld 3, 0), (THM_CEIL.ceil 1, 1), (V.coolAt 1, 1), (V.ceilAt 1, 1), (THM_MAPT.lost 1, 1), (THM_MAPCFG.lost_idx 1, 5)] with now := 4000000000000 }, (1 : Nat), (2 : Nat), by decide +kernel⟩,
   ⟨{ stateWith [(V.planeHeld 0, 0), (V.planeHeld 1, 0), (V.planeHeld 2, 0), (V.planeHeld 3, 0)] with now := 4000000000000 }, (6 : Nat), (2 : Nat), (1 : Nat), (1 : Nat), by decide +kernel⟩,
   ⟨{ stateWith [(V.planeHeld 0, 0), (V.planeHeld 1, 0), (V.planeHeld 2, 0), (V.planeHeld 3, 0), (THM_CHSTAT.state 1, FanS.kick), (FAB_STAT.committed, 1)] with mem := memSetBytes (memSetBytes (memSetBytes [] 0xE000_000E [1]) 0xE000_0040 [7, 0, 0, 0, 1, 0, 0, 0, 0, 1]) 0xE000_0100 [1, 0, 2, 0, 0, 3], now := 4000000000000 }, (1 : Nat), (0xE000_0100 : Nat), by decide +kernel⟩,
   ⟨{ stateWith [(V.planeHeld 0, 0), (V.planeHeld 1, 0), (V.planeHeld 2, 0), (V.planeHeld 3, 0), (THM_CHSTAT.state 1, FanS.run), (V.slowAt 1, 1), (FAB_STAT.committed, 1)] with mem := memSetBytes (memSetBytes (memSetBytes [] 0xE000_000E [1]) 0xE000_0040 [7, 0, 0, 0, 1, 0, 0, 0, 0, 1]) 0xE000_0100 [1, 0, 2, 0, 0, 3], now := 4000000000000 }, (1 : Nat), (0xE000_0100 : Nat), by decide +kernel⟩,
   ⟨{ stateWith [(V.planeHeld 0, 0), (V.planeHeld 1, 0), (V.planeHeld 2, 0), (V.planeHeld 3, 0), (THM_CHSTAT.state 1, FanS.stalled), (THM_CHDUTY.demand 1, 1), (FAB_STAT.committed, 1)] with mem := memSetBytes (memSetBytes (memSetBytes [] 0xE000_000E [1]) 0xE000_0040 [7, 0, 0, 0, 1, 0, 0, 0, 0, 1]) 0xE000_0100 [1, 0, 2, 0, 0, 3], now := 4000000000000 }, (1 : Nat), (0xE000_0100 : Nat), by decide +kernel⟩⟩

/-- The hypotheses of each clause of `Obligations.FlowAndLeaks` hold together. -/
theorem test_flow_and_leaks_met :
    (∃ (s : State) (i : Nat), s.Wf ∧ i < 8 ∧ s.rd V.flowSecond < s.now / 4000000000) ∧
    (∃ (s : State) (z a : Nat), s.Wf ∧ z < 8 ∧ s.fanItems.find? (fun a => s.zNum a == z) = some a ∧ s.rd (THM_ZCFG.flow_act z) = 1 ∧ bit (s.rd THM_FLOWLOW.zones) z = true ∧ s.rd (V.flowOff z) = 0 ∧ s.rd (V.flowLowAt z) ≠ 0 ∧ s.rd (V.flowLowAt z) + s.rd (THM_ZCFG.flow_to z) * 4000000000 ≤ s.now + 1) ∧
    (∃ (s : State) (i : Nat), s.Wf ∧ i < 8 ∧ s.rd (V.wetAt i) ≠ 0 ∧ s.rd (V.wetAt i) + 400000000 ≤ s.now + 1 ∧ bit (s.rd THM_LEAKMAP.wet) i = false) ∧
    (∃ (s : State) (i : Nat), s.Wf ∧ i < 8 ∧ s.rd (V.openAt i) ≠ 0 ∧ s.rd (V.openAt i) + 4000000000 ≤ s.now + 1 ∧ bit (s.rd THM_LEAKMAP.open_) i = false) ∧
    (∃ (s : State) (req value i hw : Nat), s.Wf ∧ s.Reaches req 0xB0_0024 4 value false ∧ i < 8 ∧ bit value i = true ∧ bit hw i = false ∧ s.rd (Sig.leak i) = 0) :=
  ⟨⟨{ stateWith [(V.planeHeld 0, 0), (V.planeHeld 1, 0), (V.planeHeld 2, 0), (V.planeHeld 3, 0)] with now := 4000000000000 }, (1 : Nat), by decide +kernel⟩,
   ⟨{ stateWith [(V.planeHeld 0, 0), (V.planeHeld 1, 0), (V.planeHeld 2, 0), (V.planeHeld 3, 0), (THM_ZCFG.flow_act 1, 1), (THM_FLOWLOW.zones, 2 ^ (1)), (V.flowOff 1, 0), (V.flowLowAt 1, 1), (FAB_STAT.committed, 1)] with mem := memSetBytes (memSetBytes (memSetBytes [] 0xE000_000E [1]) 0xE000_0040 [7, 0, 0, 0, 1, 0, 0, 0, 0, 1]) 0xE000_0100 [1, 0, 2, 0, 0, 3], now := 4000000000000 }, (1 : Nat), (0xE000_0100 : Nat), by decide +kernel⟩,
   ⟨{ stateWith [(V.planeHeld 0, 0), (V.planeHeld 1, 0), (V.planeHeld 2, 0), (V.planeHeld 3, 0), (V.wetAt 1, 1)] with now := 4000000000000 }, (1 : Nat), by decide +kernel⟩,
   ⟨{ stateWith [(V.planeHeld 0, 0), (V.planeHeld 1, 0), (V.planeHeld 2, 0), (V.planeHeld 3, 0), (V.openAt 1, 1)] with now := 4000000000000 }, (1 : Nat), by decide +kernel⟩,
   ⟨{ stateWith [(V.planeHeld 0, 0), (V.planeHeld 1, 0), (V.planeHeld 2, 0), (V.planeHeld 3, 0), (Sig.leak 1, 0)] with now := 4000000000000 }, (6 : Nat), (2 : Nat), (1 : Nat), (1 : Nat), by decide +kernel⟩⟩

/-- The hypotheses of each clause of `Obligations.ResetGateCommandsTakeEffect` hold together. -/
theorem test_reset_gate_met :
    (∃ (s : State) (n : Nat), s.Wf ∧ n < 8 ∧ s.rd (ACU_SSTAT.present n) = 0 ∧ s.stood (V.prsAt n) 40000000 = true) ∧
    (∃ (s : State) (n : Nat), s.Wf ∧ n < 8 ∧ s.rd (ACU_SSTAT.present n) = 1 ∧ s.stood (V.prsOffAt n) 40000000 = true) ∧
    (∃ (s : State) (n : Nat), s.Wf ∧ n < 8 ∧ s.rd (ACU_SSTAT.alert n) = 0 ∧ s.stood (V.alertAt n) 4000000 = true) ∧
    (∃ (s : State) (n : Nat), s.Wf ∧ n < 8 ∧ s.rd (ACU_SSTAT.alert n) = 1 ∧ s.stood (V.alertOffAt n) 4000000 = true) ∧
    (∃ (s : State) (n : Nat), s.Wf ∧ n < 8 ∧ s.rd (ACU_SSTAT.rst n) = 1 ∧ s.gatesHold n = true) ∧
    (∃ (s : State) (req n value : Nat), s.Wf ∧ n < 8 ∧ s.Reaches req (0xC0_1000 + 0x100 * n) 4 value false) ∧
    (∃ (s : State) (n : Nat), s.Wf ∧ n < 8 ∧ s.rd (ACU_SSTAT.rst n) = 0 ∧ s.rd (V.bootAt n) ≠ 0 ∧ s.rd (V.bootAt n) - 1 + 4000000 * s.rd (ACU_SBOOT.boot_to n) ≤ s.boundary) :=
  ⟨⟨{ stateWith [(V.planeHeld 0, 0), (V.planeHeld 1, 0), (V.planeHeld 2, 0), (V.planeHeld 3, 0), (ACU_SSTAT.present 1, 0), (V.prsAt 1, 1)] with now := 4000000000000 }, (1 : Nat), by decide +kernel⟩,
   ⟨{ stateWith [(V.planeHeld 0, 0), (V.planeHeld 1, 0), (V.planeHeld 2, 0), (V.planeHeld 3, 0), (ACU_SSTAT.present 1, 1), (V.prsOffAt 1, 1)] with now := 4000000000000 }, (1 : Nat), by decide +kernel⟩,
   ⟨{ stateWith [(V.planeHeld 0, 0), (V.planeHeld 1, 0), (V.planeHeld 2, 0), (V.planeHeld 3, 0), (ACU_SSTAT.alert 1, 0), (V.alertAt 1, 1), (ACU_SBOOT.alert_act 1, 1), (ACU_SSTAT.rst 1, 0)] with now := 4000000000000 }, (1 : Nat), by decide +kernel⟩,
   ⟨{ stateWith [(V.planeHeld 0, 0), (V.planeHeld 1, 0), (V.planeHeld 2, 0), (V.planeHeld 3, 0), (ACU_SSTAT.alert 1, 1), (V.alertOffAt 1, 1)] with now := 4000000000000 }, (1 : Nat), by decide +kernel⟩,
   ⟨{ stateWith [(V.planeHeld 0, 0), (V.planeHeld 1, 0), (V.planeHeld 2, 0), (V.planeHeld 3, 0), (ACU_SSTAT.rst 1, 1), (SEQ_GSTAT.state 1, 3), (ACU_SSTAT.present 1, 1), (V.fselAt 1, 1), (V.strapAt 1, 1), (V.rstAt 1, 1)] with orders := { standing := [⟨Blk.acu, Tgt.accRun, 1, Src.loc, false, 1, 0, 0, 0, false⟩] }, now := 4000000000000 }, (1 : Nat), by decide +kernel⟩,
   ⟨{ stateWith [(V.planeHeld 0, 0), (V.planeHeld 1, 0), (V.planeHeld 2, 0), (V.planeHeld 3, 0)] with now := 4000000000000 }, (6 : Nat), (1 : Nat), (0 : Nat), by decide +kernel⟩,
   ⟨{ stateWith [(V.planeHeld 0, 0), (V.planeHeld 1, 0), (V.planeHeld 2, 0), (V.planeHeld 3, 0), (ACU_SSTAT.rst 1, 0), (V.bootAt 1, 1)] with now := 4000000000000 }, (1 : Nat), by decide +kernel⟩⟩

/-- The hypotheses of each clause of `Obligations.CustodyOperationsTakeEffect` hold together (part 1 of 2). -/
theorem test_custody_operations_met_1 :
    (∃ (s : State) (req n keep : Nat), s.Wf ∧ n < 8 ∧ s.Reaches req (0xC0_100C + 0x100 * n) 4 (CusOp.readId + keep % 2 * 128 + 0 % 2 * 256) false ∧ s.custodyRefusal n CusOp.readId = 0) ∧
    (∃ (s : State) (req n keep : Nat), s.Wf ∧ n < 8 ∧ s.Reaches req (0xC0_100C + 0x100 * n) 4 (CusOp.verify + keep % 2 * 128 + 0 % 2 * 256) false ∧ s.custodyRefusal n CusOp.verify = 0) ∧
    (∃ (s : State) (req n keep : Nat), s.Wf ∧ n < 8 ∧ s.Reaches req (0xC0_100C + 0x100 * n) 4 (CusOp.check + keep % 2 * 128 + 0 % 2 * 256) false ∧ s.custodyRefusal n CusOp.check = 0) ∧
    (∃ (s : State) (req n keep skip : Nat), s.Wf ∧ n < 8 ∧ s.Reaches req (0xC0_100C + 0x100 * n) 4 (CusOp.reflash + keep % 2 * 128 + skip % 2 * 256) false ∧ s.custodyRefusal n CusOp.reflash = 0) :=
  ⟨⟨{ stateWith [(V.planeHeld 0, 0), (V.planeHeld 1, 0), (V.planeHeld 2, 0), (V.planeHeld 3, 0), (ACU_SSTAT.rst 1, 1), (ACU_SSTAT.present 1, 1), (SEQ_GSTAT.state 1, 3), (V.rstAt 1, 1)] with now := 4000000000000 }, (7 : Nat), (1 : Nat), (1 : Nat), by decide +kernel⟩,
   ⟨{ stateWith [(V.planeHeld 0, 0), (V.planeHeld 1, 0), (V.planeHeld 2, 0), (V.planeHeld 3, 0), (ACU_SSTAT.rst 1, 1), (ACU_SSTAT.present 1, 1), (SEQ_GSTAT.state 1, 3), (V.rstAt 1, 1), (ACU_SCFG.gold 1, 1), (V.goldDone, 1), (IMG_GDESC.valid 1 0, 1), (IMG_GDESC.state 1 0, 3)] with now := 4000000000000 }, (7 : Nat), (1 : Nat), (1 : Nat), by decide +kernel⟩,
   ⟨{ stateWith [(V.planeHeld 0, 0), (V.planeHeld 1, 0), (V.planeHeld 2, 0), (V.planeHeld 3, 0), (ACU_SSTAT.rst 1, 1), (ACU_SSTAT.present 1, 1), (SEQ_GSTAT.state 1, 3), (V.rstAt 1, 1)] with now := 4000000000000 }, (7 : Nat), (1 : Nat), (1 : Nat), by decide +kernel⟩,
   ⟨{ stateWith [(V.planeHeld 0, 0), (V.planeHeld 1, 0), (V.planeHeld 2, 0), (V.planeHeld 3, 0), (ACU_SSTAT.rst 1, 1), (ACU_SSTAT.present 1, 1), (SEQ_GSTAT.state 1, 3), (V.rstAt 1, 1), (ACU_SCFG.gold 1, 1), (V.goldDone, 1), (IMG_GDESC.valid 1 0, 1), (IMG_GDESC.state 1 0, 3)] with now := 4000000000000 }, (7 : Nat), (1 : Nat), (1 : Nat), (1 : Nat), by decide +kernel⟩⟩

/-- The hypotheses of each clause of `Obligations.CustodyOperationsTakeEffect` hold together (part 2 of 2). -/
theorem test_custody_operations_met_2 :
    (∃ (s : State) (req n : Nat), s.Wf ∧ n < 8 ∧ s.Reaches req (0xC0_100C + 0x100 * n) 4 (CusOp.release + 0 % 2 * 128 + 0 % 2 * 256) false ∧ s.rd (ACU_CMDSTAT.busy n) = 0) ∧
    (∃ (s : State) (req n : Nat), s.Wf ∧ n < 8 ∧ s.Reaches req (0xC0_100C + 0x100 * n) 4 (CusOp.clear + 0 % 2 * 128 + 0 % 2 * 256) false ∧ s.rd (ACU_CMDSTAT.busy n) = 0) ∧
    (∃ (s : State) (n id kib unit err bytes : Nat), s.Wf ∧ n < 8 ∧ s.rd (ACU_CMDSTAT.busy n) = 1 ∧ errPossible (s.rd (V.cusOp n)) err = true ∧ s.rd (V.cusAuto n) = 0 ∧ s.rd (V.cusKeep n) = 0) ∧
    (∃ (s : State) (n : Nat), s.Wf ∧ n < 8 ∧ s.autoDue n = true ∧ s.rd (V.cusOwed n) = 1 ∧ s.custodyRefusal n CusOp.verify = 0) :=
  ⟨⟨{ stateWith [(V.planeHeld 0, 0), (V.planeHeld 1, 0), (V.planeHeld 2, 0), (V.planeHeld 3, 0), (ACU_CMDSTAT.busy 1, 0), (ACU_SSTAT.owned 1, 1), (V.bootFailed 1, 1)] with now := 4000000000000 }, (7 : Nat), (1 : Nat), by decide +kernel⟩,
   ⟨{ stateWith [(V.planeHeld 0, 0), (V.planeHeld 1, 0), (V.planeHeld 2, 0), (V.planeHeld 3, 0), (ACU_CMDSTAT.busy 1, 0), (ACU_SSTAT.owned 1, 1), (V.bootFailed 1, 1)] with now := 4000000000000 }, (7 : Nat), (1 : Nat), by decide +kernel⟩,
   ⟨{ stateWith [(V.planeHeld 0, 0), (V.planeHeld 1, 0), (V.planeHeld 2, 0), (V.planeHeld 3, 0), (ACU_CMDSTAT.busy 1, 1), (V.cusAuto 1, 0), (V.cusKeep 1, 0), (V.cusOp 1, 1), (ACU_SSTAT.owned 1, 1)] with now := 4000000000000 }, (1 : Nat), (1 : Nat), (1 : Nat), (1 : Nat), (10 : Nat), (1 : Nat), by decide +kernel⟩,
   ⟨{ stateWith [(V.planeHeld 0, 0), (V.planeHeld 1, 0), (V.planeHeld 2, 0), (V.planeHeld 3, 0), (V.cusOwed 1, 1), (ACU_SSTAT.rst 1, 1), (ACU_SSTAT.present 1, 1), (SEQ_GSTAT.state 1, 3), (V.rstAt 1, 1), (ACU_SCFG.gold 1, 1), (V.goldDone, 1), (IMG_GDESC.valid 1 0, 1), (IMG_GDESC.state 1 0, 3), (KPR_BOOT.stage, 3)] with now := 4000000000000 }, (1 : Nat), by decide +kernel⟩⟩

/-- The hypotheses of each clause of `Obligations.ImageLoadCommandsTakeEffect` hold together. -/
theorem test_image_load_met :
    (∃ (s : State) (req : Nat), s.Wf ∧ s.Reaches req 0x60_004C 4 1 true ∧ s.txBusy = false) ∧
    (∃ (s : State), s.Wf ∧ s.rd FAB_STAT.load = LoadS.loading) ∧
    (∃ (s : State) (req : Nat), s.Wf ∧ s.Reaches req 0x60_004C 4 2 true) :=
  ⟨⟨{ stateWith [(V.planeHeld 0, 0), (V.planeHeld 1, 0), (V.planeHeld 2, 0), (V.planeHeld 3, 0)] with now := 4000000000000 }, (0 : Nat), by decide +kernel⟩,
   ⟨{ stateWith [(V.planeHeld 0, 0), (V.planeHeld 1, 0), (V.planeHeld 2, 0), (V.planeHeld 3, 0), (FAB_STAT.load, LoadS.loading)] with now := 4000000000000 }, by decide +kernel⟩,
   ⟨{ stateWith [(V.planeHeld 0, 0), (V.planeHeld 1, 0), (V.planeHeld 2, 0), (V.planeHeld 3, 0)] with now := 4000000000000 }, (0 : Nat), by decide +kernel⟩⟩

/-- The hypotheses of each clause of `Obligations.KeeperCommandsTakeEffect` hold together. -/
theorem test_keeper_met :
    (∃ (s : State), s.Wf ∧ s.rd KPR_GQUEUE.gated = 1 ∧ s.rd KPR_BOOT.stage = Stage.gated ∧ bit (s.rd MEM_STAT.wipe) 4 = false ∧ s.rd CRP_PFSTAT.warn = 0 ∧ s.gq = []) ∧
    (∃ (s : State) (readErr : Bool), s.Wf ∧ s.rd KPR_GQUEUE.gated = 1 ∧ s.rd KPR_BOOT.stage = Stage.gated ∧ (readErr = true ∨ s.fwBody 0 s.keeperPlace ≠ 0)) ∧
    (∃ (s : State) (req value n : Nat), s.Wf ∧ s.Reaches req 0xD0_1000 4 value true ∧ 1 ≤ n ∧ n ≤ 4 ∧ bit value n = true ∧ s.coreFit n = true) ∧
    (∃ (s : State) (req value : Nat), s.Wf ∧ s.Reaches req 0xD0_1044 4 value true) ∧
    (∃ (s : State) (bad : List Nat), s.Wf ∧ s.rd KPR_BOOT.stage = Stage.services ∧ s.rd V.goldDone = 0 ∧ s.rd (V.planeHeld 3) = 0) :=
  ⟨⟨{ stateWith [(V.planeHeld 0, 0), (V.planeHeld 1, 0), (V.planeHeld 2, 0), (V.planeHeld 3, 0), (KPR_GQUEUE.gated, 1), (KPR_BOOT.stage, Stage.gated), (CRP_PFSTAT.warn, 0), (MEM_STAT.wipe, 0)] with now := 4000000000000 }, by decide +kernel⟩,
   ⟨{ stateWith [(V.planeHeld 0, 0), (V.planeHeld 1, 0), (V.planeHeld 2, 0), (V.planeHeld 3, 0), (KPR_GQUEUE.gated, 1), (KPR_BOOT.stage, Stage.gated)] with now := 4000000000000 }, (true : Bool), by decide +kernel⟩,
   ⟨{ stateWith [(V.planeHeld 0, 0), (V.planeHeld 1, 0), (V.planeHeld 2, 0), (V.planeHeld 3, 0)] with now := 4000000000000 }, (0 : Nat), (2 : Nat), (1 : Nat), by decide +kernel⟩,
   ⟨{ stateWith [(V.planeHeld 0, 0), (V.planeHeld 1, 0), (V.planeHeld 2, 0), (V.planeHeld 3, 0)] with now := 4000000000000 }, (0 : Nat), (0 : Nat), by decide +kernel⟩,
   ⟨{ stateWith [(V.planeHeld 0, 0), (V.planeHeld 1, 0), (V.planeHeld 2, 0), (V.planeHeld 3, 0), (KPR_BOOT.stage, Stage.services), (V.goldDone, 0), (V.planeHeld 3, 0)] with now := 4000000000000 }, ([] : List Nat), by decide +kernel⟩⟩

/-- The hypotheses of each clause of `Obligations.ImageStageCallsTakeEffect` hold together. -/
theorem test_image_stage_calls_met :
    (∃ (s : State) (core : Nat), s.Wf ∧ s.serving = true ∧ s.nextCall = some core ∧ s.gateCode core = 2 ∧ s.gateArg core 8 1 = 1 ∧ (s.stageReq core).ok = true ∧ s.storeOpen = true ∧ (s.stageReq core).len ≤ imageMax (s.stageReq core).kind ∧ s.callerReads core (s.stageReq core).addr (s.stageReq core).len = true ∧ s.rd IMG_STAT.busy = 0 ∧ s.rd CRP_PFSTAT.warn = 0 ∧ s.num (memPlace (s.stageReq core).addr) 16 4 = (s.stageReq core).len ∧ (s.stageTarget (s.stageReq core)).isSome = true) ∧
    (∃ (s : State) (core : Nat), s.Wf ∧ s.serving = true ∧ s.nextCall = some core ∧ s.gateCode core = 2 ∧ s.gateArg core 8 1 = 2 ∧ (s.stageReq core).ok = true ∧ s.storeOpen = true ∧ s.rd CRP_PFSTAT.warn = 0 ∧ (s.stageTarget (s.stageReq core)).isSome = true) ∧
    (∃ (s : State) (core : Nat), s.Wf ∧ s.serving = true ∧ s.nextCall = some core ∧ s.gateCode core = 2 ∧ s.gateArg core 8 1 = 3 ∧ (s.stageReq core).ok = true ∧ s.storeOpen = true ∧ s.rd CRP_PFSTAT.warn = 0) ∧
    (∃ (s : State) (core : Nat), s.Wf ∧ s.serving = true ∧ s.nextCall = some core ∧ s.gateCode core = 2 ∧ s.gateArg core 8 1 = 4 ∧ (s.stageReq core).ok = true ∧ s.storeOpen = true ∧ s.rd IMG_STAT.busy = 0 ∧ s.rd CRP_PFSTAT.warn = 0 ∧ (s.stageTarget (s.stageReq core)).isSome = true) ∧
    (∃ (s : State) (bad : List Nat), s.Wf ∧ s.rd IMG_STAT.busy = 1 ∧ (s.rd KPR_BOOT.stage = Stage.running ∨ s.rd KPR_BOOT.stage = Stage.services) ∧ s.rd CRP_PFSTAT.warn = 0) ∧
    (∃ (s : State), s.Wf ∧ ledgerRoom - 64 < s.rd IMG_LEDGER.used ∧ (s.rd KPR_BOOT.stage = Stage.running ∨ s.rd KPR_BOOT.stage = Stage.services) ∧ s.storeOpen = true ∧ s.rd (V.planeHeld 3) = 0) :=
  ⟨⟨{ stateWith [(V.planeHeld 0, 0), (V.planeHeld 1, 0), (V.planeHeld 2, 0), (V.planeHeld 3, 0), (IMG_STAT.busy, 0), (CRP_PFSTAT.warn, 0), (KPR_BOOT.stage, 3), (KPR_GATEPEND.pend, 1), (V.gateOrder, 1), (KPR_GRANT.entry 0, 0xE100_0000_0000_0000 + 0x100_0000 * 2 ^ 30 + 0x1_0000 * 2 ^ 4)] with mem := memSetBytes (memSetBytes [] 0xFFFF_C000 ([5, 0, 0, 0, 2, 0, 0, 0, 1, 1] ++ zeros 10 ++ [16, 0, 0, 0, 0, 2])) 0x10_0000_0010 [0, 2], now := 4000000000000 }, (1 : Nat), by
      repeat' apply And.intro
      all_goals first | decide +kernel | exact erased_target _ _ (by decide +kernel)⟩,
   ⟨{ stateWith [(V.planeHeld 0, 0), (V.planeHeld 1, 0), (V.planeHeld 2, 0), (V.planeHeld 3, 0), (CRP_PFSTAT.warn, 0), (KPR_BOOT.stage, 3), (KPR_GATEPEND.pend, 1), (V.gateOrder, 1)] with mem := memSetBytes [] 0xFFFF_C000 [5, 0, 0, 0, 2, 0, 0, 0, 2, 1], now := 4000000000000 }, (1 : Nat), by
      repeat' apply And.intro
      all_goals first | decide +kernel | exact erased_target _ _ (by decide +kernel)⟩,
   ⟨{ stateWith [(V.planeHeld 0, 0), (V.planeHeld 1, 0), (V.planeHeld 2, 0), (V.planeHeld 3, 0), (CRP_PFSTAT.warn, 0), (KPR_BOOT.stage, 3), (KPR_GATEPEND.pend, 1), (V.gateOrder, 1)] with mem := memSetBytes [] 0xFFFF_C000 [5, 0, 0, 0, 2, 0, 0, 0, 3, 1], now := 4000000000000 }, (1 : Nat), by decide +kernel⟩,
   ⟨{ stateWith [(V.planeHeld 0, 0), (V.planeHeld 1, 0), (V.planeHeld 2, 0), (V.planeHeld 3, 0), (IMG_STAT.busy, 0), (CRP_PFSTAT.warn, 0), (KPR_BOOT.stage, 3), (KPR_GATEPEND.pend, 1), (V.gateOrder, 1)] with mem := memSetBytes [] 0xFFFF_C000 [5, 0, 0, 0, 2, 0, 0, 0, 4, 1], now := 4000000000000 }, (1 : Nat), by
      repeat' apply And.intro
      all_goals first | decide +kernel | exact erased_target _ _ (by decide +kernel)⟩,
   ⟨{ stateWith [(V.planeHeld 0, 0), (V.planeHeld 1, 0), (V.planeHeld 2, 0), (V.planeHeld 3, 0), (IMG_STAT.busy, 1), (KPR_BOOT.stage, Stage.running), (CRP_PFSTAT.warn, 0), (KPR_BOOT.stage, 2)] with now := 4000000000000 }, ([1, 2, 3, 4, 5] : List Nat), by decide +kernel⟩,
   ⟨{ stateWith [(V.planeHeld 0, 0), (V.planeHeld 1, 0), (V.planeHeld 2, 0), (V.planeHeld 3, 0), (KPR_BOOT.stage, Stage.running), (V.planeHeld 3, 0), (KPR_BOOT.stage, 2), (IMG_LEDGER.used, 16384)] with now := 4000000000000 }, by decide +kernel⟩⟩

/-- The hypotheses of each clause of `Obligations.GateCallsTakeEffect` hold together (part 1 of 2). -/
theorem test_gate_calls_met_1 :
    (∃ (s : State) (core : Nat), s.Wf ∧ s.serving = true ∧ s.nextCall = some core ∧ s.gateCode core = 1) ∧
    (∃ (s : State) (core : Nat), s.Wf ∧ s.serving = true ∧ s.nextCall = some core ∧ s.gateCode core = 3 ∧ s.callerReads core (s.gateArg core 16 8) (s.gateArg core 24 4) = true ∧ s.txBusy = false) ∧
    (∃ (s : State) (core : Nat), s.Wf ∧ s.serving = true ∧ s.nextCall = some core ∧ s.gateCode core = 4 ∧ s.callerReads core (s.gateArg core 40 8) 256 = true ∧ s.callerWrites core (s.gateArg core 48 8) 4096 = true ∧ s.lifecycle < 3 ∧ s.attOpen = true ∧ s.storeOpen = true ∧ s.rd KPR_ATTIDX.next < 1048576 ∧ s.rd CRP_PFSTAT.warn = 0) ∧
    (∃ (s : State) (core : Nat), s.Wf ∧ s.serving = true ∧ s.nextCall = some core ∧ s.gateCode core = 5 ∧ s.gateArg core 8 1 < 4 ∧ s.gateArg core 12 4 ≤ s.svnNow (s.gateArg core 8 1) ∧ s.minOf (s.gateArg core 8 1) < s.gateArg core 12 4 ∧ s.storeOpen = true ∧ s.rd CRP_PFSTAT.warn = 0) ∧
    (∃ (s : State) (core : Nat), s.Wf ∧ s.serving = true ∧ s.nextCall = some core ∧ s.gateCode core = 6 ∧ s.storeOpen = true ∧ s.gateArg core 8 1 < 4 ∧ s.gateArg core 12 4 ≤ 32 ∧ s.gateArg core 12 4 ≤ ((s.standing (fun r => r.getD 0 0 == 2 && r.getD 8 0 == s.gateArg core 8 1)).map (fun r => leAt r 12 4)).getD 0 ∧ s.rd (V.fuseFloor (s.gateArg core 8 1)) ≤ s.gateArg core 12 4 ∧ s.rd CRP_PFSTAT.warn = 0) ∧
    (∃ (s : State) (core : Nat), s.Wf ∧ s.serving = true ∧ s.nextCall = some core ∧ s.gateCode core = 8 ∧ 4 ≤ s.gateArg core 8 1 ∧ s.gateArg core 8 1 < 8 ∧ s.rd (V.fuseEnrolled (s.gateArg core 8 1)) = 0 ∧ bit (s.gateArg core 9 1) 0 = false ∧ bit (s.gateArg core 9 1) 5 = false ∧ s.gateArg core 9 1 < 64 ∧ s.callerReads core (s.gateArg core 16 8) 64 = true ∧ (s.lifecycle = 1 ∨ s.lifecycle = 2) ∧ s.storeOpen = true ∧ s.rd CRP_PFSTAT.warn = 0) ∧
    (∃ (s : State) (core : Nat), s.Wf ∧ s.serving = true ∧ s.nextCall = some core ∧ s.gateCode core = 9 ∧ s.gateArg core 8 1 < 8 ∧ s.rd (V.fuseEnrolled (s.gateArg core 8 1)) = 1 ∧ s.rd (V.fuseRevoked (s.gateArg core 8 1)) = 0 ∧ (List.range 4).any (fun j => j != s.gateArg core 8 1 && s.keyUsable 0 j) = true ∧ s.callerReads core (s.gateArg core 16 8) 3076 = true ∧ s.storeOpen = true ∧ s.rd CRP_PFSTAT.warn = 0) :=
  ⟨⟨{ stateWith [(V.planeHeld 0, 0), (V.planeHeld 1, 0), (V.planeHeld 2, 0), (V.planeHeld 3, 0), (KPR_BOOT.stage, 3), (KPR_GATEPEND.pend, 1), (V.gateOrder, 1)] with mem := memSetBytes [] 0xFFFF_C000 [5, 0, 0, 0, 1], now := 4000000000000 }, (1 : Nat), by decide +kernel⟩,
   ⟨{ stateWith [(V.planeHeld 0, 0), (V.planeHeld 1, 0), (V.planeHeld 2, 0), (V.planeHeld 3, 0), (KPR_BOOT.stage, 3), (KPR_GATEPEND.pend, 1), (V.gateOrder, 1), (KPR_GRANT.entry 0, 0xE100_0000_0000_0000 + 0x100_0000 * 2 ^ 30 + 0x1_0000 * 2 ^ 4)] with mem := memSetBytes [] 0xFFFF_C000 ([5, 0, 0, 0, 3] ++ zeros 15 ++ [16, 0, 0, 0, 0, 1]), now := 4000000000000 }, (1 : Nat), by decide +kernel⟩,
   ⟨{ stateWith [(V.planeHeld 0, 0), (V.planeHeld 1, 0), (V.planeHeld 2, 0), (V.planeHeld 3, 0), (CRP_PFSTAT.warn, 0), (KPR_BOOT.stage, 3), (KPR_GATEPEND.pend, 1), (V.gateOrder, 1), (KPR_GRANT.entry 0, 0xE100_0000_0000_0000 + 0x100_0000 * 2 ^ 30 + 0x1_0000 * 2 ^ 4)] with mem := memSetBytes [] 0xFFFF_C000 ([5, 0, 0, 0, 4] ++ zeros 39 ++ [16] ++ zeros 7 ++ [16]), now := 4000000000000 }, (1 : Nat), by decide +kernel⟩,
   ⟨{ stateWith [(V.planeHeld 0, 0), (V.planeHeld 1, 0), (V.planeHeld 2, 0), (V.planeHeld 3, 0), (CRP_PFSTAT.warn, 0), (KPR_BOOT.stage, 3), (KPR_GATEPEND.pend, 1), (V.gateOrder, 1), (KPR_SVN.svn 0, 5)] with mem := memSetBytes [] 0xFFFF_C000 ([5, 0, 0, 0, 5] ++ zeros 7 ++ [3]), now := 4000000000000 }, (1 : Nat), by decide +kernel⟩,
   ⟨{ stateWith [(V.planeHeld 0, 0), (V.planeHeld 1, 0), (V.planeHeld 2, 0), (V.planeHeld 3, 0), (CRP_PFSTAT.warn, 0), (KPR_BOOT.stage, 3), (KPR_GATEPEND.pend, 1), (V.gateOrder, 1)] with mem := memSetBytes [] 0xFFFF_C000 [5, 0, 0, 0, 6], now := 4000000000000 }, (1 : Nat), by decide +kernel⟩,
   ⟨{ stateWith [(V.planeHeld 0, 0), (V.planeHeld 1, 0), (V.planeHeld 2, 0), (V.planeHeld 3, 0), (CRP_PFSTAT.warn, 0), (KPR_BOOT.stage, 3), (KPR_GATEPEND.pend, 1), (V.gateOrder, 1), (KPR_GRANT.entry 0, 0xE100_0000_0000_0000 + 0x100_0000 * 2 ^ 30 + 0x1_0000 * 2 ^ 4)] with mem := memSetBytes [] 0xFFFF_C000 ([5, 0, 0, 0, 8, 0, 0, 0, 5, 2] ++ zeros 10 ++ [16]), now := 4000000000000 }, (1 : Nat), by decide +kernel⟩,
   ⟨{ stateWith [(V.planeHeld 0, 0), (V.planeHeld 1, 0), (V.planeHeld 2, 0), (V.planeHeld 3, 0), (CRP_PFSTAT.warn, 0), (KPR_BOOT.stage, 3), (KPR_GATEPEND.pend, 1), (V.gateOrder, 1), (KPR_GRANT.entry 0, 0xE100_0000_0000_0000 + 0x100_0000 * 2 ^ 30 + 0x1_0000 * 2 ^ 4), (V.fuseEnrolled 5, 1), (KPR_KEYSLOT.valid 0, 1), (V.fuseUsage 0, 1)] with mem := memSetBytes [] 0xFFFF_C000 ([5, 0, 0, 0, 9, 0, 0, 0, 5] ++ zeros 11 ++ [16]), now := 4000000000000 }, (1 : Nat), by decide +kernel⟩⟩

/-- The hypotheses of each clause of `Obligations.GateCallsTakeEffect` hold together (part 2 of 2). -/
theorem test_gate_calls_met_2 :
    (∃ (s : State) (core : Nat), s.Wf ∧ s.serving = true ∧ s.nextCall = some core ∧ s.gateCode core = 10 ∧ 1 ≤ s.gateArg core 8 1 ∧ s.gateArg core 8 1 ≤ 4 ∧ s.rd CRP_PFSTAT.warn = 0) ∧
    (∃ (s : State) (core : Nat), s.Wf ∧ s.serving = true ∧ s.nextCall = some core ∧ s.gateCode core = 11 ∧ s.callerWrites core (s.gateArg core 16 8) 2884 = true) ∧
    (∃ (s : State) (core : Nat), s.Wf ∧ s.serving = true ∧ s.nextCall = some core ∧ gateCallKnown (s.gateCode core) = false) ∧
    (∃ (s : State) (core : Nat), s.Wf ∧ s.serving = true ∧ s.nextCall = some core ∧ s.gateCode core = 2 ∧ (s.gateArg core 8 1 = 0 ∨ 4 < s.gateArg core 8 1)) ∧
    (∃ (s : State) (core : Nat) (r : Restart), s.Wf ∧ s.serving = true ∧ s.nextCall = some core ∧ s.gateCode core = 7 ∧ s.lcRefusal core (s.gateArg core 8 1) (s.gateArg core 16 8) ≠ 0) ∧
    (∃ (s : State) (core : Nat) (r : Restart), s.Wf ∧ s.serving = true ∧ s.nextCall = some core ∧ s.gateCode core = 7 ∧ s.lcRefusal core (s.gateArg core 8 1) (s.gateArg core 16 8) = 0) :=
  ⟨⟨{ stateWith [(V.planeHeld 0, 0), (V.planeHeld 1, 0), (V.planeHeld 2, 0), (V.planeHeld 3, 0), (CRP_PFSTAT.warn, 0), (KPR_BOOT.stage, 3), (KPR_GATEPEND.pend, 1), (V.gateOrder, 1)] with mem := memSetBytes [] 0xFFFF_C000 [5, 0, 0, 0, 10, 0, 0, 0, 2], now := 4000000000000 }, (1 : Nat), by decide +kernel⟩,
   ⟨{ stateWith [(V.planeHeld 0, 0), (V.planeHeld 1, 0), (V.planeHeld 2, 0), (V.planeHeld 3, 0), (KPR_BOOT.stage, 3), (KPR_GATEPEND.pend, 1), (V.gateOrder, 1), (KPR_GRANT.entry 0, 0xE100_0000_0000_0000 + 0x100_0000 * 2 ^ 30 + 0x1_0000 * 2 ^ 4)] with mem := memSetBytes [] 0xFFFF_C000 ([5, 0, 0, 0, 11] ++ zeros 15 ++ [16]), now := 4000000000000 }, (1 : Nat), by decide +kernel⟩,
   ⟨{ stateWith [(V.planeHeld 0, 0), (V.planeHeld 1, 0), (V.planeHeld 2, 0), (V.planeHeld 3, 0), (KPR_BOOT.stage, 3), (KPR_GATEPEND.pend, 1), (V.gateOrder, 1)] with mem := memSetBytes [] 0xFFFF_C000 [5, 0, 0, 0, 12], now := 4000000000000 }, (1 : Nat), by decide +kernel⟩,
   ⟨{ stateWith [(V.planeHeld 0, 0), (V.planeHeld 1, 0), (V.planeHeld 2, 0), (V.planeHeld 3, 0), (KPR_BOOT.stage, 3), (KPR_GATEPEND.pend, 1), (V.gateOrder, 1)] with mem := memSetBytes [] 0xFFFF_C000 [5, 0, 0, 0, 2, 0, 0, 0, 5], now := 4000000000000 }, (1 : Nat), by decide +kernel⟩,
   ⟨{ stateWith [(V.planeHeld 0, 0), (V.planeHeld 1, 0), (V.planeHeld 2, 0), (V.planeHeld 3, 0), (KPR_BOOT.stage, 3), (KPR_GATEPEND.pend, 1), (V.gateOrder, 1)] with mem := memSetBytes [] 0xFFFF_C000 [5, 0, 0, 0, 7, 0, 0, 0, 9], now := 4000000000000 }, (1 : Nat), (⟨0, 0, false, []⟩ : Restart), by decide +kernel⟩,
   ⟨{ stateWith [(V.planeHeld 0, 0), (V.planeHeld 1, 0), (V.planeHeld 2, 0), (V.planeHeld 3, 0), (KPR_BOOT.stage, 3), (KPR_GATEPEND.pend, 1), (V.gateOrder, 1), (ACU_SSTAT.rst 0, 1), (ACU_SSTAT.rst 1, 1), (ACU_SSTAT.rst 2, 1), (ACU_SSTAT.rst 3, 1), (ACU_SSTAT.rst 4, 1), (ACU_SSTAT.rst 5, 1), (ACU_SSTAT.rst 6, 1), (ACU_SSTAT.rst 7, 1)] with mem := memSetBytes [] 0xFFFF_C000 [5, 0, 0, 0, 7, 0, 0, 0, 2], now := 4000000000000 }, (1 : Nat), (⟨0, 0, false, []⟩ : Restart), by decide +kernel⟩⟩

/-- The hypotheses of each clause of `Obligations.HostFunctionCommandsTakeEffect` hold together. -/
theorem test_host_function_met :
    (∃ (s : State) (cause p : Nat), s.Wf ∧ 1 ≤ cause ∧ cause ≤ 4 ∧ p < 64) ∧
    (∃ (s : State), s.Wf ∧ s.rd HIF_STAT.dstate = 0) ∧
    (∃ (s : State), s.Wf ∧ s.rd HIF_STAT.dstate = 3) ∧
    (∃ (s : State) (link rate width flit cfg : Nat), s.Wf ∧ 1 ≤ link ∧ link ≤ 4) :=
  ⟨⟨{ stateWith [(V.planeHeld 0, 0), (V.planeHeld 1, 0), (V.planeHeld 2, 0), (V.planeHeld 3, 0)] with now := 4000000000000 }, (1 : Nat), (1 : Nat), by decide +kernel⟩,
   ⟨{ stateWith [(V.planeHeld 0, 0), (V.planeHeld 1, 0), (V.planeHeld 2, 0), (V.planeHeld 3, 0), (HIF_STAT.dstate, 0)] with now := 4000000000000 }, by decide +kernel⟩,
   ⟨{ stateWith [(V.planeHeld 0, 0), (V.planeHeld 1, 0), (V.planeHeld 2, 0), (V.planeHeld 3, 0), (HIF_STAT.dstate, 3)] with now := 4000000000000 }, by decide +kernel⟩,
   ⟨{ stateWith [(V.planeHeld 0, 0), (V.planeHeld 1, 0), (V.planeHeld 2, 0), (V.planeHeld 3, 0)] with now := 4000000000000 }, (1 : Nat), (1 : Nat), (1 : Nat), (1 : Nat), (1 : Nat), by decide +kernel⟩⟩

/-- The hypotheses of each clause of `Obligations.RingCommandsTakeEffect` hold together (part 1 of 2). -/
theorem test_ring_met_1 :
    (∃ (s : State) (req p value : Nat), s.Wf ∧ p < 64 ∧ s.Reaches req (0xF0_1024 + 0x40 * p) 4 value false ∧ bit value 0 = true ∧ s.rd (HIF_RCTL.en p) = 0 ∧ s.ringConfigOk p = true) ∧
    (∃ (s : State) (req p value : Nat), s.Wf ∧ p < 64 ∧ s.Reaches req (0xF0_1024 + 0x40 * p) 4 value false ∧ bit value 0 = true ∧ s.rd (HIF_RCTL.en p) = 0 ∧ s.ringConfigOk p = false) ∧
    (∃ (s : State) (req p value : Nat), s.Wf ∧ p < 64 ∧ s.Reaches req (0xF0_1024 + 0x40 * p) 4 value false ∧ bit value 0 = false ∧ s.rd (HIF_RCTL.en p) = 1) ∧
    (∃ (s : State) (req p value : Nat), s.Wf ∧ s.Reaches req (0xF0_1030 + 0x40 * p) 4 value false ∧ bit value 0 = true ∧ s.decoding = true ∧ p < 64 ∧ s.rd (HIF_RSTAT.state p) = RingS.run ∧ s.ringIndex p 0 < s.rqSize p ∧ s.ringIndex p 12 < s.rsSize p ∧ s.ringIndex p 0 ≠ s.rd (V.rqSeq p) % s.rqSize p ∧ s.reqField p 8 4 = s.rd (V.rqSeq p) ∧ s.mustPause p = false) ∧
    (∃ (s : State) (p : Nat), s.Wf ∧ s.decoding = true ∧ p < 64 ∧ s.rd (HIF_RSTAT.state p) = RingS.run ∧ s.ringIndex p 0 < s.rqSize p ∧ s.ringIndex p 12 < s.rsSize p ∧ s.ringIndex p 0 ≠ s.rd (V.rqSeq p) % s.rqSize p ∧ s.reqField p 8 4 = s.rd (V.rqSeq p) ∧ s.mustPause p = false) :=
  ⟨⟨{ stateWith [(V.planeHeld 0, 0), (V.planeHeld 1, 0), (V.planeHeld 2, 0), (V.planeHeld 3, 0), (HIF_RCTL.en 1, 0), (HIF_STAT.ready, 1), (HIF_RCFG.rq_log 1, 6), (HIF_RCFG.rs_log 1, 6), (HIF_RCB.base 1, 0x10_0000_0000), (HIF_RQBASE.base 1, 0x10_0001_0000), (HIF_RSBASE.base 1, 0x10_0002_0000), (HIF_RCFG.role 1, 1), (HIF_HABASE.base, 0x10_0000_0000), (HIF_HASIZE.size, 0x10_0000)] with now := 4000000000000 }, (6 : Nat), (1 : Nat), (1 : Nat), by decide +kernel⟩,
   ⟨{ stateWith [(V.planeHeld 0, 0), (V.planeHeld 1, 0), (V.planeHeld 2, 0), (V.planeHeld 3, 0), (HIF_RCTL.en 1, 0)] with now := 4000000000000 }, (6 : Nat), (1 : Nat), (1 : Nat), by decide +kernel⟩,
   ⟨{ stateWith [(V.planeHeld 0, 0), (V.planeHeld 1, 0), (V.planeHeld 2, 0), (V.planeHeld 3, 0), (HIF_RCTL.en 1, 1)] with now := 4000000000000 }, (6 : Nat), (1 : Nat), (0 : Nat), by decide +kernel⟩,
   ⟨{ stateWith [(V.planeHeld 0, 0), (V.planeHeld 1, 0), (V.planeHeld 2, 0), (V.planeHeld 3, 0), (HIF_RSTAT.state 1, RingS.run), (HIF_STAT.ready, 1), (HIF_RCFG.rq_log 1, 6), (HIF_RCFG.rs_log 1, 6), (HIF_RCB.base 1, 0x10_0000_0000), (HIF_RQBASE.base 1, 0x10_0001_0000), (HIF_RSBASE.base 1, 0x10_0002_0000)] with mem := memSetBytes (memSetBytes [] 0x10_0000_0000 ([1] ++ zeros 11 ++ [63])) 0x10_0001_0000 [1, 0, 4, 0, 0, 0, 1], now := 4000000000000 }, (6 : Nat), (1 : Nat), (1 : Nat), by decide +kernel⟩,
   ⟨{ stateWith [(V.planeHeld 0, 0), (V.planeHeld 1, 0), (V.planeHeld 2, 0), (V.planeHeld 3, 0), (HIF_RSTAT.state 1, RingS.run), (HIF_STAT.ready, 1), (HIF_RCFG.rq_log 1, 6), (HIF_RCFG.rs_log 1, 6), (HIF_RCB.base 1, 0x10_0000_0000), (HIF_RQBASE.base 1, 0x10_0001_0000), (HIF_RSBASE.base 1, 0x10_0002_0000)] with mem := memSetBytes (memSetBytes [] 0x10_0000_0000 ([1] ++ zeros 11 ++ [63])) 0x10_0001_0000 [1, 0, 4, 0, 0, 0, 1], now := 4000000000000 }, (1 : Nat), by decide +kernel⟩⟩

/-- The hypotheses of each clause of `Obligations.RingCommandsTakeEffect` hold together (part 2 of 2). -/
theorem test_ring_met_2 :
    (∃ (s : State) (p : Nat), s.Wf ∧ s.decoding = true ∧ p < 64 ∧ s.rd (HIF_RSTAT.state p) = RingS.paused ∧ s.mustPause p = false ∧ s.ringIndex p 0 < s.rqSize p ∧ s.ringIndex p 12 < s.rsSize p ∧ s.ringIndex p 0 ≠ s.rd (V.rqSeq p) % s.rqSize p ∧ s.reqField p 8 4 = s.rd (V.rqSeq p)) ∧
    (∃ (s : State) (p : Nat), s.Wf ∧ p < 64 ∧ s.rd (V.coalAt p) ≠ 0 ∧ s.rd (V.coalAt p) - 1 + 4000 * s.rd (HIF_RCTL.coal_us p) ≤ s.now) ∧
    (∃ (s : State) (req value : Nat), s.Wf ∧ s.Reaches req 0xF0_0340 4 value false ∧ bit value 6 = true ∧ s.rd (HIF_RCTL.en (bits value 0 6)) = 1 ∧ s.respFull (bits value 0 6) = false) ∧
    (∃ (s : State) (req value : Nat), s.Wf ∧ s.Reaches req 0xF0_0340 4 value false ∧ bit value 6 = true ∧ s.rd (HIF_RCTL.en (bits value 0 6)) = 1 ∧ s.respFull (bits value 0 6) = true) :=
  ⟨⟨{ stateWith [(V.planeHeld 0, 0), (V.planeHeld 1, 0), (V.planeHeld 2, 0), (V.planeHeld 3, 0), (HIF_RSTAT.state 1, RingS.paused), (HIF_STAT.ready, 1), (HIF_RCFG.rq_log 1, 6), (HIF_RCFG.rs_log 1, 6), (HIF_RCB.base 1, 0x10_0000_0000), (HIF_RQBASE.base 1, 0x10_0001_0000), (HIF_RSBASE.base 1, 0x10_0002_0000)] with mem := memSetBytes (memSetBytes [] 0x10_0000_0000 ([1] ++ zeros 11 ++ [63])) 0x10_0001_0000 [1, 0, 4, 0, 0, 0, 1], now := 4000000000000 }, (1 : Nat), by decide +kernel⟩,
   ⟨{ stateWith [(V.planeHeld 0, 0), (V.planeHeld 1, 0), (V.planeHeld 2, 0), (V.planeHeld 3, 0), (V.coalAt 1, 1), (V.coalAt 1, 1)] with now := 4000000000000 }, (1 : Nat), by decide +kernel⟩,
   ⟨{ stateWith [(V.planeHeld 0, 0), (V.planeHeld 1, 0), (V.planeHeld 2, 0), (V.planeHeld 3, 0), (HIF_RCTL.en (bits 65 0 6), 1), (HIF_STAT.ready, 1), (HIF_RCFG.rq_log 1, 6), (HIF_RCFG.rs_log 1, 6), (HIF_RCB.base 1, 0x10_0000_0000), (HIF_RQBASE.base 1, 0x10_0001_0000), (HIF_RSBASE.base 1, 0x10_0002_0000)] with mem := memSetBytes (memSetBytes [] 0x10_0000_0000 ([1] ++ zeros 11 ++ [63])) 0x10_0001_0000 [1, 0, 0, 0, 0, 0, 1], now := 4000000000000 }, (6 : Nat), (65 : Nat), by decide +kernel⟩,
   ⟨{ stateWith [(V.planeHeld 0, 0), (V.planeHeld 1, 0), (V.planeHeld 2, 0), (V.planeHeld 3, 0), (HIF_RCTL.en (bits 65 0 6), 1), (HIF_STAT.ready, 1), (HIF_RCFG.rq_log 1, 6), (HIF_RCFG.rs_log 1, 6), (HIF_RCB.base 1, 0x10_0000_0000), (HIF_RQBASE.base 1, 0x10_0001_0000), (HIF_RSBASE.base 1, 0x10_0002_0000)] with mem := memSetBytes (memSetBytes [] 0x10_0000_0000 ([1] ++ zeros 11 ++ [1])) 0x10_0001_0000 [1, 0, 0, 0, 0, 0, 1], now := 4000000000000 }, (6 : Nat), (65 : Nat), by decide +kernel⟩⟩

/-- The hypotheses of each clause of `Obligations.RingRequestsTakeEffect` hold together. -/
theorem test_ring_requests_met :
    (∃ (s : State) (p : Nat), s.Wf ∧ s.decoding = true ∧ p < 64 ∧ s.nextRing = some p ∧ s.unaccepted p = 0 ∧ s.reqField p 2 1 = 1 ∧ s.malformed p = false) ∧
    (∃ (s : State) (p : Nat), s.Wf ∧ s.decoding = true ∧ p < 64 ∧ s.nextRing = some p ∧ s.unaccepted p = 0 ∧ s.reqField p 2 1 = 2 ∧ s.malformed p = false) ∧
    (∃ (s : State) (p : Nat), s.Wf ∧ s.decoding = true ∧ p < 64 ∧ s.nextRing = some p ∧ s.unaccepted p = 0 ∧ s.reqField p 2 1 = 3 ∧ s.malformed p = false) ∧
    (∃ (s : State) (p : Nat), s.Wf ∧ s.decoding = true ∧ p < 64 ∧ s.nextRing = some p ∧ s.unaccepted p = 0 ∧ s.reqField p 2 1 = 4 ∧ s.malformed p = false) ∧
    (∃ (s : State) (p : Nat), s.Wf ∧ s.decoding = true ∧ p < 64 ∧ s.nextRing = some p ∧ s.unaccepted p ≠ 0) :=
  ⟨⟨{ stateWith [(V.planeHeld 0, 0), (V.planeHeld 1, 0), (V.planeHeld 2, 0), (V.planeHeld 3, 0), (HIF_STAT.ready, 1), (HIF_RCFG.rq_log 1, 6), (HIF_RCFG.rs_log 1, 6), (HIF_RCB.base 1, 0x10_0000_0000), (HIF_RQBASE.base 1, 0x10_0001_0000), (HIF_RSBASE.base 1, 0x10_0002_0000), (HIF_RSTAT.state 1, RingS.run), (V.ringDue 1, 1), (HIF_RCFG.role 1, 1)] with mem := memSetBytes (memSetBytes [] 0x10_0000_0000 ([1] ++ zeros 11 ++ [63])) 0x10_0001_0000 [1, 0, 1, 0, 20, 0, 1], now := 4000000000000 }, (1 : Nat), by decide +kernel⟩,
   ⟨{ stateWith [(V.planeHeld 0, 0), (V.planeHeld 1, 0), (V.planeHeld 2, 0), (V.planeHeld 3, 0), (HIF_STAT.ready, 1), (HIF_RCFG.rq_log 1, 6), (HIF_RCFG.rs_log 1, 6), (HIF_RCB.base 1, 0x10_0000_0000), (HIF_RQBASE.base 1, 0x10_0001_0000), (HIF_RSBASE.base 1, 0x10_0002_0000), (HIF_RSTAT.state 1, RingS.run), (V.ringDue 1, 1), (HIF_RCFG.role 1, 2)] with mem := memSetBytes (memSetBytes [] 0x10_0000_0000 ([1] ++ zeros 11 ++ [63])) 0x10_0001_0000 ([1, 0, 2, 0, 12, 0, 1] ++ zeros 26 ++ [16]), now := 4000000000000 }, (1 : Nat), by decide +kernel⟩,
   ⟨{ stateWith [(V.planeHeld 0, 0), (V.planeHeld 1, 0), (V.planeHeld 2, 0), (V.planeHeld 3, 0), (HIF_STAT.ready, 1), (HIF_RCFG.rq_log 1, 6), (HIF_RCFG.rs_log 1, 6), (HIF_RCB.base 1, 0x10_0000_0000), (HIF_RQBASE.base 1, 0x10_0001_0000), (HIF_RSBASE.base 1, 0x10_0002_0000), (HIF_RSTAT.state 1, RingS.run), (V.ringDue 1, 1), (HIF_RCFG.role 1, 1)] with mem := memSetBytes (memSetBytes [] 0x10_0000_0000 ([1] ++ zeros 11 ++ [63])) 0x10_0001_0000 [1, 0, 3, 0, 8, 0, 1], now := 4000000000000 }, (1 : Nat), by decide +kernel⟩,
   ⟨{ stateWith [(V.planeHeld 0, 0), (V.planeHeld 1, 0), (V.planeHeld 2, 0), (V.planeHeld 3, 0), (HIF_STAT.ready, 1), (HIF_RCFG.rq_log 1, 6), (HIF_RCFG.rs_log 1, 6), (HIF_RCB.base 1, 0x10_0000_0000), (HIF_RQBASE.base 1, 0x10_0001_0000), (HIF_RSBASE.base 1, 0x10_0002_0000), (HIF_RSTAT.state 1, RingS.run), (V.ringDue 1, 1), (HIF_RCFG.role 1, 1)] with mem := memSetBytes (memSetBytes [] 0x10_0000_0000 ([1] ++ zeros 11 ++ [63])) 0x10_0001_0000 [1, 0, 4, 0, 0, 0, 1], now := 4000000000000 }, (1 : Nat), by decide +kernel⟩,
   ⟨{ stateWith [(V.planeHeld 0, 0), (V.planeHeld 1, 0), (V.planeHeld 2, 0), (V.planeHeld 3, 0), (HIF_STAT.ready, 1), (HIF_RCFG.rq_log 1, 6), (HIF_RCFG.rs_log 1, 6), (HIF_RCB.base 1, 0x10_0000_0000), (HIF_RQBASE.base 1, 0x10_0001_0000), (HIF_RSBASE.base 1, 0x10_0002_0000), (HIF_RSTAT.state 1, RingS.run), (V.ringDue 1, 1)] with mem := memSetBytes (memSetBytes [] 0x10_0000_0000 ([1] ++ zeros 11 ++ [63])) 0x10_0001_0000 [1, 0, 1, 0, 0, 0, 1], now := 4000000000000 }, (1 : Nat), by decide +kernel⟩⟩

/-- The hypotheses of each clause of `Obligations.Bar2Commands` hold together. -/
theorem test_bar2_commands_met :
    (∃ (s : State) (req seg value : Nat), s.Wf ∧ seg < 16 ∧ s.Reaches req (0xF0_0040 + 8 * seg) 8 value true ∧ s.segmentPermitted value = true) ∧
    (∃ (s : State) (ofs n data a : Nat), s.Wf ∧ ofs / 0x1000_0000 < 16 ∧ a = s.rd (HIF_B2SEG.base (ofs / 0x1000_0000)) * 0x1000_0000 + ofs % 0x1000_0000 ∧ s.rd (HIF_B2SEG.valid (ofs / 0x1000_0000)) = 1 ∧ s.rd (HIF_B2SEG.rw (ofs / 0x1000_0000)) = 1 ∧ s.memWaits a = false ∧ s.unmapped a n = false ∧ s.spaceOff Req.host = false ∧ pagesOpen Req.host a n = true ∧ (∀ x, a ≤ x → x < a + n → s.channelDead x = false)) ∧
    (∃ (s : State) (ofs n a : Nat), s.Wf ∧ ofs / 0x1000_0000 < 16 ∧ a = s.rd (HIF_B2SEG.base (ofs / 0x1000_0000)) * 0x1000_0000 + ofs % 0x1000_0000 ∧ s.rd (HIF_B2SEG.valid (ofs / 0x1000_0000)) = 1 ∧ s.memWaits a = false ∧ s.unmapped a n = false ∧ s.spaceOff Req.host = false ∧ pagesOpen Req.host a n = true ∧ wordsIn s.memu.ce a n = [] ∧ s.badWord? a n = none) :=
  ⟨⟨{ stateWith [(V.planeHeld 0, 0), (V.planeHeld 1, 0), (V.planeHeld 2, 0), (V.planeHeld 3, 0)] with now := 4000000000000 }, (0 : Nat), (1 : Nat), (0 : Nat), by decide +kernel⟩,
   ⟨{ stateWith [(V.planeHeld 0, 0), (V.planeHeld 1, 0), (V.planeHeld 2, 0), (V.planeHeld 3, 0), (HIF_B2SEG.valid (1 / 0x1000_0000), 1), (HIF_B2SEG.rw (1 / 0x1000_0000), 1)] with now := 4000000000000 }, (1 : Nat), (1 : Nat), (1 : Nat), (1 : Nat), by
      repeat' apply And.intro
      all_goals first | decide +kernel | exact onchip_live _ _ _ (by decide +kernel)⟩,
   ⟨{ stateWith [(V.planeHeld 0, 0), (V.planeHeld 1, 0), (V.planeHeld 2, 0), (V.planeHeld 3, 0), (HIF_B2SEG.valid (1 / 0x1000_0000), 1)] with now := 4000000000000 }, (1 : Nat), (1 : Nat), (1 : Nat), by decide +kernel⟩⟩

/-- The hypotheses of each clause of `Obligations.RecoveryAndDma` hold together. -/
theorem test_recovery_and_dma_met :
    (∃ (s : State) (req value : Nat), s.Wf ∧ s.Reaches req 0xF0_0200 4 value false ∧ bit value 0 = true ∧ (s.rd HIF_RCVSTAT.state = 1 ∨ s.rd HIF_RCVSTAT.state = 4)) ∧
    (∃ (s : State), s.Wf ∧ s.rd HIF_RCVSTAT.state = 2 ∧ s.rd (V.planeHeld 3) = 0) ∧
    (∃ (s : State) (req e value : Nat), s.Wf ∧ 3 ≤ e ∧ e < 16 ∧ isCore req = true ∧ s.Reaches req (0xF0_4014 + 0x40 * e) 4 value false ∧ bit value 0 = true ∧ s.rd (HIF_DMASTAT.state e) ≠ 1 ∧ s.dmaGranted req (if bits value 1 1 = 1 then s.rd (HIF_DMADST.addr e) else s.rd (HIF_DMASRC.addr e)) (s.rd (HIF_DMALEN.len e)) (bit value 1) = true ∧ s.rd HIF_STAT.bme = 1) ∧
    (∃ (s : State) (e n : Nat), s.Wf ∧ 3 ≤ e ∧ e < 16 ∧ s.rd (HIF_DMASTAT.state e) = 1 ∧ s.rd HIF_STAT.dstate = 0 ∧ s.rd CRP_PFSTAT.warn = 0 ∧ s.rd (HIF_DMACTL.dir e) = 1 ∧ s.memWaits (s.rd (HIF_DMADST.addr e)) = false ∧ s.dmaDiscards true (s.rd (HIF_DMADST.addr e)) (s.rd (HIF_DMALEN.len e)) = 0 ∧ (∀ x, s.rd (HIF_DMADST.addr e) ≤ x → x < s.rd (HIF_DMADST.addr e) + s.rd (HIF_DMALEN.len e) → s.channelDead x = false)) :=
  ⟨⟨{ stateWith [(V.planeHeld 0, 0), (V.planeHeld 1, 0), (V.planeHeld 2, 0), (V.planeHeld 3, 0), (HIF_RCVSTAT.state, 1)] with now := 4000000000000 }, (6 : Nat), (1 : Nat), by decide +kernel⟩,
   ⟨{ stateWith [(V.planeHeld 0, 0), (V.planeHeld 1, 0), (V.planeHeld 2, 0), (V.planeHeld 3, 0), (HIF_RCVSTAT.state, 2), (V.planeHeld 3, 0)] with now := 4000000000000 }, by decide +kernel⟩,
   ⟨{ stateWith [(V.planeHeld 0, 0), (V.planeHeld 1, 0), (V.planeHeld 2, 0), (V.planeHeld 3, 0), (HIF_DMASTAT.state 3, 1), (HIF_STAT.bme, 1), (HIF_DMALEN.len 3, 64), (HIF_DMADST.addr 3, 0x10_0000_0000), (HIF_DMASRC.addr 3, 0x10_0000_0000), (KPR_GRANT.entry 0, 0xE100_0000_0000_0000 + 0x100_0000 * 2 ^ 30 + 0x1_0000 * 2 ^ 4), (KPR_GRANT.entry 1, 0xA100_0000_0000_0000 + 0xF00 * 2 ^ 30 + 0x100 * 2 ^ 4), (HIF_DMASTAT.state 3, 0)] with now := 4000000000000 }, (1 : Nat), (3 : Nat), (1 : Nat), by decide +kernel⟩,
   ⟨{ stateWith [(V.planeHeld 0, 0), (V.planeHeld 1, 0), (V.planeHeld 2, 0), (V.planeHeld 3, 0), (HIF_DMASTAT.state 3, 1), (HIF_STAT.dstate, 0), (CRP_PFSTAT.warn, 0), (HIF_DMACTL.dir 3, 1), (HIF_DMALEN.len 3, 64), (HIF_DMADST.addr 3, 0xF000_0000), (MEM_STAT.wipe, 0)] with now := 4000000000000 }, (3 : Nat), (1 : Nat), by
      repeat' apply And.intro
      all_goals first | decide +kernel | exact onchip_live _ _ _ (by decide +kernel)⟩⟩

/-- The hypotheses of each clause of `Obligations.TrayWindowCommandsTakeEffect` hold together. -/
theorem test_tray_window_met :
    (∃ (s : State) (port n : Nat), s.Wf ∧ port < 2 ∧ s.targetRuns = true) ∧
    (∃ (s : State) (port p : Nat) (rest : List Nat), s.Wf ∧ port < 2 ∧ s.targetRuns = true) ∧
    (∃ (s : State) (lo hi : Nat), s.Wf ∧ lo < 256 ∧ hi < 256 ∧ s.targetRuns = true) ∧
    (∃ (s : State), s.Wf ∧ s.targetRuns = true ∧ s.alertOn = true) ∧
    (∃ (s : State) (code : Nat), s.Wf ∧ s.targetRuns = true ∧ commandCodes.contains code = false) :=
  ⟨⟨{ stateWith [(V.planeHeld 0, 0), (V.planeHeld 1, 0), (V.planeHeld 2, 0), (V.planeHeld 3, 0)] with now := 4000000000000 }, (1 : Nat), (1 : Nat), by decide +kernel⟩,
   ⟨{ stateWith [(V.planeHeld 0, 0), (V.planeHeld 1, 0), (V.planeHeld 2, 0), (V.planeHeld 3, 0)] with now := 4000000000000 }, (1 : Nat), (1 : Nat), ([] : List Nat), by decide +kernel⟩,
   ⟨{ stateWith [(V.planeHeld 0, 0), (V.planeHeld 1, 0), (V.planeHeld 2, 0), (V.planeHeld 3, 0)] with now := 4000000000000 }, (1 : Nat), (1 : Nat), by decide +kernel⟩,
   ⟨{ stateWith [(V.planeHeld 0, 0), (V.planeHeld 1, 0), (V.planeHeld 2, 0), (V.planeHeld 3, 0), (TWI_TCFG.alert_en, 1), (V.alertMask, 0xFFFF)] with now := 4000000000000 }, by decide +kernel⟩,
   ⟨{ stateWith [(V.planeHeld 0, 0), (V.planeHeld 1, 0), (V.planeHeld 2, 0), (V.planeHeld 3, 0)] with now := 4000000000000 }, (1 : Nat), by decide +kernel⟩⟩

/-- The hypotheses of each clause of `Obligations.CommandSetReadsTakeEffect` hold together (part 1 of 2). -/
theorem test_command_set_reads_met_1 :
    (∃ (s : State) (more : Bool), s.Wf ∧ s.targetRuns = true) ∧
    (∃ (s : State) (more : Bool), s.Wf ∧ s.targetRuns = true) ∧
    (∃ (s : State) (more : Bool), s.Wf ∧ s.targetRuns = true) ∧
    (∃ (s : State) (more : Bool), s.Wf ∧ s.targetRuns = true) ∧
    (∃ (s : State) (more : Bool), s.Wf ∧ s.targetRuns = true) ∧
    (∃ (s : State) (more : Bool), s.Wf ∧ s.targetRuns = true) :=
  ⟨⟨{ stateWith [(V.planeHeld 0, 0), (V.planeHeld 1, 0), (V.planeHeld 2, 0), (V.planeHeld 3, 0)] with now := 4000000000000 }, (false : Bool), by decide +kernel⟩,
   ⟨{ stateWith [(V.planeHeld 0, 0), (V.planeHeld 1, 0), (V.planeHeld 2, 0), (V.planeHeld 3, 0)] with now := 4000000000000 }, (false : Bool), by decide +kernel⟩,
   ⟨{ stateWith [(V.planeHeld 0, 0), (V.planeHeld 1, 0), (V.planeHeld 2, 0), (V.planeHeld 3, 0)] with now := 4000000000000 }, (false : Bool), by decide +kernel⟩,
   ⟨{ stateWith [(V.planeHeld 0, 0), (V.planeHeld 1, 0), (V.planeHeld 2, 0), (V.planeHeld 3, 0)] with now := 4000000000000 }, (false : Bool), by decide +kernel⟩,
   ⟨{ stateWith [(V.planeHeld 0, 0), (V.planeHeld 1, 0), (V.planeHeld 2, 0), (V.planeHeld 3, 0)] with now := 4000000000000 }, (false : Bool), by decide +kernel⟩,
   ⟨{ stateWith [(V.planeHeld 0, 0), (V.planeHeld 1, 0), (V.planeHeld 2, 0), (V.planeHeld 3, 0)] with now := 4000000000000 }, (false : Bool), by decide +kernel⟩⟩

/-- The hypotheses of each clause of `Obligations.CommandSetReadsTakeEffect` hold together (part 2 of 2). -/
theorem test_command_set_reads_met_2 :
    (∃ (s : State) (more : Bool), s.Wf ∧ s.targetRuns = true) ∧
    (∃ (s : State) (more : Bool), s.Wf ∧ s.targetRuns = true) ∧
    (∃ (s : State) (b k x : Nat) (more : Bool), s.Wf ∧ s.targetRuns = true ∧ b < 5) ∧
    (∃ (s : State) (more : Bool), s.Wf ∧ s.targetRuns = true) ∧
    (∃ (s : State) (more : Bool), s.Wf ∧ s.targetRuns = true ∧ s.rcvOpen = true) :=
  ⟨⟨{ stateWith [(V.planeHeld 0, 0), (V.planeHeld 1, 0), (V.planeHeld 2, 0), (V.planeHeld 3, 0)] with now := 4000000000000 }, (false : Bool), by decide +kernel⟩,
   ⟨{ stateWith [(V.planeHeld 0, 0), (V.planeHeld 1, 0), (V.planeHeld 2, 0), (V.planeHeld 3, 0)] with now := 4000000000000 }, (false : Bool), by decide +kernel⟩,
   ⟨{ stateWith [(V.planeHeld 0, 0), (V.planeHeld 1, 0), (V.planeHeld 2, 0), (V.planeHeld 3, 0)] with now := 4000000000000 }, (1 : Nat), (1 : Nat), (1 : Nat), (false : Bool), by decide +kernel⟩,
   ⟨{ stateWith [(V.planeHeld 0, 0), (V.planeHeld 1, 0), (V.planeHeld 2, 0), (V.planeHeld 3, 0)] with now := 4000000000000 }, (false : Bool), by decide +kernel⟩,
   ⟨{ stateWith [(V.planeHeld 0, 0), (V.planeHeld 1, 0), (V.planeHeld 2, 0), (V.planeHeld 3, 0), (HIF_RCVSTAT.state, 1)] with now := 4000000000000 }, (false : Bool), by decide +kernel⟩⟩

/-- The hypotheses of each clause of `Obligations.CommandSetWritesTakeEffect` hold together. -/
theorem test_command_set_writes_met :
    (∃ (s : State) (pec : Option Nat), s.Wf ∧ s.targetRuns = true ∧ (pec = none → s.rd TWI_TCFG.pec_req = 0) ∧ (∀ x, pec = some x → x = crc8 (s.cmdAddr :: 0x03 :: []))) ∧
    (∃ (s : State) (body : List Nat) (pec : Option Nat) (acked : Bool), s.Wf ∧ s.mgmtRuns = true ∧ s.targetRuns = true ∧ body.length = 20 ∧ (pec = none → s.rd TWI_TCFG.pec_req = 0) ∧ (∀ x, pec = some x → x = crc8 (s.cmdAddr :: 0xD0 :: blockOf body))) ∧
    (∃ (s : State) (body : List Nat) (pec : Option Nat), s.Wf ∧ s.targetRuns = true ∧ s.rcvOpen = true ∧ body.length = 4 ∧ (pec = none → s.rd TWI_TCFG.pec_req = 0) ∧ (∀ x, pec = some x → x = crc8 (s.cmdAddr :: 0xE0 :: body))) ∧
    (∃ (s : State) (body : List Nat) (pec : Option Nat), s.Wf ∧ s.targetRuns = true ∧ s.rcvOpen = true ∧ 1 ≤ body.length ∧ body.length ≤ 240 ∧ s.rd V.rcvOfs + body.length ≤ recoveryRoom (s.rd HIF_RCVSTAT.kind) ∧ (pec = none → s.rd TWI_TCFG.pec_req = 0) ∧ (∀ x, pec = some x → x = crc8 (s.cmdAddr :: 0xE1 :: blockOf body))) ∧
    (∃ (s : State) (body : List Nat) (pec : Option Nat), s.Wf ∧ s.targetRuns = true ∧ s.rcvOpen = true ∧ body.length = 4 ∧ (pec = none → s.rd TWI_TCFG.pec_req = 0) ∧ (∀ x, pec = some x → x = crc8 (s.cmdAddr :: 0xE2 :: body))) ∧
    (∃ (s : State) (pec : Option Nat), s.Wf ∧ s.targetRuns = true ∧ s.rd (V.planeHeld 3) = 0 ∧ (s.rd HIF_RCVSTAT.state = 1 ∨ s.rd HIF_RCVSTAT.state = 4) ∧ (pec = none → s.rd TWI_TCFG.pec_req = 0) ∧ (∀ x, pec = some x → x = crc8 (s.cmdAddr :: 0xE3 :: []))) :=
  ⟨⟨{ stateWith [(V.planeHeld 0, 0), (V.planeHeld 1, 0), (V.planeHeld 2, 0), (V.planeHeld 3, 0)] with now := 4000000000000 }, (none : Option Nat), by
      repeat' apply And.intro
      all_goals first | decide +kernel | exact fun _ h => nomatch h⟩,
   ⟨{ stateWith [(V.planeHeld 0, 0), (V.planeHeld 1, 0), (V.planeHeld 2, 0), (V.planeHeld 3, 0), (HIF_STAT.ready, 1)] with now := 4000000000000 }, (([4] ++ zeros 19) : List Nat), (none : Option Nat), (false : Bool), by
      repeat' apply And.intro
      all_goals first | decide +kernel | exact fun _ h => nomatch h⟩,
   ⟨{ stateWith [(V.planeHeld 0, 0), (V.planeHeld 1, 0), (V.planeHeld 2, 0), (V.planeHeld 3, 0), (HIF_RCVSTAT.state, 1)] with now := 4000000000000 }, ([1, 2, 3, 4] : List Nat), (none : Option Nat), by
      repeat' apply And.intro
      all_goals first | decide +kernel | exact fun _ h => nomatch h⟩,
   ⟨{ stateWith [(V.planeHeld 0, 0), (V.planeHeld 1, 0), (V.planeHeld 2, 0), (V.planeHeld 3, 0), (HIF_RCVSTAT.state, 1)] with now := 4000000000000 }, ([1, 2, 3, 4] : List Nat), (none : Option Nat), by
      repeat' apply And.intro
      all_goals first | decide +kernel | exact fun _ h => nomatch h⟩,
   ⟨{ stateWith [(V.planeHeld 0, 0), (V.planeHeld 1, 0), (V.planeHeld 2, 0), (V.planeHeld 3, 0), (HIF_RCVSTAT.state, 1)] with now := 4000000000000 }, ([1, 2, 3, 4] : List Nat), (none : Option Nat), by
      repeat' apply And.intro
      all_goals first | decide +kernel | exact fun _ h => nomatch h⟩,
   ⟨{ stateWith [(V.planeHeld 0, 0), (V.planeHeld 1, 0), (V.planeHeld 2, 0), (V.planeHeld 3, 0), (V.planeHeld 3, 0), (HIF_RCVSTAT.state, 1)] with now := 4000000000000 }, (none : Option Nat), by
      repeat' apply And.intro
      all_goals first | decide +kernel | exact fun _ h => nomatch h⟩⟩

/-- The hypotheses of each clause of `Obligations.PortCommandsTakeEffect` hold together. -/
theorem test_port_met :
    (∃ (s : State) (n : Nat), s.Wf ∧ s.portAlive n = true) ∧
    (∃ (s : State) (n : Nat), s.Wf ∧ s.portAlive n = true) ∧
    (∃ (s : State) (req n value recov : Nat), s.Wf ∧ 2 ≤ n ∧ n < 16 ∧ s.Reaches req (0x100_1020 + 0x100 * n) 4 value false ∧ bit value 31 = true ∧ s.rd (TWI_CRES.busy n) = 0 ∧ s.rd (TWI_PCFG.en n) = 1 ∧ s.identHolds n = false ∧ s.rd (V.sdaBad n) = 0) ∧
    (∃ (s : State) (n out sent lost : Nat) (rx : List Nat), s.Wf ∧ 2 ≤ n ∧ s.portAlive n = true ∧ s.rd (TWI_CRES.busy n) = 1 ∧ out ≤ 3 ∧ s.lossesFit n out lost = true ∧ rx.length ≤ 33) ∧
    (∃ (s : State) (vals : List Nat), s.Wf ∧ s.committed = true ∧ s.rd V.identDone = 0 ∧ s.rd (V.planeHeld 3) = 0) :=
  ⟨⟨{ stateWith [(V.planeHeld 0, 0), (V.planeHeld 1, 0), (V.planeHeld 2, 0), (V.planeHeld 3, 0)] with now := 4000000000000 }, (1 : Nat), by decide +kernel⟩,
   ⟨{ stateWith [(V.planeHeld 0, 0), (V.planeHeld 1, 0), (V.planeHeld 2, 0), (V.planeHeld 3, 0)] with now := 4000000000000 }, (1 : Nat), by decide +kernel⟩,
   ⟨{ stateWith [(V.planeHeld 0, 0), (V.planeHeld 1, 0), (V.planeHeld 2, 0), (V.planeHeld 3, 0), (TWI_CRES.busy 2, 0), (TWI_PCFG.en 2, 1), (V.sdaBad 2, 0)] with now := 4000000000000 }, (6 : Nat), (2 : Nat), (0x8002_0101 : Nat), (1 : Nat), by decide +kernel⟩,
   ⟨{ stateWith [(V.planeHeld 0, 0), (V.planeHeld 1, 0), (V.planeHeld 2, 0), (V.planeHeld 3, 0), (TWI_CRES.busy 2, 1), (TWI_CRES.busy 2, 1)] with now := 4000000000000 }, (2 : Nat), (1 : Nat), (1 : Nat), (1 : Nat), ([] : List Nat), by decide +kernel⟩,
   ⟨{ stateWith [(V.planeHeld 0, 0), (V.planeHeld 1, 0), (V.planeHeld 2, 0), (V.planeHeld 3, 0), (V.identDone, 0), (V.planeHeld 3, 0), (FAB_STAT.committed, 1)] with now := 4000000000000 }, ([] : List Nat), by decide +kernel⟩⟩

/-- The hypotheses of each clause of `Obligations.MemoryAccessesTakeEffect` hold together. -/
theorem test_memory_accesses_met :
    (∃ (s : State) (req a n data bad : Nat), s.Wf ∧ isCore req = true ∧ n ≠ 0 ∧ s.unmapped a n = false ∧ s.coreMay req a n true = true ∧ s.memWaits a = false ∧ s.rd KPR_GQUEUE.gated = 0 ∧ s.coreWrites req a = true ∧ (∀ x, a ≤ x → x < a + n → s.channelDead x = false)) ∧
    (∃ (s : State) (req a n bad : Nat), s.Wf ∧ isCore req = true ∧ n ≠ 0 ∧ s.unmapped a n = false ∧ s.coreMay req a n false = true ∧ s.memWaits a = false ∧ wordsIn s.memu.ce a n = [] ∧ s.badWord? a n = none) ∧
    (∃ (s : State) (req a width : Nat), s.Wf ∧ isServiceCore req = true ∧ s.planeDown a = false ∧ s.mayRead req a width = false) :=
  ⟨⟨{ stateWith [(V.planeHeld 0, 0), (V.planeHeld 1, 0), (V.planeHeld 2, 0), (V.planeHeld 3, 0), (KPR_GQUEUE.gated, 0), (V.planeHeld 3, 0), (MEM_STAT.wipe, 0)] with now := 4000000000000 }, (0 : Nat), (0xFFFF_0000 : Nat), (4 : Nat), (0x1234 : Nat), (1 : Nat), by
      repeat' apply And.intro
      all_goals first | decide +kernel | exact onchip_live _ _ _ (by decide +kernel)⟩,
   ⟨{ stateWith [(V.planeHeld 0, 0), (V.planeHeld 1, 0), (V.planeHeld 2, 0), (V.planeHeld 3, 0), (MEM_STAT.wipe, 0)] with now := 4000000000000 }, (0 : Nat), (0xFFFF_0000 : Nat), (4 : Nat), (1 : Nat), by decide +kernel⟩,
   ⟨{ stateWith [(V.planeHeld 0, 0), (V.planeHeld 1, 0), (V.planeHeld 2, 0), (V.planeHeld 3, 0)] with now := 4000000000000 }, (2 : Nat), (0x60_0000 : Nat), (4 : Nat), by decide +kernel⟩⟩

/-- The hypotheses of each clause of `Obligations.MemoryCareCommandsTakeEffect` hold together. -/
theorem test_memory_care_met :
    (∃ (s : State) (r : Nat), s.Wf ∧ (r = 0 ∨ r = 4) ∧ bit (s.rd MEM_STAT.wipe) r = false) ∧
    (∃ (s : State) (row : Nat) (rest : List Nat), s.Wf ∧ s.memu.due = row :: rest ∧ s.spareLeft (macroOf row) = true) ∧
    (∃ (s : State) (row : Nat) (rest : List Nat), s.Wf ∧ s.memu.due = row :: rest ∧ s.spareLeft (macroOf row) = false) ∧
    (∃ (s : State) (row : Nat), s.Wf ∧ s.copyDone row = true) ∧
    (∃ (s : State) (r : Nat) (rows : List Nat), s.Wf ∧ r < 5 ∧ bit (s.rd MEM_STAT.wipe) r = true ∧ s.rd CRP_PFSTAT.warn = 0) :=
  ⟨⟨{ stateWith [(V.planeHeld 0, 0), (V.planeHeld 1, 0), (V.planeHeld 2, 0), (V.planeHeld 3, 0), (MEM_STAT.wipe, 0)] with now := 4000000000000 }, (4 : Nat), by decide +kernel⟩,
   ⟨{ stateWith [(V.planeHeld 0, 0), (V.planeHeld 1, 0), (V.planeHeld 2, 0), (V.planeHeld 3, 0)] with memu := { due := [9, 8] }, now := 4000000000000 }, (9 : Nat), ([8] : List Nat), by decide +kernel⟩,
   ⟨{ stateWith [(V.planeHeld 0, 0), (V.planeHeld 1, 0), (V.planeHeld 2, 0), (V.planeHeld 3, 0)] with memu := { due := [9, 8], maps := [(1, 0), (2, 1), (3, 2), (4, 3)] }, now := 4000000000000 }, (9 : Nat), ([8] : List Nat), by decide +kernel⟩,
   ⟨{ stateWith [(V.planeHeld 0, 0), (V.planeHeld 1, 0), (V.planeHeld 2, 0), (V.planeHeld 3, 0)] with memu := { copies := [(9, 5)] }, now := 4000000000000 }, (9 : Nat), by decide +kernel⟩,
   ⟨{ stateWith [(V.planeHeld 0, 0), (V.planeHeld 1, 0), (V.planeHeld 2, 0), (V.planeHeld 3, 0), (MEM_STAT.wipe, 2 ^ (1)), (CRP_PFSTAT.warn, 0)] with now := 4000000000000 }, (1 : Nat), ([] : List Nat), by decide +kernel⟩⟩

/-- The hypotheses of each clause of `Obligations.ExternalMemoryCommandsTakeEffect` hold together. -/
theorem test_external_memory_met :
    (∃ (s : State) (res : List (Nat × Nat × Nat × Nat)), s.Wf ∧ s.rd MEM_STAT.lp_state ≤ 1 ∧ s.rd (V.planeHeld 2) = 0 ∧ s.rd CRP_PFSTAT.warn = 0 ∧ s.rd V.lpKeep = 0) ∧
    (∃ (s : State), s.Wf ∧ s.rd MEM_STAT.lp_state = 2) ∧
    (∃ (s : State), s.Wf ∧ s.rd MEM_STAT.lp_state = 3 ∧ (s.rd V.wckDue = 1 ∨ s.rd V.wckAt + 400000000 ≤ s.now + 1)) ∧
    (∃ (s : State) (vals : List Nat) (c : Nat), s.Wf ∧ s.rd MEM_STAT.lp_state = 3 ∧ s.goodChannels.contains c = true) ∧
    (∃ (s : State) (n : Nat), s.Wf ∧ s.rd MEM_STAT.lp_state = 3 ∧ s.rd MEM_LPCFG.scrub_en = 1) ∧
    (∃ (s : State) (c : Nat), s.Wf ∧ s.rd MEM_STAT.lp_state = 3 ∧ s.goodChannels.contains c = true ∧ s.rd (MEM_LPCH.state c) = 2 ∧ s.rd MEM_LPCFG.fail_ue ≤ s.lpUeCount c) :=
  ⟨⟨{ stateWith [(V.planeHeld 0, 0), (V.planeHeld 1, 0), (V.planeHeld 2, 0), (V.planeHeld 3, 0), (V.planeHeld 2, 0), (CRP_PFSTAT.warn, 0), (V.lpKeep, 0)] with now := 4000000000000 }, ([] : List (Nat × Nat × Nat × Nat)), by decide +kernel⟩,
   ⟨{ stateWith [(V.planeHeld 0, 0), (V.planeHeld 1, 0), (V.planeHeld 2, 0), (V.planeHeld 3, 0), (MEM_STAT.lp_state, 2)] with now := 4000000000000 }, by decide +kernel⟩,
   ⟨{ stateWith [(V.planeHeld 0, 0), (V.planeHeld 1, 0), (V.planeHeld 2, 0), (V.planeHeld 3, 0), (MEM_STAT.lp_state, 3), (V.wckDue, 1)] with now := 4000000000000 }, by decide +kernel⟩,
   ⟨{ stateWith [(V.planeHeld 0, 0), (V.planeHeld 1, 0), (V.planeHeld 2, 0), (V.planeHeld 3, 0), (MEM_STAT.lp_state, 3), (V.lpGood, 3), (MEM_STAT.lp_state, 3)] with now := 4000000000000 }, ([] : List Nat), (1 : Nat), by decide +kernel⟩,
   ⟨{ stateWith [(V.planeHeld 0, 0), (V.planeHeld 1, 0), (V.planeHeld 2, 0), (V.planeHeld 3, 0), (MEM_STAT.lp_state, 3), (MEM_LPCFG.scrub_en, 1)] with now := 4000000000000 }, (1 : Nat), by decide +kernel⟩,
   ⟨{ stateWith [(V.planeHeld 0, 0), (V.planeHeld 1, 0), (V.planeHeld 2, 0), (V.planeHeld 3, 0), (MEM_STAT.lp_state, 3), (MEM_LPCH.state 1, 2), (V.lpGood, 3), (MEM_STAT.lp_state, 3), (MEM_LPCFG.fail_ue, 1)] with memu := { lpUe := [(1, 4000000000000)] }, now := 4000000000000 }, (1 : Nat), by decide +kernel⟩⟩

/-- The hypotheses of each clause of `Obligations.CounterCommandsTakeEffect` hold together. -/
theorem test_counter_met :
    (∃ (s : State), s.Wf ∧ s.rd V.pmcOff = 1 ∧ s.pmcRuns = true) ∧
    (∃ (s : State), s.Wf ∧ s.rd V.pmcOff = 0 ∧ s.pmcRuns = false) ∧
    (∃ (s : State) (i n pc : Nat), s.Wf ∧ i < 64 ∧ s.counting i = true ∧ 2 ^ 48 ≤ (pmcFlush s).rd (PMC_CNT.count i) + n) ∧
    (∃ (s : State) (req i value n : Nat), s.Wf ∧ i < 64 ∧ s.Reaches req (0x120_0200 + 8 * i) 8 value false) ∧
    (∃ (s : State) (req value : Nat), s.Wf ∧ s.Reaches req 0x120_0000 4 value false ∧ bit value 0 = true) ∧
    (∃ (s : State) (p : Nat), s.Wf ∧ p < 32 ∧ s.rd V.bwFrom + s.rd PMC_BWWIN.us * 4000 ≤ s.now) ∧
    (∃ (s : State) (req value : Nat), s.Wf ∧ s.Reaches req 0x120_0038 4 value false ∧ 1 ≤ value % 2 ^ 20 ∧ value % 2 ^ 20 ≤ 1000000) :=
  ⟨⟨{ stateWith [(V.planeHeld 0, 0), (V.planeHeld 1, 0), (V.planeHeld 2, 0), (V.planeHeld 3, 0), (V.pmcOff, 1)] with now := 4000000000000 }, by decide +kernel⟩,
   ⟨{ stateWith [(V.planeHeld 0, 0), (V.planeHeld 1, 0), (V.planeHeld 2, 0), (V.planeHeld 3, 0), (V.pmcOff, 0), (PMC_STOP.stamp, 4000)] with now := 4000000000000 }, by decide +kernel⟩,
   ⟨{ stateWith [(V.planeHeld 0, 0), (V.planeHeld 1, 0), (V.planeHeld 2, 0), (V.planeHeld 3, 0), (PMC_CFG.en 1, 1)] with now := 4000000000000 }, (1 : Nat), (2 ^ 48 : Nat), (1 : Nat), by decide +kernel⟩,
   ⟨{ stateWith [(V.planeHeld 0, 0), (V.planeHeld 1, 0), (V.planeHeld 2, 0), (V.planeHeld 3, 0)] with now := 4000000000000 }, (6 : Nat), (1 : Nat), (0 : Nat), (1 : Nat), by decide +kernel⟩,
   ⟨{ stateWith [(V.planeHeld 0, 0), (V.planeHeld 1, 0), (V.planeHeld 2, 0), (V.planeHeld 3, 0)] with now := 4000000000000 }, (6 : Nat), (1 : Nat), by decide +kernel⟩,
   ⟨{ stateWith [(V.planeHeld 0, 0), (V.planeHeld 1, 0), (V.planeHeld 2, 0), (V.planeHeld 3, 0)] with now := 4000000000000 }, (1 : Nat), by decide +kernel⟩,
   ⟨{ stateWith [(V.planeHeld 0, 0), (V.planeHeld 1, 0), (V.planeHeld 2, 0), (V.planeHeld 3, 0)] with now := 4000000000000 }, (6 : Nat), (5 : Nat), by decide +kernel⟩⟩

/-- The hypotheses of each clause of `Obligations.TestAccessCommandsTakeEffect` hold together (part 1 of 2). -/
theorem test_test_access_met_1 :
    (∃ (s : State) (req k value : Nat), s.Wf ∧ k < 8 ∧ s.Reaches req (0x128_0020 + 4 * k) 4 value false ∧ bit value 31 = true ∧ s.sourceRefused (dtestClass (bits value 12 4) (bits value 0 12)) = 0) ∧
    (∃ (s : State) (req k value : Nat), s.Wf ∧ k < 2 ∧ s.Reaches req (0x128_0020 + 4 * (8 + k)) 4 value false ∧ bit value 31 = true ∧ s.sourceRefused (atestClass (bits value 0 8)) = 0) ∧
    (∃ (s : State) (req value : Nat), s.Wf ∧ s.Reaches req 0x128_0010 4 value false ∧ bit value 0 = true ∧ s.rd TAM_STAT.busy = 0) ∧
    (∃ (s : State) (req value : Nat) (tok : List Nat), s.Wf ∧ s.rd TAM_STAT.ir = 0x10 ∧ s.rd TAM_STAT.busy = 0) :=
  ⟨⟨{ stateWith [(V.planeHeld 0, 0), (V.planeHeld 1, 0), (V.planeHeld 2, 0), (V.planeHeld 3, 0)] with now := 4000000000000 }, (6 : Nat), (1 : Nat), (0x8000_1000 : Nat), by decide +kernel⟩,
   ⟨{ stateWith [(V.planeHeld 0, 0), (V.planeHeld 1, 0), (V.planeHeld 2, 0), (V.planeHeld 3, 0)] with now := 4000000000000 }, (6 : Nat), (1 : Nat), (0x8000_0001 : Nat), by decide +kernel⟩,
   ⟨{ stateWith [(V.planeHeld 0, 0), (V.planeHeld 1, 0), (V.planeHeld 2, 0), (V.planeHeld 3, 0), (TAM_STAT.busy, 0)] with now := 4000000000000 }, (6 : Nat), (1 : Nat), by decide +kernel⟩,
   ⟨{ stateWith [(V.planeHeld 0, 0), (V.planeHeld 1, 0), (V.planeHeld 2, 0), (V.planeHeld 3, 0), (TAM_STAT.ir, 0x10), (TAM_STAT.busy, 0)] with now := 4000000000000 }, (6 : Nat), (0 : Nat), ([] : List Nat), by decide +kernel⟩⟩

/-- The hypotheses of each clause of `Obligations.TestAccessCommandsTakeEffect` hold together (part 2 of 2). -/
theorem test_test_access_met_2 :
    (∃ (s : State), s.Wf ∧ s.rd TAM_STAT.busy = 1 ∧ s.tokenChecker = true) ∧
    (∃ (s : State) (code : Nat) (r : Restart), s.Wf ∧ s.rd TAM_STAT.ir ≠ 0x30 ∧ s.rd TAM_STAT.ir ≠ 0x31 ∧ tapKnown (code % 256) = true ∧ s.tapRefused (code % 256) = 0) ∧
    (∃ (s : State) (code : Nat) (r : Restart), s.Wf ∧ (s.rd TAM_STAT.ir = 0x30 ∨ s.rd TAM_STAT.ir = 0x31) ∧ code % 256 ≠ s.rd TAM_STAT.ir ∧ code % 256 ≠ 0x30 ∧ code % 256 ≠ 0x31) ∧
    (∃ (s : State) (r : Restart), s.Wf ∧ s.rd TAM_STAT.ir ≠ 0x30 ∧ s.rd TAM_STAT.ir ≠ 0x31) :=
  ⟨⟨{ stateWith [(V.planeHeld 0, 0), (V.planeHeld 1, 0), (V.planeHeld 2, 0), (V.planeHeld 3, 0), (TAM_STAT.busy, 1), (KPR_BOOT.stage, Stage.running)] with now := 4000000000000 }, by decide +kernel⟩,
   ⟨{ stateWith [(V.planeHeld 0, 0), (V.planeHeld 1, 0), (V.planeHeld 2, 0), (V.planeHeld 3, 0), (TAM_STAT.ir, 1), (TAM_STAT.ir, 1)] with now := 4000000000000 }, (1 : Nat), (⟨0, 0, false, []⟩ : Restart), by decide +kernel⟩,
   ⟨{ stateWith [(V.planeHeld 0, 0), (V.planeHeld 1, 0), (V.planeHeld 2, 0), (V.planeHeld 3, 0), (TAM_STAT.ir, 0x30)] with now := 4000000000000 }, (1 : Nat), (⟨0, 0, false, []⟩ : Restart), by decide +kernel⟩,
   ⟨{ stateWith [(V.planeHeld 0, 0), (V.planeHeld 1, 0), (V.planeHeld 2, 0), (V.planeHeld 3, 0), (TAM_STAT.ir, 1), (TAM_STAT.ir, 1)] with now := 4000000000000 }, (⟨0, 0, false, []⟩ : Restart), by decide +kernel⟩⟩

/-- The hypotheses of each clause of `Obligations.ColdResetCommandsTakeEffect` hold together (part 1 of 2). -/
theorem test_cold_reset_met_1 :
    (∃ (s : State) (r : Restart), s.Wf ∧ s.rd V.auxUp = 0) ∧
    (∃ (s : State) (r : Restart), s.Wf ∧ s.rd CRP_RSTCTL.cold = 1) ∧
    (∃ (s : State) (r : Restart), s.Wf ∧ s.rd CRP_PFSTAT.warn = 1 ∧ s.rd V.auxUp = 1 ∧ s.rd V.thermHold = 0 ∧ s.rd V.auxBack ≠ 0 ∧ max (s.rd V.auxBack) (s.rd V.pfAt) + 40000000 ≤ s.now + 1 ∧ (s.rd V.thermAt = 0 ∨ s.rd V.pfAt < s.rd V.thermAt)) ∧
    (∃ (s : State) (r : Restart), s.Wf ∧ bit (s.rd V.pllLock) 0 = true) :=
  ⟨⟨{ stateWith [(V.planeHeld 0, 0), (V.planeHeld 1, 0), (V.planeHeld 2, 0), (V.planeHeld 3, 0), (V.auxUp, 0)] with now := 4000000000000 }, (⟨0, 0, false, []⟩ : Restart), by decide +kernel⟩,
   ⟨{ stateWith [(V.planeHeld 0, 0), (V.planeHeld 1, 0), (V.planeHeld 2, 0), (V.planeHeld 3, 0), (CRP_RSTCTL.cold, 1)] with now := 4000000000000 }, (⟨0, 0, false, []⟩ : Restart), by decide +kernel⟩,
   ⟨{ stateWith [(V.planeHeld 0, 0), (V.planeHeld 1, 0), (V.planeHeld 2, 0), (V.planeHeld 3, 0), (CRP_PFSTAT.warn, 1), (V.auxUp, 1), (V.thermHold, 0), (V.auxBack, 1), (V.thermAt, 0)] with now := 4000000000000 }, (⟨0, 0, false, []⟩ : Restart), by decide +kernel⟩,
   ⟨{ stateWith [(V.planeHeld 0, 0), (V.planeHeld 1, 0), (V.planeHeld 2, 0), (V.planeHeld 3, 0), (V.pllLock, 2 ^ (0))] with now := 4000000000000 }, (⟨0, 0, false, []⟩ : Restart), by decide +kernel⟩⟩

/-- The hypotheses of each clause of `Obligations.ColdResetCommandsTakeEffect` hold together (part 2 of 2). -/
theorem test_cold_reset_met_2 :
    (∃ (s : State) (r : Restart), s.Wf ∧ s.rd CRP_SUPSTAT.supply_en = 1 ∧ s.rd CRP_PFSTAT.warn = 0 ∧ s.rd V.supLow ≠ 0 ∧ s.rd V.supLow + 8000 ≤ s.now + 1) ∧
    (∃ (s : State) (x : Nat) (w : Int) (r : Restart), s.Wf ∧ x < 6 ∧ 1100 ≤ w.natAbs ∧ s.rd CRP_PFSTAT.warn = 0) ∧
    (∃ (s : State) (src : Nat) (supplies : List Nat) (r : RomFind), s.Wf ∧ s.rd V.standby = 1 ∧ src < 6 ∧ bit (s.rd CRP_WAKEEN.en) src = true ∧ s.wakeCalls src = true) ∧
    (∃ (s : State) (r : Restart), s.Wf ∧ s.rd V.thermHold = 1 ∧ s.rd V.coolSince ≠ 0 ∧ s.rd V.coolSince + 4000000000 ≤ s.now + 1) :=
  ⟨⟨{ stateWith [(V.planeHeld 0, 0), (V.planeHeld 1, 0), (V.planeHeld 2, 0), (V.planeHeld 3, 0), (CRP_SUPSTAT.supply_en, 1), (CRP_PFSTAT.warn, 0), (V.supLow, 1)] with now := 4000000000000 }, (⟨0, 0, false, []⟩ : Restart), by decide +kernel⟩,
   ⟨{ stateWith [(V.planeHeld 0, 0), (V.planeHeld 1, 0), (V.planeHeld 2, 0), (V.planeHeld 3, 0), (CRP_PFSTAT.warn, 0)] with now := 4000000000000 }, (1 : Nat), (1200 : Int), (⟨0, 0, false, []⟩ : Restart), by decide +kernel⟩,
   ⟨{ stateWith [(V.planeHeld 0, 0), (V.planeHeld 1, 0), (V.planeHeld 2, 0), (V.planeHeld 3, 0), (V.standby, 1), (CRP_WAKEEN.en, 2 ^ (1))] with now := 4000000000000 }, (1 : Nat), ([] : List Nat), (⟨0, 0⟩ : RomFind), by decide +kernel⟩,
   ⟨{ stateWith [(V.planeHeld 0, 0), (V.planeHeld 1, 0), (V.planeHeld 2, 0), (V.planeHeld 3, 0), (V.thermHold, 1), (V.coolSince, 1)] with now := 4000000000000 }, (⟨0, 0, false, []⟩ : Restart), by decide +kernel⟩⟩

/-- The hypotheses of each clause of `Obligations.OtherResetCommandsTakeEffect` hold together. -/
theorem test_other_reset_met :
    (∃ (s : State) (halted : Bool) (bad : Nat), s.Wf ∧ (halted = true ∨ s.rd CRP_RSTCTL.mgmt = 1) ∧ s.rd (V.planeHeld 3) = 0) ∧
    (∃ (s : State) (bad : Nat), s.Wf ∧ s.rd CRP_WDOGCFG.en = 1 ∧ s.rd V.wdogAt + s.rd CRP_WDOGCFG.period * 4000000 ≤ s.now) ∧
    (∃ (s : State), s.Wf ∧ s.rd CRP_RSTCTL.pred = 1 ∧ s.rd (V.planeHeld 1) = 0) ∧
    (∃ (s : State) (req value : Nat), s.Wf ∧ s.Reaches req 0x130_0018 4 value true ∧ value = 0x0F08) :=
  ⟨⟨{ stateWith [(V.planeHeld 0, 0), (V.planeHeld 1, 0), (V.planeHeld 2, 0), (V.planeHeld 3, 0), (V.planeHeld 3, 0)] with now := 4000000000000 }, (true : Bool), (1 : Nat), by decide +kernel⟩,
   ⟨{ stateWith [(V.planeHeld 0, 0), (V.planeHeld 1, 0), (V.planeHeld 2, 0), (V.planeHeld 3, 0), (CRP_WDOGCFG.en, 1)] with now := 4000000000000 }, (1 : Nat), by decide +kernel⟩,
   ⟨{ stateWith [(V.planeHeld 0, 0), (V.planeHeld 1, 0), (V.planeHeld 2, 0), (V.planeHeld 3, 0), (CRP_RSTCTL.pred, 1), (V.planeHeld 1, 0)] with now := 4000000000000 }, by decide +kernel⟩,
   ⟨{ stateWith [(V.planeHeld 0, 0), (V.planeHeld 1, 0), (V.planeHeld 2, 0), (V.planeHeld 3, 0)] with now := 4000000000000 }, (0 : Nat), (0x0F08 : Nat), by decide +kernel⟩⟩

/-- The hypotheses of each clause of `Obligations.PowerAndClockCommandsTakeEffect` hold together (part 1 of 2). -/
theorem test_power_and_clock_met_1 :
    (∃ (s : State) (req value : Nat), s.Wf ∧ s.Reaches req 0x130_0040 4 value true ∧ bit value 0 = true) ∧
    (∃ (s : State) (p : Nat), s.Wf ∧ p < 4 ∧ s.rd V.sbAt ≠ 0 ∧ s.rd V.sbAt - 1 + 4000000 ≤ s.now) ∧
    (∃ (s : State) (ext ledger : Bool) (aux12 : Nat), s.Wf ∧ s.rd CRP_PFSTAT.warn = 0 ∧ s.rd V.auxUp = 1 ∧ s.rd (V.planeHeld 0) = 0 ∧ if ext = true then s.rd Sig.auxPf = 1 else aux12 < 920) ∧
    (∃ (s : State) (p : Nat), s.Wf ∧ p < 4 ∧ s.rd CRP_PFSTAT.warn = 1) ∧
    (∃ (s : State) (k : Nat) (r : Restart), s.Wf ∧ 1 ≤ k ∧ k < 8 ∧ bit (s.rd V.pllLock) k = true) :=
  ⟨⟨{ stateWith [(V.planeHeld 0, 0), (V.planeHeld 1, 0), (V.planeHeld 2, 0), (V.planeHeld 3, 0)] with now := 4000000000000 }, (0 : Nat), (1 : Nat), by decide +kernel⟩,
   ⟨{ stateWith [(V.planeHeld 0, 0), (V.planeHeld 1, 0), (V.planeHeld 2, 0), (V.planeHeld 3, 0), (V.sbAt, 1)] with now := 4000000000000 }, (1 : Nat), by decide +kernel⟩,
   ⟨{ stateWith [(V.planeHeld 0, 0), (V.planeHeld 1, 0), (V.planeHeld 2, 0), (V.planeHeld 3, 0), (CRP_PFSTAT.warn, 0), (V.auxUp, 1), (V.planeHeld 0, 0)] with now := 4000000000000 }, (false : Bool), (false : Bool), (1 : Nat), by decide +kernel⟩,
   ⟨{ stateWith [(V.planeHeld 0, 0), (V.planeHeld 1, 0), (V.planeHeld 2, 0), (V.planeHeld 3, 0), (CRP_PFSTAT.warn, 1)] with now := 4000000000000 }, (1 : Nat), by decide +kernel⟩,
   ⟨{ stateWith [(V.planeHeld 0, 0), (V.planeHeld 1, 0), (V.planeHeld 2, 0), (V.planeHeld 3, 0), (V.pllLock, 2 ^ (1))] with now := 4000000000000 }, (1 : Nat), (⟨0, 0, false, []⟩ : Restart), by decide +kernel⟩⟩

/-- The hypotheses of each clause of `Obligations.PowerAndClockCommandsTakeEffect` hold together (part 2 of 2). -/
theorem test_power_and_clock_met_2 :
    (∃ (s : State) (k ns : Nat), s.Wf ∧ k < 8 ∧ s.pllRuns k = true ∧ bit (s.rd V.pllLock) k = false) ∧
    (∃ (s : State), s.Wf ∧ s.rd CRP_CLKSTAT.ref_lost = 0) ∧
    (∃ (s : State), s.Wf ∧ s.rd CRP_CLKSTAT.ref_lost = 1) ∧
    (∃ (s : State) (x : Nat) (w : Int), s.Wf ∧ x < 6) :=
  ⟨⟨{ stateWith [(V.planeHeld 0, 0), (V.planeHeld 1, 0), (V.planeHeld 2, 0), (V.planeHeld 3, 0), (V.pllLock, 0)] with now := 4000000000000 }, (1 : Nat), (1 : Nat), by decide +kernel⟩,
   ⟨{ stateWith [(V.planeHeld 0, 0), (V.planeHeld 1, 0), (V.planeHeld 2, 0), (V.planeHeld 3, 0), (CRP_CLKSTAT.ref_lost, 0)] with now := 4000000000000 }, by decide +kernel⟩,
   ⟨{ stateWith [(V.planeHeld 0, 0), (V.planeHeld 1, 0), (V.planeHeld 2, 0), (V.planeHeld 3, 0), (CRP_CLKSTAT.ref_lost, 1)] with now := 4000000000000 }, by decide +kernel⟩,
   ⟨{ stateWith [(V.planeHeld 0, 0), (V.planeHeld 1, 0), (V.planeHeld 2, 0), (V.planeHeld 3, 0)] with now := 4000000000000 }, (1 : Nat), (0 : Int), by decide +kernel⟩⟩

/-! Statements that are not clauses about one command: their hypotheses, met. -/

/-- `StepRunsTheCommandInFront` and `EmptyQueueIdles`. -/
theorem test_queues_met : (∃ (s : State) (c : Instr) (rest : List Instr), s.pending = c :: rest) ∧ (∃ s : State, s.pending = []) :=
  ⟨⟨{ State.reset with pending := [.stageApply, .ringPoll] }, .stageApply, [.ringPoll], rfl⟩, ⟨State.reset, rfl⟩⟩

/-- `CanonicalFormIsKept`, `NoCommandTouchesTheQueue`. -/
theorem test_next_met : (∃ s t : State, s.Wf ∧ step s = .next t) ∧ (∃ (c : Instr) (s t : State), exec c s = .next t) :=
  ⟨⟨State.reset, State.reset, by decide +kernel, rfl⟩, ⟨.stageApply, State.reset, _, rfl⟩⟩

/-- `TrayTimeNeverStepsBack`, clause by clause. -/
theorem test_tray_time_met : (∃ (c : Instr) (s t : State), exec c s = .next t ∧ coldResetPossible c = false) ∧
    (∃ (c : Instr) (s t : State), exec c s = .next t ∧ coldResetPossible c = true) ∧
    (∃ (c : Instr) (s t : State), exec c s = .next t ∧ coldResetPossible c = false ∧ (∀ ins, c ≠ .controlTick ins) ∧
      (∀ r v x, c ≠ .voltageLoopUpdate r v x) ∧ ∀ e p, c ≠ .switchingPeriod e p) ∧
    (∃ (ins : List Sample) (s : State), ins.all sampleOk = true ∧ s.rd (V.planeHeld 0) = 0) :=
  ⟨⟨.stageApply, State.reset, _, rfl, rfl⟩, ⟨.jtagInstruction 0xFF ⟨0, 0, false, []⟩, State.reset, _, rfl, rfl⟩,
   ⟨.stageApply, State.reset, _, rfl, rfl, by simp, by simp, by simp⟩,
   ⟨[⟨15, 0, 1, false⟩], State.reset, by decide +kernel, by decide +kernel⟩⟩

/-- `EveryCommandAnswers`, on both sides of the ratings, and `EveryQueueDrains`. -/
theorem test_ratings_met : inRatings (.controlTick [⟨15, 0, 1, false⟩]) = true ∧ inRatings (.controlTick [⟨15, 0, 2, false⟩]) = false ∧
    ∃ s : State, s.pending ≠ [] ∧ s.pending.all inRatings = true :=
  ⟨by decide +kernel, by decide +kernel, { State.reset with pending := [.stageApply, .controlTick []] }, by decide +kernel⟩

/-- Those of the judgement of standby in `Obligations.PowerAndClockCommandsTakeEffect`. -/
theorem test_standby_judge_met : (∃ s : State, s.rd V.sbAsk = 1 ∧ s.standbyCode = 0) ∧ (∃ s : State, s.rd V.sbAsk = 1 ∧ s.standbyCode ≠ 0) :=
  ⟨⟨stateWith [(V.sbAsk, 1)], by decide +kernel⟩, ⟨stateWith [(V.sbAsk, 1), (CRP_WAKEEN.en, 0)], by decide +kernel⟩⟩

/-! Single steps and operations against numbers that the spec states or that are worked out by hand from it. -/

/-- R42: a stamp one tick after a boundary waits for the next one. -/
theorem test_boundary : boundaryOf 8000 = 8000 ∧ boundaryOf 8001 = 12000 := by decide
/-- R11: 0x0A5, 0x08, 0x1, 0x1 in their places make 0x0A50_8110. -/
theorem test_glb_id : State.reset.read32 Req.host 0 = 0x0A508110 := by decide +kernel
/-- R73: one slot's 39 channels make 64 + 312 = 376 bytes, so 384; the ring holds 1,354,410 such frames. -/
theorem test_frame_size : (stateWith [(JRN_CAPSLOT.slots, 1), (JRN_CAPSLOT.tray, 0), (JRN_CAPSEL.vsen, 0), (JRN_CAPSEL.probes, 0)]).frameSize = 384 ∧
    (stateWith [(JRN_CAPSLOT.slots, 1), (JRN_CAPSLOT.tray, 0), (JRN_CAPSEL.vsen, 0), (JRN_CAPSEL.probes, 0)]).ringFrames = 1354410 := by decide +kernel
/-- R548: the key with exactly one of cold, mgmt and pred is an order; two of them, or another key, is not. -/
theorem test_reset_order : resetOrderValid 0x0F080001 = true ∧ resetOrderValid 0x0F080003 = false ∧ resetOrderValid 0x0F090001 = false := by decide
/-- R8: an event bit that the hardware sets in the cycle in which a write clears it ends set. -/
theorem test_event_not_lost : (match exec (.registerWrite 6 FAB_EVT.commit.addr 4 (2 ^ FAB_EVT.commit.lsb) (2 ^ FAB_EVT.commit.lsb)) (stateWith [(FAB_EVT.commit, 1)]) with
    | .next t => t.rd FAB_EVT.commit | _ => 2) = 1 := by decide +kernel
/-- R7: a write of 1 clears the bit where nothing sets it. -/
theorem test_event_cleared : (match exec (.registerWrite 6 FAB_EVT.commit.addr 4 (2 ^ FAB_EVT.commit.lsb) 0) (stateWith [(FAB_EVT.commit, 1), (FAB_EVT.snap, 1)]) with
    | .next t => (t.rd FAB_EVT.commit, t.rd FAB_EVT.snap) | _ => (2, 2)) = (0, 1) := by decide +kernel
/-- R7: an RW field takes the bits written. -/
theorem test_rw : (match exec (.registerWrite 6 JRN_CAPPRE.pre.addr 4 7 0) (stateWith []) with | .next t => t.rd JRN_CAPPRE.pre | _ => 0) = 7 := by decide +kernel
/-- R10, R588: a write of an RWT field while no transaction is open leaves it and raises DISCARDED_WRITE. -/
theorem test_rwt_outside : (match exec (.registerWrite 6 TIM_TXTIMEOUT.ticks.addr 4 7 0) (stateWith []) with
    | .next t => (t.rd TIM_TXTIMEOUT.ticks == TIM_TXTIMEOUT.ticks.reset) && (t.firn.tickTypes == [Ty.DISCARDED_WRITE]) | _ => false) = true := by decide +kernel
/-- R519: a counter written with 2^48 - 1 wraps on its first event and its PMC_OVF bit is set. -/
theorem test_counter_wraps : (match exec (.counterWrap 3 1 0x44) (stateWith [(PMC_CFG.en 3, 1), (PMC_CNT.count 3, 2 ^ 48 - 1)]) with
    | .next t => (t.rd (PMC_CNT.count 3), bit (t.rd PMC_OVF.ovf) 3) | _ => (1, false)) = (0, true) := by decide +kernel
/-- R135: 100 mV with a transition in 64 symbol times for 10 us is energy, 60 mV and more without is no end of it. -/
theorem test_energy : energyShown false 100 64 10000 = true ∧ energyShown false 100 65 10000 = false ∧ energyShown true 60 64 10000 = true ∧
    energyShown true 59 64 10000 = false := by decide
/-- R543, a write asks, and the boundary refuses it with code 5 while no wake source is enabled. -/
theorem test_standby_refused : ((stateWith [(V.sbAsk, 1), (CRP_WAKEEN.en, 0)]).does standbyJudge).rd CRP_SBSTAT.code = 5 := by decide +kernel

/-! Ill-formed operands: one term for each check of `Instr.wf`, which the check refuses. -/

theorem test_ill_formed_1 : ([.registerWrite 10 0 4 0 0, .registerWrite 0 2 4 0 0, .registerWrite 0 0 2 0 0, .upperWordLatch 10 ⟨0, 4⟩, .upperWordLatch 0 ⟨2, 4⟩, .upperWordLatch 0 ⟨0, 2⟩, .rcRead 10 0 0, .rcRead 0 2 0, .stgCancel 10 0, .txBegin 10 0, .txWrite 10 0 4 0, .txWrite 0 2 4 0, .txWrite 0 0 2 0, .txStampWrite 10 0, .txCommit 10 0, .txAbort 10 0, .time 5, .timeUp 5, .delay 5, .tlaneRttMeasure 5, .jrnMgmtPush 10, .drain 3 false, .jrnAckWrite 10 0 0, .jrnAckWrite 0 3 0, .captureArm 10, .captureTrigger false 10, .captureRelease 10, .switchingPeriod ⟨4, 0, 0⟩ ⟨[], []⟩, .voltageLoopUpdate 18 0 ⟨[], []⟩, .syncHoldover 4 0, .syncResume 4 0 ⟨0, 0⟩, .senseSwitch 18, .fastAdd 18, .phaseFault 320 1 0 0 0, .benchJoin 320 0, .benchJoin 0 18, .phaseSwap 320, .railEnable 16 0, .railEnable 0 128, .tileRailGood 18] : List Instr).all (fun i => !i.wf) = true := by decide
theorem test_ill_formed_2 : ([.softstartTrip 18, .railTrip 18, .dischargeEnd 18, .brakeAssert 18 ⟨0, 0⟩, .brakeClear 18 ⟨0, 0⟩, .enable 13, .energyCheck 13 ⟨0, 0, 0⟩, .trainingFrame 21 0 [], .trainTimeout 21, .frameTransmit 21, .upstreamFrame 21 0 0 [], .upstreamFrame 0 80 0 [], .messageResend 13, .cap 8, .hint 8, .step 8, .ageing 8, .freqAck 8, .tipoffAck 8, .timeSend 8, .rttMeasure 8, .rttNow 10 0, .rttNow 0 8, .retrain 10 0, .retrain 0 8, .plannedSwitch 13, .spareTrained 13, .laneSwitch 13, .linkLoss 13, .lossRetry 13, .lossTimeout 8, .escalationRelease 8, .capUnmet 9, .ageTrimPeriod 8, .ageReportTimeout 8, .accuracyWindow 8, .suspendHoldEnd 8, .imageLoad 10, .loadDiscard 10, .reportSend 8] : List Instr).all (fun i => !i.wf) = true := by decide
theorem test_ill_formed_3 : ([.report 5, .childDetach 8 0, .childDetach 0 5, .huddleDecide 8, .result 5, .resultApply 8, .resultLost 8, .trigger 5, .lockstep 5, .groupPowerUp 16, .pgChange 128, .railQualified 128, .railOnTimeout 128, .groupPowerDown 16, .railDisable 128, .railFallen 128, .railOffTimeout 128, .railGivenUp 128, .railFault 128, .retryReenable 128, .faultClear 10 0 ⟨0, 0⟩, .faultClear 0 4 ⟨0, 0⟩, .firstRearm 10 ⟨0, 0⟩, .inrushTrip 16, .channelOn 16, .channelLimit 16, .fastTrip 16 0 0, .reverseTrip 16 0 0, .tripProtectOrders 16, .tripClear 10 ⟨0, 0⟩, .damageDetect 16, .feedUsable 2, .feedUnusable 2, .diodeBroken 2, .tempInputFault 16, .mapLost 8, .thermalCeilingStep 8, .tlatchClear 10 ⟨0, 0⟩, .fanKickEnd 20, .fanStall 20] : List Instr).all (fun i => !i.wf) = true := by decide
theorem test_ill_formed_4 : ([.fanRetry 20, .flowPowerOff 8, .leakWet 8, .leakOpen 8, .leakmapClear 10 ⟨0, 0⟩, .presenceChange 8, .alertChange 8, .accResetRelease 8, .strapWrite 10 0 0, .strapWrite 0 8 0, .readId 10 0 0, .readId 0 8 0, .verify 10 0 0, .verify 0 8 0, .check 10 0 0, .check 0 8 0, .reflash 10 0 0 0, .reflash 0 8 0 0, .release 10 0, .release 0 8, .clear 10 0, .clear 0 8, .custodyOpDone 8 0 0 0 0 0, .custodyAuto 8, .bootTimeout 8, .coreRelease 10 0, .keylock 10 0, .grantQuery 5, .grantQuery 0, .stage 5, .stage 0, .activate 5, .activate 0, .confirm 5, .confirm 0, .abandon 5, .abandon 0, .structCommit 5, .structCommit 0, .attest 5] : List Instr).all (fun i => !i.wf) = true := by decide
theorem test_ill_formed_5 : ([.attest 0, .svnRaise 5, .svnRaise 0, .svnFuse 5, .svnFuse 0, .lcRequest 5 ⟨0, 0, false, []⟩, .lcRequest 0 ⟨0, 0, false, []⟩, .keyEnroll 5, .keyEnroll 0, .keyRevoke 5, .keyRevoke 0, .coreRetire 5, .coreRetire 0, .attPublic 5, .attPublic 0, .functionReset 5, .functionReset 0, .ringEnable 10 0 0, .ringEnable 0 64 0, .doorbell 10 0 0, .doorbell 0 64 0, .order 64, .buffer 64, .service 64, .ping 64, .ringResume 64, .interruptCoalesce 64, .svcpush 10 0, .b2segWrite 10 0 0, .b2segWrite 0 16 0, .dmaStart 10 0 0, .dmaStart 0 16 0, .dmaDone 16 0 0, .recoveryGo 10 0, .trayWindowRead 2 0, .trayWindowWrite 2 [], .trayWindowWrite 0 [256], .trayOrder [256] none false, .readInforce [256] false, .rcvAddr [256] none] : List Instr).all (fun i => !i.wf) = true := by decide
theorem test_ill_formed_6 : ([.rcvData [256] none, .rcvLen [256] none, .unknownCommand 256, .sclLowTimeout 16, .sdaStuck 16, .controllerTransfer 10 0 0 0, .controllerTransfer 0 16 0 0, .controllerTransfer 0 0 0 3, .transferDone 16 0 0 0 [], .transferDone 0 0 0 0 [256], .channelFail 48, .wipeDone 6 [], .counterWrap 64 0 0, .pmcCntWrite 10 0 0 0, .pmcCntWrite 0 64 0 0, .snap 10 0, .bwwinWrite 10 0, .testMuxSelect 10 0 0, .testMuxSelect 0 2 0, .unlock 10 0 none, .standbyEnter 10 0, .pllLockLost 8 ⟨0, 0, false, []⟩, .wdogKick 10 0, .xingAlarm 6 0, .xingReset 6 0 ⟨0, 0, false, []⟩, .deviceMemoryAccess 10 false 0 0 0 0, .grantFilteredRead 10 0 4, .grantFilteredRead 0 2 4, .grantFilteredRead 0 0 2, .idleCycleScrub 6, .pllLocked 8 0, .limitTrip 16, .unknownGateCall 5, .unknownGateCall 0, .unacceptedRequest 64] : List Instr).all (fun i => !i.wf) = true := by decide

/-- Well-formed operands at the ends of their ranges. -/
theorem test_well_formed : ([.registerWrite 9 0x10_0000 8 0 0, .grantQuery 4, .channelFail 47, .trainTimeout 20] : List Instr).all Instr.wf = true := by decide

end Sys2Proof.Tests
end

section
/-! SUPPORT. What a command can make of a state: every function of the model that goes from a state to a state works by the updates
of Ops.lean, save two that put a state together from parts of two (R289, R290). `Made s₀ s` says so once, and each function keeps it.
What an update keeps, every command then keeps: the queue of commands among it. -/

namespace Sys2Proof.Machine

/-- `s` comes from `s₀` by updates, by taking back the parts that a recorded pass leaves alone (`lawsOn`), and by writing fields
without counting their rise (`State.ownFields`). -/
inductive Made (s₀ : State) : State → Prop
  | here : Made s₀ s₀
  | update {s : State} (u : Upd) (h : Made s₀ s) : Made s₀ (s.apply u)
  | laws {s t : State} (h : Made s₀ s) (k : Made s₀ t) :
      Made s₀ { t with firn := s.firn, orders := s.orders, links := s.links, prd := s.prd, pmu := s.pmu, pending := s.pending }
  | own {s : State} (fs : List Fld) (v : Fld → Nat) (h : Made s₀ s) : Made s₀ { s with regs := fs.foldl (fun m f => regsWrite m f (v f)) s.regs }

/-- No command touches the queue: what is made of a state has its queue. -/
theorem Made.pending {s₀ s : State} (h : Made s₀ s) : s.pending = s₀.pending := by
  induction h with
  | here => rfl
  | update u _ ih => rw [apply_pending, ih]
  | laws _ _ ih _ => exact ih
  | own _ _ _ ih => exact ih

variable {s₀ s t : State}

/-! The forms that functions are composed in. -/

/-- A state that is used more than once is named. -/
theorem Made.bind (h : Made s₀ s) (hf : Made s₀ s → Made s₀ t) : Made s₀ t := hf h
theorem Made.ite {c : Prop} {_ : Decidable c} (h : Made s₀ s) (k : Made s₀ t) : Made s₀ (if c then s else t) := by split <;> assumption
theorem Made.iteFst {α : Type} {c : Prop} {_ : Decidable c} {p q : State × α} (h : Made s₀ p.1) (k : Made s₀ q.1) : Made s₀ (if c then p else q).1 := by
  split <;> assumption
theorem Made.foldl {α : Type} {f : State → α → State} {l : List α} (h : Made s₀ s) (hf : ∀ {t a}, Made s₀ t → Made s₀ (f t a)) : Made s₀ (l.foldl f s) := by
  induction l generalizing s with
  | nil => exact h
  | cons a l ih => exact ih (hf h)
theorem Made.run {us : List Upd} (h : Made s₀ s) : Made s₀ (s.run us) := Made.foldl h (·.update _)
theorem Made.does {fx : State → List Upd} (h : Made s₀ s) : Made s₀ (s.does fx) := h.run
theorem Made.doEach {α : Type} {l : List α} {fx : α → State → List Upd} (h : Made s₀ s) : Made s₀ (s.doEach l fx) := h.foldl (·.does)
theorem Made.numberFresh (h : Made s₀ s) : Made s₀ (numberFresh s) := h.run.foldl (·.does)
theorem Made.gathered {f : State → State} (h : Made s₀ s) (hf : ∀ {t}, Made s₀ t → Made s₀ (f t)) : Made s₀ (gathered f s) :=
  (hf h).ite (hf h.run).numberFresh
theorem Made.deciding {d : Bool} {f : State → State} (h : Made s₀ s) (hf : ∀ {t}, Made s₀ t → Made s₀ (f t)) : Made s₀ (deciding d f s) :=
  (hf h.run).run.ite (hf h)

/-! Machine/Orders.lean. -/

theorem Made.protectHold {x : Hold} (h : Made s₀ s) : Made s₀ (protectHold x s) := h.ite h.run.does
theorem Made.protectDrop {holder : Holder} {blk target scope : Nat} (h : Made s₀ s) : Made s₀ (protectDrop holder blk target scope s) :=
  (h.run.does.ite (h.run.ite h.run.does)).ite h
theorem Made.protectDropAll {holder : Holder} (h : Made s₀ s) : Made s₀ (protectDropAll holder s) := h.foldl (·.protectDrop)
theorem Made.protectSay {x : Hold} {gone : Bool} (h : Made s₀ s) : Made s₀ (protectSay x gone s) := h.run.does
theorem Made.protectHoldAll {hs : List Hold} (h : Made s₀ s) : Made s₀ (protectHoldAll hs s) := h.foldl (·.protectHold)
theorem Made.protectGroups {holder : Holder} {gs : List Nat} (h : Made s₀ s) : Made s₀ (protectGroups holder gs s) := h.protectHoldAll
theorem Made.protectOnly {holder : Holder} {hs : List Hold} (h : Made s₀ s) : Made s₀ (protectOnly holder hs s) :=
  h.gathered fun k => (k.foldl (·.protectDrop)).protectHoldAll
theorem Made.takeEffect {n : Order} (h : Made s₀ s) : Made s₀ (takeEffect n s) :=
  h.run.ite (h.run.bind fun t => t.run.ite (.ite (by split; exacts [t.does, t]) t))
theorem Made.installOne {d : Order} (h : Made s₀ s) : Made s₀ (installOne d s) := h.run.takeEffect.ite (h.run.ite h.does)
theorem Made.ordersTakeEffect (h : Made s₀ s) : Made s₀ (ordersTakeEffect s) := ((h.run.foldl (·.takeEffect)).foldl (·.installOne)).does

/-! Machine/Staging.lean. -/

theorem Made.stageTakesEffect (h : Made s₀ s) : Made s₀ (stageTakesEffect s) := h.gathered (·.run.run.run.doEach)

/-! Machine/Counters.lean. -/

theorem Made.pmcFlush (h : Made s₀ s) : Made s₀ (pmcFlush s) := h.run.foldl fun k => k.ite (k.run.ite k.does)
theorem Made.countersSeen {a : Nat} (h : Made s₀ s) : Made s₀ (countersSeen a s) := h.pmcFlush.ite h

/-! Machine/Store.lean. -/

theorem Made.moveItem {k sl : Nat} {i : Item} (h : Made s₀ s) : Made s₀ (moveItem k sl i s) := h.ite (h.does.run.bind fun t => t.does.ite t.does)

/-! Machine/Phase.lean. -/

theorem Made.phaseCeiling {r : Nat} (h : Made s₀ s) : Made s₀ (phaseCeiling r s) :=
  (h.run.protectHold.ite h.run).ite ((h.run.protectDrop.ite h.run).ite h)

theorem Made.benchWake {r failed t0 : Nat} (h : Made s₀ s) : Made s₀ (benchWake r failed t0 s) := by
  unfold Machine.benchWake
  split
  · exact h.run.does
  · exact h.run.phaseCeiling

theorem Made.failChannel {c cause imon rise expected : Nat} (h : Made s₀ s) : Made s₀ (failChannel c cause imon rise expected s) :=
  h.run.does.does.bind fun u => (u.run.benchWake.ite u.run).phaseCeiling.bind fun y => y.does.ite y
theorem Made.softStart {r : Nat} (h : Made s₀ s) : Made s₀ (softStart r s) := h.run.does
theorem Made.surveyRespond {c : Nat} (h : Made s₀ s) : Made s₀ (surveyRespond c s) := h.failChannel.ite (h.run.ite h)
theorem Made.benchPolicy {r : Nat} {rel : Bool} (h : Made s₀ s) : Made s₀ (benchPolicy r rel s) :=
  (h.run.ite h.run.run.does.phaseCeiling).ite (h.ite h.run.does.run.phaseCeiling)
theorem Made.periodBoundary {r : Nat} (h : Made s₀ s) : Made s₀ (periodBoundary r s) := h.benchPolicy.bind fun s => s.ite (s.run.ite s.run.does)

/-! Machine/Swija.lean. -/

theorem Made.enterRun {n i cause : Nat} (h : Made s₀ s) : Made s₀ (enterRun n i cause s) := h.run.does.run.does
theorem Made.holdDown {n cause : Nat} (h : Made s₀ s) : Made s₀ (holdDown n cause s) := h.run.does
theorem Made.finishCaps {n : Nat} (h : Made s₀ s) : Made s₀ (finishCaps n s) :=
  (h.run.holdDown.ite h.run.run.does).ite (h.run.holdDown.ite h.run.enterRun)
theorem Made.beginCaps {n : Nat} {again : Bool} (h : Made s₀ s) : Made s₀ (beginCaps n again s) := h.run.does
theorem Made.capsRepeated {n : Nat} (h : Made s₀ s) : Made s₀ (capsRepeated n s) := h.run.holdDown.ite h.run
theorem Made.capsCheck {n : Nat} (h : Made s₀ s) : Made s₀ (capsCheck n s) := h.ite (h.finishCaps.ite (h.capsRepeated.ite h))
theorem Made.alignDone {n i : Nat} (h : Made s₀ s) : Made s₀ (alignDone n i s) :=
  (h.run.does.beginCaps.ite h.run.enterRun).ite ((h.run.run.does.beginCaps.ite (h.run.run.enterRun.bind fun v => v.run.ite v)).ite h.run)

theorem Made.trainFail {i : Nat} (h : Made s₀ s) : Made s₀ (trainFail i s) := by
  unfold Machine.trainFail
  extract_lets
  split
  · exact h.does.run
  · exact h.run.bind fun u => u.does.ite (u.run.does.ite (u.run.ite (u.does.ite u)))

theorem Made.trained {i : Nat} (h : Made s₀ s) : Made s₀ (trained i s) := (h.run.run.does.ite h.run).ite h

theorem Made.trainingFrame {i pos : Nat} {levels : List Int} (h : Made s₀ s) : Made s₀ (trainingFrame i pos levels s) := by
  unfold Machine.trainingFrame
  exact h.run.trainFail.ite h.run.trained

theorem Made.sendTraining {i : Nat} (h : Made s₀ s) : Made s₀ (sendTraining i s) := by
  unfold Machine.sendTraining
  extract_lets
  split
  exact h.run.trained

theorem Made.peerSwitch {n : Nat} (h : Made s₀ s) : Made s₀ (peerSwitch n s) := by
  unfold Machine.peerSwitch
  split
  · exact h
  · exact h.run.does.does.ite (h.run.ite h.run)

theorem Made.upstreamFrame {i fidx arrive : Nat} {levels : List Int} (h : Made s₀ s) : Made s₀ (upstreamFrame i fidx arrive levels s) := by
  unfold Machine.upstreamFrame
  extract_lets
  split
  · exact h.does
  · exact (h.run.does.ite h.run).bind fun s2 => s2.does.ite (s2.run.bind fun s3 =>
      ((s3.does.ite s3.does.peerSwitch).ite s3).bind fun s4 => s4.alignDone.ite (s4.capsCheck.ite s4))

theorem Made.linkEnable {n : Nat} (h : Made s₀ s) : Made s₀ (linkEnable n s) := h.run.run.does.does.does
theorem Made.linkOff {n cause : Nat} (h : Made s₀ s) : Made s₀ (linkOff n cause s) := h.does.run.protectDropAll
theorem Made.linkOffCheck {n : Nat} (h : Made s₀ s) : Made s₀ (linkOffCheck n s) := h.ite (h.linkOff.ite (h.linkOff.ite h))
theorem Made.linkLost {n : Nat} (h : Made s₀ s) : Made s₀ (linkLost n s) := h.run.run.run.does.bind fun u => u.does.ite u
theorem Made.rttRun {n : Nat} (h : Made s₀ s) : Made s₀ (rttRun n s) := h.does.holdDown.ite h.does
theorem Made.rttNow {n : Nat} (h : Made s₀ s) : Made s₀ (rttNow n s) := h.ite (h.rttRun.ite h.run)

/-! Machine/Custody.lean. -/

theorem Made.gateTick {n : Nat} (h : Made s₀ s) : Made s₀ (gateTick n s) := (h.does.ite h).bind fun t => (t.run.ite t).bind fun u => u.does.ite u
theorem Made.acuTick (h : Made s₀ s) : Made s₀ (acuTick s) := h.foldl (·.gateTick.does.does)
theorem Made.custodyStart {n op keep skip core : Nat} (h : Made s₀ s) : Made s₀ (custodyStart n op keep skip core s) :=
  h.does.ite (h.does.run.does.ite (h.does.does.ite h.does))

theorem Made.reflashWhole {n unit : Nat} (h : Made s₀ s) : Made s₀ (reflashWhole n unit s) := by
  unfold Machine.reflashWhole
  split
  · exact h
  · exact h.does.doEach.run

theorem Made.reflashPart {n : Nat} (h : Made s₀ s) : Made s₀ (reflashPart n s) := by
  unfold Machine.reflashPart
  extract_lets
  split
  · exact h.does
  · exact h.does.does.doEach

theorem Made.flashesStop (h : Made s₀ s) : Made s₀ (flashesStop s) := h.foldl fun k => k.reflashPart.ite k
theorem Made.retireDeferred (h : Made s₀ s) : Made s₀ (retireDeferred s) := h.ite (h.ite h.run.moveItem)
theorem Made.custodyStop {n : Nat} {free : Bool} (h : Made s₀ s) : Made s₀ (custodyStop n free s) :=
  ((h.reflashPart.ite h).run.does.retireDeferred.ite h).bind fun t => t.does.ite t
theorem Made.custodyGroupDown {n cause : Nat} (h : Made s₀ s) : Made s₀ (custodyGroupDown n cause s) := h.does.custodyStop.run.ite h
theorem Made.reflashEffect {n unit kib err : Nat} (h : Made s₀ s) : Made s₀ (reflashEffect n unit kib err s) :=
  h.ite (h.reflashWhole.ite h.run.reflashPart)

theorem Made.custodyDone {n id kib unit err bytes : Nat} (h : Made s₀ s) : Made s₀ (custodyDone n id kib unit err bytes s) :=
  h.reflashEffect.does.does.run.does.retireDeferred.bind fun t2 => .ite (t2.ite t2.does) (by
    split
    · exact t2.run.does.ite t2.does.run.does
    · exact t2.run.run.does)

theorem Made.custodyAuto {n : Nat} (h : Made s₀ s) : Made s₀ (custodyAuto n s) := h.run.run.does.ite h.run.does
theorem Made.bootTimeout {n : Nat} (h : Made s₀ s) : Made s₀ (bootTimeout n s) := h.run.run.does.bind fun t => t.ite (t.run.ite t.run)
theorem Made.custodyMgmtReset (h : Made s₀ s) : Made s₀ (custodyMgmtReset s) := h.foldl (·.custodyStop.run.run)

/-! Machine/Feeds.lean. -/

theorem Made.tripOrders {c : Nat} (h : Made s₀ s) : Made s₀ (tripOrders c s) := by
  unfold Machine.tripOrders
  extract_lets
  split
  · exact h.run.protectHold.ite h.run
  · exact h.run

theorem Made.fedUnlatch {c : Nat} (h : Made s₀ s) : Made s₀ (fedUnlatch c s) :=
  .ite (by split; exacts [h.run.does.protectDrop, h.run.does]) h
theorem Made.noFeed (h : Made s₀ s) : Made s₀ (noFeed s) := h.run.run.doEach.run.protectHoldAll.ite h.run.doEach
theorem Made.becomeUsable {f : Nat} (h : Made s₀ s) : Made s₀ (becomeUsable f s) :=
  ((h.does.run.gathered fun k => k.foldl (·.protectDrop)).ite h.does).bind fun u => (u.does.ite u).does.ite u
theorem Made.becomeUnusable {f t0 : Nat} {byOrder : Bool} (h : Made s₀ s) : Made s₀ (becomeUnusable f t0 byOrder s) :=
  h.run.noFeed.ite (h.run.ite (h.run.run.ite (h.run.run.ite h.run.does)))
theorem Made.fedDamage {c code : Nat} (h : Made s₀ s) : Made s₀ (fedDamage c code s) :=
  h.gathered fun k => (k.run.protectHold.ite k.run).bind fun u => u.run.doEach.run.noFeed.ite u
theorem Made.fedDamageClear {c : Nat} (h : Made s₀ s) : Made s₀ (fedDamageClear c s) := h.gathered fun k => (k.run.protectDrop.ite k.run).ite k
theorem Made.followEnable {c : Nat} (h : Made s₀ s) : Made s₀ (followEnable c s) := h.run.does.bind fun u => u.does.ite (u.does.ite u)
theorem Made.feedsFollow (h : Made s₀ s) : Made s₀ (feedsFollow s) := h.foldl (·.followEnable)
theorem Made.fedSample {c : Nat} (h : Made s₀ s) : Made s₀ (fedSample c s) := h.does.does
theorem Made.fedFill {c : Nat} (h : Made s₀ s) : Made s₀ (fedFill c s) := h.foldl (·.fedSample)
theorem Made.fedMeasure (h : Made s₀ s) : Made s₀ (fedMeasure s) := (h.foldl (·.fedFill)).doEach.does
theorem Made.judgeOld (h : Made s₀ s) : Made s₀ (judgeOld s) := (h.fedDamage.ite h).run.ite h
theorem Made.fedTick (h : Made s₀ s) : Made s₀ (fedTick s) := h.feedsFollow.doEach.does.judgeOld

/-! Machine/ExecFeeds.lean. -/

theorem Made.comparatorTrip {c cause t : Nat} (h : Made s₀ s) : Made s₀ (comparatorTrip c cause t s) := h.run.ite (h.ite h.does)
theorem Made.newFeed (h : Made s₀ s) : Made s₀ (newFeed s) := h.judgeOld.bind fun t => t.ite (t.run.does.ite (t.run.does.ite t.noFeed))

/-! Machine/Caps.lean. -/

theorem Made.capLaws (h : Made s₀ s) : Made s₀ (capLaws s) :=
  h.doEach.does.bind fun s1 => s1.doEach.ite s1.doEach.doEach.doEach.does.does.doEach.doEach.doEach
theorem Made.combineAll {b : Nat} (h : Made s₀ s) : Made s₀ (combineAll b s) := h.ite h.doEach.run
theorem Made.escalate {n : Nat} (h : Made s₀ s) : Made s₀ (escalate n s) := h.run.run.protectHold.ite h.run
theorem Made.capLoop (h : Made s₀ s) : Made s₀ (capLoop s) := ((h.run.doEach.ite h.run.run).doEach.foldl (·.escalate)).doEach
theorem Made.escalationRelease {n : Nat} (h : Made s₀ s) : Made s₀ (escalationRelease n s) := h.run.protectDropAll

/-! Machine/Predictor.lean. -/

theorem Made.stepDelivered {n c : Nat} (h : Made s₀ s) : Made s₀ (stepDelivered n c s) := h.does.does
theorem Made.prdTick {b : Nat} {u : State} {n : Nat} (h : Made s₀ s) : Made s₀ (prdTick b u n s) :=
  h.does.does.bind fun s1 => (s1.does.does.bind fun s2 => (s2.ite s2.does).does.doEach.does).ite s1.run
theorem Made.prdAll {b : Nat} {u : State} (h : Made s₀ s) : Made s₀ (prdAll b u s) := h.ite (h.doEach.foldl (·.prdTick)).does

/-! Machine/Fabric.lean. -/

theorem Made.orderOut {b : Binding} {v : Int} {at' : Nat} (h : Made s₀ s) : Made s₀ (orderOut b v at' s) := h.does.ite h.protectSay
theorem Made.driveOut {r : PassRun} {at' : Nat} {b : Binding} (h : Made s₀ s) : Made s₀ (driveOut r at' b s) :=
  h.run.ite (h.run.ite ((h.ite h.orderOut).ite ((h.run.ite h.run).ite (h.run.ite h))))
theorem Made.publishPass {x : PassCtx} {isig : Nat} {r : PassRun} (h : Made s₀ s) : Made s₀ (publishPass x isig r s) := h.does.does.run.does
theorem Made.driveAll {x : PassCtx} {r : PassRun} (h : Made s₀ s) : Made s₀ (driveAll x r s) := (h.run.run.foldl (·.driveOut)).run
theorem Made.fabricPass {b : Nat} (h : Made s₀ s) : Made s₀ (fabricPass b s) := h.ite h.publishPass.driveAll

/-! Machine/Loader.lean. -/

theorem Made.loadBytes {bytes : List Nat} {len : Nat} {ue : Bool} (h : Made s₀ s) : Made s₀ (loadBytes bytes len ue s) := h.run
theorem Made.loadStart {addr len : Nat} (h : Made s₀ s) : Made s₀ (loadStart addr len s) := h.does.ite h.run.loadBytes

theorem Made.loadEnd (h : Made s₀ s) : Made s₀ (loadEnd s) := by
  unfold Machine.loadEnd
  extract_lets bad
  rcases bad with _ | _
  all_goals exact h.run.does

/-! Machine/Boot.lean. -/

theorem Made.rejectTrial {k sl : Nat} (h : Made s₀ s) : Made s₀ (rejectTrial k sl s) := h.run.ite h.moveItem.run
theorem Made.suspectsToo {k : Nat} {chk : State → Nat → Nat} {rest : List Nat} (h : Made s₀ s) : Made s₀ (suspectsToo k chk rest s) :=
  (h.foldl fun k => k.ite k.does).ite h

theorem Made.trySlots {k : Nat} {chk : State → Nat → Nat} {l : List Nat} (h : Made s₀ s) : Made s₀ (trySlots k chk l s).1 := by
  induction l generalizing s with
  | nil => exact h
  | cons sl l ih =>
    unfold Machine.trySlots
    extract_lets trial t c
    have ht : Made s₀ t := h.run.ite h
    split
    · exact ih h.rejectTrial
    · split
      · dsimp only
        exact ht.suspectsToo
      · exact ih ht.does

theorem Made.of_trySlots {k : Nat} {chk : State → Nat → Nat} {l : List Nat} {o : Option Nat} (h : Made s₀ s) (e : Machine.trySlots k chk l s = (t, o)) : Made s₀ t := by
  simpa only [e] using h.trySlots (k := k) (chk := chk) (l := l)

theorem Made.resolveSuspect {k : Nat} {sl : Option Nat} (h : Made s₀ s) : Made s₀ (resolveSuspect k sl s) := by
  unfold Machine.resolveSuspect
  split
  · exact h.moveItem.ite h
  · exact h

theorem Made.nextKeeper (h : Made s₀ s) : Made s₀ (nextKeeper s) := by
  unfold Machine.nextKeeper
  extract_lets
  split
  next t sel e =>
    have ht := h.of_trySlots e
    cases sel
    · exact ht.does.does.does
    · exact ht.run.does

theorem Made.romStart {bad : Nat} (h : Made s₀ s) : Made s₀ (romStart bad s) := by
  unfold Machine.romStart
  extract_lets
  split
  · exact h.run.does
  · exact h.run.run.bind fun u => (u.does.ite u).does.bind fun w => w.does.ite w.doEach.run.does.nextKeeper

theorem Made.checkWritten {k sl : Nat} (h : Made s₀ s) : Made s₀ (checkWritten k sl s) := by
  unfold Machine.checkWritten
  exact h.moveItem.ite h

theorem Made.selectService (h : Made s₀ s) : Made s₀ (selectService s) := by
  unfold Machine.selectService
  split
  next t sel e =>
    have hu := (h.of_trySlots e).does (fx := recordSelect 1 sel) |>.resolveSuspect (k := 1) (sl := sel)
    cases sel
    · exact hu.run.does
    · exact hu.does

theorem Made.selectStructure (h : Made s₀ s) : Made s₀ (selectStructure s) := by
  unfold Machine.selectStructure
  refine h.ite ?_
  split
  next t sel e => exact (h.of_trySlots e).does.resolveSuspect.run

theorem Made.keeperRuns (h : Made s₀ s) : Made s₀ (keeperRuns s) := by
  unfold Machine.keeperRuns
  exact (((h.does.resolveSuspect.ite h).does.foldl (·.checkWritten.checkWritten)).foldl (·.checkWritten)).selectService.selectStructure

theorem Made.keeperRejected {code : Nat} (h : Made s₀ s) : Made s₀ (keeperRejected code s) := by
  unfold Machine.keeperRejected
  exact h.run.does.nextKeeper

theorem Made.goldenChecks {bad : List Nat} (h : Made s₀ s) : Made s₀ (goldenChecks bad s) := (h.foldl fun k => (k.run.ite k.run).ite k).run.doEach
theorem Made.releaseCores {value : Nat} (h : Made s₀ s) : Made s₀ (releaseCores value s) := h.doEach.bind fun t => t.does.ite t
theorem Made.setLocks {value : Nat} (h : Made s₀ s) : Made s₀ (setLocks value s) := h.run.run

/-! Machine/Gate.lean. -/

theorem Made.stageAnswer {status code x : Nat} {r : StageReq} (h : Made s₀ s) : Made s₀ (stageAnswer status code x r s).1 := h

theorem Made.imgStage {n : Nat} (h : Made s₀ s) : Made s₀ (imgStage n s).1 := by
  unfold Machine.imgStage
  refine .iteFst h (.iteFst h ?_)
  split
  · exact h
  · refine .iteFst h (.iteFst h.run ?_)
    split
    · exact h
    · extract_lets t _ u
      have ht : Made s₀ t := h.run
      have hu : Made s₀ u := ht.ite ht.moveItem
      exact hu.stageAnswer

theorem Made.stageDone {bad : List Nat} (h : Made s₀ s) : Made s₀ (stageDone bad s) :=
  h.run.bind fun t => t.does.ite (t.does.bind fun u => u.does.ite u.moveItem.moveItem.does)

theorem Made.imgActivate {n : Nat} (h : Made s₀ s) : Made s₀ (imgActivate n s).1 := by
  unfold Machine.imgActivate
  refine .iteFst h (.iteFst h ?_)
  split
  · exact h
  · exact .iteFst h (.iteFst h h.run.moveItem)

theorem Made.imgConfirm {n : Nat} (h : Made s₀ s) : Made s₀ (imgConfirm n s).1 := by
  unfold Machine.imgConfirm
  refine .iteFst h (.iteFst h ?_)
  split
  · exact h
  · exact .iteFst h (.iteFst h (h.run.bind fun t => .iteFst t (.iteFst t.run t.moveItem)))

theorem Made.imgAbandon {n : Nat} (h : Made s₀ s) : Made s₀ (imgAbandon n s).1 := by
  unfold Machine.imgAbandon
  refine .iteFst h (.iteFst h ?_)
  split
  · exact h
  · exact .iteFst h h.run.moveItem

theorem Made.compact (h : Made s₀ s) : Made s₀ (compact s) := h.run.doEach.run
theorem Made.attest {n : Nat} (h : Made s₀ s) : Made s₀ (attest n s).1 :=
  .iteFst h (.iteFst h (.iteFst h (.iteFst h (h.does.ite h).run)))
theorem Made.svnRaise {n : Nat} (h : Made s₀ s) : Made s₀ (svnRaise n s).1 := .iteFst h (.iteFst h (.iteFst h h.does.run))
theorem Made.svnFuse {n : Nat} (h : Made s₀ s) : Made s₀ (svnFuse n s).1 := .iteFst h (.iteFst h (.iteFst h h.run))
theorem Made.keyEnroll {n : Nat} (h : Made s₀ s) : Made s₀ (keyEnroll n s).1 := .iteFst h (.iteFst h (.iteFst h h.does.run))
theorem Made.keyRevoke {n : Nat} (h : Made s₀ s) : Made s₀ (keyRevoke n s).1 :=
  .iteFst h (.iteFst h (.iteFst h (.iteFst h h.does.run.does)))
theorem Made.coreRetire {n : Nat} (h : Made s₀ s) : Made s₀ (coreRetire n s).1 := .iteFst h (.iteFst h h.run)
theorem Made.attPublic {n : Nat} (h : Made s₀ s) : Made s₀ (attPublic n s).1 := .iteFst h h.run
theorem Made.lcProgram {target : Nat} (h : Made s₀ s) : Made s₀ (lcProgram target s) := h.does.run

theorem Made.structStart {n : Nat} (h : Made s₀ s) : Made s₀ (structStart n s).1 := by
  unfold Machine.structStart
  refine .iteFst h (.iteFst h ?_)
  extract_lets t
  have ht : Made s₀ t := h.run.loadStart.loadEnd
  split
  · dsimp only
    exact ht
  · exact ht.does.run

theorem Made.structCold (h : Made s₀ s) : Made s₀ (structCold s) := h.ite (h.run.loadBytes.loadEnd.bind fun t => t.does.ite t)
theorem Made.structReply (h : Made s₀ s) : Made s₀ (structReply s) := h.ite h.run.does

/-! Machine/HostIf.lean. -/

theorem Made.ringControl {p value : Nat} (h : Made s₀ s) : Made s₀ (ringControl p value s) := (h.run.ite h.run.does).ite h.run.does
theorem Made.releaseHost (h : Made s₀ s) : Made s₀ (releaseHost s) := (h.foldl (·.does.run)).run
theorem Made.recoveryAccept (h : Made s₀ s) : Made s₀ (recoveryAccept s) := h.run.does.run.keeperRuns.ite h.run.does
theorem Made.recoveryDone (h : Made s₀ s) : Made s₀ (recoveryDone s) := h.run.recoveryAccept.ite h.run.run

/-! Machine/TwoWire.lean. -/

theorem Made.controllerStart {req n value recov : Nat} (h : Made s₀ s) : Made s₀ (controllerStart req n value recov s) :=
  h.run.ite (h.run.ite (h.run.ite (h.run.run.ite ((h.run.run.run.ite (h.run.run.run.does.ite h.run.run.run.does)).ite h.run.run))))
theorem Made.transferDone {n out sent lost : Nat} {rx : List Nat} (h : Made s₀ s) : Made s₀ (transferDone n out sent lost rx s) :=
  h.run.does.ite h.run

/-! Machine/Memory.lean. -/

theorem Made.checkRead {a n : Nat} (h : Made s₀ s) : Made s₀ (checkRead a n s) := by
  unfold Machine.checkRead
  extract_lets t
  have ht : Made s₀ t := h.doEach
  split
  · split
    · exact ht.does
    · exact ht
  · exact ht.doEach

theorem Made.patrol {r : Nat} (h : Made s₀ s) : Made s₀ (patrol r s) := h.checkRead.run
theorem Made.scrubPass {r : Nat} (h : Made s₀ s) : Made s₀ (scrubPass r s) := h.checkRead.run
theorem Made.lpPatrol {n : Nat} (h : Made s₀ s) : Made s₀ (lpPatrol n s) := h.checkRead.does.run
theorem Made.wipeEnd {r : Nat} {rows : List Nat} (h : Made s₀ s) : Made s₀ (wipeEnd r rows s) := h.run.foldl fun k => k.ite (k.does.does.ite k.does)

/-! Machine/Drain.lean. -/

theorem Made.drainClass {c : Nat} {fail : Bool} (h : Made s₀ s) : Made s₀ (drainClass c fail s) :=
  h.run.ite (h.ite (by
    split
    · exact h.ite h.run
    · exact h.run.run.ite h.doEach))

theorem Made.dmaStart {req e value : Nat} (h : Made s₀ s) : Made s₀ (dmaStart req e value s) :=
  h.run.ite (h.run.run.run.ite (h.run.run.run.ite h.run.run.run))
theorem Made.dmaDone {e err n : Nat} (h : Made s₀ s) : Made s₀ (dmaDone e err n s) := h.run.run.ite (h.checkRead.ite h).run.run
theorem Made.dmaBreak {e err : Nat} (h : Made s₀ s) : Made s₀ (dmaBreak e err s) := h.dmaDone.ite h
theorem Made.stopEngines {first : Nat} (h : Made s₀ s) : Made s₀ (stopEngines first s) := h.foldl (·.dmaBreak)
theorem Made.functionReset {cause : Nat} (h : Made s₀ s) : Made s₀ (functionReset cause s) := h.doEach.stopEngines.run.run

/-! Machine/ExecFirn.lean. -/

theorem Made.moveRecord (h : Made s₀ s) : Made s₀ (moveRecord s) := by
  unfold Machine.moveRecord
  split
  · exact h
  · exact h.run.bind fun t => t.ite (t.run.does.ite t.does)

/-! Machine/ExecMemory.lean. -/

theorem Made.bar2Mapped {isWrite : Bool} {a n data : Nat} (h : Made s₀ s) : Made s₀ (bar2Mapped isWrite a n data s) := h.run.ite h.checkRead.run

/-! Machine/ExecPhase.lean. -/

theorem Made.surveyPulse {t : Nat} {x : Nat × Nat} (h : Made s₀ s) : Made s₀ (surveyPulse t x s) :=
  h.ite (h.run.surveyRespond.ite (h.run.ite h.run))
theorem Made.rotateAll (h : Made s₀ s) : Made s₀ (rotateAll s) := h.run.foldl fun k => k.run.does.ite k.run
theorem Made.benchJoin {c : Nat} (h : Made s₀ s) : Made s₀ (benchJoin c s) := h.run.does.does.phaseCeiling

/-! Machine/Seq.lean. -/

theorem Made.enableRail {r : Nat} (h : Made s₀ s) : Made s₀ (enableRail r s) := by
  unfold Machine.enableRail
  extract_lets t u
  have hu : Made s₀ u := by
    unfold u
    split
    · exact h.run.softStart
    · exact h.run
  exact hu.does.feedsFollow

theorem Made.groupDown {g cause : Nat} (h : Made s₀ s) : Made s₀ (groupDown g cause s) := h.custodyGroupDown.run.does.doEach.does
theorem Made.stopGroup {g cause : Nat} (h : Made s₀ s) : Made s₀ (stopGroup g cause s) := h.groupDown.ite h
theorem Made.faultShutdown {r cause : Nat} (h : Made s₀ s) : Made s₀ (faultShutdown r cause s) :=
  h.gathered fun k => k.deciding fun k => k.does.does.run.stopGroup.protectGroups.does.bind fun w => w.run.protectGroups.ite w
theorem Made.railFaults {r cause : Nat} {ups : Bool} (h : Made s₀ s) : Made s₀ (railFaults r cause ups s) :=
  h.does.run.ite (h.does.does.ite h.does.faultShutdown)
theorem Made.railGoodNow {r : Nat} (h : Made s₀ s) : Made s₀ (railGoodNow r s) := h.run.does
theorem Made.groupStart {g : Nat} (h : Made s₀ s) : Made s₀ (groupStart g s) := h.run.does.does
theorem Made.beginShutdown {kind : Nat} (h : Made s₀ s) : Made s₀ (beginShutdown kind s) :=
  h.gathered fun k => k.ite ((k.run.foldl (·.does.custodyStop)).foldl fun k => (k.run.ite k).run.bind fun w1 =>
    w1.does.ite w1.stopGroup).run.protectGroups
theorem Made.shutdownTick (h : Made s₀ s) : Made s₀ (shutdownTick s) := h.ite (by split; exacts [h.does.run, h])
theorem Made.seqTick (h : Made s₀ s) : Made s₀ (seqTick s) := h.does.does.doEach.doEach.doEach.doEach.shutdownTick.does.does

theorem Made.unlatch {r : Nat} (h : Made s₀ s) : Made s₀ (unlatch r s) := by
  unfold Machine.unlatch
  split
  · exact h.does.fedUnlatch
  · exact h.does

theorem Made.latchGone {g cause : Nat} (h : Made s₀ s) : Made s₀ (latchGone g cause s) := h.ite (h.does.ite h).protectDrop
theorem Made.systemEnd (h : Made s₀ s) : Made s₀ (systemEnd s) := h.run.protectDropAll
theorem Made.systemRestart (h : Made s₀ s) : Made s₀ (systemRestart s) := h.gathered (·.unlatch.latchGone.systemEnd.run.doEach)

/-! Machine/Thermal.lean. -/

theorem Made.holdFloors {x : Holder} {zs : List Nat} {v : Nat} {pumps : Bool} (h : Made s₀ s) : Made s₀ (holdFloors x zs v pumps s) :=
  h.protectHoldAll
theorem Made.devTo {l d cause : Nat} (h : Made s₀ s) : Made s₀ (devTo l d cause s) := h.run.protectOnly
theorem Made.diodeBroke {d : Nat} (h : Made s₀ s) : Made s₀ (diodeBroke d s) := h.run.ite (h.run.run.devTo.ite h.run.run).run
theorem Made.brokenTick (h : Made s₀ s) : Made s₀ (brokenTick s) := (h.run.devTo.ite h.run).run.ite h
theorem Made.thermalShutdown (h : Made s₀ s) : Made s₀ (thermalShutdown s) := h.run.ite h.run.beginShutdown
theorem Made.critical {i : Nat} (h : Made s₀ s) : Made s₀ (critical i s) := h.run.protectHoldAll
theorem Made.sourceTick {i : Nat} (h : Made s₀ s) : Made s₀ (sourceTick i s) :=
  (h.ite h.run).bind fun t => (t.protectHoldAll.ite t).ite (t.critical.ite t.run)
theorem Made.setCeil {n c : Nat} (h : Made s₀ s) : Made s₀ (setCeil n c s) := h.run.protectDrop.ite h.run.protectHold
theorem Made.ceilingTick {n : Nat} (h : Made s₀ s) : Made s₀ (ceilingTick n s) := (h.run.setCeil.ite h.run).bind fun s2 => s2.setCeil.ite s2
theorem Made.mapHolds {n : Nat} (h : Made s₀ s) : Made s₀ (mapHolds n s) := h.protectOnly
theorem Made.mapLose {n : Nat} (h : Made s₀ s) : Made s₀ (mapLose n s) := h.gathered (·.run.mapHolds.ceilingTick)

theorem Made.mapTick {n : Nat} (h : Made s₀ s) : Made s₀ (mapTick n s) := by
  unfold Machine.mapTick
  split
  · exact (h.run.run.ite h.run).mapHolds
  · exact h.run.mapHolds

theorem Made.fanStalls {f a : Nat} (h : Made s₀ s) : Made s₀ (fanStalls f a s) := h.run.holdFloors
theorem Made.zoneTick {z : Nat} (h : Made s₀ s) : Made s₀ (zoneTick z s) := h.run.holdFloors.ite (h.run.protectDropAll.ite h.run)
theorem Made.flowJudge {a : Nat} (h : Made s₀ s) : Made s₀ (flowJudge a s) :=
  h.doEach.bind fun t => t.run.holdFloors.ite (t.run.run.protectDropAll.ite t.run)
theorem Made.flowWindow (h : Made s₀ s) : Made s₀ (flowWindow s) := h.gathered fun k => k.run.foldl (·.flowJudge)
theorem Made.flowPowerOff {a : Nat} (h : Made s₀ s) : Made s₀ (flowPowerOff a s) := h.run.protectGroups
theorem Made.leakHold {i : Nat} (h : Made s₀ s) : Made s₀ (leakHold i s) := h.protectHoldAll.ite h
theorem Made.leakLatch {i : Nat} {wet : Bool} (h : Made s₀ s) : Made s₀ (leakLatch i wet s) := h.run.protectHoldAll
theorem Made.thmTick (h : Made s₀ s) : Made s₀ (thmTick s) :=
  (h.doEach.ite h).brokenTick.protectOnly.bind fun td =>
    (((((td.doEach.ite td).foldl (·.mapTick)).foldl (·.sourceTick)).foldl (·.ceilingTick)).doEach.doEach.foldl (·.leakHold)).bind fun t5 =>
    (t5.doEach.doEach.ite t5).foldl (·.zoneTick)

/-! Machine/Reset.lean. -/

theorem Made.coldReset {cause bad strap : Nat} {lpHeld : Bool} {supplies : List Nat} (h : Made s₀ s) : Made s₀ (coldReset cause bad strap lpHeld supplies s) :=
  h.flashesStop.does.run.does.romStart
theorem Made.holdPlanes (h : Made s₀ s) : Made s₀ (holdPlanes s) := h.flashesStop.does.run
theorem Made.islandReset (h : Made s₀ s) : Made s₀ (islandReset s) := h.run
theorem Made.mgmtRelease (h : Made s₀ s) : Made s₀ (mgmtRelease s) := h.run.romStart
theorem Made.releasePlanes (h : Made s₀ s) : Made s₀ (releasePlanes s) := (h.run.ite h).bind fun t => t.mgmtRelease.ite t
theorem Made.mgmtReset {cause bad : Nat} (h : Made s₀ s) : Made s₀ (mgmtReset cause bad s) :=
  ((h.does.ite h).custodyMgmtReset.stopEngines.run.foldl (·.does)).does.run.does
theorem Made.cancelPrd (h : Made s₀ s) : Made s₀ (cancelPrd s) := (h.foldl (·.does)).run
theorem Made.predReset (h : Made s₀ s) : Made s₀ (predReset s) := h.cancelPrd.run.doEach.does.does
theorem Made.standbyHold (h : Made s₀ s) : Made s₀ (standbyHold s) := h.holdPlanes.run
theorem Made.powerFail {ext : Bool} {aux12 : Nat} {ledger : Bool} (h : Made s₀ s) : Made s₀ (powerFail ext aux12 ledger s) :=
  h.run.ite (h.run.does.ite h.run).beginShutdown.run

/-! Machine/Tap.lean. -/

theorem Made.muxSelect {pin value : Nat} (h : Made s₀ s) : Made s₀ (muxSelect pin value s) := h.run.ite ((h.does.ite h).run.ite (h.does.ite h).run)
theorem Made.unlockGo {path : Nat} {tok : List Nat} (h : Made s₀ s) : Made s₀ (unlockGo path tok s) := h.run.ite h.run
theorem Made.tokenDone (h : Made s₀ s) : Made s₀ (tokenDone s) := h.run.run.does.ite h.run
theorem Made.tapProtect {on : Bool} (h : Made s₀ s) : Made s₀ (tapProtect on s) := h.protectHoldAll.ite h.protectDropAll
theorem Made.tapLoad {ir : Nat} (h : Made s₀ s) : Made s₀ (tapLoad ir s).1 := h.run.ite h.run.tapProtect
theorem Made.tapInstruction {code : Nat} (h : Made s₀ s) : Made s₀ (tapInstruction code s).1 :=
  .iteFst h.tapLoad (.iteFst h.run.tapLoad (h.does.ite h).tapLoad)

/-! Machine/Job.lean. -/

theorem Made.timeWord {m : Nat} {g : GotMsg} (h : Made s₀ s) : Made s₀ (timeWord m g s) := h.run.ite (h.run.run.does.does.ite h.run.run.run)
theorem Made.unsettle (h : Made s₀ s) : Made s₀ (unsettle s) := h.doEach.ite h
theorem Made.discConfig (h : Made s₀ s) : Made s₀ (discConfig s) := h.does.ite (h.unsettle.does.ite h.run)
theorem Made.laneRtt {m : Nat} {g : GotMsg} (h : Made s₀ s) : Made s₀ (laneRtt m g s) := h.run.run.holdDown.ite h.run.run
theorem Made.epochAll {e : Nat} (h : Made s₀ s) : Made s₀ (epochAll e s) := h.run.doEach.does.does
theorem Made.reportSend {j : Nat} (h : Made s₀ s) : Made s₀ (reportSend j s) := h.does.does
theorem Made.takeResult {j : Nat} {res : JobResult} (h : Made s₀ s) : Made s₀ (takeResult j res s) :=
  (h.run.run.ite h.run.run.doEach).bind fun u => u.run.does.ite u.run
theorem Made.relayResult {j : Nat} {m : Msg} (h : Made s₀ s) : Made s₀ (relayResult j m s) := h.run.doEach
theorem Made.huddleDecide {j : Nat} (h : Made s₀ s) : Made s₀ (huddleDecide j s) := h.does.relayResult.takeResult

theorem Made.resultDecoded {m : Nat} {g : GotMsg} (h : Made s₀ s) : Made s₀ (resultDecoded m g s) := by
  unfold Machine.resultDecoded
  split
  · exact h
  · exact h.ite ((h.ite h.relayResult).bind fun t => t.takeResult.ite t)

theorem Made.resultApply {j : Nat} (h : Made s₀ s) : Made s₀ (resultApply j s) := by
  unfold Machine.resultApply
  extract_lets
  split
  · exact h
  · exact h.run.does

theorem Made.takeTrigger {m : Nat} {g : GotMsg} (h : Made s₀ s) : Made s₀ (takeTrigger m g s) := by
  unfold Machine.takeTrigger
  extract_lets
  split
  · exact h
  · exact h.ite h.run.doEach

theorem Made.sendTriggers (h : Made s₀ s) : Made s₀ (sendTriggers s) := h.ite (h.run.ite h.run.doEach)
theorem Made.fabricOrdersEnd (h : Made s₀ s) : Made s₀ (fabricOrdersEnd s) := (h.gathered fun k => k.foldl (·.protectDrop)).foldl (·.does)

theorem Made.lawsOn {b : Nat} {inp : Bool × Binding → Int} (h : Made s₀ s) : Made s₀ (lawsOn b inp s) := by
  unfold Machine.lawsOn
  extract_lets given known t
  have hg : Made s₀ given := h.foldl fun k => by split; exacts [k.run, k]
  exact h.laws hg.doEach.run.doEach.capLaws

theorem Made.ownFields {a : State} (h : Made s₀ s) : Made s₀ (a.ownFields s) := h.own _ _
theorem Made.recordedPass {pass b : Nat} {inp : Bool × Binding → Int} (h : Made s₀ s) : Made s₀ (recordedPass pass b inp s) :=
  h.lawsOn.publishPass.ownFields.does
theorem Made.replayPass {b : Nat} (h : Made s₀ s) : Made s₀ (replayPass b s) := h.run.ite (h.recordedPass.bind fun t => t.run.ite t.run.run)

theorem Made.takeLock {g : GotMsg} (h : Made s₀ s) : Made s₀ (takeLock g s) := by
  unfold Machine.takeLock
  refine .ite (h.ite ?_) (.ite (h.run.ite h.run) h)
  extract_lets _ _ _ t
  have ht : Made s₀ t := h.run
  split
  · exact ht.ite ht.run
  · exact ht

theorem Made.lockPass {b : Nat} (h : Made s₀ s) : Made s₀ (lockPass b s) := by
  unfold Machine.lockPass
  split
  · exact h
  · exact h.ite (h.recordedPass.run.does.bind fun u => u.ite u.run)

theorem Made.lockSwitch (h : Made s₀ s) : Made s₀ (lockSwitch s) := h.run.run.ite (h.run.ite (h.run.run.fabricOrdersEnd.does.ite h.run.run))
theorem Made.fabricTick {b : Nat} (h : Made s₀ s) : Made s₀ (fabricTick b s) :=
  h.ite (h.replayPass.ite (h.lockPass.ite (h.fabricPass.bind fun t => t.does.run.ite t)))

/-! Machine/Commit.lean. -/

theorem Made.txTrial {tx : Tx} (h : Made s₀ s) : Made s₀ (s.txTrial tx) := h.run
theorem Made.channelReturn {c : Nat} (h : Made s₀ s) : Made s₀ (channelReturn c s) := h.run.does.does.phaseCeiling
theorem Made.rolesTaken {tx : Tx} {old : State} (h : Made s₀ s) : Made s₀ (rolesTaken tx old s) :=
  h.ite (h.run.doEach.foldl (·.phaseCeiling))
theorem Made.lordOrders {t : Tx} (h : Made s₀ s) : Made s₀ (lordOrders t s) := h.doEach
theorem Made.txHooks {tx : Tx} {old : State} (h : Made s₀ s) : Made s₀ (txHooks tx old s) :=
  ((h.rolesTaken.doEach.does.foldl (·.channelReturn)).doEach.does.bind fun s4 => s4.fedDamageClear.ite s4).discConfig.does.bind fun s6 =>
    (s6.lockSwitch.ite s6).bind fun s7 => ((s7.does.bind fun r => r.fabricOrdersEnd.ite r).ite s7).doEach.lordOrders
theorem Made.cancelParams (h : Made s₀ s) : Made s₀ (cancelParams s) := h.foldl (·.does)
theorem Made.imageTaken {t : Tx} {old : State} (h : Made s₀ s) : Made s₀ (imageTaken t old s) := h.does.does.doEach.does.does.run
theorem Made.txTakes {t : Tx} (h : Made s₀ s) : Made s₀ (txTakes t s) :=
  (h.does.cancelParams.ite h.does).bind fun s2 => (s2.run.does.ite s2).run.bind fun s4 => (s4.imageTaken.ite s4).txHooks
theorem Made.latchNow (h : Made s₀ s) : Made s₀ (latchNow s) := h.run.does.ite h
theorem Made.txEffect (h : Made s₀ s) : Made s₀ (txEffect s) :=
  h.gathered fun k => k.run.latchNow.ite (by split; exacts [k.does.latchNow, k.txTakes.latchNow])
theorem Made.commitView {b : Nat} (h : Made s₀ s) : Made s₀ (s.commitView b) := .ite (h.ite h.txTrial) h

/-! Machine/Tick.lean. -/

theorem Made.takeSample {x : Sample} (h : Made s₀ s) : Made s₀ (takeSample x s) :=
  h.run.ite (h.run.ite (h.run.ite (h.run.fedSample.ite (h.run.run.ite h.run))))
theorem Made.takeSamples {ins : List Sample} (h : Made s₀ s) : Made s₀ (takeSamples ins s) := h.run.foldl (·.takeSample)
theorem Made.patrolAll (h : Made s₀ s) : Made s₀ (patrolAll s) := h.foldl fun k => k.ite k.patrol
theorem Made.tickCloses (h : Made s₀ s) : Made s₀ (tickCloses s) := h.does.run.latchNow
theorem Made.measureAll (h : Made s₀ s) : Made s₀ (measureAll s) := h.does.fedMeasure.does.doEach
theorem Made.lawsAll {b : Nat} (h : Made s₀ s) : Made s₀ (lawsAll b s) :=
  h.prdAll.does.does.bind fun s0 => (s0.does.doEach.fabricTick.ite s0.capLaws.fabricTick.combineAll).doEach
theorem Made.tickEnds {b : Nat} (h : Made s₀ s) : Made s₀ (tickEnds b s) :=
  (h.tickCloses.measureAll.gathered (·.lawsAll)).does.sendTriggers.patrolAll.does.pmcFlush.does

theorem Made.watchAll (h : Made s₀ s) : Made s₀ (watchAll s) := by
  unfold Machine.watchAll
  exact (h.foldl (·.linkOffCheck)).doEach.seqTick.thmTick.fedTick.acuTick.structReply.structCold.bind fun s3 => s3.releaseHost.ite s3

theorem Made.latchTick (h : Made s₀ s) : Made s₀ (latchTick s) := h.run.ite h.does
theorem Made.tickBegins {ins : List Sample} {b : Nat} (h : Made s₀ s) : Made s₀ (tickBegins ins b s) :=
  (h.run.does.takeSamples.releasePlanes.gathered (·.watchAll)).does.does.does.does.does.does.does.does.latchTick
theorem Made.heldTick {ins : List Sample} (h : Made s₀ s) : Made s₀ (heldTick ins s) :=
  h.takeSamples.bind fun t => (t.run.doEach.does.ite t.run).does.does.does.ite t
theorem Made.controlTick {ins : List Sample} (h : Made s₀ s) : Made s₀ (controlTick ins s) := h.heldTick.ite h.tickEnds.tickBegins
theorem Made.orderedSurvey {supplies : List Nat} (h : Made s₀ s) : Made s₀ (orderedSurvey supplies s) :=
  ((h.does.run.foldl fun k => k.rttNow.ite k.run).foldl (·.beginCaps)).bind fun w => w.ite w.run

/-! Machine/ExecSeq.lean. -/

theorem Made.railComesUp {r : Nat} (h : Made s₀ s) : Made s₀ (railComesUp r s) := h.railFaults.run.ite h.enableRail
theorem Made.railFell {r : Nat} (h : Made s₀ s) : Made s₀ (railFell r s) := h.run.does
theorem Made.giveUp {r : Nat} (h : Made s₀ s) : Made s₀ (giveUp r s) := h.deciding (·.run.does.does.run.stopGroup.protectGroups.does)
theorem Made.faultClear {m value : Nat} (h : Made s₀ s) : Made s₀ (faultClear m value s) :=
  h.gathered fun k => ((k.foldl (·.unlatch)).foldl (·.latchGone)).bind fun u => u.systemEnd.ite u

/-! Machine/ExecSwija.lean. -/

theorem Made.afterCaps {n old : Nat} (h : Made s₀ s) : Made s₀ (afterCaps n old s) := h.does.ite h
theorem Made.takePage {n : Nat} {g : GotMsg} (h : Made s₀ s) : Made s₀ (takePage n g s) := (h.run.does.ite h.run).capsCheck.afterCaps

theorem Made.takeStep {n : Nat} (h : Made s₀ s) : Made s₀ (takeStep n s) := by
  unfold Machine.takeStep
  extract_lets
  split
  · exact h
  · exact h.run.stepDelivered

theorem Made.retrain {n : Nat} (h : Made s₀ s) : Made s₀ (retrain n s) := h.run.does.does.does
theorem Made.plannedSwitch {n : Nat} (h : Made s₀ s) : Made s₀ (plannedSwitch n s) := h.run.does.does
theorem Made.laneSwitch {n : Nat} (h : Made s₀ s) : Made s₀ (laneSwitch n s) := h.run.does.run.does
theorem Made.lossRetry {n : Nat} (h : Made s₀ s) : Made s₀ (lossRetry n s) := h.run.does
theorem Made.lossTimeout {n : Nat} (h : Made s₀ s) : Made s₀ (lossTimeout n s) := h.run.protectGroups

/-! Machine/ExecThermal.lean. -/

theorem Made.tlatchClear {i : Nat} (h : Made s₀ s) : Made s₀ (tlatchClear i s) := h.run.protectDropAll.ite h
theorem Made.kickEnd {f a : Nat} (h : Made s₀ s) : Made s₀ (kickEnd f a s) := h.run.ite h.run.fanStalls
theorem Made.leakClear {i : Nat} (h : Made s₀ s) : Made s₀ (leakClear i s) := h.run.protectDropAll.ite h

/-! Machine/ExecBoot.lean. -/

theorem Made.keeperStore {a width value : Nat} (h : Made s₀ s) : Made s₀ (keeperStore a width value s) := h.run.ite (h.run.ite h.does)
theorem Made.coreRead {req a n bad : Nat} (h : Made s₀ s) : Made s₀ (coreRead req a n bad s) :=
  h.checkRead.does.bind fun t => t.run.ite (t.mgmtReset.ite t)

end Sys2Proof.Machine
end

section
/-! SUPPORT. Every command inside the ratings answers a next state, made of the one it begins in (R1). `Ends s₀ r` says it of an answer; there is a
lemma for each form that an arm of exec takes, then for the commands that a register write can be, then for exec. -/

namespace Sys2Proof.Machine

/-- The answer is a next state, made of `s₀`. -/
def Ends (s₀ : State) (r : Result) : Prop := ∃ t, r = .next t ∧ Made s₀ t

/-- What answers at all answers a next state, made of `s₀`. -/
def MayEnd (s₀ : State) (o : Option Result) : Prop := ∀ r ∈ o, Ends s₀ r

variable {s₀ s t : State}

/-! The forms of an answer. -/

theorem Made.ends (h : Made s₀ t) : Ends s₀ (.next t) := ⟨t, rfl, h⟩
theorem Ends.ite {c : Prop} {_ : Decidable c} {r q : Result} (h : Ends s₀ r) (k : Ends s₀ q) : Ends s₀ (if c then r else q) := by split <;> assumption
theorem Ends.stateAfter {r : Result} (h : Ends s₀ r) : Made s₀ (stateAfter s r) := by
  obtain ⟨t, rfl, ht⟩ := h
  exact ht
theorem Made.whenever {c : Bool} (h : Made s₀ s) (k : Made s₀ t) : Ends s₀ (whenever c s t) := k.ends.ite h.ends
theorem Made.keeperQueues {req a width value : Nat} (h : Made s₀ s) (k : Made s₀ t) : Ends s₀ (keeperQueues req a width value s t) :=
  h.ends.ite (h.does.ends.ite k.run.ends)

theorem Made.gated {req a width value : Nat} {ko : Bool} (h : Made s₀ s) (k : Made s₀ t) : Ends s₀ (s.gated req a width value ko t) := by
  unfold State.gated
  split
  · exact h.run.ends
  · exact h.keeperQueues k

theorem Made.custodyCommand {req n op keep skip : Nat} (h : Made s₀ s) : Ends s₀ (custodyCommand req n op keep skip s) :=
  (h.gated h.custodyStart).ite h.ends
theorem Made.foldBack {c st : Nat} (h : Made s₀ s) : Ends s₀ (foldBack c st s) := h.whenever h.does
theorem Made.serveCall {n code : Nat} {fits : Bool} {f : State → State × Answer} (h : Made s₀ s) (hf : ∀ {t}, Made s₀ t → Made s₀ (f t).1) :
    Ends s₀ (serveCall n code fits f s) :=
  h.whenever (hf h.does).does
theorem Made.decodeRequest {p typ : Nat} {fx : State → List Upd} (h : Made s₀ s) : Ends s₀ (decodeRequest p typ fx s) :=
  h.whenever (h.does.ite (h.does.ite h.does)).does.does

theorem Made.cmdWrite {code : Nat} {body : List Nat} {good : Bool} {pec : Option Nat} (h : Made s₀ s) (k : Made s₀ t) :
    Ends s₀ (cmdWrite code body good pec t s) := by
  unfold Machine.cmdWrite
  refine h.ends.ite (h.does.ends.ite ?_)
  split
  · exact h.does.ends.ite k.ends
  · exact k.ends.ite h.does.ends

theorem Made.cmdRead {code : Nat} {body data : List Nat} {more : Bool} (h : Made s₀ s) : Ends s₀ (cmdRead code body data more s) := h.whenever h.run

theorem Made.withMsg {n typ : Nat} {f : GotMsg → State → State} (h : Made s₀ s) (hf : ∀ {g t}, Made s₀ t → Made s₀ (f g t)) :
    Ends s₀ (withMsg n typ s f) := by
  unfold Machine.withMsg
  split
  · exact (hf h.run).ends.ite h.ends
  · exact h.ends

theorem Made.withLane {m typ : Nat} {f : GotMsg → State → State} (h : Made s₀ s) (hf : ∀ {g t}, Made s₀ t → Made s₀ (f g t)) :
    Ends s₀ (withLane m typ s f) := by
  unfold Machine.withLane
  split
  · exact (hf h.run).ends.ite h.ends
  · exact h.ends

theorem MayEnd.none : MayEnd s₀ none := by simp [MayEnd]
theorem Ends.some {r : Result} (h : Ends s₀ r) : MayEnd s₀ (some r) := by simpa [MayEnd] using h
theorem MayEnd.ite {c : Prop} {_ : Decidable c} {o p : Option Result} (h : MayEnd s₀ o) (k : MayEnd s₀ p) : MayEnd s₀ (if c then o else p) := by
  split <;> assumption
theorem MayEnd.or {o p : Option Result} (h : MayEnd s₀ o) (k : MayEnd s₀ p) : MayEnd s₀ (o.or p) := by
  cases o
  · exact k
  · exact h

/-! Commands that a register write can be. -/

theorem Made.execStgCancel {req blk : Nat} (h : Made s₀ s) : Ends s₀ (execStgCancel req blk s) := (h.keeperQueues h.does).ite h.ends
theorem Made.execTxBegin {req value : Nat} (h : Made s₀ s) : Ends s₀ (execTxBegin req value s) := h.keeperQueues h.does
theorem Made.execTxStampWrite {req value : Nat} (h : Made s₀ s) : Ends s₀ (execTxStampWrite req value s) := h.gated h.does
theorem Made.execTxCommit {req value : Nat} (h : Made s₀ s) : Ends s₀ (execTxCommit req value s) := h.keeperQueues h.does
theorem Made.execTxAbort {req value : Nat} (h : Made s₀ s) : Ends s₀ (execTxAbort req value s) := h.keeperQueues h.does
theorem Made.execStrapWrite {req n value : Nat} (h : Made s₀ s) : Ends s₀ (execStrapWrite req n value s) :=
  (h.gated (h.does.run.bind fun t => t.does.ite t)).ite h.ends
theorem Made.execTripClear {req : Nat} {w : ClearWrite} (h : Made s₀ s) : Ends s₀ (execTripClear req w s) :=
  h.gated (h.gathered fun k => k.foldl (·.fedUnlatch)).feedsFollow
theorem Made.execRingEnable {req p value : Nat} (h : Made s₀ s) : Ends s₀ (execRingEnable req p value s) := (h.gated h.ringControl).ite h.ends
theorem Made.execDoorbell {req p value : Nat} (h : Made s₀ s) : Ends s₀ (execDoorbell req p value s) := (h.gated (h.does.ite h)).ite h.ends
theorem Made.execSvcpush {req value : Nat} (h : Made s₀ s) : Ends s₀ (execSvcpush req value s) := h.gated h.does
theorem Made.execB2segWrite {req seg value : Nat} (h : Made s₀ s) : Ends s₀ (execB2segWrite req seg value s) :=
  (h.gated (h.run.ite h.run)).ite h.ends
theorem Made.execRecoveryGo {req value : Nat} (h : Made s₀ s) : Ends s₀ (execRecoveryGo req value s) := h.gated (h.does.ite h)
theorem Made.execCoreRelease {req value : Nat} (h : Made s₀ s) : Ends s₀ (execCoreRelease req value s) := h.gated h.releaseCores
theorem Made.execKeylock {req value : Nat} (h : Made s₀ s) : Ends s₀ (execKeylock req value s) := h.gated h.setLocks
theorem Made.execImageLoad {req : Nat} (h : Made s₀ s) : Ends s₀ (execImageLoad req s) := h.gated h.loadStart
theorem Made.execLoadDiscard {req : Nat} (h : Made s₀ s) : Ends s₀ (execLoadDiscard req s) := h.gated h.run
theorem Made.execJrnMgmtPush {req : Nat} (h : Made s₀ s) : Ends s₀ (execJrnMgmtPush req s) := h.keeperQueues h.does
theorem Made.execJrnAckWrite {req c v : Nat} (h : Made s₀ s) : Ends s₀ (execJrnAckWrite req c v s) := (h.keeperQueues h.does).ite h.ends
theorem Made.execCaptureTrigger {reg : Bool} {req : Nat} (h : Made s₀ s) : Ends s₀ (execCaptureTrigger reg req s) :=
  (h.gated (h.ite h.does)).ite (h.ite h.does).ends
theorem Made.execCaptureArm {req : Nat} (h : Made s₀ s) : Ends s₀ (execCaptureArm req s) := h.gated (h.does.ite h)
theorem Made.execCaptureRelease {req : Nat} (h : Made s₀ s) : Ends s₀ (execCaptureRelease req s) := h.gated (h.run.ite h)
theorem Made.execDmaStart {req e value : Nat} (h : Made s₀ s) : Ends s₀ (execDmaStart req e value s) :=
  h.ends.ite (h.gated (h.run.ite (h.run.ite h.dmaStart)))
theorem Made.execPmcCntWrite {req i value n : Nat} (h : Made s₀ s) : Ends s₀ (execPmcCntWrite req i value n s) :=
  (h.gated h.pmcFlush.run.run).ite h.ends
theorem Made.execSnap {req value : Nat} (h : Made s₀ s) : Ends s₀ (execSnap req value s) := h.gated h.run
theorem Made.execBwwinWrite {req value : Nat} (h : Made s₀ s) : Ends s₀ (execBwwinWrite req value s) := h.gated (h.run.ite h.run)
theorem Made.execTestMuxSelect {req a value : Nat} (h : Made s₀ s) : Ends s₀ (execTestMuxSelect req a value s) := (h.gated h.muxSelect).ite h.ends

theorem Made.execUnlock {req value : Nat} {jtag : Option (List Nat)} (h : Made s₀ s) : Ends s₀ (execUnlock req value jtag s) := by
  unfold Machine.execUnlock
  split
  · exact h.whenever h.unlockGo
  · exact h.gated (h.unlockGo.ite h)

theorem Made.execStandbyEnter {req value : Nat} (h : Made s₀ s) : Ends s₀ (execStandbyEnter req value s) := h.gated h.run
theorem Made.execWdogKick {req value : Nat} (h : Made s₀ s) : Ends s₀ (execWdogKick req value s) := h.gated (h.run.ite h)
theorem Made.execFaultClear {req m : Nat} {w : ClearWrite} (h : Made s₀ s) : Ends s₀ (execFaultClear req m w s) :=
  (h.gated h.faultClear.feedsFollow).ite h.ends
theorem Made.execFirstRearm {req : Nat} {w : ClearWrite} (h : Made s₀ s) : Ends s₀ (execFirstRearm req w s) := h.gated h.run
theorem Made.execRttNow {req n : Nat} (h : Made s₀ s) : Ends s₀ (execRttNow req n s) := (h.gated h.rttNow).ite h.ends
theorem Made.execRetrain {req n : Nat} (h : Made s₀ s) : Ends s₀ (execRetrain req n s) := (h.gated (h.ite h.retrain)).ite h.ends
theorem Made.execTlatchClear {req : Nat} {w : ClearWrite} (h : Made s₀ s) : Ends s₀ (execTlatchClear req w s) :=
  h.gated (h.gathered fun k => k.foldl (·.tlatchClear))
theorem Made.execLeakmapClear {req : Nat} {w : ClearWrite} (h : Made s₀ s) : Ends s₀ (execLeakmapClear req w s) :=
  h.gated (h.gathered fun k => k.foldl (·.leakClear))
theorem Made.execControllerTransfer {req n value recov : Nat} (h : Made s₀ s) : Ends s₀ (execControllerTransfer req n value recov s) :=
  (h.gated h.controllerStart).ite h.ends

theorem Made.wideCommand {req a value hw : Nat} (h : Made s₀ s) : MayEnd s₀ (wideCommand req a value hw s) := by
  unfold Machine.wideCommand
  exact .ite h.execTxStampWrite.some (.ite h.execJrnAckWrite.some (.ite h.execB2segWrite.some (.ite h.execPmcCntWrite.some .none)))

theorem Made.captureControl {k value : Nat} (h : Made s₀ s) : Ends s₀ (captureControl k value s) := by
  unfold Machine.captureControl
  extract_lets act
  have hact {b f t} (ht : Made s₀ t) (hf : Ends s₀ (f t)) : Made s₀ (act b f t) := .ite hf.stateAfter ht
  exact ((hact h h.execCaptureRelease).bind fun k => (hact k k.execCaptureArm).bind fun k => hact k k.execCaptureTrigger).ends

theorem Made.rowControl {k a value hw : Nat} (h : Made s₀ s) : MayEnd s₀ (rowControl k a value hw s) := by
  unfold Machine.rowControl
  exact .ite (h.execTxBegin.ite (h.execTxCommit.ite h.execTxAbort)).some (.ite (.ite h.execStgCancel.some .none)
    (.ite (.ite h.execJrnMgmtPush.some .none) (.ite h.captureControl.some (.ite (.ite h.execImageLoad.some (.ite h.execLoadDiscard.some .none))
    (.ite h.execFaultClear.some (.ite h.execFirstRearm.some (.ite h.execTripClear.some (.ite h.execTlatchClear.some
    (.ite h.execLeakmapClear.some .none)))))))))

theorem Made.rowManagement {k a value : Nat} (h : Made s₀ s) : MayEnd s₀ (rowManagement k a value s) := by
  unfold Machine.rowManagement
  exact .ite h.custodyCommand.some (.ite h.execStrapWrite.some (.ite h.execCoreRelease.some (.ite h.execKeylock.some
    (.ite h.execRecoveryGo.some (.ite h.execSvcpush.some (.ite h.execDoorbell.some (.ite h.execDmaStart.some (.ite h.execSnap.some
    (.ite h.execBwwinWrite.some (.ite h.execUnlock.some (.ite h.execTestMuxSelect.some (.ite h.execWdogKick.some
    (.ite h.execStandbyEnter.some .none)))))))))))))

theorem Made.rowMixed {k a value hw : Nat} (h : Made s₀ s) : MayEnd s₀ (rowMixed k a value hw s) := by
  unfold Machine.rowMixed
  refine .ite (.ite h.execRetrain.some ?_) (.ite h.execRingEnable.some (.ite h.execControllerTransfer.some .none))
  extract_lets t
  have ht : Made s₀ t := h.execRttNow.stateAfter
  exact (ht.retrain.ite ht).ends.some

theorem Made.rowWrite {req a value hw : Nat} (h : Made s₀ s) : Made s₀ (rowWrite req a value hw s) := by
  unfold Machine.rowWrite
  split
  next r e => exact (h.rowControl.or h.rowManagement r e).stateAfter
  next =>
    extract_lets t
    have ht : Made s₀ t := h.does
    split
    next r e => exact (ht.rowMixed r e).stateAfter
    next => exact ht.run

/-- A write that completes a 64-bit register acts in a state that has given up the lower word held. -/
theorem Made.of_completedWrite {req a width value b v : Nat} (h : Made s₀ s) (e : completedWrite req a width value s = some (b, v, t)) : Made s₀ t := by
  unfold completedWrite at e
  split at e
  · split_ifs at e <;> cases e
    · exact h.run
    · exact h
  · cases e

theorem Made.anyWrite {req a width value hw : Nat} (h : Made s₀ s) : Made s₀ (anyWrite req a width value hw s) := by
  unfold Machine.anyWrite
  extract_lets s plain
  have hs : Made s₀ s := h.countersSeen
  have hplain : Made s₀ plain := hs.does
  split
  next b v t e =>
    split
    next r e' => exact ((hs.of_completedWrite e).wideCommand r e').stateAfter
    next => exact hplain
  next => exact hplain.ite (hplain.ite hs.rowWrite)

theorem Made.drainQueue {q : List Queued} (h : Made s₀ s) : Made s₀ (drainQueue q s) := h.foldl fun k => k.keeperStore.ite k.anyWrite

/-! Every command. -/

theorem Made.execGrantQuery {core : Nat} (h : Made s₀ s) : Ends s₀ (execGrantQuery core s) := by
  refine h.serveCall ?_
  exact id

theorem Made.execUnknownGateCall {core : Nat} (h : Made s₀ s) : Ends s₀ (execUnknownGateCall core s) := by
  unfold Machine.execUnknownGateCall
  refine h.serveCall ?_
  exact id

theorem Made.execTime {m : Nat} (h : Made s₀ s) : Ends s₀ (execTime m s) := by
  refine h.withLane fun {g t} k => ?_
  exact k.timeWord.ite k

theorem Made.execLockstep {m : Nat} (h : Made s₀ s) : Ends s₀ (execLockstep m s) := by
  refine h.withLane fun {g t} k => ?_
  exact k.takeLock.ite k

theorem Made.execStructCommit {core : Nat} (h : Made s₀ s) : Ends s₀ (execStructCommit core s) := by
  unfold Machine.execStructCommit
  have ht := Made.structStart (n := core) (h.does (fx := gateTaken core))
  refine h.whenever ?_
  split
  next e => exact Made.does (by simpa only [e] using ht)
  next e => simpa only [e] using ht

theorem Made.execRecordMove (h : Made s₀ s) : Ends s₀ (execRecordMove s) := by
  unfold Machine.execRecordMove
  refine h.whenever ?_
  split
  · exact h
  · exact h.moveRecord.ite h.checkRead.run

theorem Made.execRowRepair (h : Made s₀ s) : Ends s₀ (execRowRepair s) := by
  unfold Machine.execRowRepair
  split
  · exact h.ends
  · exact h.does.ends

theorem Made.execFanKickEnd {f : Nat} (h : Made s₀ s) : Ends s₀ (execFanKickEnd f s) := by
  unfold Machine.execFanKickEnd
  split
  · exact h.whenever h.kickEnd
  · exact h.ends

theorem Made.execFanStall {f : Nat} (h : Made s₀ s) : Ends s₀ (execFanStall f s) := by
  unfold Machine.execFanStall
  split
  · exact h.whenever h.run.fanStalls
  · exact h.ends

theorem Made.execFanRetry {f : Nat} (h : Made s₀ s) : Ends s₀ (execFanRetry f s) := by
  unfold Machine.execFanRetry
  split
  · exact h.whenever (h.run.ite h.run)
  · exact h.ends

theorem Made.execFlowPowerOff {z : Nat} (h : Made s₀ s) : Ends s₀ (execFlowPowerOff z s) := by
  unfold Machine.execFlowPowerOff
  split
  · exact h.whenever h.flowPowerOff
  · exact h.ends

/-- Inside the ratings every command answers, with a state made of the one it runs on. -/
theorem Made.exec {c : Instr} (h : Made s₀ s) (hc : inRatings c = true) : Ends s₀ (exec c s) := by
  cases c
  case controlTick ins =>
    have hok : Machine.exec (.controlTick ins) s = .next (Machine.controlTick ins s) := if_pos hc
    exact hok ▸ h.controlTick.ends
  case registerWrite => exact h.whenever h.anyWrite
  case upperWordLatch => exact h.whenever h.countersSeen.does
  case rcRead | txWrite | txTimeout | discLock | mgmtQueueResume | loss | syncResume | senseSwitch | tileRailGood | softstartTrip |
      dischargeEnd | brakeAssert | brakeClear | timeSend | ageTrimPeriod | ageReportTimeout | moraineWipeDone | childDetach | resultLost |
      channelOn | channelLimit | accResetRelease | trayWindowRead | trayWindowWrite | repairDone | lpTrainDone | lpInitDone | mr4Poll |
      channelFail | bwWindowEnd | xingAlarm => exact h.whenever h.does
  case stgCancel => exact h.execStgCancel
  case stageApply => exact h.stageTakesEffect.ends
  case txBegin => exact h.execTxBegin
  case txStampWrite => exact h.execTxStampWrite
  case txCommit => exact h.execTxCommit
  case txAbort => exact h.execTxAbort
  case txEffect => exact h.whenever h.txEffect.structReply
  case commitWaitTimeout => exact h.whenever h.does.latchNow.structReply
  case orderEffect => exact (h.ordersTakeEffect.foldl (·.gateTick)).feedsFollow.ends
  case surveyOrder => exact h.whenever h.orderedSurvey
  case discReacquire => exact h.whenever h.unsettle.does.does
  case discHoldover => exact h.whenever h.unsettle.run.does
  case settled | tlaneRttMeasure | firnStart | captureFreeze | fastAdd | phaseSwap | railTrip | messageResend | hintExpire | spareTrained |
      capUnmet | railOffTimeout | feedRevert | pinHoldEnd | diodeGraceExpire | interruptCoalesce | alertResponse | unknownCommand |
      wckTracking | refLost | refBack | grantFilteredRead => exact h.whenever h.run
  case timeUp | report => exact h.withLane (·.does)
  case delay => exact h.withLane (·.laneRtt)
  case jrnMgmtPush => exact h.execJrnMgmtPush
  case drain => exact h.whenever h.drainClass
  case jrnAckWrite => exact h.execJrnAckWrite
  case captureArm => exact h.execCaptureArm
  case captureTrigger => exact h.execCaptureTrigger
  case captureRelease => exact h.execCaptureRelease
  case switchingPeriod => exact h.whenever ((h.run.doEach.foldl (·.periodBoundary)).foldl (·.surveyPulse)).doEach
  case voltageLoopUpdate => exact h.whenever h.run.doEach.doEach.does
  case rotationAdvance => exact h.whenever h.rotateAll
  case phaseFault => exact h.whenever h.failChannel
  case benchJoin => exact h.whenever h.benchJoin
  case railEnable | retryReenable => exact h.whenever h.railComesUp
  case enable => exact h.whenever h.linkEnable
  case energyCheck | alertChange => exact h.whenever (h.run.does.ite h.run)
  case trainingFrame => exact h.whenever h.trainingFrame
  case trainTimeout => exact h.whenever h.trainFail
  case frameTransmit => exact (h.whenever h.sendTraining).ite (h.whenever h.does)
  case upstreamFrame => exact h.whenever h.upstreamFrame.afterCaps
  case cap => exact h.withMsg (·.takePage)
  case hint | ageing | freqAck | tipoffAck => exact h.withMsg (·.does)
  case step => exact h.whenever h.takeStep
  case rttMeasure => exact h.whenever h.rttRun
  case rttNow => exact h.execRttNow
  case retrain => exact h.execRetrain
  case plannedSwitch => exact h.whenever h.plannedSwitch
  case laneSwitch => exact h.whenever h.laneSwitch
  case linkLoss => exact h.whenever h.linkLost
  case lossRetry => exact h.whenever h.lossRetry
  case lossTimeout => exact h.whenever h.lossTimeout
  case capLoop => exact h.whenever h.capLoop
  case escalationRelease => exact h.whenever h.escalationRelease
  case accuracyWindow | suspendHoldEnd | pgChange => exact h.whenever h.does.does
  case imageLoad => exact h.execImageLoad
  case loadDone => exact h.whenever h.loadEnd
  case loadDiscard => exact h.execLoadDiscard
  case tableEccError => exact h.whenever (h.does.coldReset.ite h.does)
  case epochEnd => exact h.whenever h.epochAll
  case reportSend => exact h.whenever h.reportSend
  case huddleDecide => exact h.whenever h.huddleDecide
  case result => exact h.withLane (·.resultDecoded)
  case resultApply => exact h.whenever h.resultApply
  case trigger => exact h.withLane (·.takeTrigger)
  case groupPowerUp => exact h.whenever h.groupStart
  case railQualified => exact h.whenever h.railGoodNow
  case railOnTimeout | railFault => exact h.whenever h.railFaults.feedsFollow
  case groupPowerDown => exact h.whenever h.groupDown
  case railDisable => exact h.whenever h.does.feedsFollow
  case railFallen => exact h.whenever h.railFell
  case railGivenUp => exact h.whenever h.giveUp
  case systemRestart => exact h.whenever h.systemRestart
  case faultClear => exact h.execFaultClear
  case firstRearm => exact h.execFirstRearm
  case faultIn => exact h.whenever (h.deciding fun k => k.run.protectGroups.ite k.run)
  case faultInRelease => exact h.whenever (h.run.deciding (·.protectDropAll))
  case inrushTrip | limitTrip => exact h.foldBack
  case fastTrip | reverseTrip => exact h.whenever h.run.comparatorTrip
  case tripProtectOrders => exact h.whenever h.tripOrders
  case tripClear => exact h.execTripClear
  case damageDetect => exact h.whenever h.fedDamage
  case feedUsable => exact h.whenever h.becomeUsable
  case feedUnusable => exact h.whenever h.becomeUnusable
  case newFeedInrush => exact h.whenever h.newFeed
  case devTempLevel => exact h.whenever h.devTo
  case diodeBroken => exact h.whenever h.diodeBroke
  case thermalShutdown => exact h.whenever h.thermalShutdown
  case thermalHardReset | auxDropout => exact h.whenever h.holdPlanes.run
  case thermalRelease => exact h.whenever (h.run.ite h).coldReset
  case tempInputFault | ringResume | sclLowTimeout | sdaStuck | pllLocked => exact h.whenever h.run.does
  case mapLost => exact h.whenever h.mapLose
  case thermalCeilingStep => exact h.whenever h.setCeil
  case tlatchClear => exact h.execTlatchClear
  case flowWindow => exact h.whenever h.flowWindow
  case leakWet | leakOpen => exact h.whenever h.leakLatch
  case leakmapClear => exact h.execLeakmapClear
  case presenceChange => exact h.whenever (h.run.gateTick.custodyStop.ite h.run)
  case strapWrite => exact h.execStrapWrite
  case readId | verify | check | reflash | release | clear => exact h.custodyCommand
  case custodyOpDone => exact h.whenever h.custodyDone
  case custodyAuto => exact h.whenever h.custodyAuto
  case bootTimeout => exact h.whenever h.bootTimeout
  case keeperChecksPass => exact h.whenever h.run.drainQueue.run.keeperRuns
  case imageReject => exact h.whenever h.keeperRejected
  case coreRelease => exact h.execCoreRelease
  case keylock => exact h.execKeylock
  case goldenCheckDone => exact h.whenever h.goldenChecks
  case stage => exact h.serveCall (·.imgStage)
  case stageDone => exact h.whenever h.stageDone
  case activate => exact h.serveCall (·.imgActivate)
  case confirm => exact h.serveCall (·.imgConfirm)
  case abandon => exact h.serveCall (·.imgAbandon)
  case ledgerCompact => exact h.whenever h.compact
  case attest => exact h.serveCall (·.attest)
  case svnRaise => exact h.serveCall (·.svnRaise)
  case svnFuse => exact h.serveCall (·.svnFuse)
  case lcRequest => exact h.whenever (h.does.run.does.ite h.does.lcProgram.coldReset)
  case keyEnroll => exact h.serveCall (·.keyEnroll)
  case keyRevoke => exact h.serveCall (·.keyRevoke)
  case coreRetire => exact h.serveCall (·.coreRetire)
  case attPublic => exact h.serveCall (·.attPublic)
  case functionReset => exact h.whenever h.functionReset
  case d3hotEntry | d0Return | hostLinkStateChange => exact h.whenever h.run.run
  case ringEnable => exact h.execRingEnable
  case doorbell => exact h.execDoorbell
  case ringPoll => exact h.whenever h.doEach
  case order | buffer | service | ping | unacceptedRequest => exact h.decodeRequest
  case svcpush => exact h.execSvcpush
  case b2segWrite => exact h.execB2segWrite
  case dmaStart => exact h.execDmaStart
  case dmaDone => exact h.whenever h.dmaDone
  case recoveryGo => exact h.execRecoveryGo
  case recoveryCheckDone => exact h.whenever h.recoveryDone
  case clearFaults => exact h.cmdWrite h.run
  case capability | statusWord | pmbusRevision | mfrId | mfrModel | mfrRevision | mfrSerial | orderResult | trayTime => exact h.cmdRead
  case trayOrder => exact (h.cmdWrite h.does).ite (h.whenever h.run)
  case readInforce => exact h.cmdRead.ite (h.cmdWrite h)
  case rcvAddr | rcvData | rcvLen => exact (h.cmdWrite h.run).ite h.ends
  case rcvGo => exact (h.cmdWrite h.does).ite h.ends
  case rcvStat => exact h.cmdRead.ite h.ends
  case controllerTransfer => exact h.execControllerTransfer
  case transferDone => exact h.whenever h.transferDone
  case regulatorIdent => exact h.whenever h.doEach.run
  case wipeDone => exact h.whenever h.wipeEnd
  case pmcStart | pmcStop => exact h.whenever h.pmcFlush.run
  case counterWrap => exact h.whenever h.pmcFlush.does
  case pmcCntWrite => exact h.execPmcCntWrite
  case snap => exact h.execSnap
  case bwwinWrite => exact h.execBwwinWrite
  case testMuxSelect => exact h.execTestMuxSelect
  case unlock => exact h.execUnlock
  case tokenCheckDone => exact h.whenever h.tokenDone
  case standbyEnter => exact h.execStandbyEnter
  case standbyHold => exact h.whenever h.standbyHold
  case wake => exact h.whenever h.run.coldReset
  case auxPowerOn => exact h.whenever h.islandReset.coldReset
  case supplyPgLost | coldReset | pfailRecovery => exact h.whenever h.coldReset
  case pllLockLost => exact h.whenever (h.coldReset.ite h.does)
  case managementReset | wdogExpire => exact h.whenever h.mgmtReset
  case predictionReset => exact h.whenever h.predReset
  case wdogKick => exact h.execWdogKick
  case xingReset => exact h.whenever (h.does.ite h.does.coldReset)
  case powerFail => exact h.whenever h.powerFail
  case pcieError => exact (h.dmaBreak.ite h).run.ends
  case bar2Access => exact h.ends.ite (h.run.ends.ite (h.run.ends.ite (h.ends.ite (h.run.ends.ite (h.run.ends.ite h.bar2Mapped.ends)))))
  case deviceMemoryAccess =>
    exact h.ends.ite (h.does.ends.ite (h.run.ends.ite (h.run.ends.ite (h.ends.ite (h.coreRead.ends.ite (h.run.ends.ite h.does.ends))))))
  case idleCycleScrub => exact h.whenever h.scrubPass
  case lpddr5xPatrolScrub => exact h.whenever h.lpPatrol
  case xtalValid => exact h.run.ends
  case time => exact h.execTime
  case recordMove => exact h.execRecordMove
  case syncHoldover => exact h.whenever h.run.run
  case lockstep => exact h.execLockstep
  case fanKickEnd => exact h.execFanKickEnd
  case fanStall => exact h.execFanStall
  case fanRetry => exact h.execFanRetry
  case flowPowerOff => exact h.execFlowPowerOff
  case grantQuery => exact h.execGrantQuery
  case structCommit => exact h.execStructCommit
  case rowRepair => exact h.execRowRepair
  case jtagInstruction => exact (h.tapInstruction.coldReset.ite h.tapInstruction).ends
  case tapReset => exact (h.tapLoad.coldReset.ite h.tapLoad).ends
  case unknownGateCall => exact h.execUnknownGateCall

end Sys2Proof.Machine
end

section
/-! The statements on completion: every command inside the ratings answers, and every queue of such commands drains (R1). -/

namespace Sys2Proof.Machine

/-- Only a CONTROL_TICK samples anything that could lie outside the ratings. -/
theorem inRatings_eq_false {c : Instr} (h : inRatings c = false) : ∃ ins, c = .controlTick ins ∧ ins.all sampleOk = false := by
  unfold inRatings at h
  split at h
  next ins => exact ⟨ins, rfl, h⟩
  next => cases h

theorem exec_controlTick_outside {ins : List Sample} (s : State) (h : ins.all sampleOk = false) :
    exec (.controlTick ins) s = .fault .outsideRatings := if_neg (by simp [h])

/-- A step inside the ratings takes the command in front off the queue and leaves the rest of it as it is. -/
theorem step_takes_front {s : State} {c : Instr} {rest : List Instr} (hs : s.pending = c :: rest) (hc : inRatings c = true) :
    ∃ t, step s = .next t ∧ t.pending = rest := by
  obtain ⟨t, ht, made⟩ := (Made.here (s₀ := { s with pending := rest })).exec hc
  refine ⟨t, ?_, made.pending⟩
  unfold step
  rw [hs]
  exact ht

theorem drains_of_inRatings (q : List Instr) {s : State} (hs : s.pending = q) (hq : q.all inRatings = true) :
    ∃ t, After q.length s t ∧ t.pending = [] := by
  induction q generalizing s with
  | nil => exact ⟨s, rfl, hs⟩
  | cons c rest ih =>
    obtain ⟨hc, hrest⟩ : inRatings c = true ∧ rest.all inRatings = true := by simpa only [List.all_cons, Bool.and_eq_true] using hq
    obtain ⟨u, hu, hpend⟩ := step_takes_front hs hc
    obtain ⟨t, ht, hempty⟩ := ih hpend hrest
    exact ⟨t, ⟨u, hu, ht⟩, hempty⟩

/-- Settles O7: an answer inside the ratings is made of the state by updates (`Made.exec`), and outside them CONTROL_TICK stops (R1). -/
theorem everyCommandAnswers : Obligations.EveryCommandAnswers := by
  unfold Obligations.EveryCommandAnswers
  refine ⟨fun c s hc => ?_, fun c s hc => ?_⟩
  · obtain ⟨t, ht, -⟩ := (Made.here (s₀ := s)).exec hc
    exact ⟨t, ht⟩
  · obtain ⟨ins, rfl, hins⟩ := inRatings_eq_false hc
    exact exec_controlTick_outside s hins

/-- Settles O8, by induction on the queue: each step takes the command in front and leaves the rest. -/
theorem everyQueueDrains : Obligations.EveryQueueDrains := by
  unfold Obligations.EveryQueueDrains
  exact fun s hs => drains_of_inRatings s.pending rfl hs

end Sys2Proof.Machine
end

section
/-! SUPPORT. What a plain access of one register does: the frame of its updates, and the values that a requester is given. -/

namespace Sys2Proof.Machine

/-! The frame. -/

/-- The update sets no field but those of `fs`, and apart from them moves only the bus, the Firn writer and the event counters. -/
def Upd.setsOnly (fs : List Fld) : Upd → Prop
  | .set f _ => f ∈ fs
  | .emit _ | .firn _ | .bus _ | .carry _ _ _ => True
  | _ => False

theorem OnlyFields.trans {fs : List Fld} {s t u : State} (h : OnlyFields fs s t) (k : OnlyFields fs t u) : OnlyFields fs s u := by
  obtain ⟨hr, hrest⟩ := h
  obtain ⟨kr, krest⟩ := k
  refine ⟨fun f hm hf => (kr f hm hf).trans (hr f hm hf), ?_⟩
  simp_all

theorem Upd.setsOnly.keeps {fs : List Fld} {u : Upd} (h : u.setsOnly fs) {g : Fld} (hg : ∀ f ∈ fs, g.key ≠ f.key) : u.keeps g := by
  cases u
  case set f v => exact hg f h
  all_goals trivial

/-- What one such update leaves, the bus apart. -/
theorem Upd.setsOnly.onlyFields {fs : List Fld} {u : Upd} (h : u.setsOnly fs) (s : State) (b : Bus) :
    OnlyFields fs { s with bus := b } { s.apply u with bus := b } := by
  refine ⟨fun g hm hg => rd_apply_keeps hm (h.keeps hg), ?_⟩
  cases u
  case set | emit | firn | bus | carry => simp [State.apply]
  all_goals exact h.elim

/-- Such updates change nothing but those fields and the bus. -/
theorem onlyFields_run {fs : List Fld} {us : List Upd} (h : ∀ u ∈ us, u.setsOnly fs) (s : State) :
    OnlyFields fs { s with bus := (s.run us).bus } (s.run us) := by
  induction us generalizing s with
  | nil => simp [OnlyFields]
  | cons u us ih =>
    exact ((h u (by simp)).onlyFields s _).trans (ih (fun v hv => h v (by simp [hv])) (s.apply u))

/-! What a requester is given. -/

theorem erase_of_find_none {α : Type} {m : List (Nat × α)} {i : Nat} (h : tableFind? m i = none) : tableErase m i = m := by
  induction m with
  | nil => rfl
  | cons e m ih =>
    obtain ⟨k, v⟩ := e
    unfold tableFind? at h
    split at h
    next => cases h
    next hk => rw [tableErase, if_neg hk, ih h]

theorem get_readAs (data : SMap Nat) (req v : Nat) : tableGet 0 (readAs data req v) req = v := by
  have hnone : tableFind? (tableDrop (fun k => k == req) data) req = none := find_drop_in _ data (by simp)
  unfold readAs tablePut
  split
  case isTrue hv =>
    have hsame : tableErase (tableDrop (fun k => k == req) data) req = tableDrop (fun k => k == req) data := erase_of_find_none hnone
    rw [hsame, tableGet, hnone, hv]
    rfl
  case isFalse => simp [tableGet]

/-- What a read of a register that was found gives its requester (R5, R6). -/
def readGives (req width : Nat) (h : RegHit) (s : State) : List Upd :=
  if h.desc.wide then readWide req width h.upper h.addr (s.regRead req h) s else [giveData req (s.regRead req h) s]

/-- A read that no filter stops gives the register, and then clears its RC fields. -/
theorem readEffect_of_hit {s : State} {req a width hw : Nat} {h : RegHit} (hdown : s.planeDown a = false)
    (hread : s.mayRead req a width = true) (hstg : stagingReg? a = none) (hreg : regAt? (readHome a) = some h) :
    readEffect req a width hw s =
      readGives req width h s ++ (if req = Req.keeper && s.keeperGated then [] else h.fields.flatMap (clearOnRead hw s)) := by
  simp [readEffect, readGives, hdown, hread, hstg, hreg]

/-- A read of a register without RC fields only gives data. -/
theorem clearOnRead_of_no_rc {h : RegHit} (hrc : h.fields.all (fun e => e.1 != Access.rc) = true) (hw : Nat) (s : State) :
    h.fields.flatMap (clearOnRead hw s) = [] := by
  rw [List.flatMap_eq_nil_iff]
  intro e he
  have hne : e.1 ≠ Access.rc := by simpa using List.all_eq_true.mp hrc e he
  simp [clearOnRead, hne]

/-- The registers of GLB show their fields as they are held. -/
theorem view_of_glb (s : State) {f : Fld} (hf : f.addr < 0x10_0000) : s.view f = s.rd f := by
  have hne (g : Fld) (hg : 0x10_0000 ≤ g.addr) : (f = g) = False := eq_false (by rintro rfl; omega)
  have hlo (n : Nat) (hn : 0x10_0000 ≤ n) : (n ≤ f.addr) = False := eq_false (by omega)
  unfold State.view
  simp (disch := decide) only [hne, hlo, decide_false, Bool.false_and, Bool.and_false, Bool.or_false, Bool.false_eq_true, if_false]

theorem regRead_glbId (s : State) (req : Nat) : s.regRead req ⟨GLB_ID.desc, [], 0, false⟩ =
    s.rd GLB_ID.family * 2 ^ 20 + s.rd GLB_ID.part * 2 ^ 12 + s.rd GLB_ID.rev_letter * 2 ^ 8 + s.rd GLB_ID.rev_step * 2 ^ 4 := by
  have hview (f : Fld) (hf : f.addr = 0) : s.fieldRead req (.ro, f) = s.rd f := by
    simp [State.fieldRead, Access.keeperOnly, view_of_glb s (f := f) (by omega)]
  have hfamily : GLB_ID.family.lsb = 20 := rfl
  have hpart : GLB_ID.part.lsb = 12 := rfl
  have hletter : GLB_ID.rev_letter.lsb = 8 := rfl
  have hstep : GLB_ID.rev_step.lsb = 4 := rfl
  have hfields : (⟨GLB_ID.desc, [], 0, false⟩ : RegHit).fields =
    [(.ro, GLB_ID.family), (.ro, GLB_ID.part), (.ro, GLB_ID.rev_letter), (.ro, GLB_ID.rev_step)] := rfl
  simp only [State.regRead, hfields, List.foldl_cons, List.foldl_nil, Nat.zero_add, hfamily, hpart, hletter, hstep,
    hview GLB_ID.family rfl, hview GLB_ID.part rfl, hview GLB_ID.rev_letter rfl, hview GLB_ID.rev_step rfl]

/-! The reads. -/

theorem hostTraffic_setsOnly (fs : List Fld) (req : Nat) (isWrite : Bool) (n : Nat) : ∀ u ∈ hostTraffic req isWrite n, u.setsOnly fs :=
  all_onlyIf (fun _ u hu => by rw [List.mem_singleton.mp hu]; trivial)

theorem hostTraffic_bus (s : State) (req : Nat) (isWrite : Bool) (n : Nat) : (s.run (hostTraffic req isWrite n)).bus = s.bus := by
  unfold hostTraffic onlyIf
  split <;> rfl

theorem hostTraffic_regs (s : State) (req : Nat) (isWrite : Bool) (n : Nat) : (s.run (hostTraffic req isWrite n)).regs = s.regs := by
  unfold hostTraffic onlyIf
  split <;> rfl

theorem exec_rcRead {s : State} {req : Nat} (hoff : s.spaceOff req = false) (a hw : Nat) :
    exec (.rcRead req a hw) s = .next (s.run (readEffect req a 4 hw s ++ hostTraffic req false 4)) := by
  show execRcRead req a hw s = _
  simp [execRcRead, hoff]

/-- Outside PMC the counters are as they stand (R517). -/
theorem exec_upperWordLatch {s : State} {req a : Nat} (hoff : s.spaceOff req = false) (ha : ¬(0x120_0000 ≤ a ∧ a < 0x128_0000)) (width : Nat) :
    exec (.upperWordLatch req ⟨a, width⟩) s = .next (s.run (readEffect req a width 0 s ++ hostTraffic req false width)) := by
  have hseen : countersSeen a s = s := if_neg (by simpa using ha)
  show execUpperWordLatch req ⟨a, width⟩ s = _
  simp [execUpperWordLatch, hoff, hseen]

/-! GLB_ID. -/

theorem readEffect_glbId {s : State} (req hw : Nat) (hdown : s.planeDown 0 = false) :
    readEffect req 0 4 hw s = [giveData req (s.regRead req ⟨GLB_ID.desc, [], 0, false⟩) s] := by
  have hread : s.mayRead req 0 4 = true := by simp [State.mayRead]
  have hrc : (⟨GLB_ID.desc, [], 0, false⟩ : RegHit).fields.all (fun e => e.1 != Access.rc) = true := by decide
  rw [readEffect_of_hit hdown hread (by decide) (h := ⟨GLB_ID.desc, [], 0, false⟩) rfl, clearOnRead_of_no_rc hrc]
  simp [readGives, GLB_ID.desc]

theorem planeDown_of_held {s : State} {a : Nat} {b : Block} (hb : blockAt? a = some b) (h : s.rd (V.planeHeld b.plane) = 0) : s.planeDown a = false := by
  simp [State.planeDown, hb, State.on, h]

/-- Settles O13: GLB_ID is open to every reader, and none of its fields has another home or clears (R11, R410). -/
theorem glbIdReads : Obligations.GlbIdReads := by
  unfold Obligations.GlbIdReads
  refine ⟨rfl, rfl, rfl, rfl, fun s req hw _ hoff hheld => ?_⟩
  have hdown : s.planeDown 0 = false := planeDown_of_held (b := ⟨0x000_0000, 0x010_0000, 3, descsGLB⟩) rfl hheld
  refine ⟨_, exec_rcRead hoff 0 hw, ?_, onlyFields_run ?_ s⟩
  · rw [readEffect_glbId req hw hdown, run_append, hostTraffic_bus, regRead_glbId]
    exact get_readAs s.bus.data req _
  · rw [readEffect_glbId req hw hdown]
    exact all_append (fun u hu => by rw [List.mem_singleton.mp hu]; trivial) (hostTraffic_setsOnly [] req false 4)

end Sys2Proof.Machine
end

section
/-! SUPPORT and the settling of O14: plain writes, paired reads and clearing reads. -/

namespace Sys2Proof.Machine

/-! One field set. -/

theorem Upd.setsOnly.mono {fs gs : List Fld} (hsub : fs ⊆ gs) {u : Upd} (h : u.setsOnly fs) : u.setsOnly gs := by
  cases u
  case set f v => exact hsub h
  all_goals exact h

/-- One field set among updates that set none has its value after them, and no other field moves. -/
theorem run_set_one {s : State} (hs : s.Wf) {f : Fld} (hmsg : messageField f = false) {us vs : List Upd} (hus : ∀ u ∈ us, u.setsOnly [])
    (hvs : ∀ u ∈ vs, u.setsOnly []) {v : Nat} (hv : v < 2 ^ f.width) :
    (s.run (us ++ .set f v :: vs)).rd f = v ∧
      OnlyFields [f] { s with bus := (s.run (us ++ .set f v :: vs)).bus } (s.run (us ++ .set f v :: vs)) := by
  constructor
  · rw [rd_run_set hs hmsg us vs v (fun u hu => (hvs u hu).keeps (by simp)), Nat.mod_eq_of_lt hv]
  · refine onlyFields_run (fun u hu => ?_) s
    obtain hu | rfl | hu : u ∈ us ∨ u = .set f v ∨ u ∈ vs := by simpa using hu
    · exact (hus u hu).mono (by simp)
    · exact List.mem_singleton.mpr rfl
    · exact (hvs u hu).mono (by simp)

/-! Plain writes. -/

theorem stgCancel_ne_of_no_staging {a : Nat} (h : stagingReg? a = none) : stagingBases.any (fun b => b + 0xFF0C == a) = false := by
  simp only [stagingReg?, Option.map_eq_none_iff, List.find?_eq_none, Bool.and_eq_true, decide_eq_true_eq] at h
  simp only [List.any_eq_false, beq_iff_eq]
  intro b hb hba
  exact h b hb (by omega)

/-- What a write that no gate holds back has passed. -/
theorem open_of_writeGate {s : State} {req a width value : Nat} (h : s.writeGate req a width value false = none) :
    s.planeDown a = false ∧ (isServiceCore req && ((s.granted req 0 a width).getD 0) = 0) = false ∧ s.closedTo req a = false := by
  unfold State.writeGate at h
  split at h
  next => cases h
  next hdown =>
    split at h
    next => cases h
    next hgrant =>
      split at h
      next => cases h
      next hclosed => exact ⟨by simpa using hdown, by simpa using hgrant, by simpa using hclosed⟩

/-- The commands of the register table stand apart from a register none of whose fields has a row of its own. -/
theorem anyWrite_plain {s : State} {req a width value hw : Nat} {h : RegHit} (hpmc : a < 0x120_0000) (hreg : regAt? a = some h)
    (hwide : h.desc.wide = false) (hstg : stagingReg? a = none) (hrow : h.fields.any (fun e => ownRow e.2.addr e.2.lsb) = false) :
    anyWrite req a width value hw s = s.run (writeRegister req a width value hw s) := by
  have hseen : countersSeen a s = s := if_neg (by simp; omega)
  have hhas : hasRow a = false := by simp only [hasRow, stgCancel_ne_of_no_staging hstg, hreg, hrow, Bool.or_false]
  simp [anyWrite, hseen, completedWrite, hreg, hwide, hhas]

theorem not_gated {s : State} {req : Nat} (h : req = Req.keeper → s.keeperGated = false) : (req = Req.keeper && s.keeperGated) = false := by
  by_cases hk : req = Req.keeper
  · simp [h hk]
  · simp [hk]

theorem writeEffect_of_hit {s : State} {req a width value hw : Nat} {h : RegHit} (hdown : s.planeDown a = false)
    (hgrant : (isServiceCore req && ((s.granted req 0 a width).getD 0) = 0) = false) (hkeeper : req = Req.keeper → s.keeperGated = false)
    (hreg : regAt? a = some h) (hwide : h.desc.wide = false) (hstg : stagingReg? a = none) :
    writeEffect req a width value hw s = writeWhole req h (value % 2 ^ 32) width (hw % 2 ^ 32) s := by
  have hcov : covered a = true := by simp [covered, hreg]
  simp only [writeEffect, not_gated hkeeper, hdown, hcov, hgrant, hstg, hreg, hwide]
  simp

/-- JRN_STAT, whose bits the Firn writer holds, has more than one field. -/
theorem ne_jrnStatAddr {a : Nat} {h : RegHit} {e : Access × Fld} (hreg : regAt? a = some h) (hf : h.fields = [e]) : a ≠ jrnStatAddr := by
  rintro rfl
  have hthree : (regAt? jrnStatAddr).all (fun h => h.fields.length == 3) = true := by decide +kernel
  simp [hreg, hf] at hthree

theorem writeWhole_rw {s : State} {req data width hw : Nat} {h : RegHit} {f : Fld} (hf : h.fields = [(Access.rw, f)])
    (hclosed : s.closedTo req h.addr = false) (hlocked : s.lockedNow h.addr = false) (hlow : h.addr < 0xF0_0000) (hstat : h.addr ≠ jrnStatAddr)
    (hrow : ownRow f.addr f.lsb = false) : writeWhole req h data width hw s = [.set f (bits data f.lsb f.width)] := by
  have hreset : h.addr ≠ 0x130_0010 := by omega
  have hwdog : (h.addr == 0x130_0014) = false := beq_eq_false_iff_ne.mpr (by omega)
  have hvec : decide (0xF8_0000 ≤ h.addr) = false := decide_eq_false (by omega)
  have hlatch : (h.addr == jrnStatAddr) = false := beq_eq_false_iff_ne.mpr hstat
  simp [writeWhole, hclosed, hlocked, hreset, hwdog, hvec, hlatch, hf, hrow, fieldWrite, Access.staged, Access.keeperOnly, Access.transactional]

theorem bits_mod {v lsb w : Nat} (h : lsb + w ≤ 32) : bits (v % 2 ^ 32) lsb w = bits v lsb w := by
  unfold bits
  obtain ⟨k, hk⟩ := Nat.exists_eq_add_of_le h
  rw [hk, Nat.add_assoc, Nat.pow_add, Nat.mod_mul_right_div_self, Nat.pow_add, Nat.mod_mul_right_mod]

theorem bits_lt (v lsb w : Nat) : bits v lsb w < 2 ^ w := Nat.mod_lt _ (Nat.two_pow_pos w)

/-! Clearing reads. -/

/-- No RC field stands in a register at the address. -/
def noRcAt (a : Nat) : Bool := (regAt? a).all (fun h => h.fields.all (fun e => e.1 != Access.rc))

/-! The common staging registers (R76) and a partner tile's local rail 4 (R81), whose reads are served elsewhere, hold no RC field. -/

theorem noRcAt_staging : stagingBases.all (fun b => (List.range 0x10).all (fun k => noRcAt (b + 0xFF00 + k))) = true := by decide +kernel
theorem noRcAt_partnerRail : [0x24_1400, 0x2C_1400].all (fun b => (List.range 0x100).all (fun k => noRcAt (b + k))) = true := by decide +kernel

theorem not_noRcAt {a : Nat} {h : RegHit} {f : Fld} (hreg : regAt? a = some h) (hf : h.fields = [(Access.rc, f)]) : noRcAt a = false := by
  simp [noRcAt, hreg, hf]

theorem no_staging_of_rc {a : Nat} (hrc : noRcAt a = false) : stagingReg? a = none := by
  simp only [stagingReg?, Option.map_eq_none_iff, List.find?_eq_none, Bool.and_eq_true, decide_eq_true_eq]
  rintro b hb ⟨hlo, hhi⟩
  have h := List.all_eq_true.mp (List.all_eq_true.mp noRcAt_staging b hb) (a - (b + 0xFF00)) (List.mem_range.mpr (by omega))
  rw [Nat.add_sub_cancel' hlo, hrc] at h
  cases h

theorem readHome_of_rc {a : Nat} (hrc : noRcAt a = false) : readHome a = a := by
  have hout : ∀ b ∈ [0x24_1400, 0x2C_1400], ¬(b ≤ a ∧ a < b + 0x100) := by
    rintro b hb ⟨hlo, hhi⟩
    have h := List.all_eq_true.mp (List.all_eq_true.mp noRcAt_partnerRail b hb) (a - b) (List.mem_range.mpr (by omega))
    rw [Nat.add_sub_cancel' hlo, hrc] at h
    cases h
  have hlead := hout 0x24_1400 (by simp)
  have hlead' := hout 0x2C_1400 (by simp)
  have hpartner : partnerRail a = false := by
    simp only [partnerRail, Bool.or_eq_false_iff, Bool.and_eq_false_iff, decide_eq_false_iff_not]
    omega
  simp [readHome, hpartner]

theorem clearOnRead_rc {f : Fld} (h0 : f.addr ≠ (JRN_LOST.count 0).addr) (h1 : f.addr ≠ (JRN_LOST.count 1).addr)
    (h2 : f.addr ≠ (JRN_LOST.count 2).addr) (hw : Nat) (s : State) : clearOnRead hw s (.rc, f) = [.set f (bits hw f.lsb f.width)] := by
  have hne {g : Fld} (h : f.addr ≠ g.addr) : f ≠ g := fun e => h (congrArg Fld.addr e)
  simp [clearOnRead, hne h0, hne h1, hne h2]

theorem readGives_setsOnly (fs : List Fld) (req width : Nat) (h : RegHit) (s : State) : ∀ u ∈ readGives req width h s, u.setsOnly fs := by
  have hbus (b : Bus) : ∀ u ∈ [Upd.bus b], u.setsOnly fs := fun u hu => by rw [List.mem_singleton.mp hu]; trivial
  unfold readGives readWide
  split
  next =>
    split
    next => exact hbus _
    next => split <;> exact hbus _
  next => exact hbus _

/-! The clauses of O14. -/

theorem registerWrite_plain_rw {s : State} {req a value hw : Nat} {d : RegDesc} {idx : List Nat} {f : Fld} (hs : s.Wf)
    (hreach : s.Reaches req a 4 (value % 2 ^ 32) false) (hlocked : s.lockedNow a = false) (hreg : regAt? a = some ⟨d, idx, a, false⟩)
    (hwide : d.wide = false) (hf : d.fields idx = [(Access.rw, f)]) (hstg : stagingReg? a = none) (hrow : ownRow f.addr f.lsb = false)
    (hmsg : messageField f = false) (hlow : a < 0xF0_0000) (hbits : f.lsb + f.width ≤ 32) :
    Gives (.registerWrite req a 4 value hw) s (fun t => t.rd f = bits value f.lsb f.width ∧ OnlyFields [f] s t) := by
  obtain ⟨hoff, hgate, hkeeper⟩ := hreach
  obtain ⟨hdown, hgrant, hclosed⟩ := open_of_writeGate hgate
  have hfields : (⟨d, idx, a, false⟩ : RegHit).fields = [(Access.rw, f)] := hf
  have heffect : writeEffect req a 4 value hw s = [.set f (bits value f.lsb f.width)] := by
    rw [writeEffect_of_hit hdown hgrant hkeeper hreg hwide hstg,
      writeWhole_rw hfields hclosed hlocked hlow (ne_jrnStatAddr hreg hfields) hrow, bits_mod hbits]
  have hplain := anyWrite_plain (s := s) (req := req) (width := 4) (value := value) (hw := hw) (show a < 0x120_0000 by omega) hreg hwide hstg
    (by simp [hfields, hrow])
  have hexec : exec (.registerWrite req a 4 value hw) s = .next (s.run (.set f (bits value f.lsb f.width) :: hostTraffic req true 4)) := by
    show execRegisterWrite req a 4 value hw s = _
    rw [execRegisterWrite, hoff, hplain, writeRegister, heffect]
    rfl
  obtain ⟨hread, hframe⟩ := run_set_one hs hmsg (us := []) (by simp) (hostTraffic_setsOnly [] req true 4) (bits_lt value f.lsb f.width)
  rw [List.nil_append] at hread hframe
  rw [run_cons, hostTraffic_bus, apply_set_bus] at hframe
  exact ⟨_, hexec, hread, hframe⟩

theorem exec_upperWordLatch_of_hit {s : State} {req a width : Nat} {h : RegHit} (hoff : s.spaceOff req = false) (hreg : regAt? (readHome a) = some h)
    (hstg : stagingReg? a = none) (hwide : h.desc.wide = true) (hlow : h.upper = false)
    (hrc : h.fields.all (fun e => e.1 != Access.rc) = true) (hdown : s.planeDown a = false) (hread : s.mayRead req a width = true)
    (ha : ¬(0x120_0000 ≤ a ∧ a < 0x128_0000)) :
    exec (.upperWordLatch req ⟨a, width⟩) s = .next ((s.run (readWide req width false h.addr (s.regRead req h) s)).run (hostTraffic req false width)) := by
  rw [exec_upperWordLatch hoff ha, readEffect_of_hit hdown hread hstg hreg, clearOnRead_of_no_rc hrc, run_append]
  simp [readGives, hwide, hlow]

theorem rcRead_clears {s : State} {req a hw : Nat} {h : RegHit} {f : Fld} (hs : s.Wf) (hoff : s.spaceOff req = false) (hreg : regAt? a = some h)
    (hf : h.fields = [(Access.rc, f)]) (h0 : f.addr ≠ (JRN_LOST.count 0).addr) (h1 : f.addr ≠ (JRN_LOST.count 1).addr)
    (h2 : f.addr ≠ (JRN_LOST.count 2).addr) (hmsg : messageField f = false) (hdown : s.planeDown a = false) (hread : s.mayRead req a 4 = true)
    (hkeeper : req = Req.keeper → s.keeperGated = false) :
    Gives (.rcRead req a hw) s (fun t => t.rd f = bits hw f.lsb f.width ∧ OnlyFields [f] { s with bus := t.bus } t) := by
  have hrc := not_noRcAt hreg hf
  have hhome : regAt? (readHome a) = some h := by rw [readHome_of_rc hrc, hreg]
  have heffect : readEffect req a 4 hw s = readGives req 4 h s ++ [.set f (bits hw f.lsb f.width)] := by
    rw [readEffect_of_hit hdown hread (no_staging_of_rc hrc) hhome, not_gated hkeeper, hf]
    simp [clearOnRead_rc h0 h1 h2]
  have hexec : exec (.rcRead req a hw) s = .next (s.run (readGives req 4 h s ++ .set f (bits hw f.lsb f.width) :: hostTraffic req false 4)) := by
    rw [exec_rcRead hoff, heffect, List.append_assoc, List.singleton_append]
  exact ⟨_, hexec, run_set_one hs hmsg (readGives_setsOnly [] req 4 h s) (hostTraffic_setsOnly [] req false 4) (bits_lt hw f.lsb f.width)⟩

/-- Settles O14, a clause for each form: a plain write, the two reads of a 64-bit register, and a clearing read (R5-R8). -/
theorem registerAccessTakesEffect : Obligations.RegisterAccessTakesEffect := by
  unfold Obligations.RegisterAccessTakesEffect
  refine ⟨?_, ?_, ?_, ?_⟩
  · intro s req a value hw d idx f hs hreach hlocked hreg hwide hf hstg hrow hmsg hlow hbits
    exact registerWrite_plain_rw hs hreach hlocked hreg hwide hf hstg hrow hmsg hlow hbits
  · intro s req a h _ hoff hreg hstg hwide hlow hrc hdown hread ha
    refine ⟨_, exec_upperWordLatch_of_hit hoff hreg hstg hwide hlow hrc hdown hread ha, ?_⟩
    simp only [hostTraffic_bus, hostTraffic_regs]
    exact ⟨find_insert_same _ _ _, get_readAs _ _ _, rfl⟩
  · intro s req a h _ hoff hreg hstg hwide hlow hrc hdown hread ha
    refine ⟨_, exec_upperWordLatch_of_hit hoff hreg hstg hwide hlow hrc hdown hread ha, ?_⟩
    simp only [hostTraffic_bus, hostTraffic_regs]
    exact ⟨get_readAs _ _ _, rfl, rfl⟩
  · intro s req a hw h f hs hoff hreg hf h0 h1 h2 hmsg hdown hread hkeeper
    exact rcRead_clears hs hoff hreg hf h0 h1 h2 hmsg hdown hread hkeeper

end Sys2Proof.Machine
end

section
/-! The statements on the step: it takes the command in front, idles without one, and whatever command runs, the queue behind it and the
canonical form of every table stand. -/

namespace Sys2Proof.Machine

/-- Settles O1: the definition of step, on a queue that is not empty. -/
theorem stepRunsTheCommandInFront : Obligations.StepRunsTheCommandInFront := by
  unfold Obligations.StepRunsTheCommandInFront
  intro s c rest hs
  simp only [step, hs]

/-- Settles O2: the definition of step, on an empty queue. -/
theorem emptyQueueIdles : Obligations.EmptyQueueIdles := by
  unfold Obligations.EmptyQueueIdles
  intro s hs
  simp only [step, hs]

theorem foldl_regsWrite_sorted (fs : List Fld) (v : Fld → Nat) {m : SMap Nat} (h : tableSorted m = true) :
    tableSorted (fs.foldl (fun m f => regsWrite m f (v f)) m) = true := by
  induction fs generalizing m with
  | nil => exact h
  | cons f fs ih => exact ih (regsWrite_sorted f (v f) h)

/-- What is made of a state in canonical form is in canonical form. -/
theorem Made.wf {s₀ s : State} (h : Made s₀ s) (hs : s₀.Wf) : s.Wf := by
  induction h with
  | here => exact hs
  | update u _ ih => exact apply_wf u ih
  | laws _ _ ihs iht =>
    obtain ⟨-, -, -, hlinks, hprd, -⟩ := ihs
    obtain ⟨hregs, hmem, hlanes, -, -, hjobs⟩ := iht
    exact ⟨hregs, hmem, hlanes, hlinks, hprd, hjobs⟩
  | own fs v _ ih => exact wf_regs ih (foldl_regsWrite_sorted fs v ih.1)

/-- A command that answers a next state makes it of the one it runs on. -/
theorem made_of_exec {c : Instr} {s t : State} (h : exec c s = .next t) : Made s t := by
  cases hc : inRatings c with
  | true =>
    obtain ⟨u, hu, made⟩ := (Made.here (s₀ := s)).exec hc
    cases h.symm.trans hu
    exact made
  | false =>
    obtain ⟨ins, rfl, hins⟩ := inRatings_eq_false hc
    cases h.symm.trans (exec_controlTick_outside s hins)

/-- Settles O5: what a command makes of a state has its queue. -/
theorem noCommandTouchesTheQueue : Obligations.NoCommandTouchesTheQueue := by
  unfold Obligations.NoCommandTouchesTheQueue
  exact fun c s t h => (made_of_exec h).pending

/-- Settles O4: a step idles or runs the command in front, and what that makes of a state keeps the form. -/
theorem canonicalFormIsKept : Obligations.CanonicalFormIsKept := by
  unfold Obligations.CanonicalFormIsKept
  intro s t hs h
  cases hq : s.pending with
  | nil =>
    cases h.symm.trans (emptyQueueIdles s hq)
    exact hs
  | cons c rest =>
    rw [stepRunsTheCommandInFront s c rest hq] at h
    exact (made_of_exec h).wf hs

end Sys2Proof.Machine
end

section
/-! SUPPORT and the settling of O53: what a management core's access to the device physical space stores, gives and leaves. -/

namespace Sys2Proof.Machine

/-! Bytes. -/

theorem length_leBytes (n v : Nat) : (leBytes n v).length = n := by
  induction n generalizing v with
  | zero => rfl
  | succ n ih => simp [leBytes, ih]

theorem lt_of_mem_leBytes {n v b : Nat} (h : b ∈ leBytes n v) : b < 256 := by
  induction n generalizing v with
  | zero => cases h
  | succ n ih =>
    obtain rfl | h := List.mem_cons.mp h
    · exact Nat.mod_lt _ (by decide)
    · exact ih h

theorem memBytes_succ (m : List Host.Cell) (a n : Nat) : memBytes m a (n + 1) = memByte m a :: memBytes m (a + 1) n := by
  simp [memBytes, List.range_succ_eq_map, Nat.add_assoc, Nat.add_comm 1]

/-- Written bytes read back. -/
theorem memBytes_setBytes_same {m : List Host.Cell} (a : Nat) {bs : List Nat} (hm : Memory.wf m = true) (hbs : ∀ b ∈ bs, b < 256) :
    memBytes (memSetBytes m a bs) a bs.length = bs := by
  induction bs generalizing m a with
  | nil => rfl
  | cons b bs ih =>
    obtain ⟨hb, hrest⟩ := List.forall_mem_cons.mp hbs
    have hfirst : memByte (memSetBytes (memSetByte m a b) (a + 1) bs) a = b := by
      rw [memByte_setBytes_out _ bs (.inl (Nat.lt_succ_self a)), memByte_set_same a b hm, Nat.mod_eq_of_lt hb]
    rw [List.length_cons, memBytes_succ, memSetBytes, hfirst, ih (a + 1) (memSetByte_wf a b hm) hrest]

/-! Updates that count, and their frame. -/

/-- The update only counts events or bytes (R522, R523). -/
def Upd.counts : Upd → Prop
  | .tally _ _ _ | .carry _ _ _ => True
  | _ => False

theorem run_counts {us : List Upd} (h : ∀ u ∈ us, u.counts) (s : State) : ∃ p, s.run us = { s with pmu := p } := by
  induction us generalizing s with
  | nil => exact ⟨s.pmu, rfl⟩
  | cons u us ih =>
    obtain ⟨hu, hus⟩ := List.forall_mem_cons.mp h
    obtain ⟨p, hp⟩ := ih hus (s.apply u)
    refine ⟨p, ?_⟩
    rw [run_cons, hp]
    cases u
    case tally | carry => rfl
    all_goals exact hu.elim

theorem onlyFields_pmu (fs : List Fld) (s : State) (p : PmcUnit) : OnlyFields fs s { s with pmu := p } := by
  simp [OnlyFields, State.rd]

theorem onlyFields_run_of_bus {fs : List Fld} {us : List Upd} {s : State} (h : ∀ u ∈ us, u.setsOnly fs) (hbus : (s.run us).bus = s.bus) :
    OnlyFields fs s (s.run us) := by
  have hrun := onlyFields_run h s
  rwa [hbus] at hrun

theorem lpTraffic_counts (isWrite : Bool) (a n : Nat) (s : State) : ∀ u ∈ lpTraffic isWrite a n s, u.counts := by
  unfold lpTraffic
  split
  · simp
  · intro u hu
    obtain ⟨g, -, hu⟩ := List.mem_flatMap.mp hu
    obtain rfl | rfl : u = _ ∨ u = _ := by simpa using hu
    · trivial
    · trivial

theorem coreTraffic_counts (isWrite : Bool) (a n : Nat) (s : State) : ∀ u ∈ coreTraffic isWrite a n s, u.counts := by
  unfold coreTraffic
  refine all_append (lpTraffic_counts isWrite a n s) ?_
  split
  · exact all_onlyIf fun _ u hu => by rw [List.mem_singleton.mp hu]; trivial
  · simp

/-! A write (R36, R410, R411). -/

/-- While no channel of the range has failed, all the bytes are stored (R506). -/
theorem storeLive_of_live {s : State} {a : Nat} {bs : List Nat} (hbs : bs.length ≠ 0)
    (hlive : ∀ x, a ≤ x → x < a + bs.length → s.channelDead x = false) : storeLive a bs s = [.store a bs] := by
  unfold storeLive
  extract_lets parts
  refine if_pos (List.all_eq_true.mpr fun x hx => ?_)
  obtain ⟨g, hg, rfl⟩ := List.mem_map.mp hx
  have hg := List.mem_range.mp hg
  have hdead := hlive (max a ((a / 4096 + g) * 4096)) (Nat.le_max_left _ _) (by omega)
  simp [hdead]

/-- A core's write to live memory stores its bytes, counts them, and may ring the keeper. -/
theorem memStore_of_live {s : State} {req a n data : Nat} (hn : n ≠ 0) (hlive : ∀ x, a ≤ x → x < a + n → s.channelDead x = false) :
    ∃ rings, memStore req a n data s = .store a (leBytes n data) :: (coreTraffic true a n s ++ rings) ∧ (rings = [] ∨ ∃ c, rings = ringGate c s) := by
  have hstore : storeLive a (leBytes n data) s = [.store a (leBytes n data)] :=
    storeLive_of_live (by rwa [length_leBytes]) (by rwa [length_leBytes])
  unfold memStore
  rw [hstore]
  split
  next c _ =>
    split
    · exact ⟨ringGate c s, rfl, .inr ⟨c, rfl⟩⟩
    · exact ⟨[], rfl, .inl rfl⟩
  next => exact ⟨[], rfl, .inl rfl⟩

theorem onlyFields_ringGate (c : Nat) (s t : State) : OnlyFields [KPR_GATEPEND.pend, V.gateOrder] t (t.run (ringGate c s)) := by
  unfold ringGate
  refine onlyFields_run_of_bus (all_onlyIf fun _ u hu => ?_) ?_
  · obtain rfl | rfl : u = _ ∨ u = _ := by simpa using hu
    · exact List.mem_cons_self
    · exact List.mem_cons_of_mem _ List.mem_cons_self
  · unfold onlyIf
    split <;> rfl

/-- After a core's write to live memory only its bytes, the doorbell and the counts differ. -/
theorem memStore_frame {s : State} {req a n data : Nat} (hn : n ≠ 0) (hlive : ∀ x, a ≤ x → x < a + n → s.channelDead x = false) :
    OnlyFields [KPR_GATEPEND.pend, V.gateOrder] (s.apply (.store a (leBytes n data))) (s.run (memStore req a n data s)) := by
  obtain ⟨rings, hmem, hrings⟩ := memStore_of_live (req := req) (data := data) hn hlive
  obtain ⟨p, hp⟩ := run_counts (coreTraffic_counts true a n s) (s.apply (.store a (leBytes n data)))
  rw [hmem, run_cons, run_append, hp]
  refine (onlyFields_pmu _ _ p).trans ?_
  obtain rfl | ⟨c, rfl⟩ := hrings
  · exact onlyFields_run_of_bus (by simp) rfl
  · exact onlyFields_ringGate c s _

theorem deviceMemoryAccess_writes {s : State} {req a n data bad : Nat} (hs : s.Wf) (hcore : isCore req = true) (hn : n ≠ 0)
    (hmap : s.unmapped a n = false) (hmay : s.coreMay req a n true = true) (hwait : s.memWaits a = false)
    (hgated : s.rd KPR_GQUEUE.gated = 0) (hwrites : s.coreWrites req a = true) (hlive : ∀ x, a ≤ x → x < a + n → s.channelDead x = false) :
    Gives (.deviceMemoryAccess req true a n data bad) s (fun t => memBytes t.mem a n = leBytes n data ∧
      (∀ b, b < a ∨ a + n ≤ b → memByte t.mem b = memByte s.mem b) ∧
      OnlyFields [KPR_GATEPEND.pend, V.gateOrder] { s with mem := t.mem, ue := t.ue, memu := t.memu } t) := by
  have hopen : s.keeperGated = false := by simp [State.keeperGated, State.on, hgated]
  have hexec : exec (.deviceMemoryAccess req true a n data bad) s = .next (s.run (memStore req a n data s)) := by
    show execDeviceMemoryAccess req true a n data bad s = _
    simp [execDeviceMemoryAccess, hcore, hn, hopen, hmap, hmay, hwait, hwrites]
  have hframe := memStore_frame (req := req) (data := data) hn hlive
  obtain ⟨-, hmem, -, -, -, -, -, -, -, -, -, -, -, -, -, hmemu, hue, -⟩ := hframe
  rw [apply_store] at hmem
  refine ⟨_, hexec, ?_, fun b hb => ?_, ?_⟩
  · obtain ⟨-, hwf, -⟩ := hs
    have hback := memBytes_setBytes_same a hwf fun b => lt_of_mem_leBytes (n := n) (v := data)
    rwa [length_leBytes, ← hmem] at hback
  · rw [hmem, memByte_setBytes_out _ _ (by rwa [length_leBytes])]
  · rw [hmem, hmemu, hue]
    exact memStore_frame hn hlive

/-! A read (R36, R496). -/

/-- A read of a range without an error finds none. -/
theorem checkRead_of_clean {s : State} {a n : Nat} (hce : wordsIn s.memu.ce a n = []) (hbad : s.badWord? a n = none) : checkRead a n s = s := by
  have hue : wordsIn s.ue a n = [] := by
    unfold State.badWord? at hbad
    split at hbad
    next => cases hbad
    next h => exact h
  have hnone : s.doEach (wordsIn s.memu.ce a n) foundCe = s := by rw [hce]; rfl
  unfold checkRead
  extract_lets t
  have ht : t = s := hnone
  rw [ht, hue]
  simp only [hbad]

theorem deviceMemoryAccess_reads {s : State} {req a n bad : Nat} (hcore : isCore req = true) (hn : n ≠ 0) (hmap : s.unmapped a n = false)
    (hmay : s.coreMay req a n false = true) (hwait : s.memWaits a = false) (hce : wordsIn s.memu.ce a n = []) (hbad : s.badWord? a n = none) :
    Gives (.deviceMemoryAccess req false a n 0 bad) s
      (fun t => tableGet 0 t.bus.data req = ofLe (s.physBytes a n) ∧ t.mem = s.mem ∧ t.regs = s.regs) := by
  obtain ⟨p, hp⟩ := run_counts (coreTraffic_counts false a n s) s
  have hexec : exec (.deviceMemoryAccess req false a n 0 bad) s =
      .next (({ s with pmu := p } : State).run [giveData req (ofLe (s.physBytes a n)) { s with pmu := p }]) := by
    show execDeviceMemoryAccess req false a n 0 bad s = _
    simp [execDeviceMemoryAccess, hcore, hn, hmap, hmay, hwait, coreRead, hbad, checkRead_of_clean hce hbad, hp]
  exact ⟨_, hexec, get_readAs s.bus.data req _, rfl, rfl⟩

/-! A register read that no grant passes (R410). -/

theorem grantFilteredRead_gives_nothing {s : State} {req a width : Nat} (hcore : isServiceCore req = true) (hup : s.planeDown a = false)
    (hgrant : s.mayRead req a width = false) :
    Gives (.grantFilteredRead req a width) s (fun t => tableGet 0 t.bus.data req = 0 ∧ Raised Ty.DISCARDED_WRITE t ∧
      OnlyFields [] { s with bus := t.bus } t) := by
  have hexec : exec (.grantFilteredRead req a width) s =
      .next (s.run [giveData req 0 s, .emit (discardedRec req 2 0 true width 0 a)]) := by
    show execGrantFilteredRead req a width s = _
    simp [execGrantFilteredRead, hcore, hup, hgrant]
  refine ⟨_, hexec, get_readAs s.bus.data req 0, raised_emit _ (discardedRec req 2 0 true width 0 a), onlyFields_run (fun u hu => ?_) s⟩
  obtain rfl | rfl : u = _ ∨ u = _ := by simpa using hu
  · trivial
  · trivial

/-- Settles O53, a clause for each form: a core's write, its read, and a register read that no grant passes (R36, R410). -/
theorem memoryAccessesTakeEffect : Obligations.MemoryAccessesTakeEffect := by
  unfold Obligations.MemoryAccessesTakeEffect
  refine ⟨?_, ?_, ?_⟩
  · intro s req a n data bad hs hcore hn hmap hmay hwait hgated hwrites hlive
    exact deviceMemoryAccess_writes hs hcore hn hmap hmay hwait hgated hwrites hlive
  · intro s req a n bad _ hcore hn hmap hmay hwait hce hbad
    exact deviceMemoryAccess_reads hcore hn hmap hmay hwait hce hbad
  · intro s req a width _ hcore hup hgrant
    exact grantFilteredRead_gives_nothing hcore hup hgrant

end Sys2Proof.Machine
end

section
/-! The statement on accesses that do not act fails: a write without a grant can abort its requester's transaction (R57, R59). -/

namespace Sys2Proof.Machine

/-- The state after reset, but for a transaction that core 2 has open; core 2 holds no grant. -/
def ungrantedOwner : State := State.reset.run [.set TIM_TXSTAT.state TxS.openS, .set TIM_TXSTAT.owner 2]

/-- R57: the owner writes a register of RWT fields outside its grants, and the transaction aborts. -/
theorem ungrantedOwner_write_aborts :
    (stateAfter ungrantedOwner (exec (.registerWrite 2 (JOB_JSUB.sub 0).addr 4 0 0) ungrantedOwner)).rd TIM_TXSTAT.state = TxS.aborted := by
  decide +kernel

/-- Refutes O9: a write without a grant to a register of RWT fields, by the owner of the open transaction, moves TIM_TXSTAT.state to ABORTED,
as R57 and R59 have it, where the fifth clause lets no register change. -/
theorem not_accessesThatDoNotAct : ¬ Obligations.AccessesThatDoNotAct := by
  unfold Obligations.AccessesThatDoNotAct
  rintro ⟨-, -, -, -, hungranted, -⟩
  obtain ⟨t, hexec, -, hfields, -⟩ :=
    hungranted ungrantedOwner 2 (JOB_JSUB.sub 0).addr 4 0 0 (by decide +kernel) (by decide) (by decide +kernel)
  have haborted : t.rd TIM_TXSTAT.state = TxS.aborted := by
    have h := ungrantedOwner_write_aborts
    rwa [hexec] at h
  have hopen : ungrantedOwner.rd TIM_TXSTAT.state = TxS.openS := by decide +kernel
  have hsame : t.rd TIM_TXSTAT.state = ungrantedOwner.rd TIM_TXSTAT.state := hfields TIM_TXSTAT.state (by decide) (by simp)
  rw [haborted, hopen] at hsame
  exact absurd hsame (by decide)

end Sys2Proof.Machine
end

section
/-! The statement on State.reset, and the one on tray time, which fails: AUX_DROPOUT holds every plane in cold reset (R40, R554). -/

namespace Sys2Proof.Machine

/-- Settles O3: State.reset lists nothing, so every field reads its reset value and every table is canonical. -/
theorem resetState : Obligations.ResetState := by
  unfold Obligations.ResetState
  exact ⟨fun _ => rfl, rfl, rfl, rfl, rfl, rfl, rfl, rfl, rfl, rfl, rfl, rfl, rfl⟩

/-- One tick after reset, in the hold-up after a power-fail warning. -/
def warnedAfterTick : State := { State.reset.run [.set CRP_PFSTAT.warn 1] with now := 4000 }

/-- R554: below AUX12's drop-out every plane is held in cold reset, whose start puts tray time to 0 (R40). -/
theorem auxDropout_restarts_time : (stateAfter warnedAfterTick (exec .auxDropout warnedAfterTick)).now = 0 := by decide +kernel

/-- Refutes O6: AUX_DROPOUT, which carries nothing that a cold reset finds and so is not among `coldResetPossible`, takes tray time from 4,000 to 0. -/
theorem not_trayTimeNeverStepsBack : ¬ Obligations.TrayTimeNeverStepsBack := by
  unfold Obligations.TrayTimeNeverStepsBack
  rintro ⟨hforward, -⟩
  obtain ⟨t, ht⟩ := everyCommandAnswers.1 .auxDropout warnedAfterTick rfl
  have hback : t.now = 0 := by
    have h := auxDropout_restarts_time
    rwa [ht] at h
  have hle : (4000 : Nat) ≤ t.now := hforward .auxDropout warnedAfterTick t ht rfl
  omega

end Sys2Proof.Machine
end

section
/-! The size of a capture frame, and JRN_CAPFRAMES (R73). -/

namespace Sys2Proof.Machine

theorem ceilDiv_mul_bounds (n : Nat) {m : Nat} (hm : 0 < m) : n ≤ ceilDiv n m * m ∧ ceilDiv n m * m < n + m := by
  rw [ceilDiv, if_neg (by omega)]
  have hdiv := Nat.div_add_mod (n + m - 1) m
  have hmod := Nat.mod_lt (n + m - 1) hm
  rw [Nat.mul_comm] at hdiv
  omega

/-- The least multiple of 64 bytes that holds what the selection asks for (R73). -/
theorem frameSize_bounds {s : State} {ch pr pb : Nat} (hch : ch = 39 * popCount 8 (s.rd JRN_CAPSLOT.slots) + 8 * s.rd JRN_CAPSLOT.tray)
    (hpr : pr = popCount 24 (s.rd JRN_CAPSEL.vsen)) (hpb : pb = 64 * s.rd JRN_CAPSEL.probes) :
    s.frameSize % 64 = 0 ∧ 64 + 8 * ch + 32 * pr + 4 * pb ≤ s.frameSize ∧ s.frameSize < 64 + 8 * ch + 32 * pr + 4 * pb + 64 := by
  have htray : (if s.on JRN_CAPSLOT.tray then 8 else 0) = 8 * s.rd JRN_CAPSLOT.tray := by
    have hbit : s.rd JRN_CAPSLOT.tray < 2 := rd_lt s JRN_CAPSLOT.tray
    obtain h | h : s.rd JRN_CAPSLOT.tray = 0 ∨ s.rd JRN_CAPSLOT.tray = 1 := by omega
    all_goals simp [State.on, h]
  have hsize : s.frameSize = ceilDiv (64 + 8 * ch + 32 * pr + 4 * pb) 64 * 64 := by
    simp only [State.frameSize, htray, hch, hpr, hpb]
  rw [hsize]
  exact ⟨Nat.mul_mod_left _ _, ceilDiv_mul_bounds _ (by decide)⟩

/-- While capture is disarmed JRN_CAPFRAMES shows the frames of the ring that the selection would have. -/
theorem view_capFrames_of_disarmed {s : State} (h : s.rd JRN_CAPCTL.state = 0) : s.view JRN_CAPFRAMES.frames = s.ringFrames := by
  unfold State.view
  simp (decide := true) only [if_false, if_true, h]

theorem readEffect_capFrames {s : State} {req hw : Nat} (hstate : s.rd JRN_CAPCTL.state = 0) (hdown : s.planeDown 0x18_0214 = false)
    (hread : s.mayRead req 0x18_0214 4 = true) : readEffect req 0x18_0214 4 hw s = [giveData req s.ringFrames s] := by
  have hfields : (⟨JRN_CAPFRAMES.desc, [], 0x18_0214, false⟩ : RegHit).fields = [(.ro, JRN_CAPFRAMES.frames)] := rfl
  have hvalue : s.regRead req ⟨JRN_CAPFRAMES.desc, [], 0x18_0214, false⟩ = s.ringFrames := by
    have hlsb : JRN_CAPFRAMES.frames.lsb = 0 := rfl
    simp [State.regRead, hfields, State.fieldRead, Access.keeperOnly, view_capFrames_of_disarmed hstate, hlsb]
  have hwide : JRN_CAPFRAMES.desc.wide = false := rfl
  rw [readEffect_of_hit hdown hread (by decide) (h := ⟨JRN_CAPFRAMES.desc, [], 0x18_0214, false⟩) rfl, clearOnRead_of_no_rc (by decide)]
  simp [readGives, hwide, hvalue]

/-- Settles O10: the rounding of R73, and the read of a register whose value is the ring's (R77). -/
theorem captureFrameAndRing : Obligations.CaptureFrameAndRing := by
  unfold Obligations.CaptureFrameAndRing
  intro s req hw ch pr pb _ hoff hstate hheld hread hch hpr hpb
  obtain ⟨hmultiple, hholds, hleast⟩ := frameSize_bounds hch hpr hpb
  have hdown : s.planeDown 0x18_0214 = false := planeDown_of_held (b := ⟨0x018_0000, 0x020_0000, 2, descsJRN⟩) rfl hheld
  have heffect := readEffect_capFrames (hw := hw) hstate hdown hread
  refine ⟨_, exec_rcRead hoff 0x18_0214 hw, hmultiple, hholds, hleast, ?_, onlyFields_run ?_ s⟩
  · rw [heffect, run_append, hostTraffic_bus]
    exact get_readAs s.bus.data req _
  · rw [heffect]
    exact all_append (fun u hu => by rw [List.mem_singleton.mp hu]; trivial) (hostTraffic_setsOnly [] req false 4)

end Sys2Proof.Machine
end

section
/-! The statement on staged writes fails: the record of a STGCANCEL can be the one that finds the staging area three quarters full, and then JRN's
event line rises in the register file (R54, R68, R463). -/

namespace Sys2Proof.Machine

/-! A record that the writer accepts in a crowded staging area. -/

theorem lose_stageHi (f : Firn) (c cause seq n : Nat) : (f.lose c cause seq n).stageHi = f.stageHi := by
  unfold Firn.lose
  split <;> rfl

/-- A record accepted with three quarters of the staging area taken sets JRN_STAT.stage_hi (R68). -/
theorem accept_sets_stageHi {f : Firn} (h : 3 * areaRoom ≤ 4 * f.area.length) (now : Nat) (r : Rec) : (f.accept now r).stageHi = true := by
  unfold Firn.accept
  extract_lets c cs f1 w
  have hf1 : f1.stageHi = true := by simp [f1, h]
  split
  · rw [lose_stageHi, hf1]
  · exact hf1

/-- Before an image allocates slots, a source of a tick without records has its slot. -/
theorem raise_sets_stageHi {f : Firn} (hstart : f.started = true) (hused : f.used = []) (hslots : f.slots = [])
    (h : 3 * areaRoom ≤ 4 * f.area.length) (now : Nat) (r : Rec) : (f.raise now r).stageHi = true := by
  unfold Firn.raise
  extract_lets seen f' u
  have hstart' : f'.started = true := hstart
  have hused' : f'.used = [] := hused
  have hslots' : f'.slots = [] := hslots
  have haccept : (f'.accept now r).stageHi = true := accept_sets_stageHi (f := f') h now r
  have hslot : f'.slotsOf r.src = if fixedSource r.src then some fixedSlots else none := by
    cases hsrc : fixedSource r.src <;> simp [Firn.slotsOf, hsrc, hused', hslots', Firn.usedFixed, tableGet, tableFind?]
  have hfree : u = 0 := by simp only [u, hused']; rfl
  rw [if_neg (by simp [hstart']), hslot]
  cases fixedSource r.src
  · exact haccept
  · simpa [hfree, fixedSlots] using haccept

/-- Such a record raises JRN's event line (R463). -/
theorem emit_raises_jrnLine {s : State} {f : Firn} (hf : s.firn = f) (hstart : f.started = true) (hused : f.used = []) (hslots : f.slots = [])
    (hlow : f.stageHi = false) (h : 3 * areaRoom ≤ 4 * f.area.length) (r : Rec) : (s.apply (.emit r)).regs = raiseLine 21 s.regs := by
  subst hf
  simp [State.apply, jrnLine, raise_sets_stageHi hstart hused hslots h s.now r, hlow]

/-! The state. -/

/-- A value that the rack manager has staged in TIM. -/
def rackStaged : Staged := ⟨0x10_0000, Req.rack, 8000, TIM_DISCCFG.kp.addr, TIM_DISCCFG.kp.lsb, TIM_DISCCFG.kp.width, 0, 1, 1, 0⟩

/-- Records that take three quarters of the staging area. -/
def crowdedArea : List StagedRec := List.replicate 196608 ⟨0, 0, 3, false, 0, { typ := 0, src := 0, pay := [] }⟩

theorem crowdedArea_length : crowdedArea.length = 196608 := List.length_replicate

/-- The writer with them. -/
def crowdedFirn : Firn := { started := true, area := crowdedArea }

theorem crowdedFirn_crowded : 3 * areaRoom ≤ 4 * crowdedFirn.area.length := by
  have harea : crowdedFirn.area = crowdedArea := rfl
  have hroom : areaRoom = 262144 := rfl
  rw [harea, crowdedArea_length, hroom]

/-- The staging area is crowded, JRN_STAT.stage_hi has been cleared, JRN's event vector is enabled, MSI-X is on and the function may
not master the bus; the rack manager has staged one value. -/
def crowdedStaging : State :=
  { State.reset.run [.set V.msixOn 1, .set (HIF_IVEC.en 21) 1] with
    firn := crowdedFirn
    staging := { stamps := [⟨0x10_0000, Req.rack, 8000⟩], vals := [rackStaged] } }

/-- The STAGE_CANCEL record that the withdrawal brings (R55). -/
def rackCancelled : Rec :=
  { typ := Ty.STAGE_CANCEL, src := stageSrc 0x10_0000, pay := [(24, 4, 0x10_0000), (28, 1, Req.rack), (29, 1, 1), (30, 2, 1), (32, 8, 8000)] }

theorem crowdedStaging_cancel : exec (.stgCancel Req.rack 0x10_0000) crowdedStaging =
    .next ((crowdedStaging.apply (.staging { crowdedStaging.staging with vals := [] })).apply (.emit rackCancelled)) := rfl

/-- Refutes O15: the STAGE_CANCEL record of the first clause raises JRN's event line and so sets a pending bit of HIF_PBA, where the clause lets the
register file stand as it is. -/
theorem not_stagedWritesTakeEffect : ¬ Obligations.StagedWritesTakeEffect := by
  unfold Obligations.StagedWritesTakeEffect
  rintro ⟨hcancel, -, -⟩
  obtain ⟨t, hexec, -, hregs⟩ := hcancel crowdedStaging Req.rack 0x10_0000 8000 ⟨rfl, rfl, rfl, rfl, rfl, rfl⟩ rfl rfl rfl
    (fun h => absurd h (by decide)) (fun h => absurd h (by decide)) rfl
  rw [crowdedStaging_cancel] at hexec
  obtain rfl := Host.Outcome.next.inj hexec
  rw [emit_raises_jrnLine (s := crowdedStaging.apply (.staging { crowdedStaging.staging with vals := [] })) (f := crowdedFirn) rfl rfl rfl rfl rfl
    crowdedFirn_crowded rackCancelled] at hregs
  exact absurd hregs (by decide +kernel)

end Sys2Proof.Machine
end

section
/-! SUPPORT. What a list of updates leaves in one field, as tests that a list can be put to; and a command that no gate holds back. -/

namespace Sys2Proof.Machine

/-- The update leaves a field. -/
def Upd.clears (g : Fld) : Upd → Bool
  | .set f _ => g.key != f.key
  | .resetRegs lo hi => decide (g.key < lo * 64) || decide (hi * 64 ≤ g.key)
  | .flushVectors => false
  | _ => true

theorem Upd.keeps_of_clears {g : Fld} {u : Upd} (h : u.clears g = true) : u.keeps g := by
  cases u
  case set f v => simpa [Upd.clears, Upd.keeps] using h
  case resetRegs lo hi => simpa [Upd.clears, Upd.keeps] using h
  case flushVectors => cases h
  all_goals trivial

/-- A field that no update of a list touches. -/
theorem rd_run_clear {s : State} {g : Fld} (hm : messageField g = false) {us : List Upd} (h : us.all (·.clears g) = true) :
    (s.run us).rd g = s.rd g :=
  rd_run_keeps hm fun u hu => Upd.keeps_of_clears (List.all_eq_true.mp h u hu)

/-- A field that a list of updates sets, and that none after touches. -/
theorem rd_run_sets {s : State} (hs : s.Wf) {g : Fld} (hm : messageField g = false) (us : List Upd) {vs : List Upd} (v : Nat)
    (h : vs.all (·.clears g) = true) : (s.run (us ++ .set g v :: vs)).rd g = v % 2 ^ g.width :=
  rd_run_set hs hm us vs v fun u hu => Upd.keeps_of_clears (List.all_eq_true.mp h u hu)

/-- The value that an update gives a field. -/
def Upd.value? (g : Fld) : Upd → Option Nat
  | .set f v => if f = g then some v else none
  | _ => none

/-- The value that a list of updates leaves in a field, where the last of them that touches the field sets it. -/
def lastSet (g : Fld) : List Upd → Option Nat
  | [] => none
  | u :: us => (lastSet g us).or (if us.all (·.clears g) then u.value? g else none)

theorem Upd.eq_set_of_value? {g : Fld} {u : Upd} {v : Nat} (h : u.value? g = some v) : u = .set g v := by
  cases u
  case set f w =>
    obtain ⟨rfl, rfl⟩ : f = g ∧ w = v := by simpa [Upd.value?] using h
    rfl
  all_goals cases h

/-- A field reads what a list of updates leaves in it. -/
theorem rd_run_lastSet {s : State} (hs : s.Wf) {g : Fld} (hm : messageField g = false) {us : List Upd} {v : Nat} (h : lastSet g us = some v) :
    (s.run us).rd g = v % 2 ^ g.width := by
  induction us generalizing s with
  | nil => cases h
  | cons u us ih =>
    unfold lastSet at h
    cases hlast : lastSet g us with
    | some w =>
      rw [hlast, Option.some_or] at h
      exact ih (apply_wf u hs) (hlast.trans h)
    | none =>
      rw [hlast, Option.none_or] at h
      split at h
      next hclear =>
        rw [Upd.eq_set_of_value? h]
        exact rd_run_sets hs hm [] v hclear
      next => cases h

/-- A list of updates leaves a field what its second part does. -/
theorem rd_run_append_lastSet {s : State} (hs : s.Wf) {g : Fld} (hm : messageField g = false) (us : List Upd) {vs : List Upd} {v : Nat}
    (h : lastSet g vs = some v) : (s.run (us ++ vs)).rd g = v % 2 ^ g.width := by
  rw [run_append]
  exact rd_run_lastSet (run_wf us hs) hm h

/-- The update leaves tray time. -/
def Upd.timeless : Upd → Bool
  | .clock _ | .coldStart => false
  | _ => true

theorem now_apply_timeless {s : State} {u : Upd} (h : u.timeless = true) : (s.apply u).now = s.now := by
  cases u
  case clock | coldStart => cases h
  case flushVectors => rw [apply_flush]
  all_goals rfl

theorem now_run_timeless {s : State} {us : List Upd} (h : us.all Upd.timeless = true) : (s.run us).now = s.now := by
  induction us generalizing s with
  | nil => rfl
  | cons u us ih =>
    obtain ⟨hu, hus⟩ := by simpa using h
    rw [run_cons, ih (by simpa using hus), now_apply_timeless hu]

theorem gated_of_reaches {s : State} {req a width value : Nat} {ko : Bool} (h : s.Reaches req a width value ko) (t : State) :
    s.gated req a width value ko t = .next (t.run (hostTraffic req true width)) := by
  obtain ⟨hoff, hgate, hkeeper⟩ := h
  simp [State.gated, keeperQueues, hoff, hgate, not_gated hkeeper]

/-- A host access moves no register field. -/
@[simp] theorem rd_run_hostTraffic (s : State) (req : Nat) (isWrite : Bool) (n : Nat) (g : Fld) : (s.run (hostTraffic req isWrite n)).rd g = s.rd g :=
  rd_of_regs g (hostTraffic_regs s req isWrite n)

end Sys2Proof.Machine
end

section
/-! The commands of the capture ring (R73, R74). -/

namespace Sys2Proof.Machine

theorem captureArm_arms {s : State} {req : Nat} (hs : s.Wf) (hreach : s.Reaches req 0x18_0200 4 1 false)
    (hstate : s.rd JRN_CAPCTL.state = CapS.disarmed) (htick : s.rd V.capTrigTick ≠ s.tick + 1) :
    Gives (.captureArm req) s (fun t => t.rd JRN_CAPCTL.state = CapS.armed ∧ t.rd JRN_CAPFRAMES.frames = s.ringFrames % 2 ^ JRN_CAPFRAMES.frames.width) := by
  have hfx : armFx s = [.wipe 0xC100_0000 0xE000_0000, .set JRN_CAPFRAMES.frames s.ringFrames, .set V.capValid 0, .set V.capNext 0, .set V.capPost 0,
      .set V.capFlags 0, .set JRN_CAPCTL.state CapS.armed] := by
    simp [armFx, onlyIf, htick]
  have hexec : exec (.captureArm req) s = .next ((s.run (armFx s)).run (hostTraffic req true 4)) := by
    show execCaptureArm req s = _
    rw [execCaptureArm, gated_of_reaches hreach, if_pos hstate, does_eq]
  refine ⟨_, hexec, ?_, ?_⟩
  · rw [rd_run_hostTraffic, hfx]
    exact rd_run_lastSet hs (g := JRN_CAPCTL.state) (v := CapS.armed) (by decide) rfl
  · rw [rd_run_hostTraffic, hfx]
    exact rd_run_lastSet hs (g := JRN_CAPFRAMES.frames) (by decide) rfl

/-- The first trigger of a control tick marks the frame of an armed ring (R74). -/
theorem captureTrigger_posts {s : State} {req : Nat} (hs : s.Wf) (hsrc : s.capSources false ≠ 0) (harmed : s.capState = CapS.armed)
    (htick : s.rd V.capTrigTick ≠ s.tick + 1) :
    Gives (.captureTrigger false req) s (fun t => t.rd JRN_CAPCTL.state = CapS.post ∧
      t.rd JRN_CAPPOS.pos = s.rd V.capNext % 2 ^ JRN_CAPPOS.pos.width ∧ t.rd V.capTrigTick = (s.tick + 1) % 2 ^ V.capTrigTick.width ∧ t.now = s.now) := by
  have hexec : exec (.captureTrigger false req) s = .next (s.run (triggerFx (s.capSources false) s)) := by
    show execCaptureTrigger false req s = _
    simp [execCaptureTrigger, hsrc]
  have hfx : triggerFx (s.capSources false) s =
      ([.set V.capSrcs (s.rd V.capSrcs ||| s.capSources false)] ++ onlyIf (bit (s.capSources false) 2 && s.rd V.capTyp == 0) [.set V.capTyp s.capType]) ++
        (.set V.capTrigTick (s.tick + 1) :: .set V.capWas CapS.armed :: .set V.capAt s.now :: markTrigger (s.rd V.capNext) s.now) := by
    simp only [triggerFx, bne_iff_ne.mpr htick, onlyIf_true, harmed, if_true]
    rfl
  refine ⟨_, hexec, ?_, ?_, ?_, ?_⟩
  · rw [hfx]
    exact rd_run_append_lastSet hs (g := JRN_CAPCTL.state) (v := CapS.post) (by decide) _ rfl
  · rw [hfx]
    exact rd_run_append_lastSet hs (g := JRN_CAPPOS.pos) (by decide) _ rfl
  · rw [hfx]
    exact rd_run_append_lastSet hs (g := V.capTrigTick) (by decide) _ rfl
  · rw [hfx]
    refine now_run_timeless ?_
    cases bit (s.capSources false) 2 && s.rd V.capTyp == 0 <;> rfl

theorem captureFreeze_freezes {s : State} (hs : s.Wf) (hstate : s.rd JRN_CAPCTL.state = CapS.post) (hflag : bit (s.rd V.capFlags) 0 = false)
    (hframes : s.rd JRN_CAPFRAMES.frames ≤ s.rd V.capPost + 1 + s.rd JRN_CAPPRE.pre) :
    Gives .captureFreeze s (fun t => t.rd JRN_CAPCTL.state = CapS.frozen ∧ OnlyFields [JRN_CAPCTL.state] s t) := by
  have hexec : exec .captureFreeze s = .next (s.run [.set JRN_CAPCTL.state CapS.frozen]) := by
    show execCaptureFreeze s = _
    simp [execCaptureFreeze, hstate, hflag, hframes]
  exact ⟨_, hexec, run_set_one hs (by decide) (us := []) (vs := []) (by simp) (by simp) (by decide)⟩

theorem captureRelease_disarms {s : State} {req : Nat} (hs : s.Wf) (hreach : s.Reaches req 0x18_0200 4 4 false)
    (hstate : s.rd JRN_CAPCTL.state = CapS.frozen) :
    Gives (.captureRelease req) s (fun t => t.rd JRN_CAPCTL.state = CapS.disarmed ∧ OnlyFields [JRN_CAPCTL.state] s t) := by
  have hexec : exec (.captureRelease req) s = .next (s.run (.set JRN_CAPCTL.state CapS.disarmed :: hostTraffic req true 4)) := by
    show execCaptureRelease req s = _
    rw [execCaptureRelease, gated_of_reaches hreach, if_pos hstate]
    rfl
  obtain ⟨hread, hframe⟩ := run_set_one hs (f := JRN_CAPCTL.state) (by decide) (us := []) (by simp) (hostTraffic_setsOnly [] req true 4)
    (v := CapS.disarmed) (by decide)
  rw [List.nil_append] at hread hframe
  rw [run_cons, hostTraffic_bus, apply_set_bus] at hframe
  exact ⟨_, hexec, hread, hframe⟩

/-- Settles O21, a clause for each form: the ring is armed, triggered, frozen and released (R73, R74). -/
theorem captureCommandsTakeEffect : Obligations.CaptureCommandsTakeEffect := by
  unfold Obligations.CaptureCommandsTakeEffect
  refine ⟨?_, ?_, ?_, ?_⟩
  · intro s req hs hreach hstate htick
    exact captureArm_arms hs hreach hstate htick
  · intro s req hs _ hsrc harmed htick
    exact captureTrigger_posts hs hsrc harmed htick
  · intro s hs hstate hflag hframes
    exact captureFreeze_freezes hs hstate hflag hframes
  · intro s req hs hreach hstate
    exact captureRelease_disarms hs hreach hstate

end Sys2Proof.Machine
end

section
/-! What a transaction's requests do: BEGIN, the owner's writes, TXSTAMP, COMMIT and ABORT (R56-R59, R586). -/

namespace Sys2Proof.Machine

/-! Requests that no gate holds back. -/

/-- A host access moves the count of bytes alone. -/
theorem run_hostTraffic (s : State) (req : Nat) (isWrite : Bool) (n : Nat) : ∃ p, s.run (hostTraffic req isWrite n) = { s with pmu := p } := by
  unfold hostTraffic onlyIf
  split <;> exact ⟨_, rfl⟩

@[simp] theorem hostTraffic_tx (s : State) (req : Nat) (isWrite : Bool) (n : Nat) : (s.run (hostTraffic req isWrite n)).tx = s.tx := by
  obtain ⟨p, hp⟩ := run_hostTraffic s req isWrite n
  rw [hp]

@[simp] theorem hostTraffic_firn (s : State) (req : Nat) (isWrite : Bool) (n : Nat) : (s.run (hostTraffic req isWrite n)).firn = s.firn := by
  obtain ⟨p, hp⟩ := run_hostTraffic s req isWrite n
  rw [hp]

@[simp] theorem hostTraffic_staging (s : State) (req : Nat) (isWrite : Bool) (n : Nat) : (s.run (hostTraffic req isWrite n)).staging = s.staging := by
  obtain ⟨p, hp⟩ := run_hostTraffic s req isWrite n
  rw [hp]

theorem keeperQueues_open {s : State} {req : Nat} (hoff : s.spaceOff req = false) (hkeeper : req = Req.keeper → s.keeperGated = false)
    (a width value : Nat) (t : State) : keeperQueues req a width value s t = .next (t.run (hostTraffic req true width)) := by
  simp [keeperQueues, hoff, not_gated hkeeper]

theorem keeper_spaceOn (s : State) : s.spaceOff Req.keeper = false := rfl

/-- The low bits of a number alone decide its low bits. -/
theorem bitsOf_mod (n v : Nat) : bitsOf n (v % 2 ^ n) = bitsOf n v := by
  unfold bitsOf
  refine List.filter_congr fun i hi => ?_
  simp [Nat.testBit_mod_two_pow, List.mem_range.mp hi]

theorem bit_mod_eight {i : Nat} (hi : i < 3) (v : Nat) : bit (v % 8) i = bit v i := by
  have h := Nat.testBit_mod_two_pow v 3 i
  simpa [bit, hi] using h

theorem popCount_mod_eight (v : Nat) : popCount 3 (v % 8) = popCount 3 v := congrArg List.length (bitsOf_mod 3 v)

/-- A TIM_TXCTL write of one bit that its plane and its grant let through acts. -/
theorem txCtlGate_open {s : State} {req value : Nat} (hdown : s.planeDown 0x10_0100 = false)
    (hgrant : isServiceCore req = true → s.granted req 0 0x10_0100 4 = some 2) (hone : popCount 3 (value % 8) = 1) : txCtlGate req value s = none := by
  have hgrant' : (isServiceCore req && ((s.granted req 0 0x10_0100 4).getD 0) ≠ 2) = false := by
    cases hcore : isServiceCore req
    · simp
    · simp [hgrant hcore]
  rw [popCount_mod_eight] at hone
  simp only [txCtlGate, hdown, hgrant', hone]
  rfl

/-! The transaction's own registers. -/

theorem txBegin_opens {s : State} {req value : Nat} (hs : s.Wf) (hoff : s.spaceOff req = false) (hreq : req < 16) (hvalue : value % 8 = 1)
    (hdown : s.planeDown 0x10_0100 = false) (hgrant : isServiceCore req = true → s.granted req 0 0x10_0100 4 = some 2)
    (hkeeper : req = Req.keeper → s.keeperGated = false) (hopen : s.rd TIM_TXSTAT.state ≠ TxS.openS)
    (hcommitting : s.rd TIM_TXSTAT.state ≠ TxS.committing) :
    Gives (.txBegin req value) s (fun t => t.rd TIM_TXSTAT.state = TxS.openS ∧ t.rd TIM_TXSTAT.owner = req ∧ t.rd TIM_TXSTAT.cause = 0 ∧
      t.rd TIM_TXSTAMP.stamp = 0 ∧ t.rd TIM_TXCOUNT.writes = 0 ∧ t.tx.vals = []) := by
  have hbit : bit value 0 = true := by rw [← bit_mod_eight (by decide), hvalue]; decide
  have hfx : txBegin req value s = [.tx { openedAt := s.now }, .set TIM_TXSTAT.state TxS.openS, .set TIM_TXSTAT.owner req, .set TIM_TXSTAT.cause 0,
      .set TIM_TXSTAMP.stamp 0, .set TIM_TXCOUNT.writes 0] := by
    simp [txBegin, txCtlGate_open hdown hgrant (show popCount 3 (value % 8) = 1 by rw [hvalue]; decide), hbit, State.txLive, hopen, hcommitting]
  have hexec : exec (.txBegin req value) s = .next ((s.run (txBegin req value s)).run (hostTraffic req true 4)) :=
    keeperQueues_open hoff hkeeper _ _ _ _
  refine ⟨_, hexec, ?_⟩
  simp only [rd_run_hostTraffic, hostTraffic_tx, hfx]
  refine ⟨?_, ?_, ?_, ?_, ?_, ?_⟩
  · exact rd_run_lastSet hs (g := TIM_TXSTAT.state) (v := TxS.openS) (by decide) rfl
  · rw [rd_run_lastSet hs (g := TIM_TXSTAT.owner) (v := req) (by decide) rfl]
    exact Nat.mod_eq_of_lt hreq
  · exact rd_run_lastSet hs (g := TIM_TXSTAT.cause) (v := 0) (by decide) rfl
  · exact rd_run_lastSet hs (g := TIM_TXSTAMP.stamp) (v := 0) (by decide) rfl
  · exact rd_run_lastSet hs (g := TIM_TXCOUNT.writes) (v := 0) (by decide) rfl
  · rfl

theorem txStampWrite_stamps {s : State} {req value : Nat} (hs : s.Wf) (hopen : s.rd TIM_TXSTAT.state = TxS.openS) (howner : s.txOwner = req)
    (hreach : s.Reaches req 0x10_0108 8 value false) :
    Gives (.txStampWrite req value) s (fun t => t.rd TIM_TXSTAMP.stamp = value % 2 ^ 64 ∧ OnlyFields [TIM_TXSTAMP.stamp] s t) := by
  have hfx : txStampWrite req value s = [.set TIM_TXSTAMP.stamp value] := by simp [txStampWrite, hopen, howner]
  have hexec : exec (.txStampWrite req value) s = .next (s.run (.set TIM_TXSTAMP.stamp value :: hostTraffic req true 8)) := by
    show execTxStampWrite req value s = _
    rw [execTxStampWrite, gated_of_reaches hreach, does_eq, hfx]
    rfl
  refine ⟨_, hexec, ?_, ?_⟩
  · exact rd_run_sets hs (g := TIM_TXSTAMP.stamp) (by decide) [] value (by unfold hostTraffic onlyIf; split <;> rfl)
  · have hframe := onlyFields_run (fs := [TIM_TXSTAMP.stamp]) (us := .set TIM_TXSTAMP.stamp value :: hostTraffic req true 8)
      (List.forall_mem_cons.mpr ⟨List.mem_singleton.mpr rfl, hostTraffic_setsOnly _ req true 8⟩) s
    rwa [run_cons, hostTraffic_bus, apply_set_bus] at hframe

theorem txCommit_commits {s : State} {req value : Nat} (hs : s.Wf) (hoff : s.spaceOff req = false) (hvalue : value % 8 = 2)
    (hdown : s.planeDown 0x10_0100 = false) (hgrant : isServiceCore req = true → s.granted req 0 0x10_0100 4 = some 2)
    (hkeeper : req = Req.keeper → s.keeperGated = false) (hopen : s.rd TIM_TXSTAT.state = TxS.openS) (howner : s.txOwner = req)
    (hstamp : s.rd TIM_TXSTAMP.stamp = 0 ∨ stampInWindow s.now (s.rd TIM_TXSTAMP.stamp) = true) :
    Gives (.txCommit req value) s (fun t => t.rd TIM_TXSTAT.state = TxS.committing ∧ t.tx.committedAt = s.now ∧ t.tx.vals = s.tx.vals) := by
  have hbit : bit value 1 = true := by rw [← bit_mod_eight (by decide), hvalue]; decide
  have hne : TxS.openS ≠ TxS.committing := by decide
  have hfx : txCommit req value s = [.tx { s.tx with committedAt := s.now }, .set TIM_TXSTAT.state TxS.committing] := by
    have hgate := txCtlGate_open hdown hgrant (show popCount 3 (value % 8) = 1 by rw [hvalue]; decide)
    obtain hin | hin := hstamp <;> simp [txCommit, hgate, hbit, State.txLive, hopen, howner, hne, hin]
  have hexec : exec (.txCommit req value) s = .next ((s.run (txCommit req value s)).run (hostTraffic req true 4)) :=
    keeperQueues_open hoff hkeeper _ _ _ _
  refine ⟨_, hexec, ?_⟩
  simp only [rd_run_hostTraffic, hostTraffic_tx, hfx]
  exact ⟨rd_run_lastSet hs (g := TIM_TXSTAT.state) (v := TxS.committing) (by decide) rfl, rfl, rfl⟩

/-- An abort drops every value, says its cause and raises TX_ABORT (R59). -/
theorem txAbortWith_aborts {s : State} (hs : s.Wf) {cause : Nat} (hcause : cause < 256) (offending : Nat) :
    (s.run (txAbortWith cause offending s)).rd TIM_TXSTAT.state = TxS.aborted ∧ (s.run (txAbortWith cause offending s)).rd TIM_TXSTAT.cause = cause ∧
      (s.run (txAbortWith cause offending s)).tx.vals = [] ∧ Raised Ty.TX_ABORT (s.run (txAbortWith cause offending s)) := by
  refine ⟨rd_run_lastSet hs (g := TIM_TXSTAT.state) (v := TxS.aborted) (by decide) rfl, ?_, rfl, ?_⟩
  · rw [rd_run_lastSet hs (g := TIM_TXSTAT.cause) (v := cause) (by decide) rfl]
    exact Nat.mod_eq_of_lt hcause
  · exact raised_emit s _

/-- An abort by the owner, or by the keeper. -/
theorem txAbort_aborts {s : State} {req value cause : Nat} (hs : s.Wf) (hoff : s.spaceOff req = false) (hvalue : value % 8 = 4)
    (hdown : s.planeDown 0x10_0100 = false) (hgrant : isServiceCore req = true → s.granted req 0 0x10_0100 4 = some 2)
    (hkeeper : req = Req.keeper → s.keeperGated = false)
    (hlive : s.rd TIM_TXSTAT.state = TxS.openS ∨ s.rd TIM_TXSTAT.state = TxS.committing)
    (hcause : s.txOwner = req ∧ cause = 1 ∨ s.txOwner ≠ req ∧ req = Req.keeper ∧ cause = 2) :
    Gives (.txAbort req value) s (fun t => t.rd TIM_TXSTAT.state = TxS.aborted ∧ t.rd TIM_TXSTAT.cause = cause ∧ t.tx.vals = [] ∧ Raised Ty.TX_ABORT t) := by
  have hbit : bit value 2 = true := by rw [← bit_mod_eight (by decide), hvalue]; decide
  have hlive' : s.txLive = true := by
    obtain h | h := hlive <;> simp [State.txLive, h]
  have hgate := txCtlGate_open hdown hgrant (show popCount 3 (value % 8) = 1 by rw [hvalue]; decide)
  have hfx : txAbort req value s = txAbortWith cause 0 s := by
    obtain ⟨howner, rfl⟩ | ⟨howner, rfl, rfl⟩ := hcause <;> simp [txAbort, hgate, hbit, hlive', howner]
  have hexec : exec (.txAbort req value) s = .next ((s.run (txAbort req value s)).run (hostTraffic req true 4)) :=
    keeperQueues_open hoff hkeeper _ _ _ _
  have hsmall : cause < 256 := by omega
  obtain ⟨hstate, hshown, hvals, hraised⟩ := txAbortWith_aborts hs hsmall 0
  refine ⟨_, hexec, ?_⟩
  simp only [rd_run_hostTraffic, hostTraffic_tx, hfx, Raised, hostTraffic_firn]
  exact ⟨hstate, hshown, hvals, hraised⟩

/-! The owner's write of an RWT field. -/

/-- The description of a register that was found is one of its block's. -/
theorem regAt?_block {a : Nat} {h : RegHit} (hreg : regAt? a = some h) : ∃ b, blockAt? a = some b ∧ h.desc ∈ b.descs := by
  obtain ⟨b, hb, hd⟩ := Option.bind_eq_some_iff.mp hreg
  obtain ⟨d, hmem, hhit⟩ := List.exists_of_findSome?_eq_some hd
  refine ⟨b, hb, ?_⟩
  suffices h.desc = d by rwa [this]
  unfold RegDesc.hit? at hhit
  split at hhit
  next => cases hhit
  next =>
    split at hhit
    next => cases hhit; rfl
    next =>
      split at hhit
      · cases hhit; rfl
      · cases hhit
    next => cases hhit

/-- No register of the descriptions has a field whose access type is one of `p`. -/
def lacks (p : Access → Bool) (ds : List RegDesc) (idx : List Nat) : Bool := ds.all (fun d => (d.fields idx).all (fun e => !p e.1))

/-- A field with an access type of `p` stands in one of the blocks that may have such fields. -/
theorem block_of_access {p : Access → Bool} {q : Block → Bool} {a : Nat} {h : RegHit} {e : Access × Fld}
    (hall : blocks.all (fun b => q b || lacks p b.descs h.idx) = true) (hreg : regAt? a = some h) (he : e ∈ h.fields) (hp : p e.1 = true) :
    ∃ b, blockAt? a = some b ∧ b.base ≤ a ∧ a < b.top ∧ q b = true := by
  obtain ⟨b, hb, hdesc⟩ := regAt?_block hreg
  obtain ⟨hlo, hhi⟩ : b.base ≤ a ∧ a < b.top := by simpa using List.find?_some hb
  refine ⟨b, hb, hlo, hhi, ?_⟩
  have hone := List.all_eq_true.mp hall b (List.mem_of_find?_eq_some hb)
  have hlacks : lacks p b.descs h.idx = false := by
    refine Bool.eq_false_iff.mpr fun hl => ?_
    have hnot := List.all_eq_true.mp (List.all_eq_true.mp hl _ hdesc) e he
    simp [hp] at hnot
  simpa [hlacks] using hone

/-- The blocks that do not meet the MSI-X table, where the write of a vector control sends what was masked. -/
def Block.offVectors (b : Block) : Bool := decide (b.top ≤ 0xF8_0000) || decide (0xF8_4000 ≤ b.base)

theorem vectors_lack_transactional : ∀ idx, blocks.all (fun b => b.offVectors || lacks Access.transactional b.descs idx) = true
  | [] | [_] | [_, _] | _ :: _ :: _ :: _ => rfl

/-- The watchdog's configuration, whose write does more than set its fields, is not transactional. -/
theorem wdogCfg_not_transactional : (regAt? 0x130_0014).all (fun h => h.fields.all (fun e => !e.1.transactional)) = true := by decide +kernel

/-- The owner's write of a register of one RWT field places the value and counts it (R57). -/
theorem writeWhole_rwt {s : State} {req data hw : Nat} {h : RegHit} {f : Fld} (hreg : regAt? h.addr = some h) (hf : h.fields = [(Access.rwt, f)])
    (hclosed : s.closedTo req h.addr = false) (hlocked : s.lockedNow h.addr = false) (hreset : h.addr ≠ 0x130_0010)
    (hmay : s.mayWrite req h.addr 4 .rwt = true) (hopen : s.rd TIM_TXSTAT.state = TxS.openS) (howner : s.txOwner = req)
    (hmask : reservedMask h &&& data = 0) (hcount : s.rd TIM_TXCOUNT.writes < 4096) :
    writeWhole req h data 4 hw s = [.tx (s.tx.place f (bits data f.lsb f.width)), bump s TIM_TXCOUNT.writes] := by
  have hstat : (h.addr == jrnStatAddr) = false := beq_eq_false_iff_ne.mpr (ne_jrnStatAddr hreg hf)
  have hwdog : (h.addr == 0x130_0014) = false := by
    refine beq_eq_false_iff_ne.mpr fun e => ?_
    have hnone := wdogCfg_not_transactional
    rw [e] at hreg
    simp [hreg, hf, Access.transactional] at hnone
  have hvec : (decide (0xF8_0000 ≤ h.addr) && decide (h.addr < 0xF8_4000)) = false := by
    refine Bool.eq_false_iff.mpr fun e => ?_
    obtain ⟨hlo, hhi⟩ : 0xF8_0000 ≤ h.addr ∧ h.addr < 0xF8_4000 := by simpa using e
    obtain ⟨b, -, hbase, htop, hoff⟩ := block_of_access (vectors_lack_transactional h.idx) hreg (e := (Access.rwt, f)) (by simp [hf]) rfl
    simp only [Block.offVectors, Bool.or_eq_true, decide_eq_true_eq] at hoff
    omega
  have hroom : ¬4096 < s.rd TIM_TXCOUNT.writes + 1 := by omega
  simp [writeWhole, hclosed, hlocked, hreset, hstat, hwdog, hvec, hf, fieldWrite, Access.staged, Access.keeperOnly, Access.transactional, hmay, hopen,
    howner, txPlaceFields, hmask, hroom]

theorem txWrite_places {s : State} {req a value : Nat} {h : RegHit} {f : Fld} (hs : s.Wf) (hoff : s.spaceOff req = false)
    (hopen : s.rd TIM_TXSTAT.state = TxS.openS) (howner : s.txOwner = req) (hreg : regAt? a = some h) (hwide : h.desc.wide = false) (ha : h.addr = a)
    (hf : h.fields = [(Access.rwt, f)]) (hstg : stagingReg? a = none) (hdown : s.planeDown a = false)
    (hkeeper : req = Req.keeper → s.keeperGated = false) (hclosed : s.closedTo req a = false) (hlocked : s.lockedNow a = false)
    (hreset : a ≠ 0x130_0010) (hmay : s.mayWrite req a 4 .rwt = true) (hmask : reservedMask h &&& (value % 2 ^ 32) = 0)
    (hcount : s.rd TIM_TXCOUNT.writes < 4096) :
    Gives (.txWrite req a 4 value) s (fun t => t.tx.vals.getLast? = some ⟨f.addr, f.lsb, f.width, f.reset, bits (value % 2 ^ 32) f.lsb f.width⟩ ∧
      t.rd TIM_TXCOUNT.writes = s.rd TIM_TXCOUNT.writes + 1) := by
  subst ha
  have hgrant : (isServiceCore req && ((s.granted req 0 h.addr 4).getD 0) = 0) = false := by
    unfold State.mayWrite at hmay
    cases hcore : isServiceCore req
    · rfl
    · cases hlevel : s.granted req 0 h.addr 4 <;> simp_all [Access.transactional]
  have hfx : writeRegister req h.addr 4 value 0 s =
      [.tx (s.tx.place f (bits (value % 2 ^ 32) f.lsb f.width)), bump s TIM_TXCOUNT.writes] ++ hostTraffic req true 4 := by
    rw [writeRegister, writeEffect_of_hit hdown hgrant hkeeper hreg hwide hstg,
      writeWhole_rwt hreg hf hclosed hlocked hreset hmay hopen howner hmask hcount]
  have hexec : exec (.txWrite req h.addr 4 value) s = .next (s.run (writeRegister req h.addr 4 value 0 s)) := by
    show execTxWrite req h.addr 4 value s = _
    simp [execTxWrite, hoff, hopen, howner, hreg, hf, Access.transactional]
  refine ⟨_, hexec, ?_, ?_⟩
  · rw [hfx, run_append, hostTraffic_tx]
    exact List.getLast?_concat
  · rw [hfx, run_append, rd_run_hostTraffic, rd_run_lastSet hs (g := TIM_TXCOUNT.writes) (v := s.rd TIM_TXCOUNT.writes + 1) (by decide) rfl]
    exact Nat.mod_eq_of_lt (Nat.lt_of_le_of_lt hcount (by decide))

/-- Settles O16, a clause for each request: begin, the owner's write, its stamp, commit, and abort by the owner and by the keeper (R56-R59). -/
theorem transactionRequestsTakeEffect : Obligations.TransactionRequestsTakeEffect := by
  unfold Obligations.TransactionRequestsTakeEffect
  refine ⟨?_, ?_, ?_, ?_, ?_, ?_⟩
  · intro s req value hs hoff hreq hvalue hdown hgrant hkeeper hopen hcommitting
    exact txBegin_opens hs hoff hreq hvalue hdown hgrant hkeeper hopen hcommitting
  · intro s req a value h f hs hoff hopen howner hreg hwide ha hf hstg hdown hkeeper hclosed hlocked hreset hmay hmask hcount
    exact txWrite_places hs hoff hopen howner hreg hwide ha hf hstg hdown hkeeper hclosed hlocked hreset hmay hmask hcount
  · intro s req value hs hopen howner hreach
    exact txStampWrite_stamps hs hopen howner hreach
  · intro s req value hs hoff hvalue hdown hgrant hkeeper hopen howner hstamp
    exact txCommit_commits hs hoff hvalue hdown hgrant hkeeper hopen howner hstamp
  · intro s req value hs hoff hvalue hdown hgrant hkeeper hlive howner
    exact txAbort_aborts hs hoff hvalue hdown hgrant hkeeper hlive (.inl ⟨howner, rfl⟩)
  · intro s value hs hvalue hdown hgated hlive howner
    exact txAbort_aborts hs (keeper_spaceOn s) hvalue hdown (fun h => absurd h (by decide)) (fun _ => hgated) hlive (.inr ⟨howner, rfl, rfl⟩)

end Sys2Proof.Machine
end

section
/-! SUPPORT. What the Firn writer's own operations leave of it. -/

namespace Sys2Proof.Machine

theorem lose_area (f : Firn) (c cause seq n : Nat) : (f.lose c cause seq n).area = f.area := by
  unfold Firn.lose
  split <;> rfl

theorem lose_started (f : Firn) (c cause seq n : Nat) : (f.lose c cause seq n).started = f.started := by
  unfold Firn.lose
  split <;> rfl

theorem lose_startup (f : Firn) (c cause seq n : Nat) : (f.lose c cause seq n).startup = f.startup := by
  unfold Firn.lose
  split <;> rfl

theorem accept_started (f : Firn) (now : Nat) (r : Rec) : (f.accept now r).started = f.started := by
  unfold Firn.accept
  simp only
  split
  · rw [lose_started]
  · rfl

theorem accept_startup (f : Firn) (now : Nat) (r : Rec) : (f.accept now r).startup = f.startup := by
  unfold Firn.accept
  simp only
  split
  · rw [lose_startup]
  · rfl

/-- The writer has started and its start-up buffer is empty. -/
def Firn.running (f : Firn) : Prop := f.started = true ∧ f.startup = []

theorem Firn.running.accept {f : Firn} (h : f.running) (now : Nat) (r : Rec) : (f.accept now r).running :=
  ⟨(accept_started f now r).trans h.1, (accept_startup f now r).trans h.2⟩

theorem Firn.running.acceptNew {f : Firn} (h : f.running) (now : Nat) (r : Rec) : (f.acceptNew now r).running :=
  Firn.running.accept (f := f.seen r) h now r

/-- FIRN_START writes what waits, in order, and nothing waits after it (R62). -/
theorem start_running (f : Firn) (now : Nat) (r : Rec) : (f.start now r).running := by
  unfold Firn.start
  extract_lets f0 f1
  have hkept : ∀ (l : List Rec) (g : Firn), g.running → (l.foldl (fun g x => if x.port then g.acceptNew now x else g.accept now x) g).running := by
    intro l
    induction l with
    | nil => exact fun g h => h
    | cons x l ih =>
      intro g h
      refine ih _ ?_
      dsimp only
      split
      · exact h.acceptNew now x
      · exact h.accept now x
  have hf0 : f0.running := ⟨rfl, rfl⟩
  exact hkept f.startup f1 (hf0.acceptNew now r)

end Sys2Proof.Machine
end

section
/-! What the Firn's commands do: pushes, FIRN_START, the move of a record, LOSS, a drain and an acknowledgement (R62-R70, R589, R590). -/

namespace Sys2Proof.Machine

/-! The management port. -/

theorem spaceOn_of_core {req : Nat} (h : isCore req = true) (s : State) : s.spaceOff req = false := by
  have hle : req ≤ 5 := by simpa [isCore] using h
  have hhost : (req == Req.host) = false := by
    simp only [Req.host, beq_eq_false_iff_ne]
    omega
  simp [State.spaceOff, hhost]

theorem exec_jrnMgmtPush {s : State} {req : Nat} (hcore : isCore req = true) (hdown : s.planeDown 0x18_0140 = false)
    (hgrant : isServiceCore req = true → (s.granted req 0 0x18_0140 4).getD 0 ≠ 0) (hkeeper : req = Req.keeper → s.keeperGated = false)
    (htyp : req = Req.keeper ∨ 0xF0 ≤ (s.pushedRec req).typ) (hroom : s.firn.queued < mgmtRoom) :
    exec (.jrnMgmtPush req) s = .next (s.run (.firn (s.firn.enqueue (s.pushedRec req)) :: hostTraffic req true 4)) := by
  have hopen : (isServiceCore req && ((s.granted req 0 0x18_0140 4).getD 0) = 0) = false := by
    cases hservice : isServiceCore req
    · rfl
    · simpa using hgrant hservice
  have hown : (req ≠ Req.keeper && (s.pushedRec req).typ < 0xF0) = false := by
    obtain h | h := htyp
    · simp [h]
    · simp [Nat.not_lt.mpr h]
  have hfx : mgmtPush req s = [.firn (s.firn.enqueue (s.pushedRec req))] := by
    simp only [mgmtPush, hdown, hcore, hopen, hown, hroom]
    rfl
  show execJrnMgmtPush req s = _
  rw [execJrnMgmtPush, keeperQueues_open (spaceOn_of_core hcore s) hkeeper, does_eq, hfx]
  rfl

/-- A push moves the writer alone. -/
theorem onlyFields_push (s : State) (f : Firn) (req : Nat) : OnlyFields [] s (s.run (.firn f :: hostTraffic req true 4)) := by
  refine onlyFields_run_of_bus (List.forall_mem_cons.mpr ⟨trivial, hostTraffic_setsOnly [] req true 4⟩) ?_
  rw [run_cons, hostTraffic_bus]
  rfl

theorem jrnMgmtPush_started {s : State} {req : Nat} (hcore : isCore req = true) (hdown : s.planeDown 0x18_0140 = false)
    (hgrant : isServiceCore req = true → (s.granted req 0 0x18_0140 4).getD 0 ≠ 0) (hkeeper : req = Req.keeper → s.keeperGated = false)
    (htyp : req = Req.keeper ∨ 0xF0 ≤ (s.pushedRec req).typ) (hroom : s.firn.queued < mgmtRoom) (hstart : s.firn.started = true) :
    Gives (.jrnMgmtPush req) s (fun t => t.firn.mgmt = s.firn.mgmt ++ [s.pushedRec req] ∧ OnlyFields [] s t) := by
  refine ⟨_, exec_jrnMgmtPush hcore hdown hgrant hkeeper htyp hroom, ?_, onlyFields_push s _ req⟩
  rw [run_cons, hostTraffic_firn]
  show (s.firn.enqueue (s.pushedRec req)).mgmt = _
  rw [Firn.enqueue, if_pos hstart]

theorem jrnMgmtPush_waiting {s : State} {req : Nat} (hcore : isCore req = true) (hdown : s.planeDown 0x18_0140 = false)
    (hgrant : isServiceCore req = true → (s.granted req 0 0x18_0140 4).getD 0 ≠ 0) (hkeeper : req = Req.keeper → s.keeperGated = false)
    (htyp : req = Req.keeper ∨ 0xF0 ≤ (s.pushedRec req).typ) (hroom : s.firn.queued < mgmtRoom) (hstart : s.firn.started = false) :
    Gives (.jrnMgmtPush req) s (fun t => t.firn = s.firn.enqueue (s.pushedRec req) ∧ t.firn.queued = s.firn.queued + 1 ∧ OnlyFields [] s t) := by
  have hfirn : (s.run (.firn (s.firn.enqueue (s.pushedRec req)) :: hostTraffic req true 4)).firn = s.firn.enqueue (s.pushedRec req) := by
    rw [run_cons, hostTraffic_firn]
    rfl
  refine ⟨_, exec_jrnMgmtPush hcore hdown hgrant hkeeper htyp hroom, hfirn, ?_, onlyFields_push s _ req⟩
  rw [hfirn]
  simp [Firn.enqueue, hstart, Firn.queued, Nat.add_assoc]

theorem mgmtQueueResume_enqueues {s : State} {c : Nat} {r : Rec} {rest : List (Nat × Rec)} (hheld : s.firn.held = (c, r) :: rest)
    (hroom : s.firn.queued < mgmtRoom) (hstart : s.firn.started = true) :
    Gives .mgmtQueueResume s (fun t => t.firn.mgmt = s.firn.mgmt ++ [r] ∧ t.firn.held = rest) := by
  have hexec : exec .mgmtQueueResume s = .next (s.run [.firn { s.firn.enqueue r with held := rest }]) := by
    show execMgmtQueueResume s = _
    simp [execMgmtQueueResume, hroom, mgmtResume, hheld]
  refine ⟨_, hexec, ?_, rfl⟩
  show (s.firn.enqueue r).mgmt = _
  rw [Firn.enqueue, if_pos hstart]

/-! The writer. -/

theorem firnStart_starts {s : State} (hwiped : s.rd V.windowWiped = 1) (hstart : s.firn.started = false) :
    Gives .firnStart s (fun t => t.firn.started = true ∧ t.firn.startup = []) := by
  have hexec : exec .firnStart s = .next (s.run [.firn (s.firn.start s.now (firnStartRec s))]) := by
    show execFirnStart s = _
    simp [execFirnStart, State.on, hwiped, hstart]
  exact ⟨_, hexec, start_running s.firn s.now (firnStartRec s)⟩

theorem loss_reports {s : State} {c : Nat} {n : LossNote} {rest : List (Nat × LossNote)} (hstart : s.firn.started = true)
    (hroom : s.firn.area.length < areaRoom) (hnotes : s.firn.lossNotes = (c, n) :: rest) :
    Gives .loss s (fun t => Raised Ty.LOSS t ∧ OnlyFields [] s t) := by
  have hfx : reportLoss s = [.firn { s.firn with lossNotes := rest },
      note Ty.LOSS 0 [(24, 1, c), (25, 1, n.cause), (28, 4, n.count), (32, 8, n.firstSeq)]] := by
    simp [reportLoss, hnotes]
  have hexec : exec .loss s = .next (s.run (reportLoss s)) := by
    show execLoss s = _
    simp [execLoss, hstart, hroom]
  rw [hfx] at hexec
  exact ⟨_, hexec, raised_emit _ _, onlyFields_run_of_bus (by simp [note, Upd.setsOnly]) rfl⟩

/-! The move of a record. -/

theorem ringNext_firn {s : State} (f : Firn) {c : Nat} (hc : c < 3) (a : Nat) : (s.apply (.firn f)).ringNext c a = s.ringNext c a := by
  interval_cases c <;> simp (disch := decide) only [State.ringNext, rd_firn]

theorem Upd.clears_of_counts {u : Upd} (h : u.counts) (g : Fld) : u.clears g = true := by
  cases u
  case carry | tally => rfl
  all_goals exact h.elim

theorem lpTraffic_clears (isWrite : Bool) (a n : Nat) (s : State) (g : Fld) : (lpTraffic isWrite a n s).all (·.clears g) = true :=
  List.all_eq_true.mpr fun u hu => Upd.clears_of_counts (lpTraffic_counts isWrite a n s u hu) g

theorem onlyIf_clears {g : Fld} {us : List Upd} (h : us.all (·.clears g) = true) (c : Bool) : (onlyIf c us).all (·.clears g) = true := by
  cases c
  · rfl
  · exact h

/-! A record at the head of a class ring: what the oldest record costs, the bytes, and the pointers (R68, R69). -/

/-- What ringStore does after it has counted a spilled record that is given up. -/
def ringWrites (c : Nat) (w : StagedRec) (s : State) : List Upd :=
  lpTraffic true (s.rd (JRN_HEAD.head c)) 64 s ++ [.carry 31 true 64, .store (s.rd (JRN_HEAD.head c)) w.toBytes] ++
    .set (JRN_HEAD.head c) (s.ringNext c (s.rd (JRN_HEAD.head c))) ::
    (.set (V.stored c) (if s.classRoom c ≤ s.rd (V.stored c) then s.classRoom c else s.rd (V.stored c) + 1) ::
      (onlyIf (decide (s.classRoom c ≤ s.rd (V.stored c))) [.set (JRN_ACK.ack c) (s.ringNext c (s.rd (JRN_ACK.ack c)))] ++
      onlyIf (decide (s.classRoom c ≤ s.rd (V.stored c))) [if s.rd (V.drained c) = 0 then .set (HIF_DRPOS.pos c) (s.ringNext c (s.rd (JRN_ACK.ack c)))
        else .set (V.drained c) (s.rd (V.drained c) - 1)] ++
      onlyIf (s.rd (V.drainSince c) == 0) [.set (V.drainSince c) (s.now + 1)]))

theorem ringStore_eq (c : Nat) (w : StagedRec) (s : State) : ∃ b n, ringStore c w s = onlyIf b [.firn (s.firn.lose 0 1 n 1)] ++ ringWrites c w s :=
  ⟨decide (s.classRoom c ≤ s.rd (V.stored c)) && bit (memByte s.mem (s.rd (JRN_ACK.ack c) + 23)) 1, s.leMem (s.rd (JRN_ACK.ack c) + 8) 8,
    by simp [ringStore, ringWrites]⟩

theorem ringWrites_quiet (c : Nat) (w : StagedRec) (s : State) : ∀ u ∈ ringWrites c w s, u.quiet := by
  have hcount {u : Upd} (h : u.counts) : u.quiet := by
    cases u
    case carry | tally => trivial
    all_goals exact h.elim
  have hdrain : (if s.rd (V.drained c) = 0 then Upd.set (HIF_DRPOS.pos c) (s.ringNext c (s.rd (JRN_ACK.ack c)))
      else .set (V.drained c) (s.rd (V.drained c) - 1)).quiet := by split <;> trivial
  unfold ringWrites
  refine all_append (all_append (fun u hu => hcount (lpTraffic_counts _ _ _ s u hu)) (by simp [Upd.quiet])) ?_
  refine List.forall_mem_cons.mpr ⟨trivial, List.forall_mem_cons.mpr ⟨trivial, all_append (all_append ?_ ?_) ?_⟩⟩
  · exact all_onlyIf fun _ => by simp [Upd.quiet]
  · exact all_onlyIf fun _ => by simpa using hdrain
  · exact all_onlyIf fun _ => by simp [Upd.quiet]

theorem ringStore_area (c : Nat) (w : StagedRec) (s : State) : (s.run (ringStore c w s)).firn.area = s.firn.area := by
  obtain ⟨b, n, h⟩ := ringStore_eq c w s
  have hquiet : (s.run (ringStore c w s)).firn = (s.run (onlyIf b [.firn (s.firn.lose 0 1 n 1)])).firn := by
    rw [h, run_append]
    exact Via.firn ⟨_, ringWrites_quiet c w s, rfl⟩
  rw [hquiet]
  cases b
  · rfl
  · exact lose_area s.firn 0 1 n 1

theorem ringStore_head {s : State} (hs : s.Wf) {c : Nat} (hc : c < 3) (w : StagedRec) :
    (s.run (ringStore c w s)).rd (JRN_HEAD.head c) = s.ringNext c (s.rd (JRN_HEAD.head c)) % 2 ^ (JRN_HEAD.head c).width := by
  obtain ⟨b, n, h⟩ := ringStore_eq c w s
  rw [h, run_append, ringWrites]
  refine rd_run_sets (run_wf _ hs) ?_ _ _ ?_
  · interval_cases c <;> decide
  · have hstored : Upd.clears (JRN_HEAD.head c) (.set (V.stored c) (if s.classRoom c ≤ s.rd (V.stored c) then s.classRoom c else s.rd (V.stored c) + 1)) = true := by
      interval_cases c <;> rfl
    have hack : Upd.clears (JRN_HEAD.head c) (.set (JRN_ACK.ack c) (s.ringNext c (s.rd (JRN_ACK.ack c)))) = true := by
      interval_cases c <;> rfl
    have hdrain : Upd.clears (JRN_HEAD.head c) (if s.rd (V.drained c) = 0 then Upd.set (HIF_DRPOS.pos c) (s.ringNext c (s.rd (JRN_ACK.ack c)))
        else .set (V.drained c) (s.rd (V.drained c) - 1)) = true := by
      split <;> interval_cases c <;> rfl
    have hsince : Upd.clears (JRN_HEAD.head c) (.set (V.drainSince c) (s.now + 1)) = true := by interval_cases c <;> rfl
    rw [List.all_cons, hstored, List.all_append, List.all_append, onlyIf_clears (by simpa using hack), onlyIf_clears (by simpa using hdrain),
      onlyIf_clears (by simpa using hsince)]
    rfl

theorem recordMove_moves {s : State} {w : StagedRec} {rest : List StagedRec} (hs : s.Wf) (henable : s.rd JRN_CTL.enable = 1)
    (hready : s.rd MEM_STAT.lp_state = 3) (harea : s.firn.area = w :: rest)
    (hgood : wordsIn s.ue (0xC000_0000 + 64 * (w.seq % 262144)) 64 = []) (hc : w.cls < 3) (hroom : w.cls = 0 → s.rd (V.stored 0) < s.classRoom 0) :
    Gives .recordMove s (fun t => t.firn.area = rest ∧
      t.rd (JRN_HEAD.head w.cls) = s.ringNext w.cls (s.rd (JRN_HEAD.head w.cls)) % 2 ^ (JRN_HEAD.head w.cls).width) := by
  have hplace : (w.cls = 0 && decide (s.classRoom 0 ≤ s.rd (V.stored 0))) = false := by
    by_cases h0 : w.cls = 0
    · simp [h0, hroom h0]
    · simp [h0]
  have hmove : moveRecord s = (s.apply (.firn { s.firn with area := rest })).does (ringStore w.cls w) := by
    simp only [moveRecord, harea, hplace]
    rw [if_neg (by omega)]
    rfl
  have hexec : exec .recordMove s = .next (moveRecord s) := by
    show execRecordMove s = _
    simp [execRecordMove, State.on, henable, hready, harea, hgood]
  have hmsg : messageField (JRN_HEAD.head w.cls) = false := by
    generalize w.cls = c at hc
    interval_cases c <;> decide
  rw [hmove] at hexec
  refine ⟨_, hexec, ringStore_area _ _ _, ?_⟩
  rw [does_eq, ringStore_head (apply_wf _ hs) hc, ringNext_firn _ hc, rd_firn _ _ hmsg]

/-! A drain (R70, R462). -/

/-- The update leaves the BUFFER requests that wait. -/
def Upd.leavesBufs : Upd → Bool
  | .bufs _ | .coldStart => false
  | _ => true

theorem bufs_run {s : State} {us : List Upd} (h : us.all Upd.leavesBufs = true) : (s.run us).bufs = s.bufs := by
  induction us generalizing s with
  | nil => rfl
  | cons u us ih =>
    obtain ⟨hu, hus⟩ : u.leavesBufs = true ∧ us.all Upd.leavesBufs = true := by simpa using h
    rw [run_cons, ih hus]
    cases u
    case bufs | coldStart => cases hu
    case flushVectors => rw [apply_flush]
    all_goals rfl

theorem postResponse_leavesBufs (p typ len tag : Nat) (payload : List Nat) (s : State) : (postResponse p typ len tag payload s).all Upd.leavesBufs = true := by
  unfold postResponse postWith
  extract_lets seq tail desc count now
  cases now <;> cases (s.rd (HIF_RTWB.addr p) != 0 && s.on HIF_STAT.bme) <;> cases hcount : count == 1 <;> rfl

theorem postResponse_clears_drpos {c : Nat} (hc : c < 3) (p typ len tag : Nat) (payload : List Nat) (s : State) :
    (postResponse p typ len tag payload s).all (·.clears (HIF_DRPOS.pos c)) = true := by
  have hvar (n w : Nat) : (HIF_DRPOS.pos c).key ≠ (ivar n p w 0).key := by
    simp only [Fld.key, ivar, HIF_DRPOS.pos]
    omega
  unfold postResponse postWith
  extract_lets seq tail desc count now
  cases now <;> cases (s.rd (HIF_RTWB.addr p) != 0 && s.on HIF_STAT.bme) <;> cases hcount : count == 1 <;>
    simp [onlyIf, hvar, V.rsSeq, V.coalCount, V.coalAt, Upd.clears]

/-- What a drain writes once it has moved its position: its counts, the state of its engine and the record it gives up from its ring (R70, R462). -/
def fillEnd (c n sent lost : Nat) (s : State) : List Upd :=
  let next := s.ringAhead c (s.rd (HIF_DRPOS.pos c)) n
  let gone := s.rd (V.drained c) + n
  [.set (V.drainLost c) lost, .set (V.drainSince c) (if n < s.undrained c then s.now + 1 else 0), .set (HIF_DMASTAT.state c) 2,
    .set (HIF_DMASTAT.err c) 0, .set (HIF_DMASTAT.owner c) 15, .set (HIF_DMADONE.bytes c) (64 * sent)] ++
  (if c = 0 then [.set (V.drained c) gone] else [.set (JRN_ACK.ack c) next, .set (V.stored c) (s.rd (V.stored c) - gone), .set (V.drained c) 0])

theorem fillEnd_leavesBufs (c n sent lost : Nat) (s : State) : (fillEnd c n sent lost s).all Upd.leavesBufs = true := by
  by_cases h : c = 0 <;> simp [fillEnd, h, Upd.leavesBufs]

theorem fillEnd_clears_drpos {c : Nat} (hc : c < 3) (n sent lost : Nat) (s : State) :
    (fillEnd c n sent lost s).all (·.clears (HIF_DRPOS.pos c)) = true := by
  interval_cases c <;> rfl

/-- The fill of one BUFFER, around the position it leaves (R462). -/
theorem fillBuffer_eq {s : State} {c : Nat} {b : HostBuf} (hn : min (s.undrained c) (b.len / 64) ≠ 0) (hfull : s.respFull b.ring = false) :
    ∃ us vs, fillBuffer c b s = us ++ .bufs (s.bufs.erase b) ::
      .set (HIF_DRPOS.pos c) (s.ringAhead c (s.rd (HIF_DRPOS.pos c)) (min (s.undrained c) (b.len / 64))) :: vs ∧
      vs.all Upd.leavesBufs = true ∧ (c < 3 → vs.all (·.clears (HIF_DRPOS.pos c)) = true) := by
  unfold fillBuffer
  extract_lets n pos places lost recs sent next gone f loss
  have hgo : ¬(n = 0 || s.respFull b.ring) = true := by simp [n, hn, hfull]
  rw [if_neg hgo]
  refine ⟨places.flatMap (fun a => lpTraffic false a 64 s) ++
      [.carry 31 false (64 * n), .carry (14 + c) false (64 * n), .carry (14 + c) true (64 * sent), .firn f, .store (inSpace Sp.host b.addr) recs],
    fillEnd c n sent (tableGet 0 f.lostEver c) s ++ postResponse b.ring 0x82 32 b.tag
      (leBytes 4 b.seq ++ [c, ofBool loss, 0, 0] ++ leBytes 8 sent ++ leBytes 8 (leAt recs 8 8) ++ leBytes 8 (leAt recs (64 * (sent - 1) + 8) 8)) s,
    ?_, ?_, fun hc => ?_⟩
  · simp only [fillEnd, List.append_assoc, List.cons_append, List.nil_append]
    rfl
  · rw [List.all_append, fillEnd_leavesBufs, postResponse_leavesBufs]
    rfl
  · rw [List.all_append, fillEnd_clears_drpos hc, postResponse_clears_drpos hc]
    rfl

theorem drain_fills {s : State} {c : Nat} {b : HostBuf} (hs : s.Wf) (hc : c < 3) (hdue : s.drainDue c = true) (hd : s.rd HIF_STAT.dstate = 0)
    (hbme : s.rd HIF_STAT.bme = 1) (hwarn : s.rd CRP_PFSTAT.warn = 0) (hring : b.ring = s.rd (JRN_DRAINCTL.ring c)) (hbufs : s.bufs = [b])
    (hlen : 64 ≤ b.len) (hen : s.rd (HIF_RCTL.en b.ring) = 1) (hrole : s.rd (HIF_RCFG.role b.ring) = 2) (hclass : s.rd (HIF_RCFG.class_ b.ring) = c)
    (hrun : s.rd (HIF_RSTAT.state b.ring) ≠ RingS.halted) (hfull : s.respFull b.ring = false) :
    Gives (.drain c false) s (fun t => t.bufs = [] ∧
      t.rd (HIF_DRPOS.pos c) = s.ringAhead c (s.rd (HIF_DRPOS.pos c)) (min (s.undrained c) (b.len / 64)) % 2 ^ (HIF_DRPOS.pos c).width) := by
  have hdrain : drainClass c false s = s.run (fillBuffer c b s) := by
    simp [drainClass, ← hring, State.on, hen, hrole, hclass, hrun, hbufs, State.doEach]
  have hexec : exec (.drain c false) s = .next (drainClass c false s) := by
    show execDrain c false s = _
    simp [execDrain, hc, hdue, hd, State.on, hbme, hwarn]
  have hundrained : 0 < s.undrained c := by
    simp only [State.drainDue, Bool.and_eq_true, decide_eq_true_eq] at hdue
    exact hdue.1.2
  have hn : min (s.undrained c) (b.len / 64) ≠ 0 := by omega
  obtain ⟨us, vs, hfx, hvs, hpos⟩ := fillBuffer_eq hn hfull
  rw [hdrain, hfx] at hexec
  refine ⟨_, hexec, ?_, ?_⟩
  · rw [run_append, run_cons, run_cons, bufs_run hvs]
    simp [hbufs]
  · rw [run_append, run_cons]
    exact rd_run_sets (apply_wf _ (run_wf _ hs)) (by interval_cases c <;> decide) [] _ (hpos hc)

/-! The acknowledgement (R590). -/

theorem advanceAck_clears_ack {c : Nat} (hc : c < 3) (moved empty : Bool) (stored drained v : Nat) :
    ([Upd.set (V.stored c) stored, .set (V.drained c) drained] ++ (onlyIf moved [.set (HIF_DRPOS.pos c) v] ++
      onlyIf empty [.set (V.drainSince c) 0])).all (Upd.clears (JRN_ACK.ack c)) = true := by
  interval_cases c <;> cases moved <;> cases empty <;> rfl

theorem jrnAckWrite_moves {s : State} {req c v : Nat} (hs : s.Wf) (hoff : s.spaceOff req = false) (hc : c < 3)
    (hkeeper : req = Req.keeper → s.keeperGated = false) (hdown : s.planeDown (0x18_0088 + 0x10 * c) = false)
    (hgrant : isServiceCore req = true → (s.granted req 0 (0x18_0088 + 0x10 * c) 8).getD 0 ≠ 0) (hvalid : s.ackValid c v = true) :
    Gives (.jrnAckWrite req c v) s (fun t => t.rd (JRN_ACK.ack c) = s.ackClamp c v % 2 ^ (JRN_ACK.ack c).width ∧ t.firn = s.firn) := by
  have hopen : (isServiceCore req && ((s.granted req 0 (0x18_0088 + 0x10 * c) 8).getD 0) = 0) = false := by
    cases hservice : isServiceCore req
    · rfl
    · simpa using hgrant hservice
  have hfx : ackWrite req c v s = advanceAck c (s.ackClamp c v) s := by
    simp only [ackWrite, hdown, hopen, hvalid]
    rfl
  have hexec : exec (.jrnAckWrite req c v) s = .next ((s.run (advanceAck c (s.ackClamp c v) s)).run (hostTraffic req true 8)) := by
    show execJrnAckWrite req c v s = _
    rw [execJrnAckWrite, if_pos hc, keeperQueues_open hoff hkeeper, does_eq, hfx]
  refine ⟨_, hexec, ?_, ?_⟩
  · rw [rd_run_hostTraffic, advanceAck, List.append_assoc]
    refine rd_run_sets hs (by interval_cases c <;> decide) [] _ ?_
    exact advanceAck_clears_ack hc _ _ _ _ _
  · rw [hostTraffic_firn]
    refine Via.firn ⟨_, ?_, rfl⟩
    refine all_append (all_append (by simp [Upd.quiet]) ?_) ?_
    · exact all_onlyIf fun _ => by simp [Upd.quiet]
    · exact all_onlyIf fun _ => by simp [Upd.quiet]

/-- Settles O20, a clause for each form: a push before and after FIRN_START, a core that goes on, FIRN_START, the move of a record, LOSS, a drain and
an acknowledgement (R62-R70, R590). -/
theorem firnCommandsTakeEffect : Obligations.FirnCommandsTakeEffect := by
  unfold Obligations.FirnCommandsTakeEffect
  refine ⟨?_, ?_, ?_, ?_, ?_, ?_, ?_, ?_⟩
  · intro s req _ hcore hdown hgrant hkeeper htyp hroom hstart
    exact jrnMgmtPush_started hcore hdown hgrant hkeeper htyp hroom hstart
  · intro s req _ hcore hdown hgrant hkeeper htyp hroom hstart
    exact jrnMgmtPush_waiting hcore hdown hgrant hkeeper htyp hroom hstart
  · intro s c r rest _ hheld hroom hstart
    exact mgmtQueueResume_enqueues hheld hroom hstart
  · intro s _ hwiped hstart
    exact firnStart_starts hwiped hstart
  · intro s w rest hs henable hready harea hgood hc hroom
    exact recordMove_moves hs henable hready harea hgood hc hroom
  · intro s c n rest _ hstart hroom hnotes
    exact loss_reports hstart hroom hnotes
  · intro s c b hs hc hdue hd hbme hwarn hring hbufs hlen hen hrole hclass hrun hfull
    exact drain_fills hs hc hdue hd hbme hwarn hring hbufs hlen hen hrole hclass hrun hfull
  · intro s req c v hs hoff hc hkeeper hdown hgrant hvalid
    exact jrnAckWrite_moves hs hoff hc hkeeper hdown hgrant hvalid

end Sys2Proof.Machine
end

section
/-! What the timing commands do: the discipline loop's states and the times that the lanes exchange (R44, R268, R269, R271). -/

namespace Sys2Proof.Machine

theorem whenever_of {c : Bool} (h : c = true) (s t : State) : whenever c s t = .next t := if_pos h

/-! The discipline loop changes state (R44). -/

theorem discTo_state {s : State} (hs : s.Wf) (new lane : Nat) : (s.does (discTo new lane)).rd TIM_DISC.state = new % 2 ^ 3 := by
  rw [does_eq, discTo]
  split
  next h => exact h.trans (Nat.mod_eq_of_lt (h ▸ rd_lt s TIM_DISC.state)).symm
  next h => cases hb : new == Disc.root || new == Disc.free <;> exact rd_run_lastSet hs (by decide) rfl

/-- It is valid, and settled, as its new state says. -/
theorem discTo_shows {s : State} (hs : s.Wf) {new : Nat} (h : s.rd TIM_DISC.state ≠ new) (lane : Nat) :
    (s.does (discTo new lane)).rd TIM_DISC.valid = ofBool (new == Disc.root || new == Disc.locked) % 2 ∧
      (s.does (discTo new lane)).rd JOB_STAT.settled = ofBool (new == Disc.root) % 2 := by
  rw [does_eq, discTo, if_neg h]
  cases hb : new == Disc.root || new == Disc.free <;>
    exact ⟨rd_run_lastSet hs (by decide) rfl, rd_run_lastSet hs (by decide) rfl⟩

theorem discTo_raises {s : State} {new : Nat} (h : s.rd TIM_DISC.state ≠ new) (lane : Nat) : Raised Ty.TIME_EVENT (s.does (discTo new lane)) := by
  rw [does_eq, discTo, if_neg h, run_append]
  exact Via.raised ⟨_, all_onlyIf fun _ => by simp [Upd.quiet], rfl⟩ (raised_emit _ _)

/-- The step of the offset moves TIM_JOBOFS alone (R45). -/
theorem rd_timeStep {g : Fld} (hm : messageField g = false) (hg : g.key ≠ TIM_JOBOFS.ofs.key) (err : Int) (lane : Nat) (s : State) :
    (s.does (timeStep err lane)).rd g = s.rd g := by
  rw [does_eq, timeStep]
  exact rd_run_keeps hm (all_onlyIf fun _ => by simp [setI, note, Upd.keeps, hg])

/-- Standing tip-offs are reported by records alone (R286). -/
theorem unsettle_via (g : Fld) (s : State) : Via (Upd.keeps g) s (unsettle s) := by
  refine Via.ite (fun _ => Via.doEach (Via.refl s) fun t j _ => ?_) fun _ => Via.refl s
  rw [cancelTips]
  split
  · simp
  · refine all_append (fun u hu => ?_) (all_onlyIf fun h => absurd h (by decide))
    obtain ⟨x, -, rfl⟩ := List.mem_map.mp hu
    trivial

theorem rd_unsettle {g : Fld} (hm : messageField g = false) (s : State) : (unsettle s).rd g = s.rd g := (unsettle_via g s).rd hm

theorem unsettle_wf {s : State} (hs : s.Wf) : (unsettle s).Wf := (unsettle_via TIM_DISC.state s).wf hs

theorem discLock_locks {s : State} (hs : s.Wf) (hst : s.rd TIM_DISC.state = Disc.acquire) (hgood : 1000 ≤ s.rd V.discGood) :
    Gives .discLock s (fun t => t.rd TIM_DISC.state = Disc.locked ∧ t.rd TIM_DISC.valid = 1 ∧ Raised Ty.TIME_EVENT t) := by
  have hexec : exec .discLock s = .next (s.does (discTo Disc.locked (s.rd TIM_DISC.lane))) := by
    show execDiscLock s = _
    exact whenever_of (by simp [hst, hgood]) s _
  have hne : s.rd TIM_DISC.state ≠ Disc.locked := by simp [hst, Disc.acquire, Disc.locked]
  exact ⟨_, hexec, discTo_state hs _ _, (discTo_shows hs hne _).1, discTo_raises hne _⟩

theorem discReacquire_acquires {s : State} (hs : s.Wf) (hst : s.rd TIM_DISC.state = Disc.locked) (hbad : 16 ≤ s.rd V.discBad) :
    Gives .discReacquire s (fun t => t.rd TIM_DISC.state = Disc.acquire ∧ t.rd TIM_DISC.valid = 0 ∧ t.rd JOB_STAT.settled = 0) := by
  have hexec : exec .discReacquire s = .next (((unsettle s).does (discTo Disc.acquire (s.rd TIM_DISC.lane))).does
      (timeStep (s.rdI V.pherr) (s.rd TIM_DISC.lane))) := by
    show execDiscReacquire s = _
    exact whenever_of (by simp [hst, hbad]) s _
  have hne : (unsettle s).rd TIM_DISC.state ≠ Disc.acquire := by
    rw [rd_unsettle (by decide), hst]
    decide
  obtain ⟨hvalid, hsettled⟩ := discTo_shows (unsettle_wf hs) hne (s.rd TIM_DISC.lane)
  refine ⟨_, hexec, ?_, ?_, ?_⟩
  · rw [rd_timeStep (by decide) (by decide)]
    exact discTo_state (unsettle_wf hs) _ _
  · rw [rd_timeStep (by decide) (by decide)]
    exact hvalid
  · rw [rd_timeStep (by decide) (by decide)]
    exact hsettled

theorem discHoldover_holds {s : State} (hs : s.Wf) (hst : s.rd TIM_DISC.state = Disc.acquire ∨ s.rd TIM_DISC.state = Disc.locked)
    (hmiss : 8 ≤ s.rd V.discMissing) :
    Gives .discHoldover s (fun t => t.rd TIM_DISC.state = Disc.holdover ∧ t.rd TIM_DISC.valid = 0 ∧ Raised Ty.TIME_EVENT t) := by
  have hexec : exec .discHoldover s = .next (((unsettle s).run [setI TIM_RATE.ppb s.meanRate]).does (discTo Disc.holdover (s.rd TIM_DISC.lane))) := by
    show execDiscHoldover s = _
    refine whenever_of ?_ s _
    obtain h | h := hst <;> simp [h, hmiss]
  have hrate : ((unsettle s).run [setI TIM_RATE.ppb s.meanRate]).rd TIM_DISC.state = s.rd TIM_DISC.state :=
    (rd_run_clear (by decide) rfl).trans (rd_unsettle (by decide) s)
  have hne : ((unsettle s).run [setI TIM_RATE.ppb s.meanRate]).rd TIM_DISC.state ≠ Disc.holdover := by
    rw [hrate]
    obtain h | h := hst <;> simp [h, Disc.acquire, Disc.locked, Disc.holdover]
  have hwf := run_wf [setI TIM_RATE.ppb s.meanRate] (unsettle_wf hs)
  exact ⟨_, hexec, discTo_state hwf _ _, (discTo_shows hwf hne _).1, discTo_raises hne _⟩

theorem settled_settles {s : State} (hs : s.Wf) (hst : s.rd TIM_DISC.state = Disc.locked) (hsince : s.rd V.lockedSince ≠ 0)
    (hlong : s.rd V.lockedSince + 40000000000 ≤ s.now + 1) :
    Gives .settled s (fun t => t.rd JOB_STAT.settled = 1 ∧ OnlyFields [JOB_STAT.settled] s t) := by
  have hexec : exec .settled s = .next (s.run [.set JOB_STAT.settled 1]) := by
    show execSettled s = _
    exact whenever_of (by simp [hst, hsince, hlong]) s _
  exact ⟨_, hexec, run_set_one hs (by decide) (us := []) (vs := []) (by simp) (by simp) (by decide)⟩

/-! The times of the lanes (R268, R269). -/

/-- A command on a message of a timing lane acts on the oldest of its type, which leaves the inbox. -/
theorem withLane_next {s : State} {m typ : Nat} (hm : m < 5) {g : GotMsg} {l : Link} (htake : (s.link (8 + m)).take? typ = some (g, l))
    (f : GotMsg → State → State) : withLane m typ s f = .next (f g (s.run [.link (8 + m) l])) := by
  simp [withLane, htake, hm]

theorem rd_take (s : State) (n : Nat) (l : Link) (g : Fld) : (s.run [.link n l]).rd g = s.rd g := rd_link s n l g

theorem exec_time {s : State} {m : Nat} {g : GotMsg} {l : Link} (hm : m < 5) (htake : (s.link (8 + m)).take? TmlT.time = some (g, l))
    (hrole : s.rd (JOB_LCFG.role m) = 1) : exec (.time m) s = .next (timeWord m g (s.run [.link (8 + m) l])) := by
  show execTime m s = _
  rw [execTime, withLane_next hm htake, rd_take, if_pos hrole]

/-- A time word that the loop follows is noted first: its times in the link, its phase error, and that it was seen (R44, R268). -/
theorem timeWord_notes {t : State} (ht : t.Wf) (m : Nat) (g : GotMsg) (hroot : t.rd TIM_DISC.state ≠ Disc.root) :
    ∃ (v : State) (err : Int), v.Wf ∧ v.rd TIM_DISC.state = t.rd TIM_DISC.state ∧ v.rd V.discSeen = 1 ∧ (v.link (8 + m)).t1 = g.msg.get 8 8 * 1024 + g.msg.get 16 2 ∧
      timeWord m g t = if t.rd TIM_DISC.state = Disc.free || t.rd TIM_DISC.state = Disc.holdover then
        (v.does (discTo Disc.acquire (t.upLane m))).does (timeStep err (t.upLane m)) else v.run [setI TIM_RATE.ppb t.openRate, freeUsed t] := by
  unfold timeWord
  extract_lets n l t1 t2 err st u v
  have hu : u.Wf := run_wf _ ht
  refine ⟨v, err, run_wf _ hu, ?_, rd_run_lastSet (g := V.discSeen) (v := 1) hu (by decide) rfl, ?_, if_neg hroot⟩
  · calc v.rd TIM_DISC.state = u.rd TIM_DISC.state := rd_run_clear (by decide) rfl
      _ = t.rd TIM_DISC.state := rd_run_clear (by decide) rfl
  · calc (v.link n).t1 = (u.link n).t1 := by
          have h : v.link n = u.link n := Via.link ⟨_, by simp [setISat, setI, Upd.keepsLink], rfl⟩
          rw [h]
      _ = t1 := by
          show ((t.apply (.link n _)).link n).t1 = t1
          rw [link_put_same ht]

theorem time_acquires {s : State} (hs : s.Wf) {m : Nat} {g : GotMsg} {l : Link} (hm : m < 5) (htake : (s.link (8 + m)).take? TmlT.time = some (g, l))
    (hrole : s.rd (JOB_LCFG.role m) = 1) (hst : s.rd TIM_DISC.state = Disc.free ∨ s.rd TIM_DISC.state = Disc.holdover) :
    Gives (.time m) s (fun t => t.rd TIM_DISC.state = Disc.acquire ∧ t.rd TIM_DISC.valid = 0) := by
  have hroot : (s.run [.link (8 + m) l]).rd TIM_DISC.state ≠ Disc.root := by
    rw [rd_take]
    obtain h | h := hst <;> rw [h] <;> decide
  obtain ⟨v, err, hv, hvst, -, -, hword⟩ := timeWord_notes (run_wf [.link (8 + m) l] hs) m g hroot
  rw [rd_take] at hvst hword
  have hne : v.rd TIM_DISC.state ≠ Disc.acquire := by
    rw [hvst]
    obtain h | h := hst <;> rw [h] <;> decide
  rw [if_pos (by simpa using hst)] at hword
  refine ⟨_, exec_time hm htake hrole, ?_, ?_⟩
  · rw [hword, rd_timeStep (by decide) (by decide)]
    exact discTo_state hv _ _
  · rw [hword, rd_timeStep (by decide) (by decide)]
    exact (discTo_shows hv hne _).1

theorem time_seen {s : State} (hs : s.Wf) {m : Nat} {g : GotMsg} {l : Link} (hm : m < 5) (htake : (s.link (8 + m)).take? TmlT.time = some (g, l))
    (hrole : s.rd (JOB_LCFG.role m) = 1) (hst : s.rd TIM_DISC.state = Disc.acquire ∨ s.rd TIM_DISC.state = Disc.locked) :
    Gives (.time m) s (fun t => t.rd V.discSeen = 1 ∧ (t.link (8 + m)).t1 = g.msg.get 8 8 * 1024 + g.msg.get 16 2) := by
  have hroot : (s.run [.link (8 + m) l]).rd TIM_DISC.state ≠ Disc.root := by
    rw [rd_take]
    obtain h | h := hst <;> rw [h] <;> decide
  obtain ⟨v, err, -, -, hseen, ht1, hword⟩ := timeWord_notes (run_wf [.link (8 + m) l] hs) m g hroot
  have hstay : ¬(s.rd TIM_DISC.state = Disc.free || s.rd TIM_DISC.state = Disc.holdover) = true := by
    obtain h | h := hst <;> rw [h] <;> decide
  rw [rd_take, if_neg hstay] at hword
  refine ⟨_, exec_time hm htake hrole, ?_, ?_⟩
  · rw [hword, rd_run_clear (by decide) rfl]
    exact hseen
  · have h : (v.run [setI TIM_RATE.ppb (s.run [.link (8 + m) l]).openRate, freeUsed (s.run [.link (8 + m) l])]).link (8 + m) = v.link (8 + m) :=
      Via.link ⟨_, by simp [setI, freeUsed, bump, Upd.keepsLink], rfl⟩
    rw [hword, h]
    exact ht1

theorem timeUp_answers {s : State} (hs : s.Wf) {m : Nat} {g : GotMsg} {l : Link} (hm : m < 5)
    (htake : (s.link (8 + m)).take? TmlT.timeUp = some (g, l)) : Gives (.timeUp m) s (Sends (8 + m) TmlT.delay) := by
  have hexec : exec (.timeUp m) s = .next ((s.run [.link (8 + m) l]).does (timeUp m g)) := by
    show execTimeUp m s = _
    exact withLane_next hm htake _
  refine ⟨_, hexec, ?_⟩
  unfold Sends
  rw [does_eq, timeUp, queueMsg, run_cons, run_nil, link_put_same (run_wf _ hs)]
  simp [Link.send]

theorem tlaneRttMeasure_asks {s : State} (hs : s.Wf) {m : Nat} (hm : m < 5) (hrole : s.rd (JOB_LCFG.role m) = 1)
    (hrun : s.rd (lkState (8 + m)) = LinkS.run) (hdue : (s.link (8 + m)).rttAt = 0 ∨ (s.link (8 + m)).rttAt + 4000000000 ≤ s.now + 1) :
    Gives (.tlaneRttMeasure m) s (fun t => (t.link (8 + m)).upDue = true ∧ (t.link (8 + m)).rttAt = s.now + 1) := by
  have hexec : exec (.tlaneRttMeasure m) s = .next (s.run [.link (8 + m) { s.link (8 + m) with upDue := true, rttAt := s.now + 1 }]) := by
    show execTlaneRttMeasure m s = _
    refine whenever_of ?_ s _
    obtain h | h := hdue <;> simp [hm, hrole, hrun, h]
  refine ⟨_, hexec, ?_, ?_⟩ <;> simp only [run_cons, run_nil] <;> rw [link_put_same hs]

theorem satUnsigned_lt (w : Nat) (i : Int) : satUnsigned w i < 2 ^ w := by
  unfold satUnsigned clampInt
  have := Nat.two_pow_pos w
  omega

/-- The hold-down of a timing lane moves its state and its event line alone (R269). -/
theorem rd_holdDown_timing {m : Nat} (hm : m < 5) (s : State) : (holdDown (8 + m) 0 s).rd (JOB_LRTT.rtt m) = s.rd (JOB_LRTT.rtt m) := by
  have hmsg : messageField (JOB_LRTT.rtt m) = false := by interval_cases m <;> decide
  refine Via.rd (Via.does (Via.run (Via.refl s) (by simp [dropLane, Upd.keeps])) ?_) hmsg
  rw [linkTo]
  split
  · simp
  · refine all_append (all_onlyIf fun h => by simp at h) ?_
    interval_cases m <;> simp [lkState, lkEvt, Upd.keeps, note] <;> decide

theorem laneRtt_rtt {s : State} (hs : s.Wf) {m : Nat} (hm : m < 5) (g : GotMsg) :
    (laneRtt m g s).rd (JOB_LRTT.rtt m) = satUnsigned 32 (divOpenI (((((s.link (8 + m)).t2 : Int) - (s.link (8 + m)).t1) +
      (((g.msg.get 8 8 * 1024 + g.msg.get 16 2 : Nat) : Int) - (s.link (8 + m)).t3)) * 25) 1024) := by
  have hmsg : messageField (JOB_LRTT.rtt m) = false := by interval_cases m <;> decide
  unfold laneRtt
  extract_lets n l t4 rtt delay r d t u
  have hr : r < 2 ^ 32 := satUnsigned_lt 32 rtt
  have ht : t.rd (JOB_LRTT.rtt m) = r := by
    have h : t.rd (JOB_LRTT.rtt m) = r % 2 ^ 32 := by
      refine rd_run_sets hs hmsg [] r ?_
      interval_cases m <;> rfl
    rw [h, Nat.mod_eq_of_lt hr]
  have hu : u.rd (JOB_LRTT.rtt m) = r := by
    rw [← ht]
    refine rd_run_clear hmsg (onlyIf_clears ?_ _)
    interval_cases m <;> rfl
  split
  · rw [rd_holdDown_timing hm, hu]
  · exact hu

theorem delay_measures {s : State} (hs : s.Wf) {m : Nat} {g : GotMsg} {l : Link} (hm : m < 5)
    (htake : (s.link (8 + m)).take? TmlT.delay = some (g, l)) :
    Gives (.delay m) s (fun t => t.rd (JOB_LRTT.rtt m) =
      satUnsigned 32 (divOpenI ((((l.t2 : Int) - l.t1) + (((g.msg.get 8 8 * 1024 + g.msg.get 16 2 : Nat) : Int) - l.t3)) * 25) 1024)) := by
  have hexec : exec (.delay m) s = .next (laneRtt m g (s.run [.link (8 + m) l])) := by
    show execDelay m s = _
    exact withLane_next hm htake _
  have htaken : (s.run [.link (8 + m) l]).link (8 + m) = l := link_put_same hs _ _
  refine ⟨_, hexec, ?_⟩
  show (laneRtt m g _).rd _ = _
  rw [laneRtt_rtt (run_wf _ hs) hm, htaken]

/-- Settles O19, a clause for each form: TIME free and followed, DISC_LOCK, DISC_REACQUIRE, DISC_HOLDOVER, SETTLED, TIME_UP, DELAY and
TLANE_RTT_MEASURE (R44, R268, R269, R271). -/
theorem jobTimeCommandsTakeEffect : Obligations.JobTimeCommandsTakeEffect := by
  unfold Obligations.JobTimeCommandsTakeEffect
  refine ⟨?_, ?_, ?_, ?_, ?_, ?_, ?_, ?_, ?_⟩
  · intro s m g l hs hm htake hrole hst
    exact time_acquires hs hm htake hrole hst
  · intro s m g l hs hm htake hrole hst
    exact time_seen hs hm htake hrole hst
  · intro s hs hst hgood
    exact discLock_locks hs hst hgood
  · intro s hs hst hbad
    exact discReacquire_acquires hs hst hbad
  · intro s hs hst hmiss
    exact discHoldover_holds hs hst hmiss
  · intro s hs hst hsince hlong
    exact settled_settles hs hst hsince hlong
  · intro s m g l hs hm htake
    exact timeUp_answers hs hm htake
  · intro s m g l hs hm htake
    exact delay_measures hs hm htake
  · intro s m hs hm hrole hrun hdue
    exact tlaneRttMeasure_asks hs hm hrole hrun hdue

end Sys2Proof.Machine
end

section
/-! SUPPORT. What a commit sets going leaves the transaction as it ended: updates that touch neither it nor its state (R58). -/

namespace Sys2Proof.Machine

/-- The update leaves the transaction, its state, what is staged, and tray time; it sets single fields alone. -/
def Upd.plain : Upd → Bool
  | .set f _ => decide (0x10_0108 ≤ f.addr) || decide (f.key < TIM_TXSTAT.state.key)
  | .resetRegs _ _ | .flushVectors | .tx _ | .staging _ | .clock _ | .coldStart => false
  | _ => true

theorem Upd.plain.keeps {u : Upd} (h : u.plain = true) : u.keeps TIM_TXSTAT.state := by
  cases u
  case set f v =>
    simp only [Upd.plain, Bool.or_eq_true, decide_eq_true_eq] at h
    simp only [Upd.keeps]
    obtain h | h := h
    · have : TIM_TXSTAT.state.key = 0x10_0104 * 64 := rfl
      unfold Fld.key at this ⊢
      omega
    · omega
  case resetRegs | flushVectors => cases h
  all_goals trivial

/-- A test that every update of a list passes. -/
abbrev Passing (p : Upd → Bool) (s t : State) : Prop := Via (fun u => p u = true) s t

theorem Passing.run {p : Upd → Bool} {s t : State} (h : Passing p s t) {us : List Upd} (hu : us.all p = true) : Passing p s (t.run us) :=
  Via.run h (List.all_eq_true.mp hu)

theorem Passing.does {p : Upd → Bool} {s t : State} (h : Passing p s t) {fx : State → List Upd} (hu : ∀ t, (fx t).all p = true) : Passing p s (t.does fx) :=
  Via.does h (List.all_eq_true.mp (hu t))

theorem Passing.doEach {p : Upd → Bool} {α : Type} {s t : State} (h : Passing p s t) {l : List α} {fx : α → State → List Upd}
    (hf : ∀ a t, (fx a t).all p = true) : Passing p s (t.doEach l fx) :=
  Via.doEach h fun t a _ => List.all_eq_true.mp (hf a t)

@[simp] theorem all_onlyIf_eq (p : Upd → Bool) (c : Bool) (us : List Upd) : (onlyIf c us).all p = (!c || us.all p) := by cases c <;> rfl

@[simp] theorem all_ite (p : Upd → Bool) (c : Prop) [Decidable c] (us vs : List Upd) :
    (if c then us else vs).all p = if c then us.all p else vs.all p := apply_ite (List.all · p) c us vs

theorem tx_apply_plain {s : State} {u : Upd} (h : u.plain = true) : (s.apply u).tx = s.tx := by
  cases u
  case tx | coldStart | flushVectors => cases h
  all_goals rfl

theorem Passing.tx {s t : State} (h : Passing Upd.plain s t) : t.tx = s.tx := by
  obtain ⟨us, hu, rfl⟩ := h
  induction us generalizing s with
  | nil => rfl
  | cons u us ih =>
    rw [run_cons, ih (fun v hv => hu v (by simp [hv])), tx_apply_plain (hu u (by simp))]

theorem Passing.txState {s t : State} (h : Passing Upd.plain s t) : t.rd TIM_TXSTAT.state = s.rd TIM_TXSTAT.state :=
  Via.rd (h.mono fun _ => Upd.plain.keeps) (by decide)

/-! Orders. -/

@[simp] theorem plain_emit (r : Rec) : Upd.plain (.emit r) = true := rfl
@[simp] theorem plain_note (typ src : Nat) (pay : List (Nat × Nat × Nat)) : (note typ src pay).plain = true := rfl

theorem issueOrder_plain (o : Order) (t : Nat) (s : State) : (issueOrder o t s).all Upd.plain = true := by
  simp [issueOrder, acceptOrder, refuseOrder, Upd.plain]

theorem numberProtect_plain (o : Order) (s : State) : (numberProtect o s).all Upd.plain = true := by
  simp [numberProtect, issueOrder_plain, bump, Upd.plain, TIM_PROTSEQ.next]

theorem issueLocal_plain (blk target scope : Nat) (release : Bool) (value window applyAt t : Nat) (mark : Bool) (s : State) :
    (issueLocal blk target scope release value window applyAt t mark s).all Upd.plain = true := by
  simp [issueLocal, issueOrder_plain, bump, Upd.plain, TIM_LOCSEQ.next]

theorem recount_plain (r : Nat) (s : State) : (recount r s).all Upd.plain = true := by
  simp [recount, Upd.plain, rNwork, rNbench, PHT_RAILCFG.nwork, PHT_RSTAT.nbench, Nat.le_add_right_of_le]

theorem failMaps_plain (r : Nat) (s : State) : (failMaps r s).all Upd.plain = true := by
  simp [failMaps, Upd.plain, PHT_FAILMAP.map, Nat.le_add_right_of_le]

theorem issueProtectOrder_plain (blk target scope : Nat) (release : Bool) (value : Nat) (mark : Bool) (s : State) :
    (issueProtectOrder blk target scope release value mark s).all Upd.plain = true := by
  simp [issueProtectOrder, numberProtect_plain, Upd.plain]

theorem formLocal_plain (b : Bundle) (s : State) : (formLocal b s).all Upd.plain = true := by
  simp [formLocal, issueLocal_plain]

theorem cancelTips_plain (n code : Nat) (s : State) : (cancelTips n code s).all Upd.plain = true := by
  simp [cancelTips, tipRec, note, Upd.plain]

theorem fedTo_plain (c st : Nat) (s : State) : (fedTo c st s).all Upd.plain = true := by
  simp [fedTo, fedToAt, setB, Upd.plain, FED_CHSTAT.state, FED_CHSTAT.pg, FED_EVT.state, Nat.le_add_right_of_le]

theorem prdTo_plain (n new cause tick : Nat) (s : State) : (prdTo n new cause tick s).all Upd.plain = true := by
  unfold prdTo
  extract_lets old p0 p1 p2 p3 p4 p5 p6 p7 p8
  cases p7 <;>
    simp [prdStateRec, note, Upd.plain, PRD_SSTAT.state, PRD_EVT.state, PRD_SSTAT.idx, PRD_STEP.step, Nat.le_add_right_of_le]

theorem latchBindings_plain (s : State) : (latchBindings s).all Upd.plain = true := by
  simp [latchBindings, Upd.plain, FAB_VARCNT.count, FAB_VARLAST.cell, FAB_VARLAST.binding, FAB_EVT.variance, V.capVariance, ivar]

theorem gateReply_plain (n call status seq : Nat) (res : List (Nat × List Nat)) (s : State) : (gateReply n call status seq res s).all Upd.plain = true := by
  simp [gateReply, bump, Upd.plain, KPR_GATESTAT.call, KPR_GATESTAT.status, KPR_GATESTAT.served]

theorem diodeSwitch_plain (s : State) : (diodeSwitch s).all Upd.plain = true := by
  simp [diodeSwitch, note, Upd.plain, THM_DEVSTAT.sel, V.graceAt, V.shutDue, THM_EVT.diode, ivar]

theorem discTo_plain (new lane : Nat) (s : State) : (discTo new lane s).all Upd.plain = true := by
  simp [discTo, setB, note, Upd.plain, TIM_DISC.state, TIM_DISC.valid, TIM_DISC.lane, V.discGood, V.discBad, V.discMissing, V.lockedSince, JOB_STAT.settled,
    TIM_RATE.ppb, TIM_TXSTAT.state, Fld.key, ivar]

theorem showUpLane_plain (n : Nat) (s : State) : (showUpLane n s).all Upd.plain = true := by
  simp [showUpLane, Upd.plain, TIM_DISC.lane, TIM_TXSTAT.state, Fld.key]

theorem outputsReset_plain (s : State) : (outputsReset s).all Upd.plain = true := by
  simp [outputsReset, Upd.plain, V.outBaseBound, V.outBase, V.outGuard, V.outFloor, V.outDutyBound, CAP_QOUT.q_out, CAP_ROUT.ramp_out, CAP_BAL.level,
    V.probe, ivar, Nat.le_add_right_of_le]

theorem replayStart_plain (s : State) : (replayStart s).all Upd.plain = true := by
  have hlaw : lawFields.all (fun f => decide (0x10_0108 ≤ f.addr)) = true := by
    simp only [lawFields, List.all_append, List.all_flatMap, List.all_map]
    simp [ivar, V.rising, V.pwSum, V.pw, V.envRuns, V.overTicks, V.ballast, V.shortfall, V.floorClash, CAP_QOUT.q_droop,
      CAP_QOUT.q_bridge, CAP_QOUT.q_ceil, CAP_ROUT.ramp_env, CAP_BAL.elig, CAP_BAL.level, CAP_FREQ.ceil, CAP_SP.p, CAP_S1MS.p, PRD_OUT.f_fc,
      PRD_OUT.ramp_fc, PRD_OUT.g_fc, CAP_ENVA.a, CAP_ENVQ.q_env, CAP_ENVQ.h, CAP_ENVBAL.b, CAP_ENVBAL.short, Nat.le_add_right_of_le]
  have hset (f : Fld) (hf : f ∈ lawFields) (v : Nat) : Upd.plain (.set f v) = true := by
    simp [Upd.plain, of_decide_eq_true (List.all_eq_true.mp hlaw f hf)]
  have hreset : (lawFields.map (fun f => Upd.set f f.reset)).all Upd.plain = true := by
    rw [List.all_map, List.all_eq_true]
    exact fun f hf => hset f hf _
  have hfree : (lawFields.zipIdx.map (fun x => Upd.set x.1 (Config.freeValue (s.rd V.freeCtr + x.2)))).all Upd.plain = true := by
    rw [List.all_map, List.all_eq_true]
    exact fun x hx => hset x.1 (List.fst_mem_of_mem_zipIdx hx) _
  simp only [replayStart, replayDone, all_ite, List.all_append, hreset, hfree]
  simp [note, Upd.plain, JOB_RPSTAT.state, JOB_RPSTAT.result, JOB_EVT.replay, V.freeCtr, ivar]

theorem classMove_plain (t : Tx) (old : State) (c : Nat) (s : State) : (classMove t old c s).all Upd.plain = true := by
  simp [classMove, Upd.plain, JRN_HEAD.head, JRN_ACK.ack, HIF_DRPOS.pos, V.stored, V.drained, V.drainSince, ivar, Nat.le_add_right_of_le]

theorem forceLinks_plain (t : Tx) (s : State) : (forceLinks t s).all Upd.plain = true := by
  simp [forceLinks, Upd.plain]

theorem prdDisabled_plain (n : Nat) (s : State) : (prdDisabled n s).all Upd.plain = true := by
  simp [prdDisabled, prdTo_plain, Upd.plain, PRD_OUT.f_fc, PRD_OUT.ramp_fc, PRD_OUT.g_fc, Nat.le_add_right_of_le]

theorem syncOff_plain (old : State) (k : Nat) (s : State) : (syncOff old k s).all Upd.plain = true := by
  simp [syncOff, Upd.plain, PHT_SYNCSTAT.lock, PHT_SYNCSTAT.holdover, V.syncGood, V.syncPhase, ivar, Nat.le_add_right_of_le]

theorem armCheck_plain (old : State) (t : Tx) (s : State) : (armCheck old t s).all Upd.plain = true := by
  simp [armCheck, Upd.plain, JOB_JTIPCTL.arm, Nat.le_add_right_of_le]

/-! What is composed of them. -/

section
variable {s₀ s : State}

theorem Passing.ite {p : Upd → Bool} {t : State} {c : Prop} {_ : Decidable c} (h : Passing p s₀ s) (k : Passing p s₀ t) :
    Passing p s₀ (if c then s else t) := by
  split <;> assumption

theorem Passing.foldl {p : Upd → Bool} {α : Type} {f : State → α → State} {l : List α} (h : Passing p s₀ s)
    (hf : ∀ {t} a, Passing p s₀ t → Passing p s₀ (f t a)) : Passing p s₀ (l.foldl f s) := by
  induction l generalizing s with
  | nil => exact h
  | cons a l ih => exact ih (hf a h)

theorem Passing.protectHold {x : Hold} (h : Passing Upd.plain s₀ s) : Passing Upd.plain s₀ (protectHold x s) :=
  h.ite ((h.run rfl).does (issueProtectOrder_plain _ _ _ _ _ _))

theorem Passing.protectDrop {holder : Holder} {blk target scope : Nat} (h : Passing Upd.plain s₀ s) :
    Passing Upd.plain s₀ (protectDrop holder blk target scope s) :=
  (((h.run rfl).does (issueProtectOrder_plain _ _ _ _ _ _)).ite ((h.run rfl).ite ((h.run rfl).does (issueProtectOrder_plain _ _ _ _ _ _)))).ite h

theorem Passing.numberFresh (h : Passing Upd.plain s₀ s) : Passing Upd.plain s₀ (numberFresh s) :=
  (h.run rfl).foldl fun o k => k.does (numberProtect_plain o)

theorem Passing.gathered {f : State → State} (h : Passing Upd.plain s₀ s) (hf : ∀ {t}, Passing Upd.plain s₀ t → Passing Upd.plain s₀ (f t)) :
    Passing Upd.plain s₀ (gathered f s) :=
  (hf h).ite (hf (h.run rfl)).numberFresh

theorem Passing.phaseCeiling {r : Nat} (h : Passing Upd.plain s₀ s) : Passing Upd.plain s₀ (phaseCeiling r s) := by
  have hlimit (k j v : Nat) : Upd.plain (.set (PHT_RCEIL.i k j) v) = true := by simp [Upd.plain, PHT_RCEIL.i, Nat.le_add_right_of_le]
  have hempty (k j v : Nat) : Upd.plain (.set (PHT_RSTAT.bench_empty k j) v) = true := by
    simp [Upd.plain, PHT_RSTAT.bench_empty, Nat.le_add_right_of_le]
  have hstart (k j v : Nat) := h.run (us := [.set (PHT_RCEIL.i k j) v]) (by simp [hlimit])
  have hend (k j v w : Nat) := h.run (us := [.set (PHT_RSTAT.bench_empty k j) v, .set (PHT_RCEIL.i k j) w]) (by simp [hlimit, hempty])
  exact ((hstart _ _ _).protectHold.ite (hstart _ _ _)).ite (((hend _ _ _ _).protectDrop.ite (hend _ _ _ _)).ite h)

theorem Passing.rolesTaken {t : Tx} {old : State} (h : Passing Upd.plain s₀ s) : Passing Upd.plain s₀ (rolesTaken t old s) := by
  refine h.ite (((h.run ?_).doEach recount_plain).foldl fun r k => k.phaseCeiling)
  simp [Upd.plain, V.imgRole, V.place, ivar, Nat.le_add_right_of_le]

theorem Passing.channelReturn {c : Nat} (h : Passing Upd.plain s₀ s) : Passing Upd.plain s₀ (channelReturn c s) := by
  refine (((h.run ?_).does (recount_plain _)).does (failMaps_plain _)).phaseCeiling
  simp [Upd.plain, chRole, chState, PHT_CHCFG.role, PHT_CHSTAT.state, V.surveyed, V.place, V.repFor, ivar, Nat.le_add_right_of_le]

theorem Passing.fedDamageClear {c : Nat} (h : Passing Upd.plain s₀ s) : Passing Upd.plain s₀ (fedDamageClear c s) := by
  refine h.gathered fun {t} k => ?_
  have hclear (st : Nat) := k.run (us := fedTo c st t ++ [.set FED_DMGMAP.dmg (clearBit (t.rd FED_DMGMAP.dmg) c), .set (V.escalated c) 0,
    .set (V.fedOffAt c) (t.now + 1), .set (V.leakAt c) 0, .set (V.outAt c) 0])
    (by simp [fedTo_plain, Upd.plain, FED_DMGMAP.dmg, V.escalated, V.fedOffAt, V.leakAt, V.outAt, ivar, Nat.le_add_right_of_le])
  exact ((hclear _).protectDrop.ite (hclear _)).ite k

theorem Passing.unsettle (h : Passing Upd.plain s₀ s) : Passing Upd.plain s₀ (unsettle s) :=
  (h.doEach fun n => cancelTips_plain n 3).ite h

theorem Passing.discConfig (h : Passing Upd.plain s₀ s) : Passing Upd.plain s₀ (discConfig s) :=
  (h.does (discTo_plain _ _)).ite ((h.unsettle.does (discTo_plain _ _)).ite (h.run (by simp [showUpLane_plain])))

theorem Passing.fabricOrdersEnd (h : Passing Upd.plain s₀ s) : Passing Upd.plain s₀ (fabricOrdersEnd s) :=
  (h.gathered fun k => k.foldl fun _ k => k.protectDrop).foldl fun _ k => k.does fun _ => issueLocal_plain _ _ _ _ _ _ _ _ _ _

theorem Passing.lockSwitch (h : Passing Upd.plain s₀ s) : Passing Upd.plain s₀ (lockSwitch s) := by
  have hstate (v : Nat) : Upd.plain (.set JOB_LSSTAT.state v) = true := rfl
  have hrest := h.run (us := [.fab { s.fab with lockBytes := [], lockFrames := [], lockSigs := [] }]) rfl
  exact (hrest.run rfl).ite ((h.run rfl).ite (((hrest.run rfl).fabricOrdersEnd.does outputsReset_plain).ite (hrest.run rfl)))

theorem Passing.lordOrders {t : Tx} (h : Passing Upd.plain s₀ s) : Passing Upd.plain s₀ (lordOrders t s) :=
  h.doEach fun _ _ => formLocal_plain _ _

theorem Passing.txHooks {t : Tx} {old : State} (h : Passing Upd.plain s₀ s) : Passing Upd.plain s₀ (txHooks t old s) := by
  unfold Machine.txHooks
  extract_lets s1 s2 s3 s4 s5 s6 s7 r s8
  have h1 : Passing Upd.plain s₀ s1 := (h.rolesTaken.doEach (syncOff_plain old)).does (forceLinks_plain t)
  have h2 : Passing Upd.plain s₀ s2 := h1.foldl fun _ k => k.channelReturn
  have h3 : Passing Upd.plain s₀ s3 := h2.doEach (classMove_plain t old)
  have h4 : Passing Upd.plain s₀ s4 := h3.does diodeSwitch_plain
  have h5 : Passing Upd.plain s₀ s5 := h4.fedDamageClear.ite h4
  have h6 : Passing Upd.plain s₀ s6 := h5.discConfig.does (armCheck_plain old t)
  have h7 : Passing Upd.plain s₀ s7 := h6.lockSwitch.ite h6
  have hr : Passing Upd.plain s₀ r := h7.does replayStart_plain
  have h8 : Passing Upd.plain s₀ s8 := (hr.fabricOrdersEnd.ite hr).ite h7
  exact (h8.doEach prdDisabled_plain).lordOrders

theorem Passing.latchNow (h : Passing Upd.plain s₀ s) : Passing Upd.plain s₀ (latchNow s) :=
  ((h.run rfl).does latchBindings_plain).ite h

theorem Passing.structReply (h : Passing Upd.plain s₀ s) : Passing Upd.plain s₀ (structReply s) :=
  h.ite ((h.run rfl).does (gateReply_plain _ _ _ _ _))

end

end Sys2Proof.Machine
end

section
/-! How a transaction ends: its timeout, its boundary of effect, and a wait in vain for a safe boundary (R58, R59, R258). -/

namespace Sys2Proof.Machine

/-! The checks do not look at the orders that PROTECT gathers (R58, R583). -/

/-- The update writes one field. -/
def Upd.sets : Upd → Bool
  | .set _ _ => true
  | _ => false

/-- Fields are written without a look at the orders. -/
theorem run_sets_orders {s : State} (o : Orders) {us : List Upd} (h : us.all Upd.sets = true) :
    (s.apply (.orders o)).run us = (s.run us).apply (.orders o) := by
  induction us generalizing s with
  | nil => rfl
  | cons u us ih =>
    obtain ⟨hu, hus⟩ : u.sets = true ∧ us.all Upd.sets = true := by simpa using h
    cases u
    case set f v => exact ih (s := s.apply (.set f v)) hus
    all_goals cases hu

theorem txTrial_orders (s : State) (o : Orders) (t : Tx) : (s.apply (.orders o)).txTrial t = (s.txTrial t).apply (.orders o) := by
  unfold State.txTrial
  refine run_sets_orders o ?_
  simp only [State.txWrites, List.all_append, all_ite, List.all_map]
  simp [Function.comp_def, Upd.sets]

theorem blockOk_orders (s u : State) (o p : Orders) (t : Tx) (b : Nat) :
    (s.apply (.orders o)).blockOk (u.apply (.orders p)) t b = s.blockOk u t b := rfl

theorem txFails_orders (s : State) (o : Orders) (t : Tx) : (s.apply (.orders o)).txFails t = s.txFails t := by
  unfold State.txFails
  simp only [txTrial_orders, blockOk_orders]
  rfl

/-! The boundary of effect. -/

/-- The transaction takes effect: it ends DONE and holds nothing, whatever it sets going (R58). -/
theorem txTakes_done {s : State} (hs : s.Wf) (himage : s.commitsImage = false) (t : Tx) :
    (txTakes t s).rd TIM_TXSTAT.state = TxS.done ∧ (txTakes t s).tx.vals = [] := by
  let s1 := s.does (preemptStaged (s.txBlocks t))
  let commit := note Ty.TX_COMMIT (srcOf 1 0) [(24, 1, s.txOwner), (26, 2, s.rd TIM_TXCOUNT.writes), (32, 8, s.boundary), (40, 8, s.rd TIM_TXSTAMP.stamp)]
  let done := s1.run (s.txWrites t ++ [commit] ++ [.tx { s.tx with vals := [], waitFrom := none }, .set TIM_TXSTAT.state TxS.done])
  have htakes : txTakes t s = txHooks t s done := by
    simp only [txTakes, himage, partnerInits, done]
    simp only [Bool.not_false, if_true, List.append_nil, List.append_assoc]
    rfl
  have hhooks : Passing Upd.plain done (txHooks t s done) := Passing.txHooks (Via.refl _)
  have hstate : done.rd TIM_TXSTAT.state = TxS.done :=
    rd_run_append_lastSet (run_wf _ hs) (by decide) _ (g := TIM_TXSTAT.state) (v := TxS.done) rfl
  have hvals : done.tx.vals = [] := by
    simp only [done, run_append]
    rfl
  rw [htakes]
  exact ⟨hhooks.txState.trans hstate, hhooks.tx ▸ hvals⟩

/-- What TX_EFFECT does of a transaction that passes its checks, its orders gathered or not. -/
def txPasses (s : State) : State := latchNow (txTakes s.tx s)

theorem txPasses_done {s : State} (hs : s.Wf) (himage : s.commitsImage = false) :
    (txPasses s).rd TIM_TXSTAT.state = TxS.done ∧ (txPasses s).tx.vals = [] := by
  obtain ⟨hstate, hvals⟩ := txTakes_done hs himage s.tx
  have hlatch : Passing Upd.plain (txTakes s.tx s) (txPasses s) := Passing.latchNow (Via.refl _)
  exact ⟨hlatch.txState.trans hstate, hlatch.tx ▸ hvals⟩

theorem txEffect_passes {s : State} (himage : s.commitsImage = false) (hpass : s.txFails s.tx = none) : txEffect s = gathered txPasses s := by
  have hgo {u : State} (hu : u.commitsImage = false) (hok : u.txFails u.tx = none) :
      (if u.commitLive && !u.safeBoundary then latchNow (u.run [.tx { u.tx with waitFrom := some (u.tx.waitFrom.getD u.boundary) }])
        else match u.txFails u.txAll with
          | some base => latchNow (u.does (txAbortWith 3 base))
          | none => latchNow (txTakes u.txAll u)) = txPasses u := by
    have hall : u.txAll = u.tx := by simp [State.txAll, hu]
    have hlive : u.commitLive = false := by simp [State.commitLive, hu]
    rw [hall, hlive, hok]
    rfl
  unfold txEffect gathered
  split
  · exact hgo himage hpass
  · exact congrArg numberFresh (hgo himage ((txFails_orders s _ _).trans hpass))

theorem txEffect_done {s : State} (hs : s.Wf) (hdue : s.txDue = true) (himage : s.commitsImage = false) (hpass : s.txFails s.tx = none) :
    Gives .txEffect s (fun t => t.rd TIM_TXSTAT.state = TxS.done ∧ t.tx.vals = []) := by
  have hexec : exec .txEffect s = .next (structReply (gathered txPasses s)) := by
    show execTxEffect s = _
    rw [execTxEffect, hdue, txEffect_passes himage hpass]
    rfl
  have hend : ∃ u, Passing Upd.plain u (structReply (gathered txPasses s)) ∧ u.rd TIM_TXSTAT.state = TxS.done ∧ u.tx.vals = [] := by
    unfold gathered
    split
    · exact ⟨_, Passing.structReply (Via.refl _), txPasses_done hs himage⟩
    · exact ⟨_, Passing.structReply (Passing.numberFresh (Via.refl _)), txPasses_done (apply_wf (.orders _) hs) himage⟩
  obtain ⟨u, hu, hstate, hvals⟩ := hend
  exact ⟨_, hexec, hu.txState.trans hstate, hu.tx ▸ hvals⟩

/-! Aborts. -/

theorem txTimeout_aborts {s : State} (hs : s.Wf) (hopen : s.rd TIM_TXSTAT.state = TxS.openS)
    (hlate : s.tx.openedAt + s.rd TIM_TXTIMEOUT.ticks * 4000 < s.now) :
    Gives .txTimeout s (fun t => t.rd TIM_TXSTAT.state = TxS.aborted ∧ t.rd TIM_TXSTAT.cause = 6 ∧ t.tx.vals = [] ∧ Raised Ty.TX_ABORT t) := by
  have hexec : exec .txTimeout s = .next (s.does (txAbortWith 6 0)) := by
    show execTxTimeout s = _
    exact whenever_of (by simp [hopen, hlate]) s _
  exact ⟨_, hexec, txAbortWith_aborts hs (by decide) 0⟩

theorem commitWaitTimeout_aborts {s : State} (hs : s.Wf) (hdue : s.txDue = true) (hwait : s.waitedOut = true) (hlatch : s.rd V.latchOwed = 0)
    (hcore : s.rd V.structCore = 0) :
    Gives .commitWaitTimeout s (fun t => t.rd TIM_TXSTAT.state = TxS.aborted ∧ t.rd TIM_TXSTAT.cause = 3 ∧ t.tx.vals = [] ∧ Raised Ty.TX_ABORT t) := by
  have hlatch' : (s.does (txAbortWith 3 0x60_0000)).rd V.latchOwed = 0 := by
    rw [← hlatch]
    exact rd_run_clear (by decide) rfl
  have hcore' : (s.does (txAbortWith 3 0x60_0000)).rd V.structCore = 0 := by
    rw [← hcore]
    exact rd_run_clear (by decide) rfl
  have hquiet : structReply (latchNow (s.does (txAbortWith 3 0x60_0000))) = s.does (txAbortWith 3 0x60_0000) := by
    have hnow : latchNow (s.does (txAbortWith 3 0x60_0000)) = s.does (txAbortWith 3 0x60_0000) := by
      rw [latchNow, State.on, hlatch']
      rfl
    rw [hnow]
    rw [structReply, hcore']
    rfl
  have hexec : exec .commitWaitTimeout s = .next (s.does (txAbortWith 3 0x60_0000)) := by
    show execCommitWaitTimeout s = _
    rw [execCommitWaitTimeout, hquiet, whenever_of (by simp [hdue, hwait])]
  exact ⟨_, hexec, txAbortWith_aborts hs (by decide) _⟩

/-- Settles O17, a clause for each form: TX_TIMEOUT, TX_EFFECT and COMMIT_WAIT_TIMEOUT (R58, R59, R258). -/
theorem transactionsEnd : Obligations.TransactionsEnd := by
  unfold Obligations.TransactionsEnd
  refine ⟨?_, ?_, ?_⟩
  · intro s hs hopen hlate
    exact txTimeout_aborts hs hopen hlate
  · intro s hs hdue himage hpass
    exact txEffect_done hs hdue himage hpass
  · intro s hs hdue hwait hlatch hcore
    exact commitWaitTimeout_aborts hs hdue hwait hlatch hcore

end Sys2Proof.Machine
end

section
/-! SUPPORT. The functions that leave tray time and the staging buffers: a control tick up to its boundary, and a register write but for what it
stages. -/

namespace Sys2Proof.Machine

-- A default proof is evaluated once all that precedes it is checked, which would keep a thread waiting for each of the theorems below.
set_option Elab.async false

/-- The update leaves tray time and what is staged. -/
def Upd.calm : Upd → Bool
  | .clock _ | .coldStart | .staging _ => false
  | _ => true

/-- Every other update is calm. -/
@[simp] theorem calm_update :
    (∀ f v, Upd.calm (.set f v) = true) ∧ (∀ a bs, Upd.calm (.store a bs) = true) ∧ (∀ r, Upd.calm (.emit r) = true) ∧
      (∀ lo hi, Upd.calm (.resetRegs lo hi) = true) ∧ (∀ lo hi, Upd.calm (.wipe lo hi) = true) ∧ (∀ f, Upd.calm (.firn f) = true) ∧
      (∀ o, Upd.calm (.orders o) = true) ∧ (∀ t, Upd.calm (.tx t) = true) ∧ (∀ b, Upd.calm (.bus b) = true) ∧ (∀ i l, Upd.calm (.lane i l) = true) ∧
      (∀ n l, Upd.calm (.link n l) = true) ∧ (∀ hs, Upd.calm (.hints hs) = true) ∧ (∀ n p, Upd.calm (.prd n p) = true) ∧
      (∀ l, Upd.calm (.ue l) = true) ∧ (∀ f, Upd.calm (.fab f) = true) ∧ (∀ j r, Upd.calm (.job j r) = true) ∧ (∀ l, Upd.calm (.gq l) = true) ∧
      (∀ l, Upd.calm (.bufs l) = true) ∧ (∀ m, Upd.calm (.memu m) = true) ∧ (∀ e i n, Upd.calm (.tally e i n) = true) ∧
      (∀ p w n, Upd.calm (.carry p w n) = true) ∧ (∀ u, Upd.calm (.pmu u) = true) ∧ (∀ v, Upd.calm (.vector v) = true) ∧
      Upd.calm .flushVectors = true := by
  refine ⟨?_, ?_, ?_, ?_, ?_, ?_, ?_, ?_, ?_, ?_, ?_, ?_, ?_, ?_, ?_, ?_, ?_, ?_, ?_, ?_, ?_, ?_, ?_, ?_⟩ <;> intros <;> rfl

/-! Each list of updates, in the order of the functions' definitions. -/

@[simp] theorem note_calm (typ src : Nat) (pay : List (Nat × Nat × Nat)) : (note typ src pay).calm = true := rfl
@[simp] theorem setB_calm (f : Fld) (b : Bool) : (setB f b).calm = true := rfl
@[simp] theorem setI_calm (f : Fld) (i : Int) : (setI f i).calm = true := rfl
@[simp] theorem setISat_calm (f : Fld) (i : Int) : (setISat f i).calm = true := rfl
@[simp] theorem bump_calm (s : State) (f : Fld) : (bump s f).calm = true := rfl
@[simp] theorem bumpSat_calm (s : State) (f : Fld) (n : Nat) : (bumpSat s f n).calm = true := rfl
@[simp] theorem freeUsed_calm (s : State) : (freeUsed s).calm = true := rfl
@[simp] theorem ite_calm (c : Prop) [Decidable c] (u v : Upd) : (if c then u else v).calm = if c then u.calm else v.calm := apply_ite Upd.calm c u v

theorem Upd.calm_of_plain {us : List Upd} (h : us.all Upd.plain = true) : us.all Upd.calm = true := by
  refine List.all_eq_true.mpr fun u hu => ?_
  have hplain := List.all_eq_true.mp h u hu
  cases u
  case clock | coldStart | staging => cases hplain
  all_goals rfl

theorem txCtlGate_calm {req value : Nat} {s : State} {us : List Upd} (h : txCtlGate req value s = some us) : us.all Upd.calm = true := by
  unfold txCtlGate at h
  split_ifs at h <;> cases h <;> simp [discardWrite]

/-! Machine/Bus.lean. -/

@[simp] theorem discardWrite_calm (req reason width data a : Nat) : (discardWrite req reason width data a).calm = true := by simp [discardWrite]

/-! Machine/Orders.lean. -/

@[simp] theorem acceptOrder_calm (o : Order) (t : Nat) (s : State) : (acceptOrder o t s).all Upd.calm = true := by simp [acceptOrder]
@[simp] theorem refuseOrder_calm (o : Order) (result t : Nat) (s : State) : (refuseOrder o result t s).all Upd.calm = true := by simp [refuseOrder]
@[simp] theorem issueOrder_calm (o : Order) (t : Nat) (s : State) : (issueOrder o t s).all Upd.calm = true := by simp [issueOrder]
@[simp] theorem issueLocal_calm (blk target scope : Nat) (release : Bool) (value window applyAt t : Nat) (mark : Bool) (s : State) :
    (issueLocal blk target scope release value window applyAt t mark s).all Upd.calm = true := by simp [issueLocal]
@[simp] theorem numberProtect_calm (o : Order) (s : State) : (numberProtect o s).all Upd.calm = true := by simp [numberProtect]
@[simp] theorem issueProtectOrder_calm (blk target scope : Nat) (release : Bool) (value : Nat) (mark : Bool) (s : State) :
    (issueProtectOrder blk target scope release value mark s).all Upd.calm = true := by simp [issueProtectOrder]

/-! Machine/Staging.lean. -/

@[simp] theorem paramReject_calm (s : State) (p reason value req : Nat) : (paramReject s p reason value req).all Upd.calm = true := by simp [paramReject]

/-! Machine/RegWrite.lean. -/

@[simp] theorem txAbortWith_calm (cause offending : Nat) (s : State) : (txAbortWith cause offending s).all Upd.calm = true := by simp [txAbortWith]
@[simp] theorem foreignRec_calm (req a data : Nat) (s : State) : (foreignRec req a data s).calm = true := by simp [foreignRec]
@[simp] theorem txPlaceFields_calm (req : Nat) (h : RegHit) (data width : Nat) (s : State) :
    (txPlaceFields req h data width s).all Upd.calm = true := by simp [txPlaceFields]
@[simp] theorem fieldWrite_calm (req data hw : Nat) (s : State) (e : Access × Fld) : (fieldWrite req data hw s e).all Upd.calm = true := by
  unfold fieldWrite
  split
  · rfl
  · split <;> simp
@[simp] theorem txLosesWrite_calm (req a : Nat) (s : State) : (txLosesWrite req a s).all Upd.calm = true := by
  unfold txLosesWrite
  split <;> simp
@[simp] theorem lpTraffic_calm (isWrite : Bool) (a n : Nat) (s : State) : (lpTraffic isWrite a n s).all Upd.calm = true := by simp [lpTraffic]
@[simp] theorem hostTraffic_calm (req : Nat) (isWrite : Bool) (n : Nat) : (hostTraffic req isWrite n).all Upd.calm = true := by simp [hostTraffic]

/-! Machine/Counters.lean. -/

@[simp] theorem counterAdd_calm (i n pc : Nat) (s : State) : (counterAdd i n pc s).all Upd.calm = true := by simp [counterAdd]
@[simp] theorem pmcSnap_calm (b : Nat) (s : State) : (pmcSnap b s).all Upd.calm = true := by simp [pmcSnap]

/-! Machine/Store.lean. -/

@[simp] theorem flashStore_calm (sp a : Nat) (bs : List Nat) : (flashStore sp a bs).calm = true := by simp [flashStore]
@[simp] theorem flashErase_calm (sp a n : Nat) : (flashErase sp a n).calm = true := by simp [flashErase]
@[simp] theorem ledgerWrite_calm (kind : Nat) (payload : List Nat) (s : State) : (ledgerWrite kind payload s).all Upd.calm = true := by simp [ledgerWrite]
@[simp] theorem showSlots_calm (k : Nat) (s : State) : (showSlots k s).all Upd.calm = true := by simp [showSlots]
@[simp] theorem showCopies_calm (e : Nat) (s : State) : (showCopies e s).all Upd.calm = true := by simp [showCopies]

/-! Machine/Phase.lean. -/

@[simp] theorem protClear_calm (r : Nat) : (protClear r).all Upd.calm = true := by simp [protClear]
@[simp] theorem tipRec_calm (j code slots barrier t : Nat) : (tipRec j code slots barrier t).calm = true := by simp [tipRec]
@[simp] theorem cancelTips_calm (n code : Nat) (s : State) : (cancelTips n code s).all Upd.calm = true := by simp [cancelTips]
@[simp] theorem railTo_calm (r st : Nat) (s : State) : (railTo r st s).all Upd.calm = true := by simp [railTo]
@[simp] theorem parkAll_calm (r st : Nat) (s : State) : (parkAll r st s).all Upd.calm = true := by simp [parkAll]
@[simp] theorem brakeRec_calm (r on ns t : Nat) (s : State) : (brakeRec r on ns t s).calm = true := by simp [brakeRec]
@[simp] theorem brakeDown_calm (r t : Nat) (s : State) : (brakeDown r t s).all Upd.calm = true := by simp [brakeDown]
@[simp] theorem railDisable_calm (r : Nat) (s : State) : (railDisable r s).all Upd.calm = true := by simp [railDisable]
@[simp] theorem channelTick_calm (s : State) : (channelTick s).all Upd.calm = true := by simp [channelTick]
@[simp] theorem powerTick_calm (r : Nat) (s : State) : (powerTick r s).all Upd.calm = true := by simp [powerTick]
@[simp] theorem phaseTick_calm (r : Nat) (s : State) : (phaseTick r s).all Upd.calm = true := by simp [phaseTick]

/-! Machine/Swija.lean. -/

@[simp] theorem linkTo_calm (n new cause : Nat) (s : State) : (linkTo n new cause s).all Upd.calm = true := by
  unfold linkTo
  extract_lets old l
  simp
@[simp] theorem startLane_calm (i rate : Nat) (fixed : Bool) (s : State) : (startLane i rate fixed s).all Upd.calm = true := by simp [startLane]
@[simp] theorem dropLane_calm (i : Nat) (s : State) : (dropLane i s).calm = true := by simp [dropLane]
@[simp] theorem seedLanes_calm (n : Nat) (s : State) : (seedLanes n s).all Upd.calm = true := by simp [seedLanes]
@[simp] theorem queueMsg_calm (n typ : Nat) (pay : List Nat) (s : State) : (queueMsg n typ pay s).all Upd.calm = true := by simp [queueMsg]
@[simp] theorem sendFreq_calm (n index job at' : Nat) (s : State) : (sendFreq n index job at' s).all Upd.calm = true := by simp [sendFreq]
@[simp] theorem rttMeasure_calm (n : Nat) (s : State) : (rttMeasure n s).all Upd.calm = true := by simp [rttMeasure]

/-! Machine/Custody.lean. -/

@[simp] theorem gateNote_calm (typ n : Nat) (pay : List (Nat × Nat × Nat)) (s : State) : (gateNote typ n pay s).calm = true := by simp [gateNote]
@[simp] theorem driveStraps_calm (n : Nat) (s : State) : (driveStraps n s).all Upd.calm = true := by simp [driveStraps]
@[simp] theorem assertReset_calm (n cause : Nat) (s : State) : (assertReset n cause s).all Upd.calm = true := by simp [assertReset]
@[simp] theorem attemptsAnew_calm (n : Nat) : (attemptsAnew n).all Upd.calm = true := by simp [attemptsAnew]
@[simp] theorem bootNote_calm (n what : Nat) (s : State) : (bootNote n what s).calm = true := by simp [bootNote]
@[simp] theorem bootCleared_calm (n : Nat) (s : State) : (bootCleared n s).all Upd.calm = true := by simp [bootCleared]
@[simp] theorem bootTick_calm (n : Nat) (s : State) : (bootTick n s).all Upd.calm = true := by simp [bootTick]
@[simp] theorem slotSignals_calm (n : Nat) (s : State) : (slotSignals n s).all Upd.calm = true := by simp [slotSignals]
@[simp] theorem custodyCode_calm (n op code region core bytes : Nat) (s : State) :
    (custodyCode n op code region core bytes s).all Upd.calm = true := by simp [custodyCode]
@[simp] theorem custodyBegin_calm (n op keep skip core : Nat) (s : State) : (custodyBegin n op keep skip core s).all Upd.calm = true := by simp [custodyBegin]
@[simp] theorem custodyFree_calm (n : Nat) (s : State) : (custodyFree n s).all Upd.calm = true := by simp [custodyFree]
@[simp] theorem custodyGroupUp_calm (n : Nat) (s : State) : (custodyGroupUp n s).all Upd.calm = true := by simp [custodyGroupUp]

/-! Machine/Feeds.lean. -/

@[simp] theorem fedToAt_calm (c st t : Nat) (s : State) : (fedToAt c st t s).all Upd.calm = true := by simp [fedToAt]
@[simp] theorem fedTo_calm (c st : Nat) (s : State) : (fedTo c st s).all Upd.calm = true := by simp [fedTo]
@[simp] theorem fedRegulate_calm (c st : Nat) (s : State) : (fedRegulate c st s).all Upd.calm = true := by simp [fedRegulate]
@[simp] theorem fedOff_calm (c : Nat) (s : State) : (fedOff c s).all Upd.calm = true := by simp [fedOff]
@[simp] theorem fedTrip_calm (c cause t : Nat) (s : State) : (fedTrip c cause t s).all Upd.calm = true := by simp [fedTrip]
@[simp] theorem tripRec_calm (c cause t vout i : Nat) : (tripRec c cause t vout i).calm = true := by simp [tripRec]
@[simp] theorem fedReady_calm (c : Nat) (s : State) : (fedReady c s).all Upd.calm = true := by simp [fedReady]
@[simp] theorem beginSwitch_calm (cause t0 : Nat) (s : State) : (beginSwitch cause t0 s).all Upd.calm = true := by simp [beginSwitch]
@[simp] theorem switchTick_calm (s : State) : (switchTick s).all Upd.calm = true := by simp [switchTick]
@[simp] theorem sinceAt_calm (t : Nat) (f : Fld) (c : Bool) (s : State) : (sinceAt t f c s).all Upd.calm = true := by simp [sinceAt]
@[simp] theorem since_calm (f : Fld) (c : Bool) (s : State) : (since f c s).all Upd.calm = true := by simp [since]
@[simp] theorem fedConvert_calm (c : Nat) (s : State) : (fedConvert c s).all Upd.calm = true := by simp [fedConvert]
@[simp] theorem fedJudge_calm (c : Nat) (s : State) : (fedJudge c s).all Upd.calm = true := by simp [fedJudge]
@[simp] theorem fedPower_calm (c : Nat) (s : State) : (fedPower c s).all Upd.calm = true := by simp [fedPower]
@[simp] theorem trayInput_calm (s : State) : (trayInput s).all Upd.calm = true := by simp [trayInput]
@[simp] theorem gateShown_calm (c : Nat) (s : State) : (gateShown c s).all Upd.calm = true := by simp [gateShown]

/-! Machine/ExecBus.lean. -/

@[simp] theorem txBegin_calm (req value : Nat) (s : State) : (txBegin req value s).all Upd.calm = true := by
  unfold txBegin
  split
  · exact txCtlGate_calm ‹_›
  · simp
@[simp] theorem txStampWrite_calm (req value : Nat) (s : State) : (txStampWrite req value s).all Upd.calm = true := by simp [txStampWrite]
@[simp] theorem txCommit_calm (req value : Nat) (s : State) : (txCommit req value s).all Upd.calm = true := by
  unfold txCommit
  split
  · exact txCtlGate_calm ‹_›
  · simp
@[simp] theorem txAbort_calm (req value : Nat) (s : State) : (txAbort req value s).all Upd.calm = true := by
  unfold txAbort
  split
  · exact txCtlGate_calm ‹_›
  · simp

/-! Machine/Caps.lean. -/

@[simp] theorem droopTick_calm (n : Nat) (s : State) : (droopTick n s).all Upd.calm = true := by simp [droopTick]
@[simp] theorem summaryNext_calm (r : Nat) (s : State) : (summaryNext r s).all Upd.calm = true := by simp [summaryNext]
@[simp] theorem bridgeTick_calm (n : Nat) (s : State) : (bridgeTick n s).all Upd.calm = true := by simp [bridgeTick]
@[simp] theorem ceilTick_calm (n : Nat) (s : State) : (ceilTick n s).all Upd.calm = true := by simp [ceilTick]
@[simp] theorem slotEnergy_calm (n : Nat) (s : State) : (slotEnergy n s).all Upd.calm = true := by simp [slotEnergy]
@[simp] theorem trayEnergy_calm (s : State) : (trayEnergy s).all Upd.calm = true := by simp [trayEnergy]
@[simp] theorem closeBins_calm (s : State) : (closeBins s).all Upd.calm = true := by simp [closeBins]
@[simp] theorem freqOffer_calm (n : Nat) (s : State) : (freqOffer n s).all Upd.calm = true := by
  unfold freqOffer
  cases s.jobOf n <;> simp
@[simp] theorem freqDue_calm (n : Nat) (s : State) : (freqDue n s).all Upd.calm = true := by simp [freqDue]
@[simp] theorem envRec_calm (ev a p b : Nat) : (envRec ev a p b).calm = true := by simp [envRec]
@[simp] theorem conflictNote_calm (a p : Nat) (s : State) : (conflictNote a p s).all Upd.calm = true := by simp [conflictNote]
@[simp] theorem envTick_calm (s : State) : (envTick s).all Upd.calm = true := by simp [envTick]
@[simp] theorem ballastTick_calm (s : State) : (ballastTick s).all Upd.calm = true := by simp [ballastTick]
@[simp] theorem combineStage_calm (b n : Nat) (s : State) : (combineStage b n s).all Upd.calm = true := by simp [combineStage]

/-! Machine/Predictor.lean. -/

@[simp] theorem prdStat_calm (s : State) : (prdStat s).all Upd.calm = true := by simp [prdStat]
@[simp] theorem putRecord_calm (n off flags : Nat) (v feats : List Int) (s : State) :
    (putRecord n off flags v feats s).all Upd.calm = true := by simp [putRecord]
@[simp] theorem flushHalf_calm (n : Nat) (s : State) : (flushHalf n s).all Upd.calm = true := by
  unfold flushHalf
  split <;> simp
@[simp] theorem prdStateRec_calm (n new cause : Nat) (s : State) : (prdStateRec n new cause s).calm = true := by simp [prdStateRec]
@[simp] theorem prdTo_calm (n new cause tick : Nat) (s : State) :
    (prdTo n new cause tick s).all Upd.calm = true := Upd.calm_of_plain (prdTo_plain n new cause tick s)
@[simp] theorem takeInputs_calm (n b a : Nat) (s : State) : (takeInputs n b a s).all Upd.calm = true := by simp [takeInputs]
@[simp] theorem runStages_calm (n b : Nat) (s : State) : (runStages n b s).all Upd.calm = true := by simp [runStages]
@[simp] theorem vectorEnter_calm (n b : Nat) (s : State) : (vectorEnter n b s).all Upd.calm = true := by
  unfold vectorEnter
  dsimp only
  split <;> simp
@[simp] theorem forecastStage_calm (n b : Nat) (s : State) : (forecastStage n b s).all Upd.calm = true := by
  unfold forecastStage
  dsimp only
  split <;> simp
@[simp] theorem accuracySample_calm (n tick : Nat) (s : State) : (accuracySample n tick s).all Upd.calm = true := by
  unfold accuracySample
  dsimp only
  split <;> simp
@[simp] theorem recordTick_calm (n b : Nat) (s : State) : (recordTick n b s).all Upd.calm = true := by
  unfold recordTick
  split
  next a h =>
    extract_lets p t off began valid v fs open' flags done' begins
    have hopen : open'.all Upd.calm = true := rfl
    have hdone (us : List Upd) (hus : us.all Upd.calm = true) : (done' us).all Upd.calm = true := by simp [done', hus, hopen]
    have hbegins (us : List Upd) (hus : us.all Upd.calm = true) : (begins us).all Upd.calm = true := by simp [begins, hus, hopen]
    cases p.half <;> simp [hopen, hdone, hbegins, hbegins [] rfl, -List.all_eq_true]
  · rfl
@[simp] theorem mapKeep_calm (n t : Nat) (s : State) : (mapKeep n t s).all Upd.calm = true := by simp [mapKeep]
@[simp] theorem weightCheck_calm (n : Nat) (s : State) : (weightCheck n s).all Upd.calm = true := by
  unfold weightCheck
  split <;> simp
@[simp] theorem mapsKept_calm (b n : Nat) (s : State) : (mapsKept b n s).all Upd.calm = true := by simp [mapsKept]

/-! Machine/Fabric.lean. -/

@[simp] theorem latchBindings_calm (s : State) : (latchBindings s).all Upd.calm = true := by simp [latchBindings]
@[simp] theorem closeLate_calm (s : State) : (closeLate s).all Upd.calm = true := by simp [closeLate]
@[simp] theorem cellRec_calm (s : State) (typ c : Nat) (pay : List (Nat × Nat × Nat)) : (State.cellRec s typ c pay).calm = true := by simp [State.cellRec]
@[simp] theorem boundFlags_calm (bs : List Binding) : (boundFlags bs).all Upd.calm = true := by simp [boundFlags]
@[simp] theorem traceCells_calm (r : PassRun) (pass : Nat) (s : State) : (traceCells r pass s).all Upd.calm = true := by simp [traceCells]
@[simp] theorem takeSnapshot_calm (pass dsig isig : Nat) (s : State) : (takeSnapshot pass dsig isig s).all Upd.calm = true := by simp [takeSnapshot]
@[simp] theorem countSkips_calm (r : PassRun) (s : State) : (countSkips r s).all Upd.calm = true := by simp [countSkips]

/-! Machine/Loader.lean. -/

@[simp] theorem loadReport_calm (code item : Nat) (s : State) : (loadReport code item s).all Upd.calm = true := by simp [loadReport]

/-! Machine/Boot.lean. -/

@[simp] theorem keeperNote_calm (typ : Nat) (pay : List (Nat × Nat × Nat)) : (keeperNote typ pay).calm = true := by simp [keeperNote]
@[simp] theorem stageTo_calm (st : Nat) (s : State) : (stageTo st s).all Upd.calm = true := by simp [stageTo]
@[simp] theorem imageFailed_calm (k sl code version svn : Nat) (s : State) :
    (imageFailed k sl code version svn s).all Upd.calm = true := by simp [imageFailed]
@[simp] theorem recordSelect_calm (k : Nat) (sl : Option Nat) (s : State) : (recordSelect k sl s).all Upd.calm = true := by simp [recordSelect]
@[simp] theorem recoveryWindow_calm (kind : Nat) (s : State) : (recoveryWindow kind s).all Upd.calm = true := by simp [recoveryWindow]
@[simp] theorem freshNonce_calm (s : State) : (freshNonce s).all Upd.calm = true := by simp [freshNonce]
@[simp] theorem owedWipe_calm (s : State) : (owedWipe s).all Upd.calm = true := by simp [owedWipe]
@[simp] theorem loadKey_calm (k : Nat) (s : State) : (loadKey k s).all Upd.calm = true := by simp [loadKey]
@[simp] theorem readLedger_calm (s : State) : (readLedger s).all Upd.calm = true := by simp [readLedger]
@[simp] theorem startGated_calm (w : Place) (slot : Nat) (s : State) : (startGated w slot s).all Upd.calm = true := by simp [startGated]
@[simp] theorem releaseCore_calm (n : Nat) (s : State) : (releaseCore n s).all Upd.calm = true := by simp [releaseCore]

/-! Machine/Gate.lean. -/

@[simp] theorem gateReply_calm (n call status seq : Nat) (res : List (Nat × List Nat)) (s : State) :
    (gateReply n call status seq res s).all Upd.calm = true := by simp [gateReply]
@[simp] theorem structTx_calm (live seed : Nat) (s : State) : (structTx live seed s).all Upd.calm = true := by simp [structTx]

/-! Machine/HostIf.lean. -/

@[simp] theorem hostNote_calm (typ inst : Nat) (pay : List (Nat × Nat × Nat)) : (hostNote typ inst pay).calm = true := by simp [hostNote]
@[simp] theorem ringEvent_calm (p what code seq : Nat) : (ringEvent p what code seq).calm = true := by simp [ringEvent]
@[simp] theorem ringError_calm (p code seq : Nat) (halt : Bool) : (ringError p code seq halt).all Upd.calm = true := by simp [ringError]
@[simp] theorem examine_calm (p : Nat) (s : State) : (examine p s).all Upd.calm = true := by simp [examine]
@[simp] theorem postWith_calm (p : Nat) (head : List Nat) (len tag : Nat) (payload : List Nat) (s : State) :
    (postWith p head len tag payload s).all Upd.calm = true := by simp [postWith]
@[simp] theorem ringOn_calm (p : Nat) (s : State) : (ringOn p s).all Upd.calm = true := by simp [ringOn]
@[simp] theorem ringOff_calm (p : Nat) (s : State) : (ringOff p s).all Upd.calm = true := by simp [ringOff]
@[simp] theorem recoveryNote_calm (outcome code path : Nat) (s : State) : (recoveryNote outcome code path s).calm = true := by simp [recoveryNote]
@[simp] theorem recoveryGo_calm (path : Nat) (s : State) : (recoveryGo path s).all Upd.calm = true := by simp [recoveryGo]

/-! Machine/TwoWire.lean. -/

@[simp] theorem portNote_calm (typ n : Nat) (pay : List (Nat × Nat × Nat)) : (portNote typ n pay).calm = true := by simp [portNote]
@[simp] theorem portEvent_calm (n what : Nat) (s : State) : (portEvent n what s).all Upd.calm = true := by simp [portEvent]
@[simp] theorem transferEnd_calm (n code count : Nat) : (transferEnd n code count).all Upd.calm = true := by simp [transferEnd]

/-! Machine/Memory.lean. -/

@[simp] theorem foundUe_calm (w : Nat) (s : State) : (foundUe w s).all Upd.calm = true := by
  unfold foundUe
  split <;> simp
@[simp] theorem foundCe_calm (w : Nat) (s : State) : (foundCe w s).all Upd.calm = true := by
  unfold foundCe
  split <;> simp

/-! Machine/Drain.lean. -/

@[simp] theorem dmaEnd_calm (e st err bytes : Nat) : (dmaEnd e st err bytes).all Upd.calm = true := by simp [dmaEnd]

/-! Machine/ExecHost.lean. -/

@[simp] theorem servicePush_calm (value : Nat) (s : State) : (servicePush value s).all Upd.calm = true := by simp [servicePush]

/-! Machine/ExecFirn.lean. -/

@[simp] theorem mgmtPush_calm (req : Nat) (s : State) : (mgmtPush req s).all Upd.calm = true := by simp [mgmtPush]
@[simp] theorem advanceAck_calm (c v : Nat) (s : State) : (advanceAck c v s).all Upd.calm = true := by simp [advanceAck]
@[simp] theorem ackWrite_calm (req c v : Nat) (s : State) : (ackWrite req c v s).all Upd.calm = true := by simp [ackWrite]
@[simp] theorem captureRec_calm (s : State) : (captureRec s).all Upd.calm = true := by simp [captureRec]
@[simp] theorem markTrigger_calm (frame at' : Nat) : (markTrigger frame at').all Upd.calm = true := by simp [markTrigger]
@[simp] theorem triggerFx_calm (srcs : Nat) (s : State) : (triggerFx srcs s).all Upd.calm = true := by simp [triggerFx]
@[simp] theorem armFx_calm (s : State) : (armFx s).all Upd.calm = true := by simp [armFx]

/-! Machine/Seq.lean. -/

@[simp] theorem railNote_calm (typ r : Nat) (pay : List (Nat × Nat × Nat)) (s : State) : (railNote typ r pay s).calm = true := by simp [railNote]
@[simp] theorem groupTo_calm (g st cause : Nat) (s : State) : (groupTo g st cause s).all Upd.calm = true := by simp [groupTo]
@[simp] theorem setPg_calm (r : Nat) (level : Bool) (s : State) : (setPg r level s).all Upd.calm = true := by simp [setPg]
@[simp] theorem requalify_calm (r : Nat) (s : State) : (requalify r s).all Upd.calm = true := by simp [requalify]
@[simp] theorem deassertRail_calm (r st : Nat) (s : State) : (deassertRail r st s).all Upd.calm = true := by
  unfold deassertRail
  cases s.regOf? r <;> simp
@[simp] theorem waitCheck_calm (g : Nat) (s : State) : (waitCheck g s).all Upd.calm = true := by simp [waitCheck]
@[simp] theorem groupClock_calm (g : Nat) (s : State) : (groupClock g s).all Upd.calm = true := by
  unfold groupClock
  cases s.clockHolder g <;> simp
@[simp] theorem vmonConvert_calm (s : State) : (vmonConvert s).all Upd.calm = true := by simp [vmonConvert]
@[simp] theorem railSample_calm (r : Nat) (s : State) : (railSample r s).all Upd.calm = true := by
  unfold railSample
  cases s.regOf? r <;> cases s.feedOf? r <;> simp
@[simp] theorem faultLine_calm (s : State) : (faultLine s).all Upd.calm = true := by simp [faultLine]
@[simp] theorem systemTick_calm (s : State) : (systemTick s).all Upd.calm = true := by simp [systemTick]
@[simp] theorem seqVariance_calm (s : State) : (seqVariance s).all Upd.calm = true := by simp [seqVariance]
@[simp] theorem clearLatch_calm (r : Nat) (s : State) : (clearLatch r s).all Upd.calm = true := by simp [clearLatch]

/-! Machine/Thermal.lean. -/

@[simp] theorem diodeConvert_calm (d : Nat) (s : State) : (diodeConvert d s).all Upd.calm = true := by simp [diodeConvert]
@[simp] theorem devRec_calm (old new d cause : Nat) (s : State) : (devRec old new d cause s).calm = true := by simp [devRec]
@[simp] theorem extConvert_calm (i : Nat) (s : State) : (extConvert i s).all Upd.calm = true := by simp [extConvert]
@[simp] theorem limitRec_calm (i code : Nat) (s : State) : (limitRec i code s).calm = true := by simp [limitRec]
@[simp] theorem setLatch_calm (i : Nat) (v : Bool) (s : State) : (setLatch i v s).calm = true := by simp [setLatch]
@[simp] theorem tachTick_calm (f : Nat) (s : State) : (tachTick f s).all Upd.calm = true := by simp [tachTick]
@[simp] theorem fanTo_calm (f st : Nat) (s : State) : (fanTo f st s).all Upd.calm = true := by simp [fanTo]
@[simp] theorem pwmTick_calm (f : Nat) (s : State) : (pwmTick f s).all Upd.calm = true := by simp [pwmTick]
@[simp] theorem fanTick_calm (f : Nat) (s : State) : (fanTick f s).all Upd.calm = true := by
  unfold fanTick
  split <;> simp
@[simp] theorem leakTick_calm (i : Nat) (s : State) : (leakTick i s).all Upd.calm = true := by simp [leakTick]

/-! Machine/Reset.lean. -/

@[simp] theorem crpNote_calm (typ : Nat) (pay : List (Nat × Nat × Nat)) : (crpNote typ pay).calm = true := by simp [crpNote]
@[simp] theorem standbyJudge_calm (s : State) : (standbyJudge s).all Upd.calm = true := by simp [standbyJudge]
@[simp] theorem pllStat_calm (s : State) : (pllStat s).all Upd.calm = true := by simp [pllStat]
@[simp] theorem auxWatch_calm (s : State) : (auxWatch s).all Upd.calm = true := by simp [auxWatch]
@[simp] theorem islandPower_calm (s : State) : (islandPower s).all Upd.calm = true := by simp [islandPower]

/-! Machine/Tap.lean. -/

@[simp] theorem tamNote_calm (typ : Nat) (pay : List (Nat × Nat × Nat)) : (tamNote typ pay).calm = true := by simp [tamNote]
@[simp] theorem unlockNow_calm  : (unlockNow ).all Upd.calm = true := by simp [unlockNow]
@[simp] theorem unlockNote_calm (code path key : Nat) (s : State) : (unlockNote code path key s).calm = true := by simp [unlockNote]
@[simp] theorem privateUse_calm (s : State) : (privateUse s).all Upd.calm = true := by simp [privateUse]
@[simp] theorem testRefuse_calm (code pin ir word : Nat) : (testRefuse code pin ir word).all Upd.calm = true := by simp [testRefuse]

/-! Machine/Job.lean. -/

@[simp] theorem discTick_calm (s : State) : (discTick s).all Upd.calm = true := by simp [discTick]
@[simp] theorem jobLatch_calm (s : State) : (jobLatch s).all Upd.calm = true := by simp [jobLatch]
@[simp] theorem freeSlots_calm (s : State) : (freeSlots s).all Upd.calm = true := by simp [freeSlots]
@[simp] theorem outputsReset_calm (s : State) : (outputsReset s).all Upd.calm = true := by simp [outputsReset]
@[simp] theorem recordedVector_calm (b : Nat) (inp : Bool × Binding → Int) (n : Nat) (s : State) : (recordedVector b inp n s).all Upd.calm = true := by
  unfold recordedVector
  split <;> simp
@[simp] theorem replayDone_calm (result pass : Nat) : (replayDone result pass).all Upd.calm = true := by simp [replayDone]
@[simp] theorem queueAll_calm (n : Nat) (ms : List Msg) (s : State) : (queueAll n ms s).all Upd.calm = true := by simp [queueAll]
@[simp] theorem lockForward_calm (pass dsig : Nat) (bs : List Binding) (inp : Bool × Binding → Int) (s : State) :
    (lockForward pass dsig bs inp s).all Upd.calm = true := by simp [lockForward]
@[simp] theorem lockDiffer_calm (who pass own peer : Nat) : (lockDiffer who pass own peer).all Upd.calm = true := by simp [lockDiffer]
@[simp] theorem lockRate_calm (s : State) : (lockRate s).all Upd.calm = true := by simp [lockRate]

/-! Machine/Tick.lean. -/

@[simp] theorem captureFrame_calm (s : State) : (captureFrame s).all Upd.calm = true := by simp [captureFrame]
@[simp] theorem tickEvents_calm (s : State) : (tickEvents s).all Upd.calm = true := by simp [tickEvents]
@[simp] theorem firnTick_calm (s : State) : (firnTick s).all Upd.calm = true := by simp [firnTick]
@[simp] theorem deliverUps_calm (n : Nat) (s : State) : (deliverUps n s).all Upd.calm = true := by
  unfold deliverUps
  extract_lets t l
  cases l.ups.find? (fun u => u.tick == t && u.heard) <;> simp
@[simp] theorem quietTick_calm (s : State) : (quietTick s).all Upd.calm = true := by simp [quietTick]
@[simp] theorem rtcTick_calm (s : State) : (rtcTick s).all Upd.calm = true := by simp [rtcTick]
@[simp] theorem binTick_calm (s : State) : (binTick s).all Upd.calm = true := by simp [binTick]

/-! What is composed of them. -/

/-- A staging buffer holds no more than R50 lets it. -/
def Staging.Limits (g : Staging) : Prop := (∀ b q, (g.pendingStamps b q).length ≤ 16) ∧ ∀ b q x, (g.against b q x).length ≤ 64

/-- `t` stands at the tray time of `s`, and its staging buffers are within their limits where those of `s` are. -/
def Calm (s t : State) : Prop := t.now = s.now ∧ (s.staging.Limits → t.staging.Limits)

theorem Calm.refl (s : State) : Calm s s := ⟨rfl, id⟩

theorem Calm.trans {s t u : State} (h : Calm s t) (k : Calm t u) : Calm s u := ⟨k.1.trans h.1, fun hl => k.2 (h.2 hl)⟩

theorem calm_apply {s : State} {u : Upd} (hu : u.calm = true) : Calm s (s.apply u) := by
  cases u
  case clock | coldStart | staging => cases hu
  case flushVectors =>
    rw [apply_flush]
    exact ⟨rfl, id⟩
  all_goals exact ⟨rfl, id⟩

section
variable {s₀ s t : State}

theorem Calm.run (h : Calm s₀ s) {us : List Upd} (hu : us.all Upd.calm = true := by simp) : Calm s₀ (s.run us) := by
  induction us generalizing s with
  | nil => exact h
  | cons u us ih =>
    obtain ⟨hhead, htail⟩ : u.calm = true ∧ us.all Upd.calm = true := by simpa using hu
    exact ih (h.trans (calm_apply hhead)) htail

theorem Calm.does (h : Calm s₀ s) {fx : State → List Upd} (hu : (fx s).all Upd.calm = true := by simp) : Calm s₀ (s.does fx) := h.run hu

theorem Calm.bind (h : Calm s₀ s) (hf : Calm s₀ s → Calm s₀ t) : Calm s₀ t := hf h

theorem Calm.ite {c : Prop} {_ : Decidable c} (h : Calm s₀ s) (k : Calm s₀ t) : Calm s₀ (if c then s else t) := by split <;> assumption

theorem Calm.foldl {α : Type} {f : State → α → State} {l : List α} (h : Calm s₀ s) (hf : ∀ {t a}, Calm s₀ t → Calm s₀ (f t a)) :
    Calm s₀ (l.foldl f s) := by
  induction l generalizing s with
  | nil => exact h
  | cons a l ih => exact ih (hf h)

theorem Calm.doEach {α : Type} {l : List α} {fx : α → State → List Upd} (h : Calm s₀ s) (hu : ∀ a t, (fx a t).all Upd.calm = true := by simp) :
    Calm s₀ (s.doEach l fx) :=
  h.foldl fun k => k.does (hu _ _)

theorem Calm.numberFresh (h : Calm s₀ s) : Calm s₀ (numberFresh s) := h.run.foldl (·.does)

theorem Calm.gathered {f : State → State} (h : Calm s₀ s) (hf : ∀ {t}, Calm s₀ t → Calm s₀ (f t)) : Calm s₀ (gathered f s) :=
  (hf h).ite (hf h.run).numberFresh


/-! Machine/Orders.lean. -/

theorem Calm.protectHold {x : Hold} (h : Calm s₀ s) : Calm s₀ (protectHold x s) := h.ite h.run.does
theorem Calm.protectDrop {holder : Holder} {blk target scope : Nat} (h : Calm s₀ s) : Calm s₀ (protectDrop holder blk target scope s) :=
  (h.run.does.ite (h.run.ite h.run.does)).ite h
theorem Calm.protectDropAll {holder : Holder} (h : Calm s₀ s) : Calm s₀ (protectDropAll holder s) := h.foldl (·.protectDrop)
theorem Calm.protectSay {x : Hold} {gone : Bool} (h : Calm s₀ s) : Calm s₀ (protectSay x gone s) := h.run.does
theorem Calm.protectHoldAll {hs : List Hold} (h : Calm s₀ s) : Calm s₀ (protectHoldAll hs s) := h.foldl (·.protectHold)
theorem Calm.protectOnly {holder : Holder} {hs : List Hold} (h : Calm s₀ s) : Calm s₀ (protectOnly holder hs s) :=
  h.gathered fun k => (k.foldl (·.protectDrop)).protectHoldAll

/-! Machine/Counters.lean. -/

theorem Calm.pmcFlush (h : Calm s₀ s) : Calm s₀ (pmcFlush s) := h.run.foldl fun k => k.ite (k.run.ite k.does)
theorem Calm.countersSeen {a : Nat} (h : Calm s₀ s) : Calm s₀ (countersSeen a s) := h.pmcFlush.ite h

/-! Machine/Store.lean. -/

theorem Calm.moveItem {k sl : Nat} {i : Item} (h : Calm s₀ s) : Calm s₀ (moveItem k sl i s) := h.ite (h.does.run.bind fun t => t.does.ite t.does)

/-! Machine/Swija.lean. -/

theorem Calm.holdDown {n cause : Nat} (h : Calm s₀ s) : Calm s₀ (holdDown n cause s) := h.run.does
theorem Calm.linkOff {n cause : Nat} (h : Calm s₀ s) : Calm s₀ (linkOff n cause s) := h.does.run.protectDropAll
theorem Calm.linkOffCheck {n : Nat} (h : Calm s₀ s) : Calm s₀ (linkOffCheck n s) := h.ite (h.linkOff.ite (h.linkOff.ite h))
theorem Calm.rttRun {n : Nat} (h : Calm s₀ s) : Calm s₀ (rttRun n s) := h.does.holdDown.ite h.does
theorem Calm.rttNow {n : Nat} (h : Calm s₀ s) : Calm s₀ (rttNow n s) := h.ite (h.rttRun.ite h.run)

/-! Machine/Custody.lean. -/

theorem Calm.gateTick {n : Nat} (h : Calm s₀ s) : Calm s₀ (gateTick n s) := (h.does.ite h).bind fun t => (t.run.ite t).bind fun u => u.does.ite u
theorem Calm.acuTick (h : Calm s₀ s) : Calm s₀ (acuTick s) := h.foldl (·.gateTick.does.does)
theorem Calm.custodyStart {n op keep skip core : Nat} (h : Calm s₀ s) : Calm s₀ (custodyStart n op keep skip core s) :=
  h.does.ite (h.does.run.does.ite (h.does.does.ite h.does))

/-! Machine/Feeds.lean. -/

theorem Calm.fedUnlatch {c : Nat} (h : Calm s₀ s) : Calm s₀ (fedUnlatch c s) :=
  .ite (by split; exacts [h.run.does.protectDrop, h.run.does]) h
theorem Calm.noFeed (h : Calm s₀ s) : Calm s₀ (noFeed s) := h.run.run.doEach.run.protectHoldAll.ite h.run.doEach
theorem Calm.fedDamage {c code : Nat} (h : Calm s₀ s) : Calm s₀ (fedDamage c code s) :=
  h.gathered fun k => (k.run.protectHold.ite k.run).bind fun u => u.run.doEach.run.noFeed.ite u
theorem Calm.followEnable {c : Nat} (h : Calm s₀ s) : Calm s₀ (followEnable c s) := h.run.does.bind fun u => u.does.ite (u.does.ite u)
theorem Calm.feedsFollow (h : Calm s₀ s) : Calm s₀ (feedsFollow s) := h.foldl (·.followEnable)
theorem Calm.fedSample {c : Nat} (h : Calm s₀ s) : Calm s₀ (fedSample c s) := h.does.does
theorem Calm.fedFill {c : Nat} (h : Calm s₀ s) : Calm s₀ (fedFill c s) := h.foldl (·.fedSample)
theorem Calm.fedMeasure (h : Calm s₀ s) : Calm s₀ (fedMeasure s) := (h.foldl (·.fedFill)).doEach.does
theorem Calm.judgeOld (h : Calm s₀ s) : Calm s₀ (judgeOld s) := (h.fedDamage.ite h).run.ite h
theorem Calm.fedTick (h : Calm s₀ s) : Calm s₀ (fedTick s) := h.feedsFollow.doEach.does.judgeOld

/-! Machine/Caps.lean. -/

theorem Calm.capLaws (h : Calm s₀ s) : Calm s₀ (capLaws s) :=
  h.doEach.does.bind fun s1 => s1.doEach.ite s1.doEach.doEach.doEach.does.does.doEach.doEach.doEach
theorem Calm.combineAll {b : Nat} (h : Calm s₀ s) : Calm s₀ (combineAll b s) := h.ite h.doEach.run

/-! Machine/Predictor.lean. -/

theorem Calm.prdTick {b : Nat} {u : State} {n : Nat} (h : Calm s₀ s) : Calm s₀ (prdTick b u n s) :=
  h.does.does.bind fun s1 => (s1.does.does.bind fun s2 => (s2.ite s2.does).does.doEach.does).ite s1.run
theorem Calm.prdAll {b : Nat} {u : State} (h : Calm s₀ s) : Calm s₀ (prdAll b u s) := h.ite (h.doEach.foldl (·.prdTick)).does

/-! Machine/Fabric.lean. -/

theorem Calm.orderOut {b : Binding} {v : Int} {at' : Nat} (h : Calm s₀ s) : Calm s₀ (orderOut b v at' s) := h.does.ite h.protectSay
theorem Calm.driveOut {r : PassRun} {at' : Nat} {b : Binding} (h : Calm s₀ s) : Calm s₀ (driveOut r at' b s) :=
  h.run.ite (h.run.ite ((h.ite h.orderOut).ite ((h.run.ite h.run).ite (h.run.ite h))))
theorem Calm.publishPass {x : PassCtx} {isig : Nat} {r : PassRun} (h : Calm s₀ s) : Calm s₀ (publishPass x isig r s) := h.does.does.run.does
theorem Calm.driveAll {x : PassCtx} {r : PassRun} (h : Calm s₀ s) : Calm s₀ (driveAll x r s) := (h.run.run.foldl (·.driveOut)).run
theorem Calm.fabricPass {b : Nat} (h : Calm s₀ s) : Calm s₀ (fabricPass b s) := h.ite h.publishPass.driveAll

/-! Machine/Loader.lean. -/

theorem Calm.loadBytes {bytes : List Nat} {len : Nat} {ue : Bool} (h : Calm s₀ s) : Calm s₀ (loadBytes bytes len ue s) := h.run
theorem Calm.loadStart {addr len : Nat} (h : Calm s₀ s) : Calm s₀ (loadStart addr len s) := h.does.ite h.run.loadBytes
theorem Calm.loadEnd (h : Calm s₀ s) : Calm s₀ (loadEnd s) := by
  unfold Machine.loadEnd
  extract_lets bad
  rcases bad with _ | _
  all_goals exact h.run.does

/-! Machine/Boot.lean. -/

theorem Calm.rejectTrial {k sl : Nat} (h : Calm s₀ s) : Calm s₀ (rejectTrial k sl s) := h.run.ite h.moveItem.run
theorem Calm.suspectsToo {k : Nat} {chk : State → Nat → Nat} {rest : List Nat} (h : Calm s₀ s) : Calm s₀ (suspectsToo k chk rest s) :=
  (h.foldl fun k => k.ite k.does).ite h
theorem Calm.trySlots {k : Nat} {chk : State → Nat → Nat} {l : List Nat} (h : Calm s₀ s) : Calm s₀ (trySlots k chk l s).1 := by
  induction l generalizing s with
  | nil => exact h
  | cons sl l ih =>
    unfold Machine.trySlots
    extract_lets trial t c
    have ht : Calm s₀ t := h.run.ite h
    split
    · exact ih h.rejectTrial
    · split
      · dsimp only
        exact ht.suspectsToo
      · exact ih ht.does
theorem Calm.of_trySlots {k : Nat} {chk : State → Nat → Nat} {l : List Nat} {o : Option Nat} (h : Calm s₀ s) (e : Machine.trySlots k chk l s = (t, o)) :
    Calm s₀ t := by
  simpa only [e] using h.trySlots (k := k) (chk := chk) (l := l)
theorem Calm.nextKeeper (h : Calm s₀ s) : Calm s₀ (nextKeeper s) := by
  unfold Machine.nextKeeper
  extract_lets
  split
  next t sel e =>
    have ht := h.of_trySlots e
    cases sel
    · exact ht.does.does.does
    · exact ht.run.does
theorem Calm.romStart {bad : Nat} (h : Calm s₀ s) : Calm s₀ (romStart bad s) := by
  unfold Machine.romStart
  extract_lets
  split
  · exact h.run.does
  · exact h.run.run.bind fun u => (u.does.ite u).does.bind fun w => w.does.ite w.doEach.run.does.nextKeeper
theorem Calm.releaseCores {value : Nat} (h : Calm s₀ s) : Calm s₀ (releaseCores value s) := h.doEach.bind fun t => t.does.ite t
theorem Calm.setLocks {value : Nat} (h : Calm s₀ s) : Calm s₀ (setLocks value s) := h.run.run

/-! Machine/Gate.lean. -/

theorem Calm.structCold (h : Calm s₀ s) : Calm s₀ (structCold s) := h.ite (h.run.loadBytes.loadEnd.bind fun t => t.does.ite t)
theorem Calm.structReply (h : Calm s₀ s) : Calm s₀ (structReply s) := h.ite h.run.does

/-! Machine/HostIf.lean. -/

theorem Calm.ringControl {p value : Nat} (h : Calm s₀ s) : Calm s₀ (ringControl p value s) := (h.run.ite h.run.does).ite h.run.does
theorem Calm.releaseHost (h : Calm s₀ s) : Calm s₀ (releaseHost s) := (h.foldl (·.does.run)).run

/-! Machine/TwoWire.lean. -/

theorem Calm.controllerStart {req n value recov : Nat} (h : Calm s₀ s) : Calm s₀ (controllerStart req n value recov s) :=
  h.run.ite (h.run.ite (h.run.ite (h.run.run.ite ((h.run.run.run.ite (h.run.run.run.does.ite h.run.run.run.does)).ite h.run.run))))

/-! Machine/Memory.lean. -/

theorem Calm.checkRead {a n : Nat} (h : Calm s₀ s) : Calm s₀ (checkRead a n s) := by
  unfold Machine.checkRead
  extract_lets t
  have ht : Calm s₀ t := h.doEach
  split
  · split
    · exact ht.does
    · exact ht
  · exact ht.doEach
theorem Calm.patrol {r : Nat} (h : Calm s₀ s) : Calm s₀ (patrol r s) := h.checkRead.run

/-! Machine/Drain.lean. -/

theorem Calm.dmaStart {req e value : Nat} (h : Calm s₀ s) : Calm s₀ (dmaStart req e value s) :=
  h.run.ite (h.run.run.run.ite (h.run.run.run.ite h.run.run.run))

/-! Machine/Seq.lean. -/

theorem Calm.shutdownTick (h : Calm s₀ s) : Calm s₀ (shutdownTick s) := h.ite (by split; exacts [h.does.run, h])
theorem Calm.seqTick (h : Calm s₀ s) : Calm s₀ (seqTick s) := h.does.does.doEach.doEach.doEach.doEach.shutdownTick.does.does
theorem Calm.unlatch {r : Nat} (h : Calm s₀ s) : Calm s₀ (unlatch r s) := by
  unfold Machine.unlatch
  split
  · exact h.does.fedUnlatch
  · exact h.does
theorem Calm.latchGone {g cause : Nat} (h : Calm s₀ s) : Calm s₀ (latchGone g cause s) := h.ite (h.does.ite h).protectDrop
theorem Calm.systemEnd (h : Calm s₀ s) : Calm s₀ (systemEnd s) := h.run.protectDropAll

/-! Machine/Thermal.lean. -/

theorem Calm.holdFloors {x : Holder} {zs : List Nat} {v : Nat} {pumps : Bool} (h : Calm s₀ s) : Calm s₀ (holdFloors x zs v pumps s) :=
  h.protectHoldAll
theorem Calm.devTo {l d cause : Nat} (h : Calm s₀ s) : Calm s₀ (devTo l d cause s) := h.run.protectOnly
theorem Calm.brokenTick (h : Calm s₀ s) : Calm s₀ (brokenTick s) := (h.run.devTo.ite h.run).run.ite h
theorem Calm.critical {i : Nat} (h : Calm s₀ s) : Calm s₀ (critical i s) := h.run.protectHoldAll
theorem Calm.sourceTick {i : Nat} (h : Calm s₀ s) : Calm s₀ (sourceTick i s) :=
  (h.ite h.run).bind fun t => (t.protectHoldAll.ite t).ite (t.critical.ite t.run)
theorem Calm.setCeil {n c : Nat} (h : Calm s₀ s) : Calm s₀ (setCeil n c s) := h.run.protectDrop.ite h.run.protectHold
theorem Calm.ceilingTick {n : Nat} (h : Calm s₀ s) : Calm s₀ (ceilingTick n s) := (h.run.setCeil.ite h.run).bind fun s2 => s2.setCeil.ite s2
theorem Calm.mapHolds {n : Nat} (h : Calm s₀ s) : Calm s₀ (mapHolds n s) := h.protectOnly
theorem Calm.mapTick {n : Nat} (h : Calm s₀ s) : Calm s₀ (mapTick n s) := by
  unfold Machine.mapTick
  split
  · exact (h.run.run.ite h.run).mapHolds
  · exact h.run.mapHolds
theorem Calm.zoneTick {z : Nat} (h : Calm s₀ s) : Calm s₀ (zoneTick z s) := h.run.holdFloors.ite (h.run.protectDropAll.ite h.run)
theorem Calm.leakHold {i : Nat} (h : Calm s₀ s) : Calm s₀ (leakHold i s) := h.protectHoldAll.ite h
theorem Calm.thmTick (h : Calm s₀ s) : Calm s₀ (thmTick s) :=
  (h.doEach.ite h).brokenTick.protectOnly.bind fun td =>
    (((((td.doEach.ite td).foldl (·.mapTick)).foldl (·.sourceTick)).foldl (·.ceilingTick)).doEach.doEach.foldl (·.leakHold)).bind fun t5 =>
    (t5.doEach.doEach.ite t5).foldl (·.zoneTick)

/-! Machine/Reset.lean. -/

theorem Calm.mgmtRelease (h : Calm s₀ s) : Calm s₀ (mgmtRelease s) := h.run.romStart
theorem Calm.releasePlanes (h : Calm s₀ s) : Calm s₀ (releasePlanes s) := (h.run.ite h).bind fun t => t.mgmtRelease.ite t

/-! Machine/Tap.lean. -/

theorem Calm.muxSelect {pin value : Nat} (h : Calm s₀ s) : Calm s₀ (muxSelect pin value s) := h.run.ite ((h.does.ite h).run.ite (h.does.ite h).run)
theorem Calm.unlockGo {path : Nat} {tok : List Nat} (h : Calm s₀ s) : Calm s₀ (unlockGo path tok s) := h.run.ite h.run

/-! Machine/Job.lean. -/

theorem Calm.sendTriggers (h : Calm s₀ s) : Calm s₀ (sendTriggers s) := h.ite (h.run.ite h.run.doEach)
theorem Calm.lawsOn {b : Nat} {inp : Bool × Binding → Int} (h : Calm s₀ s) : Calm s₀ (lawsOn b inp s) := by
  unfold Machine.lawsOn
  extract_lets given known t
  have hg : Calm s₀ given := h.foldl fun k => by split; exacts [k.run, k]
  have ht : Calm s₀ t := hg.doEach.run.doEach.capLaws
  clear_value t
  exact ⟨ht.1, ht.2⟩
theorem Calm.ownFields {a : State} (h : Calm s₀ s) : Calm s₀ (a.ownFields s) := ⟨h.1, h.2⟩
theorem Calm.recordedPass {pass b : Nat} {inp : Bool × Binding → Int} (h : Calm s₀ s) : Calm s₀ (recordedPass pass b inp s) :=
  h.lawsOn.publishPass.ownFields.does
theorem Calm.replayPass {b : Nat} (h : Calm s₀ s) : Calm s₀ (replayPass b s) := h.run.ite (h.recordedPass.bind fun t => t.run.ite t.run.run)
theorem Calm.lockPass {b : Nat} (h : Calm s₀ s) : Calm s₀ (lockPass b s) := by
  unfold Machine.lockPass
  split
  · exact h
  · exact h.ite (h.recordedPass.run.does.bind fun u => u.ite u.run)
theorem Calm.fabricTick {b : Nat} (h : Calm s₀ s) : Calm s₀ (fabricTick b s) :=
  h.ite (h.replayPass.ite (h.lockPass.ite (h.fabricPass.bind fun t => t.does.run.ite t)))

/-! Machine/Commit.lean. -/

theorem Calm.latchNow (h : Calm s₀ s) : Calm s₀ (latchNow s) := h.run.does.ite h

/-! Machine/Tick.lean. -/

theorem Calm.takeSample {x : Sample} (h : Calm s₀ s) : Calm s₀ (takeSample x s) :=
  h.run.ite (h.run.ite (h.run.ite (h.run.fedSample.ite (h.run.run.ite h.run))))
theorem Calm.takeSamples {ins : List Sample} (h : Calm s₀ s) : Calm s₀ (takeSamples ins s) := h.run.foldl (·.takeSample)
theorem Calm.patrolAll (h : Calm s₀ s) : Calm s₀ (patrolAll s) := h.foldl fun k => k.ite k.patrol
theorem Calm.tickCloses (h : Calm s₀ s) : Calm s₀ (tickCloses s) := h.does.run.latchNow
theorem Calm.measureAll (h : Calm s₀ s) : Calm s₀ (measureAll s) := h.does.fedMeasure.does.doEach
theorem Calm.lawsAll {b : Nat} (h : Calm s₀ s) : Calm s₀ (lawsAll b s) :=
  h.prdAll.does.does.bind fun s0 => (s0.does.doEach.fabricTick.ite s0.capLaws.fabricTick.combineAll).doEach
theorem Calm.tickEnds {b : Nat} (h : Calm s₀ s) : Calm s₀ (tickEnds b s) :=
  (h.tickCloses.measureAll.gathered (·.lawsAll)).does.sendTriggers.patrolAll.does.pmcFlush.does
theorem Calm.watchAll (h : Calm s₀ s) : Calm s₀ (watchAll s) := by
  unfold Machine.watchAll
  exact (h.foldl (·.linkOffCheck)).doEach.seqTick.thmTick.fedTick.acuTick.structReply.structCold.bind fun s3 => s3.releaseHost.ite s3
theorem Calm.latchTick (h : Calm s₀ s) : Calm s₀ (latchTick s) := h.run.ite h.does

/-! Machine/ExecSeq.lean. -/

theorem Calm.faultClear {m value : Nat} (h : Calm s₀ s) : Calm s₀ (faultClear m value s) :=
  h.gathered fun k => ((k.foldl (·.unlatch)).foldl (·.latchGone)).bind fun u => u.systemEnd.ite u

/-! Machine/ExecSwija.lean. -/

theorem Calm.retrain {n : Nat} (h : Calm s₀ s) : Calm s₀ (retrain n s) := h.run.does.does.does

/-! Machine/ExecThermal.lean. -/

theorem Calm.tlatchClear {i : Nat} (h : Calm s₀ s) : Calm s₀ (tlatchClear i s) := h.run.protectDropAll.ite h
theorem Calm.leakClear {i : Nat} (h : Calm s₀ s) : Calm s₀ (leakClear i s) := h.run.protectDropAll.ite h

end

end Sys2Proof.Machine
end

section
/-! What the boundary's commands do: CONTROL_TICK, ORDER_EFFECT, SURVEY_ORDER and an error of a live table (R28, R30, R39, R42, R260). -/

namespace Sys2Proof.Machine

/-! CONTROL_TICK (R42). -/

theorem boundary_le_now (s : State) : s.boundary ≤ s.now := by
  unfold State.boundary
  omega

theorem now_lt_next_boundary (s : State) : s.now < s.boundary + 4000 := by
  unfold State.boundary
  omega

/-- The new tick begins at its boundary, which tray time has not passed. -/
theorem tickBegins_now {s : State} {b : Nat} (h : s.now ≤ b) (ins : List Sample) : (tickBegins ins b s).now = b := by
  have hcalm : Calm (s.run [.clock b]) (tickBegins ins b s) :=
    (Calm.does (Calm.refl _)).takeSamples.releasePlanes.gathered (·.watchAll) |>.does.does.does.does.does.does.does.does.latchTick
  exact hcalm.1.trans (Nat.max_eq_right h)

theorem controlTick_now {s : State} (hrun : s.rd (V.planeHeld 0) = 0) (ins : List Sample) : (controlTick ins s).now = s.boundary + 4000 := by
  have hends : (tickEnds (s.boundary + 4000) s).now = s.now := Calm.tickEnds (Calm.refl s) |>.1
  have hnot : ¬s.on (V.planeHeld 0) = true := by
    rw [State.on, hrun]
    decide
  rw [controlTick, if_neg hnot]
  exact tickBegins_now (by rw [hends]; exact (now_lt_next_boundary s).le) ins

/-! ORDER_EFFECT (R28, R30, R31). -/

/-- The update leaves the orders. -/
def Upd.leavesOrders : Upd → Bool
  | .orders _ | .coldStart => false
  | _ => true

theorem orders_apply {s : State} {u : Upd} (h : u.leavesOrders = true) : (s.apply u).orders = s.orders := by
  cases u
  case orders | coldStart => cases h
  case flushVectors => rw [apply_flush]
  all_goals rfl

theorem Passing.orders {s t : State} (h : Passing Upd.leavesOrders s t) : t.orders = s.orders := by
  obtain ⟨us, hu, rfl⟩ := h
  induction us generalizing s with
  | nil => rfl
  | cons u us ih => rw [run_cons, ih (fun v hv => hu v (by simp [hv])), orders_apply (hu u (by simp))]

/-- The reset gate and the feed channels follow the orders and give none. -/
theorem gateTick_leavesOrders {s₀ s : State} {n : Nat} (h : Passing Upd.leavesOrders s₀ s) : Passing Upd.leavesOrders s₀ (gateTick n s) := by
  unfold gateTick
  extract_lets on t u
  have ht : Passing Upd.leavesOrders s₀ t := (h.does (by simp [bootCleared, bootNote, note, gateNote, attemptsAnew, Upd.leavesOrders])).ite h
  have hu : Passing Upd.leavesOrders s₀ u := (ht.run (by simp [attemptsAnew, Upd.leavesOrders])).ite ht
  exact (hu.does (by simp [assertReset, gateNote, note, driveStraps, Upd.leavesOrders])).ite hu

theorem followEnable_leavesOrders {s₀ s : State} {c : Nat} (h : Passing Upd.leavesOrders s₀ s) : Passing Upd.leavesOrders s₀ (followEnable c s) := by
  unfold followEnable
  extract_lets en st t u
  have hto (st t : Nat) (s : State) : (fedToAt c st t s).all Upd.leavesOrders = true := by simp [fedToAt, setB, Upd.leavesOrders]
  have ht : Passing Upd.leavesOrders s₀ t := h.run (by simp [Upd.leavesOrders])
  have hu : Passing Upd.leavesOrders s₀ u := ht.does (by simp [fedReady, fedTo, hto])
  exact (hu.does (by simp [fedRegulate, fedTo, hto, Upd.leavesOrders])).ite ((hu.does (by simp [fedOff, fedTo, hto, Upd.leavesOrders])).ite hu)

/-- A LOCAL default that ends is none of PROTECT's orders. -/
theorem not_mem_stale {o : Orders} {p : Order} (h : p.src = Src.protect) : o.stale.contains p = false := by
  unfold Orders.stale
  split
  · simp [h, Src.protect, Src.loc]
  · rfl

/-- What ORDERS holds once the orders due have left the queue and the LOCAL defaults that ended are gone. -/
def Orders.begun (o : Orders) (due : List Order) : Orders :=
  { o with pend := o.pend.filter (fun p => !due.contains p), renewed := false, installs := [], standing := o.standing.filter (fun p => !o.stale.contains p) }

/-- The end of a LOCAL default leaves PROTECT's orders, and with them what they bar. -/
theorem barred_begun (o : Orders) (n : Order) (due : List Order) : (o.begun due).barred n = o.barred n := by
  have hstanding : (o.begun due).standingOf Src.protect n.blk n.target n.scope = o.standingOf Src.protect n.blk n.target n.scope := by
    show List.find? _ (o.standing.filter _) = List.find? _ o.standing
    rw [List.find?_filter]
    refine congrArg (List.find? · o.standing) (funext fun p => ?_)
    by_cases h : p.src = Src.protect
    · rw [not_mem_stale h]
      simp [Bool.beq_eq_decide_eq]
    · simp [h]
  simp only [Orders.barred, Orders.protectOff, hstanding]

/-- An order that nothing bars stands once it has taken effect, and none that waits does (R28, R31). -/
theorem takeEffect_stands {s : State} {o : Order} (hbar : s.orders.barred o = false) (hrel : o.release = false) :
    o ∈ (takeEffect o s).orders.standing ∧ (takeEffect o s).orders.pend = s.orders.pend := by
  have hstand : o ∈ (s.orders.stand o).standing := by simp [Orders.stand, hrel]
  unfold takeEffect
  rw [hbar, if_neg (by simp)]
  extract_lets t gone
  split
  next hoff =>
    have hsrc : o.src = Src.protect := by
      simp only [Bool.and_eq_true, decide_eq_true_eq] at hoff
      exact hoff.1.1.1
    have hkept : (gone.contains o) = false := by simp [gone, Orders.swept, hsrc]
    rw [run_append, run_cons, run_nil]
    refine ⟨?_, rfl⟩
    exact List.mem_filter.mpr ⟨hstand, by rw [hkept]; rfl⟩
  next =>
    rw [hrel, Bool.and_false, if_neg (by simp)]
    exact ⟨hstand, rfl⟩

theorem recordChanges_leavesOrders (old : Orders) (s : State) : (s.does (recordChanges old)).orders = s.orders := by
  refine Passing.orders (Passing.does (Via.refl s) fun t => ?_)
  simp [recordChanges, State.stateChange, orderEvt, Upd.leavesOrders]

theorem ordersTakeEffect_stands {s : State} {o : Order} (hpend : s.orders.pend = [o]) (hinst : s.orders.installs = [])
    (hdue : boundaryOf o.applyAt ≤ s.boundary) (hbar : s.orders.barred o = false) (hrel : o.release = false) :
    o ∈ (ordersTakeEffect s).orders.standing ∧ (ordersTakeEffect s).orders.pend = [] := by
  have hone : s.dueOrders = [o] := by
    by_cases h : o.src = Src.protect <;> simp [State.dueOrders, hpend, hdue, h]
  have hnone : s.dueInstalls = [] := by simp [State.dueInstalls, hinst]
  have heffect : ordersTakeEffect s = (takeEffect o (s.run [.orders (s.orders.begun [o])])).does (recordChanges s.orders) := by
    simp only [ordersTakeEffect, hone, hnone]
    rfl
  obtain ⟨hstands, hwaits⟩ := takeEffect_stands (s := s.run [.orders (s.orders.begun [o])]) ((barred_begun s.orders o [o]).trans hbar) hrel
  rw [heffect, recordChanges_leavesOrders, hwaits]
  exact ⟨hstands, by simp [Orders.begun, hpend]⟩

theorem orderEffect_stands {s : State} {o : Order} (hpend : s.orders.pend = [o]) (hinst : s.orders.installs = [])
    (hdue : boundaryOf o.applyAt ≤ s.boundary) (hbar : s.orders.barred o = false) (hrel : o.release = false) :
    Gives .orderEffect s (fun t => o ∈ t.orders.standing ∧ t.orders.pend = []) := by
  have hgate : Passing Upd.leavesOrders (ordersTakeEffect s) (feedsFollow ((List.range 8).foldl (fun t n => gateTick n t) (ordersTakeEffect s))) :=
    Passing.foldl (Passing.foldl (Via.refl _) fun _ k => gateTick_leavesOrders k) fun _ k => followEnable_leavesOrders k
  refine ⟨_, rfl, ?_⟩
  show o ∈ (feedsFollow _).orders.standing ∧ (feedsFollow _).orders.pend = []
  rw [hgate.orders]
  exact ordersTakeEffect_stands hpend hinst hdue hbar hrel

/-! SURVEY_ORDER (R39). -/

/-- The update leaves what the survey owes, and takes back no record. -/
def Upd.surveys : Upd → Bool
  | .set f _ => f.key != V.identOwed.key
  | .resetRegs _ _ | .flushVectors | .firn _ | .coldStart => false
  | _ => true

theorem Upd.surveys.keeps {u : Upd} (h : u.surveys = true) : u.keeps V.identOwed := by
  cases u
  case set f v => exact fun e => (bne_iff_ne.mp h) e.symm
  case resetRegs | flushVectors => cases h
  all_goals trivial

theorem Passing.identOwed {s t : State} (h : Passing Upd.surveys s t) : t.rd V.identOwed = s.rd V.identOwed :=
  Via.rd (h.mono fun _ => Upd.surveys.keeps) (by decide)

/-- A record that was raised in the tick stays so. -/
theorem tickTypes_apply {s : State} {u : Upd} (h : u.surveys = true) {typ : Nat} (hraised : typ ∈ s.firn.tickTypes) : typ ∈ (s.apply u).firn.tickTypes := by
  cases u
  case firn | coldStart | flushVectors => cases h
  case emit r =>
    rw [apply_emit_firn, raise_tickTypes]
    exact List.mem_append_left _ hraised
  all_goals exact hraised

theorem Passing.tickTypes {s t : State} (h : Passing Upd.surveys s t) {typ : Nat} (hraised : typ ∈ s.firn.tickTypes) : typ ∈ t.firn.tickTypes := by
  obtain ⟨us, hu, rfl⟩ := h
  induction us generalizing s with
  | nil => exact hraised
  | cons u us ih => exact ih (tickTypes_apply (hu u (by simp)) hraised) fun v hv => hu v (by simp [hv])

/-- A register's field is not what the survey owes. -/
theorem key_ne_identOwed {f : Fld} (h : f.addr < 0x1_0000_0000 ∧ f.lsb < 32) : f.key ≠ V.identOwed.key := by
  simp only [Fld.key, V.identOwed, ivar]
  omega

theorem lkState_ne {n : Nat} (hn : n < 13) : (lkState n).key ≠ V.identOwed.key := by
  refine key_ne_identOwed ?_
  unfold lkState
  split
  all_goals
    dsimp only [SWJ_STAT.state, JOB_LSTAT.state]
    omega

theorem lkEvt_ne {n : Nat} (hn : n < 13) : (lkEvt n).key ≠ V.identOwed.key := by
  refine key_ne_identOwed ?_
  unfold lkEvt
  split
  all_goals
    dsimp only [SWJ_EVT.state, JOB_EVT.lane]
    omega

theorem cancelTips_surveys (n code : Nat) (s : State) : (cancelTips n code s).all Upd.surveys = true := by
  simp [cancelTips, tipRec, note, Upd.surveys]

theorem linkTo_surveys {n : Nat} (hn : n < 13) (new cause : Nat) (s : State) : (linkTo n new cause s).all Upd.surveys = true := by
  have hrecord (r r' : Rec) : (if n < 8 then Upd.emit r else Upd.emit r').surveys = true := by split <;> rfl
  have hstate : (Upd.set (lkState n) new).surveys = true := bne_iff_ne.mpr (lkState_ne hn)
  have hevt : (Upd.set (lkEvt n) 1).surveys = true := bne_iff_ne.mpr (lkEvt_ne hn)
  have hlink (l : Link) : (Upd.link n l).surveys = true := rfl
  simp [linkTo, note, cancelTips_surveys, hstate, hevt, hlink, hrecord]

theorem rttMeasure_surveys {n : Nat} (hn : n < 8) (s : State) : (rttMeasure n s).all Upd.surveys = true := by
  have hrtt : (SWJ_RTT.rtt n).key ≠ V.identOwed.key := key_ne_identOwed (by dsimp only [SWJ_RTT.rtt]; omega)
  have hdelay : (SWJ_DELAY.delay n).key ≠ V.identOwed.key := key_ne_identOwed (by dsimp only [SWJ_DELAY.delay]; omega)
  have hevt : (SWJ_EVT.rtt n).key ≠ V.identOwed.key := key_ne_identOwed (by dsimp only [SWJ_EVT.rtt]; omega)
  have hhad : (V.rttHad n).key ≠ V.identOwed.key := by
    simp only [Fld.key, V.rttHad, V.identOwed, ivar]
    omega
  simp [rttMeasure, Upd.surveys, hrtt, hdelay, hevt, hhad]

theorem rttNow_surveys {s₀ s : State} {n : Nat} (hn : n < 8) (h : Passing Upd.surveys s₀ s) : Passing Upd.surveys s₀ (rttNow n s) := by
  have hmeasured := h.does (rttMeasure_surveys hn)
  have hheld := (hmeasured.run (us := [dropLane ((s.does (rttMeasure n)).currentLane n) (s.does (rttMeasure n)),
    .link n { (s.does (rttMeasure n)).link n with held := true }]) rfl).does (linkTo_surveys (by omega : n < 13) LinkS.loss 0)
  exact h.ite ((hheld.ite hmeasured).ite (h.run rfl))

theorem beginCaps_surveys {s₀ s : State} {n : Nat} {again : Bool} (h : Passing Upd.surveys s₀ s) : Passing Upd.surveys s₀ (beginCaps n again s) :=
  (h.run rfl).does fun _ => rfl

/-- The links and the timing lanes measure again, and the links' capabilities are checked again. -/
def linksSurveyed (s t : State) : State :=
  let up := (List.range 13).filter (fun n => s.rd (lkState n) == LinkS.run)
  let u := up.foldl (fun w n => if n < 8 then rttNow n w else w.run [.link n { w.link n with upDue := true, rttAt := w.now + 1 }]) t
  (up.filter (fun n => decide (n < 8) && u.rd (lkState n) == LinkS.run)).foldl (fun x n => beginCaps n true x) u

theorem linksSurveyed_surveys {s₀ s t : State} (h : Passing Upd.surveys s₀ t) : Passing Upd.surveys s₀ (linksSurveyed s t) := by
  refine Passing.foldl (Passing.foldl h fun n k => ?_) fun n k => beginCaps_surveys k
  by_cases hn : n < 8
  · rw [if_pos hn]
    exact rttNow_surveys hn k
  · rw [if_neg hn]
    exact k.run rfl

theorem orderedSurvey_eq (supplies : List Nat) (s : State) :
    orderedSurvey supplies s = (let w := linksSurveyed s ((s.does (surveySupplies supplies)).run [.set V.identOwed 1])
      if s.accRailUp then w else w.run ((List.range 320).map (fun c => Upd.set (V.surveyed c) 0))) := rfl

theorem surveyed_surveys : ((List.range 320).map (fun c => Upd.set (V.surveyed c) 0)).all Upd.surveys = true := by
  simp only [List.all_map, List.all_eq_true, List.mem_range, Function.comp]
  intro c hc
  refine bne_iff_ne.mpr fun e => ?_
  simp only [Fld.key, V.surveyed, V.identOwed, ivar] at e
  omega

theorem orderedSurvey_surveys (supplies : List Nat) (s : State) :
    Passing Upd.surveys ((s.does (surveySupplies supplies)).run [.set V.identOwed 1]) (orderedSurvey supplies s) := by
  rw [orderedSurvey_eq]
  have hlinks := linksSurveyed_surveys (s := s) (Via.refl ((s.does (surveySupplies supplies)).run [.set V.identOwed 1]))
  exact hlinks.ite (hlinks.run surveyed_surveys)

theorem surveyed_inj {c c' : Nat} (h : (V.surveyed c).key = (V.surveyed c').key) : c = c' := by
  simp only [Fld.key, V.surveyed, ivar] at h
  omega

theorem messageField_surveyed {c : Nat} (hc : c < 320) : messageField (V.surveyed c) = false := by
  simp [messageField, V.surveyed, V.msixNew, Fld.key, ivar]
  omega

/-- Every channel that is to be surveyed again reads so. -/
theorem rd_surveyed_clear {s : State} (hs : s.Wf) {c n : Nat} (hm : messageField (V.surveyed c) = false) (hc : c < n) :
    (s.run ((List.range n).map (fun c => Upd.set (V.surveyed c) 0))).rd (V.surveyed c) = 0 := by
  induction n with
  | zero => cases hc
  | succ n ih =>
    rw [List.range_succ, List.map_append, run_append]
    by_cases hlast : c = n
    · subst hlast
      exact (rd_set_same _ _ hm (run_wf _ hs).1).trans (Nat.zero_mod _)
    · refine (rd_set_ne _ _ hm fun e => hlast (surveyed_inj e)).trans (ih (by omega))

theorem orderedSurvey_again {s : State} (hs : s.Wf) (supplies : List Nat) {c : Nat} (hc : c < 320) (hdown : s.accRailUp = false) :
    (orderedSurvey supplies s).rd (V.surveyed c) = 0 := by
  rw [orderedSurvey_eq, hdown]
  have hbegun : Comes s ((s.does (surveySupplies supplies)).run [.set V.identOwed 1]) := ⟨_, fun _ _ => trivial, (run_append s _ _).symm⟩
  exact rd_surveyed_clear ((linksSurveyed_surveys (s := s) (Via.refl _)).wf (hbegun.wf hs)) (messageField_surveyed hc) hc

theorem surveyRec_typ (s : State) (src item idx value : Nat) : (s.surveyRec src item idx value).typ = Ty.SURVEY := by
  unfold State.surveyRec
  split <;> rfl

/-- The feeds' records end the supplies' survey, whatever supplies there are. -/
theorem surveySupplies_raised (supplies : List Nat) (s : State) : Ty.SURVEY ∈ (s.does (surveySupplies supplies)).firn.tickTypes := by
  have hraised : Raised Ty.SURVEY (s.does (surveySupplies supplies)) := by
    rw [State.does, surveySupplies, List.range_succ, List.map_append, ← List.append_assoc, run_append]
    exact surveyRec_typ s (srcOf 0x9 1) 1 1 _ ▸ raised_emit _ _
  exact List.mem_of_getLast? hraised

theorem surveyOrder_owes {s : State} (hs : s.Wf) (hrun : s.rd (V.planeHeld 0) = 0) (supplies : List Nat) (c : Nat) :
    Gives (.surveyOrder supplies) s (fun t => t.rd V.identOwed = 1 ∧ Ty.SURVEY ∈ t.firn.tickTypes ∧
      (c < 320 → s.accRailUp = false → t.rd (V.surveyed c) = 0)) := by
  have hexec : exec (.surveyOrder supplies) s = .next (orderedSurvey supplies s) := by
    show execSurveyOrder supplies s = _
    exact whenever_of (by simp [State.on, hrun]) s _
  have hgoes := orderedSurvey_surveys supplies s
  refine ⟨_, hexec, ?_, ?_, fun hc hdown => orderedSurvey_again hs supplies hc hdown⟩
  · exact hgoes.identOwed.trans (rd_run_lastSet (run_wf _ hs) (g := V.identOwed) (v := 1) (by decide) rfl)
  · exact hgoes.tickTypes (surveySupplies_raised supplies s)

/-! An error of a live table (R260). -/

theorem tableEccError_counts {s : State} (hs : s.Wf) (hrun : s.rd (V.planeHeld 0) = 0) (sect entry : Nat) (r : Restart) :
    Gives (.tableEccError sect entry false r) s
      (fun t => t.rd FAB_ECCCNT.count = (s.rd FAB_ECCCNT.count + 1) % 2 ^ FAB_ECCCNT.count.width ∧ Raised Ty.FAB_FAULT t) := by
  have hexec : exec (.tableEccError sect entry false r) s = .next (s.does (tableError sect entry false)) := by
    show execTableEccError sect entry false r s = _
    exact whenever_of (by simp [State.on, hrun]) s _
  exact ⟨_, hexec, rd_run_lastSet hs (g := FAB_ECCCNT.count) (by decide) rfl, raised_emit _ _⟩

/-- Settles O18, a clause for each form: CONTROL_TICK, ORDER_EFFECT, SURVEY_ORDER and TABLE_ECC_ERROR (R28, R39, R42, R260). -/
theorem boundaryCommandsTakeEffect : Obligations.BoundaryCommandsTakeEffect := by
  unfold Obligations.BoundaryCommandsTakeEffect
  refine ⟨?_, ?_, ?_, ?_⟩
  · intro s ins _ hrun hok
    exact ⟨_, if_pos hok, controlTick_now hrun ins⟩
  · intro s o _ hpend hinst hdue hbar hrel
    exact orderEffect_stands hpend hinst hdue hbar hrel
  · intro s supplies c hs hrun
    exact surveyOrder_owes hs hrun supplies c
  · intro s sect entry r hs hrun
    exact tableEccError_counts hs hrun sect entry r

end Sys2Proof.Machine
end

section
/-! The limits of the staging buffers (R50): what each change of a buffer does to the count of its values and of its stamps. -/

namespace Sys2Proof.Machine

/-- The value of the buffer is of a field: what `stageFields` looks for among the values staged. -/
def Staged.isOf (f : Fld) (x : Staged) : Bool := x.addr == f.addr && x.lsb == f.lsb

theorem against_length_of_sublist {g g' : Staging} (h : g'.vals.Sublist g.vals) (b q x : Nat) : (g'.against b q x).length ≤ (g.against b q x).length :=
  (h.filter _).length_le

theorem mem_pendingStamps {g : Staging} {b q x : Nat} : x ∈ g.pendingStamps b q ↔ ∃ v ∈ g.vals, v.blk = b ∧ v.req = q ∧ v.stamp = x := by
  simp [Staging.pendingStamps, and_assoc]

theorem pendingStamps_length_le {g : Staging} {b q : Nat} {l : List Nat} (h : g.pendingStamps b q ⊆ l) : (g.pendingStamps b q).length ≤ l.length :=
  (List.subperm_of_subset (List.nodup_dedup _) h).length_le

/-- A buffer that has only lost values is within the limits that it was within. -/
theorem Staging.Limits.of_sublist {g g' : Staging} (h : g.Limits) (hsub : g'.vals.Sublist g.vals) : g'.Limits := by
  obtain ⟨hstamps, hvalues⟩ := h
  refine ⟨fun b q => le_trans (pendingStamps_length_le fun x hx => ?_) (hstamps b q), fun b q x => (against_length_of_sublist hsub b q x).trans (hvalues b q x)⟩
  obtain ⟨v, hv, hof⟩ := mem_pendingStamps.mp hx
  exact mem_pendingStamps.mpr ⟨v, hsub.subset hv, hof⟩

/-! A value placed. -/

/-- The values that stay when a value is placed. -/
theorem vals_place (g : Staging) (v : Staged) :
    (g.place v).vals = g.vals.filter (fun x => !(x.blk == v.blk && x.req == v.req && x.stamp == v.stamp && x.addr == v.addr && x.lsb == v.lsb)) ++
      [{ v with pos := g.next }] := rfl

/-- A stamp has what it had but for the value of the field placed, and that value if it is the value's stamp. -/
theorem against_place (g : Staging) (v : Staged) (b q x : Nat) :
    (g.place v).against b q x = if v.blk = b ∧ v.req = q ∧ v.stamp = x then (g.against b q x).filter (fun y => !y.isOf v.fld) ++ [{ v with pos := g.next }]
      else g.against b q x := by
  unfold Staging.against
  rw [vals_place, List.filter_append, List.filter_filter]
  split
  next h =>
    obtain ⟨rfl, rfl, rfl⟩ := h
    rw [List.filter_filter, List.filter_singleton]
    simp only [beq_self_eq_true, Bool.and_self, cond_true, List.append_cancel_right_eq]
    refine List.filter_congr fun y _ => ?_
    unfold Staged.isOf Staged.fld
    grind
  next h =>
    have hgone : [{ v with pos := g.next }].filter (fun y => y.blk == b && y.req == q && y.stamp == x) = [] := by
      simpa using h
    rw [hgone, List.append_nil]
    refine List.filter_congr fun y _ => ?_
    grind

/-- The value of a field takes the place of the field's own. -/
theorem against_place_length (g : Staging) (v : Staged) (b q x : Nat) :
    ((g.place v).against b q x).length ≤ (g.against b q x).length + if (g.against b q x).any (·.isOf v.fld) then 0 else 1 := by
  rw [against_place]
  split
  next =>
    rw [List.length_append, List.length_singleton]
    split
    next hof =>
      obtain ⟨y, hy, hyof⟩ := List.any_eq_true.mp hof
      have hless : ((g.against b q x).filter (fun y => !y.isOf v.fld)).length < (g.against b q x).length :=
        List.length_filter_lt_length_iff_exists.mpr ⟨y, hy, by simp [hyof]⟩
      omega
    next => exact Nat.add_le_add_right (List.length_filter_le _ _) 1
  next => exact Nat.le_add_right _ _

/-- A field that had a value staged has one still. -/
theorem any_isOf_place {g : Staging} {v : Staged} {b q x : Nat} {f : Fld} (h : (g.against b q x).any (·.isOf f) = true) :
    ((g.place v).against b q x).any (·.isOf f) = true := by
  obtain ⟨y, hy, hof⟩ := List.any_eq_true.mp h
  rw [against_place]
  split
  next =>
    rw [List.any_append, Bool.or_eq_true]
    by_cases hyv : y.isOf v.fld = true
    · right
      unfold Staged.isOf Staged.fld at *
      grind
    · left
      exact List.any_eq_true.mpr ⟨y, List.mem_filter.mpr ⟨hy, by simpa using hyv⟩, hof⟩
  next => exact h

theorem isOf_place_same (g : Staging) (v : Staged) : ((g.place v).against v.blk v.req v.stamp).any (·.isOf v.fld) = true := by
  rw [against_place, if_pos ⟨rfl, rfl, rfl⟩, List.any_append]
  simp [Staged.isOf, Staged.fld]

/-! The values of a register's fields placed, one after the other. -/

/-- One field of a write staged against a stamp. -/
def Staging.stage (blk req st : Nat) (set : Fld → Nat) (g : Staging) (e : Fld × Nat) : Staging :=
  g.place ⟨blk, req, st, e.1.addr, e.1.lsb, e.1.width, e.1.reset, set e.1, e.2, 0⟩

/-- The fields of a write that have no value staged against the stamp. -/
def Staging.fresh (g : Staging) (blk req st : Nat) (fs : List (Fld × Nat)) : List (Fld × Nat) :=
  fs.filter (fun e => !(g.against blk req st).any (fun x => x.addr == e.1.addr && x.lsb == e.1.lsb))

theorem fresh_stage_length (g : Staging) (blk req st : Nat) (set : Fld → Nat) (e : Fld × Nat) (fs : List (Fld × Nat)) :
    ((g.stage blk req st set e).fresh blk req st fs).length ≤ (g.fresh blk req st fs).length := by
  refine (List.monotone_filter_right fs fun a ha => ?_).length_le
  rw [Bool.not_eq_true', Bool.eq_false_iff] at ha ⊢
  exact fun h => ha (any_isOf_place (f := a.1) h)

theorem against_stages_length (blk req st : Nat) (set : Fld → Nat) (fs : List (Fld × Nat)) (g : Staging) :
    ((fs.foldl (Staging.stage blk req st set) g).against blk req st).length ≤ (g.against blk req st).length + (g.fresh blk req st fs).length := by
  induction fs generalizing g with
  | nil => exact Nat.le_add_right _ _
  | cons e fs ih =>
    have hplaced : ((g.stage blk req st set e).against blk req st).length ≤ (g.against blk req st).length + (g.fresh blk req st [e]).length := by
      refine (against_place_length g _ blk req st).trans_eq ?_
      unfold Staging.fresh Staged.isOf Staged.fld
      split <;> simp_all
    have hcons : (g.fresh blk req st (e :: fs)).length = (g.fresh blk req st [e]).length + (g.fresh blk req st fs).length := by
      unfold Staging.fresh
      rw [← List.length_append, ← List.filter_append, List.singleton_append]
    have hrest := fresh_stage_length g blk req st set e fs
    have hall := ih (g.stage blk req st set e)
    rw [List.foldl_cons]
    omega

theorem against_stages_other {blk req st b q x : Nat} (h : ¬(blk = b ∧ req = q ∧ st = x)) (set : Fld → Nat) (fs : List (Fld × Nat)) (g : Staging) :
    (fs.foldl (Staging.stage blk req st set) g).against b q x = g.against b q x := by
  induction fs generalizing g with
  | nil => rfl
  | cons e fs ih => rw [List.foldl_cons, ih, Staging.stage, against_place, if_neg h]

theorem mem_stages_vals {blk req st : Nat} {set : Fld → Nat} {fs : List (Fld × Nat)} {g : Staging} {v : Staged}
    (h : v ∈ (fs.foldl (Staging.stage blk req st set) g).vals) : v ∈ g.vals ∨ (v.blk = blk ∧ v.req = req ∧ v.stamp = st) := by
  induction fs generalizing g with
  | nil => exact .inl h
  | cons e fs ih =>
    refine (ih h).elim (fun hv => ?_) .inr
    rw [Staging.stage, vals_place, List.mem_append, List.mem_singleton] at hv
    rcases hv with hv | rfl
    · exact .inl (List.mem_filter.mp hv).1
    · exact .inr ⟨rfl, rfl, rfl⟩

/-- A write that is within both limits leaves the buffer within them. -/
theorem limits_stages {g : Staging} (hg : g.Limits) {blk req st : Nat} (set : Fld → Nat) {fs : List (Fld × Nat)}
    (hstamps : g.against blk req st = [] → (g.pendingStamps blk req).length < 16)
    (hvalues : (g.against blk req st).length + (g.fresh blk req st fs).length ≤ 64) : (fs.foldl (Staging.stage blk req st set) g).Limits := by
  refine ⟨fun b q => ?_, fun b q x => ?_⟩
  · by_cases hof : blk = b ∧ req = q
    · obtain ⟨rfl, rfl⟩ := hof
      by_cases hnew : g.against blk req st = []
      · refine (pendingStamps_length_le (l := st :: g.pendingStamps blk req) fun x hx => ?_).trans (hstamps hnew)
        obtain ⟨v, hv, hb, hq, hx⟩ := mem_pendingStamps.mp hx
        exact (mem_stages_vals hv).elim (fun hv => .tail _ (mem_pendingStamps.mpr ⟨v, hv, hb, hq, hx⟩)) fun hof => by simp [← hx, hof]
      · refine (pendingStamps_length_le (l := g.pendingStamps blk req) fun x hx => ?_).trans (hg.1 blk req)
        obtain ⟨v, hv, hb, hq, hx⟩ := mem_pendingStamps.mp hx
        refine (mem_stages_vals hv).elim (fun hv => mem_pendingStamps.mpr ⟨v, hv, hb, hq, hx⟩) fun hof => ?_
        obtain ⟨y, hy⟩ := List.exists_mem_of_ne_nil _ hnew
        simp only [Staging.against, List.mem_filter, Bool.and_eq_true, beq_iff_eq] at hy
        exact mem_pendingStamps.mpr ⟨y, hy.1, hy.2.1.1, hy.2.1.2, hy.2.2.trans (hof.2.2.symm.trans hx)⟩
    · refine (pendingStamps_length_le (l := g.pendingStamps b q) fun x hx => ?_).trans (hg.1 b q)
      obtain ⟨v, hv, hb, hq, hx⟩ := mem_pendingStamps.mp hx
      exact (mem_stages_vals hv).elim (fun hv => mem_pendingStamps.mpr ⟨v, hv, hb, hq, hx⟩)
        fun h => absurd ⟨h.1.symm.trans hb, h.2.1.symm.trans hq⟩ hof
  · by_cases hof : blk = b ∧ req = q ∧ st = x
    · obtain ⟨rfl, rfl, rfl⟩ := hof
      exact (against_stages_length blk req st set fs g).trans hvalues
    · rw [against_stages_other hof]
      exact hg.2 b q x

/-! What a register write does to the buffers. -/

/-- The update leaves tray time, and the buffers within the limits if they are so in `s`. -/
def Upd.mild (s : State) (u : Upd) : Prop := u.calm = true ∨ ∃ g, u = .staging g ∧ (s.staging.Limits → g.Limits)

/-- So does every update of a list. -/
def Mild (s : State) (us : List Upd) : Prop := ∀ u ∈ us, u.mild s

theorem Mild.of_calm {s : State} {us : List Upd} (h : us.all Upd.calm = true := by simp) : Mild s us := fun u hu => .inl (List.all_eq_true.mp h u hu)

theorem Mild.append {s : State} {us vs : List Upd} (h : Mild s us) (k : Mild s vs) : Mild s (us ++ vs) := all_append h k

theorem Mild.ite {s : State} {c : Prop} {_ : Decidable c} {us vs : List Upd} (h : Mild s us) (k : Mild s vs) : Mild s (if c then us else vs) := by
  split <;> assumption

/-- The buffers change, and what else the list does is calm. -/
theorem Mild.staging {s : State} {g : Staging} (h : s.staging.Limits → g.Limits) {us : List Upd} (hu : us.all Upd.calm = true := by simp) :
    Mild s (.staging g :: us) := by
  intro u hmem
  rcases List.mem_cons.mp hmem with rfl | hmem
  · exact .inr ⟨g, rfl, h⟩
  · exact Mild.of_calm hu u hmem

theorem calm_run_of_mild {s t : State} (h : Calm s t) {us : List Upd} (hu : Mild s us) : Calm s (t.run us) := by
  induction us generalizing t with
  | nil => exact h
  | cons u us ih =>
    refine ih ?_ fun v hv => hu v (by simp [hv])
    rcases hu u (by simp) with hcalm | ⟨g, rfl, hg⟩
    · exact h.trans (calm_apply hcalm)
    · exact ⟨h.1, hg⟩

theorem Calm.mild {s₀ s : State} (h : Calm s₀ s) {us : List Upd} (hu : Mild s us) : Calm s₀ (s.run us) := h.trans (calm_run_of_mild (.refl s) hu)

theorem limits_filter {p : Staged → Bool} {g : Staging} (h : g.Limits) : Staging.Limits { g with vals := g.vals.filter p } :=
  h.of_sublist List.filter_sublist

theorem limits_writeStamp {blk req stamp : Nat} {g : Staging} (h : g.Limits) : (g.writeStamp blk req stamp).Limits := h

/-- A staged write is within both limits, or stages nothing (R50). -/
theorem stageFields_mild {req blk : Nat} {fs : List (Fld × Nat)} {data width addr : Nat} {s : State} : Mild s (stageFields req blk fs data width addr s) := by
  unfold stageFields
  split
  next => exact .of_calm
  next st _ =>
    extract_lets here fresh full gone
    have hfull (code : Nat) : Mild s [full code] := .of_calm (by simp [full])
    refine .ite ?_ (.staging limits_filter)
    split
    next => exact hfull 1
    next hstamps =>
      split
      next => exact hfull 2
      next hvalues =>
        refine .staging fun hl => limits_stages hl (st := st) (s.setOf blk) (fun hnew => ?_) (Nat.le_of_not_lt hvalues)
        exact Nat.lt_of_not_le fun hfull => hstamps (by rw [show here = [] from hnew]; exact decide_eq_true hfull)

theorem cancelStage_mild {req blk why st : Nat} {s : State} : Mild s (cancelStage req blk why st s) :=
  .ite .of_calm (.staging limits_filter)

theorem stgCancel_mild {req blk : Nat} {s : State} : Mild s (stgCancel req blk s) := by
  refine .ite .of_calm (.ite .of_calm ?_)
  split
  · exact cancelStage_mild
  · exact .of_calm

theorem writeStaging_mild {req blk ofs value width : Nat} {s : State} : Mild s (writeStaging req blk ofs value width s) :=
  .ite (.staging limits_writeStamp) (.ite .of_calm (.ite (.staging limits_writeStamp) .of_calm))

theorem writeWhole_mild {req : Nat} {h : RegHit} {data width hw : Nat} {s : State} : Mild s (writeWhole req h data width hw s) := by
  unfold writeWhole
  extract_lets a blk staged allowed zeroAdd fit koHit tst txPart paramOk
  have htx : txPart.all Upd.calm = true := by simp [txPart]
  have hfields : (h.fields.flatMap (fieldWrite req data hw s)).all Upd.calm = true := by simp
  have hstage : Mild s (stageFields req blk (fit.map (fun e => (e.2, bits data e.2.lsb e.2.width))) data width a s) := stageFields_mild
  clear_value a blk staged allowed zeroAdd fit koHit tst txPart paramOk
  refine .ite .of_calm (.ite .of_calm (.ite ?_ (.append (.append (.append (.append (.append (.append (.append (.of_calm hfields) ?_) ?_) ?_) ?_) ?_) ?_) (.of_calm htx))))
  case refine_7 => exact .ite .of_calm (.ite .of_calm hstage)
  all_goals exact .of_calm

@[simp] theorem gateQueue_calm (mem : Bool) (a width data : Nat) (s : State) : (gateQueue mem a width data s).all Upd.calm = true := by simp [gateQueue]

theorem writeEffect_mild {req a width value hw : Nat} {s : State} : Mild s (writeEffect req a width value hw s) := by
  refine .ite .of_calm (.ite .of_calm (.ite .of_calm (.ite .of_calm ?_)))
  split
  next => exact writeStaging_mild
  next =>
    split
    next => exact .of_calm
    next h _ => exact .ite writeWhole_mild (.ite (writeWhole_mild.append .of_calm) (.ite writeWhole_mild .of_calm))

theorem strapRest_mild {req n value : Nat} {s : State} : Mild s (strapRest req n value s) := by
  unfold strapRest
  split
  · exact writeWhole_mild
  · exact .of_calm

/-! A register write, by the commands that it can be. -/

-- A default proof is evaluated once all that precedes it is checked, which would keep a thread waiting for each of the theorems below.
set_option Elab.async false

/-- The answer is a next state, calm from `s₀`. -/
def CalmEnd (s₀ : State) (r : Result) : Prop := ∃ t, r = .next t ∧ Calm s₀ t

/-- What answers at all answers a next state, calm from `s₀`. -/
def MayCalm (s₀ : State) (o : Option Result) : Prop := ∀ r ∈ o, CalmEnd s₀ r

section
variable {s₀ s t : State}

theorem Calm.ends (h : Calm s₀ t) : CalmEnd s₀ (.next t) := ⟨t, rfl, h⟩
theorem CalmEnd.ite {c : Prop} {_ : Decidable c} {r q : Result} (h : CalmEnd s₀ r) (k : CalmEnd s₀ q) : CalmEnd s₀ (if c then r else q) := by
  split <;> assumption
theorem CalmEnd.stateAfter {r : Result} (h : CalmEnd s₀ r) : Calm s₀ (stateAfter s r) := by
  obtain ⟨t, rfl, ht⟩ := h
  exact ht
theorem CalmEnd.some {r : Result} (h : CalmEnd s₀ r) : MayCalm s₀ (some r) := by simpa [MayCalm] using h
theorem MayCalm.none : MayCalm s₀ none := by simp [MayCalm]
theorem MayCalm.ite {c : Prop} {_ : Decidable c} {o p : Option Result} (h : MayCalm s₀ o) (k : MayCalm s₀ p) : MayCalm s₀ (if c then o else p) := by
  split <;> assumption
theorem MayCalm.or {o p : Option Result} (h : MayCalm s₀ o) (k : MayCalm s₀ p) : MayCalm s₀ (o.or p) := by
  cases o
  · exact k
  · exact h
theorem Calm.whenever {c : Bool} (h : Calm s₀ s) (k : Calm s₀ t) : CalmEnd s₀ (whenever c s t) := k.ends.ite h.ends
theorem Calm.keeperQueues {req a width value : Nat} (h : Calm s₀ s) (k : Calm s₀ t) : CalmEnd s₀ (keeperQueues req a width value s t) :=
  h.ends.ite (h.does.ends.ite k.run.ends)
theorem Calm.gated {req a width value : Nat} {ko : Bool} (h : Calm s₀ s) (k : Calm s₀ t) : CalmEnd s₀ (s.gated req a width value ko t) := by
  unfold State.gated
  split
  next u e =>
    have hu : u.calm = true := by
      split at e
      · cases e
      · unfold State.writeGate at e
        split_ifs at e <;> cases e <;> rfl
    exact (h.run (by simp [hu])).ends
  next => exact h.keeperQueues k
theorem Calm.custodyCommand {req n op keep skip : Nat} (h : Calm s₀ s) : CalmEnd s₀ (custodyCommand req n op keep skip s) :=
  (h.gated h.custodyStart).ite h.ends
theorem Calm.execStgCancel {req blk : Nat} (h : Calm s₀ s) : CalmEnd s₀ (execStgCancel req blk s) := (h.keeperQueues (h.mild stgCancel_mild)).ite h.ends
theorem Calm.execTxBegin {req value : Nat} (h : Calm s₀ s) : CalmEnd s₀ (execTxBegin req value s) := h.keeperQueues h.does
theorem Calm.execTxStampWrite {req value : Nat} (h : Calm s₀ s) : CalmEnd s₀ (execTxStampWrite req value s) := h.gated h.does
theorem Calm.execTxCommit {req value : Nat} (h : Calm s₀ s) : CalmEnd s₀ (execTxCommit req value s) := h.keeperQueues h.does
theorem Calm.execTxAbort {req value : Nat} (h : Calm s₀ s) : CalmEnd s₀ (execTxAbort req value s) := h.keeperQueues h.does
theorem Calm.execStrapWrite {req n value : Nat} (h : Calm s₀ s) : CalmEnd s₀ (execStrapWrite req n value s) :=
  (h.gated ((h.mild strapRest_mild).run.bind fun t => t.does.ite t)).ite h.ends
theorem Calm.execTripClear {req : Nat} {w : ClearWrite} (h : Calm s₀ s) : CalmEnd s₀ (execTripClear req w s) :=
  h.gated (h.gathered fun k => k.foldl (·.fedUnlatch)).feedsFollow
theorem Calm.execRingEnable {req p value : Nat} (h : Calm s₀ s) : CalmEnd s₀ (execRingEnable req p value s) := (h.gated h.ringControl).ite h.ends
theorem Calm.execDoorbell {req p value : Nat} (h : Calm s₀ s) : CalmEnd s₀ (execDoorbell req p value s) := (h.gated (h.does.ite h)).ite h.ends
theorem Calm.execSvcpush {req value : Nat} (h : Calm s₀ s) : CalmEnd s₀ (execSvcpush req value s) := h.gated h.does
theorem Calm.execB2segWrite {req seg value : Nat} (h : Calm s₀ s) : CalmEnd s₀ (execB2segWrite req seg value s) :=
  (h.gated (h.run.ite h.run)).ite h.ends
theorem Calm.execRecoveryGo {req value : Nat} (h : Calm s₀ s) : CalmEnd s₀ (execRecoveryGo req value s) := h.gated (h.does.ite h)
theorem Calm.execCoreRelease {req value : Nat} (h : Calm s₀ s) : CalmEnd s₀ (execCoreRelease req value s) := h.gated h.releaseCores
theorem Calm.execKeylock {req value : Nat} (h : Calm s₀ s) : CalmEnd s₀ (execKeylock req value s) := h.gated h.setLocks
theorem Calm.execImageLoad {req : Nat} (h : Calm s₀ s) : CalmEnd s₀ (execImageLoad req s) := h.gated h.loadStart
theorem Calm.execLoadDiscard {req : Nat} (h : Calm s₀ s) : CalmEnd s₀ (execLoadDiscard req s) := h.gated h.run
theorem Calm.execJrnMgmtPush {req : Nat} (h : Calm s₀ s) : CalmEnd s₀ (execJrnMgmtPush req s) := h.keeperQueues h.does
theorem Calm.execJrnAckWrite {req c v : Nat} (h : Calm s₀ s) : CalmEnd s₀ (execJrnAckWrite req c v s) := (h.keeperQueues h.does).ite h.ends
theorem Calm.execCaptureTrigger {reg : Bool} {req : Nat} (h : Calm s₀ s) : CalmEnd s₀ (execCaptureTrigger reg req s) :=
  (h.gated (h.ite h.does)).ite (h.ite h.does).ends
theorem Calm.execCaptureArm {req : Nat} (h : Calm s₀ s) : CalmEnd s₀ (execCaptureArm req s) := h.gated (h.does.ite h)
theorem Calm.execCaptureRelease {req : Nat} (h : Calm s₀ s) : CalmEnd s₀ (execCaptureRelease req s) := h.gated (h.run.ite h)
theorem Calm.execDmaStart {req e value : Nat} (h : Calm s₀ s) : CalmEnd s₀ (execDmaStart req e value s) :=
  h.ends.ite (h.gated (h.run.ite (h.run.ite h.dmaStart)))
theorem Calm.execPmcCntWrite {req i value n : Nat} (h : Calm s₀ s) : CalmEnd s₀ (execPmcCntWrite req i value n s) :=
  (h.gated h.pmcFlush.run.run).ite h.ends
theorem Calm.execSnap {req value : Nat} (h : Calm s₀ s) : CalmEnd s₀ (execSnap req value s) := h.gated h.run
theorem Calm.execBwwinWrite {req value : Nat} (h : Calm s₀ s) : CalmEnd s₀ (execBwwinWrite req value s) := h.gated (h.run.ite h.run)
theorem Calm.execTestMuxSelect {req a value : Nat} (h : Calm s₀ s) : CalmEnd s₀ (execTestMuxSelect req a value s) := (h.gated h.muxSelect).ite h.ends
theorem Calm.execUnlock {req value : Nat} {jtag : Option (List Nat)} (h : Calm s₀ s) : CalmEnd s₀ (execUnlock req value jtag s) := by
  unfold Machine.execUnlock
  split
  · exact h.whenever h.unlockGo
  · exact h.gated (h.unlockGo.ite h)
theorem Calm.execStandbyEnter {req value : Nat} (h : Calm s₀ s) : CalmEnd s₀ (execStandbyEnter req value s) := h.gated h.run
theorem Calm.execWdogKick {req value : Nat} (h : Calm s₀ s) : CalmEnd s₀ (execWdogKick req value s) := h.gated (h.run.ite h)
theorem Calm.execFaultClear {req m : Nat} {w : ClearWrite} (h : Calm s₀ s) : CalmEnd s₀ (execFaultClear req m w s) :=
  (h.gated h.faultClear.feedsFollow).ite h.ends
theorem Calm.execFirstRearm {req : Nat} {w : ClearWrite} (h : Calm s₀ s) : CalmEnd s₀ (execFirstRearm req w s) := h.gated h.run
theorem Calm.execRttNow {req n : Nat} (h : Calm s₀ s) : CalmEnd s₀ (execRttNow req n s) := (h.gated h.rttNow).ite h.ends
theorem Calm.execRetrain {req n : Nat} (h : Calm s₀ s) : CalmEnd s₀ (execRetrain req n s) := (h.gated (h.ite h.retrain)).ite h.ends
theorem Calm.execTlatchClear {req : Nat} {w : ClearWrite} (h : Calm s₀ s) : CalmEnd s₀ (execTlatchClear req w s) :=
  h.gated (h.gathered fun k => k.foldl (·.tlatchClear))
theorem Calm.execLeakmapClear {req : Nat} {w : ClearWrite} (h : Calm s₀ s) : CalmEnd s₀ (execLeakmapClear req w s) :=
  h.gated (h.gathered fun k => k.foldl (·.leakClear))
theorem Calm.execControllerTransfer {req n value recov : Nat} (h : Calm s₀ s) : CalmEnd s₀ (execControllerTransfer req n value recov s) :=
  (h.gated h.controllerStart).ite h.ends
theorem Calm.wideCommand {req a value hw : Nat} (h : Calm s₀ s) : MayCalm s₀ (wideCommand req a value hw s) := by
  unfold Machine.wideCommand
  exact .ite h.execTxStampWrite.some (.ite h.execJrnAckWrite.some (.ite h.execB2segWrite.some (.ite h.execPmcCntWrite.some .none)))
theorem Calm.captureControl {k value : Nat} (h : Calm s₀ s) : CalmEnd s₀ (captureControl k value s) := by
  unfold Machine.captureControl
  extract_lets act
  have hact {b f t} (ht : Calm s₀ t) (hf : CalmEnd s₀ (f t)) : Calm s₀ (act b f t) := .ite hf.stateAfter ht
  exact ((hact h h.execCaptureRelease).bind fun k => (hact k k.execCaptureArm).bind fun k => hact k k.execCaptureTrigger).ends
theorem Calm.rowControl {k a value hw : Nat} (h : Calm s₀ s) : MayCalm s₀ (rowControl k a value hw s) := by
  unfold Machine.rowControl
  exact .ite (h.execTxBegin.ite (h.execTxCommit.ite h.execTxAbort)).some (.ite (.ite h.execStgCancel.some .none)
    (.ite (.ite h.execJrnMgmtPush.some .none) (.ite h.captureControl.some (.ite (.ite h.execImageLoad.some (.ite h.execLoadDiscard.some .none))
    (.ite h.execFaultClear.some (.ite h.execFirstRearm.some (.ite h.execTripClear.some (.ite h.execTlatchClear.some
    (.ite h.execLeakmapClear.some .none)))))))))
theorem Calm.rowManagement {k a value : Nat} (h : Calm s₀ s) : MayCalm s₀ (rowManagement k a value s) := by
  unfold Machine.rowManagement
  exact .ite h.custodyCommand.some (.ite h.execStrapWrite.some (.ite h.execCoreRelease.some (.ite h.execKeylock.some
    (.ite h.execRecoveryGo.some (.ite h.execSvcpush.some (.ite h.execDoorbell.some (.ite h.execDmaStart.some (.ite h.execSnap.some
    (.ite h.execBwwinWrite.some (.ite h.execUnlock.some (.ite h.execTestMuxSelect.some (.ite h.execWdogKick.some
    (.ite h.execStandbyEnter.some .none)))))))))))))
theorem Calm.rowMixed {k a value hw : Nat} (h : Calm s₀ s) : MayCalm s₀ (rowMixed k a value hw s) := by
  unfold Machine.rowMixed
  refine .ite (.ite h.execRetrain.some ?_) (.ite h.execRingEnable.some (.ite h.execControllerTransfer.some .none))
  extract_lets t
  have ht : Calm s₀ t := h.execRttNow.stateAfter
  exact (ht.retrain.ite ht).ends.some
theorem Calm.rowWrite {req a value hw : Nat} (h : Calm s₀ s) : Calm s₀ (rowWrite req a value hw s) := by
  unfold Machine.rowWrite
  split
  next r e => exact (h.rowControl.or h.rowManagement r e).stateAfter
  next =>
    extract_lets t
    have ht : Calm s₀ t := h.mild writeEffect_mild
    split
    next r e => exact (ht.rowMixed r e).stateAfter
    next => exact ht.run

theorem Calm.of_completedWrite {req a width value b v : Nat} (h : Calm s₀ s) (e : completedWrite req a width value s = some (b, v, t)) : Calm s₀ t := by
  unfold completedWrite at e
  split at e
  · split_ifs at e <;> cases e
    · exact h.run
    · exact h
  · cases e

theorem Calm.anyWrite {req a width value hw : Nat} (h : Calm s₀ s) : Calm s₀ (anyWrite req a width value hw s) := by
  unfold Machine.anyWrite
  extract_lets s plain
  have hs : Calm s₀ s := h.countersSeen
  have hplain : Calm s₀ plain := hs.mild (writeEffect_mild.append .of_calm)
  split
  next b v t e =>
    split
    next r e' => exact ((hs.of_completedWrite e).wideCommand r e').stateAfter
    next => exact hplain
  next => exact hplain.ite (hplain.ite hs.rowWrite)

end

/-- No register write brings a buffer over a limit. -/
theorem anyWrite_limits (s : State) (req a width value hw : Nat) (h : s.staging.Limits) : (anyWrite req a width value hw s).staging.Limits :=
  (Calm.anyWrite (.refl s)).2 h

end Sys2Proof.Machine
end

section
/-! A staged write that would exceed a limit of R50 is discarded with a STAGE_FULL record. -/

namespace Sys2Proof.Machine

/-! Where the staged fields stand. -/

/-- The indices of an array's copies. -/
def indexSpace : List (Nat × Nat) → List (List Nat)
  | [] => [[]]
  | (c, _) :: ds => (List.range c).flatMap (fun i => (indexSpace ds).map (i :: ·))

theorem mem_indexSpace {ds : List (Nat × Nat)} {rem left : Nat} {idx : List Nat} (h : indicesAt ds rem = some (idx, left)) : idx ∈ indexSpace ds := by
  induction ds generalizing rem idx with
  | nil =>
    obtain ⟨rfl, -⟩ : [] = idx ∧ rem = left := by simpa [indicesAt] using h
    exact List.mem_singleton_self _
  | cons d ds ih =>
    obtain ⟨c, st⟩ := d
    obtain ⟨hin, is, hrest, rfl⟩ : rem / st < c ∧ ∃ is, indicesAt ds (rem - rem / st * st) = some (is, left) ∧ rem / st :: is = idx := by
      simpa [indicesAt] using h
    exact List.mem_flatMap.mpr ⟨_, List.mem_range.mpr hin, List.mem_map.mpr ⟨is, ih hrest, rfl⟩⟩

theorem hit?_desc_idx {d : RegDesc} {a : Nat} {h : RegHit} (hhit : d.hit? a = some h) : h.desc = d ∧ h.idx ∈ indexSpace d.dims := by
  unfold RegDesc.hit? at hhit
  split at hhit
  next => cases hhit
  next =>
    split at hhit
    next idx e =>
      cases hhit
      exact ⟨rfl, mem_indexSpace e⟩
    next idx e =>
      split at hhit <;> cases hhit
      exact ⟨rfl, mem_indexSpace e⟩
    next => cases hhit

/-- The block lies below the host interface, and is not the journal. -/
def Block.stages (b : Block) : Bool := decide (b.top ≤ 0xF0_0000) && b.base != 0x18_0000

/-- The staged fields of a block, but the parameters of the fabric, stand in blocks of the Cirque or the custody plane and have no row of their own. -/
def Block.stagedOk (b : Block) : Bool :=
  b.base == 0x60_0000 ||
    b.descs.all (fun d => (indexSpace d.dims).all (fun idx => (d.fields idx).all (fun e => !e.1.staged || (b.stages && !ownRow e.2.addr e.2.lsb))))

theorem blocks_stagedOk : blocks.all Block.stagedOk = true := by decide +kernel

theorem staged_block {a b : Nat} {h : RegHit} {e : Access × Fld} (hreg : regAt? a = some h) (hb : (blockAt? a).map (·.base) = some b) (hfab : b ≠ 0x60_0000)
    (he : e ∈ h.fields) (hstaged : e.1.staged = true) : a < 0xF0_0000 ∧ b ≠ 0x18_0000 ∧ ownRow e.2.addr e.2.lsb = false := by
  obtain ⟨k, hk, hd⟩ := Option.bind_eq_some_iff.mp hreg
  obtain ⟨d, hmem, hhit⟩ := List.exists_of_findSome?_eq_some hd
  obtain ⟨rfl, hidx⟩ := hit?_desc_idx hhit
  obtain ⟨-, htop⟩ : k.base ≤ a ∧ a < k.top := by simpa using List.find?_some hk
  obtain rfl : k.base = b := by simpa [hk] using hb
  have hok : k.stagedOk = true := List.all_eq_true.mp blocks_stagedOk k (List.mem_of_find?_eq_some hk)
  rw [Block.stagedOk, beq_eq_false_iff_ne.mpr hfab, Bool.false_or] at hok
  have hfield := List.all_eq_true.mp (List.all_eq_true.mp (List.all_eq_true.mp hok _ hmem) _ hidx) e he
  simp only [hstaged, Bool.not_true, Bool.false_or, Block.stages, Bool.and_eq_true, decide_eq_true_eq, bne_iff_ne, Bool.not_eq_true'] at hfield
  obtain ⟨⟨hlow, hjrn⟩, hrow⟩ := hfield
  exact ⟨by omega, hjrn, hrow⟩

theorem jrnStatAddr_block : (blockAt? jrnStatAddr).map (·.base) = some 0x18_0000 := by decide +kernel

/-! The write of a register of staged fields. -/

/-- What the hypotheses of the obligation say of the fields: the requester may stage each of them. -/
def stagesAll (req : Nat) (h : RegHit) : Prop := h.fields.all (fun e => e.1 == Access.rws || (e.1 == Access.koRws && req == Req.keeper)) = true

theorem stagesAll.access {req : Nat} {h : RegHit} (hall : stagesAll req h) {e : Access × Fld} (he : e ∈ h.fields) :
    e.1 = .rws ∨ (e.1 = .koRws ∧ req = Req.keeper) := by
  simpa using List.all_eq_true.mp hall e he

theorem stagesAll.staged {req : Nat} {h : RegHit} (hall : stagesAll req h) {e : Access × Fld} (he : e ∈ h.fields) : e.1.staged = true := by
  rcases hall.access he with ha | ⟨ha, -⟩ <;> rw [ha] <;> rfl

/-- A register of staged fields that its requester may write does nothing but stage them. -/
theorem writeWhole_staged {s : State} {req data width hw b : Nat} {h : RegHit} (hclosed : s.closedTo req h.addr = false)
    (hlocked : s.lockedNow h.addr = false) (haddr : h.addr < 0xF0_0000) (hjrn : h.addr ≠ jrnStatAddr)
    (hb : (blockAt? h.addr).map (·.base) = some b) (hfab : b ≠ 0x60_0000) (hne : h.fields ≠ []) (hall : stagesAll req h)
    (hadd : h.fields.any (fun e => e.2.lsb == 12 && e.2.width == 12) = false) :
    writeWhole req h data width hw s = stageFields req b (h.fields.map (fun e => (e.2, bits data e.2.lsb e.2.width))) data width h.addr s := by
  have hfields : h.fields.flatMap (fieldWrite req data hw s) = [] := by
    refine List.flatMap_eq_nil_iff.mpr fun e he => ?_
    unfold fieldWrite
    split
    · rfl
    · rcases hall.access he with ha | ⟨ha, -⟩ <;> rw [ha]
  unfold writeWhole
  extract_lets a blk staged allowed zeroAdd fit koHit tst txPart paramOk
  have hblk : blk = b := by rw [show blk = (some b).getD 0 from congrArg (·.getD 0) hb, Option.getD_some]
  have hstaged : staged = h.fields := List.filter_eq_self.mpr fun e he => hall.staged he
  have hallowed : allowed = h.fields := by
    refine (List.filter_eq_self.mpr fun e he => ?_).trans hstaged
    rcases hall.access (hstaged ▸ he) with ha | ⟨ha, rfl⟩ <;> rw [ha] <;> rfl
  have hzero : zeroAdd = [] := by
    refine List.filter_eq_nil_iff.mpr fun e he => ?_
    have hnot := List.any_eq_false.mp hadd e (hallowed ▸ he)
    simp only [Bool.and_eq_true] at hnot ⊢
    tauto
  have hfit : fit = h.fields := by
    refine (List.filter_eq_self.mpr fun e _ => ?_).trans hallowed
    rw [hzero]
    rfl
  have hkeeper : koHit = false := by
    by_cases hreq : req = Req.keeper
    · simp [koHit, hreq]
    · refine Bool.and_eq_false_iff.mpr (.inr (List.any_eq_false.mpr fun e he => ?_))
      rcases hall.access he with ha | ⟨-, hk⟩
      · rw [ha]
        exact Bool.false_ne_true
      · exact absurd hk hreq
  have htx : txPart = [] := by
    refine if_neg (Bool.eq_false_iff.mp (List.any_eq_false.mpr fun e he => ?_))
    rcases hall.access he with ha | ⟨ha, -⟩ <;> rw [ha] <;> exact Bool.false_ne_true
  have hparam : paramOk = true := by simp [paramOk, hblk, hfab]
  have hreset : a ≠ 0x130_0010 := by omega
  have hwdog : a ≠ 0x130_0014 := by omega
  have hvec : ¬0xF8_0000 ≤ a := by omega
  clear_value blk staged allowed zeroAdd fit koHit txPart paramOk
  subst hblk hfit hzero hkeeper htx hparam
  have hstat : a ≠ jrnStatAddr := hjrn
  have hopen : s.closedTo req a = false := hclosed
  have hfree : s.lockedNow a = false := hlocked
  simp only [hopen, hfree, hreset, hfields, onlyIf]
  simp [hstat, hwdog, hvec, hne, a]

/-- Some field of the write is not staged against the stamp, and the stamp or its buffer is full: nothing is staged (R50). -/
theorem stageFields_full {s : State} {req b st data width addr : Nat} {fs : List (Fld × Nat)} (hst : s.staging.stampOf b req = some st)
    (hwin : stampInWindow s.now st = true) {e : Fld × Nat} (he : e ∈ fs)
    (hnew : (s.staging.against b req st).any (fun x => x.addr == e.1.addr && x.lsb == e.1.lsb) = false)
    (hfull : (s.staging.against b req st = [] ∧ 16 ≤ (s.staging.pendingStamps b req).length) ∨ 64 ≤ (s.staging.against b req st).length) :
    ∃ code, stageFields req b fs data width addr s =
      [note Ty.STAGE_FULL (stageSrc b) [(24, 4, b), (28, 1, req), (29, 1, code), (32, 8, st), (40, 4, addr)]] := by
  have hfresh : 0 < (fs.filter (fun e => !(s.staging.against b req st).any (fun x => x.addr == e.1.addr && x.lsb == e.1.lsb))).length :=
    List.length_pos_of_mem (List.mem_filter.mpr ⟨he, by rw [hnew]; rfl⟩)
  simp only [stageFields, hst, hwin, if_true]
  rcases hfull with ⟨hnone, hstamps⟩ | hvalues
  · exact ⟨1, if_pos (by rw [hnone]; exact decide_eq_true hstamps)⟩
  · have hsome : (s.staging.against b req st).isEmpty = false := by
      rw [List.isEmpty_eq_false_iff, ← List.length_pos_iff]
      omega
    exact ⟨2, by rw [if_neg (by rw [hsome]; exact Bool.false_ne_true), if_pos (by unfold maxValues; omega)]⟩

/-- A record and the host's traffic move no field. -/
theorem onlyFields_note (s : State) (typ src : Nat) (pay : List (Nat × Nat × Nat)) (req : Nat) :
    OnlyFields [] s (s.run (note typ src pay :: hostTraffic req true 4)) := by
  refine onlyFields_run_of_bus (List.forall_mem_cons.mpr ⟨trivial, hostTraffic_setsOnly [] req true 4⟩) ?_
  rw [run_cons, hostTraffic_bus]
  rfl

theorem registerWrite_full {s : State} {req a value hw b st : Nat} {h : RegHit} (hreach : s.Reaches req a 4 value false) (hstg : stagingReg? a = none)
    (hreg : regAt? a = some h) (hwide : h.desc.wide = false) (ha : h.addr = a) (hclosed : s.closedTo req a = false) (hlocked : s.lockedNow a = false)
    (hb : (blockAt? a).map (·.base) = some b) (hfab : b ≠ 0x60_0000) (hall : stagesAll req h)
    (hadd : h.fields.any (fun e => e.2.lsb == 12 && e.2.width == 12) = false) (hst : s.staging.stampOf b req = some st)
    (hwin : stampInWindow s.now st = true)
    {e : Access × Fld} (he : e ∈ h.fields) (hnew : (s.staging.against b req st).any (fun x => x.addr == e.2.addr && x.lsb == e.2.lsb) = false)
    (hfull : (s.staging.against b req st = [] ∧ 16 ≤ (s.staging.pendingStamps b req).length) ∨ 64 ≤ (s.staging.against b req st).length) :
    Gives (.registerWrite req a 4 value hw) s (fun t => t.staging = s.staging ∧ Raised Ty.STAGE_FULL t ∧ OnlyFields [] s t) := by
  subst ha
  obtain ⟨hoff, hgate, hkeeper⟩ := hreach
  obtain ⟨hdown, hgrant, -⟩ := open_of_writeGate hgate
  obtain ⟨hlow, hbjrn, -⟩ := staged_block hreg hb hfab he (hall.staged he)
  have hrow : h.fields.any (fun e => ownRow e.2.addr e.2.lsb) = false :=
    List.any_eq_false.mpr fun e he => Bool.eq_false_iff.mp (staged_block hreg hb hfab he (hall.staged he)).2.2
  have hjrn : h.addr ≠ jrnStatAddr := by
    intro hat
    rw [hat, jrnStatAddr_block] at hb
    exact hbjrn (Option.some.inj hb).symm
  obtain ⟨code, hnote⟩ := stageFields_full (data := value % 2 ^ 32) (width := 4) (addr := h.addr)
    (fs := h.fields.map (fun e => (e.2, bits (value % 2 ^ 32) e.2.lsb e.2.width))) hst hwin
    (List.mem_map.mpr ⟨e, he, rfl⟩) hnew hfull
  have hfx : writeRegister req h.addr 4 value hw s =
      note Ty.STAGE_FULL (stageSrc b) [(24, 4, b), (28, 1, req), (29, 1, code), (32, 8, st), (40, 4, h.addr)] :: hostTraffic req true 4 := by
    rw [writeRegister, writeEffect_of_hit hdown hgrant hkeeper hreg hwide hstg,
      writeWhole_staged hclosed hlocked hlow hjrn hb hfab (List.ne_nil_of_mem he) hall hadd, hnote, List.singleton_append]
  have hexec : exec (.registerWrite req h.addr 4 value hw) s = .next (s.run (writeRegister req h.addr 4 value hw s)) := by
    show execRegisterWrite req h.addr 4 value hw s = _
    rw [execRegisterWrite, anyWrite_plain (by omega) hreg hwide hstg hrow]
    exact whenever_of (by rw [hoff]; rfl) s _
  refine ⟨_, hexec, ?_, ?_, ?_⟩
  all_goals rw [hfx]
  · exact hostTraffic_staging _ _ _ _
  · rw [run_cons, Raised, hostTraffic_firn]
    exact raised_emit _ _
  · exact onlyFields_note ..

/-- Settles O12: no register write brings a buffer over a limit, for what it does to the buffers keeps them within it; and a write that would exceed
one does nothing but raise STAGE_FULL (R50). -/
theorem stagingLimits : Obligations.StagingLimits := by
  unfold Obligations.StagingLimits
  refine ⟨?_, ?_⟩
  · intro s req a width value hw hoff hlimits
    exact ⟨_, whenever_of (by rw [hoff]; rfl) s _, anyWrite_limits s req a width value hw hlimits⟩
  · intro s req a value hw b st h _ hreach hstg hreg hwide ha hclosed hlocked hb hfab _ hall hadd hst hwin e he hnew hfull
    exact registerWrite_full hreach hstg hreg hwide ha hclosed hlocked hb hfab hall hadd hst hwin he hnew hfull

end Sys2Proof.Machine
end

section
/-! The statement on the phase tiles fails: at a period boundary a rail whose bench is held back counts its working channels anew (R109), where
SWITCHING_PERIOD's clause takes N_work as the register showed it before. -/

namespace Sys2Proof.Machine

/-- Rail 2 regulates with one working channel, while its register shows four and three active phases are due; its bench was released and no policy
releases it now. Tile 1 runs at 1,000 kHz and the other tiles at 600 kHz. -/
def miscountedRail : State :=
  { State.reset.run [.set (rState 2) RailS.regulating, .set (chRole 80) Role.working, .set (V.imgRole 80) Role.working, .set (rNwork 2) 4,
      .set (rNact 2) 2, .set (V.nactNext 2) 4, .set (V.benchOut 2) 1, .set (PHT_SYNCCFG.fsw 0) 600, .set (PHT_SYNCCFG.fsw 2) 600,
      .set (PHT_SYNCCFG.fsw 3) 600] with now := 4000000 }

/-- Its boundary at tray time 4,000,000, with no pulse seen. -/
def miscountedBoundary : Instr := .switchingPeriod ⟨1, 4000000, 0⟩ ⟨[], []⟩

theorem miscountedRail_working : miscountedRail.railChannels 2 Role.working = [80] := by decide +kernel

/-- The boundary counts one channel, and no more than that become active. -/
theorem miscountedBoundary_recounts : (stateAfter miscountedRail (exec miscountedBoundary miscountedRail)).rd (rNact 2) = 1 := by decide +kernel

/-- What the clause asks for: the three phases that were due. -/
theorem miscountedRail_due : min (miscountedRail.rd (V.nactNext 2) - 1) (miscountedRail.rd (rNwork 2)) % 2 ^ (rNact 2).width = 3 := by decide +kernel

/-- Refutes O23: nothing in SWITCHING_PERIOD's clause ties PHT_RAILCFG.nwork to the roles of the channels, and where the boundary counts them again
(R109) N_act follows the count and not the register. -/
theorem not_tileCommandsTakeEffect : ¬ Obligations.TileCommandsTakeEffect := by
  unfold Obligations.TileCommandsTakeEffect
  rintro ⟨hperiod, -⟩
  have hbench : (miscountedRail.railChannels 2 Role.bench).all (fun c => miscountedRail.rd (V.repFor c) != 0) = true := by decide +kernel
  have hworking : (miscountedRail.railChannels 2 Role.working).all (fun c => miscountedRail.rd (V.imgRole c) == Role.working) = true := by
    rw [miscountedRail_working]
    decide +kernel
  obtain ⟨t, hexec, hnact, -⟩ := hperiod miscountedRail 1 1 2 4000000 0 (by decide +kernel) (by decide) (by decide) (by decide +kernel) (by decide +kernel)
    (by decide) (by decide +kernel) (by decide +kernel) (by decide +kernel) hbench hworking
  have hone : t.rd (rNact 2) = 1 := by
    have h := miscountedBoundary_recounts
    rwa [miscountedBoundary, hexec] at h
  rw [hone, miscountedRail_due] at hnact
  exact absurd hnact (by decide)

end Sys2Proof.Machine
end

section
/-! SUPPORT. The fields of rails and channels, and lists of updates that leave them: by the bit at which the fields that are set begin, since fields of
one key begin at one bit. -/

namespace Sys2Proof.Machine

/-! Rails, channels, and the MSI-X messages that none of their fields is. -/

theorem railTile_lt {r : Nat} (h : r < 18) : railTile r < 4 := by
  unfold railTile
  split_ifs <;> omega

theorem railLocal_lt (r : Nat) : railLocal r < 5 := by
  unfold railLocal
  split_ifs <;> omega

/-- A channel of the four tiles belongs to one of the 18 rails, whatever its register says (R79). -/
theorem railOf_lt (s : State) {c : Nat} (h : c < 320) : s.railOf c < 18 := by
  unfold State.railOf phtRailNumber
  split_ifs <;> omega

theorem messageField_register {f : Fld} (h : f.addr < 0xF8_4000) (hl : f.lsb < 64) : messageField f = false := by
  have hkey : f.key < 0xF8_4000 * 64 := by
    unfold Fld.key
    omega
  have hnew : V.msixNew.key = 0x1_0174_0000 * 64 := rfl
  simp only [messageField, Bool.or_eq_false_iff, Bool.and_eq_false_iff, decide_eq_false_iff_not, beq_eq_false_iff_ne]
  omega

theorem messageField_scalar {id i : Nat} (hid : id < 0x152) (hi : i < 0x1_0000) (w reset : Nat) : messageField (ivar id i w reset) = false := by
  have hnew : V.msixNew.key = 0x1_0174_0000 * 64 := rfl
  have hkey : (ivar id i w reset).key = (0x1_0000_0000 + id * 0x1_0000 + i) * 64 := rfl
  simp only [messageField, Bool.or_eq_false_iff, Bool.and_eq_false_iff, decide_eq_false_iff_not, beq_eq_false_iff_ne]
  omega

/-- Fields of a rail's registers (R123). -/
theorem messageField_rail {r o lsb : Nat} (hr : r < 18) (ho : o < 0x20_2000) (hl : lsb < 64) (w reset : Nat) :
    messageField ⟨o + 0x40000 * railTile r + 0x100 * railLocal r, lsb, w, reset⟩ = false := by
  have hk := railTile_lt hr
  have hj := railLocal_lt r
  exact messageField_register (by dsimp only; omega) hl

/-- Fields of a channel's registers (R124). -/
theorem messageField_channel {c o lsb : Nat} (hc : c < 320) (ho : o < 0x20_5000) (hl : lsb < 64) (w reset : Nat) :
    messageField ⟨o + 0x40000 * (c / 80) + 0x40 * (c % 80), lsb, w, reset⟩ = false :=
  messageField_register (by dsimp only; omega) hl

/-! Updates that set no field at some bits. -/

/-- The update sets no field that begins at one of these bits of its register. -/
def Upd.avoids (bs : List Nat) : Upd → Bool
  | .set f _ => !bs.contains (f.lsb % 64)
  | .resetRegs _ _ | .flushVectors => false
  | _ => true

theorem Upd.avoids.keeps {bs : List Nat} {u : Upd} (h : u.avoids bs = true) {g : Fld} (hg : bs.contains (g.lsb % 64) = true) : u.keeps g := by
  cases u
  case set f v =>
    intro e
    have hbit : g.lsb % 64 = f.lsb % 64 := by
      unfold Fld.key at e
      omega
    rw [Upd.avoids, ← hbit, hg] at h
    cases h
  case resetRegs | flushVectors => cases h
  all_goals trivial

theorem Passing.rd_avoids {s t : State} {bs : List Nat} (h : Passing (Upd.avoids bs) s t) {g : Fld} (hm : messageField g = false)
    (hg : bs.contains (g.lsb % 64) = true) : t.rd g = s.rd g :=
  Via.rd (h.mono fun _ hu => Upd.avoids.keeps hu hg) hm

/-- A field that a list of updates sets, where all that follows sets fields at other bits. -/
theorem rd_run_set_avoids {s : State} (hs : s.Wf) {g : Fld} (hm : messageField g = false) (us : List Upd) {vs : List Upd} (v : Nat)
    (h : vs.all (Upd.avoids [g.lsb % 64]) = true) : (s.run (us ++ .set g v :: vs)).rd g = v % 2 ^ g.width :=
  rd_run_set hs hm us vs v fun u hu => Upd.avoids.keeps (List.all_eq_true.mp h u hu) (by simp)

theorem cancelTips_avoids (bs : List Nat) (n code : Nat) (s : State) : (cancelTips n code s).all (Upd.avoids bs) = true := by
  simp [cancelTips, tipRec, note, Upd.avoids]

/-- The rail's state alone is set at bit 29 where it moves (R121). -/
theorem railTo_moves {s : State} {r st : Nat} (h : s.rd (rState r) ≠ st) :
    ∃ rec vs, railTo r st s = .emit rec :: .set (rState r) st :: vs ∧ vs.all (Upd.avoids [29]) = true := by
  have hne : (s.rd (rState r) != st) = true := bne_iff_ne.mpr h
  rw [railTo, hne, onlyIf_true]
  refine ⟨_, _, rfl, ?_⟩
  simp [setB, protClear, cancelTips_avoids, Upd.avoids, PHT_RAILCFG.lead, V.climitRun, V.ovSince, V.uvSince, V.vmaxSince, V.ovClamp, ivar]

theorem messageField_rState {r : Nat} (hr : r < 18) : messageField (rState r) = false := messageField_rail hr (by omega) (by omega) _ _

/-- A rail that enters a state is in it, and stays so while nothing is set at bit 29. -/
theorem railTo_state {s t : State} (ht : t.Wf) {r st : Nat} (hr : r < 18) (h : s.rd (rState r) ≠ st) {ws : List Upd}
    (hws : ws.all (Upd.avoids [29]) = true) : (t.run (railTo r st s ++ ws)).rd (rState r) = st % 2 ^ 3 := by
  obtain ⟨rec, vs, heq, hvs⟩ := railTo_moves h
  have hrest : (vs ++ ws).all (Upd.avoids [29]) = true := by rw [List.all_append, hvs, hws]; rfl
  rw [heq]
  exact rd_run_set_avoids ht (messageField_rState hr) [.emit rec] st hrest

/-- The brake's flag stands at bit 27 (R116). -/
theorem brakeDown_avoids {bs : List Nat} (h0 : bs.contains 0 = false) (h27 : bs.contains 27 = false) (r t : Nat) (s : State) :
    (brakeDown r t s).all (Upd.avoids bs) = true := by
  have hflag (v : Nat) : Upd.avoids bs (.set (PHT_RSTAT.brake (railTile r) (railLocal r)) v) = true := by
    show (!bs.contains 27) = true
    rw [h27]
    rfl
  have hlast (v : Nat) : Upd.avoids bs (.set (V.brakeLast r) v) = true := by
    show (!bs.contains 0) = true
    rw [h0]
    rfl
  have hrec (on ns : Nat) : Upd.avoids bs (brakeRec r on ns t s) = true := rfl
  simp [brakeDown, hflag, hlast, hrec]


end Sys2Proof.Machine
end

section
/-! What the rails' commands do: good, tripped, discharged, braked (R111-R116). -/

namespace Sys2Proof.Machine

/-! TILE_RAIL_GOOD (R111). -/

theorem tileRailGood_regulates {s : State} (hs : s.Wf) {r : Nat} (hr : r < 18) (hready : s.railReady r = true) :
    Gives (.tileRailGood r) s (fun t => t.rd (rState r) = RailS.regulating) := by
  have hexec : exec (.tileRailGood r) s = .next (s.does (railGood r)) := by
    show execTileRailGood r s = _
    exact whenever_of (by simp [hr, hready]) s _
  have hstarts : s.rd (rState r) = RailS.softstart := by
    simp only [State.railReady, Bool.and_eq_true, beq_iff_eq] at hready
    tauto
  refine ⟨_, hexec, ?_⟩
  show (s.run (railGood r s)).rd (rState r) = _
  unfold railGood
  extract_lets k j cap
  simp only [List.append_assoc]
  refine railTo_state hs hr (by rw [hstarts]; decide) ?_
  simp [Upd.avoids, chState, chCmd, PHT_CHSTAT.state, PHT_CHSTAT.cmd, PHT_RCAP.c, V.enAt, V.surveyHold, V.tileGood, V.foldSince, V.senseBad, ivar]

/-! SOFTSTART_TRIP and RAIL_TRIP (R113, R115). -/

/-- A rail that has not tripped is TRIPPED after a trip, with its cause and no phase active. -/
theorem tripRail_trips {s t : State} (ht : t.Wf) {r cause : Nat} (hr : r < 18) (hcause : cause < 2 ^ 8) (h : s.rd (rState r) ≠ RailS.tripped) (first : Nat) :
    (t.run (tripRail r cause first s)).rd (rState r) = RailS.tripped ∧
      (t.run (tripRail r cause first s)).rd (PHT_RSTAT.cause (railTile r) (railLocal r)) = cause ∧
      (t.run (tripRail r cause first s)).rd (rNact r) = 0 := by
  have hk := railTile_lt hr
  have hj := railLocal_lt r
  unfold tripRail
  extract_lets k j
  refine ⟨?_, ?_, ?_⟩
  · rw [List.append_assoc, List.append_assoc, run_append]
    refine railTo_state (run_wf _ ht) hr h ?_
    simp [brakeDown_avoids, Upd.avoids, rNact, PHT_RSTAT.cause, PHT_RSTAT.nact, PHT_EVT.trip, V.tileGood, V.tileTrip, V.foldSince, V.nactNext, V.fastAdd,
      V.rampOn, ivar]
  · refine (rd_run_sets ht (messageField_rail hr (by omega) (by omega) _ _) _ cause ?_).trans (Nat.mod_eq_of_lt hcause)
    simp [Upd.clears, rNact, PHT_RSTAT.nact, PHT_EVT.trip, V.tileGood, V.tileTrip, V.foldSince, V.nactNext, V.fastAdd, V.rampOn, ivar, Fld.key]
    omega
  · rw [run_append]
    refine rd_run_set_avoids (run_wf _ ht) (g := rNact r) (messageField_rail hr (by omega) (by omega) _ _) [.set _ cause] 0 ?_
    simp [Upd.avoids, rNact, PHT_RSTAT.nact, PHT_EVT.trip, V.tileGood, V.tileTrip, V.foldSince, V.nactNext, V.fastAdd, V.rampOn, ivar]

/-- The causes of a soft start's trip (R113). -/
theorem softTrip_cases {s : State} {r : Nat} (h : s.softTrip r ≠ 0) : s.rd (rState r) = RailS.softstart ∧ s.softTrip r < 2 ^ 8 := by
  have hstate : s.rd (rState r) = RailS.softstart := by
    by_contra hne
    exact h (if_pos hne)
  refine ⟨hstate, ?_⟩
  unfold State.softTrip
  extract_lets k j
  repeat' split
  all_goals omega

theorem softstartTrip_trips {s : State} (hs : s.Wf) {r : Nat} (hr : r < 18) (htrip : s.softTrip r ≠ 0) :
    Gives (.softstartTrip r) s (fun t => t.rd (rState r) = RailS.tripped ∧ t.rd (PHT_RSTAT.cause (railTile r) (railLocal r)) = s.softTrip r ∧
      t.rd (rNact r) = 0) := by
  obtain ⟨hstarts, hcause⟩ := softTrip_cases htrip
  have hexec : exec (.softstartTrip r) s =
      .next (s.run (tripRail r (s.softTrip r) ((if s.softTrip r = 1 then s.rd (V.foldSince r) else s.rd (V.ssSince r)) - 1) s)) := by
    show execSoftstartTrip r s = _
    exact whenever_of (by simp [hr, htrip]) s _
  exact ⟨_, hexec, tripRail_trips hs hr hcause (by rw [hstarts]; decide) _⟩

/-- The causes of a regulating rail's trip (R115). -/
theorem tripCause_cases {s : State} {r : Nat} (h : (s.tripCause r).1 ≠ 0) : s.rd (rState r) = RailS.regulating ∧ (s.tripCause r).1 < 2 ^ 8 := by
  have hstate : s.rd (rState r) = RailS.regulating := by
    by_contra hne
    exact h (congrArg Prod.fst (if_pos hne))
  refine ⟨hstate, ?_⟩
  unfold State.tripCause
  extract_lets k j
  repeat' split
  all_goals
    dsimp only
    omega

theorem railTrip_trips {s : State} (hs : s.Wf) {r : Nat} (hr : r < 18) (htrip : (s.tripCause r).1 ≠ 0) :
    Gives (.railTrip r) s (fun t => t.rd (rState r) = RailS.tripped ∧ t.rd (PHT_RSTAT.cause (railTile r) (railLocal r)) = (s.tripCause r).1 ∧
      t.rd (rNact r) = 0) := by
  obtain ⟨hregulates, hcause⟩ := tripCause_cases htrip
  have hexec : exec (.railTrip r) s =
      .next ((s.run (onlyIf ((s.tripCause r).1 == 5) (pairFault r s))).run (tripRail r (s.tripCause r).1 (s.tripCause r).2 s)) := by
    rw [← run_append]
    show execRailTrip r s = _
    exact whenever_of (by simp [hr, htrip]) s _
  exact ⟨_, hexec, tripRail_trips (run_wf _ hs) hr hcause (by rw [hregulates]; decide) _⟩

/-! DISCHARGE_END (R114). -/

theorem dischargeEnd_turns_off {s : State} (hs : s.Wf) {r : Nat} (hr : r < 18) (hstate : s.rd (rState r) = RailS.discharge)
    (hend : s.rd (V.vsense r) < 500 ∨ s.offTimedOut r = true) :
    Gives (.dischargeEnd r) s (fun t => t.rd (rState r) = RailS.off ∧ t.rd (rNact r) = 0 ∧ t.rd (V.vbase r) = 0) := by
  have hexec : exec (.dischargeEnd r) s = .next (s.run (dischargeEnd r s)) := by
    show execDischargeEnd r s = _
    refine whenever_of ?_ s _
    obtain h | h := hend <;> simp [hr, hstate, h]
  refine ⟨_, hexec, ?_, ?_, ?_⟩
  all_goals unfold dischargeEnd
  · rw [List.append_assoc, run_append]
    refine railTo_state (run_wf _ hs) hr (by rw [hstate]; decide) ?_
    simp [Upd.avoids, rNact, PHT_RSTAT.nact, V.vbase, V.acc, V.tileGood, ivar]
  · refine rd_run_set_avoids hs (g := rNact r) (messageField_rail hr (by omega) (by omega) _ _) _ 0 ?_
    simp [Upd.avoids, rNact, PHT_RSTAT.nact, V.vbase, V.acc, V.tileGood, ivar]
  · rw [run_append]
    refine rd_run_sets (run_wf _ hs) (messageField_scalar (by omega) (by omega) _ _) [.set (rNact r) 0] 0 ?_
    simp [Upd.clears, V.acc, V.tileGood, ivar, Fld.key]

/-! BRAKE_ASSERT and BRAKE_CLEAR (R116). -/

theorem messageField_brake {r : Nat} (hr : r < 18) : messageField (PHT_RSTAT.brake (railTile r) (railLocal r)) = false :=
  messageField_rail hr (by omega) (by omega) _ _

theorem brakeAssert_brakes {s : State} (hs : s.Wf) {r : Nat} {e : BrakeEdge} (harmed : s.brakeArmed r = true)
    (hclear : s.rd (PHT_RSTAT.brake (railTile r) (railLocal r)) = 0)
    (hlow : e.v + 10 * s.rd (PHT_PROT.brake (railTile r) (railLocal r)) < s.rd (V.vt r)) :
    Gives (.brakeAssert r e) s (fun t => t.rd (PHT_RSTAT.brake (railTile r) (railLocal r)) = 1 ∧
      t.rd (SWJ_BRKCNT.count (r % 8)) = (s.rd (SWJ_BRKCNT.count (r % 8)) + 1) % 2 ^ (SWJ_BRKCNT.count (r % 8)).width ∧ Raised Ty.BRAKE t) := by
  have hexec : exec (.brakeAssert r e) s = .next (s.run (brakeAssert r (s.moment e.dt) s)) := by
    show execBrakeAssert r e s = _
    exact whenever_of (by simp [State.on, harmed, hclear, hlow]) s _
  have hr : r < 18 := by
    simp only [State.brakeArmed, Bool.and_eq_true, decide_eq_true_eq] at harmed
    omega
  refine ⟨_, hexec, ?_, ?_, ?_⟩
  · refine rd_run_set_avoids hs (messageField_brake hr) [] 1 ?_
    simp [Upd.avoids, brakeRec, bump, PHT_RSTAT.brake, PHT_EVT.brake, SWJ_EVT.brake, SWJ_BRKCNT.count, V.brakeAt, V.brakes, V.brakeTick, ivar]
  · refine rd_run_sets hs (messageField_register (by dsimp only [SWJ_BRKCNT.count]; omega) (by dsimp only [SWJ_BRKCNT.count]; omega)) [_, _, _, _, _] _ ?_
    simp [Upd.clears, brakeRec, SWJ_BRKCNT.count, V.brakeTick, ivar, Fld.key]
    omega
  · exact Via.raised ⟨[.set (V.brakeTick r) 1], by simp [Upd.quiet], rfl⟩ (raised_emit _ _)

theorem brakeClear_releases {s : State} (hs : s.Wf) {r : Nat} {e : BrakeEdge} (hr : r < 16)
    (hset : s.rd (PHT_RSTAT.brake (railTile r) (railLocal r)) = 1)
    (hhigh : s.rd (V.vt r) + 10 * s.rd (PHT_PROT.brake_hys (railTile r) (railLocal r)) < e.v + 10 * s.rd (PHT_PROT.brake (railTile r) (railLocal r))) :
    Gives (.brakeClear r e) s (fun t => t.rd (PHT_RSTAT.brake (railTile r) (railLocal r)) = 0 ∧ Raised Ty.BRAKE t) := by
  have hon : s.on (PHT_RSTAT.brake (railTile r) (railLocal r)) = true := beq_iff_eq.mpr hset
  have hexec : exec (.brakeClear r e) s = .next (s.run (brakeDown r (s.moment e.dt) s)) := by
    show execBrakeClear r e s = _
    exact whenever_of (by simp [hr, hon, hhigh]) s _
  refine ⟨_, hexec, ?_, ?_⟩
  all_goals
    unfold brakeDown
    extract_lets flag ns
    rw [show s.on flag = true from hon, onlyIf_true]
  · refine rd_run_set_avoids hs (messageField_brake (by omega)) [] 0 ?_
    simp [Upd.avoids, brakeRec, V.brakeLast, ivar, PHT_RSTAT.brake]
  · exact raised_emit _ _

/-- Settles O25, a clause for each form: TILE_RAIL_GOOD, SOFTSTART_TRIP, RAIL_TRIP, DISCHARGE_END, BRAKE_ASSERT and BRAKE_CLEAR (R111-R116). -/
theorem railCommandsTakeEffect : Obligations.RailCommandsTakeEffect := by
  unfold Obligations.RailCommandsTakeEffect
  refine ⟨?_, ?_, ?_, ?_, ?_, ?_⟩
  · intro s r hs hr hready
    exact tileRailGood_regulates hs hr hready
  · intro s r hs hr htrip
    exact softstartTrip_trips hs hr htrip
  · intro s r hs hr htrip
    exact railTrip_trips hs hr htrip
  · intro s r hs hr hstate hend
    exact dischargeEnd_turns_off hs hr hstate hend
  · intro s r e hs harmed hclear hlow
    exact brakeAssert_brakes hs harmed hclear hlow
  · intro s r e hs hr hset hhigh
    exact brakeClear_releases hs hr hset hhigh

end Sys2Proof.Machine
end

section
/-! What the channels' commands do: a test that fires, a bench channel that joins, and the record of the swap (R103-R108). -/

namespace Sys2Proof.Machine

/-! The ceiling of a rail whose bench is empty (R108). -/

/-- The update gives or takes back a ceiling: it sets registers at bits 0 and 25, and orders. -/
def Upd.ceils : Upd → Bool
  | .set f _ => decide (f.addr < 0x1_0000_0000) && (f.lsb == 0 || f.lsb == 25)
  | .emit _ | .orders _ => true
  | _ => false

theorem Upd.ceils_set {f : Fld} (ha : f.addr < 0x1_0000_0000) (hl : f.lsb = 0 ∨ f.lsb = 25) (v : Nat) : Upd.ceils (.set f v) = true := by
  simp [Upd.ceils, ha, hl]

theorem Upd.ceils.avoids {u : Upd} (h : u.ceils = true) : u.avoids [20, 30] = true := by
  cases u
  case set f v =>
    simp only [Upd.ceils, Bool.and_eq_true, Bool.or_eq_true, beq_iff_eq] at h
    obtain ⟨-, h | h⟩ := h <;> simp [Upd.avoids, h]
  case resetRegs | flushVectors => cases h
  all_goals rfl

/-- It leaves every scalar that no register shows. -/
theorem Upd.ceils.keeps_scalar {u : Upd} (h : u.ceils = true) {g : Fld} (hg : 0x1_0000_0000 ≤ g.addr) : u.keeps g := by
  cases u
  case set f v =>
    simp only [Upd.ceils, Bool.and_eq_true, Bool.or_eq_true, decide_eq_true_eq, beq_iff_eq] at h
    simp only [Upd.keeps, Fld.key]
    omega
  case resetRegs | flushVectors => cases h
  all_goals trivial

theorem issueProtectOrder_ceils (blk target scope : Nat) (release : Bool) (value : Nat) (mark : Bool) (s : State) :
    (issueProtectOrder blk target scope release value mark s).all Upd.ceils = true := by
  simp [issueProtectOrder, numberProtect, issueOrder, acceptOrder, refuseOrder, bump, Upd.ceils, TIM_PROTSEQ.next]

section
variable {s₀ s : State}

theorem protectHold_ceils {x : Hold} (h : Passing Upd.ceils s₀ s) : Passing Upd.ceils s₀ (protectHold x s) :=
  h.ite ((h.run rfl).does (issueProtectOrder_ceils _ _ _ _ _ _))

theorem protectDrop_ceils {holder : Holder} {blk target scope : Nat} (h : Passing Upd.ceils s₀ s) :
    Passing Upd.ceils s₀ (protectDrop holder blk target scope s) :=
  (((h.run rfl).does (issueProtectOrder_ceils _ _ _ _ _ _)).ite ((h.run rfl).ite ((h.run rfl).does (issueProtectOrder_ceils _ _ _ _ _ _)))).ite h

theorem phaseCeiling_ceils {r : Nat} (hr : r < 18) (h : Passing Upd.ceils s₀ s) : Passing Upd.ceils s₀ (phaseCeiling r s) := by
  have hk := railTile_lt hr
  have hj := railLocal_lt r
  have hlimit (v : Nat) : Upd.ceils (.set (PHT_RCEIL.i (railTile r) (railLocal r)) v) = true :=
    Upd.ceils_set (by dsimp only [PHT_RCEIL.i]; omega) (.inl rfl) v
  have hempty (v : Nat) : Upd.ceils (.set (PHT_RSTAT.bench_empty (railTile r) (railLocal r)) v) = true :=
    Upd.ceils_set (by dsimp only [PHT_RSTAT.bench_empty]; omega) (.inr rfl) v
  have hstart (v : Nat) := h.run (us := [.set (PHT_RCEIL.i (railTile r) (railLocal r)) v]) (by simp [hlimit])
  have hend (v w : Nat) := h.run (us := [.set (PHT_RSTAT.bench_empty (railTile r) (railLocal r)) v, .set (PHT_RCEIL.i (railTile r) (railLocal r)) w])
    (by simp [hlimit, hempty])
  exact ((protectHold_ceils (hstart _)).ite (hstart _)).ite (((protectDrop_ceils (hend _ _)).ite (hend _ _)).ite h)

theorem phaseCeiling_avoids {r : Nat} (hr : r < 18) (h : Passing (Upd.avoids [20, 30]) s₀ s) :
    Passing (Upd.avoids [20, 30]) s₀ (phaseCeiling r s) :=
  h.trans ((phaseCeiling_ceils hr (Via.refl s)).mono fun _ => Upd.ceils.avoids)

/-! What follows a failure sets no role and no channel's cause, which stand at bits 30 and 20 (R124). -/

theorem recount_avoids (r : Nat) (s : State) : (recount r s).all (Upd.avoids [20, 30]) = true := by
  simp [recount, Upd.avoids, rNwork, rNbench, PHT_RAILCFG.nwork, PHT_RSTAT.nbench]

theorem failMaps_avoids (k : Nat) (s : State) : (failMaps k s).all (Upd.avoids [20, 30]) = true := by
  simp [failMaps, Upd.avoids, PHT_FAILMAP.map]

theorem tripRail_avoids (r cause first : Nat) (s : State) : (tripRail r cause first s).all (Upd.avoids [20, 30]) = true := by
  simp [tripRail, parkAll, railTo, protClear, note, setB, cancelTips_avoids, brakeDown_avoids, Upd.avoids, chState, chCmd, rState, rNact, PHT_CHSTAT.state,
    PHT_CHSTAT.cmd, PHT_RAILCFG.lead, PHT_RSTAT.state, PHT_RSTAT.cause, PHT_RSTAT.nact, PHT_EVT.trip, V.joinAt, V.repFor, V.enAt, V.zeroing, V.monLow, V.rampIn,
    V.climitRun, V.ovSince, V.uvSince, V.vmaxSince, V.ovClamp, V.tileGood, V.tileTrip, V.foldSince, V.nactNext, V.fastAdd, V.rampOn, ivar]

theorem benchWake_avoids {r failed t0 : Nat} (hr : r < 18) (h : Passing (Upd.avoids [20, 30]) s₀ s) :
    Passing (Upd.avoids [20, 30]) s₀ (benchWake r failed t0 s) := by
  unfold benchWake
  split
  next b _ =>
    refine (h.run ?_).does fun t => ?_
    · simp [wakeChannel, Upd.avoids, chState, PHT_CHSTAT.state, V.repFor, V.repT0, V.enAt, V.zeroing, V.zeroN, V.zeroSum, V.zeroDone, ivar]
    · simp [pairUp, Upd.avoids, V.repFor, ivar]
  next =>
    refine phaseCeiling_avoids hr (h.run ?_)
    simp [Upd.avoids, PHT_RSTAT.bench_empty, PHT_EVT.bench_empty]

end

theorem messageField_chRole {c : Nat} (hc : c < 320) : messageField (chRole c) = false := messageField_channel hc (by omega) (by omega) _ _

theorem messageField_chCause {c : Nat} (hc : c < 320) : messageField (PHT_CHSTAT.cause (c / 80) (c % 80)) = false :=
  messageField_channel hc (by omega) (by omega) _ _

/-- A channel whose test has fired is FAILED and shows the test (R105). -/
theorem failChannel_marks {s : State} (hs : s.Wf) {c : Nat} (hc : c < 320) (cause imon rise expected : Nat) :
    (failChannel c cause imon rise expected s).rd (chRole c) = Role.failed ∧
      (failChannel c cause imon rise expected s).rd (PHT_CHSTAT.cause (c / 80) (c % 80)) = cause % 2 ^ 4 := by
  have hr : s.railOf c < 18 := railOf_lt s hc
  unfold failChannel
  extract_lets r k wasWorking wasActive replacing nAct t u w on x y
  have hrole : t.rd (chRole c) = Role.failed := by
    refine rd_run_set_avoids hs (messageField_chRole hc) [] Role.failed ?_
    simp [rescale, bumpSat, Upd.avoids, chRole, chState, chCmd, rNact, PHT_CHCFG.role, PHT_CHSTAT.state, PHT_CHSTAT.cmd, PHT_CHSTAT.fails, PHT_CHSTAT.cause,
      PHT_EVT.fail, PHT_RSTAT.nact, V.joinAt, V.repFor, V.enAt, V.zeroing, V.imonOut, V.monLow, V.spreadDue, V.faultEvt, V.acc, V.scaleNew, V.scaleOld, ivar]
  have hcause : t.rd (PHT_CHSTAT.cause (c / 80) (c % 80)) = cause % 2 ^ 4 := by
    refine rd_run_set_avoids hs (messageField_chCause hc) [_, _, _, _, _, _, _, _, _, _, _] cause ?_
    simp [rescale, Upd.avoids, rNact, PHT_CHSTAT.cause, PHT_EVT.fail, PHT_RSTAT.nact, V.faultEvt, V.acc, V.scaleNew, V.scaleOld, ivar]
  have hw : Passing (Upd.avoids [20, 30]) t w := ((Passing.does (Via.refl t) (recount_avoids r)).does (failMaps_avoids k)).run rfl
  have hx : Passing (Upd.avoids [20, 30]) t x := (benchWake_avoids hr hw).ite hw
  have hy : Passing (Upd.avoids [20, 30]) t y := phaseCeiling_avoids hr hx
  have hend : Passing (Upd.avoids [20, 30]) t
      (if wasWorking && on && decide (y.rd (rNwork r) < y.rd (PHT_RAILCFG.nfloor (railTile r) (railLocal r))) then y.does (tripRail r 6 y.now) else y) :=
    (hy.does (tripRail_avoids r 6 y.now)).ite hy
  exact ⟨(hend.rd_avoids (messageField_chRole hc) rfl).trans hrole, (hend.rd_avoids (messageField_chCause hc) rfl).trans hcause⟩

theorem phaseFault_fails {s : State} (hs : s.Wf) {c cause imon rise expected : Nat} (hc : c < 320) (hrole : s.rd (chRole c) ≠ Role.failed)
    (hrail : s.rd (chRail c) < 5) (hfires : s.testFires c cause = true) (hshows : s.testShows c imon rise expected = true) :
    Gives (.phaseFault c cause imon rise expected) s (fun t => t.rd (chRole c) = Role.failed ∧
      t.rd (PHT_CHSTAT.cause (c / 80) (c % 80)) = cause % 2 ^ (PHT_CHSTAT.cause (c / 80) (c % 80)).width) := by
  have hexec : exec (.phaseFault c cause imon rise expected) s = .next (failChannel c cause imon rise expected s) := by
    show execPhaseFault c cause imon rise expected s = _
    exact whenever_of (by simp [hc, hrole, hrail, hfires, hshows]) s _
  exact ⟨_, hexec, failChannel_marks hs hc cause imon rise expected⟩

/-! BENCH_JOIN (R106). -/

/-- The update gives a field a value, or leaves it. -/
def Upd.puts (g : Fld) (v : Nat) (u : Upd) : Prop := u = .set g v ∨ u.keeps g

/-- A field that has a value keeps it while no update gives it another. -/
theorem Via.rd_puts {s t : State} {g : Fld} {v : Nat} (h : Via (Upd.puts g v) s t) (hs : s.Wf) (hm : messageField g = false)
    (hv : s.rd g = v % 2 ^ g.width) : t.rd g = v % 2 ^ g.width := by
  obtain ⟨us, hu, rfl⟩ := h
  induction us generalizing s with
  | nil => exact hv
  | cons u us ih =>
    refine ih (apply_wf u hs) ?_ fun w hw => hu w (by simp [hw])
    obtain rfl | hkeeps := hu u (by simp)
    · exact rd_set_same g v hm hs.1
    · exact (rd_apply_keeps hm hkeeps).trans hv

/-! The channels of a rail are those of the tiles. -/

theorem lt_of_mem_railChannels {s : State} {r role c : Nat} (h : c ∈ s.railChannels r role) : c < 320 :=
  List.mem_range.mp (List.mem_of_mem_filter h)

theorem lt_of_mem_rotation {s : State} {r c : Nat} (h : c ∈ s.rotation r) : c < 320 := lt_of_mem_railChannels (List.mem_mergeSort.mp h)

theorem lt_of_mem_nextSet {s : State} {r c : Nat} (h : c ∈ s.nextSet r) : c < 320 := by
  unfold State.nextSet at h
  extract_lets w n p at h
  split at h
  next => exact lt_of_mem_rotation h
  next =>
    obtain h | h := List.mem_append.mp (List.mem_of_mem_take h)
    · exact lt_of_mem_rotation (List.mem_of_mem_drop h)
    · exact lt_of_mem_rotation (List.mem_of_mem_take h)

/-- A channel's register is none of the scalars that no register shows. -/
theorem channel_key_ne {c o lsb w reset id i w' reset' : Nat} (hc : c < 320) (ho : o < 0x20_5000) (hl : lsb < 64) :
    (ivar id i w' reset').key ≠ (⟨o + 0x40000 * (c / 80) + 0x40 * (c % 80), lsb, w, reset⟩ : Fld).key := by
  simp only [Fld.key, ivar]
  omega

/-- A rail's register is none of them either. -/
theorem rail_key_ne {r o lsb w reset id i w' reset' : Nat} (hr : r < 18) (ho : o < 0x20_2000) (hl : lsb < 64) :
    (ivar id i w' reset').key ≠ (⟨o + 0x40000 * railTile r + 0x100 * railLocal r, lsb, w, reset⟩ : Fld).key := by
  have hk := railTile_lt hr
  have hj := railLocal_lt r
  simp only [Fld.key, ivar]
  omega

theorem rescale_keeps {r c : Nat} (hr : r < 18) (hc : c < 320) (old new : Nat) (s : State) : ∀ u ∈ rescale r old new s, u.keeps (V.joinAt c) := by
  refine all_onlyIf fun _ => all_append ?_ (all_onlyIf fun _ => ?_)
  all_goals
    simp [Upd.keeps, V.acc, V.scaleNew, V.scaleOld, V.joinAt, ivar, Fld.key]
    omega

theorem recount_keeps {r c : Nat} (hr : r < 18) (s : State) : ∀ u ∈ recount r s, u.keeps (V.joinAt c) := by
  have hwork (v : Nat) : Upd.keeps (V.joinAt c) (.set (rNwork r) v) := rail_key_ne hr (by omega) (by omega)
  have hbench (v : Nat) : Upd.keeps (V.joinAt c) (.set (rNbench r) v) := rail_key_ne hr (by omega) (by omega)
  simp [recount, hwork, hbench]

/-- Channels that are to work from the next period boundary may begin their ramp there, which is the time at which a bench channel joins (R106, R109). -/
theorem respread_puts {r c : Nat} (hr : r < 18) (hc : c < 320) (s : State) : ∀ u ∈ respread r s, u.puts (V.joinAt c) (s.now + 1) := by
  have hoffset {x : Nat} (hx : x < 320) (v : Nat) : Upd.puts (V.joinAt c) (s.now + 1) (.set (PHT_CHCFG.offset (x / 80) (x % 80)) v) :=
    .inr (channel_key_ne hx (by omega) (by omega))
  have hstate {x : Nat} (hx : x < 320) (v : Nat) : Upd.puts (V.joinAt c) (s.now + 1) (.set (chState x) v) :=
    .inr (channel_key_ne hx (by omega) (by omega))
  have hcmd {x : Nat} (hx : x < 320) (v : Nat) : Upd.puts (V.joinAt c) (s.now + 1) (.set (chCmd x) v) :=
    .inr (channel_key_ne hx (by omega) (by omega))
  have hjoin (x : Nat) : Upd.puts (V.joinAt c) (s.now + 1) (.set (V.joinAt x) (s.now + 1)) := by
    by_cases h : x = c
    · exact .inl (by rw [h])
    · exact .inr (by simp only [Upd.keeps, Fld.key, V.joinAt, ivar]; omega)
  have hscalar {id x : Nat} (hid : 0x57 < id) (hx : x < 320) (w v : Nat) : Upd.puts (V.joinAt c) (s.now + 1) (.set (ivar id x w 0) v) :=
    .inr (by simp only [Upd.keeps, Fld.key, V.joinAt, ivar]; omega)
  unfold respread
  extract_lets act n
  refine all_append (all_append (fun u hu => ?_) fun u hu => ?_) ?_
  · obtain ⟨x, hx, hu⟩ := List.mem_flatMap.mp hu
    have hlt : x.1 < 320 := lt_of_mem_nextSet (List.fst_mem_of_mem_zipIdx hx)
    refine all_append ?_ (all_onlyIf fun _ => ?_) u hu
    · simp [hoffset hlt, hstate hlt]
    · simp [hjoin, V.rampIn, hscalar (by omega : 0x57 < 0x19B) hlt]
  · obtain ⟨x, hx, hu⟩ := List.mem_flatMap.mp hu
    have hlt : x < 320 := lt_of_mem_rotation (List.mem_of_mem_filter hx)
    obtain rfl | rfl | rfl : u = .set (chState x) ChS.parked ∨ u = .set (chCmd x) 0 ∨ u = .set (V.monLow x) 0 := by simpa using hu
    · exact hstate hlt _
    · exact hcmd hlt _
    · exact hscalar (by omega) hlt _ _
  · simp [V.spreadDue, hscalar (by omega : 0x57 < 0x1A2) (by omega : r < 320)]

theorem respread_avoids (r : Nat) (s : State) : (respread r s).all (Upd.avoids [20, 30]) = true := by
  simp [respread, Upd.avoids, chState, chCmd, PHT_CHCFG.offset, PHT_CHSTAT.state, PHT_CHSTAT.cmd, V.rampIn, V.joinAt, V.monLow, V.spreadDue, ivar]

/-- A bench channel that joins is WORKING, its weight rising from now (R106). -/
theorem benchJoin_joins {s : State} (hs : s.Wf) {c : Nat} (hc : c < 320) :
    (benchJoin c s).rd (chRole c) = Role.working ∧ (benchJoin c s).rd (V.joinAt c) = (s.now + 1) % 2 ^ 64 := by
  have hr : s.railOf c < 18 := railOf_lt s hc
  have hjoin : messageField (V.joinAt c) = false := messageField_scalar (by omega) (by omega) _ _
  unfold benchJoin
  extract_lets r f n t
  have hnact (v : Nat) : Upd.keeps (V.joinAt c) (.set (rNact r) v) := rail_key_ne hr (by omega) (by omega)
  have hcounted : Calm s (t.does (recount r)) := (Calm.run (Calm.refl s) (by simp [rescale])).does (by simp [recount])
  refine ⟨?_, ?_⟩
  · have hrole : t.rd (chRole c) = Role.working := by
      refine rd_run_set_avoids hs (messageField_chRole hc) [] Role.working ?_
      simp [rescale, Upd.avoids, rNact, chRole, PHT_CHCFG.role, PHT_RSTAT.nact, V.place, V.joinAt, V.acc, V.scaleNew, V.scaleOld, ivar]
    have hrest := phaseCeiling_avoids hr ((Passing.does (Via.refl t) (recount_avoids r)).does (respread_avoids r))
    exact (hrest.rd_avoids (messageField_chRole hc) rfl).trans hrole
  · have hset : t.rd (V.joinAt c) = (s.now + 1) % 2 ^ 64 :=
      rd_run_set hs hjoin [_, _] _ (s.now + 1) (all_append (rescale_keeps hr hc n (n + 1) s) (by simpa using hnact (n + 1)))
    have hcount : Via (Upd.puts (V.joinAt c) (s.now + 1)) t (t.does (recount r)) := Via.does (Via.refl t) fun u hu => .inr (recount_keeps hr t u hu)
    have hspread : Via (Upd.puts (V.joinAt c) (s.now + 1)) t ((t.does (recount r)).does (respread r)) :=
      hcount.does (hcounted.1 ▸ respread_puts hr hc (t.does (recount r)))
    have hceil : Via (Upd.puts (V.joinAt c) (s.now + 1)) ((t.does (recount r)).does (respread r)) (phaseCeiling r ((t.does (recount r)).does (respread r))) :=
      (phaseCeiling_ceils hr (Via.refl _)).mono fun _ hu => .inr (Upd.ceils.keeps_scalar hu (by simp only [V.joinAt, ivar]; omega))
    exact (hspread.trans hceil).rd_puts (run_wf _ hs) hjoin hset

theorem benchJoin_takes_place {s : State} (hs : s.Wf) {c r : Nat} (hc : c < 320) (hrail : s.railOf c = r) (hwaking : s.rd (chState c) = ChS.waking)
    (hrep : s.rd (V.repFor c) ≠ 0) (hzeroing : s.rd (V.zeroing c) = 0) (hdone : s.rd (V.zeroDone c) ≠ 0) (hpulse : s.rd (V.zeroDone c) + 800 ≤ s.now + 1)
    (hperiod : s.rd (V.perAt (railTile r)) = s.now + 1) (hlow : 3000 ≤ s.rd (PHT_CHIMON.zero (c / 80) (c % 80)))
    (hhigh : s.rd (PHT_CHIMON.zero (c / 80) (c % 80)) ≤ 16500) :
    Gives (.benchJoin c r) s (fun t => t.rd (chRole c) = Role.working ∧ t.rd (V.joinAt c) = (s.now + 1) % 2 ^ (V.joinAt c).width) := by
  have hexec : exec (.benchJoin c r) s = .next (benchJoin c s) := by
    show execBenchJoin c r s = _
    exact whenever_of (by simp [State.on, imonValid, hc, hrail, hwaking, hrep, hzeroing, hdone, hpulse, hperiod, hlow, hhigh]) s _
  exact ⟨_, hexec, benchJoin_joins hs hc⟩

/-! PHASE_SWAP (R106). -/

theorem phaseSwap_records {s : State} (hs : s.Wf) {c : Nat} (hc : c < 320) (hrep : s.rd (V.repFor c) ≠ 0) (hjoin : s.rd (V.joinAt c) ≠ 0)
    (hfull : s.rd (V.joinAt c) + 24000 ≤ s.now + 1) :
    Gives (.phaseSwap c) s (fun t => t.rd (V.repFor c) = 0 ∧ t.rd (V.joinAt c) = 0 ∧ t.rd (PHT_EVT.swap (c / 80)) = 1 ∧ Raised Ty.PHASE_SWAP t) := by
  obtain ⟨src, pay, hexec⟩ : ∃ src pay, exec (.phaseSwap c) s =
      .next (s.run [note Ty.PHASE_SWAP src pay, .set (PHT_EVT.swap (c / 80)) 1, .set (V.repFor c) 0, .set (V.joinAt c) 0]) :=
    ⟨_, _, whenever_of (by simp [hc, hrep, hjoin, hfull]) s _⟩
  refine ⟨_, hexec, ?_, ?_, ?_, ?_⟩
  · refine rd_run_sets hs (messageField_scalar (by omega) (by omega) _ _) [_, _] 0 ?_
    simp [Upd.clears, V.joinAt, ivar, Fld.key]
  · exact rd_run_sets hs (messageField_scalar (by omega) (by omega) _ _) [_, _, _] 0 rfl
  · refine rd_run_set_avoids hs (messageField_register (by dsimp only [PHT_EVT.swap]; omega) (by dsimp only [PHT_EVT.swap]; omega)) [_] 1 ?_
    simp [Upd.avoids, PHT_EVT.swap, V.repFor, V.joinAt, ivar]
  · exact Via.raised ⟨[.set (PHT_EVT.swap (c / 80)) 1, .set (V.repFor c) 0, .set (V.joinAt c) 0], by simp [Upd.quiet], rfl⟩ (raised_emit s _)

/-- Settles O24, a clause for each form: PHASE_FAULT, BENCH_JOIN and PHASE_SWAP (R103, R105, R106). -/
theorem channelCommandsTakeEffect : Obligations.ChannelCommandsTakeEffect := by
  unfold Obligations.ChannelCommandsTakeEffect
  refine ⟨?_, ?_, ?_⟩
  · intro s c cause imon rise expected hs hc hrole hrail hfires hshows
    exact phaseFault_fails hs hc hrole hrail hfires hshows
  · intro s c r hs hc hrail hwaking hrep hzeroing hdone hpulse hperiod hlow hhigh
    exact benchJoin_takes_place hs hc hrail hwaking hrep hzeroing hdone hpulse hperiod hlow hhigh
  · intro s c hs hc hrep hjoin hfull
    exact phaseSwap_records hs hc hrep hjoin hfull

end Sys2Proof.Machine
end

section
/-! The statement on the training of a link fails: the training frame with which both ends have shown rx_done three times takes the lane to ALIGN
(R139), where FRAME_TRANSMIT's clause lets no register change. -/

namespace Sys2Proof.Machine

/-- Link 1 trains on lane 2: the receiver is done, the partner has shown so in 3 control blocks and the OR8 in 2. -/
def almostTrained : State :=
  { State.reset.run [.set (lkState 1) LinkS.train] with lanes := [(2, { stage := 1, rxDone := true, doneSent := 2, farDone := 3 })] }

/-- R139, step 4: the frame that leaves is the third to show rx_done. -/
theorem almostTrained_frame_aligns :
    (stateAfter almostTrained (exec (.frameTransmit 2) almostTrained)).rd (lkState 1) = LinkS.align := by decide +kernel

/-- Refutes O26: a training frame that is the third in a row to show rx_done, of a lane whose partner has shown it three times, takes the link from
TRAIN to ALIGN (R139), and its state stands in a register. -/
theorem not_linkTrainingCommandsTakeEffect : ¬ Obligations.LinkTrainingCommandsTakeEffect := by
  unfold Obligations.LinkTrainingCommandsTakeEffect
  rintro ⟨-, -, -, -, htransmit, -⟩
  obtain ⟨t, hexec, -, hregs⟩ := htransmit almostTrained 2 (by decide +kernel) (by decide) (by decide +kernel)
  have halign : t.rd (lkState 1) = LinkS.align := by
    have h := almostTrained_frame_aligns
    rwa [hexec] at h
  have htrain : almostTrained.rd (lkState 1) = LinkS.train := by decide +kernel
  have hsame : t.rd (lkState 1) = almostTrained.rd (lkState 1) := rd_of_regs _ hregs
  rw [halign, htrain] at hsame
  exact absurd hsame (by decide)

end Sys2Proof.Machine
end

section
/-! SUPPORT. Links and lanes: what a change of state of a link writes (R134, R159, R291), what it leaves, and the start of a lane. -/

namespace Sys2Proof.Machine

/-! The fields that links 0 to 12 show. -/

theorem messageField_lkState {n : Nat} (hn : n < 13) : messageField (lkState n) = false := by
  interval_cases n <;> rfl

theorem messageField_lkLane {n : Nat} (hn : n < 13) : messageField (lkLane n) = false := by
  interval_cases n <;> rfl

theorem lkState_ne_lkEvt {n : Nat} (hn : n < 13) : (lkState n).key ≠ (lkEvt n).key := by
  interval_cases n <;> decide

theorem lkLane_ne {n : Nat} (hn : n < 13) :
    (lkLane n).key ≠ (lkState n).key ∧ (lkLane n).key ≠ (lkEvt n).key ∧ (lkLane n).key ≠ TIM_DISC.lane.key := by
  interval_cases n <;> decide

theorem lkState_width (n : Nat) : (lkState n).width = 3 := by
  unfold lkState
  split <;> rfl

/-- A link that a list of updates puts, and that none after puts again. -/
theorem link_run_put {s : State} (hs : s.Wf) {n : Nat} (us : List Upd) {vs : List Upd} (l : Link) (h : ∀ u ∈ vs, u.keepsLink n) :
    (s.run (us ++ .link n l :: vs)).link n = l := by
  rw [run_append, run_cons, Via.link ⟨vs, h, rfl⟩, link_put_same (run_wf us hs)]

/-! A change of state. -/

/-- What a link that changes state writes, the cancelled tip-offs first (R134, R157, R159, R291). -/
theorem linkTo_moves {s : State} {n new : Nat} (h : s.rd (lkState n) ≠ new) (cause : Nat) :
    ∃ (gone : Bool) (since lossAt leftRun : Nat) (tips : List Tip) (r : Rec), linkTo n new cause s =
      onlyIf gone (cancelTips n 2 s) ++ [.set (lkState n) new, .set (lkEvt n) 1,
        .link n { s.link n with since := since, lossAt := lossAt, leftRun := leftRun, tips := tips }, .emit r] := by
  unfold linkTo note
  rw [if_neg h]
  by_cases hn : n < 8
  · exact ⟨_, _, _, _, _, _, by rw [if_pos hn]⟩
  · exact ⟨_, _, _, _, _, _, by rw [if_neg hn]⟩

theorem linkTo_stays {s : State} {n new : Nat} (h : s.rd (lkState n) = new) (cause : Nat) : linkTo n new cause s = [] := by
  unfold linkTo
  exact if_pos h

/-- Whatever holds of the updates that a change of state can write, and of cancelled tip-offs, holds of them all. -/
theorem all_linkTo {P : Upd → Prop} {s : State} {n new : Nat} (cause : Nat) (hemit : ∀ r, P (.emit r)) (hlink : ∀ l, P (.link n l))
    (hstate : P (.set (lkState n) new)) (hevt : P (.set (lkEvt n) 1)) : ∀ u ∈ linkTo n new cause s, P u := by
  have htips : ∀ u ∈ cancelTips n 2 s, P u := by
    unfold cancelTips
    extract_lets l due
    split
    · simp
    · refine all_append (fun u hu => ?_) (by simp [onlyIf, hlink])
      obtain ⟨x, -, rfl⟩ := List.mem_map.mp hu
      exact hemit _
  by_cases h : s.rd (lkState n) = new
  · simp [linkTo_stays h]
  · obtain ⟨gone, since, lossAt, leftRun, tips, r, heq⟩ := linkTo_moves h cause
    rw [heq]
    exact all_append (all_onlyIf fun _ => htips) (by simp [hemit, hlink, hstate, hevt])

/-- A link that goes to a state is in it. -/
theorem linkTo_state {s : State} (hs : s.Wf) {n new : Nat} (hn : n < 13) (hnew : new < 8) (cause : Nat) :
    (s.does (linkTo n new cause)).rd (lkState n) = new := by
  by_cases h : s.rd (lkState n) = new
  · rw [does_eq, linkTo_stays h]
    exact h
  · obtain ⟨gone, since, lossAt, leftRun, tips, r, heq⟩ := linkTo_moves h cause
    rw [does_eq, heq, rd_run_sets hs (messageField_lkState hn) _ new (by simp [Upd.clears, lkState_ne_lkEvt hn]), lkState_width]
    exact Nat.mod_eq_of_lt hnew

theorem rd_linkTo {g : Fld} (hm : messageField g = false) {n : Nat} (hstate : g.key ≠ (lkState n).key) (hevt : g.key ≠ (lkEvt n).key) (new cause : Nat)
    (s : State) : (s.does (linkTo n new cause)).rd g = s.rd g :=
  rd_run_keeps hm (all_linkTo cause (fun _ => trivial) (fun _ => trivial) hstate hevt)

theorem lane_linkTo (i n new cause : Nat) (s : State) : (s.does (linkTo n new cause)).lane i = s.lane i :=
  Via.lane ⟨_, all_linkTo cause (fun _ => trivial) (fun _ => trivial) trivial trivial, rfl⟩

/-- A change of state leaves the link's round trip and the boundary of a switch. -/
theorem link_linkTo {s : State} (hs : s.Wf) (n new cause : Nat) :
    ((s.does (linkTo n new cause)).link n).rttAt = (s.link n).rttAt ∧ ((s.does (linkTo n new cause)).link n).switchAt = (s.link n).switchAt := by
  by_cases h : s.rd (lkState n) = new
  · rw [does_eq, linkTo_stays h]
    exact ⟨rfl, rfl⟩
  · obtain ⟨gone, since, lossAt, leftRun, tips, r, heq⟩ := linkTo_moves h cause
    rw [does_eq, heq, List.append_cons, List.append_cons, link_run_put hs _ _ (by simp [Upd.keepsLink])]
    exact ⟨rfl, rfl⟩

/-! Lanes and messages. -/

/-- A lane that starts is powered and trains at its rate from now (R134, R139). -/
theorem startLane_lane {s : State} (hs : s.Wf) (i rate : Nat) (fixed : Bool) :
    ((s.does (startLane i rate fixed)).lane i).stage = 1 ∧ ((s.does (startLane i rate fixed)).lane i).rate = rate := by
  rw [does_eq, startLane, run_cons, run_nil, lane_put_same hs]
  exact ⟨rfl, rfl⟩

theorem rd_startLane (i rate : Nat) (fixed : Bool) (s : State) (g : Fld) : (s.does (startLane i rate fixed)).rd g = s.rd g := rfl

theorem rd_showUpLane {g : Fld} (hm : messageField g = false) (hg : g.key ≠ TIM_DISC.lane.key) (n : Nat) (s : State) :
    (s.does (showUpLane n)).rd g = s.rd g :=
  rd_run_keeps hm (all_onlyIf fun _ => by simpa [Upd.keeps] using hg)

/-- A link with a message just queued on it has sent it last. -/
theorem sends_put {s : State} (hs : s.Wf) {n typ : Nat} {l : Link} (h : l.queue.getLast?.map (·.typ) = some typ) : Sends n typ (s.apply (.link n l)) := by
  unfold Sends
  rw [link_put_same hs]
  exact h

theorem send_queues (l : Link) (typ : Nat) (pay : List Nat) : (l.send typ pay).queue.getLast?.map (·.typ) = some typ := by
  simp [Link.send]

/-! What PROTECT holds (R183). -/

/-- The update leaves what protections hold. -/
def Upd.leavesHolds (hs : List Hold) : Upd → Prop
  | .orders o => o.holds = hs
  | .coldStart => False
  | _ => True

theorem holds_run {us : List Upd} {s : State} {hs : List Hold} (h : s.orders.holds = hs) (hu : ∀ u ∈ us, u.leavesHolds hs) :
    (s.run us).orders.holds = hs := by
  induction us generalizing s with
  | nil => exact h
  | cons u us ih =>
    obtain ⟨hfirst, hrest⟩ := List.forall_mem_cons.mp hu
    refine ih ?_ hrest
    cases u
    case orders o => exact hfirst
    case coldStart => exact hfirst.elim
    case flushVectors => rw [apply_flush]; exact h
    all_goals exact h

theorem issueOrder_leavesHolds (o : Order) (t : Nat) (s : State) : ∀ u ∈ issueOrder o t s, u.leavesHolds s.orders.holds := by
  have hemit (r : Rec) : (Upd.emit r).leavesHolds s.orders.holds := trivial
  unfold issueOrder acceptOrder refuseOrder
  split
  · refine all_append (all_append (by simp [hemit]) fun u hu => ?_) (by simp [Upd.leavesHolds])
    obtain ⟨p, -, rfl⟩ := List.mem_map.mp hu
    exact hemit _
  · simp [hemit]

theorem issueProtectOrder_leavesHolds (blk target scope : Nat) (release : Bool) (value : Nat) (mark : Bool) (s : State) :
    ∀ u ∈ issueProtectOrder blk target scope release value mark s, u.leavesHolds s.orders.holds := by
  unfold issueProtectOrder numberProtect
  split
  · simp [Upd.leavesHolds]
  · exact all_append (issueOrder_leavesHolds _ _ _) (by simp [bump, Upd.leavesHolds])

/-- A protection that begins to hold a target holds it. -/
theorem protectHold_holds (x : Hold) (s : State) : x ∈ (protectHold x s).orders.holds := by
  unfold protectHold
  extract_lets rest o t hs
  split
  next h => simpa using h
  next =>
    rw [does_eq, holds_run (hs := t.orders.holds) rfl (issueProtectOrder_leavesHolds _ _ _ _ _ _ _)]
    exact List.mem_append_right rest (List.mem_singleton.mpr rfl)

theorem protectGroups_nil (x : Holder) (s : State) : protectGroups x [] s = s := by
  simp [protectGroups, protectHoldAll]

theorem protectGroups_singleton (x : Holder) (g : Nat) (s : State) : protectGroups x [g] s = protectHold ⟨x, Blk.seq, Tgt.groupPwr, g, 0⟩ s := by
  simp [protectGroups, protectHoldAll]

end Sys2Proof.Machine
end

section
/-! What the commands of a link that changes lane or is lost do: PLANNED_SWITCH to LOSS_TIMEOUT (R155, R156, R158). -/

namespace Sys2Proof.Machine

/-! The planned switch (R155). -/

theorem plannedSwitch_switches {s : State} (hs : s.Wf) {n : Nat} (hn : n < 12) (hrun : s.rd (lkState n) = LinkS.run) (hlane : s.rd (lkLane n) = 0)
    (hspare : s.spareFree n = true) (hgood : s.rd (lkSpareFail n) = 0) (hdue : s.switchDue n = true ∨ (s.link n).forced = true) :
    Gives (.plannedSwitch n) s (fun t => t.rd (lkState n) = LinkS.switch ∧ (t.lane (spareLane n)).stage = 1) := by
  have hexec : exec (.plannedSwitch n) s = .next (plannedSwitch n s) := by
    show execPlannedSwitch n s = _
    refine whenever_of ?_ s _
    obtain h | h := hdue <;> simp [State.on, hn, hrun, hlane, hspare, hgood, h]
  refine ⟨_, hexec, ?_, ?_⟩
  all_goals
    unfold plannedSwitch
    extract_lets by'
  · exact linkTo_state (run_wf _ (run_wf _ hs)) (by omega) (by decide) _
  · rw [lane_linkTo]
    exact (startLane_lane (run_wf _ hs) _ _ _).1

theorem spareTrained_names {s : State} (hs : s.Wf) {n : Nat} (hn : n < 12) (hswitch : s.rd (lkState n) = LinkS.switch)
    (hspare : (s.lane (spareLane n)).stage = 3) (hnone : (s.link n).switchAt = none) :
    Gives (.spareTrained n) s (fun t => (t.link n).switchAt = some (s.switchTick n) ∧ Sends n MsgT.switch t) := by
  have hexec : exec (.spareTrained n) s = .next (s.apply (.link n { (s.link n).send MsgT.switch (msgBytes [(8, 8, s.switchTick n)]) with
      switchAt := some (s.switchTick n) })) := by
    show execSpareTrained n s = _
    exact whenever_of (by simp [hn, hswitch, hspare, hnone]) s _
  refine ⟨_, hexec, ?_, sends_put hs (send_queues _ _ _)⟩
  rw [link_put_same hs]

/-- A lane change shows the spare as the lane in use (R155). -/
theorem laneSwitch_lane {s : State} (hs : s.Wf) {n : Nat} (hn : n < 12) : (laneSwitch n s).rd (lkLane n) = 1 := by
  obtain ⟨hstate, hevt, hup⟩ := lkLane_ne (by omega : n < 13)
  have hm := messageField_lkLane (by omega : n < 13)
  unfold laneSwitch
  extract_lets l t
  have ht : t.rd (lkLane n) = 1 := by
    have h : t.rd (lkLane n) = 1 % 2 ^ (lkLane n).width := by
      refine rd_run_sets hs hm [_] 1 ?_
      interval_cases n <;> rfl
    rw [h]
    interval_cases n <;> rfl
  rw [rd_linkTo hm hstate hevt, rd_run_keeps hm (all_onlyIf fun _ => by simp [note, Upd.keeps]), rd_showUpLane hm hup]
  exact ht

/-- After a lane change no boundary is named (R155). -/
theorem laneSwitch_link {s : State} (hs : s.Wf) (n : Nat) : ((laneSwitch n s).link n).switchAt = none := by
  unfold laneSwitch
  extract_lets l t
  have hput : (t.link n).switchAt = none := by
    exact congrArg Link.switchAt (link_run_put hs [_, _, _] _ (all_onlyIf fun _ => by simp [Upd.keepsLink]))
  have hup : ∀ u ∈ showUpLane n t, u.keepsLink n := all_onlyIf fun _ => by simp [Upd.keepsLink]
  have hkept (r : Rec) : ((t.does (showUpLane n)).run (onlyIf (decide (n < 8)) [.emit r])).link n = t.link n :=
    Via.link (((Via.refl t).does hup).run (all_onlyIf fun _ => by simp [Upd.keepsLink]))
  have hwf : (t.does (showUpLane n)).Wf := run_wf _ (run_wf _ hs)
  rw [(link_linkTo (run_wf _ hwf) n _ _).2, note, hkept]
  exact hput

theorem laneSwitch_runs {s : State} (hs : s.Wf) {n k : Nat} (hn : n < 12) (hswitch : s.rd (lkState n) = LinkS.switch)
    (hat : (s.link n).switchAt = some k) (hdue : k * 4000 ≤ s.now) :
    Gives (.laneSwitch n) s (fun t => t.rd (lkState n) = LinkS.run ∧ t.rd (lkLane n) = 1 ∧ (t.link n).switchAt = none) := by
  have hexec : exec (.laneSwitch n) s = .next (laneSwitch n s) := by
    show execLaneSwitch n s = _
    simp [execLaneSwitch, hat, hn, hswitch, hdue]
  refine ⟨_, hexec, ?_, laneSwitch_lane hs hn, laneSwitch_link hs n⟩
  exact linkTo_state (run_wf _ (run_wf _ (run_wf _ hs))) (by omega) (by decide) _

/-! Loss, its retries and its timeout (R156, R158). -/

theorem linkLost_state {s : State} (hs : s.Wf) {n : Nat} (hn : n < 13) : (linkLost n s).rd (lkState n) = LinkS.loss := by
  unfold linkLost
  extract_lets onSpare l t u
  have hu : u.rd (lkState n) = LinkS.loss := linkTo_state (run_wf _ (run_wf _ (run_wf _ hs))) hn (by decide) 4
  split
  · rw [rd_startLane, hu]
  · exact hu

theorem linkLoss_loses {s : State} (hs : s.Wf) {n : Nat} (hn : n < 13) (hup : 3 ≤ s.rd (lkState n)) (hnot : s.rd (lkState n) ≠ LinkS.loss)
    (hsilent : s.lastFrame n + 16 * framePeriod (s.rd (lkRate n)) ≤ s.now) : Gives (.linkLoss n) s (fun t => t.rd (lkState n) = LinkS.loss) := by
  have hexec : exec (.linkLoss n) s = .next (linkLost n s) := by
    show execLinkLoss n s = _
    exact whenever_of (by simp [hn, hup, hnot, hsilent]) s _
  exact ⟨_, hexec, linkLost_state hs hn⟩

theorem lossRetry_retries {s : State} (hs : s.Wf) {n : Nat} (hn : n < 13) (hloss : s.rd (lkState n) = LinkS.loss) (hfree : (s.link n).held = false)
    (hdue : max (s.link n).lossAt (s.link n).retryAt + 4000000000 ≤ s.now) :
    Gives (.lossRetry n) s (fun t => (t.link n).retryAt = s.now ∧ (t.lane (primaryLane n)).stage = 1 ∧
      (t.lane (primaryLane n)).rate = s.rd (lkRateMax n)) := by
  have hexec : exec (.lossRetry n) s = .next (lossRetry n s) := by
    show execLossRetry n s = _
    refine whenever_of ?_ s _
    simp only [hn, hloss, hfree, hdue, decide_true, beq_self_eq_true, Bool.not_false, Bool.and_self]
  refine ⟨_, hexec, ?_, startLane_lane (run_wf _ hs) _ _ _⟩
  have hlink : (lossRetry n s).link n = { s.link n with retryAt := s.now } := by
    rw [lossRetry, does_eq, ← run_append, List.append_assoc, List.singleton_append]
    refine link_run_put hs [] _ (all_append (all_onlyIf fun _ => ?_) ?_)
    · simp [dropLane, Upd.keepsLink]
    · simp [startLane, Upd.keepsLink]
  rw [hlink]

section

variable {s : State} {n : Nat} (hn : n < 8) (hlost : (s.link n).lossAt ≠ 0) (hon : s.rd (lkState n) ≠ LinkS.off)
  (haction : s.rd (SWJ_LOSSCFG.action n) = 1) (hlate : (s.link n).lossAt + s.rd (SWJ_LOSSCFG.timeout n) * 4000000 ≤ s.now)
  (hfree : s.orders.holds.any (fun h => h.holder == .linkLoss n) = false)

include hn hlost hon haction hlate hfree

theorem exec_lossTimeout : exec (.lossTimeout n) s = .next (lossTimeout n s) := by
  show execLossTimeout n s = _
  exact whenever_of (by simp [State.on, hn, hlost, hon, haction, hlate, hfree]) s _

theorem lossTimeout_records (hrail : s.seqRailOf? n = none) : Gives (.lossTimeout n) s (fun t => Raised Ty.PROTECT_TRIP t ∧ OnlyFields [] s t) := by
  refine ⟨_, exec_lossTimeout hn hlost hon haction hlate hfree, ?_⟩
  unfold lossTimeout
  rw [hrail, protectGroups_nil]
  exact ⟨raised_emit s _, onlyFields_run_of_bus (by simp [note, Upd.setsOnly]) rfl⟩

theorem lossTimeout_holds {q : Nat} (hrail : s.seqRailOf? n = some q) :
    Gives (.lossTimeout n) s (fun t => ⟨.linkLoss n, Blk.seq, Tgt.groupPwr, s.rd (SEQ_RAILMODE.group q), 0⟩ ∈ t.orders.holds) := by
  refine ⟨_, exec_lossTimeout hn hlost hon haction hlate hfree, ?_⟩
  unfold lossTimeout
  rw [hrail, protectGroups_singleton]
  exact protectHold_holds _ _

end

/-- Settles O27, a clause for each form, LOSS_TIMEOUT without and with a group to hold off: PLANNED_SWITCH, SPARE_TRAINED, LANE_SWITCH, LINK_LOSS,
LOSS_RETRY and LOSS_TIMEOUT (R155, R156, R158). -/
theorem linkChangeCommandsTakeEffect : Obligations.LinkChangeCommandsTakeEffect := by
  unfold Obligations.LinkChangeCommandsTakeEffect
  refine ⟨?_, ?_, ?_, ?_, ?_, ?_, ?_⟩
  · intro s n hs hn hrun hlane hspare hgood hdue
    exact plannedSwitch_switches hs hn hrun hlane hspare hgood hdue
  · intro s n hs hn hswitch hspare hnone
    exact spareTrained_names hs hn hswitch hspare hnone
  · intro s n k hs hn hswitch hat hdue
    exact laneSwitch_runs hs hn hswitch hat hdue
  · intro s n hs hn hup hnot hsilent
    exact linkLoss_loses hs hn hup hnot hsilent
  · intro s n hs hn hloss hfree hdue
    exact lossRetry_retries hs hn hloss hfree hdue
  · intro s n _ hn hlost hon haction hlate hfree hrail
    exact lossTimeout_records hn hlost hon haction hlate hfree hrail
  · intro s n q _ hn hlost hon haction hlate hfree hrail
    exact lossTimeout_holds hn hlost hon haction hlate hfree hrail

end Sys2Proof.Machine
end

section
/-! What the messages of the slots and the measurements of a link do: CAP to RTT_NOW (R140-R146, R151, R152, R169, R195). -/

namespace Sys2Proof.Machine

/-- Fields of different registers have different keys. -/
theorem Fld.key_ne {f g : Fld} (h : f.addr ≠ g.addr) (hf : f.lsb < 64) (hg : g.lsb < 64) : f.key ≠ g.key := by
  unfold Fld.key
  omega

/-! A message taken. -/

theorem withMsg_next {s : State} {n typ : Nat} (hn : n < 8) {g : GotMsg} {l : Link} (htake : (s.link n).take? typ = some (g, l))
    (f : GotMsg → State → State) : withMsg n typ s f = .next (f g (s.run [.link n l])) := by
  simp [withMsg, htake, hn]

/-- What a message is taken from differs in its inbox alone. -/
theorem take?_inbox {l l' : Link} {typ : Nat} {g : GotMsg} (h : l.take? typ = some (g, l')) : l' = { l with inbox := l.inbox.erase g } := by
  unfold Link.take? at h
  split at h
  next => cases h; rfl
  next => cases h

/-! CAP (R140). -/

/-- Outside CAPS and a repeated exchange no exchange ends. -/
theorem capsCheck_idle {s : State} {n : Nat} (hstate : s.rd (lkState n) ≠ LinkS.caps) (hagain : (s.link n).again = false) : capsCheck n s = s := by
  simp [capsCheck, hstate, hagain]

theorem afterCaps_idle {n old : Nat} (h : old ≠ LinkS.caps) (s : State) : afterCaps n old s = s := by
  simp [afterCaps, h]

/-- Outside an exchange a page is held, and nothing else. -/
theorem takePage_holds {s : State} (hs : s.Wf) {n : Nat} (hstate : s.rd (lkState n) ≠ LinkS.caps) (hagain : (s.link n).again = false) (g : GotMsg) :
    takePage n g s = s.apply (.link n { s.link n with
      pages := tableInsert (s.link n).pages (g.msg.get 4 1) (sliceBytes g.msg.pay 1 27),
      gotPages := setBit (s.link n).gotPages (g.msg.get 4 1) }) := by
  unfold takePage
  extract_lets l t u
  have htstate : t.rd (lkState n) ≠ LinkS.caps := hstate
  have htagain : (t.link n).again = false := by
    rw [show t.link n = _ from link_put_same hs n _]
    exact hagain
  have hu : u = t := if_neg (by simp [htstate, htagain])
  rw [hu, capsCheck_idle htstate htagain, afterCaps_idle htstate]
  rfl

theorem cap_holds {s : State} (hs : s.Wf) {n : Nat} {g : GotMsg} {l : Link} (hn : n < 8) (htake : (s.link n).take? MsgT.cap = some (g, l))
    (hstate : s.rd (lkState n) ≠ LinkS.caps) (hagain : (s.link n).again = false) :
    Gives (.cap n) s (fun t => tableFind? (t.link n).pages (g.msg.get 4 1) = some (sliceBytes g.msg.pay 1 27) ∧ t.regs = s.regs) := by
  have hl : l.again = false := by rw [take?_inbox htake, hagain]
  have hput : (s.run [.link n l]).link n = l := link_put_same hs n l
  have hwf : (s.run [.link n l]).Wf := run_wf _ hs
  have hexec : exec (.cap n) s = .next (takePage n g (s.run [.link n l])) := withMsg_next hn htake (takePage n)
  rw [takePage_holds hwf hstate (by rw [hput, hl])] at hexec
  refine ⟨_, hexec, ?_, rfl⟩
  rw [link_put_same hwf]
  exact find_insert_same _ _ _

/-! HINT and HINT_EXPIRE (R145, R169). -/

theorem hint_holds {s : State} {n : Nat} {g : GotMsg} {l : Link} (hn : n < 8) (htake : (s.link n).take? MsgT.hint = some (g, l)) :
    Gives (.hint n) s (fun t => t.hints = s.hints ++ ((hintWords g.msg).filter (fun w => decide (bits w 60 4 < 7))).map (s.hintOf n g.tick) ∧
      t.regs = s.regs) :=
  ⟨_, withMsg_next hn htake fun g t => t.does (takeHints n g.tick g.msg), rfl, rfl⟩

theorem hintExpire_ends {s : State} (hany : s.hints.any (fun h => decide (h.stop ≤ s.now)) = true) :
    Gives .hintExpire s (fun t => (∀ h ∈ t.hints, s.now < h.stop) ∧ OnlyFields [] { s with hints := t.hints } t) := by
  have hexec : exec .hintExpire s = .next (s.run [.hints (s.hints.filter (fun h => decide (s.now < h.stop)))]) := whenever_of hany s _
  refine ⟨_, hexec, fun h hh => ?_, ?_⟩
  · exact of_decide_eq_true (List.mem_filter.mp hh).2
  · simp [OnlyFields, State.rd]

/-! STEP (R142, R195, R196). -/

theorem prd_put_same {s : State} (hs : s.Wf) (n : Nat) (p : PrdSlot) : (s.apply (.prd n p)).prdSlot n = p := by
  obtain ⟨-, -, -, -, hprd, -⟩ := hs
  exact get_put_same _ _ _ (wf_sorted hprd)

/-- The update is a field's or a record's, and leaves what the predictor holds for every slot. -/
def Upd.keepsPrd : Upd → Bool
  | .set _ _ | .emit _ => true
  | _ => false

theorem prdSlot_run {s : State} {us : List Upd} (h : us.all Upd.keepsPrd = true) (n : Nat) : (s.run us).prdSlot n = s.prdSlot n := by
  induction us generalizing s with
  | nil => rfl
  | cons u us ih =>
    obtain ⟨hu, hus⟩ : u.keepsPrd = true ∧ us.all Upd.keepsPrd = true := by simpa using h
    rw [run_cons, ih hus]
    cases u
    case set | emit => rfl
    all_goals cases hu

/-- What a step that is delivered writes: the slot's forecast first, which has it as its last step, and then the register that shows it (R195, R196). -/
theorem stepKeyed_writes (n c : Nat) (s : State) : ∃ (p : PrdSlot) (steps idx : Nat) (runs back : Bool) (r : Rec), p.prevStep = some c ∧
    stepKeyed n c s = [.prd n p, .set (PRD_SSTAT.steps n) steps, .set (PRD_SSTAT.idx n) idx] ++
      .set (SWJ_STEP.step n) c :: (onlyIf runs [.set (PRD_STEP.step n) c] ++ onlyIf back [.set PRD_EVT.discont 1, .emit r]) := by
  unfold stepKeyed
  extract_lets p back runs written whole closed p1 p' steps
  have hlast : p'.prevStep = some c := by
    unfold p'
    split <;> rfl
  exact ⟨p', steps, p'.index.length, runs, back, _, hlast, by rw [List.append_assoc]; rfl⟩

/-- A step that is delivered is shown, and is the slot's last. -/
theorem stepKeyed_keys {s : State} (hs : s.Wf) {n : Nat} (hn : n < 8) (c : Nat) :
    (s.does (stepKeyed n c)).rd (SWJ_STEP.step n) = c % 2 ^ (SWJ_STEP.step n).width ∧ ((s.does (stepKeyed n c)).prdSlot n).prevStep = some c := by
  have hmsg : messageField (SWJ_STEP.step n) = false := messageField_register (by dsimp only [SWJ_STEP.step]; omega) (by dsimp only [SWJ_STEP.step]; omega)
  obtain ⟨p, steps, idx, runs, back, r, hlast, heq⟩ := stepKeyed_writes n c s
  rw [does_eq, heq]
  constructor
  · refine rd_run_sets hs hmsg _ c ?_
    rw [List.all_append, onlyIf_clears, onlyIf_clears]
    · rfl
    · interval_cases n <;> rfl
    · interval_cases n <;> rfl
  · rw [List.cons_append, run_cons, prdSlot_run, prd_put_same hs, hlast]
    cases runs <;> cases back <;> rfl

/-- The one STEP that waits is delivered. -/
theorem takeStep_delivers {s : State} {n : Nat} {g : GotMsg} (hinbox : (s.link n).inbox = [g]) (htyp : g.msg.typ = MsgT.step) :
    ∃ l, takeStep n s = stepDelivered n (g.msg.get 4 8) (s.run [.link n l]) := by
  unfold takeStep
  simp only [hinbox, List.find?_cons, htyp, beq_self_eq_true, List.filter_cons, List.filter_nil, Bool.and_self, if_true, List.getLastD]
  exact ⟨_, rfl⟩

theorem step_delivers {s : State} (hs : s.Wf) {n : Nat} {g : GotMsg} (hn : n < 8) (hinbox : (s.link n).inbox = [g]) (htyp : g.msg.typ = MsgT.step)
    (hdue : g.tick + s.rd (SWJ_STAT.updelay n) ≤ s.tick + 1) :
    Gives (.step n) s (fun t => t.rd (SWJ_STEP.step n) = g.msg.get 4 8 % 2 ^ (SWJ_STEP.step n).width ∧ (t.prdSlot n).prevStep = some (g.msg.get 4 8)) := by
  obtain ⟨l, htake⟩ := takeStep_delivers hinbox htyp
  have hexec : exec (.step n) s = .next (takeStep n s) := by
    show execStep n s = _
    simp [execStep, hinbox, htyp, hn, hdue]
  rw [htake] at hexec
  exact ⟨_, hexec, stepKeyed_keys (run_wf _ (run_wf _ hs)) hn _⟩

/-! AGEING (R146, R181). -/

theorem trimTo_keeps {g : Fld} (hg : g.addr < 0x40_0000) (hl : g.lsb < 64) (n group : Nat) (slack new : Int) (s : State) :
    ∀ u ∈ trimTo n group slack new s, u.keeps g := by
  have htrim : g.key ≠ (CAP_AGE.trim n).key := Fld.key_ne (by dsimp only [CAP_AGE.trim]; omega) hl (Nat.zero_lt_succ _)
  have hevt : g.key ≠ CAP_EVT.age.key := Fld.key_ne (by dsimp only [CAP_EVT.age]; omega) hl (by decide)
  exact all_onlyIf fun _ => by simp [setI, note, Upd.keeps, htrim, hevt]

/-- A report is shown first; what it may raise stands in other registers (R146, R181). -/
theorem ageing_writes {n : Nat} (hn : n < 8) (m : Msg) (s : State) : ∃ rest, ageing n m s =
    .set (SWJ_AGE.group n) (m.get 4 1) :: .set (SWJ_AGE.vmargin n) (m.get 8 2) :: rest ∧
      ∀ g : Fld, g.addr = (SWJ_AGE.group n).addr → g.lsb < 64 → ∀ u ∈ rest, u.keeps g := by
  refine ⟨_, rfl, fun g hg hl => ?_⟩
  have haddr : g.addr = 0x300080 + 0x10000 * n := hg
  have hslack (v : Nat) : Upd.keeps g (.set (SWJ_AGESLACK.slack n) v) := Fld.key_ne (by dsimp only [SWJ_AGESLACK.slack]; omega) hl (Nat.zero_lt_succ _)
  have hscalar (id i w v : Nat) : Upd.keeps g (.set (ivar id i w 0) v) := Fld.key_ne (by dsimp only [ivar]; omega) hl (Nat.zero_lt_succ _)
  refine all_append (all_append (all_append ?_ (all_onlyIf fun _ => ?_)) (all_onlyIf fun _ => ?_)) (all_onlyIf fun _ => trimTo_keeps (by omega) hl _ _ _ _ _)
  · simp [hslack, hscalar, V.ageAt, V.ageSeen, V.ageWait]
  · simp [hscalar, V.ageBad]
  · simp [hscalar, V.ageStale]

theorem ageing_shows {s : State} (hs : s.Wf) {n : Nat} (hn : n < 8) (m : Msg) :
    (s.does (ageing n m)).rd (SWJ_AGE.group n) = m.get 4 1 % 2 ^ (SWJ_AGE.group n).width ∧
      (s.does (ageing n m)).rd (SWJ_AGE.vmargin n) = m.get 8 2 % 2 ^ (SWJ_AGE.vmargin n).width := by
  obtain ⟨rest, heq, hrest⟩ := ageing_writes hn m s
  have hmargin : Upd.keeps (SWJ_AGE.group n) (.set (SWJ_AGE.vmargin n) (m.get 8 2)) := by
    simp only [Upd.keeps, Fld.key, SWJ_AGE.group, SWJ_AGE.vmargin]
    omega
  have hmsg (f : Fld) (hf : f.addr = (SWJ_AGE.group n).addr) (hl : f.lsb < 64) : messageField f = false :=
    messageField_register (by dsimp only [SWJ_AGE.group] at hf; omega) hl
  have hl : (SWJ_AGE.group n).lsb < 64 ∧ (SWJ_AGE.vmargin n).lsb < 64 := ⟨show 24 < 64 by decide, show 0 < 64 by decide⟩
  rw [does_eq, heq]
  constructor
  · exact rd_run_set hs (hmsg (SWJ_AGE.group n) rfl hl.1) [] _ _ (List.forall_mem_cons.mpr ⟨hmargin, hrest _ rfl hl.1⟩)
  · exact rd_run_set hs (hmsg (SWJ_AGE.vmargin n) rfl hl.2) [_] _ _ (hrest _ rfl hl.2)

theorem ageing_holds {s : State} (hs : s.Wf) {n : Nat} {g : GotMsg} {l : Link} (hn : n < 8) (htake : (s.link n).take? MsgT.ageing = some (g, l)) :
    Gives (.ageing n) s (fun t => t.rd (SWJ_AGE.group n) = g.msg.get 4 1 % 2 ^ (SWJ_AGE.group n).width ∧
      t.rd (SWJ_AGE.vmargin n) = g.msg.get 8 2 % 2 ^ (SWJ_AGE.vmargin n).width) :=
  ⟨_, withMsg_next hn htake fun g t => t.does (ageing n g.msg), ageing_shows (run_wf _ hs) hn g.msg⟩

/-! FREQ_ACK (R151, R159). -/

theorem freqAck_shows {s : State} (hs : s.Wf) {n : Nat} (hn : n < 8) {m : Msg} (hres : m.get 5 1 < 2) :
    (s.does (freqAck n m)).rd (SWJ_FREQPEND.valid n) = 0 ∧ (s.does (freqAck n m)).rd (V.freqHeld n) = m.get 4 1 % 2 ^ (V.freqHeld n).width ∧
      Raised Ty.FREQ_APPLY (s.does (freqAck n m)) := by
  rw [does_eq]
  unfold freqAck
  extract_lets res
  rw [if_pos hres]
  generalize (res == 1) = late
  refine ⟨?_, ?_, ?_⟩
  · refine rd_run_sets hs (messageField_register (by dsimp only [SWJ_FREQPEND.valid]; omega) (by dsimp only [SWJ_FREQPEND.valid]; omega)) [] 0 ?_
    cases late <;> interval_cases n <;> rfl
  · refine rd_run_sets hs (messageField_scalar (by omega) (by omega) _ _) [_, _] _ (onlyIf_clears ?_ late)
    interval_cases n <;> rfl
  · refine Via.raised ⟨.set (V.freqHeld n) (m.get 4 1) :: onlyIf late [.set (SWJ_EVT.late n) 1], ?_, rfl⟩ (raised_emit _ _)
    exact List.forall_mem_cons.mpr ⟨trivial, all_onlyIf fun _ => by simp [Upd.quiet]⟩

theorem freqAck_answers {s : State} (hs : s.Wf) {n : Nat} {g : GotMsg} {l : Link} (hn : n < 8) (htake : (s.link n).take? MsgT.freqAck = some (g, l))
    (hres : g.msg.get 5 1 < 2) :
    Gives (.freqAck n) s (fun t => t.rd (SWJ_FREQPEND.valid n) = 0 ∧ t.rd (V.freqHeld n) = g.msg.get 4 1 % 2 ^ (V.freqHeld n).width ∧
      Raised Ty.FREQ_APPLY t) :=
  ⟨_, withMsg_next hn htake fun g t => t.does (freqAck n g.msg), freqAck_shows (run_wf _ hs) hn hres⟩

/-! TIME_SEND (R152). -/

theorem timeSend_sends {s : State} (hs : s.Wf) {n : Nat} (hn : n < 8) (hrun : s.rd (lkState n) = LinkS.run) :
    Gives (.timeSend n) s (fun t => Sends n MsgT.time t ∧ (t.link n).timeAt = s.now ∧ t.regs = s.regs) := by
  have hexec : exec (.timeSend n) s = .next (s.does (timeSend n)) := by
    show execTimeSend n s = _
    exact whenever_of (by simp [hn, hrun]) s _
  refine ⟨_, hexec, sends_put hs (send_queues _ _ _), ?_, rfl⟩
  rw [does_eq, timeSend, run_cons, run_nil, link_put_same hs]

/-! RTT_MEASURE and RTT_NOW (R38, R141). -/

theorem rttMeasure_marks {s : State} (hs : s.Wf) {n : Nat} (hn : n < 8) :
    ((s.does (rttMeasure n)).link n).rttAt = s.now + 1 ∧ (s.does (rttMeasure n)).rd (V.rttHad n) = 1 := by
  rw [does_eq]
  unfold rttMeasure
  extract_lets l rtt delay old
  generalize (s.on (V.rttHad n) && decide (5 < (rtt - old).natAbs)) = moved
  have hevt : (onlyIf moved [.set (SWJ_EVT.rtt n) 1]).all (·.clears (V.rttHad n)) = true := onlyIf_clears (by interval_cases n <;> rfl) moved
  constructor
  · refine congrArg Link.rttAt (link_run_put hs [_, _, _] _ (List.forall_mem_cons.mpr ⟨?_, all_onlyIf fun _ => ?_⟩))
    · trivial
    · simp [Upd.keepsLink]
  · exact rd_run_sets hs (messageField_scalar (by omega) (by omega) _ _) [_, _] 1 hevt

/-- A lane held down keeps what its link measured (R38). -/
theorem holdDown_keeps {s : State} (hs : s.Wf) {n : Nat} (hn : n < 8) (cause : Nat) :
    ((holdDown n cause s).link n).rttAt = (s.link n).rttAt ∧ (holdDown n cause s).rd (V.rttHad n) = s.rd (V.rttHad n) := by
  have hhad : (V.rttHad n).key ≠ (lkState n).key ∧ (V.rttHad n).key ≠ (lkEvt n).key := by interval_cases n <;> decide
  have hput : (s.run [dropLane (s.currentLane n) s, .link n { s.link n with held := true }]).link n = { s.link n with held := true } :=
    link_run_put hs [_] (vs := []) _ (by simp)
  unfold holdDown
  constructor
  · rw [(link_linkTo (run_wf _ hs) _ _ _).1, hput]
  · exact rd_linkTo (messageField_scalar (by omega) (by omega) _ _) hhad.1 hhad.2 _ _ _

theorem rttRun_marks {s : State} (hs : s.Wf) {n : Nat} (hn : n < 8) : ((rttRun n s).link n).rttAt = s.now + 1 ∧ (rttRun n s).rd (V.rttHad n) = 1 := by
  obtain ⟨hat, hhad⟩ := rttMeasure_marks hs hn
  unfold rttRun
  extract_lets t
  split
  · obtain ⟨hlink, hrd⟩ := holdDown_keeps (run_wf (rttMeasure n s) hs) hn 0
    exact ⟨hlink.trans hat, hrd.trans hhad⟩
  · exact ⟨hat, hhad⟩

theorem rttMeasure_measures {s : State} (hs : s.Wf) {n : Nat} (hn : n < 8) (hrun : s.rd (lkState n) = LinkS.run) (hecho : (s.link n).echoOk = true)
    (hdue : (s.link n).rttAt = 0 ∨ (s.link n).rttAt + 4000000000 ≤ s.now + 1) :
    Gives (.rttMeasure n) s (fun t => (t.link n).rttAt = s.now + 1 ∧ t.rd (V.rttHad n) = 1) := by
  have hexec : exec (.rttMeasure n) s = .next (rttRun n s) := by
    show execRttMeasure n s = _
    refine whenever_of ?_ s _
    obtain h | h := hdue <;> simp [hn, hrun, hecho, h]
  exact ⟨_, hexec, rttRun_marks hs hn⟩

theorem rttNow_measures {s : State} {req : Nat} (hs : s.Wf) {n : Nat} (hn : n < 8) (hreach : s.Reaches req (0x30_0000 + 0x1_0000 * n) 4 2 false)
    (hrun : s.rd (lkState n) = LinkS.run) (hecho : (s.link n).echoOk = true) :
    Gives (.rttNow req n) s (fun t => (t.link n).rttAt = s.now + 1 ∧ t.rd (V.rttHad n) = 1) := by
  have hnow : rttNow n s = rttRun n s := by simp [rttNow, hrun, hecho]
  have hexec : exec (.rttNow req n) s = .next ((rttRun n s).run (hostTraffic req true 4)) := by
    show execRttNow req n s = _
    rw [execRttNow, if_pos hn, gated_of_reaches hreach, hnow]
  obtain ⟨p, hp⟩ := run_hostTraffic (rttRun n s) req true 4
  rw [hp] at hexec
  exact ⟨_, hexec, rttRun_marks hs hn⟩

/-- Settles O28, a clause for each form: CAP, HINT, HINT_EXPIRE, STEP, AGEING, FREQ_ACK, TIME_SEND, RTT_MEASURE and RTT_NOW (R140-R146, R151, R152,
R169, R195). -/
theorem slotMessagesTakeEffect : Obligations.SlotMessagesTakeEffect := by
  unfold Obligations.SlotMessagesTakeEffect
  refine ⟨?_, ?_, ?_, ?_, ?_, ?_, ?_, ?_, ?_⟩
  · intro s n g l hs hn htake hstate hagain
    exact cap_holds hs hn htake hstate hagain
  · intro s n g l _ hn htake
    exact hint_holds hn htake
  · intro s _ hany
    exact hintExpire_ends hany
  · intro s n g hs hn hinbox htyp hdue
    exact step_delivers hs hn hinbox htyp hdue
  · intro s n g l hs hn htake
    exact ageing_holds hs hn htake
  · intro s n g l hs hn htake hres
    exact freqAck_answers hs hn htake hres
  · intro s n hs hn hrun
    exact timeSend_sends hs hn hrun
  · intro s n hs hn hrun hecho hdue
    exact rttMeasure_measures hs hn hrun hecho hdue
  · intro s req n hs hn hreach hrun hecho
    exact rttNow_measures hs hn hreach hrun hecho

end Sys2Proof.Machine
end

section
/-! The statement on the caps, the ageing trim and the prediction windows fails at AGE_TRIM_PERIOD: the groups that a slot declared are as many as a
byte of its partner's page says (R140), and nothing in the clause holds that byte below 256. -/

namespace Sys2Proof.Machine

/-- A trim that moves sets registers alone (R181, R186). -/
theorem trimTo_keeps_scalar {n : Nat} (hn : n < 8) {id i w reset : Nat} (group : Nat) (slack new : Int) (s : State) :
    ∀ u ∈ trimTo n group slack new s, u.keeps (ivar id i w reset) := by
  have htrim : (ivar id i w reset).key ≠ (CAP_AGE.trim n).key :=
    Fld.key_ne (by dsimp only [ivar, CAP_AGE.trim]; omega) (Nat.zero_lt_succ _) (Nat.zero_lt_succ _)
  have hevt : (ivar id i w reset).key ≠ CAP_EVT.age.key :=
    Fld.key_ne (by dsimp only [ivar, CAP_EVT.age]; omega) (Nat.zero_lt_succ _) (by decide)
  exact all_onlyIf fun _ => by simp [setI, note, Upd.keeps, htrim, hevt]

theorem exec_ageTrimPeriod {s : State} {n : Nat} (hn : n < 8) (hdue : s.rd (V.agePeriod n) ≤ s.now / 400000000) :
    exec (.ageTrimPeriod n) s = .next (s.does (agePeriodEnd n)) := by
  show execAgeTrimPeriod n s = _
  exact whenever_of (by simp [hn, hdue]) s _

/-- The end of a period forgets that the last group reported (R181). -/
theorem agePeriodEnd_forgets_last {s : State} (hs : s.Wf) {n g : Nat} (hn : n < 8) (hgroups : s.ageGroups n = g + 1)
    (hm : messageField (V.ageSeen n g) = false) : (s.does (agePeriodEnd n)).rd (V.ageSeen n g) = 0 := by
  have hbad : (V.ageSeen n g).key ≠ (V.ageBad n g).key := by
    simp only [Fld.key, V.ageSeen, V.ageBad, ivar]
    omega
  have hrange : s.groups n = List.range g ++ [g] := by rw [State.groups, hgroups, List.range_succ]
  rw [does_eq]
  unfold agePeriodEnd
  extract_lets gs good run fall
  rw [show gs = List.range g ++ [g] from hrange, List.flatMap_append, ← List.append_assoc, List.append_assoc]
  exact rd_run_set hs hm _ _ 0 (List.forall_mem_cons.mpr ⟨hbad, all_onlyIf fun _ => trimTo_keeps_scalar hn _ _ _ s⟩)

/-- Slot 0's partner declared 0x5_0001 groups, in what is to be a byte of its page 2. -/
def crowdedGroups : State := { State.reset with links := [(0, { pages := [(2, [0, 0, 0, 0, 0, 0, 0, 0x5_0001])] })] }

/-- Group 0x5_0000 of slot 0 has its mark where the number of the slot's period stands. -/
theorem rd_ageSeen_beyond (s : State) : s.rd (V.ageSeen 0 0x5_0000) = s.rd (V.agePeriod 0) % 2 :=
  (Nat.mod_mod_of_dvd (tableGet 0 s.regs (V.agePeriod 0).key) (show 2 ^ 1 ∣ 2 ^ 64 by decide)).symm

/-- Refutes O29: a slot's period number is lost where the slot declared so many groups that the mark of one of them is the number's own place. Of groups
that a byte can count none has its mark there. -/
theorem not_capCommandsTakeEffect : ¬ Obligations.CapCommandsTakeEffect := by
  unfold Obligations.CapCommandsTakeEffect
  rintro ⟨-, -, -, hperiod, -⟩
  have hwf : crowdedGroups.Wf := by decide +kernel
  have hdue : crowdedGroups.rd (V.agePeriod 0) ≤ crowdedGroups.now / 400000000 := by decide +kernel
  obtain ⟨t, hexec, hnumber⟩ := hperiod crowdedGroups 0 hwf (by decide) hdue
  obtain rfl : crowdedGroups.does (agePeriodEnd 0) = t := Host.Outcome.next.inj ((exec_ageTrimPeriod (by decide) hdue).symm.trans hexec)
  have hmark : (crowdedGroups.does (agePeriodEnd 0)).rd (V.ageSeen 0 0x5_0000) = 0 :=
    agePeriodEnd_forgets_last hwf (by decide) (by decide +kernel) (by decide)
  have hone : (crowdedGroups.now / 400000000 + 1) % 2 ^ (V.agePeriod 0).width = 1 := by decide
  rw [rd_ageSeen_beyond, hnumber, hone] at hmark
  exact absurd hmark (by decide)

end Sys2Proof.Machine
end

section
/-! The commands of the structure image's loader (R254, R255, R264). -/

namespace Sys2Proof.Machine

/-- The bytes that a load brings into the idle bank leave it LOADING, its length kept (R254). -/
theorem loadBytes_loading {s : State} (hs : s.Wf) (bytes : List Nat) (len : Nat) (ue : Bool) :
    (loadBytes bytes len ue s).rd FAB_STAT.load = LoadS.loading ∧ (loadBytes bytes len ue s).rd V.loadLen = len % 2 ^ V.loadLen.width :=
  ⟨rd_run_lastSet hs (g := FAB_STAT.load) (v := LoadS.loading) (by decide) rfl, rd_run_lastSet hs (g := V.loadLen) (by decide) rfl⟩

/-- A load with no transaction live is not refused (R254, R260). -/
theorem loadStart_loading {s : State} (hs : s.Wf) (hfree : s.txBusy = false) (addr len : Nat) :
    (loadStart addr len s).rd FAB_STAT.load = LoadS.loading ∧ (loadStart addr len s).rd V.loadLen = len % 2 ^ V.loadLen.width := by
  rw [loadStart, hfree]
  exact loadBytes_loading (run_wf _ hs) _ _ _

theorem imageLoad_loads {s : State} {req : Nat} (hs : s.Wf) (hreach : s.Reaches req 0x60_004C 4 1 true) (hfree : s.txBusy = false) :
    Gives (.imageLoad req) s (fun t => t.rd FAB_STAT.load = LoadS.loading ∧ t.rd V.loadLen = s.rd FAB_LOADLEN.len % 2 ^ V.loadLen.width) := by
  obtain ⟨hstate, hlen⟩ := loadStart_loading hs hfree (s.rd FAB_LOADADDR.addr) (s.rd FAB_LOADLEN.len)
  exact ⟨_, gated_of_reaches hreach _, (rd_run_hostTraffic ..).trans hstate, (rd_run_hostTraffic ..).trans hlen⟩

/-- What a load's end or refusal reports stands in its error register, in its events and in a record. -/
theorem loadReport_setsOnly (code item : Nat) (s : State) :
    ∀ u ∈ loadReport code item s, u.setsOnly [FAB_LOADERR.code, FAB_LOADERR.item, FAB_EVT.load_ok, FAB_EVT.load_fail] := by
  unfold loadReport
  split
  · simp [Upd.setsOnly, note]
  · simp [Upd.setsOnly, note]

/-- A load that ends in a state shows it, whatever its report; memory stands as before. -/
theorem loadEnd_shows {s : State} (hs : s.Wf) {v : Nat} (hv : v < 4) (code item : Nat) :
    ((s.run [.set FAB_STAT.load v]).does (loadReport code item)).rd FAB_STAT.load = v ∧
      ((s.run [.set FAB_STAT.load v]).does (loadReport code item)).mem = s.mem := by
  have hreport := loadReport_setsOnly code item (s.run [.set FAB_STAT.load v])
  obtain ⟨-, hmem, -⟩ := onlyFields_run hreport (s.run [.set FAB_STAT.load v])
  refine ⟨?_, hmem⟩
  calc ((s.run [.set FAB_STAT.load v]).does (loadReport code item)).rd FAB_STAT.load
      = v % 2 ^ FAB_STAT.load.width := rd_run_set hs (by decide) [] _ v fun u hu => (hreport u hu).keeps (by decide)
    _ = v := Nat.mod_eq_of_lt hv

/-- A load ends VERIFIED where no check of R255 finds a code and its source held no uncorrectable error, else FAILED. -/
theorem loadEnd_judges {s : State} (hs : s.Wf) : (loadEnd s).rd FAB_STAT.load =
      (if ((s.imageBad s.idleImg (s.rd V.loadLen)).or (failIf 12 (s.on V.loadUe))).isNone then LoadS.verified else LoadS.failed) ∧
    (loadEnd s).mem = s.mem := by
  unfold loadEnd
  cases (s.imageBad s.idleImg (s.rd V.loadLen)).or (failIf 12 (s.on V.loadUe)) with
  | none => exact loadEnd_shows hs (by decide) 0 0
  | some e => exact loadEnd_shows hs (by decide) e.1 e.2

theorem loadDone_judges {s : State} (hs : s.Wf) (hload : s.rd FAB_STAT.load = LoadS.loading) :
    Gives .loadDone s (fun t => t.rd FAB_STAT.load =
        (if ((s.imageBad s.idleImg (s.rd V.loadLen)).or (failIf 12 (s.on V.loadUe))).isNone then LoadS.verified else LoadS.failed) ∧
      t.mem = s.mem) :=
  ⟨_, whenever_of (beq_iff_eq.mpr hload) s _, loadEnd_judges hs⟩

theorem loadDiscard_empties {s : State} {req : Nat} (hs : s.Wf) (hreach : s.Reaches req 0x60_004C 4 2 true) :
    Gives (.loadDiscard req) s (fun t => t.rd FAB_STAT.load = LoadS.empty ∧ OnlyFields [FAB_STAT.load] s t) := by
  obtain ⟨hread, hframe⟩ := run_set_one hs (f := FAB_STAT.load) (by decide) (us := []) (by simp) (hostTraffic_setsOnly [] req true 4)
    (v := LoadS.empty) (by decide)
  rw [List.nil_append] at hread hframe
  rw [run_cons, hostTraffic_bus, apply_set_bus] at hframe
  exact ⟨_, gated_of_reaches hreach _, hread, hframe⟩

/-- Settles O40, a clause for each form: IMAGE_LOAD, LOAD_DONE and LOAD_DISCARD (R254, R255, R264). -/
theorem imageLoadCommandsTakeEffect : Obligations.ImageLoadCommandsTakeEffect := by
  unfold Obligations.ImageLoadCommandsTakeEffect
  refine ⟨?_, ?_, ?_⟩
  · intro s req hs hreach hfree
    exact imageLoad_loads hs hreach hfree
  · intro s hs hload
    exact loadDone_judges hs hload
  · intro s req hs hreach
    exact loadDiscard_empties hs hreach

end Sys2Proof.Machine
end

section
/-! What the commands of the huddle and of lockstep do: EPOCH_END to LOCKSTEP, and TIPOFF_ACK (R133, R273-R290). -/

namespace Sys2Proof.Machine

/-! One child lane in a set of lanes. -/

theorem bit_setBit_same (v i : Nat) : bit (setBit v i) i = true := by
  simp [bit, setBit, Nat.testBit_two_pow_self]

theorem bit_clearBit_same (v i : Nat) : bit (clearBit v i) i = false := by
  unfold bit clearBit
  split
  next h =>
    have hodd : v / 2 ^ i % 2 = 1 := by simpa [Nat.testBit_eq_decide_div_mod_eq] using h
    have hdiv : (v - 2 ^ i) / 2 ^ i = v / 2 ^ i - 1 := by
      simpa using Nat.sub_mul_div v (2 ^ i) 1
    rw [Nat.testBit_eq_decide_div_mod_eq, hdiv, decide_eq_false_iff_not]
    omega
  next h => simpa using h

/-! The huddle's own state of a job, and the registers of JOB that show it. -/

/-- A job that a list of updates puts, and that none after puts again. -/
theorem job_run_put {s : State} (hs : s.Wf) {j : Nat} (us : List Upd) {vs : List Upd} (r : JobRun) (h : ∀ u ∈ vs, u.keepsJob j) :
    (s.run (us ++ .job j r :: vs)).job j = r := by
  rw [run_append, run_cons, Via.job ⟨vs, h, rfl⟩, job_put_same (run_wf us hs)]

/-- A message sent on several lanes leaves every job, and every field. -/
theorem sendEach_job (s : State) (ns : List Nat) (typ : Nat) (pay : List Nat) (j : Nat) :
    (s.doEach ns (fun x => queueMsg (8 + x) typ pay)).job j = s.job j :=
  Via.job (Via.doEach (Via.refl s) fun t x _ => by simp [queueMsg, Upd.keepsJob])

theorem sendEach_rd {g : Fld} (hm : messageField g = false) (s : State) (ns : List Nat) (typ : Nat) (pay : List Nat) :
    (s.doEach ns (fun x => queueMsg (8 + x) typ pay)).rd g = s.rd g :=
  Via.rd (Via.doEach (Via.refl s) fun t x _ => by simp [queueMsg, Upd.keeps]) hm

/-- The classes of slots stand above every register of a unit, and above the scalars before them. -/
theorem slotClass_key_ne {g : Fld} (h : g.addr < 0x1_00CB_0000) (hl : g.lsb < 64) (n : Nat) : g.key ≠ (V.slotClass n).key :=
  Fld.key_ne (by dsimp only [V.slotClass, ivar]; omega) hl (Nat.zero_lt_succ _)

theorem classSlots_clears {g : Fld} (h : g.addr < 0x1_00CB_0000) (hl : g.lsb < 64) (r : JobRun) (c : Nat) :
    (classSlots r c).all (·.clears g) = true := by
  simp [classSlots, Upd.clears, slotClass_key_ne h hl]

/-! EPOCH_END (R273, R275). -/

/-- What the end of an epoch does to a descriptor leaves the mark of the epoch: it is kept, replaced by none, or replaced by a new one. -/
theorem epochJob_clears (e : Nat) {j : Nat} (hj : j < 8) (s : State) : (epochJob e j s).all (·.clears V.epochTaken) = true := by
  unfold epochJob
  extract_lets r now' nextOpen fresh c
  split_ifs
  · interval_cases j <;> rfl
  · rfl
  · interval_cases j <;> rfl
  · rw [List.all_append, classSlots_clears (by decide) (by decide), Bool.and_true]
    interval_cases j <;> rfl

theorem freeSlots_clears (s : State) : (freeSlots s).all (·.clears V.epochTaken) = true := by
  have hslot (n : Nat) : V.epochTaken.key ≠ (V.slotClass n).key := slotClass_key_ne (by decide) (by decide) n
  have hvalid : V.epochTaken.key ≠ JOB_STAT.valid.key := by decide
  simp [freeSlots, Upd.clears, hslot, hvalid]

theorem shareSum_clears {g : Fld} (hbound : g.key ≠ V.jobEnvBound.key) (hup : g.key ≠ V.jobEnvUp.key) (hdown : g.key ≠ V.jobEnvDown.key) (s : State) :
    (shareSum s).all (·.clears g) = true := by
  simp [shareSum, setB, Upd.clears, hbound, hup, hdown]

theorem epochAll_marks {s : State} (hs : s.Wf) {e : Nat} (he : e + 1 < 2 ^ 64) : (epochAll e s).rd V.epochTaken = e + 1 := by
  have hset : (s.run [.set V.epochTaken (e + 1)]).rd V.epochTaken = e + 1 := by
    have h : (s.run [.set V.epochTaken (e + 1)]).rd V.epochTaken = (e + 1) % 2 ^ 64 := rd_run_lastSet hs (by decide) rfl
    rw [h, Nat.mod_eq_of_lt he]
  have hrest : Passing (·.clears V.epochTaken) (s.run [.set V.epochTaken (e + 1)]) (epochAll e s) :=
    (((Via.refl _).doEach fun t j hj => List.all_eq_true.mp (epochJob_clears e (List.mem_range.mp hj) t)).does (List.all_eq_true.mp (freeSlots_clears _))).does
      (List.all_eq_true.mp (shareSum_clears (by decide) (by decide) (by decide) _))
  rw [Via.rd (hrest.mono fun _ => Upd.keeps_of_clears) (by decide), hset]

theorem epochEnd_marks {s : State} (hs : s.Wf) (hlong : epochTicks ≤ s.jobNow) (hnew : s.rd V.epochTaken ≠ s.endedEpoch + 1) :
    Gives .epochEnd s (fun t => t.rd V.epochTaken = s.endedEpoch + 1) := by
  have hexec : exec .epochEnd s = .next (epochAll s.endedEpoch s) := by
    show execEpochEnd s = _
    exact whenever_of (by simp [hlong, hnew]) s _
  have hnow : s.jobNow < 2 ^ 64 := Nat.mod_lt _ (Nat.two_pow_pos 64)
  refine ⟨_, hexec, epochAll_marks hs ?_⟩
  unfold State.endedEpoch epochTicks
  omega

/-! REPORT_SEND and REPORT (R276). -/

/-- A tray that counts its children's silence has had its turn in the epoch (R281). -/
theorem countMisses_sends {s : State} (hs : s.Wf) (j : Nat) : ((s.does (countMisses j)).job j).sent = true := by
  rw [does_eq, countMisses]
  exact congrArg JobRun.sent (job_run_put hs [] _ (by simp [Upd.keepsJob]))

theorem reportSend_sends {s : State} (hs : s.Wf) {j : Nat} (hj : j < 8) (hopen : s.reportOpen j = true) (hroot : (s.job j).root = false)
    (hparent : (s.job j).parent < 5)
    (hdue : epochEnd (s.job j).epoch + ((s.job j).d - s.jobDepth (s.job j)) * s.rd JOB_HOP.t_hop * 4 ≤ s.jobNow) :
    Gives (.reportSend j) s (fun t => (t.job j).sent = true ∧ Sends (8 + (s.job j).parent) TmlT.report t) := by
  have hexec : exec (.reportSend j) s = .next (reportSend j s) := by
    show execReportSend j s = _
    refine whenever_of ?_ s _
    simp only [hj, hopen, hroot, hparent, hdue, decide_true, Bool.not_false, Bool.and_self]
  exact ⟨_, hexec, countMisses_sends hs j, sends_put (run_wf _ hs) (send_queues _ _ _)⟩

/-- A child's REPORT that is in time is the last of those counted, and its lane is attached (R276, R281). -/
theorem takeReport_counts {s : State} (hs : s.Wf) {m j : Nat} {g : GotMsg} (hkey : s.jobByKey (g.msg.get 4 2) = some j)
    (hchild : bit (s.job j).children m = true) (hopen : (s.job j).sent = false) (hown : (s.job j).own.isSome = true)
    (hepoch : g.msg.get 6 2 = (s.job j).epoch % 65536) :
    ((s.does (takeReport m g)).job j).reports.getLast?.map (·.lane) = some m ∧ bit ((s.does (takeReport m g)).job j).detached m = false := by
  have htime : (!bit (s.job j).children m || (s.job j).sent || (s.job j).own.isNone || g.msg.get 6 2 != (s.job j).epoch % 65536) = false := by
    rw [← Option.not_isSome, hchild, hopen, hown, hepoch]
    simp
  rw [does_eq, takeReport, hkey]
  simp only [htime, Bool.false_eq_true, if_false]
  rw [List.singleton_append, ← List.nil_append (Upd.job j _ :: _), job_run_put hs [] _ (all_onlyIf fun _ => by simp [note, Upd.keepsJob])]
  exact ⟨by simp, bit_clearBit_same _ _⟩

theorem report_counts {s : State} (hs : s.Wf) {m j : Nat} {g : GotMsg} {l : Link} (hm : m < 5)
    (htake : (s.link (8 + m)).take? TmlT.report = some (g, l)) (hkey : s.jobByKey (g.msg.get 4 2) = some j)
    (hchild : bit (s.job j).children m = true) (hopen : (s.job j).sent = false) (hown : (s.job j).own.isSome = true)
    (hepoch : g.msg.get 6 2 = (s.job j).epoch % 65536) :
    Gives (.report m) s (fun t => (t.job j).reports.getLast?.map (·.lane) = some m ∧ bit (t.job j).detached m = false) :=
  ⟨_, withLane_next hm htake fun g t => t.does (takeReport m g), takeReport_counts (run_wf _ hs) hkey hchild hopen hown hepoch⟩

/-! CHILD_DETACH (R281). -/

theorem childDetach_detaches {s : State} (hs : s.Wf) {j m : Nat} (hj : j < 8) (hvalid : (s.job j).valid = true)
    (hchild : bit (s.job j).children m = true) (hin : bit (s.job j).detached m = false) (hsilent : 0 < tableGet 0 (s.job j).silent m)
    (hlimit : (s.job j).missLimit ≤ tableGet 0 (s.job j).silent m) :
    Gives (.childDetach j m) s (fun t => bit (t.job j).detached m = true ∧ t.rd JOB_EVT.member = 1 ∧ Raised Ty.JOB_MEMBER t) := by
  have hexec : exec (.childDetach j m) s = .next (s.does (childDetach j m)) := by
    show execChildDetach j m s = _
    refine whenever_of ?_ s _
    simp only [hj, hvalid, hchild, hin, hsilent, hlimit, decide_true, Bool.not_false, Bool.and_self]
  refine ⟨_, hexec, ?_, ?_, raised_emit _ _⟩
  all_goals rw [does_eq, childDetach]
  · rw [← List.nil_append (Upd.job j _ :: _), job_run_put hs [] _ (by simp [note, Upd.keepsJob])]
    exact bit_setBit_same _ _
  · refine rd_run_sets hs (by decide) [_] 1 ?_
    interval_cases j <;> rfl

/-! HUDDLE_DECIDE and RESULT (R277, R278). -/

/-- A slot's tip-off is a message on its link, if anything (R284). -/
theorem tipSlot_keepsJob (j i barrier t n : Nat) (s : State) : ∀ u ∈ (tipSlot i barrier t n s).1, u.keepsJob j := by
  unfold tipSlot
  extract_lets x p l l'
  split
  · simp
  · split
    · simp [Upd.keepsJob]
    · simp

theorem tipOff_keepsJob (j i : Nat) (res : JobResult) (s : State) : ∀ u ∈ tipOff i res s, u.keepsJob j := by
  unfold tipOff
  refine all_append (all_append (all_append (all_append (fun u hu => ?_) ?_) ?_) ?_) ?_
  · obtain ⟨x, hx, hux⟩ := List.mem_flatMap.mp hu
    obtain ⟨n, -, rfl⟩ := List.mem_map.mp hx
    exact tipSlot_keepsJob j i res.barrier res.tipT n s u hux
  · simp [tipRec, note, Upd.keepsJob]
  all_goals exact all_onlyIf fun _ => by simp [tipRec, note, Upd.keepsJob]

/-- A RESULT that is acted on is the job's, and comes into force at its time (R278). -/
theorem takeResult_takes {s : State} (hs : s.Wf) (j : Nat) (res : JobResult) :
    (takeResult j res s).job j = { s.job j with taken := true, due := some res, noResult := 0 } := by
  unfold takeResult
  extract_lets r agg changed t u v
  have ht : t.job j = { r with taken := true, due := some res, noResult := 0 } := job_run_put hs [] _ (by simp [Upd.keepsJob])
  have hu : Via (Upd.keepsJob j) t u := by
    refine Via.ite (fun _ => (Via.refl t).run (by simp [bump, Upd.keepsJob])) fun _ => Via.doEach ?_ fun x n _ => by simp [sendFreq, Upd.keepsJob]
    exact (Via.refl t).run (by simp [Upd.keepsJob])
  have hv : Via (Upd.keepsJob j) t v := hu.run (all_onlyIf fun _ => by simp [note, Upd.keepsJob])
  rw [← ht]
  exact Via.job (Via.ite (fun _ => hv.does (tipOff_keepsJob j j res v)) fun _ => hv)

theorem relayResult_job {s : State} (hs : s.Wf) (j : Nat) (m : Msg) : (relayResult j m s).job j = { s.job j with relay := some m } := by
  unfold relayResult
  rw [sendEach_job]
  exact job_put_same hs _ _

theorem relayResult_wf {s : State} (hs : s.Wf) (j : Nat) (m : Msg) : (relayResult j m s).Wf :=
  Via.wf (P := fun _ => True) (Via.doEach ((Via.refl s).run (by simp)) (by simp)) hs

/-- The root takes its own decision, and has reported by it (R277). -/
theorem huddleDecide_takes {s : State} (hs : s.Wf) (j : Nat) :
    ((huddleDecide j s).job j).taken = true ∧ ((huddleDecide j s).job j).due.isSome = true ∧ ((huddleDecide j s).job j).sent = true := by
  unfold huddleDecide
  extract_lets t r a all fires prev res
  have ht : t.Wf := run_wf _ hs
  rw [takeResult_takes (relayResult_wf ht j _), relayResult_job ht]
  exact ⟨rfl, rfl, countMisses_sends hs j⟩

theorem huddleDecide_decides {s : State} (hs : s.Wf) {j : Nat} (hj : j < 8) (hopen : s.reportOpen j = true) (hroot : (s.job j).root = true)
    (hdue : epochEnd (s.job j).epoch + (s.job j).d * s.rd JOB_HOP.t_hop * 4 ≤ s.jobNow) :
    Gives (.huddleDecide j) s (fun t => (t.job j).taken = true ∧ (t.job j).due.isSome = true ∧ (t.job j).sent = true) := by
  have hexec : exec (.huddleDecide j) s = .next (huddleDecide j s) := by
    show execHuddleDecide j s = _
    refine whenever_of ?_ s _
    simp only [hj, hopen, hroot, hdue, decide_true, Bool.and_self]
  exact ⟨_, hexec, huddleDecide_takes hs j⟩

/-- A RESULT of the epoch under way is taken, forwarded before or now (R278). -/
theorem resultDecoded_takes {s : State} (hs : s.Wf) {m j : Nat} {g : GotMsg} (hkey : s.jobByKey (g.msg.get 4 2) = some j)
    (hparent : (s.job j).parent = m) (hepoch : g.msg.get 6 2 = (s.job j).epoch % 65536) (htaken : (s.job j).taken = false)
    (hlost : (s.job j).lost = false) (hown : (s.job j).own.isSome = true) :
    ((resultDecoded m g s).job j).taken = true ∧ ((resultDecoded m g s).job j).due = some (resultOf (s.job j).epoch g.msg) := by
  unfold resultDecoded
  simp only [hkey, hparent, hepoch, htaken, hlost, hown, ne_eq, not_true, if_false, decide_true, Bool.not_false, Bool.and_self, if_true]
  have ht : (if (s.job j).relay = some g.msg then s else relayResult j g.msg s).Wf := by
    split
    · exact hs
    · exact relayResult_wf hs j g.msg
  rw [takeResult_takes ht]
  exact ⟨rfl, rfl⟩

theorem result_takes {s : State} (hs : s.Wf) {m j : Nat} {g : GotMsg} {l : Link} (hm : m < 5)
    (htake : (s.link (8 + m)).take? TmlT.result = some (g, l)) (hkey : s.jobByKey (g.msg.get 4 2) = some j) (hparent : (s.job j).parent = m)
    (hepoch : g.msg.get 6 2 = (s.job j).epoch % 65536) (htaken : (s.job j).taken = false) (hlost : (s.job j).lost = false)
    (hown : (s.job j).own.isSome = true) :
    Gives (.result m) s (fun t => (t.job j).taken = true ∧ (t.job j).due = some (resultOf (s.job j).epoch g.msg)) :=
  ⟨_, withLane_next hm htake (resultDecoded m), resultDecoded_takes (run_wf _ hs) hkey hparent hepoch htaken hlost hown⟩

/-! RESULT_APPLY and RESULT_LOST (R278, R279). -/

/-- What a RESULT in force shows, beside its decision and its epoch, where it does not hold. -/
def inForce (j : Nat) (r : JobRun) (res : JobResult) (up down : Nat) : List Upd :=
  [.set (JOB_JRES.index j) res.index, .set (JOB_JRES.class_ j) res.cls, .set (JOB_JSHARE.up j) (min 0xFFFF up), .set (JOB_JSHARE.down j) (min 0xFFFF down)] ++
    classSlots r res.cls

theorem inForce_keepsJob (i j : Nat) (r : JobRun) (res : JobResult) (up down : Nat) : ∀ u ∈ inForce j r res up down, u.keepsJob i :=
  all_append (by simp [Upd.keepsJob]) (by simp [classSlots, Upd.keepsJob])

theorem inForce_clears {j : Nat} (hj : j < 8) (r : JobRun) (res : JobResult) (up down : Nat) :
    (inForce j r res up down).all (·.clears (JOB_JEPOCH.epoch j)) = true := by
  have hclass : (classSlots r res.cls).all (·.clears (JOB_JEPOCH.epoch j)) = true :=
    classSlots_clears (by dsimp only [JOB_JEPOCH.epoch]; omega) (Nat.zero_lt_succ _) r res.cls
  rw [inForce, List.all_append, hclass, Bool.and_true]
  interval_cases j <;> rfl

theorem resultApply_writes {s : State} {j : Nat} {res : JobResult} (hres : (s.job j).due = some res) : ∃ (r : JobRun) (up down : Nat), r.due = none ∧
    resultApply j s = (s.run ([.job j r, setB (JOB_JRES.decision j) res.hold] ++ .set (JOB_JEPOCH.epoch j) res.epoch ::
      onlyIf (!res.hold) (inForce j (s.job j) res up down))).does shareSum := by
  unfold resultApply
  simp only [hres]
  refine ⟨_, _, _, ?_, rfl⟩
  split <;> rfl

/-- A RESULT in force is due no more, and its epoch is shown (R278). -/
theorem resultApply_clears_due {s : State} (hs : s.Wf) {j : Nat} (hj : j < 8) {res : JobResult} (hres : (s.job j).due = some res) :
    ((resultApply j s).job j).due = none ∧ (resultApply j s).rd (JOB_JEPOCH.epoch j) = res.epoch % 2 ^ (JOB_JEPOCH.epoch j).width := by
  obtain ⟨r, up, down, hnone, heq⟩ := resultApply_writes hres
  have hmsg : messageField (JOB_JEPOCH.epoch j) = false :=
    messageField_register (by dsimp only [JOB_JEPOCH.epoch]; omega) (Nat.zero_lt_succ _)
  have hshare (t : State) : (shareSum t).all (·.clears (JOB_JEPOCH.epoch j)) = true := by
    refine shareSum_clears ?_ ?_ ?_ t
    all_goals interval_cases j <;> decide
  rw [heq]
  constructor
  · have hkept (t : State) : (t.does shareSum).job j = t.job j := Via.job ((Via.refl t).does (by simp [shareSum, setB, Upd.keepsJob]))
    rw [hkept, ← hnone]
    refine congrArg JobRun.due (job_run_put hs [] r ?_)
    exact List.forall_mem_cons.mpr ⟨trivial, List.forall_mem_cons.mpr ⟨trivial, all_onlyIf fun _ => inForce_keepsJob j j _ _ _ _⟩⟩
  · rw [does_eq, rd_run_clear hmsg (hshare _)]
    exact rd_run_sets hs hmsg _ _ (onlyIf_clears (inForce_clears hj _ _ _ _) _)

theorem resultApply_applies {s : State} (hs : s.Wf) {j : Nat} {res : JobResult} (hj : j < 8) (hres : (s.job j).due = some res)
    (hdue : applyAtOf res.epoch ≤ s.jobNow) :
    Gives (.resultApply j) s (fun t => (t.job j).due = none ∧ t.rd (JOB_JEPOCH.epoch j) = res.epoch % 2 ^ (JOB_JEPOCH.epoch j).width) := by
  have hexec : exec (.resultApply j) s = .next (resultApply j s) := by
    show execResultApply j s = _
    refine whenever_of ?_ s _
    simp only [hj, hres, hdue, decide_true, Bool.and_self]
  exact ⟨_, hexec, resultApply_clears_due hs hj hres⟩

theorem resultLost_gives_up {s : State} (hs : s.Wf) {j : Nat} (hj : j < 8) (hvalid : (s.job j).valid = true) (hown : (s.job j).own.isSome = true)
    (hroot : (s.job j).root = false) (htaken : (s.job j).taken = false) (hlost : (s.job j).lost = false)
    (hlate : epochEnd (s.job j).epoch + 144000 ≤ s.jobNow) :
    Gives (.resultLost j) s (fun t => (t.job j).lost = true ∧ t.rd JOB_EVT.lost = 1) := by
  have hexec : exec (.resultLost j) s = .next (s.does (resultLost j)) := by
    show execResultLost j s = _
    refine whenever_of ?_ s _
    simp only [hj, hvalid, hown, hroot, htaken, hlost, hlate, decide_true, Bool.not_false, Bool.and_self]
  refine ⟨_, hexec, ?_, ?_⟩
  all_goals rw [does_eq, resultLost]
  · refine congrArg JobRun.lost (job_run_put hs [] _ ?_)
    exact List.forall_mem_cons.mpr ⟨trivial, all_onlyIf fun _ => by simp [Upd.keepsJob]⟩
  · refine rd_run_sets hs (by decide) [_] 1 (onlyIf_clears ?_ _)
    interval_cases j <;> rfl

/-! TRIGGER (R287). -/

/-- A TRIGGER not passed on before is remembered, raises its event, and names the job time of the capture. -/
theorem takeTrigger_passes {s : State} (hs : s.Wf) {m j : Nat} {g : GotMsg} (hkey : s.jobByKey (g.msg.get 16 2) = some j)
    (hnew : (s.job j).triggers.contains (g.msg.get 8 8) = false) :
    (takeTrigger m g s).rd JOB_EVT.trig = 1 ∧ (takeTrigger m g s).rd V.capJobTime = g.msg.get 8 8 % 2 ^ 64 ∧
      ((takeTrigger m g s).job j).triggers.contains (g.msg.get 8 8) = true := by
  unfold takeTrigger
  simp only [hkey, hnew, Bool.false_eq_true, if_false]
  refine ⟨?_, ?_, ?_⟩
  · rw [sendEach_rd (by decide)]
    exact rd_run_lastSet (g := JOB_EVT.trig) (v := 1) hs (by decide) rfl
  · rw [sendEach_rd (by decide)]
    exact rd_run_lastSet (g := V.capJobTime) hs (by decide) rfl
  · rw [sendEach_job, ← List.nil_append (Upd.job j _ :: _), job_run_put hs [] _ (by simp [Upd.keepsJob])]
    simp

theorem trigger_passes {s : State} (hs : s.Wf) {m j : Nat} {g : GotMsg} {l : Link} (hm : m < 5)
    (htake : (s.link (8 + m)).take? TmlT.trigger = some (g, l)) (hkey : s.jobByKey (g.msg.get 16 2) = some j)
    (hnew : (s.job j).triggers.contains (g.msg.get 8 8) = false) :
    Gives (.trigger m) s (fun t => t.rd JOB_EVT.trig = 1 ∧ t.rd V.capJobTime = g.msg.get 8 8 % 2 ^ 64 ∧
      (t.job j).triggers.contains (g.msg.get 8 8) = true) :=
  ⟨_, withLane_next hm htake (takeTrigger m), takeTrigger_passes (run_wf _ hs) hkey hnew⟩

/-! LOCKSTEP (R290). -/

theorem not_leads_of_follows {s : State} (h : s.follows = true) : s.leads = false := by
  obtain ⟨-, hrole⟩ : (s.rd JOB_LSSTAT.state == 1) = true ∧ s.on JOB_LSCTL.role = true := by simpa [State.follows] using h
  simp [State.leads, hrole]

/-- A follower that has not yet a whole pass gathers what came. -/
theorem takeLock_gathers {s : State} {g : GotMsg} (hfollows : s.follows = true)
    (hpart : (s.fab.lockBytes ++ g.msg.pay).length < ceilDiv (16 + 4 * (everyRead (s.bindings s.liveImg)).length) 28 * 28) :
    (takeLock g s).fab.lockBytes = s.fab.lockBytes ++ g.msg.pay := by
  unfold takeLock
  simp only [not_leads_of_follows hfollows, hfollows, Bool.false_eq_true, if_false, if_true]
  rw [if_pos hpart]
  rfl

theorem lockstep_gathers {s : State} {m : Nat} {g : GotMsg} {l : Link} (hm : m < 5)
    (htake : (s.link (8 + m)).take? TmlT.lockstep = some (g, l)) (hlane : s.rd JOB_LSCTL.lane = m) (hfollows : s.follows = true)
    (hpart : (s.fab.lockBytes ++ g.msg.pay).length < ceilDiv (16 + 4 * (everyRead (s.bindings s.liveImg)).length) 28 * 28) :
    Gives (.lockstep m) s (fun t => t.fab.lockBytes = s.fab.lockBytes ++ g.msg.pay) := by
  have hexec : exec (.lockstep m) s = .next (takeLock g (s.run [.link (8 + m) l])) := by
    show execLockstep m s = _
    rw [execLockstep, withLane_next hm htake, rd_take, if_pos hlane]
  exact ⟨_, hexec, takeLock_gathers (s := s.run [.link (8 + m) l]) hfollows hpart⟩

/-! TIPOFF_ACK (R133). -/

/-- A tip-off that the partner answers as late is struck from those that wait, and recorded. -/
theorem tipAck_late {s : State} {n : Nat} {m : Msg} (hlate : m.get 12 1 = 2) : ∃ t, tipAck n m s =
    [.link n { s.link n with tips := (s.link n).tips.filter (fun x => !(x.job == m.get 4 1 && x.barrier == m.get 8 4)) },
      .set (SWJ_EVT.late n) 1, tipRec (m.get 4 1) 1 1 (m.get 8 4) t] := by
  simp only [tipAck, hlate]
  exact ⟨_, rfl⟩

theorem tipoffAck_answers {s : State} (hs : s.Wf) {n : Nat} {g : GotMsg} {l : Link} (hn : n < 8)
    (htake : (s.link n).take? MsgT.tipoffAck = some (g, l)) (hlate : g.msg.get 12 1 = 2) :
    Gives (.tipoffAck n) s (fun t => (t.link n).tips = l.tips.filter (fun x => !(x.job == g.msg.get 4 1 && x.barrier == g.msg.get 8 4)) ∧
      t.rd (SWJ_EVT.late n) = 1 ∧ Raised Ty.TIPOFF t) := by
  have hput : (s.run [.link n l]).link n = l := link_put_same hs n l
  have hwf : (s.run [.link n l]).Wf := run_wf _ hs
  obtain ⟨t, htips⟩ := tipAck_late (s := s.run [.link n l]) (n := n) hlate
  rw [hput] at htips
  have hexec : exec (.tipoffAck n) s = .next ((s.run [.link n l]).does (tipAck n g.msg)) := withMsg_next hn htake fun g t => t.does (tipAck n g.msg)
  rw [does_eq, htips] at hexec
  refine ⟨_, hexec, ?_, ?_, raised_emit _ _⟩
  · exact congrArg Link.tips (link_run_put hwf [] _ (by simp [tipRec, note, Upd.keepsLink]))
  · exact rd_run_sets hwf (messageField_register (by dsimp only [SWJ_EVT.late]; omega) (by dsimp only [SWJ_EVT.late]; omega)) [_] 1 rfl

/-- Settles O22, a clause for each form: EPOCH_END, REPORT_SEND, REPORT, CHILD_DETACH, HUDDLE_DECIDE, RESULT, RESULT_APPLY, RESULT_LOST, TRIGGER,
LOCKSTEP and TIPOFF_ACK (R133, R273, R276-R279, R281, R287, R290). -/
theorem jobCommandsTakeEffect : Obligations.JobCommandsTakeEffect := by
  unfold Obligations.JobCommandsTakeEffect
  refine ⟨?_, ?_, ?_, ?_, ?_, ?_, ?_, ?_, ?_, ?_, ?_⟩
  · intro s hs hlong hnew
    exact epochEnd_marks hs hlong hnew
  · intro s j hs hj hopen hroot hparent hdue
    exact reportSend_sends hs hj hopen hroot hparent hdue
  · intro s m j g l hs hm htake hkey hchild hopen hown hepoch
    exact report_counts hs hm htake hkey hchild hopen hown hepoch
  · intro s j m hs hj _ hvalid hchild hin hsilent hlimit
    exact childDetach_detaches hs hj hvalid hchild hin hsilent hlimit
  · intro s j hs hj hopen hroot hdue
    exact huddleDecide_decides hs hj hopen hroot hdue
  · intro s m j g l hs hm htake hkey hparent hepoch htaken hlost hown
    exact result_takes hs hm htake hkey hparent hepoch htaken hlost hown
  · intro s j res hs hj hres hdue
    exact resultApply_applies hs hj hres hdue
  · intro s j hs hj hvalid hown hroot htaken hlost hlate
    exact resultLost_gives_up hs hj hvalid hown hroot htaken hlost hlate
  · intro s m j g l hs hm htake hkey hnew
    exact trigger_passes hs hm htake hkey hnew
  · intro s m g l _ hm htake hlane hfollows hpart
    exact lockstep_gathers hm htake hlane hfollows hpart
  · intro s n g l hs hn htake hlate
    exact tipoffAck_answers hs hn htake hlate

end Sys2Proof.Machine
end

section
/-! SUPPORT. The keys of the sequencer's fields (R320-R322), and what leaves them: orders, the feed tile, the phase tiles and custody, whose own fields
stand at other keys. -/

namespace Sys2Proof.Machine

/-- The update sets no field at a key that `p` picks, and resets no register. -/
def Upd.spares (p : Nat → Bool) : Upd → Bool
  | .set f _ => !p f.key
  | .resetRegs _ _ | .flushVectors => false
  | _ => true

theorem Upd.spares.keeps {p : Nat → Bool} {u : Upd} (h : u.spares p = true) {g : Fld} (hg : p g.key = true) : u.keeps g := by
  cases u
  case set f v =>
    intro e
    rw [Upd.spares, ← e, hg] at h
    cases h
  case resetRegs | flushVectors => cases h
  all_goals trivial

theorem Upd.spares.fewer {p q : Nat → Bool} (hpq : ∀ k, p k = true → q k = true) {u : Upd} (h : u.spares q = true) : u.spares p = true := by
  cases u
  case set f v =>
    rw [Upd.spares, Bool.not_eq_true', Bool.eq_false_iff] at h ⊢
    exact fun hp => h (hpq _ hp)
  case resetRegs | flushVectors => cases h
  all_goals rfl

theorem Passing.rd_spares {p : Nat → Bool} {s t : State} (h : Passing (Upd.spares p) s t) {g : Fld} (hm : messageField g = false)
    (hg : p g.key = true) : t.rd g = s.rd g :=
  Via.rd (h.mono fun _ hu => Upd.spares.keeps hu hg) hm

theorem Passing.fewer {p q : Nat → Bool} (hpq : ∀ k, p k = true → q k = true) {s t : State} (h : Passing (Upd.spares q) s t) :
    Passing (Upd.spares p) s t :=
  h.mono fun _ => Upd.spares.fewer hpq

/-! The keys. -/

/-- The sequencer's registers, and its scalars that no register shows. -/
def seqKey (k : Nat) : Bool :=
  (decide (0x90_0000 * 64 ≤ k) && decide (k < 0xA0_0000 * 64)) || (decide (0x1_0090_0000 * 64 ≤ k) && decide (k < 0x1_00A0_0000 * 64)) ||
    (decide (0x1_00D5_0000 * 64 ≤ k) && decide (k < 0x1_00DA_0000 * 64))

/-- Those and the registers of the phase tiles. -/
def seqTileKey (k : Nat) : Bool := seqKey k || (decide (0x20_0000 * 64 ≤ k) && decide (k < 0x30_0000 * 64))

/-- Those of the sequencer that a group's change of state leaves: all but the groups' own registers, the events, and the rails' margins and attempts, which
begin at bit 8 (R307, R315, R320). -/
def railKey (k : Nat) : Bool :=
  seqKey k && decide (0x90_0010 * 64 ≤ k) && !(decide (0x90_0100 * 64 ≤ k) && decide (k < 0x90_1000 * 64)) && k % 64 != 8

/-- The registers among them. -/
def rampKey (k : Nat) : Bool := railKey k && decide (k < 0xA0_0000 * 64)

/-- Those registers that a group's power-down leaves too: the latches, and the rails' numbers that begin at bit 0. -/
def stopKey (k : Nat) : Bool := rampKey k && k % 64 == 0

/-- Those that a rail's fault leaves once it is counted: the rails' own of them. -/
def countKey (k : Nat) : Bool := stopKey k && decide (0x90_1000 * 64 ≤ k)

@[simp] theorem seqKey_eq_false (k : Nat) : seqKey k = false ↔ (k < 0x90_0000 * 64 ∨ 0xA0_0000 * 64 ≤ k) ∧
    (k < 0x1_0090_0000 * 64 ∨ 0x1_00A0_0000 * 64 ≤ k) ∧ (k < 0x1_00D5_0000 * 64 ∨ 0x1_00DA_0000 * 64 ≤ k) := by
  simp [seqKey, and_assoc]
  omega

@[simp] theorem seqTileKey_eq_false (k : Nat) : seqTileKey k = false ↔ seqKey k = false ∧ (k < 0x20_0000 * 64 ∨ 0x30_0000 * 64 ≤ k) := by
  simp [seqTileKey]
  omega

@[simp] theorem railKey_eq_false (k : Nat) : railKey k = false ↔
    seqKey k = false ∨ k < 0x90_0010 * 64 ∨ (0x90_0100 * 64 ≤ k ∧ k < 0x90_1000 * 64) ∨ k % 64 = 8 := by
  simp only [railKey, Bool.and_eq_false_iff, Bool.not_eq_false', Bool.and_eq_true, decide_eq_false_iff_not, decide_eq_true_eq, bne_eq_false_iff_eq,
    Nat.not_le, or_assoc]

@[simp] theorem rampKey_eq_false (k : Nat) : rampKey k = false ↔ railKey k = false ∨ 0xA0_0000 * 64 ≤ k := by
  simp only [rampKey, Bool.and_eq_false_iff, decide_eq_false_iff_not, Nat.not_lt]

@[simp] theorem stopKey_eq_false (k : Nat) : stopKey k = false ↔ rampKey k = false ∨ k % 64 ≠ 0 := by
  simp only [stopKey, Bool.and_eq_false_iff, beq_eq_false_iff_ne]

@[simp] theorem countKey_eq_false (k : Nat) : countKey k = false ↔ stopKey k = false ∨ k < 0x90_1000 * 64 := by
  simp only [countKey, Bool.and_eq_false_iff, decide_eq_false_iff_not, Nat.not_le]

theorem seqTileKey_of_seqKey (k : Nat) (h : seqKey k = true) : seqTileKey k = true := by simp [seqTileKey, h]
theorem seqKey_of_railKey (k : Nat) (h : railKey k = true) : seqKey k = true := by
  simp only [railKey, Bool.and_eq_true] at h
  tauto
theorem railKey_of_rampKey (k : Nat) (h : rampKey k = true) : railKey k = true := (Bool.and_eq_true _ _ ▸ h).1
theorem rampKey_of_stopKey (k : Nat) (h : stopKey k = true) : rampKey k = true := (Bool.and_eq_true _ _ ▸ h).1
theorem stopKey_of_countKey (k : Nat) (h : countKey k = true) : stopKey k = true := (Bool.and_eq_true _ _ ▸ h).1
theorem seqKey_of_stopKey (k : Nat) (h : stopKey k = true) : seqKey k = true :=
  seqKey_of_railKey k (railKey_of_rampKey k (rampKey_of_stopKey k h))

/-! Orders (R583). -/

section
variable {p : Nat → Bool} (hprot : p TIM_PROTSEQ.next.key = false)
include hprot

theorem numberProtect_spares (o : Order) (s : State) : (numberProtect o s).all (Upd.spares p) = true := by
  simp [numberProtect, issueOrder, acceptOrder, refuseOrder, bump, Upd.spares, hprot]

theorem issueProtectOrder_spares (blk target scope : Nat) (release : Bool) (value : Nat) (mark : Bool) (s : State) :
    (issueProtectOrder blk target scope release value mark s).all (Upd.spares p) = true := by
  simp [issueProtectOrder, numberProtect_spares hprot, Upd.spares]

variable {s₀ s : State}

theorem protectHold_spares {x : Hold} (h : Passing (Upd.spares p) s₀ s) : Passing (Upd.spares p) s₀ (protectHold x s) :=
  h.ite ((h.run rfl).does (issueProtectOrder_spares hprot _ _ _ _ _ _))

theorem protectDrop_spares {holder : Holder} {blk target scope : Nat} (h : Passing (Upd.spares p) s₀ s) :
    Passing (Upd.spares p) s₀ (protectDrop holder blk target scope s) := by
  have hrest := h.run (us := [.orders { s.orders with
    holds := s.orders.holds.filter (fun x => !(x.holder == holder && x.blk == blk && x.target == target && x.scope == scope)) }]) rfl
  exact ((hrest.does (issueProtectOrder_spares hprot _ _ _ _ _ _)).ite
    (hrest.ite (hrest.does (issueProtectOrder_spares hprot _ _ _ _ _ _)))).ite h

theorem protectDropAll_spares {holder : Holder} (h : Passing (Upd.spares p) s₀ s) : Passing (Upd.spares p) s₀ (protectDropAll holder s) :=
  h.foldl fun _ k => protectDrop_spares hprot k

theorem protectGroups_spares {holder : Holder} {gs : List Nat} (h : Passing (Upd.spares p) s₀ s) :
    Passing (Upd.spares p) s₀ (protectGroups holder gs s) :=
  h.foldl fun _ k => protectHold_spares hprot k

theorem gathered_spares {f : State → State} (h : Passing (Upd.spares p) s₀ s)
    (hf : ∀ {t}, Passing (Upd.spares p) s₀ t → Passing (Upd.spares p) s₀ (f t)) : Passing (Upd.spares p) s₀ (gathered f s) :=
  (hf h).ite ((((hf (h.run rfl)).run rfl)).foldl fun o k => k.does (numberProtect_spares hprot o))

end

theorem deciding_spares {p : Nat → Bool} (hdoubt : p V.decDoubt.key = false) {d : Bool} {f : State → State} {s₀ s : State}
    (h : Passing (Upd.spares p) s₀ s) (hf : ∀ {t}, Passing (Upd.spares p) s₀ t → Passing (Upd.spares p) s₀ (f t)) :
    Passing (Upd.spares p) s₀ (deciding d f s) := by
  have hset (v : Nat) : [Upd.set V.decDoubt v].all (Upd.spares p) = true := by simp [Upd.spares, hdoubt]
  exact ((hf (h.run (hset 1))).run (hset 0)).ite (hf h)

/-! The feed tile (R328, R332). -/

theorem fedTo_spares (c st : Nat) (s : State) (hc : c < 16) : (fedTo c st s).all (Upd.spares seqTileKey) = true := by
  simp [fedTo, fedToAt, setB, Upd.spares, Fld.key, FED_CHSTAT.state, FED_CHSTAT.pg, FED_EVT.state]
  omega

theorem followEnable_spares {c : Nat} (hc : c < 16) {s₀ s : State} (h : Passing (Upd.spares seqTileKey) s₀ s) :
    Passing (Upd.spares seqTileKey) s₀ (followEnable c s) := by
  have hready (s : State) : (fedReady c s).all (Upd.spares seqTileKey) = true := by simp [fedReady, fedTo_spares _ _ _ hc]
  have hregulate (s : State) : (fedRegulate c FedS.inrush s).all (Upd.spares seqTileKey) = true := by
    simp [fedRegulate, fedTo_spares _ _ _ hc, Upd.spares, Fld.key, ivar, V.fedSince, V.fedE, FED_CHE.e, V.fedOkAt, V.limitHit, V.energyHit]
    omega
  have hoff (s : State) : (fedOff c s).all (Upd.spares seqTileKey) = true := by
    simp [fedOff, fedTo_spares _ _ _ hc, Upd.spares, Fld.key, ivar, V.fedOffAt, V.leakAt, V.outAt, V.fedIreg]
    omega
  have hdropped : Passing (Upd.spares seqTileKey) s₀
      (s.run (onlyIf ((s.fed c == FedS.tripped || s.fed c == FedS.damaged) && !s.fedEnable c) [.set (V.fedDropped c) 1])) := by
    refine h.run ?_
    simp [Upd.spares, Fld.key, ivar, V.fedDropped]
    omega
  have hu := hdropped.does hready
  exact (hu.does hregulate).ite ((hu.does hoff).ite hu)

theorem Passing.foldl_mem {p : Upd → Bool} {α : Type} {f : State → α → State} {l : List α} {s₀ s : State} (h : Passing p s₀ s)
    (hf : ∀ a ∈ l, ∀ {t}, Passing p s₀ t → Passing p s₀ (f t a)) : Passing p s₀ (l.foldl f s) := by
  induction l generalizing s with
  | nil => exact h
  | cons a l ih => exact ih (hf a (by simp) h) fun b hb => hf b (by simp [hb])

theorem feedsFollow_spares {s₀ s : State} (h : Passing (Upd.spares seqTileKey) s₀ s) : Passing (Upd.spares seqTileKey) s₀ (feedsFollow s) :=
  h.foldl_mem fun _ hc => followEnable_spares (List.mem_range.mp hc)

theorem fedUnlatch_spares {c : Nat} (hc : c < 16) {s₀ s : State} (h : Passing (Upd.spares seqTileKey) s₀ s) :
    Passing (Upd.spares seqTileKey) s₀ (fedUnlatch c s) := by
  have hready (s : State) : (fedReady c s).all (Upd.spares seqTileKey) = true := by simp [fedReady, fedTo_spares _ _ _ hc]
  have hclear := (h.run (us := [.set FED_TRIPMAP.latch (clearBit (s.rd FED_TRIPMAP.latch) c)]) rfl).does hready
  refine Passing.ite ?_ h
  split
  · exact protectDrop_spares rfl hclear
  · exact hclear

/-! The phase tiles (R111, R114). -/

theorem cancelTips_spares (p : Nat → Bool) (n code : Nat) (s : State) : (cancelTips n code s).all (Upd.spares p) = true := by
  simp [cancelTips, tipRec, note, Upd.spares]

theorem railTo_spares {r : Nat} (hr : r < 18) (st : Nat) (s : State) : (railTo r st s).all (Upd.spares seqKey) = true := by
  have hk := railTile_lt hr
  have hj := railLocal_lt r
  simp [railTo, protClear, note, setB, cancelTips_spares, Upd.spares, Fld.key, rState, PHT_RSTAT.state, PHT_RAILCFG.lead, V.climitRun, V.ovSince,
    V.uvSince, V.vmaxSince, V.ovClamp, ivar]
  omega

theorem lt_of_mem_channels {s : State} {r c : Nat} (h : c ∈ s.railChannels r Role.working ++ s.railChannels r Role.bench) : c < 320 := by
  obtain h | h := List.mem_append.mp h
  all_goals exact lt_of_mem_railChannels h

theorem parkAll_spares (r st : Nat) (s : State) : (parkAll r st s).all (Upd.spares seqKey) = true := by
  rw [parkAll, List.all_flatMap, List.all_eq_true]
  intro c hc
  have hc := lt_of_mem_channels hc
  simp [Upd.spares, Fld.key, chState, chCmd, PHT_CHSTAT.state, PHT_CHSTAT.cmd, V.joinAt, V.repFor, V.enAt, V.zeroing, V.monLow, V.rampIn, ivar]
  omega

theorem brakeDown_spares {r : Nat} (hr : r < 18) (t : Nat) (s : State) : (brakeDown r t s).all (Upd.spares seqKey) = true := by
  have hk := railTile_lt hr
  have hj := railLocal_lt r
  simp [brakeDown, brakeRec, Upd.spares, Fld.key, PHT_RSTAT.brake, V.brakeLast, ivar]
  omega

theorem tileDisable_spares {r : Nat} (hr : r < 18) (s : State) : (railDisable r s).all (Upd.spares seqKey) = true := by
  have hgood (v : Nat) : Upd.spares seqKey (.set (V.tileGood r) v) = true := by
    simp [Upd.spares, Fld.key, V.tileGood, ivar]
    omega
  have htrip (v : Nat) : Upd.spares seqKey (.set (V.tileTrip r) v) = true := by
    simp [Upd.spares, Fld.key, V.tileTrip, ivar]
    omega
  simp [railDisable, parkAll_spares, railTo_spares hr, brakeDown_spares hr, hgood, htrip]

end Sys2Proof.Machine
end

section
/-! SUPPORT. Custody leaves the sequencer's fields where a group leaves UP (R389, R390). -/

namespace Sys2Proof.Machine

theorem driveStraps_spares (n : Nat) (s : State) : (driveStraps n s).all (Upd.spares seqKey) = true := by
  simp [driveStraps, Upd.spares, Fld.key, V.strapOut, V.bootOut, V.strapAt, ivar]
  omega

theorem assertReset_spares {n : Nat} (hn : n < 8) (cause : Nat) (s : State) : (assertReset n cause s).all (Upd.spares seqKey) = true := by
  simp [assertReset, driveStraps_spares, gateNote, note, Upd.spares, Fld.key, ACU_SSTAT.rst, ACU_SSTAT.cause, ACU_EVT.reset, V.rstAt, V.bootAt, ivar]
  omega

theorem custodyCode_spares {n : Nat} (hn : n < 8) (op code region core bytes : Nat) (s : State) :
    (custodyCode n op code region core bytes s).all (Upd.spares seqKey) = true := by
  simp [custodyCode, note, Upd.spares, Fld.key, ACU_CMDSTAT.op, ACU_CMDSTAT.code, ACU_CMDSTAT.region, ACU_EVT.custody]
  omega

theorem custodyFree_spares {n : Nat} (hn : n < 8) (s : State) : (custodyFree n s).all (Upd.spares seqKey) = true := by
  simp [custodyFree, Upd.spares, Fld.key, ACU_SSTAT.owned, V.fselAt, V.flashKnown, ivar]
  omega

theorem showCopies_spares {e : Nat} (he : e < 128) (s : State) : (showCopies e s).all (Upd.spares seqKey) = true := by
  simp [showCopies, setB, Upd.spares, Fld.key, IMG_GDESC.state, IMG_GDESC.rejected, IMG_GDESC.suspect, IMG_GDESC.skipped, IMG_GDESC.valid,
    IMG_GCOUNT.counter, IMG_GVER.version, IMG_GSVN.svn]
  omega

section
variable {s₀ s : State}

theorem moveItem_spares {c : Nat} (hc : c < 256) (i : Item) (h : Passing (Upd.spares seqKey) s₀ s) :
    Passing (Upd.spares seqKey) s₀ (moveItem 3 c i s) := by
  have hledger (s : State) : (ledgerWrite 1 (i.payload 3 c) s).all (Upd.spares seqKey) = true := by
    simp [ledgerWrite, flashStore, bump, Upd.spares, Fld.key, IMG_LEDGER.used, IMG_LSEQ.next]
  exact h.ite (((h.does hledger).run rfl).does (showCopies_spares (by omega)))

theorem retireDeferred_spares (h : Passing (Upd.spares seqKey) s₀ s) : Passing (Upd.spares seqKey) s₀ (retireDeferred s) := by
  have hbound : s.rd V.retireLater - 1 < 256 := by
    have := rd_lt s V.retireLater
    simp only [V.retireLater, ivar] at this ⊢
    omega
  exact h.ite (h.ite (moveItem_spares hbound _ (h.run rfl)))

theorem reflashPart_spares {n : Nat} (h : Passing (Upd.spares seqKey) s₀ s) : Passing (Upd.spares seqKey) s₀ (reflashPart n s) := by
  have herased := h.does (fx := eraseManifest n) fun _ => rfl
  unfold reflashPart
  extract_lets t unit
  split
  · exact herased
  · exact (herased.does fun _ => rfl).doEach fun _ _ => rfl

theorem custodyStop_spares {n : Nat} (hn : n < 8) (free : Bool) (h : Passing (Upd.spares seqKey) s₀ s) :
    Passing (Upd.spares seqKey) s₀ (custodyStop n free s) := by
  have hfields (v : Nat) : [Upd.set (ACU_CMDSTAT.busy n) 0, .set (V.cusAuto n) 0, .set (ACU_PROG.bytes n) v].all (Upd.spares seqKey) = true := by
    simp [Upd.spares, Fld.key, ACU_CMDSTAT.busy, ACU_PROG.bytes, V.cusAuto, ivar]
    omega
  unfold custodyStop
  extract_lets u bytes t
  have hu : Passing (Upd.spares seqKey) s₀ u := (reflashPart_spares h).ite h
  have ht : Passing (Upd.spares seqKey) s₀ t := (retireDeferred_spares ((hu.run (hfields bytes)).does (custodyCode_spares hn _ _ _ _ _))).ite h
  exact (ht.does (custodyFree_spares hn)).ite ht

theorem custodyGroupDown_spares (n cause : Nat) (h : Passing (Upd.spares seqKey) s₀ s) :
    Passing (Upd.spares seqKey) s₀ (custodyGroupDown n cause s) := by
  refine Via.ite (fun hn => Passing.run (custodyStop_spares hn true (h.does (assertReset_spares hn cause))) ?_) fun _ => h
  simp [attemptsAnew, Upd.spares, Fld.key, ACU_SSTAT.attempts, V.failTried, V.cusOwed, ivar]
  omega

end

theorem custodyGroupUp_spares (n : Nat) (s : State) : (custodyGroupUp n s).all (Upd.spares seqKey) = true := by
  simp [custodyGroupUp, Upd.spares, Fld.key, V.matched, V.cusOwed, ivar]
  omega

end Sys2Proof.Machine
end

section
/-! SUPPORT. Groups and their rails: what a group's change of state writes and leaves (R302-R305, R319), and a rail's fault (R306-R308). -/

namespace Sys2Proof.Machine

theorem lt_of_mem_groupRails {s : State} {g r : Nat} (h : r ∈ s.groupRails g) : r < 128 := List.mem_range.mp (List.mem_of_mem_filter h)

theorem groupOf_lt (s : State) (r : Nat) : s.groupOf r < 16 := rd_lt s (SEQ_RAILMODE.group r)

/-! A group changes state. -/

/-- What a group's change of state writes: its state, what reports it, the margins and attempts of its rails, and what custody does of it. -/
theorem all_groupTo {P : Upd → Prop} {g st : Nat} (cause : Nat) {s : State} (hemit : ∀ r, P (.emit r)) (hstate : P (.set (SEQ_GSTAT.state g) st))
    (hevt : P (.set SEQ_EVT.group 1)) (hup : ∀ v, P (.set SEQ_STAT.up v)) (hmode : ∀ r < 128, P (.set (SEQ_MARGIN.mode r) 0))
    (hcustody : ∀ u ∈ custodyGroupUp g s, P u) (hattempts : ∀ r < 128, P (.set (SEQ_RRETRY.attempts r) 0)) : ∀ u ∈ groupTo g st cause s, P u := by
  have hrails {f : Nat → Upd} (hf : ∀ r < 128, P (f r)) : ∀ u ∈ (s.groupRails g).map f, P u :=
    List.forall_mem_map.mpr fun r hr => hf r (lt_of_mem_groupRails hr)
  refine all_onlyIf fun _ => all_append (all_append (all_append ?_ ?_) ?_) ?_
  · simp [hemit, hstate, hevt, hup]
  · split
    · simp
    · exact hrails hmode
  · split
    · exact hcustody
    · simp
  · split
    · exact hrails hattempts
    · simp

theorem groupTo_spares {g : Nat} (hg : g < 16) (st cause : Nat) (s : State) : (groupTo g st cause s).all (Upd.spares railKey) = true := by
  refine List.all_eq_true.mpr (all_groupTo cause (fun _ => rfl) ?_ rfl (fun _ => rfl) (fun r hr => ?_) (fun u hu => ?_) fun r hr => ?_)
  · simp [Upd.spares, Fld.key, SEQ_GSTAT.state]
    omega
  · simp [Upd.spares, Fld.key, SEQ_MARGIN.mode]
  · exact Upd.spares.fewer seqKey_of_railKey (List.all_eq_true.mp (custodyGroupUp_spares g s) u hu)
  · simp [Upd.spares, Fld.key, SEQ_RRETRY.attempts]

theorem messageField_grp {g : Nat} (hg : g < 16) : messageField (SEQ_GSTAT.state g) = false :=
  messageField_register (by dsimp only [SEQ_GSTAT.state]; omega) (by dsimp only [SEQ_GSTAT.state]; omega)

/-- A group enters the state it is sent to. -/
theorem groupTo_state {s : State} (hs : s.Wf) {g st : Nat} (hg : g < 16) (hst : st < 8) (cause : Nat) : (s.does (groupTo g st cause)).grp g = st := by
  rw [does_eq, groupTo]
  by_cases h : s.grp g = st
  · simp [h]
  · rw [bne_iff_ne.mpr h, onlyIf_true]
    simp only [List.append_assoc]
    refine (rd_run_set_avoids hs (g := SEQ_GSTAT.state g) (messageField_grp hg) [_] st ?_).trans (Nat.mod_eq_of_lt hst)
    simp [custodyGroupUp, Upd.avoids, SEQ_GSTAT.state, SEQ_EVT.group, SEQ_STAT.up, SEQ_MARGIN.mode, SEQ_RRETRY.attempts, V.matched, V.cusOwed, ivar]

theorem groupUpCheck_spares {g : Nat} (hg : g < 16) (s : State) : (groupUpCheck g s).all (Upd.spares railKey) = true := by
  simp [groupUpCheck, groupTo_spares hg]

theorem groupSettle_spares {g : Nat} (hg : g < 16) (s : State) : (groupSettle g s).all (Upd.spares railKey) = true := by
  simp [groupSettle, groupTo_spares hg]

/-! A group's power-down (R304, R305). -/

/-- What a power-down makes of a retried rail of the group (R318). -/
def retryDown (r : Nat) (w : State) : List Upd :=
  onlyIf (w.rd (SEQ_RSTAT.state r) == SeqS.retry)
    [.set (SEQ_RSTAT.state r) (if w.on (V.falling r) then (if w.on (V.disNeed r) then SeqS.discharge else SeqS.falling) else SeqS.off), .set (V.inRetry r) 0]

/-- The state in which a group's rails take their places in the power-down. -/
def groupRampsDown (g cause : Nat) (s : State) : State :=
  ((custodyGroupDown g 2 s).run [.set (V.downCause g) cause, setB (SEQ_GSTAT.pfail g) (cause == 3), .set (SEQ_GSTAT.clock g) 0,
    .set (SEQ_GBLOCK.blocked g) 0, .set (SEQ_GBLOCK.rail g) 0]).does (groupTo g GrpS.rampDown cause)

theorem groupDown_eq (g cause : Nat) (s : State) : groupDown g cause s =
    ((groupRampsDown g cause s).doEach ((groupRampsDown g cause s).groupRails g) retryDown).does (groupSettle g) := rfl

theorem retryDown_keeps {r : Nat} {w : State} {f : Fld} (hstate : f.key ≠ (SEQ_RSTAT.state r).key) (hretry : f.key ≠ (V.inRetry r).key) :
    ∀ u ∈ retryDown r w, u.keeps f :=
  all_onlyIf fun _ => by simp [Upd.keeps, hstate, hretry]

theorem groupRampsDown_spares {g : Nat} (hg : g < 16) (cause : Nat) (s : State) : Passing (Upd.spares rampKey) s (groupRampsDown g cause s) := by
  have hcustody : Passing (Upd.spares rampKey) s (custodyGroupDown g 2 s) :=
    (custodyGroupDown_spares g 2 (Via.refl s)).fewer fun k hk => seqKey_of_railKey k (railKey_of_rampKey k hk)
  refine (hcustody.run ?_).trans (Passing.fewer railKey_of_rampKey (Passing.does (Via.refl _) (groupTo_spares hg GrpS.rampDown cause)))
  simp [setB, Upd.spares, Fld.key, SEQ_GSTAT.pfail, SEQ_GSTAT.clock, SEQ_GBLOCK.blocked, SEQ_GBLOCK.rail, V.downCause, ivar]
  omega

theorem does_groupSettle_spares {g : Nat} (hg : g < 16) {s₀ s : State} (h : Passing (Upd.spares stopKey) s₀ s) :
    Passing (Upd.spares stopKey) s₀ (s.does (groupSettle g)) :=
  h.trans (Passing.fewer (fun k hk => railKey_of_rampKey k (rampKey_of_stopKey k hk)) (Passing.does (Via.refl s) (groupSettle_spares hg)))

theorem groupDown_spares {g : Nat} (hg : g < 16) (cause : Nat) {s₀ s : State} (h : Passing (Upd.spares stopKey) s₀ s) :
    Passing (Upd.spares stopKey) s₀ (groupDown g cause s) := by
  rw [groupDown_eq]
  refine does_groupSettle_spares hg (Passing.doEach (h.trans ((groupRampsDown_spares hg cause s).fewer rampKey_of_stopKey)) fun r w => ?_)
  simp [retryDown, Upd.spares, Fld.key, SEQ_RSTAT.state, V.inRetry, ivar]
  omega

theorem stopGroup_spares {g : Nat} (hg : g < 16) (cause : Nat) {s₀ s : State} (h : Passing (Upd.spares stopKey) s₀ s) :
    Passing (Upd.spares stopKey) s₀ (stopGroup g cause s) :=
  (groupDown_spares hg cause h).ite h

/-- A group that powers down is in RAMP_DOWN, or has settled in OFF or FAULT (R305). -/
theorem groupDown_down {s : State} (hs : s.Wf) {g : Nat} (hg : g < 16) (cause : Nat) :
    (groupDown g cause s).grp g ≠ GrpS.rampUp ∧ (groupDown g cause s).grp g ≠ GrpS.up := by
  have hbegun := run_wf [.set (V.downCause g) cause, setB (SEQ_GSTAT.pfail g) (cause == 3), .set (SEQ_GSTAT.clock g) 0, .set (SEQ_GBLOCK.blocked g) 0,
    .set (SEQ_GBLOCK.rail g) 0] ((custodyGroupDown_spares g 2 (Via.refl s)).wf hs)
  have hramps : (groupRampsDown g cause s).grp g = GrpS.rampDown := groupTo_state hbegun hg (by decide) cause
  have ht : (groupRampsDown g cause s).Wf := run_wf _ hbegun
  rw [groupDown_eq]
  generalize groupRampsDown g cause s = t at hramps ht
  have hrails : (t.doEach (t.groupRails g) retryDown).grp g = GrpS.rampDown := by
    rw [← hramps]
    refine Via.rd (Via.doEach (Via.refl t) fun w r _ => retryDown_keeps ?_ ?_) (messageField_grp hg)
    · simp only [Fld.key, SEQ_GSTAT.state, SEQ_RSTAT.state]
      omega
    · simp only [Fld.key, SEQ_GSTAT.state, V.inRetry, ivar]
      omega
  have hu : (t.doEach (t.groupRails g) retryDown).Wf := (Via.doEach (P := fun _ => True) (Via.refl t) fun _ _ _ _ _ => trivial).wf ht
  generalize t.doEach (t.groupRails g) retryDown = u at hrails hu
  have henters {st : Nat} (hst : st < 8) (cause : Nat) : (u.run (groupTo g st cause u)).grp g = st := groupTo_state hu hg hst cause
  rw [does_eq, groupSettle]
  split_ifs
  · rw [henters (by decide)]
    decide
  · rw [henters (by decide)]
    decide
  · rw [run_nil, hrails]
    decide

theorem messageField_rstat {r lsb : Nat} (hr : r < 128) (hl : lsb < 64) (w reset : Nat) : messageField ⟨0x901020 + 0x40 * r, lsb, w, reset⟩ = false :=
  messageField_register (by dsimp only; omega) hl

/-- A rail that is not being retried keeps its state in its group's power-down. -/
theorem retriesDown_rail {r : Nat} (hr : r < 128) (l : List Nat) {t : State} (hstate : t.rd (SEQ_RSTAT.state r) ≠ SeqS.retry) :
    (t.doEach l retryDown).rd (SEQ_RSTAT.state r) = t.rd (SEQ_RSTAT.state r) := by
  induction l generalizing t with
  | nil => rfl
  | cons q l ih =>
    have hone : (t.does (retryDown q)).rd (SEQ_RSTAT.state r) = t.rd (SEQ_RSTAT.state r) := by
      by_cases hq : q = r
      · subst hq
        rw [does_eq, retryDown, beq_false_of_ne hstate]
        rfl
      · refine rd_run_keeps (messageField_rstat hr (by omega) _ _) (retryDown_keeps ?_ ?_)
        · simp only [Fld.key, SEQ_RSTAT.state]
          omega
        · simp only [Fld.key, V.inRetry, ivar]
          omega
    exact (ih (hone ▸ hstate)).trans hone

theorem stopGroup_rail {s : State} {g : Nat} (hg : g < 16) (cause : Nat) {r : Nat} (hr : r < 128) (hstate : s.rd (SEQ_RSTAT.state r) ≠ SeqS.retry) :
    (stopGroup g cause s).rd (SEQ_RSTAT.state r) = s.rd (SEQ_RSTAT.state r) := by
  have hm : messageField (SEQ_RSTAT.state r) = false := messageField_rstat hr (by omega) _ _
  have hkey : rampKey (SEQ_RSTAT.state r).key = true := by
    rw [← Bool.not_eq_false]
    simp [Fld.key, SEQ_RSTAT.state]
    omega
  have hramps := (groupRampsDown_spares hg cause s).rd_spares hm hkey
  unfold stopGroup
  split
  · rw [groupDown_eq]
    calc _ = ((groupRampsDown g cause s).doEach ((groupRampsDown g cause s).groupRails g) retryDown).rd (SEQ_RSTAT.state r) :=
          Passing.rd_spares (Passing.does (Via.refl _) (groupSettle_spares hg)) hm (railKey_of_rampKey _ hkey)
      _ = (groupRampsDown g cause s).rd (SEQ_RSTAT.state r) := retriesDown_rail hr _ (hramps ▸ hstate)
      _ = s.rd (SEQ_RSTAT.state r) := hramps
  · rfl

/-! A rail's fault (R306-R308). -/

theorem regOf_lt {s : State} {r q : Nat} (h : s.regOf? r = some q) : q < 18 := by
  unfold State.regOf? at h
  split at h
  next hq =>
    obtain rfl := Option.some.inj h
    simp only [Bool.and_eq_true, decide_eq_true_eq] at hq
    exact hq.2
  next => cases h

theorem deassertRail_spares (r st : Nat) (s : State) : (deassertRail r st s).all (Upd.spares stopKey) = true := by
  unfold deassertRail
  split
  · rw [List.all_append, Bool.and_eq_true]
    constructor
    · simp [Upd.spares, Fld.key, SEQ_RSTAT.state, SEQ_RSTAT.en, V.seqOffAt, V.falling, V.qualAt, ivar]
      omega
    · split
      next q hq =>
        exact List.all_eq_true.mpr fun u hu =>
          Upd.spares.fewer seqKey_of_stopKey (List.all_eq_true.mp (tileDisable_spares (regOf_lt hq) s) u hu)
      next => rfl
  · simp [Upd.spares, Fld.key, SEQ_RSTAT.state]

theorem latchFault_spares {r : Nat} (hr : r < 128) (cause : Nat) (s : State) : (latchFault r cause s).all (Upd.spares countKey) = true := by
  simp [latchFault, Upd.spares, Fld.key, SEQ_FAULTMAP.latch, SEQ_EVT.fault, SEQ_FIRST.valid, SEQ_FIRST.rail, SEQ_FIRST.cause, SEQ_FIRST.state, SEQ_FIRST.group,
    SEQ_FIRSTT.stamp, SEQ_EVT.first]
  omega

theorem startRetry_spares (r : Nat) (s : State) : (startRetry r s).all (Upd.spares countKey) = true := by
  have hrail : (deassertRail r SeqS.retry s).all (Upd.spares countKey) = true :=
    List.all_eq_true.mpr fun u hu => Upd.spares.fewer stopKey_of_countKey (List.all_eq_true.mp (deassertRail_spares r SeqS.retry s) u hu)
  rw [startRetry, List.all_append, hrail, Bool.and_true]
  simp [railNote, Upd.spares, Fld.key, SEQ_RRETRY.attempts, SEQ_EVT.retry, V.inRetry, V.fallenAt, ivar]
  omega

theorem faultShutdown_spares {r : Nat} (hr : r < 128) (cause : Nat) {s₀ s : State} (h : Passing (Upd.spares countKey) s₀ s) :
    Passing (Upd.spares countKey) s₀ (faultShutdown r cause s) := by
  refine gathered_spares rfl h fun {a} ha => deciding_spares rfl ha fun {b} hb => ?_
  have hg := groupOf_lt b r
  have hstop {s t : State} (hst : Passing (Upd.spares stopKey) s t) : Passing (Upd.spares countKey) s t := hst.fewer stopKey_of_countKey
  extract_lets g pol t u w
  have ht : Passing (Upd.spares countKey) s₀ t := (hb.does (latchFault_spares hr cause)).trans (hstop (Passing.does (Via.refl _) (deassertRail_spares r _)))
  have hretry : Passing (Upd.spares stopKey) t (t.run [.set (V.inRetry r) 0]) := by
    refine Passing.run (Via.refl t) ?_
    simp [Upd.spares, Fld.key, V.inRetry, ivar]
    omega
  have hu : Passing (Upd.spares stopKey) t u := protectGroups_spares rfl (stopGroup_spares hg 1 hretry)
  have hw : Passing (Upd.spares countKey) s₀ w := ht.trans (hstop (does_groupSettle_spares hg hu))
  refine Passing.ite (protectGroups_spares rfl (hw.run ?_)) hw
  simp [Upd.spares, Fld.key, V.sysRail, V.sysDownAt, ivar]

theorem railFaults_spares {r : Nat} (hr : r < 128) (cause : Nat) (ups : Bool) (s : State) :
    Passing (Upd.spares countKey) (s.does (countFault r cause)) (railFaults r cause ups s) := by
  refine Passing.ite (Passing.run (Via.refl _) ?_) (Passing.ite (Passing.does (Via.refl _) (startRetry_spares r)) (faultShutdown_spares hr cause (Via.refl _)))
  simp [Upd.spares, Fld.key, SEQ_RSTAT.state, SEQ_EVT.fault, V.qualAt, ivar]
  omega

/-- A rail's fault is counted, with its cause (R306). -/
theorem countFault_counts {s : State} (hs : s.Wf) {r : Nat} (hr : r < 128) {cause : Nat} (hcause : cause < 16) :
    (s.does (countFault r cause)).rd (SEQ_RFAULTS.count r) = (s.rd (SEQ_RFAULTS.count r) + 1) % 2 ^ (SEQ_RFAULTS.count r).width ∧
      (s.does (countFault r cause)).rd (SEQ_RRETRY.cause r) = cause := by
  constructor
  · refine rd_run_sets hs (messageField_register (by dsimp only [SEQ_RFAULTS.count]; omega) (by dsimp only [SEQ_RFAULTS.count]; omega)) [] _ ?_
    simp [Upd.clears, railNote, Fld.key, SEQ_RFAULTS.count, SEQ_RRETRY.cause]
  · refine (rd_run_sets hs (messageField_register (by dsimp only [SEQ_RRETRY.cause]; omega) (by dsimp only [SEQ_RRETRY.cause]; omega)) [_] cause ?_).trans
      (Nat.mod_eq_of_lt hcause)
    rfl

/-- A fault that follows its count by updates that leave the rails' counts is counted in the end. -/
theorem counted {s t : State} (hs : s.Wf) {r : Nat} (hr : r < 128) {cause : Nat} (hcause : cause < 16)
    (h : Passing (Upd.spares countKey) (s.does (countFault r cause)) t) :
    t.rd (SEQ_RFAULTS.count r) = (s.rd (SEQ_RFAULTS.count r) + 1) % 2 ^ (SEQ_RFAULTS.count r).width ∧ t.rd (SEQ_RRETRY.cause r) = cause := by
  obtain ⟨hcount, hshown⟩ := countFault_counts hs hr hcause
  refine ⟨(h.rd_spares ?_ ?_).trans hcount, (h.rd_spares ?_ ?_).trans hshown⟩
  · exact messageField_register (by dsimp only [SEQ_RFAULTS.count]; omega) (by dsimp only [SEQ_RFAULTS.count]; omega)
  · rw [← Bool.not_eq_false]
    simp [Fld.key, SEQ_RFAULTS.count]
    omega
  · exact messageField_register (by dsimp only [SEQ_RRETRY.cause]; omega) (by dsimp only [SEQ_RRETRY.cause]; omega)
  · rw [← Bool.not_eq_false]
    simp [Fld.key, SEQ_RRETRY.cause]
    omega

end Sys2Proof.Machine
end

section
/-! What the commands of a rail that comes up do: RAIL_ENABLE to RETRY_REENABLE (R299, R301, R303, R307). -/

namespace Sys2Proof.Machine

/-! The rail's own fields. -/

theorem messageField_rail_scalar {id r : Nat} (hid : id < 0x152) (hr : r < 128) (w reset : Nat) : messageField (ivar id r w reset) = false :=
  messageField_scalar hid (by omega) w reset

/-- Fields of a rail's status and counts are the sequencer's, and no group's change of state writes them. -/
theorem railKey_rstat {r lsb : Nat} (hr : r < 128) (hl : 9 ≤ lsb ∧ lsb < 64) (w reset : Nat) :
    railKey (Fld.key ⟨0x901020 + 0x40 * r, lsb, w, reset⟩) = true := by
  rw [← Bool.not_eq_false]
  simp [Fld.key]
  omega

theorem seqTileKey_rstat {r lsb : Nat} (hr : r < 128) (hl : 9 ≤ lsb ∧ lsb < 64) (w reset : Nat) :
    seqTileKey (Fld.key ⟨0x901020 + 0x40 * r, lsb, w, reset⟩) = true :=
  seqTileKey_of_seqKey _ (seqKey_of_railKey _ (railKey_rstat hr hl w reset))

/-! RAIL_ENABLE and RETRY_REENABLE (R303, R307). -/

theorem requalify_keeps {r : Nat} {f : Fld} (hf : f.key ≠ (V.qualAt r).key) (s : State) : ∀ u ∈ requalify r s, u.keeps f := by
  have hset (v : Nat) : ∀ u ∈ [Upd.set (V.qualAt r) v], u.keeps f := List.forall_mem_singleton.mpr hf
  unfold requalify
  split
  · exact all_onlyIf fun _ => hset _
  · exact all_onlyIf fun _ => hset _

/-- A regulated rail's soft start wakes its channels before its state moves. -/
def softStartWakes (q : Nat) (s : State) : List Upd :=
  (s.railChannels q Role.working ++ s.railChannels q Role.bench).flatMap
    (fun c => .set (chState c) ChS.parked :: .set (V.pulseN c) 0 :: wakeChannel c s)

/-- What a soft start sets afresh once the rail's state has moved (R111). -/
def softStartFresh (q : Nat) (s : State) : List Upd :=
  [.set (V.vpre q) (s.rd (V.vsense q)), .set (V.vbase q) (16 * s.rd (V.vsense q)), .set (V.acc q) 0, .set (V.ePrev q) 0,
   .set (V.ssSince q) 0, .set (V.rampOn q) 0, .set (V.rampDone q) 0, .set (V.pulseCh q) 0, .set (V.pulseAt q) 0, .set (V.rampQ q) 0,
   setB (V.rampHeld q) (match railSlot? q with | some n => s.rd (ACU_SSTAT.rst n) == 1 | none => false), .set (V.tileGood q) 0, .set (V.foldSince q) 0,
   .set (V.surveyHold q) 0, .set (rNact q) (s.railChannels q Role.working).length]

theorem softStart_eq (q : Nat) (s : State) :
    softStart q s = (s.run (softStartWakes q s ++ railTo q RailS.softstart s ++ softStartFresh q s)).does (recount q) := rfl

theorem softStart_spares {q : Nat} (hq : q < 18) (s : State) : Passing (Upd.spares seqKey) s (softStart q s) := by
  have hk := railTile_lt hq
  have hj := railLocal_lt q
  have hwakes : (softStartWakes q s).all (Upd.spares seqKey) = true := by
    rw [softStartWakes, List.all_flatMap, List.all_eq_true]
    intro c hc
    have hc := lt_of_mem_channels hc
    simp [wakeChannel, Upd.spares, Fld.key, chState, PHT_CHSTAT.state, V.pulseN, V.enAt, V.zeroing, V.zeroN, V.zeroSum, V.zeroDone, ivar]
    omega
  have hfresh : (softStartFresh q s).all (Upd.spares seqKey) = true := by
    simp [softStartFresh, setB, Upd.spares, Fld.key, rNact, PHT_RSTAT.nact, V.vpre, V.vbase, V.acc, V.ePrev, V.ssSince, V.rampOn, V.rampDone, V.pulseCh,
      V.pulseAt, V.rampQ, V.rampHeld, V.tileGood, V.foldSince, V.surveyHold, ivar]
    omega
  have hcount (t : State) : (recount q t).all (Upd.spares seqKey) = true := by
    simp [recount, Upd.spares, Fld.key, rNwork, rNbench, PHT_RAILCFG.nwork, PHT_RSTAT.nbench]
    omega
  rw [softStart_eq]
  exact Passing.does (Passing.run (Via.refl s) (by simp [hwakes, hfresh, railTo_spares hq])) hcount

/-- A rail whose soft start begins is in SOFTSTART, whether it moved there or stood there (R111). -/
theorem softStart_state {s : State} (hs : s.Wf) {q : Nat} (hq : q < 18) : (softStart q s).rd (rState q) = RailS.softstart := by
  have hwakes : (softStartWakes q s).all (Upd.avoids [29]) = true := by
    simp [softStartWakes, wakeChannel, Upd.avoids, chState, PHT_CHSTAT.state, V.pulseN, V.enAt, V.zeroing, V.zeroN, V.zeroSum, V.zeroDone, ivar]
  have hfresh : (softStartFresh q s).all (Upd.avoids [29]) = true := by
    simp [softStartFresh, setB, Upd.avoids, rNact, PHT_RSTAT.nact, V.vpre, V.vbase, V.acc, V.ePrev, V.ssSince, V.rampOn, V.rampDone, V.pulseCh,
      V.pulseAt, V.rampQ, V.rampHeld, V.tileGood, V.foldSince, V.surveyHold, ivar]
  have hcount (t : State) : (recount q t).all (Upd.avoids [29]) = true := by
    simp [recount, Upd.avoids, rNwork, rNbench, PHT_RAILCFG.nwork, PHT_RSTAT.nbench]
  rw [softStart_eq]
  by_cases hstate : s.rd (rState q) = RailS.softstart
  · have hstay : (railTo q RailS.softstart s).all (Upd.avoids [29]) = true := by
      simp [railTo, hstate, protClear, cancelTips_avoids, Upd.avoids, V.ovSince, V.uvSince, V.vmaxSince, V.ovClamp, ivar]
    refine (Passing.rd_avoids (bs := [29]) (Passing.does (Passing.run (Via.refl s) ?_) hcount) (messageField_rState hq) rfl).trans hstate
    simp [hwakes, hfresh, hstay]
  · refine (Passing.rd_avoids (bs := [29]) (Passing.does (Via.refl _) hcount) (messageField_rState hq) rfl).trans ?_
    rw [List.append_assoc, run_append]
    exact railTo_state (run_wf _ hs) hq hstate hfresh

/-- The fields of a rail as its enable is asserted (R303). -/
def railEnabled (r : Nat) (s : State) : State :=
  s.run [.set (SEQ_RSTAT.en r) 1, .set (SEQ_RSTAT.state r) SeqS.qualify, .set (V.seqOnAt r) (s.boundary + 1), .set (V.qualAt r) 0,
    .set (V.falling r) 0, .set (V.disNeed r) 0]

theorem railEnabled_rail {s : State} (hs : s.Wf) {r : Nat} (hr : r < 128) :
    (railEnabled r s).rd (SEQ_RSTAT.en r) = 1 ∧ (railEnabled r s).rd (SEQ_RSTAT.state r) = SeqS.qualify := by
  constructor
  · refine rd_run_sets hs (messageField_rstat hr (by omega) _ _) [] 1 ?_
    simp [Upd.clears, Fld.key, SEQ_RSTAT.state, V.seqOnAt, V.qualAt, V.falling, V.disNeed, ivar]
    omega
  · refine rd_run_sets hs (messageField_rstat hr (by omega) _ _) [_] SeqS.qualify ?_
    simp [Upd.clears, Fld.key, V.seqOnAt, V.qualAt, V.falling, V.disNeed, ivar]
    omega

/-- What follows a rail's start at its tile leaves the sequencer's fields but the time of qualification, and the tiles' registers. -/
theorem rd_enableRail_end {t : State} {r : Nat} {f : Fld} (hm : messageField f = false) (hkey : seqTileKey f.key = true) (hqual : f.key ≠ (V.qualAt r).key) :
    (feedsFollow (t.does (requalify r))).rd f = t.rd f :=
  ((feedsFollow_spares (Via.refl _)).rd_spares hm hkey).trans (rd_run_keeps hm (requalify_keeps hqual t))

/-- A rail that is enabled has its enable and is in QUALIFY. -/
theorem enableRail_rail {s : State} (hs : s.Wf) {r : Nat} (hr : r < 128) :
    (enableRail r s).rd (SEQ_RSTAT.en r) = 1 ∧ (enableRail r s).rd (SEQ_RSTAT.state r) = SeqS.qualify := by
  have hqual {lsb w reset : Nat} : Fld.key ⟨0x901020 + 0x40 * r, lsb, w, reset⟩ ≠ (V.qualAt r).key ∨ 64 ≤ lsb := by
    simp only [Fld.key, V.qualAt, ivar]
    omega
  have hstart {lsb w reset : Nat} (hl : 9 ≤ lsb ∧ lsb < 64) :
      (enableRail r s).rd ⟨0x901020 + 0x40 * r, lsb, w, reset⟩ = (railEnabled r s).rd ⟨0x901020 + 0x40 * r, lsb, w, reset⟩ := by
    refine (rd_enableRail_end (messageField_rstat hr hl.2 _ _) (seqTileKey_rstat hr hl _ _) (hqual.resolve_right (by omega))).trans ?_
    split
    next q hq => exact (softStart_spares (regOf_lt hq) _).rd_spares (messageField_rstat hr hl.2 _ _) (seqKey_of_railKey _ (railKey_rstat hr hl _ _))
    next => rfl
  obtain ⟨hen, hstate⟩ := railEnabled_rail hs hr
  exact ⟨(hstart (by omega)).trans hen, (hstart (by omega)).trans hstate⟩

/-- The tile of a regulated rail that is enabled starts it. -/
theorem enableRail_tile {s : State} (hs : s.Wf) {r q : Nat} (hreg : s.regOf? r = some q) : (enableRail r s).rd (rState q) = RailS.softstart := by
  have hq := regOf_lt hreg
  have hk := railTile_lt hq
  have hj := railLocal_lt q
  have hstart : (softStart q (railEnabled r s)).rd (rState q) = RailS.softstart := softStart_state (run_wf _ hs) hq
  have hend : (enableRail r s) = feedsFollow ((softStart q (railEnabled r s)).does (requalify r)) := by
    unfold enableRail
    rw [hreg]
    rfl
  rw [hend]
  refine (rd_enableRail_end (messageField_rState hq) ?_ ?_).trans hstart
  · rw [← Bool.not_eq_false]
    simp [Fld.key, rState, PHT_RSTAT.state]
    omega
  · simp only [Fld.key, rState, PHT_RSTAT.state, V.qualAt, ivar]
    omega

/-- A rail that no survey holds off is enabled at its slot. -/
theorem railComesUp_free {s : State} {r : Nat} (hfree : s.rd (V.identHold r) = 0) : railComesUp r s = enableRail r s := by
  have hoff : s.on (V.identHold r) = false := by rw [State.on, hfree]; rfl
  rw [railComesUp, hoff]
  rfl

/-- A rail that a survey holds off fails at its slot (R38, R306). -/
theorem railComesUp_held {s : State} (hs : s.Wf) {r : Nat} (hr : r < 128) (hheld : s.rd (V.identHold r) = 1) :
    (railComesUp r s).rd (SEQ_RFAULTS.count r) = (s.rd (SEQ_RFAULTS.count r) + 1) % 2 ^ (SEQ_RFAULTS.count r).width ∧
      (railComesUp r s).rd (SEQ_RRETRY.cause r) = 7 := by
  have hon : s.on (V.identHold r) = true := beq_iff_eq.mpr hheld
  rw [railComesUp, hon, if_pos rfl]
  refine counted hs hr (by decide) ((railFaults_spares hr 7 false s).run ?_)
  simp [Upd.spares, Fld.key, V.fallenAt, ivar]
  omega

theorem exec_railEnable {s : State} {g r : Nat} (hr : r < 128) (hg : s.groupOf r = g) (hdue : s.enableDue r = true) (hfirst : s.holdsEnable r = []) :
    exec (.railEnable g r) s = .next (railComesUp r s) := by
  show execRailEnable g r s = _
  exact whenever_of (by simp [hr, hg, hdue, hfirst]) s _

theorem retryReenable_enables {s : State} (hs : s.Wf) {r : Nat} (hr : r < 128) (hstate : s.rd (SEQ_RSTAT.state r) = SeqS.retry)
    (hfell : s.rd (V.falling r) = 0) (hmark : s.rd (V.fallenAt r) ≠ 0) (hdue : s.rd (V.fallenAt r) + 4000000 ≤ s.boundary + 1) (hrun : s.rd V.pfailRun = 0)
    (hfree : s.rd (V.identHold r) = 0) :
    Gives (.retryReenable r) s (fun t => t.rd (SEQ_RSTAT.en r) = 1 ∧ t.rd (SEQ_RSTAT.state r) = SeqS.qualify) := by
  have hexec : exec (.retryReenable r) s = .next (railComesUp r s) := by
    show execRetryReenable r s = _
    exact whenever_of (by simp [State.on, hr, hstate, hfell, hmark, hdue, hrun]) s _
  exact ⟨_, hexec, railComesUp_free hfree ▸ enableRail_rail hs hr⟩

/-! PG_CHANGE, RAIL_QUALIFIED and RAIL_ON_TIMEOUT (R299, R301). -/

theorem ofBool_on {s : State} {f : Fld} (h : f.width = 1) : ofBool (s.on f) = s.rd f := by
  have hlt := rd_lt s f
  rw [h] at hlt
  obtain h0 | h1 : s.rd f = 0 ∨ s.rd f = 1 := by omega
  · simp [State.on, h0, ofBool]
  · simp [State.on, h1, ofBool]

theorem setPg_sets {s : State} (hs : s.Wf) {r : Nat} (hr : r < 128) :
    (s.does (setPg r (s.on (SEQ_RSTAT.pg_raw r)))).rd (SEQ_RSTAT.pg r) = s.rd (SEQ_RSTAT.pg_raw r) ∧
      (s.does (setPg r (s.on (SEQ_RSTAT.pg_raw r)))).rd (V.pgSince r) = 0 := by
  have hchatter {f : Fld} (hcount : f.key ≠ (SEQ_RCHAT.count r).key) (hevt : f.key ≠ SEQ_EVT.chatter.key) (c : Bool) (n : Nat)
      (pay : List (Nat × Nat × Nat)) :
      ∀ u ∈ onlyIf c [.set (SEQ_RCHAT.count r) n, .set SEQ_EVT.chatter 1, railNote Ty.SEQ_CHATTER r pay s], u.keeps f :=
    all_onlyIf fun _ => by simp [railNote, Upd.keeps, hcount, hevt]
  constructor
  · refine (rd_run_set hs (g := SEQ_RSTAT.pg r) (messageField_rstat hr (by omega) _ _) [] (.set (V.pgSince r) 0 :: _) _
      (List.forall_mem_cons.mpr ⟨?_, hchatter ?_ ?_ _ _ _⟩)).trans ?_
    · simp only [Upd.keeps, Fld.key, SEQ_RSTAT.pg, V.pgSince, ivar]
      omega
    · simp only [Fld.key, SEQ_RSTAT.pg, SEQ_RCHAT.count]
      omega
    · simp only [Fld.key, SEQ_RSTAT.pg, SEQ_EVT.chatter]
      omega
    · rw [ofBool_on rfl]
      exact Nat.mod_eq_of_lt (rd_lt s (SEQ_RSTAT.pg_raw r))
  · refine rd_run_set hs (g := V.pgSince r) (messageField_rail_scalar (by omega) hr _ _) [_] _ 0 (hchatter ?_ ?_ _ _ _)
    · simp only [Fld.key, SEQ_RCHAT.count, V.pgSince, ivar]
      omega
    · simp only [Fld.key, SEQ_EVT.chatter, V.pgSince, ivar]
      omega

theorem pgChange_latches {s : State} (hs : s.Wf) {r : Nat} (hr : r < 128) (hpresent : s.railPresent r = true) (hsince : s.rd (V.pgSince r) ≠ 0)
    (hdue : s.rd (V.pgSince r) + s.rd (SEQ_RAILDIS.deglitch r) * 4000 ≤ s.boundary + 1) :
    Gives (.pgChange r) s (fun t => t.rd (SEQ_RSTAT.pg r) = s.rd (SEQ_RSTAT.pg_raw r) ∧ t.rd (V.pgSince r) = 0) := by
  have hexec : exec (.pgChange r) s = .next ((s.does (setPg r (s.on (SEQ_RSTAT.pg_raw r)))).does (requalify r)) := by
    show execPgChange r s = _
    exact whenever_of (by simp [hr, hpresent, hsince, hdue]) s _
  obtain ⟨hpg, hmark⟩ := setPg_sets hs hr
  refine ⟨_, hexec, (rd_run_keeps (messageField_rstat hr (by omega) _ _) (requalify_keeps ?_ _)).trans hpg,
    (rd_run_keeps (messageField_rail_scalar (by omega) hr _ _) (requalify_keeps ?_ _)).trans hmark⟩
  · simp only [Fld.key, V.qualAt, ivar]
    omega
  · simp only [Fld.key, V.qualAt, ivar]
    omega

theorem railGoodNow_good {s : State} (hs : s.Wf) {r : Nat} (hr : r < 128) :
    (railGoodNow r s).rd (SEQ_RSTAT.state r) = SeqS.good ∧
      (railGoodNow r s).rd (SEQ_RCYCLES.count r) = (s.rd (SEQ_RCYCLES.count r) + 1) % 2 ^ (SEQ_RCYCLES.count r).width := by
  have hcycles : messageField (SEQ_RCYCLES.count r) = false :=
    messageField_register (by dsimp only [SEQ_RCYCLES.count]; omega) (by dsimp only [SEQ_RCYCLES.count]; omega)
  have hkey : railKey (SEQ_RCYCLES.count r).key = true := by
    rw [← Bool.not_eq_false]
    simp [Fld.key, SEQ_RCYCLES.count]
    omega
  have hcheck (t : State) : Passing (Upd.spares railKey) t (t.does (groupUpCheck (s.groupOf r))) :=
    Passing.does (Via.refl t) (groupUpCheck_spares (groupOf_lt s r))
  constructor
  · refine ((hcheck _).rd_spares (messageField_rstat hr (by omega) _ _) (railKey_rstat hr (by omega) _ _)).trans ?_
    refine rd_run_sets hs (g := SEQ_RSTAT.state r) (messageField_rstat hr (by omega) _ _) [] SeqS.good ?_
    simp [Upd.clears, bump, railNote, Fld.key, SEQ_RSTAT.state, SEQ_RCYCLES.count, V.inRetry, ivar]
    omega
  · refine ((hcheck _).rd_spares hcycles hkey).trans ?_
    refine rd_run_sets hs (g := SEQ_RCYCLES.count r) hcycles [_] _ ?_
    simp [Upd.clears, railNote, Fld.key, SEQ_RCYCLES.count, V.inRetry, ivar]
    omega

theorem railQualified_good {s : State} (hs : s.Wf) {r : Nat} (hr : r < 128)
    (hstate : s.rd (SEQ_RSTAT.state r) = SeqS.qualify ∨ s.rd (SEQ_RSTAT.state r) = SeqS.bad) (hqual : s.qualifies r = true) (hsince : s.rd (V.qualAt r) ≠ 0)
    (hdue : s.rd (V.qualAt r) + s.rd (SEQ_RAILQ.qual r) * 4000 ≤ s.boundary + 1) :
    Gives (.railQualified r) s (fun t => t.rd (SEQ_RSTAT.state r) = SeqS.good ∧
      t.rd (SEQ_RCYCLES.count r) = (s.rd (SEQ_RCYCLES.count r) + 1) % 2 ^ (SEQ_RCYCLES.count r).width) := by
  have hexec : exec (.railQualified r) s = .next (railGoodNow r s) := by
    show execRailQualified r s = _
    refine whenever_of ?_ s _
    obtain h | h := hstate <;> simp [hr, h, hqual, hsince, hdue]
  exact ⟨_, hexec, railGoodNow_good hs hr⟩

/-- A rail's fault is counted, and the channels bound to it follow its enable. -/
theorem faultFollowed_counts {s : State} (hs : s.Wf) {r : Nat} (hr : r < 128) {cause : Nat} (hcause : cause < 16) (ups : Bool) :
    (feedsFollow (railFaults r cause ups s)).rd (SEQ_RFAULTS.count r) = (s.rd (SEQ_RFAULTS.count r) + 1) % 2 ^ (SEQ_RFAULTS.count r).width ∧
      (feedsFollow (railFaults r cause ups s)).rd (SEQ_RRETRY.cause r) = cause :=
  counted hs hr hcause ((railFaults_spares hr cause ups s).trans
    ((feedsFollow_spares (Via.refl _)).fewer fun k hk => seqTileKey_of_seqKey k (seqKey_of_stopKey k (stopKey_of_countKey k hk))))

theorem railOnTimeout_counts {s : State} (hs : s.Wf) {r : Nat} (hr : r < 128) (hrun : s.rd V.pfailRun = 0)
    (hstate : s.rd (SEQ_RSTAT.state r) = SeqS.qualify) (hen : s.rd (SEQ_RSTAT.en r) = 1)
    (hdue : s.rd (V.seqOnAt r) + s.rd (V.latOnTo r) * 400000 ≤ s.boundary + 1 ∨ s.vmonOver r = true ∨ s.tileTripped r = true ∨ s.surveyHolds r = true) :
    Gives (.railOnTimeout r) s (fun t => t.rd (SEQ_RFAULTS.count r) = (s.rd (SEQ_RFAULTS.count r) + 1) % 2 ^ (SEQ_RFAULTS.count r).width ∧
      t.rd (SEQ_RRETRY.cause r) = (if s.surveyHolds r = true then 7 else 1)) := by
  have hexec : exec (.railOnTimeout r) s = .next (feedsFollow (railFaults r (if s.surveyHolds r then 7 else 1) false s)) := by
    show execRailOnTimeout r s = _
    refine whenever_of ?_ s _
    simp only [State.on, hrun, hstate, hen, decide_eq_true hr, Bool.and_eq_true, Bool.or_eq_true, decide_eq_true_eq, beq_self_eq_true, true_and]
    tauto
  exact ⟨_, hexec, faultFollowed_counts hs hr (by split_ifs <;> omega) false⟩

/-- Settles O31, a clause for each form: RAIL_ENABLE, PG_CHANGE, RAIL_QUALIFIED, RAIL_ON_TIMEOUT and RETRY_REENABLE (R299, R301, R303, R307). -/
theorem railsComeUp : Obligations.RailsComeUp := by
  unfold Obligations.RailsComeUp
  refine ⟨?_, ?_, ?_, ?_, ?_, ?_, ?_⟩
  · intro s g r hs hr hg hdue hfirst _ hfree
    exact ⟨_, exec_railEnable hr hg hdue hfirst, railComesUp_free hfree ▸ enableRail_rail hs hr⟩
  · intro s g r q hs hr hg hdue hfirst hreg hfree
    refine ⟨_, exec_railEnable hr hg hdue hfirst, ?_⟩
    rw [railComesUp_free hfree]
    obtain ⟨hen, hstate⟩ := enableRail_rail hs hr
    exact ⟨hen, hstate, enableRail_tile hs hreg⟩
  · intro s g r hs hr hg hdue hfirst hheld
    exact ⟨_, exec_railEnable hr hg hdue hfirst, railComesUp_held hs hr hheld⟩
  · intro s r hs hr hpresent hsince hdue
    exact pgChange_latches hs hr hpresent hsince hdue
  · intro s r hs hr hstate hqual hsince hdue
    exact railQualified_good hs hr hstate hqual hsince hdue
  · intro s r hs hr hrun hstate hen hdue
    exact railOnTimeout_counts hs hr hrun hstate hen hdue
  · intro s r hs hr hstate hfell hmark hdue hrun hfree
    exact retryReenable_enables hs hr hstate hfell hmark hdue hrun hfree

end Sys2Proof.Machine
end

section
/-! What the commands of a rail that goes down do: RAIL_DISABLE to RAIL_FAULT (R304-R306). -/

namespace Sys2Proof.Machine

/-! RAIL_DISABLE (R304). -/

theorem seqKey_rail_scalar {id r : Nat} (hid : 0x090 ≤ id ∧ id < 0x0A0) (hr : r < 128) (w reset : Nat) : seqKey (ivar id r w reset).key = true := by
  rw [← Bool.not_eq_false]
  simp [Fld.key, ivar]
  omega

theorem railKey_rail_scalar {id r : Nat} (hid : 0x090 ≤ id ∧ id < 0x0A0) (hr : r < 128) (w reset : Nat) : railKey (ivar id r w reset).key = true := by
  rw [← Bool.not_eq_false]
  simp [Fld.key, ivar]
  omega

/-- What a rail's own fields show once its enable is taken away (R304). -/
theorem deassertRail_rail {s : State} (hs : s.Wf) {r st : Nat} (hr : r < 128) (hst : st < 8) (hen : s.on (SEQ_RSTAT.en r) = true) :
    (s.does (deassertRail r st)).rd (SEQ_RSTAT.en r) = 0 ∧ (s.does (deassertRail r st)).rd (SEQ_RSTAT.state r) = st ∧
      (s.does (deassertRail r st)).rd (V.falling r) = 1 := by
  have htile : Passing (Upd.spares seqKey) (s.run [.set (SEQ_RSTAT.en r) 0, .set (SEQ_RSTAT.state r) st, .set (V.seqOffAt r) (s.boundary + 1),
      .set (V.falling r) 1, .set (V.qualAt r) 0]) (s.does (deassertRail r st)) := by
    rw [does_eq, deassertRail, if_pos hen, run_append]
    refine Passing.run (Via.refl _) ?_
    split
    next q hq => exact tileDisable_spares (regOf_lt hq) s
    next => rfl
  have hkey {lsb w reset : Nat} (hl : 9 ≤ lsb ∧ lsb < 64) : seqKey (Fld.key ⟨0x901020 + 0x40 * r, lsb, w, reset⟩) = true :=
    seqKey_of_railKey _ (railKey_rstat hr hl _ _)
  refine ⟨?_, ?_, ?_⟩
  · refine (htile.rd_spares (messageField_rstat hr (by omega) _ _) (hkey (by omega))).trans
      (rd_run_sets hs (g := SEQ_RSTAT.en r) (messageField_rstat hr (by omega) _ _) [] 0 ?_)
    simp [Upd.clears, Fld.key, SEQ_RSTAT.en, SEQ_RSTAT.state, V.seqOffAt, V.falling, V.qualAt, ivar]
    omega
  · refine (htile.rd_spares (messageField_rstat hr (by omega) _ _) (hkey (by omega))).trans
      ((rd_run_sets hs (g := SEQ_RSTAT.state r) (messageField_rstat hr (by omega) _ _) [_] st ?_).trans (Nat.mod_eq_of_lt hst))
    simp [Upd.clears, Fld.key, SEQ_RSTAT.state, V.seqOffAt, V.falling, V.qualAt, ivar]
    omega
  · refine (htile.rd_spares (messageField_rail_scalar (by omega) hr _ _) (seqKey_rail_scalar (by omega) hr _ _)).trans
      (rd_run_sets hs (g := V.falling r) (messageField_rail_scalar (by omega) hr _ _) [_, _, _] 1 ?_)
    simp [Upd.clears, Fld.key, V.falling, V.qualAt, ivar]

theorem railDisable_falls {s : State} (hs : s.Wf) {r : Nat} (hr : r < 128) (hdue : s.disableDue r = true) (hfirst : s.holdsDisable r = []) :
    Gives (.railDisable r) s (fun t => t.rd (SEQ_RSTAT.en r) = 0 ∧ t.rd (SEQ_RSTAT.state r) = SeqS.falling ∧ t.rd (V.falling r) = 1) := by
  have hexec : exec (.railDisable r) s = .next (feedsFollow (s.does (deassertRail r SeqS.falling))) := by
    show execRailDisable r s = _
    exact whenever_of (by simp [hr, hdue, hfirst]) s _
  have hon : s.on (SEQ_RSTAT.en r) = true := by
    simp only [State.disableDue, Bool.and_eq_true] at hdue
    tauto
  obtain ⟨hen, hstate, hfalling⟩ := deassertRail_rail hs hr (st := SeqS.falling) (by decide) hon
  have hfollow := feedsFollow_spares (Via.refl (s.does (deassertRail r SeqS.falling)))
  exact ⟨_, hexec, (hfollow.rd_spares (messageField_rstat hr (by omega) _ _) (seqTileKey_rstat hr (by omega) _ _)).trans hen,
    (hfollow.rd_spares (messageField_rstat hr (by omega) _ _) (seqTileKey_rstat hr (by omega) _ _)).trans hstate,
    (hfollow.rd_spares (messageField_rail_scalar (by omega) hr _ _) (seqTileKey_of_seqKey _ (seqKey_rail_scalar (by omega) hr _ _))).trans hfalling⟩

/-! RAIL_FALLEN and RAIL_OFF_TIMEOUT (R304, R305). -/

theorem railFell_off {s : State} (hs : s.Wf) {r : Nat} (hr : r < 128)
    (hstate : s.rd (SEQ_RSTAT.state r) = SeqS.falling ∨ s.rd (SEQ_RSTAT.state r) = SeqS.discharge) :
    (railFell r s).rd (V.falling r) = 0 ∧ (railFell r s).rd (SEQ_RSTAT.state r) = SeqS.off := by
  have hfell : railFell r s = (s.run [.set (V.falling r) 0, .set (V.disNeed r) 0, .set (SEQ_RSTAT.state r) SeqS.off]).does (groupSettle (s.groupOf r)) := by
    unfold railFell
    extract_lets st
    rw [if_pos (by simpa using hstate)]
    rfl
  have hsettle (t : State) : Passing (Upd.spares railKey) t (t.does (groupSettle (s.groupOf r))) :=
    Passing.does (Via.refl t) (groupSettle_spares (groupOf_lt s r))
  rw [hfell]
  constructor
  · refine ((hsettle _).rd_spares (messageField_rail_scalar (by omega) hr _ _) (railKey_rail_scalar (by omega) hr _ _)).trans
      (rd_run_sets hs (g := V.falling r) (messageField_rail_scalar (by omega) hr _ _) [] 0 ?_)
    simp [Upd.clears, Fld.key, SEQ_RSTAT.state, V.falling, V.disNeed, ivar]
    omega
  · exact ((hsettle _).rd_spares (messageField_rstat hr (by omega) _ _) (railKey_rstat hr (by omega) _ _)).trans
      (rd_run_sets hs (g := SEQ_RSTAT.state r) (messageField_rstat hr (by omega) _ _) [_, _] SeqS.off rfl)

theorem railFallen_off {s : State} (hs : s.Wf) {r : Nat} (hr : r < 128) (hfalling : s.rd (V.falling r) = 1) (hfallen : s.hasFallen r = true)
    (hstate : s.rd (SEQ_RSTAT.state r) = SeqS.falling ∨ s.rd (SEQ_RSTAT.state r) = SeqS.discharge) :
    Gives (.railFallen r) s (fun t => t.rd (V.falling r) = 0 ∧ t.rd (SEQ_RSTAT.state r) = SeqS.off) := by
  have hexec : exec (.railFallen r) s = .next (railFell r s) := by
    show execRailFallen r s = _
    exact whenever_of (by simp [State.on, hr, hfalling, hfallen]) s _
  exact ⟨_, hexec, railFell_off hs hr hstate⟩

theorem railOffTimeout_discharges {s : State} (hs : s.Wf) {r : Nat} (hr : r < 128) (hfalling : s.rd (V.falling r) = 1) (hup : s.hasFallen r = false)
    (hneed : s.rd (V.disNeed r) = 0) (hpath : bit (s.rd (SEQ_RAILMODE.flags r)) 3 = true) (hoff : s.offFor r (s.rd (V.latOffTo r)) = true)
    (hstate : s.rd (SEQ_RSTAT.state r) = SeqS.falling) :
    Gives (.railOffTimeout r) s (fun t => t.rd (V.disNeed r) = 1 ∧ t.rd (SEQ_RSTAT.state r) = SeqS.discharge ∧
      OnlyFields [V.disNeed r, SEQ_RSTAT.state r] s t) := by
  have hexec : exec (.railOffTimeout r) s = .next (s.run [.set (V.disNeed r) 1, .set (SEQ_RSTAT.state r) SeqS.discharge]) := by
    show execRailOffTimeout r s = _
    rw [execRailOffTimeout, hstate]
    exact whenever_of (by simp [State.on, hr, hfalling, hup, hneed, hpath, hoff]) s _
  refine ⟨_, hexec, ?_, ?_, ?_⟩
  · refine rd_run_sets hs (g := V.disNeed r) (messageField_rail_scalar (by omega) hr _ _) [] 1 ?_
    simp [Upd.clears, Fld.key, SEQ_RSTAT.state, V.disNeed, ivar]
    omega
  · exact rd_run_sets hs (g := SEQ_RSTAT.state r) (messageField_rstat hr (by omega) _ _) [_] SeqS.discharge rfl
  · exact onlyFields_run_of_bus (by simp [Upd.setsOnly]) rfl

/-! RAIL_GIVEN_UP (R305). -/

/-- A decision of the sequencer does what it does from the state, or from one that differs in the mark of an uncertain sample (R299). -/
theorem rd_deciding (d : Bool) (f : State → State) (s : State) : ∃ us, ∀ g : Fld, messageField g = false → g.key ≠ V.decDoubt.key →
    (deciding d f s).rd g = (f (s.run us)).rd g := by
  cases d with
  | false => exact ⟨[], fun _ _ _ => rfl⟩
  | true => exact ⟨[.set V.decDoubt 1], fun g hm hg => rd_set_ne _ 0 hm hg⟩

/-- What a rail given up shows before its group stops: it is counted, latched and in FAULT. -/
def railLost (r : Nat) (s : State) : State :=
  (((s.run [.set (V.falling r) 0, .set (V.disNeed r) 0]).does (countFault r 5)).does (latchFault r 5)).run
    [.set (SEQ_RSTAT.state r) SeqS.fault, .set (V.inRetry r) 0]

/-- The decision of a rail given up: its group stops, is held off, and settles. -/
def railLostDecided (r : Nat) (s : State) : State :=
  (protectGroups (.railLatch (s.groupOf r)) [s.groupOf r] (stopGroup (s.groupOf r) 1 (railLost r s))).does (groupSettle (s.groupOf r))

theorem giveUp_eq (r : Nat) (s : State) : giveUp r s = deciding (s.railUncertain r) (railLostDecided r) s := rfl

theorem messageField_latch {m : Nat} (hm : m < 4) : messageField (SEQ_FAULTMAP.latch m) = false :=
  messageField_register (by dsimp only [SEQ_FAULTMAP.latch]; omega) (by dsimp only [SEQ_FAULTMAP.latch]; omega)

theorem stopKey_latch {m : Nat} (hm : m < 4) : stopKey (SEQ_FAULTMAP.latch m).key = true := by
  rw [← Bool.not_eq_false]
  simp [Fld.key, SEQ_FAULTMAP.latch]
  omega

/-- A bit of a word that is cut to 32 bits. -/
theorem bit_mod_word {v i : Nat} (hi : i < 32) : bit (v % 2 ^ 32) i = bit v i :=
  (Nat.testBit_mod_two_pow v 32 i).trans (by simp [bit, hi])

theorem railLost_shows {s : State} (hs : s.Wf) {r : Nat} (hr : r < 128) :
    (railLost r s).rd (SEQ_RSTAT.state r) = SeqS.fault ∧ bit ((railLost r s).rd (SEQ_FAULTMAP.latch (r / 32))) (r % 32) = true := by
  have hwf : ((s.run [.set (V.falling r) 0, .set (V.disNeed r) 0]).does (countFault r 5)).Wf := run_wf _ (run_wf _ hs)
  have hm : r / 32 < 4 := by omega
  constructor
  · refine rd_run_sets (run_wf _ hwf) (g := SEQ_RSTAT.state r) (messageField_rstat hr (by omega) _ _) [] SeqS.fault ?_
    simp [Upd.clears, Fld.key, SEQ_RSTAT.state, V.inRetry, ivar]
    omega
  · have hlatched {t : State} (ht : t.Wf) : ((t.does (latchFault r 5)).run [.set (SEQ_RSTAT.state r) SeqS.fault, .set (V.inRetry r) 0]).rd
        (SEQ_FAULTMAP.latch (r / 32)) = setBit (t.rd (SEQ_FAULTMAP.latch (r / 32))) (r % 32) % 2 ^ 32 := by
      rw [does_eq, ← run_append]
      refine rd_run_sets ht (g := SEQ_FAULTMAP.latch (r / 32)) (messageField_latch hm) [] _ ?_
      simp [Upd.clears, Fld.key, SEQ_FAULTMAP.latch, SEQ_RSTAT.state, SEQ_EVT.fault, SEQ_FIRST.valid, SEQ_FIRST.rail, SEQ_FIRST.cause, SEQ_FIRST.state,
        SEQ_FIRST.group, SEQ_FIRSTT.stamp, SEQ_EVT.first, V.inRetry, ivar]
      omega
    rw [railLost, hlatched hwf, bit_mod_word (Nat.mod_lt r (by decide))]
    exact bit_setBit_same _ _

theorem railLostDecided_shows {s : State} (hs : s.Wf) {r : Nat} (hr : r < 128) :
    (railLostDecided r s).rd (SEQ_RSTAT.state r) = SeqS.fault ∧ bit ((railLostDecided r s).rd (SEQ_FAULTMAP.latch (r / 32))) (r % 32) = true := by
  have hg := groupOf_lt s r
  have hm : r / 32 < 4 := by omega
  obtain ⟨hstate, hlatch⟩ := railLost_shows hs hr
  have hstop := stopGroup_rail hg 1 hr (s := railLost r s) (by rw [hstate]; decide)
  have hend (t : State) : Passing (Upd.spares railKey) t
      ((protectGroups (.railLatch (s.groupOf r)) [s.groupOf r] t).does (groupSettle (s.groupOf r))) :=
    Passing.does (protectGroups_spares rfl (Via.refl t)) (groupSettle_spares hg)
  have hkept : Passing (Upd.spares stopKey) (railLost r s) (railLostDecided r s) :=
    (stopGroup_spares hg 1 (Via.refl _)).trans ((hend _).fewer fun k hk => railKey_of_rampKey k (rampKey_of_stopKey k hk))
  constructor
  · calc (railLostDecided r s).rd (SEQ_RSTAT.state r) = (stopGroup (s.groupOf r) 1 (railLost r s)).rd (SEQ_RSTAT.state r) :=
          (hend _).rd_spares (messageField_rstat hr (by omega) _ _) (railKey_rstat hr (by omega) _ _)
      _ = (railLost r s).rd (SEQ_RSTAT.state r) := hstop
      _ = SeqS.fault := hstate
  · rw [hkept.rd_spares (messageField_latch hm) (stopKey_latch hm)]
    exact hlatch

theorem railGivenUp_faults {s : State} (hs : s.Wf) {r : Nat} (hr : r < 128) (hrun : s.rd V.pfailRun = 0) (hfalling : s.rd (V.falling r) = 1)
    (hup : s.hasFallen r = false)
    (hoff : s.offFor r (s.rd (V.latOffTo r) + (if bit (s.rd (SEQ_RAILMODE.flags r)) 3 then s.rd (V.latDisTo r) else 0)) = true) :
    Gives (.railGivenUp r) s (fun t => t.rd (SEQ_RSTAT.state r) = SeqS.fault ∧ bit (t.rd (SEQ_FAULTMAP.latch (r / 32))) (r % 32) = true) := by
  have hexec : exec (.railGivenUp r) s = .next (giveUp r s) := by
    show execRailGivenUp r s = _
    rw [execRailGivenUp, hoff]
    exact whenever_of (by simp [State.on, hr, hrun, hfalling, hup]) s _
  obtain ⟨us, hdecided⟩ := rd_deciding (s.railUncertain r) (railLostDecided r) s
  obtain ⟨hstate, hlatch⟩ := railLostDecided_shows (run_wf us hs) hr
  refine ⟨_, hexec, (hdecided (SEQ_RSTAT.state r) (messageField_rstat hr (by omega) _ _) ?_).trans hstate, ?_⟩
  · simp only [Fld.key, SEQ_RSTAT.state, V.decDoubt, ivar]
    omega
  · rw [giveUp_eq, hdecided (SEQ_FAULTMAP.latch (r / 32)) (messageField_latch (by omega)) ?_]
    · exact hlatch
    · simp only [Fld.key, SEQ_FAULTMAP.latch, V.decDoubt, ivar]
      omega

/-! RAIL_FAULT (R306). -/

theorem railFaultCause_lt (s : State) (r : Nat) : s.railFaultCause r < 16 := by
  unfold State.railFaultCause
  split_ifs <;> decide

theorem railFault_counts {s : State} (hs : s.Wf) {r : Nat} (hr : r < 128) (hrun : s.rd V.pfailRun = 0) (hstate : s.rd (SEQ_RSTAT.state r) = SeqS.good)
    (hen : s.rd (SEQ_RSTAT.en r) = 1) (hcause : s.railFaultCause r ≠ 0) :
    Gives (.railFault r) s (fun t => t.rd (SEQ_RFAULTS.count r) = (s.rd (SEQ_RFAULTS.count r) + 1) % 2 ^ (SEQ_RFAULTS.count r).width ∧
      t.rd (SEQ_RRETRY.cause r) = s.railFaultCause r) := by
  have hexec : exec (.railFault r) s = .next (feedsFollow (railFaults r (s.railFaultCause r) true s)) := by
    show execRailFault r s = _
    exact whenever_of (by simp [State.on, hr, hrun, hstate, hen, hcause]) s _
  exact ⟨_, hexec, faultFollowed_counts hs hr (railFaultCause_lt s r) true⟩

/-- Settles O32, a clause for each form: RAIL_DISABLE, RAIL_FALLEN, RAIL_OFF_TIMEOUT, RAIL_GIVEN_UP and RAIL_FAULT (R304-R306). -/
theorem railsGoDown : Obligations.RailsGoDown := by
  unfold Obligations.RailsGoDown
  refine ⟨?_, ?_, ?_, ?_, ?_⟩
  · intro s r hs hr hdue hfirst
    exact railDisable_falls hs hr hdue hfirst
  · intro s r hs hr hfalling hfallen hstate
    exact railFallen_off hs hr hfalling hfallen hstate
  · intro s r hs hr hfalling hup hneed hpath hoff hstate
    exact railOffTimeout_discharges hs hr hfalling hup hneed hpath hoff hstate
  · intro s r hs hr hrun hfalling hup hoff
    exact railGivenUp_faults hs hr hrun hfalling hup hoff
  · intro s r hs hr hrun hstate hen hcause
    exact railFault_counts hs hr hrun hstate hen hcause

end Sys2Proof.Machine
end

section
/-! What GROUP_POWER_UP and GROUP_POWER_DOWN do (R302, R304), and what the clear of a rail's latch changes and leaves (R309, R310). -/

namespace Sys2Proof.Machine

/-! GROUP_POWER_UP and GROUP_POWER_DOWN (R302, R304). -/

theorem messageField_clock {g : Nat} (hg : g < 16) : messageField (SEQ_GSTAT.clock g) = false :=
  messageField_register (by dsimp only [SEQ_GSTAT.clock]; omega) (by dsimp only [SEQ_GSTAT.clock]; omega)

/-- A group's change of state leaves its clock. -/
theorem groupTo_keeps_clock {g : Nat} (hg : g < 16) (st cause : Nat) (s : State) : ∀ u ∈ groupTo g st cause s, u.keeps (SEQ_GSTAT.clock g) := by
  have hseq : seqKey (SEQ_GSTAT.clock g).key = true := by
    rw [← Bool.not_eq_false]
    simp [Fld.key, SEQ_GSTAT.clock]
    omega
  refine all_groupTo cause (fun _ => trivial) ?_ ?_ (fun _ => ?_) (fun r hr => ?_)
    (fun u hu => Upd.spares.keeps (List.all_eq_true.mp (custodyGroupUp_spares g s) u hu) hseq) fun r hr => ?_
  all_goals
    simp only [Upd.keeps, Fld.key, SEQ_GSTAT.clock, SEQ_GSTAT.state, SEQ_EVT.group, SEQ_STAT.up, SEQ_MARGIN.mode, SEQ_RRETRY.attempts]
    omega

/-- The common start's clock, and the delays and timeouts it latches (R302). -/
def groupLatches (g : Nat) (s : State) : State :=
  s.run ([.set (SEQ_GSTAT.clock g) 0] ++
    (s.groupRails g).flatMap (fun r =>
      [.set (V.latOn r) (s.rd (SEQ_RAILCFG.on_delay r)), .set (V.latOff r) (s.rd (SEQ_RAILCFG.off_delay r)),
       .set (V.latOnTo r) (s.rd (SEQ_RAILTO.on_timeout r)), .set (V.latOffTo r) (s.rd (SEQ_RAILTO.off_timeout r)),
       .set (V.latDisTo r) (s.rd (SEQ_RAILDIS.dis_timeout r)), .set (SEQ_RRETRY.attempts r) 0]))

theorem groupStart_eq (g : Nat) (s : State) :
    groupStart g s = ((groupLatches g s).does (groupTo g GrpS.rampUp 0)).does (groupUpCheck g) := rfl

theorem groupLatches_clock {s : State} (hs : s.Wf) {g : Nat} (hg : g < 16) : (groupLatches g s).rd (SEQ_GSTAT.clock g) = 0 := by
  rw [groupLatches, List.singleton_append]
  refine rd_run_sets hs (messageField_clock hg) [] 0 ?_
  rw [List.all_flatMap, List.all_eq_true]
  intro r hr
  have hr := lt_of_mem_groupRails hr
  simp [Upd.clears, Fld.key, SEQ_GSTAT.clock, SEQ_RRETRY.attempts, V.latOn, V.latOff, V.latOnTo, V.latOffTo, V.latDisTo, ivar]
  omega

theorem groupUpCheck_state {s : State} (hs : s.Wf) {g : Nat} (hg : g < 16) :
    (s.does (groupUpCheck g)).grp g = s.grp g ∨ (s.does (groupUpCheck g)).grp g = GrpS.up := by
  rw [does_eq, groupUpCheck]
  cases s.grp g == GrpS.rampUp && (s.groupRails g).all (fun r => s.rd (SEQ_RSTAT.state r) == SeqS.good) with
  | false => exact .inl rfl
  | true => exact .inr (groupTo_state hs hg (by decide) 0)

theorem groupStart_starts {s : State} (hs : s.Wf) {g : Nat} (hg : g < 16) :
    ((groupStart g s).grp g = GrpS.rampUp ∨ (groupStart g s).grp g = GrpS.up) ∧ (groupStart g s).rd (SEQ_GSTAT.clock g) = 0 := by
  have hlatches : (groupLatches g s).Wf := run_wf _ hs
  have hramps := groupTo_state hlatches hg (st := GrpS.rampUp) (by decide) 0
  rw [groupStart_eq]
  constructor
  · obtain hstay | hup := groupUpCheck_state (run_wf (groupTo g GrpS.rampUp 0 (groupLatches g s)) hlatches) hg
    · exact .inl (hstay.trans hramps)
    · exact .inr hup
  · calc _ = ((groupLatches g s).does (groupTo g GrpS.rampUp 0)).rd (SEQ_GSTAT.clock g) :=
          rd_run_keeps (messageField_clock hg) (all_onlyIf fun _ => groupTo_keeps_clock hg _ _ _)
      _ = (groupLatches g s).rd (SEQ_GSTAT.clock g) := rd_run_keeps (messageField_clock hg) (groupTo_keeps_clock hg _ _ _)
      _ = 0 := groupLatches_clock hs hg

theorem groupPowerUp_starts {s : State} (hs : s.Wf) {g : Nat} (hg : g < 16) (hrests : s.grp g = GrpS.off ∨ s.grp g = GrpS.wait)
    (hmay : s.mayStart g = true) :
    Gives (.groupPowerUp g) s (fun t => (t.grp g = GrpS.rampUp ∨ t.grp g = GrpS.up) ∧ t.rd (SEQ_GSTAT.clock g) = 0) := by
  have hexec : exec (.groupPowerUp g) s = .next (groupStart g s) := by
    show execGroupPowerUp g s = _
    refine whenever_of ?_ s _
    obtain h | h := hrests <;> simp [hg, h, hmay]
  exact ⟨_, hexec, groupStart_starts hs hg⟩

theorem groupPowerDown_stops {s : State} (hs : s.Wf) {g cause : Nat} (hg : g < 16) (hcause : s.stopCause g = some cause) :
    Gives (.groupPowerDown g) s (fun t => t.grp g ≠ GrpS.rampUp ∧ t.grp g ≠ GrpS.up) := by
  have hexec : exec (.groupPowerDown g) s = .next (groupDown g cause s) := by
    show execGroupPowerDown g s = _
    rw [execGroupPowerDown, hcause]
    exact whenever_of (by simp [hg]) s _
  exact ⟨_, hexec, groupDown_down hs hg cause⟩

/-! The clear of latched rails (R310). -/

/-- What forms PROTECT orders in one cycle does what it does from the state, or from one that gathers them (R583). -/
theorem rd_gathered (f : State → State) (s : State) : ∃ us, (∀ g, (s.run us).rd g = s.rd g) ∧
    ∀ g : Fld, messageField g = false → g.key ≠ TIM_PROTSEQ.next.key → (gathered f s).rd g = (f (s.run us)).rd g := by
  unfold gathered
  split
  · exact ⟨[], fun _ => rfl, fun _ _ _ => rfl⟩
  · refine ⟨[.orders { s.orders with gathering := true }], fun _ => rfl, fun g hm hg => ?_⟩
    have hkey : (fun k => k == g.key) TIM_PROTSEQ.next.key = false := beq_false_of_ne hg.symm
    exact Passing.rd_spares (p := fun k => k == g.key)
      (Passing.foldl (Passing.run (Via.refl _) rfl) fun o k => k.does (numberProtect_spares hkey o)) hm (beq_self_eq_true _)

/-- Scalars of the sequencer stand at keys that no change of a register's field is at. -/
def sysKey (k : Nat) : Bool := railKey k && decide (0x1_0000_0000 * 64 ≤ k)

@[simp] theorem sysKey_eq_false (k : Nat) : sysKey k = false ↔ railKey k = false ∨ k < 0x1_0000_0000 * 64 := by
  simp only [sysKey, Bool.and_eq_false_iff, decide_eq_false_iff_not, Nat.not_le]

theorem railKey_of_sysKey (k : Nat) (h : sysKey k = true) : railKey k = true := (Bool.and_eq_true _ _ ▸ h).1

theorem seqTileKey_of_railKey (k : Nat) (h : railKey k = true) : seqTileKey k = true := seqTileKey_of_seqKey k (seqKey_of_railKey k h)

section
variable {s₀ s : State}

theorem latchGone_spares {g : Nat} (hg : g < 16) (cause : Nat) (h : Passing (Upd.spares railKey) s₀ s) :
    Passing (Upd.spares railKey) s₀ (latchGone g cause s) :=
  h.ite (protectDrop_spares rfl ((h.does (groupTo_spares hg GrpS.off cause)).ite h))

theorem systemEnd_spares {p : Nat → Bool} (hp : ∀ k, p k = true → railKey k = true) (hrail : p V.sysRail.key = false) (hdown : p V.sysDownAt.key = false)
    (h : Passing (Upd.spares p) s₀ s) : Passing (Upd.spares p) s₀ (systemEnd s) := by
  refine h.trans (protectDropAll_spares ?_ (Passing.run (Via.refl s) (by simp [Upd.spares, hrail, hdown])))
  rw [← Bool.not_eq_true]
  intro hprot
  exact absurd (hp _ hprot) (by decide)

end

theorem feedOf_lt {s : State} {r c : Nat} (h : s.feedOf? r = some c) : c < 16 := List.mem_range.mp (List.mem_of_find?_eq_some h)

/-- Apart from its latch and its state, a clear of a rail's latch leaves the sequencer as it is. -/
theorem unlatch_follows (r : Nat) (s : State) : Passing (Upd.spares seqTileKey) (s.does (clearLatch r)) (unlatch r s) := by
  unfold unlatch
  split
  next c hc => exact fedUnlatch_spares (feedOf_lt hc) (Via.refl _)
  next => exact Via.refl _

theorem clearLatch_sys {r : Nat} (hr : r < 256) (s : State) : (clearLatch r s).all (Upd.spares sysKey) = true := by
  simp [clearLatch, Upd.spares, Fld.key, SEQ_FAULTMAP.latch, SEQ_RSTAT.state]
  omega

/-- Taking away a power of two whose bit is set leaves the other bits. -/
theorem testBit_sub_two_pow {v i j : Nat} (h : v.testBit i = true) (hne : j ≠ i) : (v - 2 ^ i).testBit j = v.testBit j := by
  induction i generalizing v j with
  | zero =>
    obtain ⟨k, rfl⟩ := Nat.exists_eq_succ_of_ne_zero hne
    have hodd : v % 2 = 1 := by simpa using h
    rw [Nat.succ_eq_add_one, Nat.testBit_succ, Nat.testBit_succ, show (v - 2 ^ 0) / 2 = v / 2 by omega]
  | succ i ih =>
    rw [Nat.testBit_succ] at h
    have hle := Nat.ge_two_pow_of_testBit h
    have hpow : 2 ^ (i + 1) = 2 * 2 ^ i := Nat.pow_succ'
    cases j with
    | zero =>
      rw [Nat.testBit_zero, Nat.testBit_zero, show (v - 2 ^ (i + 1)) % 2 = v % 2 by omega]
    | succ k =>
      rw [Nat.testBit_succ, Nat.testBit_succ, show (v - 2 ^ (i + 1)) / 2 = v / 2 - 2 ^ i by omega]
      exact ih h (by omega)

theorem bit_clearBit_ne {v i j : Nat} (hne : j ≠ i) : bit (clearBit v i) j = bit v j := by
  unfold clearBit
  split
  next h => exact testBit_sub_two_pow h hne
  next => rfl

/-- The bits that a write clears are those of its value that no hardware set keeps. -/
theorem bit_clearBits_of {v hw b : Nat} (hv : bit v b = true) (hhw : bit hw b = false) : bit (clearBits v hw) b = true := by
  simp only [bit] at hv hhw
  simp [bit, clearBits, hv, hhw]

theorem unlatch_wf (r : Nat) {s : State} (hs : s.Wf) : (unlatch r s).Wf := (unlatch_follows r s).wf (run_wf _ hs)

theorem seqTileKey_latch {m : Nat} (hm : m < 4) : seqTileKey (SEQ_FAULTMAP.latch m).key = true :=
  seqTileKey_of_seqKey _ (seqKey_of_stopKey _ (stopKey_latch hm))

/-- A cleared latch leaves the map, and the others stay. -/
theorem unlatch_latch {s : State} (hs : s.Wf) {m b : Nat} (hm : m < 4) (hb : b < 32) :
    (unlatch (32 * m + b) s).rd (SEQ_FAULTMAP.latch m) = clearBit (s.rd (SEQ_FAULTMAP.latch m)) b % 2 ^ 32 := by
  have hword : (32 * m + b) / 32 = m := by omega
  have hplace : (32 * m + b) % 32 = b := by omega
  refine ((unlatch_follows _ s).rd_spares (messageField_latch hm) (seqTileKey_latch hm)).trans ?_
  rw [does_eq, clearLatch, hword, hplace, List.singleton_append]
  refine rd_run_sets hs (messageField_latch hm) [] _ ?_
  simp [Upd.clears, Fld.key, SEQ_FAULTMAP.latch, SEQ_RSTAT.state]
  omega

/-- Once every rail of a list is cleared, the map shows no latch that the list names. -/
theorem unlatchEach_clears {m b : Nat} (hm : m < 4) (hb : b < 32) {l : List Nat} (hl : ∀ i ∈ l, i < 32) {s : State} (hs : s.Wf)
    (hnamed : bit (s.rd (SEQ_FAULTMAP.latch m)) b = true → b ∈ l) :
    bit (((l.map (fun i => 32 * m + i)).foldl (fun w r => unlatch r w) s).rd (SEQ_FAULTMAP.latch m)) b = false := by
  induction l generalizing s with
  | nil => exact Bool.eq_false_iff.mpr fun h => nomatch hnamed h
  | cons i l ih =>
    refine ih (fun k hk => hl k (by simp [hk])) (unlatch_wf _ hs) fun h => ?_
    rw [unlatch_latch hs hm (hl i (by simp)), bit_mod_word hb] at h
    obtain rfl | hne := eq_or_ne b i
    · rw [bit_clearBit_same] at h
      cases h
    · rw [bit_clearBit_ne hne] at h
      exact (List.mem_cons.mp (hnamed h)).resolve_left hne

end Sys2Proof.Machine
end

section
/-! What SYSTEM_RESTART, FAULT_CLEAR, FIRST_REARM, FAULT_IN and FAULT_IN_RELEASE do (R309-R312). -/

namespace Sys2Proof.Machine

/-! SYSTEM_RESTART (R309). -/

/-- A policy 3 shutdown has ended: its rail is cleared and its holds are withdrawn. -/
def shutdownEnded (s : State) : State :=
  systemEnd (latchGone (s.groupOf (s.rd V.sysRail - 1)) 5 (unlatch (s.rd V.sysRail - 1) s))

/-- The restart is counted, and the LOCAL defaults of the groups' power are ordered again. -/
def restartOrdered (s : State) : State :=
  let u := (shutdownEnded s).run [bump (shutdownEnded s) V.sysCount]
  u.doEach (u.orders.defaults.filter (fun d => d.blk == Blk.seq && d.target == Tgt.groupPwr))
    (fun d w => issueLocal d.blk d.target d.scope false d.value d.window w.now w.now false w)

theorem systemRestart_eq (s : State) : systemRestart s = gathered restartOrdered s := rfl

theorem issueLocal_spares {p : Nat → Bool} (hloc : p TIM_LOCSEQ.next.key = false) (blk target scope : Nat) (release : Bool) (value window applyAt t : Nat)
    (mark : Bool) (s : State) : (issueLocal blk target scope release value window applyAt t mark s).all (Upd.spares p) = true := by
  simp [issueLocal, issueOrder, acceptOrder, refuseOrder, bump, Upd.spares, hloc]

theorem latchGone_unlatch_spares {r g : Nat} (hr : r < 256) (hg : g < 16) (cause : Nat) (s : State) :
    Passing (Upd.spares sysKey) s (latchGone g cause (unlatch r s)) := by
  have hrail : Passing (Upd.spares sysKey) s (unlatch r s) :=
    (Passing.does (Via.refl s) (clearLatch_sys hr)).trans
      ((unlatch_follows r s).fewer fun k hk => seqTileKey_of_railKey k (railKey_of_sysKey k hk))
  exact hrail.trans ((latchGone_spares hg cause (Via.refl _)).fewer railKey_of_sysKey)

theorem shutdownEnded_sys {s : State} (hs : s.Wf) :
    (shutdownEnded s).Wf ∧ (shutdownEnded s).rd V.sysRail = 0 ∧ (shutdownEnded s).rd V.sysCount = s.rd V.sysCount := by
  have hr : s.rd V.sysRail < 256 := rd_lt s V.sysRail
  have hgone := latchGone_unlatch_spares (r := s.rd V.sysRail - 1) (by omega) (groupOf_lt s (s.rd V.sysRail - 1)) 5 s
  have hend (t : State) : Passing (Upd.spares sysKey) (t.run [.set V.sysRail 0, .set V.sysDownAt 0]) (systemEnd t) :=
    protectDropAll_spares rfl (Via.refl _)
  refine ⟨(hend _).wf (run_wf _ (hgone.wf hs)), ?_, ?_⟩
  · exact ((hend _).rd_spares (by decide) (by decide)).trans (rd_run_sets (hgone.wf hs) (by decide) [] 0 (by decide))
  · calc (shutdownEnded s).rd V.sysCount = _ := (hend _).rd_spares (by decide) (by decide)
      _ = _ := rd_run_clear (by decide) (by decide)
      _ = s.rd V.sysCount := hgone.rd_spares (by decide) (by decide)

theorem restartOrdered_sys {s : State} (hs : s.Wf) :
    (restartOrdered s).rd V.sysRail = 0 ∧ (restartOrdered s).rd V.sysCount = (s.rd V.sysCount + 1) % 2 ^ V.sysCount.width := by
  obtain ⟨hwf, hrail, hcount⟩ := shutdownEnded_sys hs
  have horders : Passing (Upd.spares sysKey) ((shutdownEnded s).run [bump (shutdownEnded s) V.sysCount]) (restartOrdered s) :=
    Passing.doEach (Via.refl _) fun d w => issueLocal_spares rfl _ _ _ _ _ _ _ _ _ w
  constructor
  · calc (restartOrdered s).rd V.sysRail = _ := horders.rd_spares (by decide) (by decide)
      _ = (shutdownEnded s).rd V.sysRail := rd_run_clear (by decide) (by rfl)
      _ = 0 := hrail
  · calc (restartOrdered s).rd V.sysCount = _ := horders.rd_spares (by decide) (by decide)
      _ = ((shutdownEnded s).rd V.sysCount + 1) % 2 ^ V.sysCount.width := rd_run_sets hwf (by decide) [] _ rfl
      _ = _ := by rw [hcount]

theorem systemRestart_restarts {s : State} (hs : s.Wf) (hrail : s.rd V.sysRail ≠ 0) (hdown : s.rd V.sysDownAt ≠ 0)
    (hdue : s.rd V.sysDownAt + 400000000 ≤ s.boundary + 1) (hcount : s.rd V.sysCount < s.rd (SEQ_RAILDIS.retries (s.rd V.sysRail - 1))) :
    Gives .systemRestart s (fun t => t.rd V.sysRail = 0 ∧ t.rd V.sysCount = (s.rd V.sysCount + 1) % 2 ^ V.sysCount.width) := by
  have hexec : exec .systemRestart s = .next (systemRestart s) := by
    show execSystemRestart s = _
    exact whenever_of (by simp [hrail, hdown, hdue, hcount]) s _
  obtain ⟨us, hsame, hgathered⟩ := rd_gathered restartOrdered s
  obtain ⟨hzero, hcounted⟩ := restartOrdered_sys (run_wf us hs)
  rw [hsame] at hcounted
  exact ⟨_, hexec, (hgathered V.sysRail (by decide) (by decide)).trans hzero, (hgathered V.sysCount (by decide) (by decide)).trans hcounted⟩

/-! FAULT_CLEAR (R310). -/

/-- The rails that a clear names and that are latched. -/
def clearedRails (m value : Nat) (s : State) : List Nat := (bitsOf 32 (s.rd (SEQ_FAULTMAP.latch m) &&& value)).map (fun b => 32 * m + b)

/-- Their latches cleared. -/
def railsUnlatched (m value : Nat) (s : State) : State := (clearedRails m value s).foldl (fun w r => unlatch r w) s

/-- What the clear of the latches brings with it: groups without a latch are let go, and a policy 3 shutdown whose rail is cleared ends. -/
def latchesCleared (m value : Nat) (s : State) : State :=
  let u := (((clearedRails m value s).map s.groupOf).dedup).foldl (fun w g => latchGone g 6 w) (railsUnlatched m value s)
  if (clearedRails m value s).contains (s.rd V.sysRail - 1) && s.rd V.sysRail != 0 then systemEnd u else u

theorem faultClear_eq (m value : Nat) (s : State) : faultClear m value s = gathered (latchesCleared m value) s := rfl

theorem latchesCleared_spares (m value : Nat) (s : State) : Passing (Upd.spares stopKey) (railsUnlatched m value s) (latchesCleared m value s) := by
  have hrail (k : Nat) (hk : stopKey k = true) : railKey k = true := railKey_of_rampKey k (rampKey_of_stopKey k hk)
  have hgone : Passing (Upd.spares stopKey) (railsUnlatched m value s)
      ((((clearedRails m value s).map s.groupOf).dedup).foldl (fun w g => latchGone g 6 w) (railsUnlatched m value s)) := by
    refine Passing.foldl_mem (Via.refl _) fun g hg t ht => ht.trans ((latchGone_spares ?_ 6 (Via.refl t)).fewer hrail)
    obtain ⟨r, -, rfl⟩ := List.mem_map.mp (List.mem_dedup.mp hg)
    exact groupOf_lt s r
  exact (systemEnd_spares hrail rfl rfl hgone).ite hgone

theorem latchesCleared_clears {s : State} (hs : s.Wf) {m value b : Nat} (hm : m < 4) (hb : b < 32) (hvalue : bit value b = true) :
    bit ((latchesCleared m value s).rd (SEQ_FAULTMAP.latch m)) b = false := by
  rw [(latchesCleared_spares m value s).rd_spares (messageField_latch hm) (stopKey_latch hm)]
  refine unlatchEach_clears hm hb (fun i hi => List.mem_range.mp (List.mem_of_mem_filter hi)) hs fun hlatched => ?_
  refine List.mem_filter.mpr ⟨List.mem_range.mpr hb, ?_⟩
  rw [bit] at hlatched hvalue
  rw [Nat.testBit_and, hlatched, hvalue, Bool.true_and]

theorem faultClear_clears {s : State} (hs : s.Wf) {req m value b hw : Nat} (hm : m < 4) (hb : b < 32)
    (hreach : s.Reaches req (0x90_0020 + 4 * m) 4 value false) (hvalue : bit value b = true) (hkept : bit hw b = false) :
    Gives (.faultClear req m ⟨value, hw⟩) s (fun t => bit (t.rd (SEQ_FAULTMAP.latch m)) b = false) := by
  have hexec : exec (.faultClear req m ⟨value, hw⟩) s =
      .next ((feedsFollow (faultClear m (clearBits value hw) s)).run (hostTraffic req true 4)) := by
    show execFaultClear req m ⟨value, hw⟩ s = _
    rw [execFaultClear, if_pos hm]
    exact gated_of_reaches hreach _
  obtain ⟨us, -, hgathered⟩ := rd_gathered (latchesCleared m (clearBits value hw)) s
  have hprot : (SEQ_FAULTMAP.latch m).key ≠ TIM_PROTSEQ.next.key := by
    simp only [Fld.key, SEQ_FAULTMAP.latch, TIM_PROTSEQ.next]
    omega
  refine ⟨_, hexec, ?_⟩
  beta_reduce
  rw [rd_run_hostTraffic, (feedsFollow_spares (Via.refl _)).rd_spares (messageField_latch hm) (seqTileKey_latch hm), faultClear_eq,
    hgathered _ (messageField_latch hm) hprot]
  exact latchesCleared_clears (run_wf us hs) hm hb (bit_clearBits_of hvalue hkept)

/-! FIRST_REARM (R311). -/

theorem firstRearm_rearms {s : State} (hs : s.Wf) {req value hw : Nat} (hreach : s.Reaches req 0x90_0010 4 value false) (hvalue : bit value 31 = true)
    (hkept : bit hw 31 = false) :
    Gives (.firstRearm req ⟨value, hw⟩) s (fun t => t.rd SEQ_FIRST.valid = 0 ∧ OnlyFields [SEQ_FIRST.valid] s t) := by
  have hexec : exec (.firstRearm req ⟨value, hw⟩) s = .next (s.run (.set SEQ_FIRST.valid 0 :: hostTraffic req true 4)) := by
    show execFirstRearm req ⟨value, hw⟩ s = _
    rw [execFirstRearm, bit_clearBits_of hvalue hkept]
    exact gated_of_reaches hreach _
  obtain ⟨hread, hframe⟩ := run_set_one hs (f := SEQ_FIRST.valid) (by decide) (us := []) (by simp) (hostTraffic_setsOnly [] req true 4)
    (v := 0) (by decide)
  rw [List.nil_append] at hread hframe
  rw [run_cons, hostTraffic_bus, apply_set_bus] at hframe
  exact ⟨_, hexec, hread, hframe⟩

/-! FAULT_IN and FAULT_IN_RELEASE (R312). -/

/-- FAULT_N low is marked, as an event and in a record. -/
def faultMarked (doubt : Bool) (s : State) : State :=
  s.run [.set V.fnActive 1, .set SEQ_EVT.fault_in 1,
    .emit { typ := Ty.SEQ_FAULTIN, src := srcOf 0x8 0xFFF, pay := [(24, 1, 1), (28, 4, s.rd V.fnLow)], variableMark := doubt }]

/-- Where FAULT_N low is to stop the groups, every one is held off. -/
def faultTaken (doubt : Bool) (s : State) : State :=
  if s.on SEQ_CTL.fault_in then protectGroups .faultIn (List.range 16) (faultMarked doubt s) else faultMarked doubt s

theorem faultTaken_marks {s : State} (hs : s.Wf) (doubt : Bool) :
    (faultTaken doubt s).rd V.fnActive = 1 ∧ (faultTaken doubt s).rd SEQ_EVT.fault_in = 1 := by
  have hheld {p : Nat → Bool} (hp : p TIM_PROTSEQ.next.key = false) : Passing (Upd.spares p) (faultMarked doubt s) (faultTaken doubt s) :=
    (protectGroups_spares hp (Via.refl _)).ite (Via.refl _)
  constructor
  · exact ((hheld (p := (· == V.fnActive.key)) rfl).rd_spares (by decide) (by decide)).trans (rd_run_sets hs (by decide) [] 1 rfl)
  · exact ((hheld (p := seqKey) rfl).rd_spares (by decide) (by decide)).trans (rd_run_sets hs (by decide) [_] 1 rfl)

theorem faultIn_marks {s : State} (hs : s.Wf) (hactive : s.rd V.fnActive = 0) (hdrives : s.drivesFault = false) (hhigh : s.rd V.fnHigh = 0)
    (hlow : 2 ≤ s.rd V.fnLow) : Gives .faultIn s (fun t => t.rd V.fnActive = 1 ∧ t.rd SEQ_EVT.fault_in = 1) := by
  have hexec : exec .faultIn s = .next (deciding (s.on V.fnDoubt) (fun s => faultTaken (s.on V.fnDoubt) s) s) := by
    show execFaultIn s = _
    exact whenever_of (by simp [State.on, hactive, hdrives, hhigh, hlow]) s _
  obtain ⟨us, hdecided⟩ := rd_deciding (s.on V.fnDoubt) (fun s => faultTaken (s.on V.fnDoubt) s) s
  obtain ⟨hmark, hevent⟩ := faultTaken_marks (run_wf us hs) ((s.run us).on V.fnDoubt)
  exact ⟨_, hexec, (hdecided V.fnActive (by decide) (by decide)).trans hmark, (hdecided SEQ_EVT.fault_in (by decide) (by decide)).trans hevent⟩

/-- What a protection that lets a target go leaves held. -/
theorem protectDrop_holds (holder : Holder) (blk target scope : Nat) (s : State) : (protectDrop holder blk target scope s).orders.holds =
    s.orders.holds.filter (fun x => !(x.holder == holder && x.blk == blk && x.target == target && x.scope == scope)) := by
  unfold protectDrop
  split
  · have horder (t : State) (release : Bool) (value : Nat) (mark : Bool) :
        (t.does (issueProtectOrder blk target scope release value mark)).orders.holds = t.orders.holds :=
      holds_run rfl (issueProtectOrder_leavesHolds _ _ _ _ _ _ _)
    dsimp only
    split_ifs
    · exact horder _ _ _ _
    · rfl
    · exact horder _ _ _ _
  next h =>
    refine (List.filter_eq_self.mpr fun x hx => ?_).symm
    simp only [State.held, State.holdsOn, List.any_filter, List.any_eq_true, Bool.and_eq_true, not_exists, not_and] at h
    have hfree := h x hx
    simp only [Bool.not_eq_true', ← Bool.not_eq_true, Bool.and_eq_true]
    tauto

/-- Targets let go one after another leave no hold of the protection, where they are all that it holds. -/
theorem dropEach_holds {holder : Holder} {l : List (Nat × Nat × Nat)} {s : State}
    (hl : ∀ x ∈ s.orders.holds, x.holder = holder → (x.blk, x.target, x.scope) ∈ l) :
    ∀ x ∈ (l.foldl (fun t e => protectDrop holder e.1 e.2.1 e.2.2 t) s).orders.holds, x.holder ≠ holder := by
  induction l generalizing s with
  | nil => exact fun x hx h => nomatch hl x hx h
  | cons e l ih =>
    refine ih fun x hx hholder => ?_
    rw [protectDrop_holds, List.mem_filter] at hx
    obtain ⟨hx, hother⟩ := hx
    refine (List.mem_cons.mp (hl x hx hholder)).resolve_left ?_
    rintro rfl
    simp [hholder] at hother

theorem protectDropAll_holds (holder : Holder) (s : State) : ∀ x ∈ (protectDropAll holder s).orders.holds, x.holder ≠ holder := by
  refine dropEach_holds fun x hx hholder => List.mem_mergeSort.mpr (List.mem_map.mpr ⟨x, List.mem_filter.mpr ⟨hx, ?_⟩, rfl⟩)
  exact beq_iff_eq.mpr hholder

theorem orders_deciding (d : Bool) (f : State → State) (s : State) : ∃ us, (deciding d f s).orders = (f (s.run us)).orders := by
  cases d with
  | false => exact ⟨[], rfl⟩
  | true => exact ⟨[.set V.decDoubt 1], rfl⟩

/-- FAULT_N has gone high: the mark is taken away, with a record. -/
def faultUnmarked (s : State) : State :=
  s.run [.set V.fnActive 0,
    .emit { typ := Ty.SEQ_FAULTIN, src := srcOf 0x8 0xFFF, pay := [(24, 1, 0), (28, 4, s.rd V.fnLow)], variableMark := s.on V.fnDoubt }]

theorem faultInRelease_releases {s : State} (hs : s.Wf) (hactive : s.rd V.fnActive = 1) (hhigh : 10000 ≤ s.rd V.fnHigh) :
    Gives .faultInRelease s (fun t => t.rd V.fnActive = 0 ∧ t.orders.holds.all (fun h => h.holder != .faultIn) = true) := by
  have hexec : exec .faultInRelease s = .next (deciding (s.on V.fnDoubt) (protectDropAll .faultIn) (faultUnmarked s)) := by
    show execFaultInRelease s = _
    exact whenever_of (by simp [State.on, hactive, hhigh]) s _
  refine ⟨_, hexec, ?_, ?_⟩
  · have hdropped : Passing (Upd.spares (· == V.fnActive.key)) (faultUnmarked s)
        (deciding (s.on V.fnDoubt) (protectDropAll .faultIn) (faultUnmarked s)) :=
      deciding_spares rfl (Via.refl _) fun h => protectDropAll_spares rfl h
    exact (hdropped.rd_spares (by decide) (by decide)).trans (rd_run_sets hs (by decide) [] 0 rfl)
  · obtain ⟨us, horders⟩ := orders_deciding (s.on V.fnDoubt) (protectDropAll .faultIn) (faultUnmarked s)
    rw [horders, List.all_eq_true]
    exact fun x hx => bne_iff_ne.mpr (protectDropAll_holds .faultIn _ x hx)

/-- Settles O30, a clause for each form: GROUP_POWER_UP, GROUP_POWER_DOWN, SYSTEM_RESTART, FAULT_CLEAR, FIRST_REARM, FAULT_IN and FAULT_IN_RELEASE
(R302, R304, R309-R312). -/
theorem groupCommandsTakeEffect : Obligations.GroupCommandsTakeEffect := by
  unfold Obligations.GroupCommandsTakeEffect
  refine ⟨?_, ?_, ?_, ?_, ?_, ?_, ?_⟩
  · intro s g hs hg hrests hmay
    exact groupPowerUp_starts hs hg hrests hmay
  · intro s g cause hs hg hcause
    exact groupPowerDown_stops hs hg hcause
  · intro s hs hrail hdown hdue hcount
    exact systemRestart_restarts hs hrail hdown hdue hcount
  · intro s req m value b hw hs hm hb hreach hvalue hkept
    exact faultClear_clears hs hm hb hreach hvalue hkept
  · intro s req value hw hs hreach hvalue hkept
    exact firstRearm_rearms hs hreach hvalue hkept
  · intro s hs hactive hdrives hhigh hlow
    exact faultIn_marks hs hactive hdrives hhigh hlow
  · intro s hs hactive hhigh
    exact faultInRelease_releases hs hactive hhigh

end Sys2Proof.Machine
end

section
/-! SUPPORT. The feed tile's channels: what a change of state, a regulation, a command off, a trip and an enable write of a channel, and what they
leave of the other channels and of the tile (R328-R334, R343-R346). -/

namespace Sys2Proof.Machine

/-! The keys. -/

/-- Every key that no change of channel c's state writes: all but its registers, its scalars, and the feed tile's events. -/
def offChannel (c k : Nat) : Bool :=
  (decide (k < (0xA0_1000 + 0x40 * c) * 64) || decide ((0xA0_1040 + 0x40 * c) * 64 ≤ k)) &&
    (decide (k < 0xA0_0004 * 64) || decide (0xA0_0008 * 64 ≤ k)) &&
    (decide (k < 0x1_0000_0000 * 64) || k % 0x40_0000 != c * 64 || (decide (0x1_00ED_0000 * 64 ≤ k) && decide (k < 0x1_00F8_0000 * 64)))

/-- Those that its trip leaves too: not the map of the latches. -/
def offTrip (c k : Nat) : Bool := offChannel c k && k != FED_TRIPMAP.latch.key

/-- The feed tile's own registers and scalars, which belong to no channel: the selector's, and the maps of latches and of damage. -/
def fedTileKey (k : Nat) : Bool :=
  (decide (0xA0_0008 * 64 ≤ k) && decide (k < 0xA0_1000 * 64)) || (decide (0x1_00ED_0000 * 64 ≤ k) && decide (k < 0x1_00F8_0000 * 64))

/-- The feed tile's registers but for its events. -/
def fedRegKey (k : Nat) : Bool := decide (0xA0_0008 * 64 ≤ k) && decide (k < 0xA0_2000 * 64)

@[simp] theorem offChannel_eq_false (c k : Nat) : offChannel c k = false ↔ ((0xA0_1000 + 0x40 * c) * 64 ≤ k ∧ k < (0xA0_1040 + 0x40 * c) * 64) ∨
    (0xA0_0004 * 64 ≤ k ∧ k < 0xA0_0008 * 64) ∨
    (0x1_0000_0000 * 64 ≤ k ∧ k % 0x40_0000 = c * 64 ∧ (k < 0x1_00ED_0000 * 64 ∨ 0x1_00F8_0000 * 64 ≤ k)) := by
  simp [offChannel, and_assoc]
  omega

@[simp] theorem offTrip_eq_false (c k : Nat) : offTrip c k = false ↔ offChannel c k = false ∨ k = FED_TRIPMAP.latch.key := by
  simp only [offTrip, Bool.and_eq_false_iff, bne_eq_false_iff_eq]

@[simp] theorem fedTileKey_eq_false (k : Nat) : fedTileKey k = false ↔
    (k < 0xA0_0008 * 64 ∨ 0xA0_1000 * 64 ≤ k) ∧ (k < 0x1_00ED_0000 * 64 ∨ 0x1_00F8_0000 * 64 ≤ k) := by
  simp [fedTileKey]
  omega

@[simp] theorem fedRegKey_eq_false (k : Nat) : fedRegKey k = false ↔ k < 0xA0_0008 * 64 ∨ 0xA0_2000 * 64 ≤ k := by
  simp only [fedRegKey, Bool.and_eq_false_iff, decide_eq_false_iff_not, Nat.not_le, Nat.not_lt]

theorem offChannel_of_fedTileKey {c : Nat} (hc : c < 16) (k : Nat) (h : fedTileKey k = true) : offChannel c k = true := by
  rw [← Bool.not_eq_false] at h ⊢
  simp at h ⊢
  omega

theorem offChannel_of_offTrip {c : Nat} (k : Nat) (h : offTrip c k = true) : offChannel c k = true := (Bool.and_eq_true _ _ ▸ h).1

/-- The state of one channel is apart from what the others write. -/
theorem offTrip_state {c d : Nat} (hc : c < 16) (hne : d ≠ c) : offTrip d (FED_CHSTAT.state c).key = true := by
  rw [← Bool.not_eq_false]
  simp [Fld.key, FED_CHSTAT.state, FED_TRIPMAP.latch]
  omega

theorem offTrip_dmg (d : Nat) : offTrip d FED_DMGMAP.dmg.key = true := by
  rw [← Bool.not_eq_false]
  simp [Fld.key, FED_DMGMAP.dmg, FED_TRIPMAP.latch]
  omega

theorem messageField_fed {c o lsb : Nat} (hc : c < 16) (ho : o < 0xA0_2000) (hl : lsb < 64) (w reset : Nat) :
    messageField ⟨o + 0x40 * c, lsb, w, reset⟩ = false :=
  messageField_register (by dsimp only; omega) hl

theorem messageField_fedState {c : Nat} (hc : c < 16) : messageField (FED_CHSTAT.state c) = false := messageField_fed hc (by omega) (by omega) _ _

theorem fedRegKey_channel {c o lsb : Nat} (hc : c < 16) (ho : 0xA0_1000 ≤ o ∧ o < 0xA0_1040) (hl : lsb < 64) (w reset : Nat) :
    fedRegKey (Fld.key ⟨o + 0x40 * c, lsb, w, reset⟩) = true := by
  rw [← Bool.not_eq_false]
  simp [Fld.key]
  omega

/-! A channel's lists of updates. -/

theorem fedToAt_offChannel {c : Nat} (st t : Nat) (s : State) (hc : c < 16) : (fedToAt c st t s).all (Upd.spares (offChannel c)) = true := by
  simp [fedToAt, setB, Upd.spares, Fld.key, FED_CHSTAT.state, FED_CHSTAT.pg, FED_EVT.state]
  omega

theorem fedTo_offChannel {c : Nat} (hc : c < 16) (st : Nat) (s : State) : (fedTo c st s).all (Upd.spares (offChannel c)) = true :=
  fedToAt_offChannel st s.now s hc

theorem fedRegulate_offChannel {c : Nat} (hc : c < 16) (st : Nat) (s : State) : (fedRegulate c st s).all (Upd.spares (offChannel c)) = true := by
  simp [fedRegulate, fedTo_offChannel hc, Upd.spares, Fld.key, V.fedSince, V.fedE, FED_CHE.e, V.fedOkAt, V.limitHit, V.energyHit, ivar]
  omega

theorem fedOff_offChannel {c : Nat} (hc : c < 16) (s : State) : (fedOff c s).all (Upd.spares (offChannel c)) = true := by
  simp [fedOff, fedTo_offChannel hc, Upd.spares, Fld.key, V.fedOffAt, V.leakAt, V.outAt, V.fedIreg, ivar]
  omega

theorem fedReady_offChannel {c : Nat} (hc : c < 16) (s : State) : (fedReady c s).all (Upd.spares (offChannel c)) = true := by
  simp [fedReady, fedTo_offChannel hc]

/-- What a trip leaves to be done at the next boundary, and the marks that it ends (R332-R334). -/
def tripMarks (c t : Nat) (s : State) : List Upd :=
  [.set FED_EVT.trip 1, .set (V.tripAt c) (t + 1), .set (V.tripV c) (s.rd (FED_CHV.vout c)), .set (V.tripI c) (s.rd (FED_CHI.i c)), .set (V.tripDue c) 1,
   .set (V.fedDropped c) 0, .set (V.fedOffAt c) (t + 1), .set (V.leakAt c) 0, .set (V.outAt c) 0, .set (V.fedIreg c) 0]

theorem fedTrip_eq (c cause t : Nat) (s : State) : fedTrip c cause t s = (if s.fed c = FedS.damaged then [] else fedToAt c FedS.tripped t s) ++
    .set FED_TRIPMAP.latch (setBit (s.rd FED_TRIPMAP.latch) c) :: bump s (FED_CHTRIPS.count c) :: .set (FED_CHSTAT.cause c) cause :: tripMarks c t s := rfl

/-- Of the registers a trip's marks set the events alone. -/
theorem tripMarks_regs (c t : Nat) (s : State) : (tripMarks c t s).all (Upd.spares fedRegKey) = true := by
  simp [tripMarks, Upd.spares, Fld.key, FED_EVT.trip, V.tripAt, V.tripV, V.tripI, V.tripDue, V.fedDropped, V.fedOffAt, V.leakAt, V.outAt, V.fedIreg, ivar]
  omega

theorem tripMarks_offChannel {c : Nat} (hc : c < 16) (t : Nat) (s : State) : (tripMarks c t s).all (Upd.spares (offChannel c)) = true := by
  simp [tripMarks, Upd.spares, Fld.key, FED_EVT.trip, V.tripAt, V.tripV, V.tripI, V.tripDue, V.fedDropped, V.fedOffAt, V.leakAt, V.outAt, V.fedIreg, ivar]
  omega

theorem Upd.spares.clears {p : Nat → Bool} {g : Fld} (hg : p g.key = true) {us : List Upd} (h : us.all (Upd.spares p) = true) :
    us.all (·.clears g) = true := by
  refine List.all_eq_true.mpr fun u hu => ?_
  have hspares := List.all_eq_true.mp h u hu
  cases u
  case set f v =>
    refine bne_iff_ne.mpr fun e => ?_
    rw [Upd.spares, ← e, hg] at hspares
    cases hspares
  case resetRegs | flushVectors => cases hspares
  all_goals rfl

theorem all_spares_fewer {p q : Nat → Bool} (hpq : ∀ k, p k = true → q k = true) {us : List Upd} (h : us.all (Upd.spares q) = true) :
    us.all (Upd.spares p) = true :=
  List.all_eq_true.mpr fun u hu => Upd.spares.fewer hpq (List.all_eq_true.mp h u hu)

theorem fedTrip_offTrip {c : Nat} (hc : c < 16) (cause t : Nat) (s : State) : (fedTrip c cause t s).all (Upd.spares (offTrip c)) = true := by
  simp [fedTrip_eq, all_spares_fewer offChannel_of_offTrip (tripMarks_offChannel hc t s), bump, Upd.spares, Fld.key,
    all_spares_fewer offChannel_of_offTrip (fedToAt_offChannel _ t s hc), FED_TRIPMAP.latch, FED_CHTRIPS.count, FED_CHSTAT.cause]

/-! A channel enters a state. -/

theorem fedToAt_fed {s : State} (hs : s.Wf) {c st : Nat} (hc : c < 16) (hst : st < 8) (t : Nat) : (s.run (fedToAt c st t s)).fed c = st := by
  rw [fedToAt]
  by_cases h : s.fed c = st
  · simp [h]
  · rw [bne_iff_ne.mpr h, onlyIf_true]
    refine (rd_run_sets hs (g := FED_CHSTAT.state c) (messageField_fedState hc) [_] st ?_).trans (Nat.mod_eq_of_lt hst)
    simp [setB, Upd.clears, Fld.key, FED_CHSTAT.state, FED_CHSTAT.pg, FED_EVT.state]
    omega

/-- Power-good stands in ON alone (R329). -/
theorem fedToAt_pg {s : State} (hs : s.Wf) {c st : Nat} (hc : c < 16) (h : s.fed c ≠ st) (t : Nat) :
    (s.run (fedToAt c st t s)).rd (FED_CHSTAT.pg c) = ofBool (st == FedS.on) := by
  rw [fedToAt, bne_iff_ne.mpr h, onlyIf_true]
  refine (rd_run_sets hs (g := FED_CHSTAT.pg c) (messageField_fed hc (by omega) (by omega) _ _) [_, _] _ ?_).trans ?_
  · simp [Upd.clears, Fld.key, FED_CHSTAT.pg, FED_EVT.state]
    omega
  · cases st == FedS.on <;> rfl

/-- A bit of a word that is cut to more bits. -/
theorem bit_mod_two_pow {v i w : Nat} (hi : i < w) : bit (v % 2 ^ w) i = bit v i := by
  simp [bit, Nat.testBit_mod_two_pow, hi]

/-- A field that the second part of a list leaves reads what the first part makes of it. -/
theorem rd_run_append_clear {s : State} {g : Fld} (hm : messageField g = false) {us vs : List Upd} (h : vs.all (·.clears g) = true) :
    (s.run (us ++ vs)).rd g = (s.run us).rd g := by
  rw [run_append, rd_run_clear hm h]

/-- INRUSH or LIMIT begins (R328, R330). -/
theorem fedRegulate_fed {s : State} (hs : s.Wf) {c st : Nat} (hc : c < 16) (hst : st < 8) : (s.run (fedRegulate c st s)).fed c = st := by
  refine (rd_run_append_clear (messageField_fedState hc) ?_).trans (fedToAt_fed hs hc hst s.now)
  simp [Upd.clears, Fld.key, FED_CHSTAT.state, V.fedSince, V.fedE, FED_CHE.e, V.fedOkAt, V.limitHit, V.energyHit, ivar]
  omega

/-- A tripped channel shows its cause and its latch; a damaged one stays DAMAGED (R328, R331, R334). -/
theorem fedTrip_trips {s : State} (hs : s.Wf) {c cause : Nat} (hc : c < 16) (hcause : cause < 256) (t : Nat) :
    (s.run (fedTrip c cause t s)).fed c = (if s.fed c = FedS.damaged then FedS.damaged else FedS.tripped) ∧
      (s.run (fedTrip c cause t s)).rd (FED_CHSTAT.cause c) = cause ∧ bit ((s.run (fedTrip c cause t s)).rd FED_TRIPMAP.latch) c = true := by
  have hmarks {g : Fld} (hg : fedRegKey g.key = true) : (tripMarks c t s).all (·.clears g) = true := Upd.spares.clears hg (tripMarks_regs c t s)
  have hstate := hmarks (g := FED_CHSTAT.state c) (fedRegKey_channel hc (by omega) (by omega) _ _)
  have hcaused := hmarks (g := FED_CHSTAT.cause c) (fedRegKey_channel hc (by omega) (by omega) _ _)
  have hlatch := hmarks (g := FED_TRIPMAP.latch) (by decide)
  rw [fedTrip_eq]
  refine ⟨?_, ?_, ?_⟩
  · refine (rd_run_append_clear (messageField_fedState hc) ?_).trans ?_
    · simp only [List.all_cons, hstate, Bool.and_true]
      simp [bump, Upd.clears, Fld.key, FED_CHSTAT.state, FED_TRIPMAP.latch, FED_CHTRIPS.count, FED_CHSTAT.cause]
      omega
    · split
      next h => exact h
      next => exact fedToAt_fed hs hc (by decide) t
  · rw [run_append]
    exact (rd_run_sets (run_wf _ hs) (g := FED_CHSTAT.cause c) (messageField_fed hc (by omega) (by omega) _ _) [_, _] cause hcaused).trans
      (Nat.mod_eq_of_lt hcause)
  · refine (congrArg (bit · c) (rd_run_sets hs (g := FED_TRIPMAP.latch) (by decide) _ _ ?_)).trans ((bit_mod_two_pow hc).trans (bit_setBit_same _ c))
    simp only [List.all_cons, hlatch, Bool.and_true]
    simp [bump, Upd.clears, Fld.key, FED_TRIPMAP.latch, FED_CHTRIPS.count, FED_CHSTAT.cause]
    omega

/-! A channel follows its enable (R332). -/

section
variable {s₀ s : State}

theorem followEnable_offChannel {c : Nat} (hc : c < 16) (h : Passing (Upd.spares (offChannel c)) s₀ s) :
    Passing (Upd.spares (offChannel c)) s₀ (followEnable c s) := by
  have hdropped : Passing (Upd.spares (offChannel c)) s₀
      (s.run (onlyIf ((s.fed c == FedS.tripped || s.fed c == FedS.damaged) && !s.fedEnable c) [.set (V.fedDropped c) 1])) := by
    refine h.run ?_
    simp [Upd.spares, Fld.key, V.fedDropped, ivar]
    omega
  have hready := hdropped.does (fedReady_offChannel hc)
  exact (hready.does (fedRegulate_offChannel hc _)).ite ((hready.does (fedOff_offChannel hc)).ite hready)

/-- Where every channel follows its enable, the tile's own registers stay. -/
theorem feedsFollow_tile (h : Passing (Upd.spares fedTileKey) s₀ s) : Passing (Upd.spares fedTileKey) s₀ (feedsFollow s) :=
  h.foldl_mem fun _ hc _ k => k.trans
    ((followEnable_offChannel (List.mem_range.mp hc) (Via.refl _)).fewer (offChannel_of_fedTileKey (List.mem_range.mp hc)))

end

end Sys2Proof.Machine
end

section
/-! What a channel's own commands do: INRUSH_TRIP to TRIP_PROTECT_ORDERS, and TRIP_CLEAR (R328-R333). -/

namespace Sys2Proof.Machine

/-! INRUSH_TRIP and LIMIT_TRIP (R328, R330). -/

theorem foldTrip_lt (s : State) (c : Nat) : s.foldTrip c < 256 := by
  unfold State.foldTrip
  split_ifs <;> decide

/-- A channel that regulates its current trips with the cause that its fold has. -/
theorem foldBack_trips {s : State} (hs : s.Wf) {c st : Nat} (hc : c < 16) (hfed : s.fed c = st) (hst : st ≠ FedS.damaged) (hfold : s.foldTrip c ≠ 0) :
    ∃ t, foldBack c st s = .next t ∧
      t.fed c = FedS.tripped ∧ t.rd (FED_CHSTAT.cause c) = s.foldTrip c ∧ bit (t.rd FED_TRIPMAP.latch) c = true := by
  have htrips := fedTrip_trips hs hc (foldTrip_lt s c) s.now
  rw [if_neg (hfed ▸ hst)] at htrips
  exact ⟨_, whenever_of (by simp [hc, hfed, hfold]) s _, htrips⟩

/-! CHANNEL_ON and CHANNEL_LIMIT (R329, R330). -/

theorem messageField_pg {c : Nat} (hc : c < 16) : messageField (FED_CHSTAT.pg c) = false := messageField_fed hc (by omega) (by omega) _ _

/-- What a channel that is ON ends: the wait for its gate, and the switch of which it is the new feed (R337, R339). -/
def onMarks (c : Nat) (s : State) : List Upd :=
  [.set (V.fedOkAt c) 0, .set (V.fedIreg c) 0] ++
  ((if s.rd V.swPhase = 2 && s.rd FED_SELSTAT.sel = c then
    [note Ty.FEED_SWITCH (fedSrc c) [(24, 1, s.rd V.swOld), (25, 1, c), (26, 1, s.rd V.swCause), (28, 4, s.free), (32, 8, s.rd V.swT0 - 1)],
     freeUsed s, bump s FED_SWITCHES.count, .set FED_EVT.switch 1]
   else []) ++
  onlyIf (decide (2 ≤ s.rd V.swPhase) && s.rd FED_SELSTAT.sel == c) [.set FED_SELSTAT.switching 0, .set V.swPhase 0, .set V.swOnAt (s.now + 1)])

theorem channelOn_eq (c : Nat) (s : State) : channelOn c s = fedTo c FedS.on s ++ onMarks c s := by
  simp only [channelOn, onMarks, List.append_assoc]

/-- They touch no channel's registers. -/
theorem onMarks_clears {g : Fld} (hg : 0xA0_1000 * 64 ≤ g.key ∧ g.key < 0xA0_2000 * 64) (c : Nat) (s : State) :
    (onMarks c s).all (·.clears g) = true := by
  obtain ⟨hlow, hhigh⟩ := hg
  simp [onMarks, freeUsed, note, bump, Upd.clears, Fld.key, V.fedOkAt, V.fedIreg, V.freeCtr, FED_SWITCHES.count, FED_EVT.switch, FED_SELSTAT.switching,
    V.swPhase, V.swOnAt, ivar] at hlow hhigh ⊢
  omega

theorem channelOn_on {s : State} (hs : s.Wf) {c : Nat} (hc : c < 16)
    (hfed : s.fed c = FedS.inrush ∨ (s.fed c = FedS.limit ∧ 16 * s.fedAmps c < 240 * s.rd (FED_CHLIM.i_lim c)))
    (hok : s.rd (V.fedOkAt c) ≠ 0) (hdue : s.rd (V.fedOkAt c) + 400000 ≤ s.now + 1) :
    Gives (.channelOn c) s (fun t => t.fed c = FedS.on ∧ t.rd (FED_CHSTAT.pg c) = 1) := by
  have hexec : exec (.channelOn c) s = .next (s.run (fedTo c FedS.on s ++ onMarks c s)) := by
    show execChannelOn c s = _
    rw [← channelOn_eq]
    refine whenever_of ?_ s _
    obtain hfed | ⟨hfed, hamps⟩ := hfed
    · simp [hc, hfed, hok, hdue]
    · simp [hc, hfed, hamps, hok, hdue]
  have hoff : s.fed c ≠ FedS.on := by
    obtain hfed | ⟨hfed, -⟩ := hfed <;> simp [hfed, FedS.inrush, FedS.limit, FedS.on]
  refine ⟨_, hexec, ?_, ?_⟩
  · refine (rd_run_append_clear (messageField_fedState hc) (onMarks_clears ?_ c s)).trans (fedToAt_fed hs hc (by decide) s.now)
    simp only [Fld.key, FED_CHSTAT.state]
    omega
  · refine (rd_run_append_clear (messageField_pg hc) (onMarks_clears ?_ c s)).trans (fedToAt_pg hs hc hoff s.now)
    simp only [Fld.key, FED_CHSTAT.pg]
    omega

theorem channelLimit_limits {s : State} (hs : s.Wf) {c : Nat} (hc : c < 16) (hfed : s.fed c = FedS.on)
    (hlimit : s.rd (V.limitHit c) = 1 ∨ s.atLimit c = true) :
    Gives (.channelLimit c) s (fun t => t.fed c = FedS.limit ∧ t.rd (FED_CHSTAT.pg c) = 0 ∧ t.rd (FED_CHE.e c) = 0) := by
  have hexec : exec (.channelLimit c) s = .next (s.run (fedRegulate c FedS.limit s)) := by
    show execChannelLimit c s = _
    refine whenever_of ?_ s _
    obtain h | h := hlimit <;> simp [State.on, hc, hfed, h]
  refine ⟨_, hexec, fedRegulate_fed hs hc (by decide), ?_, ?_⟩
  · refine (rd_run_append_clear (messageField_pg hc) ?_).trans (fedToAt_pg hs hc (by rw [hfed]; decide) s.now)
    simp [Upd.clears, Fld.key, FED_CHSTAT.pg, V.fedSince, V.fedE, FED_CHE.e, V.fedOkAt, V.limitHit, V.energyHit, ivar]
    omega
  · rw [fedRegulate, run_append]
    refine rd_run_sets (run_wf _ hs) (g := FED_CHE.e c) (messageField_fed hc (by omega) (by omega) _ _) [_, _] 0 ?_
    simp [Upd.clears, Fld.key, FED_CHE.e, V.fedOkAt, V.limitHit, V.energyHit, ivar]
    omega

/-! FAST_TRIP and REVERSE_TRIP (R331). -/

/-- A comparator trips a channel that is not OFF and has no trip latched (R331, R334, R342). -/
theorem comparatorTrip_eq {s : State} {c : Nat} (hon : s.fed c ≠ FedS.off) (hopen : s.fed c ≠ FedS.tripped)
    (hdamaged : s.fed c = FedS.damaged → bit (s.rd FED_TRIPMAP.latch) c = false) (cause t : Nat) :
    comparatorTrip c cause t s = s.run (fedTrip c cause t s) := by
  have hlatched : ¬(s.fed c = FedS.tripped || (s.fed c = FedS.damaged && bit (s.rd FED_TRIPMAP.latch) c)) = true := by
    simp only [Bool.or_eq_true, Bool.and_eq_true, decide_eq_true_eq, not_or, not_and, Bool.not_eq_true]
    exact ⟨hopen, hdamaged⟩
  rw [comparatorTrip, if_neg hlatched, if_neg hon, does_eq]

/-- The current that the comparator saw is shown (R331). -/
def ampsShown (c : Nat) (i : Int) (s : State) : State := s.run [.set (FED_CHI.i c) (ofSigned 32 i)]

theorem ampsShown_fed {c : Nat} (hc : c < 16) (i : Int) (s : State) : (ampsShown c i s).fed c = s.fed c := by
  refine rd_run_clear (messageField_fedState hc) ?_
  simp [Upd.clears, Fld.key, FED_CHSTAT.state, FED_CHI.i]
  omega

theorem ampsShown_latch (c : Nat) (i : Int) (s : State) : (ampsShown c i s).rd FED_TRIPMAP.latch = s.rd FED_TRIPMAP.latch := by
  refine rd_run_clear (by decide) ?_
  simp [Upd.clears, Fld.key, FED_TRIPMAP.latch, FED_CHI.i]
  omega

theorem comparatorTrip_trips {s : State} (hs : s.Wf) {c cause : Nat} (hc : c < 16) (hcause : cause < 256) (t : Nat) (i : Int)
    (hon : s.fed c ≠ FedS.off) (hopen : s.fed c ≠ FedS.tripped) (hdamaged : s.fed c = FedS.damaged → bit (s.rd FED_TRIPMAP.latch) c = false) :
    (comparatorTrip c cause t (ampsShown c i s)).fed c = (if s.fed c = FedS.damaged then FedS.damaged else FedS.tripped) ∧
      (comparatorTrip c cause t (ampsShown c i s)).rd (FED_CHSTAT.cause c) = cause ∧
      bit ((comparatorTrip c cause t (ampsShown c i s)).rd FED_TRIPMAP.latch) c = true := by
  have htrips := fedTrip_trips (s := ampsShown c i s) (run_wf _ hs) hc hcause t
  rw [ampsShown_fed hc] at htrips
  rw [comparatorTrip_eq (by rwa [ampsShown_fed hc]) (by rwa [ampsShown_fed hc]) (by rwa [ampsShown_fed hc, ampsShown_latch])]
  exact htrips

theorem fastTrip_trips {s : State} (hs : s.Wf) {c : Nat} (hc : c < 16) (dt : Nat) {i : Int} (hon : s.fed c ≠ FedS.off)
    (hopen : s.fed c ≠ FedS.tripped) (hdamaged : s.fed c = FedS.damaged → bit (s.rd FED_TRIPMAP.latch) c = false)
    (hfast : 16 * s.rd (FED_CHLIM.i_fast c) ≤ i.natAbs) :
    Gives (.fastTrip c dt i) s (fun t => t.fed c = (if s.fed c = FedS.damaged then FedS.damaged else FedS.tripped) ∧
      t.rd (FED_CHSTAT.cause c) = 1 ∧ bit (t.rd FED_TRIPMAP.latch) c = true) := by
  have hexec : exec (.fastTrip c dt i) s = .next (comparatorTrip c 1 (s.moment dt) (ampsShown c i s)) := by
    show execFastTrip c dt i s = _
    exact whenever_of (by simp [hc, hon, hfast]) s _
  exact ⟨_, hexec, comparatorTrip_trips hs hc (by decide) _ i hon hopen hdamaged⟩

theorem reverseTrip_trips {s : State} (hs : s.Wf) {c : Nat} (hc : c < 2) (dt : Nat) {i : Int} (hon : s.fed c ≠ FedS.off)
    (hopen : s.fed c ≠ FedS.tripped) (hdamaged : s.fed c ≠ FedS.damaged) (hrev : i ≤ -((16 * s.rd (FED_CHREV.i_rev c) : Nat) : Int)) :
    Gives (.reverseTrip c dt i) s (fun t => t.fed c = FedS.tripped ∧ t.rd (FED_CHSTAT.cause c) = 4 ∧ bit (t.rd FED_TRIPMAP.latch) c = true) := by
  have hexec : exec (.reverseTrip c dt i) s = .next (comparatorTrip c 4 (s.moment dt) (ampsShown c i s)) := by
    show execReverseTrip c dt i s = _
    exact whenever_of (by rw [decide_eq_true hc, decide_eq_true hrev, bne_iff_ne.mpr hon]; rfl) s _
  have htrips := comparatorTrip_trips hs (cause := 4) (by omega : c < 16) (by decide) (s.moment dt) i hon hopen (absurd · hdamaged)
  rw [if_neg hdamaged] at htrips
  exact ⟨_, hexec, htrips⟩

/-- A channel whose gate is driven is neither OFF, nor TRIPPED, nor DAMAGED. -/
theorem fed_of_driven {s : State} {c : Nat} (h : s.fed c = FedS.inrush ∨ s.fed c = FedS.on ∨ s.fed c = FedS.limit) :
    s.fed c ≠ FedS.off ∧ s.fed c ≠ FedS.tripped ∧ s.fed c ≠ FedS.damaged := by
  obtain h | h | h := h
  all_goals
    rw [h]
    decide

/-! TRIP_PROTECT_ORDERS (R333). -/

/-- A trip's record is raised, and is no longer due. -/
def tripRecorded (c : Nat) (s : State) : State :=
  s.run [tripRec c (s.rd (FED_CHSTAT.cause c)) (s.rd (V.tripAt c) - 1) (s.rd (V.tripV c)) (s.rd (V.tripI c)), .set (V.tripDue c) 0]

theorem tripOrders_of_latched {c b sc : Nat} {s : State} (htarget : s.fedTarget? c = some (b, sc)) (hlatch : bit (s.rd FED_TRIPMAP.latch) c = true) :
    tripOrders c s = protectHold ⟨.feedTrip c, b, 0, sc, 0⟩ (tripRecorded c s) := by
  simp only [tripOrders, htarget, hlatch, if_true]
  rfl

theorem tripOrders_of_unlatched {c : Nat} {s : State} (hlatch : bit (s.rd FED_TRIPMAP.latch) c = false) : tripOrders c s = tripRecorded c s := by
  unfold tripOrders
  split
  · rw [hlatch]
    rfl
  · rfl

theorem tripRecorded_due {s : State} (hs : s.Wf) {c : Nat} (hc : c < 16) : (tripRecorded c s).rd (V.tripDue c) = 0 :=
  rd_run_sets hs (messageField_scalar (by omega) (by omega) _ _) [_] 0 rfl

theorem tripProtectOrders_eq {s : State} {c : Nat} (hc : c < 16) (hdue : s.rd (V.tripDue c) = 1)
    (hat : boundaryOf (s.rd (V.tripAt c) - 1) ≤ s.boundary) : exec (.tripProtectOrders c) s = .next (tripOrders c s) := by
  show execTripProtectOrders c s = _
  exact whenever_of (by simp [State.on, hc, hdue, hat]) s _

theorem tripProtectOrders_holds {s : State} (hs : s.Wf) {c b sc : Nat} (hc : c < 16) (hdue : s.rd (V.tripDue c) = 1)
    (hat : boundaryOf (s.rd (V.tripAt c) - 1) ≤ s.boundary) (htarget : s.fedTarget? c = some (b, sc)) (hlatch : bit (s.rd FED_TRIPMAP.latch) c = true) :
    Gives (.tripProtectOrders c) s (fun t => t.rd (V.tripDue c) = 0 ∧ ⟨.feedTrip c, b, 0, sc, 0⟩ ∈ t.orders.holds) := by
  refine ⟨_, tripProtectOrders_eq hc hdue hat, ?_⟩
  rw [tripOrders_of_latched htarget hlatch]
  refine ⟨?_, protectHold_holds _ _⟩
  have hkey : (V.tripDue c).key ≠ TIM_PROTSEQ.next.key := by
    simp only [Fld.key, V.tripDue, TIM_PROTSEQ.next, ivar]
    omega
  have hheld := protectHold_spares (p := (· == (V.tripDue c).key)) (x := ⟨.feedTrip c, b, 0, sc, 0⟩) (beq_false_of_ne hkey.symm)
    (Via.refl (tripRecorded c s))
  exact (hheld.rd_spares (messageField_scalar (by omega) (by omega) _ _) (beq_self_eq_true _)).trans (tripRecorded_due hs hc)

/-- A trip whose latch has cleared by then is recorded, and orders nothing. -/
theorem tripProtectOrders_withdraws {s : State} (hs : s.Wf) {c : Nat} (hc : c < 16) (hdue : s.rd (V.tripDue c) = 1)
    (hat : boundaryOf (s.rd (V.tripAt c) - 1) ≤ s.boundary) (hlatch : bit (s.rd FED_TRIPMAP.latch) c = false) :
    Gives (.tripProtectOrders c) s (fun t => t.rd (V.tripDue c) = 0 ∧ t.orders = s.orders ∧ Raised Ty.PROTECT_TRIP t) := by
  refine ⟨_, tripProtectOrders_eq hc hdue hat, ?_⟩
  rw [tripOrders_of_unlatched hlatch]
  exact ⟨tripRecorded_due hs hc, rfl, raised_emit s _⟩

/-! TRIP_CLEAR (R332). -/

/-- Only the latch of its own channel leaves the map. -/
theorem fedUnlatch_latch {s : State} (hs : s.Wf) {c : Nat} (hc : c < 16) :
    (fedUnlatch c s).rd FED_TRIPMAP.latch = clearBit (s.rd FED_TRIPMAP.latch) c % 2 ^ 16 := by
  unfold fedUnlatch
  split
  next h =>
    have hcleared := rd_run_sets hs (g := FED_TRIPMAP.latch) (by decide) [] (vs := []) (clearBit (s.rd FED_TRIPMAP.latch) c) rfl
    have hready := Passing.does (Via.refl (s.run [.set FED_TRIPMAP.latch (clearBit (s.rd FED_TRIPMAP.latch) c)]))
      fun t => all_spares_fewer (offChannel_of_fedTileKey hc) (fedReady_offChannel hc t)
    refine Eq.trans ?_ hcleared
    refine Passing.rd_spares (p := fedTileKey) ?_ (by decide) (by decide)
    split
    · exact protectDrop_spares (by decide) hready
    · exact hready
  next h =>
    have hclear : clearBit (s.rd FED_TRIPMAP.latch) c = s.rd FED_TRIPMAP.latch := if_neg h
    rw [hclear]
    exact (Nat.mod_eq_of_lt (rd_lt s FED_TRIPMAP.latch)).symm

/-- Once every channel of a list is cleared, the map shows no latch that the list names. -/
theorem fedUnlatchEach_clears {c : Nat} (hc : c < 16) {l : List Nat} (hl : ∀ d ∈ l, d < 16) {s : State} (hs : s.Wf)
    (hnamed : bit (s.rd FED_TRIPMAP.latch) c = true → c ∈ l) :
    bit ((l.foldl (fun t d => fedUnlatch d t) s).rd FED_TRIPMAP.latch) c = false := by
  induction l generalizing s with
  | nil => exact Bool.eq_false_iff.mpr fun h => nomatch hnamed h
  | cons d l ih =>
    refine ih (fun e he => hl e (by simp [he])) ((fedUnlatch_spares (hl d (by simp)) (Via.refl s)).wf hs) fun h => ?_
    rw [fedUnlatch_latch hs (hl d (by simp)), bit_mod_two_pow hc] at h
    obtain rfl | hne := eq_or_ne c d
    · rw [bit_clearBit_same] at h
      cases h
    · rw [bit_clearBit_ne hne] at h
      exact (List.mem_cons.mp (hnamed h)).resolve_left hne

/-- The latches that a write clears. -/
def tripsCleared (w : ClearWrite) (s : State) : State := (bitsOf 16 (clearBits w.value w.hw)).foldl (fun t c => fedUnlatch c t) s

theorem tripClear_clears {s : State} (hs : s.Wf) {req value c hw : Nat} (hreach : s.Reaches req 0xA0_0030 4 value false) (hc : c < 16)
    (hvalue : bit value c = true) (hkept : bit hw c = false) :
    Gives (.tripClear req ⟨value, hw⟩) s (fun t => bit (t.rd FED_TRIPMAP.latch) c = false) := by
  have hexec : exec (.tripClear req ⟨value, hw⟩) s =
      .next ((feedsFollow (gathered (tripsCleared ⟨value, hw⟩) s)).run (hostTraffic req true 4)) := by
    show execTripClear req ⟨value, hw⟩ s = _
    exact gated_of_reaches hreach _
  obtain ⟨us, -, hgathered⟩ := rd_gathered (tripsCleared ⟨value, hw⟩) s
  refine ⟨_, hexec, ?_⟩
  beta_reduce
  rw [rd_run_hostTraffic, (feedsFollow_tile (Via.refl _)).rd_spares (by decide) (by decide), hgathered _ (by decide) (by decide)]
  refine fedUnlatchEach_clears hc (fun d hd => List.mem_range.mp (List.mem_of_mem_filter hd)) (run_wf us hs) fun _ => ?_
  exact List.mem_filter.mpr ⟨List.mem_range.mpr hc, bit_clearBits_of hvalue hkept⟩

end Sys2Proof.Machine
end

section
/-! What a channel found damaged does (R334, R335), and what the loss of the last feed leaves (R340). -/

namespace Sys2Proof.Machine

/-! The loss of the last feed (R340). -/

/-- A channel whose gate is driven: it can be commanded off. -/
def State.fedLive (s : State) (c : Nat) : Bool := s.fed c == FedS.inrush || s.fed c == FedS.on || s.fed c == FedS.limit

/-- What the selector shows and holds is given up. -/
def selectorCleared (s : State) : State :=
  s.run [.set FED_SELSTAT.sel selNone, .set FED_SELSTAT.switching 0, .set FED_SELSTAT.hold 0, .set V.swPend 0, .set V.swPhase 0]

/-- The feeds and the loads are off, and each branch that is bound has its trip recorded and is to be held off. -/
def branchesLost (t : State) : State :=
  let loads := ((List.range 16).drop 2).filter t.fedLive
  let branches := ((List.range 10).drop 2).filter (fun c => t.rd (FED_CHCFG.bind c) != 0)
  let u := (t.run [.set V.noFeed 1, .set FED_EVT.nofeed 1]).doEach ([0, 1].filter t.fedLive ++ loads) fedOff
  let w := u.run (branches.flatMap (fun c => [tripRec c 7 u.now (u.rd (FED_CHV.vout c)) (u.rd (FED_CHI.i c)), .set (FED_CHSTAT.cause c) 7]))
  protectHoldAll (branches.map (fun c => ⟨.noFeed c, Blk.seq, Tgt.groupPwr, c - 2, 0⟩)) w

theorem noFeed_eq (s : State) : noFeed s =
    if s.on V.feedSeen && !s.on V.noFeed then branchesLost (selectorCleared s)
    else (selectorCleared s).doEach ([0, 1].filter (selectorCleared s).fedLive) fedOff := rfl

theorem selectorCleared_fed {c : Nat} (hc : c < 16) (s : State) : (selectorCleared s).fed c = s.fed c := by
  refine rd_run_clear (messageField_fedState hc) ?_
  simp [Upd.clears, Fld.key, FED_CHSTAT.state, FED_SELSTAT.sel, FED_SELSTAT.switching, FED_SELSTAT.hold, V.swPend, V.swPhase, ivar]
  omega

/-- The fields that the loss of the last feed sets beside those of the channels that it turns off. -/
def lossFields : List Fld :=
  [FED_SELSTAT.sel, FED_SELSTAT.switching, FED_SELSTAT.hold, V.swPend, V.swPhase, V.noFeed, FED_EVT.nofeed, TIM_PROTSEQ.next]

section
variable {p : Nat → Bool} {s₀ s : State}

/-- Channels commanded off leave what is apart from each of them. -/
theorem fedOffEach_spares {l : List Nat} (hl : ∀ c ∈ l, c < 16 ∧ ∀ k, p k = true → offChannel c k = true) (h : Passing (Upd.spares p) s₀ s) :
    Passing (Upd.spares p) s₀ (s.doEach l fedOff) :=
  h.foldl_mem fun c hc t k => by
    obtain ⟨hlt, hoff⟩ := hl c hc
    exact k.trans ((Passing.does (Via.refl t) (fedOff_offChannel hlt)).fewer hoff)

theorem noFeed_spares (hloss : lossFields.all (fun f => !p f.key) = true) (hcause : ∀ c < 10, p (FED_CHSTAT.cause c).key = false)
    (hlive : ∀ c < 16, s.fedLive c = true → ∀ k, p k = true → offChannel c k = true) : Passing (Upd.spares p) s (noFeed s) := by
  simp only [lossFields, List.all_cons, List.all_nil, Bool.and_true, Bool.and_eq_true, Bool.not_eq_true'] at hloss
  obtain ⟨hsel, hswitching, hhold, hpend, hphase, hnoFeed, hevent, hprot⟩ := hloss
  have hcleared : Passing (Upd.spares p) s (selectorCleared s) := Passing.run (Via.refl s) (by simp [Upd.spares, hsel, hswitching, hhold, hpend, hphase])
  have hoff {c : Nat} (hc : c < 16) (h : (selectorCleared s).fedLive c = true) : c < 16 ∧ ∀ k, p k = true → offChannel c k = true := by
    rw [State.fedLive, selectorCleared_fed hc] at h
    exact ⟨hc, hlive c hc h⟩
  have hfeeds : ∀ c ∈ [0, 1].filter (selectorCleared s).fedLive, c < 16 ∧ ∀ k, p k = true → offChannel c k = true := fun c hc => by
    obtain ⟨hc, h⟩ := List.mem_filter.mp hc
    exact hoff (by simp at hc; omega) h
  have hloads : ∀ c ∈ ((List.range 16).drop 2).filter (selectorCleared s).fedLive, c < 16 ∧ ∀ k, p k = true → offChannel c k = true := fun c hc => by
    obtain ⟨hc, h⟩ := List.mem_filter.mp hc
    exact hoff (List.mem_range.mp (List.mem_of_mem_drop hc)) h
  rw [noFeed_eq]
  refine Passing.ite ?_ (fedOffEach_spares hfeeds hcleared)
  refine Passing.foldl (Passing.run (fedOffEach_spares ?_ (hcleared.run ?_)) ?_) fun _ k => protectHold_spares hprot k
  · exact fun c hc => (List.mem_append.mp hc).elim (hfeeds c) (hloads c)
  · simp [Upd.spares, hnoFeed, hevent]
  · rw [List.all_flatMap, List.all_eq_true]
    intro c hc
    have hc := List.mem_range.mp (List.mem_of_mem_drop (List.mem_of_mem_filter hc))
    simp [tripRec, Upd.spares, hcause c hc]

end

/-! DAMAGE_DETECT (R334, R335). -/

/-- A channel is marked DAMAGED, with its record (R334). -/
def damageMarked (c code : Nat) (s : State) : State :=
  s.run (fedTo c FedS.damaged s ++
    [.set FED_DMGMAP.dmg (setBit (s.rd FED_DMGMAP.dmg) c), .set (FED_CHSTAT.cause c) 5, .set FED_EVT.damaged 1, .set (V.fedIreg c) 0,
     note Ty.FEED_DAMAGED (fedSrc c) [(24, 1, c), (25, 1, code), (26, 2, s.rd (FED_CHV.vout c)), (28, 4, s.rd (FED_CHI.i c))]])

/-- Its group is held off, where it feeds one. -/
def damageHeld (c code : Nat) (s : State) : State :=
  if 2 ≤ c && c < 10 then protectHold ⟨.feedDamaged c, Blk.seq, Tgt.groupPwr, c - 2, 0⟩ (damageMarked c code s) else damageMarked c code s

/-- The feeds whose gates are driven trip, and none is usable (R335). -/
def feedsTripped (c now : Nat) (u : State) : State :=
  let w := u.run [.set (V.escalated c) 1]
  (w.doEach ([0, 1].filter w.fedLive) (fun f => fedTrip f 6 now)).run
    [.set FED_SELSTAT.usable_a 0, .set FED_SELSTAT.usable_b 0, .set (V.usableAt 0) 0, .set (V.usableAt 1) 0, .set FED_EVT.usable 1]

/-- What damage does within the cycle that forms its orders. -/
def damageTaken (c code : Nat) (s : State) : State :=
  if 2 ≤ c && s.on FED_CTL.esc_en && 16 * s.rd (FED_CHLIM.i_lim c) ≤ (s.fedAmps c).natAbs then noFeed (feedsTripped c s.now (damageHeld c code s))
  else damageHeld c code s

theorem fedDamage_eq (c code : Nat) (s : State) : fedDamage c code s = gathered (damageTaken c code) s := rfl

theorem damageMarked_damaged {s : State} (hs : s.Wf) {c : Nat} (hc : c < 16) (code : Nat) :
    (damageMarked c code s).fed c = FedS.damaged ∧ bit ((damageMarked c code s).rd FED_DMGMAP.dmg) c = true := by
  constructor
  · refine (rd_run_append_clear (messageField_fedState hc) ?_).trans (fedToAt_fed hs hc (by decide) s.now)
    simp [note, Upd.clears, Fld.key, FED_CHSTAT.state, FED_DMGMAP.dmg, FED_CHSTAT.cause, FED_EVT.damaged, V.fedIreg, ivar]
    omega
  · refine (congrArg (bit · c) (rd_run_sets hs (g := FED_DMGMAP.dmg) (by decide) _ _ ?_)).trans ((bit_mod_two_pow hc).trans (bit_setBit_same _ c))
    simp [note, Upd.clears, Fld.key, FED_DMGMAP.dmg, FED_CHSTAT.cause, FED_EVT.damaged, V.fedIreg, ivar]
    omega

/-- The state of a damaged channel, and the map of damage. -/
def damageKey (c k : Nat) : Bool := k == (FED_CHSTAT.state c).key || k == FED_DMGMAP.dmg.key

@[simp] theorem damageKey_eq_false (c k : Nat) : damageKey c k = false ↔ k ≠ (FED_CHSTAT.state c).key ∧ k ≠ FED_DMGMAP.dmg.key := by
  simp [damageKey]

theorem offTrip_of_damageKey {c d : Nat} (hc : c < 16) (hne : d ≠ c) (k : Nat) (h : damageKey c k = true) : offTrip d k = true := by
  simp only [damageKey, Bool.or_eq_true, beq_iff_eq] at h
  obtain rfl | rfl := h
  · exact offTrip_state hc hne
  · exact offTrip_dmg d

theorem feedsTripped_spares {c : Nat} (hc : c < 16) (hfeed : 2 ≤ c) (now : Nat) (u : State) :
    Passing (Upd.spares (damageKey c)) u (feedsTripped c now u) := by
  refine Passing.run (Passing.foldl_mem (Passing.run (Via.refl u) ?_) fun f hf t k => ?_) ?_
  · simp [Upd.spares, Fld.key, FED_CHSTAT.state, FED_DMGMAP.dmg, V.escalated, ivar]
    omega
  · have hf : f < 2 := by
      have := List.mem_of_mem_filter hf
      simp at this
      omega
    exact k.does fun t => all_spares_fewer (offTrip_of_damageKey hc (by omega)) (fedTrip_offTrip (by omega) _ _ _)
  · simp [Upd.spares, Fld.key, FED_CHSTAT.state, FED_DMGMAP.dmg, FED_SELSTAT.usable_a, FED_SELSTAT.usable_b, V.usableAt, FED_EVT.usable, ivar]
    omega

theorem noFeed_keeps_damage {s : State} {c : Nat} (hc : c < 16) (hfed : s.fed c = FedS.damaged) : Passing (Upd.spares (damageKey c)) s (noFeed s) := by
  refine noFeed_spares ?_ (fun d hd => ?_) fun d hd hlive k hk => ?_
  · simp [lossFields, Fld.key, FED_CHSTAT.state, FED_DMGMAP.dmg, FED_SELSTAT.sel, FED_SELSTAT.switching, FED_SELSTAT.hold, V.swPend, V.swPhase, V.noFeed,
      FED_EVT.nofeed, TIM_PROTSEQ.next, ivar]
    omega
  · simp [Fld.key, FED_CHSTAT.state, FED_CHSTAT.cause, FED_DMGMAP.dmg]
    omega
  · refine offChannel_of_offTrip k (offTrip_of_damageKey hc ?_ k hk)
    rintro rfl
    rw [State.fedLive, hfed] at hlive
    cases hlive

theorem damageTaken_damaged {s : State} (hs : s.Wf) {c : Nat} (hc : c < 16) (code : Nat) :
    (damageTaken c code s).fed c = FedS.damaged ∧ bit ((damageTaken c code s).rd FED_DMGMAP.dmg) c = true := by
  obtain ⟨hfed, hdmg⟩ := damageMarked_damaged hs hc code
  have hstate : damageKey c (FED_CHSTAT.state c).key = true := by simp [damageKey]
  have hmap : damageKey c FED_DMGMAP.dmg.key = true := by simp [damageKey]
  have hprot : damageKey c TIM_PROTSEQ.next.key = false := by
    simp [Fld.key, FED_CHSTAT.state, FED_DMGMAP.dmg, TIM_PROTSEQ.next]
    omega
  have hheld : Passing (Upd.spares (damageKey c)) (damageMarked c code s) (damageHeld c code s) :=
    (protectHold_spares hprot (Via.refl _)).ite (Via.refl _)
  have htaken : Passing (Upd.spares (damageKey c)) (damageMarked c code s) (damageTaken c code s) := by
    unfold damageTaken
    split
    next hesc =>
      have hfeed : 2 ≤ c := by
        simp only [Bool.and_eq_true, decide_eq_true_eq] at hesc
        exact hesc.1.1
      have htripped := hheld.trans (feedsTripped_spares hc hfeed s.now (damageHeld c code s))
      exact htripped.trans (noFeed_keeps_damage hc ((Passing.rd_spares htripped (messageField_fedState hc) hstate).trans hfed))
    next => exact hheld
  constructor
  · exact (htaken.rd_spares (messageField_fedState hc) hstate).trans hfed
  · rw [htaken.rd_spares (by decide) hmap]
    exact hdmg

theorem damageDetect_damages {s : State} (hs : s.Wf) {c : Nat} (hc : c < 16) (hcode : s.damageCode c ≠ 0) :
    Gives (.damageDetect c) s (fun t => t.fed c = FedS.damaged ∧ bit (t.rd FED_DMGMAP.dmg) c = true) := by
  have hexec : exec (.damageDetect c) s = .next (gathered (damageTaken c (s.damageCode c)) s) := by
    show execDamageDetect c s = _
    rw [← fedDamage_eq]
    exact whenever_of (by simp [hc, hcode]) s _
  obtain ⟨us, -, hgathered⟩ := rd_gathered (damageTaken c (s.damageCode c)) s
  obtain ⟨hfed, hdmg⟩ := damageTaken_damaged (run_wf us hs) hc (s.damageCode c)
  have hprot : (FED_CHSTAT.state c).key ≠ TIM_PROTSEQ.next.key := by
    simp only [Fld.key, FED_CHSTAT.state, TIM_PROTSEQ.next]
    omega
  refine ⟨_, hexec, (hgathered _ (messageField_fedState hc) hprot).trans hfed, ?_⟩
  rw [hgathered _ (by decide) (by decide)]
  exact hdmg

/-- Settles O33, a clause for each form and two for a damaged channel and a latch that has cleared: INRUSH_TRIP, LIMIT_TRIP, CHANNEL_ON, CHANNEL_LIMIT,
FAST_TRIP, REVERSE_TRIP, TRIP_PROTECT_ORDERS, TRIP_CLEAR and DAMAGE_DETECT (R328-R334). -/
theorem feedChannelCommandsTakeEffect : Obligations.FeedChannelCommandsTakeEffect := by
  unfold Obligations.FeedChannelCommandsTakeEffect
  refine ⟨?_, ?_, ?_, ?_, ?_, ?_, ?_, ?_, ?_, ?_, ?_⟩
  · intro s c hs hc hfed hfold
    exact foldBack_trips hs hc hfed (by decide) hfold
  · intro s c hs hc hfed hfold
    exact foldBack_trips hs hc hfed (by decide) hfold
  · intro s c hs hc hfed hok hdue
    exact channelOn_on hs hc hfed hok hdue
  · intro s c hs hc hfed hlimit
    exact channelLimit_limits hs hc hfed hlimit
  · intro s c dt i hs hc hfed hfast
    obtain ⟨hon, hopen, hdamaged⟩ := fed_of_driven hfed
    have htrips := fastTrip_trips hs hc dt hon hopen (absurd · hdamaged) hfast
    rwa [if_neg hdamaged] at htrips
  · intro s c dt i hs hc hfed hrev
    obtain ⟨hon, hopen, hdamaged⟩ := fed_of_driven hfed
    exact reverseTrip_trips hs hc dt hon hopen hdamaged hrev
  · intro s c b sc hs hc hdue hat htarget hlatch
    exact tripProtectOrders_holds hs hc hdue hat htarget hlatch
  · intro s req value c hw hs hreach hc hvalue hkept
    exact tripClear_clears hs hreach hc hvalue hkept
  · intro s c hs hc hcode
    exact damageDetect_damages hs hc hcode
  · intro s c dt i hs hc hfed hlatch hfast
    have htrips := fastTrip_trips hs hc dt (by rw [hfed]; decide) (by rw [hfed]; decide) (fun _ => hlatch) hfast
    rwa [if_pos hfed] at htrips
  · intro s c hs hc hdue hat hlatch
    exact tripProtectOrders_withdraws hs hc hdue hat hlatch

end Sys2Proof.Machine
end
section
/-! SUPPORT. What PROTECT's holds leave of the standing orders, which decide what is on (R28, R29, R583). -/

namespace Sys2Proof.Machine

/-- The update leaves the standing orders. -/
def Upd.leavesStanding (os : List Order) : Upd → Prop
  | .orders o => o.standing = os
  | .coldStart => False
  | _ => True

theorem standing_run {us : List Upd} {s : State} {os : List Order} (h : s.orders.standing = os) (hu : ∀ u ∈ us, u.leavesStanding os) :
    (s.run us).orders.standing = os := by
  induction us generalizing s with
  | nil => exact h
  | cons u us ih =>
    obtain ⟨hfirst, hrest⟩ := List.forall_mem_cons.mp hu
    refine ih ?_ hrest
    cases u
    case orders o => exact hfirst
    case coldStart => exact hfirst.elim
    case flushVectors => rw [apply_flush]; exact h
    all_goals exact h

theorem numberProtect_leavesStanding (o : Order) (s : State) : ∀ u ∈ numberProtect o s, u.leavesStanding s.orders.standing := by
  have hemit (r : Rec) : (Upd.emit r).leavesStanding s.orders.standing := trivial
  refine all_append ?_ (by simp [bump, Upd.leavesStanding])
  unfold issueOrder acceptOrder refuseOrder
  split
  · refine all_append (all_append (by simp [hemit]) fun u hu => ?_) (by simp [Upd.leavesStanding])
    obtain ⟨p, -, rfl⟩ := List.mem_map.mp hu
    exact hemit _
  · simp [hemit]

theorem standing_numberProtect (o : Order) (s : State) : (s.does (numberProtect o)).orders.standing = s.orders.standing :=
  standing_run rfl (numberProtect_leavesStanding o s)

theorem standing_issueProtectOrder (blk target scope : Nat) (release : Bool) (value : Nat) (mark : Bool) (s : State) :
    (s.does (issueProtectOrder blk target scope release value mark)).orders.standing = s.orders.standing := by
  rw [does_eq, issueProtectOrder]
  split
  · rfl
  · exact standing_numberProtect _ s

theorem standing_protectDrop (holder : Holder) (blk target scope : Nat) (s : State) :
    (protectDrop holder blk target scope s).orders.standing = s.orders.standing := by
  unfold protectDrop
  dsimp only
  split_ifs
  · exact standing_issueProtectOrder _ _ _ _ _ _ _
  · rfl
  · exact standing_issueProtectOrder _ _ _ _ _ _ _
  · rfl

/-- What leaves the standing orders one after another leaves them. -/
theorem standing_foldl {α : Type} {f : State → α → State} (hf : ∀ t a, (f t a).orders.standing = t.orders.standing) (l : List α) (s : State) :
    (l.foldl f s).orders.standing = s.orders.standing := by
  induction l generalizing s with
  | nil => rfl
  | cons a l ih => exact (ih _).trans (hf s a)

theorem standing_gathered {f : State → State} (hf : ∀ t, (f t).orders.standing = t.orders.standing) (s : State) :
    (gathered f s).orders.standing = s.orders.standing := by
  unfold gathered
  split
  · exact hf s
  · exact (standing_foldl (fun t o => standing_numberProtect o t) _ _).trans (hf _)

/-- What is on depends on the standing orders alone. -/
theorem isOn_of_standing {s t : State} (h : t.orders.standing = s.orders.standing) (blk target scope : Nat) :
    t.isOn blk target scope = s.isOn blk target scope := by
  simp only [State.isOn, Orders.value, Orders.deciding, h]

end Sys2Proof.Machine
end

section
/-! What the selector's commands do: FEED_USABLE to PIN_HOLD_END (R336-R340). -/

namespace Sys2Proof.Machine

theorem messageField_feedUsable (f : Nat) : messageField (feedUsable f) = false := by
  unfold feedUsable
  split <;> decide

theorem feedUsable_width (f : Nat) : (feedUsable f).width = 1 := by
  unfold feedUsable
  split <;> rfl

/-- Each feed has its own mark. -/
theorem feedUsable_key_ne {f : Nat} (hf : f < 2) : (feedUsable (1 - f)).key ≠ (feedUsable f).key := by
  interval_cases f <;> decide

/-- The marks of the feeds: bits 1 and 0 of FED_SELSTAT (R336). -/
def markKey (k : Nat) : Bool := k == FED_SELSTAT.usable_a.key || k == FED_SELSTAT.usable_b.key

theorem markKey_feedUsable (f : Nat) : markKey (feedUsable f).key = true := by
  unfold feedUsable
  split <;> decide

theorem fedTileKey_of_markKey (k : Nat) (h : markKey k = true) : fedTileKey k = true := by
  simp only [markKey, Bool.or_eq_true, beq_iff_eq] at h
  obtain rfl | rfl := h <;> decide

theorem feedUsable_ne {k : Nat} (hk : markKey k = false) (f : Nat) : (feedUsable f).key ≠ k := by
  rintro rfl
  rw [markKey_feedUsable] at hk
  cases hk

/-- The scalars of the feeds are no marks. -/
theorem markKey_scalar (id i w reset : Nat) : markKey (ivar id i w reset).key = false := by
  simp [markKey, Fld.key, FED_SELSTAT.usable_a, FED_SELSTAT.usable_b, ivar]
  omega

/-! FEED_UNUSABLE (R336, R337, R340). -/

/-- A feed is marked unusable (R336). -/
def usableCleared (f : Nat) (s : State) : State := s.run [.set (feedUsable f) 0, .set FED_EVT.usable 1, .set (V.usableAt f) 0]

theorem becomeUnusable_eq (f t0 : Nat) (byOrder : Bool) (s : State) : becomeUnusable f t0 byOrder s =
    let t := usableCleared f s
    if !t.on (feedUsable (1 - f)) then noFeed t
    else if t.rd V.swPhase = 1 then t
    else if t.rd FED_SELSTAT.sel ≠ f then t.run (onlyIf (t.rd V.swPend == 2) [.set V.swPend 0])
    else if byOrder then t.run [.set V.swPend 3, .set V.swT0 (t0 + 1)]
    else t.does (beginSwitch 1 t0) := rfl

theorem usableCleared_unusable {s : State} (hs : s.Wf) (f : Nat) : (usableCleared f s).rd (feedUsable f) = 0 := by
  refine (rd_run_sets hs (messageField_feedUsable f) [] 0 ?_).trans (Nat.zero_mod _)
  simp [Upd.clears, feedUsable_ne (k := FED_EVT.usable.key) (by decide), feedUsable_ne (k := (V.usableAt f).key) (markKey_scalar _ _ _ _)]

/-- The loss of the last feed leaves the marks of the feeds. -/
theorem noFeed_keeps_marks (s : State) : Passing (Upd.spares markKey) s (noFeed s) := by
  refine noFeed_spares (by decide) (fun c _ => ?_) fun c hc _ k hk => offChannel_of_fedTileKey hc k (fedTileKey_of_markKey k hk)
  simp [markKey, Fld.key, FED_CHSTAT.cause, FED_SELSTAT.usable_a, FED_SELSTAT.usable_b]
  omega

theorem beginSwitch_keeps_marks (cause t0 : Nat) (s : State) : (beginSwitch cause t0 s).all (Upd.spares markKey) = true := by
  have hsel : s.rd FED_SELSTAT.sel < 16 := (rd_lt s FED_SELSTAT.sel).trans (by decide)
  have hoff := all_spares_fewer (fun k hk => offChannel_of_fedTileKey hsel k (fedTileKey_of_markKey k hk)) (fedOff_offChannel hsel s)
  simp only [beginSwitch, List.all_append, all_ite, all_onlyIf_eq, hoff]
  simp [Upd.spares, V.swOld, V.swCause, V.swT0, V.swPend, V.swPhase, V.swJudged, V.pinHeld, markKey_scalar]
  decide

/-- Whatever follows, the marks of the feeds stay. -/
theorem becomeUnusable_follows (f t0 : Nat) (byOrder : Bool) (s : State) :
    Passing (Upd.spares markKey) (usableCleared f s) (becomeUnusable f t0 byOrder s) := by
  have hcleared : Passing (Upd.spares markKey) (usableCleared f s) (usableCleared f s) := Via.refl _
  rw [becomeUnusable_eq]
  refine (noFeed_keeps_marks _).ite (hcleared.ite (Passing.ite (hcleared.run ?_) (Passing.ite (hcleared.run ?_)
    (hcleared.does (beginSwitch_keeps_marks 1 t0)))))
  · simp [Upd.spares, V.swPend, markKey_scalar]
  · simp [Upd.spares, V.swPend, V.swT0, markKey_scalar]

theorem feedUnusable_ends {s : State} (hs : s.Wf) {f : Nat} (hf : f < 2) (husable : s.rd (feedUsable f) = 1)
    (hlost : s.feedFit f = false ∨ s.vinLost f = true) : Gives (.feedUnusable f) s (fun t => t.rd (feedUsable f) = 0) := by
  have hexec : exec (.feedUnusable f) s = .next (becomeUnusable f (if s.vinLost f then s.rd (V.vinOutAt f) - 1 else s.now)
      (!s.vinLost f && !s.isOn Blk.fed Tgt.chEn f && s.fed f != FedS.tripped && s.fed f != FedS.damaged) s) := by
    show execFeedUnusable f s = _
    refine whenever_of ?_ s _
    obtain h | h := hlost <;> simp [State.on, hf, husable, h]
  refine ⟨_, hexec, ?_⟩
  exact ((becomeUnusable_follows f _ _ s).rd_spares (messageField_feedUsable f) (markKey_feedUsable f)).trans (usableCleared_unusable hs f)

/-! FEED_REVERT (R337). -/

theorem feedRevert_waits {s : State} (hs : s.Wf) (hrevert : s.rd FED_SELCFG.revert = 1) (hsel : s.rd FED_SELSTAT.sel = 1 - s.rd FED_SELCFG.primary)
    (husable : s.rd (feedUsable (s.rd FED_SELCFG.primary)) = 1) (hphase : s.rd V.swPhase = 0) (hpend : s.rd V.swPend = 0)
    (hat : s.rd (V.usableAt (s.rd FED_SELCFG.primary)) ≠ 0)
    (hdue : s.rd (V.usableAt (s.rd FED_SELCFG.primary)) + s.rd FED_SELCFG.ret * 4000000000 ≤ s.now + 1) :
    Gives .feedRevert s (fun t => t.rd V.swPend = 2 ∧ OnlyFields [V.swPend] s t) := by
  have hexec : exec .feedRevert s = .next (s.run [.set V.swPend 2]) := by
    show execFeedRevert s = _
    exact whenever_of (by simp [State.on, hrevert, hsel, husable, hphase, hpend, hat, hdue]) s _
  exact ⟨_, hexec, run_set_one hs (f := V.swPend) (by decide) (us := []) (vs := []) (by simp) (by simp) (v := 2) (by decide)⟩

/-! NEW_FEED_INRUSH (R337). -/

/-- An old feed that reads off is judged, and nothing else. -/
theorem judgeOld_of_off {s : State} (hoff : s.oldFeedOn = false) : judgeOld s = s ∨ judgeOld s = s.run [.set V.swJudged 1] := by
  unfold judgeOld
  split
  · rw [hoff]
    exact .inr rfl
  · exact .inl rfl

theorem rd_judgeOld {s : State} (hoff : s.oldFeedOn = false) {g : Fld} (hm : messageField g = false) (hg : g.key ≠ V.swJudged.key) :
    (judgeOld s).rd g = s.rd g := by
  obtain h | h := judgeOld_of_off hoff
  · rw [h]
  · rw [h]
    exact rd_run_clear hm (by simp [Upd.clears, hg])

theorem judgeOld_wf {s : State} (hs : s.Wf) (hoff : s.oldFeedOn = false) : (judgeOld s).Wf := by
  obtain h | h := judgeOld_of_off hoff
  · rw [h]
    exact hs
  · rw [h]
    exact run_wf _ hs

theorem newFeedInrush_starts {s : State} (hs : s.Wf) (hphase : s.rd V.swPhase = 1) (hrun : s.rd V.pfailRun = 0) (hold : s.rd V.swOld < 2)
    (hdue : s.rd V.swT0 + (s.judgeTime + s.rd FED_SELCFG.dead) * 4000 ≤ s.now + 1) (hoff : s.oldFeedOn = false)
    (husable : s.rd (feedUsable (1 - s.rd V.swOld)) = 1) :
    Gives .newFeedInrush s (fun t => t.rd V.swPhase = 2 ∧ t.fed (1 - s.rd V.swOld) = FedS.inrush) := by
  have hwf := judgeOld_wf hs hoff
  have hnew : 1 - s.rd V.swOld < 16 := by omega
  have hrest : (judgeOld s).rd V.swPhase = 1 := (rd_judgeOld hoff (by decide) (by decide)).trans hphase
  have hready : (judgeOld s).rd (feedUsable (1 - s.rd V.swOld)) = 1 :=
    (rd_judgeOld hoff (messageField_feedUsable _) (feedUsable_ne (by decide) _)).trans husable
  have hexec : exec .newFeedInrush s =
      .next (((judgeOld s).run [.set V.swPhase 2]).does (fedRegulate (1 - s.rd V.swOld) FedS.inrush)) := by
    show execNewFeedInrush s = _
    have hstarts : newFeed s = ((judgeOld s).run [.set V.swPhase 2]).does (fedRegulate (1 - s.rd V.swOld) FedS.inrush) := by
      simp only [newFeed, State.on, hrest, hready, ne_eq, not_true, if_false, beq_self_eq_true, if_true]
    rw [← hstarts]
    exact whenever_of (by simp [hphase, hrun, hdue]) s _
  refine ⟨_, hexec, ?_, fedRegulate_fed (run_wf _ hwf) hnew (by decide)⟩
  have hkept := Passing.does (Via.refl ((judgeOld s).run [.set V.swPhase 2]))
    fun t => all_spares_fewer (offChannel_of_fedTileKey hnew) (fedRegulate_offChannel hnew FedS.inrush t)
  exact (hkept.rd_spares (by decide) (by decide)).trans (rd_run_sets hwf (by decide) [] 2 rfl)

/-! PIN_HOLD_END (R339). -/

theorem pinHoldEnd_ends {s : State} (hs : s.Wf) (hhold : s.rd FED_SELSTAT.hold = 1) (hphase : s.rd V.swPhase = 0) (hat : s.rd V.swOnAt ≠ 0)
    (hdue : s.rd V.swOnAt + 40000 ≤ s.now + 1) :
    Gives .pinHoldEnd s (fun t => t.rd FED_SELSTAT.hold = 0 ∧ OnlyFields [FED_SELSTAT.hold, V.swOnAt] s t) := by
  have hexec : exec .pinHoldEnd s = .next (s.run [.set FED_SELSTAT.hold 0, .set V.swOnAt 0]) := by
    show execPinHoldEnd s = _
    exact whenever_of (by simp [State.on, hhold, hphase, hat, hdue]) s _
  refine ⟨_, hexec, rd_run_sets hs (by decide) [] 0 (by decide), onlyFields_run_of_bus (by simp [Upd.setsOnly]) rfl⟩

/-! FEED_USABLE (R336, R340). -/

/-- The absence of a feed ends where one is usable again: the branches' holds are let go (R340). -/
def branchesFreed (t : State) : State :=
  if t.on V.noFeed then
    gathered (fun v => (List.range 16).foldl (fun w c => protectDrop (.noFeed c) Blk.seq Tgt.groupPwr (c - 2) w) v) (t.run [.set V.noFeed 0])
  else t

/-- A feed is marked usable, and the branches are freed. -/
def usableMarked (f : Nat) (s : State) : State := branchesFreed (s.does (markUsable f))

/-- The other feed is marked too, where it qualifies at the same time. -/
def bothMarked (f : Nat) (u : State) : State := if u.feedQualifies (1 - f) then u.does (markUsable (1 - f)) else u

theorem becomeUsable_eq (f : Nat) (s : State) : becomeUsable f s =
    if (usableMarked f s).rd FED_SELSTAT.sel = selNone then (bothMarked f (usableMarked f s)).does (firstSelect (bothMarked f (usableMarked f s)).feedChoice)
    else usableMarked f s := rfl

/-- The keys that a feed marked usable leaves: all but its mark and time, the event, and what the end of R340 writes. -/
def offMark (f k : Nat) : Bool :=
  k != (feedUsable f).key && k != FED_EVT.usable.key && k != (V.usableAt f).key && k != V.noFeed.key && k != TIM_PROTSEQ.next.key

theorem markUsable_offMark (f : Nat) (s : State) : (markUsable f s).all (Upd.spares (offMark f)) = true := by
  simp [markUsable, Upd.spares, offMark]

theorem branchesFreed_spares {p : Nat → Bool} (hnoFeed : p V.noFeed.key = false) (hprot : p TIM_PROTSEQ.next.key = false) (t : State) :
    Passing (Upd.spares p) t (branchesFreed t) :=
  (gathered_spares hprot (Passing.run (Via.refl t) (by simp [Upd.spares, hnoFeed])) fun h => h.foldl fun _ k => protectDrop_spares hprot k).ite (Via.refl t)

theorem usableMarked_offMark (f : Nat) (s : State) : Passing (Upd.spares (offMark f)) s (usableMarked f s) :=
  (Passing.does (Via.refl s) (markUsable_offMark f)).trans (branchesFreed_spares (by simp [offMark]) (by simp [offMark]) _)

theorem rd_usableMarked (f : Nat) (s : State) {g : Fld} (hm : messageField g = false) (hg : offMark f g.key = true) :
    (usableMarked f s).rd g = s.rd g := (usableMarked_offMark f s).rd_spares hm hg

theorem standing_usableMarked (f : Nat) (s : State) : (usableMarked f s).orders.standing = s.orders.standing := by
  unfold usableMarked branchesFreed
  split
  · exact standing_gathered (fun t => standing_foldl (fun w c => standing_protectDrop _ _ _ _ w) _ t) _
  · rfl

theorem now_usableMarked (f : Nat) (s : State) : (usableMarked f s).now = s.now := by
  have hcalm : Calm s (usableMarked f s) := Calm.ite (((Calm.refl s).does (by simp [markUsable])).run.gathered fun k => k.foldl (·.protectDrop))
    ((Calm.refl s).does (by simp [markUsable]))
  exact hcalm.1

/-- A feed that is marked is usable. -/
theorem markUsable_usable {s : State} (hs : s.Wf) (f : Nat) : (s.does (markUsable f)).rd (feedUsable f) = 1 := by
  refine (rd_run_sets hs (messageField_feedUsable f) [] 1 ?_).trans (by rw [feedUsable_width]; rfl)
  simp [Upd.clears, feedUsable_ne (k := FED_EVT.usable.key) (by decide), feedUsable_ne (k := (V.usableAt f).key) (markKey_scalar _ _ _ _)]

theorem usableMarked_usable {s : State} (hs : s.Wf) (f : Nat) : (usableMarked f s).rd (feedUsable f) = 1 :=
  ((branchesFreed_spares (by decide) (by decide) _).rd_spares (messageField_feedUsable f) (markKey_feedUsable f)).trans (markUsable_usable hs f)

theorem usableMarked_wf {s : State} (hs : s.Wf) (f : Nat) : (usableMarked f s).Wf := (usableMarked_offMark f s).wf hs

theorem offMark_of {f k : Nat} (hmark : markKey k = false) (hscalar : k < 0x1_00EF_0000 * 64) (hevent : k ≠ FED_EVT.usable.key)
    (hprot : k ≠ TIM_PROTSEQ.next.key) : offMark f k = true := by
  have hat : (V.usableAt f).key = (0x1_00EF_0000 + f) * 64 := rfl
  have hnoFeed : V.noFeed.key = 0x1_00F1_0000 * 64 := rfl
  simp only [offMark, Bool.and_eq_true, bne_iff_ne]
  exact ⟨⟨⟨⟨(feedUsable_ne hmark f).symm, hevent⟩, by omega⟩, by omega⟩, hprot⟩

theorem offMark_other {f : Nat} (hf : f < 2) : offMark f (feedUsable (1 - f)).key = true := by
  simp [offMark, feedUsable_key_ne hf, feedUsable_ne (k := FED_EVT.usable.key) (by decide),
    feedUsable_ne (k := (V.usableAt f).key) (markKey_scalar _ _ _ _), feedUsable_ne (k := V.noFeed.key) (by decide),
    feedUsable_ne (k := TIM_PROTSEQ.next.key) (by decide)]

/-- A channel's registers are none of what a feed's mark writes. -/
theorem offMark_channel {c o lsb : Nat} (hc : c < 16) (ho : 0xA0_0014 ≤ o ∧ o < 0xA0_2000) (hl : lsb < 64) (f w reset : Nat) :
    offMark f (Fld.key ⟨o + 0x40 * c, lsb, w, reset⟩) = true := by
  apply offMark_of
  all_goals
    simp [markKey, Fld.key, FED_SELSTAT.usable_a, FED_SELSTAT.usable_b, FED_EVT.usable, TIM_PROTSEQ.next]
    omega

theorem offMark_scalar {id i : Nat} (hid : id < 0xEF) (hi : i < 16) (f w reset : Nat) : offMark f (ivar id i w reset).key = true := by
  refine offMark_of (markKey_scalar _ _ _ _) ?_ ?_ ?_
  all_goals
    simp only [Fld.key, FED_EVT.usable, TIM_PROTSEQ.next, ivar]
    omega

theorem usableMarked_fed (f : Nat) {c : Nat} (hc : c < 16) (s : State) : (usableMarked f s).fed c = s.fed c :=
  rd_usableMarked f s (messageField_fedState hc) (offMark_channel hc (by omega) (by omega) _ _ _)

theorem usableMarked_escalated (f : Nat) (s : State) : (usableMarked f s).anyEscalated = s.anyEscalated := by
  rw [Bool.eq_iff_iff]
  simp only [State.anyEscalated, List.any_eq_true, List.mem_range]
  refine exists_congr fun c => and_congr_right fun hc => ?_
  have hmark : (usableMarked f s).rd (V.escalated c) = s.rd (V.escalated c) :=
    rd_usableMarked f s (messageField_scalar (by omega) (by omega) _ _) (offMark_scalar (by omega) hc _ _ _)
  simp only [State.on, hmark, usableMarked_fed f hc]

/-- Whether the other feed qualifies does not depend on the mark of this one. -/
theorem usableMarked_qualifies {f : Nat} (hf : f < 2) (s : State) : (usableMarked f s).feedQualifies (1 - f) = s.feedQualifies (1 - f) := by
  have hfit : (usableMarked f s).feedFit (1 - f) = s.feedFit (1 - f) := by
    simp only [State.feedFit, usableMarked_fed f (by omega : 1 - f < 16), usableMarked_escalated, isOn_of_standing (standing_usableMarked f s)]
  have hother : (usableMarked f s).rd (feedUsable (1 - f)) = s.rd (feedUsable (1 - f)) :=
    rd_usableMarked f s (messageField_feedUsable _) (offMark_other hf)
  have hvin : (usableMarked f s).rd (V.vinInAt (1 - f)) = s.rd (V.vinInAt (1 - f)) :=
    rd_usableMarked f s (messageField_scalar (by omega) (by omega) _ _) (offMark_scalar (by omega) (by omega) _ _ _)
  have hqual : (usableMarked f s).rd (FED_FEEDQ.qual (1 - f)) = s.rd (FED_FEEDQ.qual (1 - f)) := by
    refine rd_usableMarked f s (messageField_register (by dsimp only [FED_FEEDQ.qual]; omega) (by dsimp only [FED_FEEDQ.qual]; omega)) ?_
    interval_cases f <;> decide
  simp only [State.feedQualifies, State.on, hfit, hother, hvin, hqual, now_usableMarked]

/-- The feed is the selector's choice: it is the primary, or the other is not usable (R336). -/
theorem feedChoice_eq {s : State} {f : Nat} (hf : f < 2) (husable : s.rd (feedUsable f) = 1)
    (hchosen : s.rd FED_SELCFG.primary = f ∨ s.rd (feedUsable (1 - f)) = 0) : s.feedChoice = f := by
  unfold State.feedChoice
  dsimp only
  have hprimary : s.rd FED_SELCFG.primary < 2 := rd_lt s FED_SELCFG.primary
  obtain h | h : s.rd FED_SELCFG.primary = f ∨ s.rd FED_SELCFG.primary = 1 - f := by omega
  · simp [h, State.on, husable]
  · have hother : s.rd (feedUsable (1 - f)) = 0 := hchosen.resolve_left (by omega)
    have hthis : 1 - (1 - f) = f := by omega
    simp [h, State.on, husable, hother, hthis]

theorem feedChoice_lt (s : State) : s.feedChoice < 16 := by
  have hprimary : s.rd FED_SELCFG.primary < 2 := rd_lt s FED_SELCFG.primary
  unfold State.feedChoice selNone
  dsimp only
  split_ifs <;> omega

/-- A feed that is chosen while none is selected is selected, and is in INRUSH. -/
theorem firstSelect_selects {s : State} (hs : s.Wf) {f : Nat} (hf : f < 4) :
    (s.does (firstSelect f)).rd FED_SELSTAT.sel = f ∧ (s.does (firstSelect f)).fed f = FedS.inrush := by
  rw [does_eq, firstSelect]
  constructor
  · exact (rd_run_sets hs (g := FED_SELSTAT.sel) (by decide) _ f rfl).trans (Nat.mod_eq_of_lt hf)
  · refine (rd_run_append_clear (messageField_fedState (by omega)) ?_).trans (fedRegulate_fed hs (by omega) (by decide))
    simp [note, Upd.clears, Fld.key, FED_CHSTAT.state, FED_SELSTAT.sel, V.feedSeen, ivar]
    omega

theorem firstSelect_keeps_marks {f : Nat} (hf : f < 16) (s : State) : (firstSelect f s).all (Upd.spares markKey) = true := by
  simp [firstSelect, note, Upd.spares, V.feedSeen, markKey_scalar,
    all_spares_fewer (fun k hk => offChannel_of_fedTileKey hf k (fedTileKey_of_markKey k hk)) (fedRegulate_offChannel hf FedS.inrush s)]
  decide

theorem bothMarked_offMark (f : Nat) (u : State) : Passing (Upd.spares (offMark (1 - f))) u (bothMarked f u) :=
  (Passing.does (Via.refl u) (markUsable_offMark (1 - f))).ite (Via.refl u)

theorem bothMarked_usable {s : State} (hs : s.Wf) {f : Nat} (hf : f < 2) : (bothMarked f (usableMarked f s)).rd (feedUsable f) = 1 := by
  have hthis : 1 - (1 - f) = f := by omega
  have hapart := offMark_other (f := 1 - f) (by omega)
  rw [hthis] at hapart
  exact ((bothMarked_offMark f _).rd_spares (messageField_feedUsable f) hapart).trans (usableMarked_usable hs f)

/-- The feed that is marked is chosen where it is the primary, or the only one that qualifies (R336). -/
theorem bothMarked_choice {s : State} (hs : s.Wf) {f : Nat} (hf : f < 2)
    (hchosen : s.rd FED_SELCFG.primary = f ∨ (s.rd (feedUsable (1 - f)) = 0 ∧ s.feedQualifies (1 - f) = false)) :
    (bothMarked f (usableMarked f s)).feedChoice = f := by
  refine feedChoice_eq hf (bothMarked_usable hs hf) ?_
  have hprimary (f : Nat) : offMark f FED_SELCFG.primary.key = true := offMark_of (by decide) (by decide) (by decide) (by decide)
  obtain h | ⟨hother, hqualifies⟩ := hchosen
  · refine .inl (Eq.trans ?_ h)
    exact ((bothMarked_offMark f _).rd_spares (by decide) (hprimary _)).trans (rd_usableMarked f s (by decide) (hprimary f))
  · have halone : bothMarked f (usableMarked f s) = usableMarked f s := by
      rw [bothMarked, usableMarked_qualifies hf, hqualifies]
      rfl
    rw [halone]
    exact .inr ((rd_usableMarked f s (messageField_feedUsable _) (offMark_other hf)).trans hother)

theorem becomeUsable_selects {s : State} (hs : s.Wf) {f : Nat} (hf : f < 2) : (becomeUsable f s).rd (feedUsable f) = 1 ∧
    (s.rd FED_SELSTAT.sel = selNone →
      (s.rd FED_SELCFG.primary = f ∨ (s.rd (feedUsable (1 - f)) = 0 ∧ s.feedQualifies (1 - f) = false)) →
        (becomeUsable f s).rd FED_SELSTAT.sel = f ∧ (becomeUsable f s).fed f = FedS.inrush) := by
  have hsel : (usableMarked f s).rd FED_SELSTAT.sel = s.rd FED_SELSTAT.sel :=
    rd_usableMarked f s (by decide) (offMark_of (by decide) (by decide) (by decide) (by decide))
  rw [becomeUsable_eq]
  split
  next =>
    have hwf := (bothMarked_offMark f _).wf (usableMarked_wf hs f)
    constructor
    · have hchoice := feedChoice_lt (bothMarked f (usableMarked f s))
      have hkept := Passing.does (Via.refl (bothMarked f (usableMarked f s))) (firstSelect_keeps_marks hchoice)
      exact (hkept.rd_spares (messageField_feedUsable f) (markKey_feedUsable f)).trans (bothMarked_usable hs hf)
    · intro _ hchosen
      rw [bothMarked_choice hs hf hchosen]
      exact firstSelect_selects hwf (by omega)
  next hselected => exact ⟨usableMarked_usable hs f, fun hnone => absurd (hsel.trans hnone) hselected⟩

theorem feedUsable_selects {s : State} (hs : s.Wf) {f : Nat} (hf : f < 2) (hmark : s.rd (feedUsable f) = 0) (hfit : s.feedFit f = true)
    (hin : s.rd (V.vinInAt f) ≠ 0) (hqual : s.rd (V.vinInAt f) + s.rd (FED_FEEDQ.qual f) * 4000000 ≤ s.now + 1) :
    Gives (.feedUsable f) s (fun t => t.rd (feedUsable f) = 1 ∧
      (s.rd FED_SELSTAT.sel = selNone →
        (s.rd FED_SELCFG.primary = f ∨ (s.rd (feedUsable (1 - f)) = 0 ∧ s.feedQualifies (1 - f) = false)) →
          t.rd FED_SELSTAT.sel = f ∧ t.fed f = FedS.inrush)) := by
  have hexec : exec (.feedUsable f) s = .next (becomeUsable f s) := by
    show execFeedUsable f s = _
    exact whenever_of (by simp [State.feedQualifies, State.on, hf, hmark, hfit, hin, hqual]) s _
  exact ⟨_, hexec, becomeUsable_selects hs hf⟩

/-- Settles O34, a clause for each form: FEED_USABLE, FEED_UNUSABLE, FEED_REVERT, NEW_FEED_INRUSH and PIN_HOLD_END (R336, R337, R339). -/
theorem feedSelectionCommandsTakeEffect : Obligations.FeedSelectionCommandsTakeEffect := by
  unfold Obligations.FeedSelectionCommandsTakeEffect
  refine ⟨?_, ?_, ?_, ?_, ?_⟩
  · intro s f hs hf hmark hfit hin hqual
    exact feedUsable_selects hs hf hmark hfit hin hqual
  · intro s f hs hf husable hlost
    exact feedUnusable_ends hs hf husable hlost
  · intro s hs hrevert hsel husable hphase hpend hat hdue
    exact feedRevert_waits hs hrevert hsel husable hphase hpend hat hdue
  · intro s hs hphase hrun hold hdue hoff husable
    exact newFeedInrush_starts hs hphase hrun hold hdue hoff husable
  · intro s hs hhold hphase hat hdue
    exact pinHoldEnd_ends hs hhold hphase hat hdue

end Sys2Proof.Machine
end

section
/-! The statement on the device's temperature fails: while every plane is held, a diode found broken keeps only its flag (R348, R352), where
DIODE_BROKEN's clause has THM_DEVT show 0x7FFF in every state. -/

namespace Sys2Proof.Machine

/-- Every plane is held, as after a thermal shutdown, and the primary diode has failed two conversions. -/
def heldBrokenDiode : State := State.reset.run ((List.range 4).map (fun p => .set (V.planeHeld p) 1) ++ [.set V.thermHold 1, .set (V.dioBad 0) 2])

/-- THM's register keeps its reset value: only the island's flag is set. -/
theorem heldBrokenDiode_reading : (stateAfter heldBrokenDiode (exec (.diodeBroken 0) heldBrokenDiode)).rd (diodeT 0) = 0 := by decide +kernel

/-- Refutes O35: nothing in the second clause says that the core plane runs, and while it is held THM_DEVT does not come to show a diode that breaks. -/
theorem not_deviceTemperatureCommandsTakeEffect : ¬ Obligations.DeviceTemperatureCommandsTakeEffect := by
  unfold Obligations.DeviceTemperatureCommandsTakeEffect
  rintro ⟨-, hbroken, -⟩
  obtain ⟨t, hexec, -, hshown⟩ := hbroken heldBrokenDiode 0 (by decide +kernel) (by decide) (by decide +kernel) (by decide +kernel)
  have hzero : t.rd (diodeT 0) = 0 := by
    have h := heldBrokenDiode_reading
    rwa [hexec] at h
  rw [hzero] at hshown
  exact absurd hshown (by decide)

end Sys2Proof.Machine
end

section
/-! SUPPORT. What PROTECT's holds leave in the registers, and that a protection holds whatever it is told to hold at once (R583). -/

namespace Sys2Proof.Machine

/-! The registers. -/

section
variable {p : Nat → Bool} (hprot : p TIM_PROTSEQ.next.key = false) {s₀ s : State}
include hprot

theorem protectHoldAll_spares {hs : List Hold} (h : Passing (Upd.spares p) s₀ s) : Passing (Upd.spares p) s₀ (protectHoldAll hs s) :=
  h.foldl fun _ k => protectHold_spares hprot k

theorem protectOnly_spares {holder : Holder} {hs : List Hold} (h : Passing (Upd.spares p) s₀ s) :
    Passing (Upd.spares p) s₀ (protectOnly holder hs s) :=
  gathered_spares hprot h fun k => protectHoldAll_spares hprot (k.foldl fun _ k => protectDrop_spares hprot k)

end

section
variable {g : Fld} (hm : messageField g = false) (hg : g.key ≠ TIM_PROTSEQ.next.key)
include hm hg

theorem rd_protectHoldAll (hs : List Hold) (s : State) : (protectHoldAll hs s).rd g = s.rd g :=
  (protectHoldAll_spares (p := (· == g.key)) (beq_false_of_ne hg.symm) (Via.refl s)).rd_spares hm (beq_self_eq_true _)

theorem rd_protectHold (x : Hold) (s : State) : (protectHold x s).rd g = s.rd g :=
  (protectHold_spares (p := (· == g.key)) (beq_false_of_ne hg.symm) (Via.refl s)).rd_spares hm (beq_self_eq_true _)

theorem rd_protectDrop (holder : Holder) (blk target scope : Nat) (s : State) : (protectDrop holder blk target scope s).rd g = s.rd g :=
  (protectDrop_spares (p := (· == g.key)) (beq_false_of_ne hg.symm) (Via.refl s)).rd_spares hm (beq_self_eq_true _)

theorem rd_protectDropAll (holder : Holder) (s : State) : (protectDropAll holder s).rd g = s.rd g :=
  (protectDropAll_spares (p := (· == g.key)) (beq_false_of_ne hg.symm) (Via.refl s)).rd_spares hm (beq_self_eq_true _)

end

/-- THM's registers are no messages, and none of them is PROTECT's number. -/
theorem thm_register {f : Fld} (ha : 0xB0_0000 ≤ f.addr ∧ f.addr < 0xB1_0000) (hl : f.lsb < 64) :
    messageField f = false ∧ f.key ≠ TIM_PROTSEQ.next.key :=
  ⟨messageField_register (by omega) hl, Fld.key_ne (ne_of_gt (lt_of_lt_of_le (by decide) ha.1)) hl (by decide)⟩

/-- Scalars and sampled signals beyond those of the messages. -/
theorem messageField_above {f : Fld} (h : 0x1_0175_0000 ≤ f.addr) : messageField f = false := by
  have hnew : V.msixNew.key = 0x1_0174_0000 * 64 := rfl
  have hkey : f.key = f.addr * 64 + f.lsb := rfl
  simp only [messageField, Bool.or_eq_false_iff, Bool.and_eq_false_iff, decide_eq_false_iff_not, beq_eq_false_iff_ne]
  omega

theorem scalar_ne_protSeq (id i w reset : Nat) : (ivar id i w reset).key ≠ TIM_PROTSEQ.next.key := by
  simp only [Fld.key, ivar, TIM_PROTSEQ.next]
  omega

/-! The holds. -/

/-- Two holds of one protection on one target. -/
def Hold.same (x y : Hold) : Prop := x.holder = y.holder ∧ x.blk = y.blk ∧ x.target = y.target ∧ x.scope = y.scope

/-- A new hold takes the place of the same protection's on its target, and of no other. -/
theorem protectHold_keeps {x y : Hold} (hy : x.same y → x = y) {s : State} (h : y ∈ s.orders.holds) : y ∈ (protectHold x s).orders.holds := by
  by_cases hxy : x = y
  · rw [← hxy]
    exact protectHold_holds x s
  · unfold protectHold
    extract_lets rest o t hs
    split
    next => exact h
    next =>
      rw [does_eq, holds_run (hs := t.orders.holds) rfl (issueProtectOrder_leavesHolds _ _ _ _ _ _ _)]
      refine List.mem_append_left [x] (List.mem_filter.mpr ⟨h, ?_⟩)
      have hother : ¬ x.same y := fun hsame => hxy (hy hsame)
      simp only [Hold.same] at hother
      simp only [Bool.not_eq_true', ← Bool.not_eq_true, Bool.and_eq_true, beq_iff_eq]
      tauto

/-- Holds that begin one after another all stand, where no two of them name one target. -/
theorem holdEach_holds {l : List Hold} (hone : ∀ x ∈ l, ∀ y ∈ l, x.same y → x = y) {y : Hold} {s : State} (hl : y ∈ l) :
    y ∈ (l.foldl (fun t x => protectHold x t) s).orders.holds := by
  induction l using List.reverseRecOn with
  | nil => cases hl
  | append_singleton l x ih =>
    rw [List.foldl_append, List.foldl_cons, List.foldl_nil]
    obtain h | h := List.mem_append.mp hl
    · refine protectHold_keeps (hone x (by simp) y (by simp [h])) (ih (fun a ha b hb => hone a (by simp [ha]) b (by simp [hb])) h)
    · rw [List.mem_singleton.mp h]
      exact protectHold_holds x _

/-- A protection that holds off the power of groups holds each of them. -/
theorem protectGroups_holds (holder : Holder) {gs : List Nat} {g : Nat} (hg : g ∈ gs) (s : State) :
    ⟨holder, Blk.seq, Tgt.groupPwr, g, 0⟩ ∈ (protectGroups holder gs s).orders.holds := by
  refine holdEach_holds ?_ (List.mem_mergeSort.mpr (List.mem_map.mpr ⟨g, hg, rfl⟩))
  simp only [List.mem_mergeSort, List.mem_map]
  rintro _ ⟨a, -, rfl⟩ _ ⟨b, -, rfl⟩ ⟨-, -, -, hscope⟩
  rw [show a = b from hscope]

/-! A map of latches, cleared one after another. -/

/-- Latches are cleared one after another: one that is named is clear in the end, where its own clear takes it away and no clear sets it. `Q` is what
the clears need of a state, and keep. -/
theorem latchEach_clears {Q : State → Prop} {f : Nat → State → State} {latch : Fld} {i : Nat} (hown : ∀ s, Q s → bit ((f i s).rd latch) i = false)
    (hother : ∀ k s, Q s → bit (s.rd latch) i = false → bit ((f k s).rd latch) i = false) {l : List Nat} (hkeep : ∀ k ∈ l, ∀ s, Q s → Q (f k s))
    {s : State} (hs : Q s) (hnamed : bit (s.rd latch) i = true → i ∈ l) : bit ((l.foldl (fun t k => f k t) s).rd latch) i = false := by
  induction l generalizing s with
  | nil => exact Bool.eq_false_iff.mpr fun h => nomatch hnamed h
  | cons k l ih =>
    refine ih (fun j hj => hkeep j (List.mem_cons_of_mem k hj)) (hkeep k List.mem_cons_self s hs) fun h => ?_
    have hset : bit (s.rd latch) i = true := by
      by_contra hclear
      rw [hother k s hs (Bool.eq_false_iff.mpr hclear)] at h
      cases h
    refine (List.mem_cons.mp (hnamed hset)).resolve_left ?_
    rintro rfl
    rw [hown s hs] at h
    cases h

end Sys2Proof.Machine
end

section
/-! What the commands of the board's temperatures and of the fans do: TEMP_INPUT_FAULT to FAN_RETRY (R354-R362). -/

namespace Sys2Proof.Machine

/-! TEMP_INPUT_FAULT (R354). -/

theorem thm_input {i o lsb : Nat} (hi : i < 16) (ho : 0xB0_0000 ≤ o ∧ o < 0xB0_0800) (hl : lsb < 64) (w reset : Nat) :
    messageField ⟨o + 0x10 * i, lsb, w, reset⟩ = false ∧ (⟨o + 0x10 * i, lsb, w, reset⟩ : Fld).key ≠ TIM_PROTSEQ.next.key :=
  thm_register (by dsimp only; omega) hl

theorem exec_tempInputFault {s : State} {i : Nat} (hi : i < 16) (hen : s.rd (THM_EXTCFG.en i) = 1) (hopen : s.inputOpen i = true)
    (hnew : s.rd (THM_EXTT.open_ i) = 0) : exec (.tempInputFault i) s =
      .next ((s.run [.set (THM_EXTT.t i) 9600, .set (THM_EXTT.open_ i) 1, .set THM_EVT.fault 1]).does (fun t => [limitRec i 5 t])) := by
  have hop : (s.inputOpen i && !s.on (THM_EXTT.open_ i)) = true := by simp [State.on, hopen, hnew]
  show execTempInputFault i s = _
  simp only [execTempInputFault, hop, if_true]
  exact whenever_of (by simp [State.on, hi, hen]) s _

theorem tempInputFault_reads {s : State} (hs : s.Wf) {i : Nat} (hi : i < 16) (hen : s.rd (THM_EXTCFG.en i) = 1) (hopen : s.inputOpen i = true)
    (hnew : s.rd (THM_EXTT.open_ i) = 0) :
    Gives (.tempInputFault i) s (fun t => t.rd (THM_EXTT.t i) = 9600 ∧ t.rd (THM_EXTT.open_ i) = 1 ∧ Raised Ty.TEMP_LIMIT t) := by
  obtain ⟨hmT, -⟩ : messageField (THM_EXTT.t i) = false ∧ _ := thm_input hi (by omega) (by omega) _ _
  obtain ⟨hmOpen, -⟩ : messageField (THM_EXTT.open_ i) = false ∧ _ := thm_input hi (by omega) (by omega) _ _
  refine ⟨_, exec_tempInputFault hi hen hopen hnew, ?_, ?_, raised_emit _ _⟩
  · refine (rd_emit _ _ hmT).trans (rd_run_sets hs hmT [] 9600 ?_)
    simp [Upd.clears, Fld.key, THM_EXTT.t, THM_EXTT.open_, THM_EVT.fault]
    omega
  · refine (rd_emit _ _ hmOpen).trans (rd_run_sets hs hmOpen [_] 1 ?_)
    simp [Upd.clears, Fld.key, THM_EXTT.open_, THM_EVT.fault]
    omega

/-! A slot's ceiling (R357), and MAP_LOST (R355). -/

section
variable {p : Nat → Bool} (hprot : p TIM_PROTSEQ.next.key = false) {n : Nat} (hceil : p (THM_CEIL.ceil n).key = false)
  (hat : p (V.ceilAt n).key = false) {s₀ s : State}
include hprot hceil hat

theorem setCeil_spares {c : Nat} (h : Passing (Upd.spares p) s₀ s) : Passing (Upd.spares p) s₀ (setCeil n c s) := by
  have hset := h.run (us := [.set (THM_CEIL.ceil n) c, .set (V.ceilAt n) (s.now + 1)]) (by simp [Upd.spares, hceil, hat])
  exact (protectDrop_spares hprot hset).ite (protectHold_spares hprot hset)

theorem ceilingTick_spares (hcool : p (V.coolAt n).key = false) (h : Passing (Upd.spares p) s₀ s) : Passing (Upd.spares p) s₀ (ceilingTick n s) := by
  unfold ceilingTick
  extract_lets c hot s1 s2
  have h1 : Passing (Upd.spares p) s₀ s1 := h.run (by split <;> simp [Upd.spares, hcool])
  have h2 : Passing (Upd.spares p) s₀ s2 := (setCeil_spares hprot hceil hat h1).ite h1
  exact (setCeil_spares hprot hceil hat h2).ite h2

end

theorem setCeil_ceil {s : State} (hs : s.Wf) {n : Nat} (hn : n < 8) (c : Nat) : (setCeil n c s).rd (THM_CEIL.ceil n) = c % 256 := by
  obtain ⟨hm, hprot⟩ : messageField (THM_CEIL.ceil n) = false ∧ (THM_CEIL.ceil n).key ≠ TIM_PROTSEQ.next.key :=
    thm_input (by omega) (by omega) (by omega) _ _
  have hset : (s.run [.set (THM_CEIL.ceil n) c, .set (V.ceilAt n) (s.now + 1)]).rd (THM_CEIL.ceil n) = c % 256 := by
    refine rd_run_sets hs hm [] c ?_
    simp [Upd.clears, Fld.key, THM_CEIL.ceil, V.ceilAt, ivar]
    omega
  unfold setCeil
  dsimp only
  split
  · rw [rd_protectDrop hm hprot, hset]
  · rw [rd_protectHold hm hprot, hset]

theorem thermalCeilingStep_steps {s : State} (hs : s.Wf) {n c : Nat} (hn : n < 8) (hstep : s.ceilStep n = some c) :
    Gives (.thermalCeilingStep n) s (fun t => t.rd (THM_CEIL.ceil n) = c % 256) := by
  have hexec : exec (.thermalCeilingStep n) s = .next (setCeil n c s) := by
    show execThermalCeilingStep n s = _
    rw [execThermalCeilingStep, hstep]
    exact whenever_of (by simp [hn]) s _
  exact ⟨_, hexec, setCeil_ceil hs hn c⟩

/-- A map that is lost is marked, as an event and in a record. -/
def mapMarked (n : Nat) (s : State) : State := s.run [.set (THM_MAPT.lost n) 1, .set THM_EVT.map_lost 1, limitRec (56 + n) 7 s]

/-- The zones of its slot have their floors, and the slot its bound. -/
def mapAnswered (n : Nat) (s : State) : State := ceilingTick n (mapHolds n (mapMarked n s))

theorem mapLose_eq (n : Nat) (s : State) : mapLose n s = gathered (mapAnswered n) s := rfl

theorem mapAnswered_marks {s : State} (hs : s.Wf) {n : Nat} (hn : n < 8) :
    (mapAnswered n s).rd (THM_MAPT.lost n) = 1 ∧ (mapAnswered n s).rd THM_EVT.map_lost = 1 := by
  have hkept {p : Nat → Bool} (hprot : p TIM_PROTSEQ.next.key = false) (hceil : p (THM_CEIL.ceil n).key = false) (hat : p (V.ceilAt n).key = false)
      (hcool : p (V.coolAt n).key = false) : Passing (Upd.spares p) (mapMarked n s) (mapAnswered n s) :=
    ceilingTick_spares hprot hceil hat hcool (protectOnly_spares hprot (Via.refl _))
  obtain ⟨hm, hprot⟩ : messageField (THM_MAPT.lost n) = false ∧ (THM_MAPT.lost n).key ≠ TIM_PROTSEQ.next.key :=
    thm_input (by omega) (by omega) (by omega) _ _
  constructor
  · have hmark : (mapMarked n s).rd (THM_MAPT.lost n) = 1 := by
      refine rd_run_sets hs hm [] 1 ?_
      simp [limitRec, note, Upd.clears, Fld.key, THM_MAPT.lost, THM_EVT.map_lost]
      omega
    refine ((hkept (p := (· == (THM_MAPT.lost n).key)) (beq_false_of_ne hprot.symm) ?_ ?_ ?_).rd_spares hm (beq_self_eq_true _)).trans hmark
    all_goals
      simp only [beq_eq_false_iff_ne, Fld.key, THM_MAPT.lost, THM_CEIL.ceil, V.ceilAt, V.coolAt, ivar]
      omega
  · have hevent : (mapMarked n s).rd THM_EVT.map_lost = 1 := rd_run_sets hs (by decide) [_] 1 rfl
    refine ((hkept (p := (· == THM_EVT.map_lost.key)) (by decide) ?_ ?_ ?_).rd_spares (by decide) (beq_self_eq_true _)).trans hevent
    all_goals
      simp only [beq_eq_false_iff_ne, Fld.key, THM_EVT.map_lost, THM_CEIL.ceil, V.ceilAt, V.coolAt, ivar]
      omega

theorem mapLost_marks {s : State} (hs : s.Wf) {n : Nat} (hn : n < 8) (hen : s.rd THM_CTL.map_en = 1) (hnew : s.rd (THM_MAPT.lost n) = 0)
    (hmissing : s.rd (V.mapMissing n) = 1000) (hstate : s.rd (rState n) = RailS.regulating) :
    Gives (.mapLost n) s (fun t => t.rd (THM_MAPT.lost n) = 1 ∧ t.rd THM_EVT.map_lost = 1) := by
  have hexec : exec (.mapLost n) s = .next (gathered (mapAnswered n) s) := by
    show execMapLost n s = _
    rw [execMapLost, mapLose_eq]
    exact whenever_of (by simp [State.on, hn, hen, hnew, hmissing, hstate]) s _
  obtain ⟨us, -, hgathered⟩ := rd_gathered (mapAnswered n) s
  obtain ⟨hmark, hevent⟩ := mapAnswered_marks (run_wf us hs) hn
  obtain ⟨hm, hprot⟩ : messageField (THM_MAPT.lost n) = false ∧ (THM_MAPT.lost n).key ≠ TIM_PROTSEQ.next.key :=
    thm_input (by omega) (by omega) (by omega) _ _
  exact ⟨_, hexec, (hgathered _ hm hprot).trans hmark, (hgathered _ (by decide) (by decide)).trans hevent⟩

/-! TLATCH_CLEAR (R358). -/

/-- A source reads no more than its critical limit less the hysteresis, or has no limit to pass. -/
def State.sourceCool (s : State) (i : Nat) : Bool :=
  s.limCrit i == 0 || !s.srcUsed i || decide (s.srcTemp i + (64 * s.limHys i : Nat) ≤ (64 * s.limCrit i : Nat))

theorem tlatchClear_eq (i : Nat) (s : State) : tlatchClear i s =
    if s.isLatched i && s.sourceCool i then protectDropAll (.thermal i) (s.run [setLatch i false s]) else s := rfl

/-- The registers of the board's inputs: limits, curves and readings. -/
def inputKey (k : Nat) : Bool := decide (0xB0_0600 * 64 ≤ k) && decide (k < 0xB0_0700 * 64)

theorem tlatchClear_spares (i : Nat) (s : State) : Passing (Upd.spares inputKey) s (tlatchClear i s) := by
  have hlatch : [setLatch i false s].all (Upd.spares inputKey) = true := by
    rw [setLatch]
    split <;> rfl
  exact (protectDropAll_spares rfl (Passing.run (Via.refl s) hlatch)).ite (Via.refl s)

/-- Whether an input is cool shows in its own registers. -/
theorem sourceCool_of_inputs {s t : State} {i : Nat} (hi : i < 16) (h : ∀ g : Fld, messageField g = false → inputKey g.key = true → t.rd g = s.rd g) :
    t.sourceCool i = s.sourceCool i := by
  have hinput (o lsb w reset : Nat) (ho : 0xB0_0600 ≤ o ∧ o < 0xB0_0610) (hl : lsb < 64) :
      t.rd ⟨o + 0x10 * i, lsb, w, reset⟩ = s.rd ⟨o + 0x10 * i, lsb, w, reset⟩ := by
    refine h _ (thm_input hi (by omega) hl _ _).1 (Bool.and_eq_true_iff.mpr ⟨decide_eq_true ?_, decide_eq_true ?_⟩)
    all_goals
      simp only [Fld.key]
      omega
  have hcrit : t.rd (THM_EXTCFG.crit i) = s.rd (THM_EXTCFG.crit i) := hinput _ _ _ _ (by omega) (by omega)
  have hen : t.rd (THM_EXTCFG.en i) = s.rd (THM_EXTCFG.en i) := hinput _ _ _ _ (by omega) (by omega)
  have hhys : t.rd (THM_EXTCFG.hys i) = s.rd (THM_EXTCFG.hys i) := hinput _ _ _ _ (by omega) (by omega)
  have htemp : t.rd (THM_EXTT.t i) = s.rd (THM_EXTT.t i) := hinput _ _ _ _ (by omega) (by omega)
  simp only [State.sourceCool, State.limCrit, State.srcUsed, State.srcTemp, State.limHys, State.on, State.rdI, hi, if_true, hcrit, hen, hhys, htemp]

/-- The inputs' map loses the latch of a cool input that is cleared, and no other. -/
theorem tlatchClear_ext {s : State} (hs : s.Wf) (k : Nat) : (tlatchClear k s).rd THM_TLATCH.ext =
    if k < 16 ∧ s.sourceCool k = true then clearBit (s.rd THM_TLATCH.ext) k % 2 ^ 16 else s.rd THM_TLATCH.ext := by
  have hdrop (t : State) : (protectDropAll (.thermal k) t).rd THM_TLATCH.ext = t.rd THM_TLATCH.ext := rd_protectDropAll (by decide) (by decide) _ t
  rw [tlatchClear_eq]
  by_cases hk : k < 16
  · rw [State.isLatched, setLatch, if_pos hk, if_pos hk, if_pos hk]
    by_cases hbit : bit (s.rd THM_TLATCH.ext) k = true
    · simp only [hbit, hk, Bool.true_and, true_and]
      split
      · exact (hdrop _).trans (rd_run_sets hs (by decide) [] _ rfl)
      · rfl
    · have hsame : clearBit (s.rd THM_TLATCH.ext) k = s.rd THM_TLATCH.ext := if_neg hbit
      have hfits : s.rd THM_TLATCH.ext % 2 ^ 16 = s.rd THM_TLATCH.ext := Nat.mod_eq_of_lt (rd_lt s THM_TLATCH.ext)
      rw [hsame, hfits, ite_self]
      simp [hbit]
  · rw [if_neg (show ¬ (k < 16 ∧ s.sourceCool k = true) from fun h => hk h.1)]
    split
    · rw [hdrop, setLatch, if_neg hk]
      exact rd_run_clear (by decide) rfl
    · rfl

/-- The latches that a write clears. -/
def tlatchesCleared (w : ClearWrite) (s : State) : State :=
  (sources.filter (fun i => bit (clearBits w.value w.hw) (if i < 16 then i else 16 + (i - 56)))).foldl (fun t i => tlatchClear i t) s

theorem tlatchesCleared_clears {s : State} (hs : s.Wf) {value hw i : Nat} (hi : i < 16) (hvalue : bit value i = true) (hkept : bit hw i = false)
    (hcool : s.sourceCool i = true) : bit ((tlatchesCleared ⟨value, hw⟩ s).rd THM_TLATCH.ext) i = false := by
  refine latchEach_clears (Q := fun s => s.Wf ∧ s.sourceCool i = true) (fun s h => ?_) (fun k s h hclear => ?_) (fun k _ s h => ?_) ⟨hs, hcool⟩ fun _ => ?_
  · rw [tlatchClear_ext h.1, if_pos ⟨hi, h.2⟩, bit_mod_two_pow hi, bit_clearBit_same]
  · rw [tlatchClear_ext h.1]
    split
    · rw [bit_mod_two_pow hi]
      obtain rfl | hne := eq_or_ne i k
      · exact bit_clearBit_same _ _
      · rwa [bit_clearBit_ne hne]
    · exact hclear
  · have hspares := tlatchClear_spares k s
    exact ⟨hspares.wf h.1, (sourceCool_of_inputs hi fun g hm hg => hspares.rd_spares hm hg).trans h.2⟩
  · refine List.mem_filter.mpr ⟨List.mem_append_left _ (List.mem_range.mpr hi), ?_⟩
    rw [if_pos hi]
    exact bit_clearBits_of hvalue hkept

theorem tlatchClear_clears {s : State} (hs : s.Wf) {req value i hw : Nat} (hreach : s.Reaches req 0xB0_0028 4 value false) (hi : i < 16)
    (hvalue : bit value i = true) (hkept : bit hw i = false)
    (hcool : s.limCrit i = 0 ∨ s.srcUsed i = false ∨ s.srcTemp i + (64 * s.limHys i : Nat) ≤ (64 * s.limCrit i : Nat)) :
    Gives (.tlatchClear req ⟨value, hw⟩) s (fun t => bit (t.rd THM_TLATCH.ext) i = false) := by
  have hexec : exec (.tlatchClear req ⟨value, hw⟩) s = .next ((gathered (tlatchesCleared ⟨value, hw⟩) s).run (hostTraffic req true 4)) := by
    show execTlatchClear req ⟨value, hw⟩ s = _
    exact gated_of_reaches hreach _
  obtain ⟨us, hsame, hgathered⟩ := rd_gathered (tlatchesCleared ⟨value, hw⟩) s
  refine ⟨_, hexec, ?_⟩
  beta_reduce
  rw [rd_run_hostTraffic, hgathered _ (by decide) (by decide)]
  refine tlatchesCleared_clears (run_wf us hs) hi hvalue hkept ((sourceCool_of_inputs hi fun g _ _ => hsame g).trans ?_)
  simpa [State.sourceCool, or_assoc] using hcool

/-! FAN_KICK_END, FAN_STALL and FAN_RETRY (R362). -/

theorem thm_fan {f o lsb : Nat} (hf : f < 20) (ho : 0xB0_0400 ≤ o ∧ o < 0xB0_0600) (hl : lsb < 64) (w reset : Nat) :
    messageField ⟨o + 0x10 * f, lsb, w, reset⟩ = false ∧ (⟨o + 0x10 * f, lsb, w, reset⟩ : Fld).key ≠ TIM_PROTSEQ.next.key :=
  thm_register (by dsimp only; omega) hl

theorem messageField_fanNext (f : Nat) : messageField (V.fanNext f) = false := messageField_above (by dsimp only [V.fanNext, ivar]; omega)

/-- A channel that is sent to a state is in it, and drives what comes with it, after updates that set neither and before others that do not. -/
theorem fanTo_drives {s t : State} (ht : t.Wf) {f st d : Nat} (hf : f < 20) (hst : st < 8) {us vs : List Upd}
    (hstate : (us ++ .set (V.fanNext f) d :: vs).all (·.clears (THM_CHSTAT.state f)) = true) (hnext : vs.all (·.clears (V.fanNext f)) = true) :
    (t.run (fanTo f st s ++ (us ++ .set (V.fanNext f) d :: vs))).rd (THM_CHSTAT.state f) = st ∧
      (t.run (fanTo f st s ++ (us ++ .set (V.fanNext f) d :: vs))).rd (V.fanNext f) = d % 2 ^ (V.fanNext f).width := by
  obtain ⟨hm, -⟩ : messageField (THM_CHSTAT.state f) = false ∧ _ := thm_fan hf (by omega) (by omega) _ _
  constructor
  · have hto : (t.run (fanTo f st s)).rd (THM_CHSTAT.state f) = st := by
      refine (rd_run_sets ht hm [] st ?_).trans (Nat.mod_eq_of_lt hst)
      simp [Upd.clears, Fld.key, THM_CHSTAT.state, V.fanAt, V.slowAt, ivar]
      omega
    exact (rd_run_append_clear hm hstate).trans hto
  · rw [← List.append_assoc]
    exact rd_run_sets ht (messageField_fanNext f) _ d hnext

theorem fanKickEnd_runs {s : State} (hs : s.Wf) {f a : Nat} (hf : f < 20) (hzone : s.zoneOf? f = some a) (hkick : s.rd (THM_CHSTAT.state f) = FanS.kick)
    (hfast : s.zStall a ≤ s.rd (THM_CHSTAT.rpm f)) :
    Gives (.fanKickEnd f) s (fun t => t.rd (THM_CHSTAT.state f) = FanS.run ∧
      t.rd (V.fanNext f) = s.fanDrive f a FanS.run (s.rd (THM_CHDUTY.demand f)) % 2 ^ (V.fanNext f).width) := by
  have hexec : exec (.fanKickEnd f) s = .next (kickEnd f a s) := by
    show execFanKickEnd f s = _
    rw [execFanKickEnd, hzone]
    exact whenever_of (by simp [hf, hkick, hfast]) s _
  refine ⟨_, hexec, ?_⟩
  rw [kickEnd, if_pos hfast, List.append_assoc]
  refine fanTo_drives hs hf (by decide) (us := []) ?_ ?_
  · simp [stallRec, note, Upd.clears, Fld.key, THM_CHSTAT.state, V.fanNext, V.kickAgain, ivar]
    omega
  · simp [stallRec, note, Upd.clears, Fld.key, V.fanNext, V.kickAgain, ivar]

theorem fanRetry_kicks {s : State} (hs : s.Wf) {f a : Nat} (hf : f < 20) (hzone : s.zoneOf? f = some a)
    (hstalled : s.rd (THM_CHSTAT.state f) = FanS.stalled) (hdue : s.fanFor f (s.zRetry a) = true) (hdemand : s.rd (THM_CHDUTY.demand f) ≠ 0) :
    Gives (.fanRetry f) s (fun t => t.rd (THM_CHSTAT.state f) = FanS.kick ∧
      t.rd (V.fanNext f) = s.fanDrive f a FanS.kick 0 % 2 ^ (V.fanNext f).width) := by
  have hexec : exec (.fanRetry f) s =
      .next (s.run (fanTo f FanS.kick s ++ [.set (V.kickAgain f) 1, .set (V.fanNext f) (s.fanDrive f a FanS.kick 0)])) := by
    show execFanRetry f s = _
    rw [execFanRetry, hzone]
    simp only [if_neg hdemand]
    exact whenever_of (by simp [hf, hstalled, hdue]) s _
  refine ⟨_, hexec, fanTo_drives hs hf (by decide) (us := [_]) ?_ rfl⟩
  simp [Upd.clears, Fld.key, THM_CHSTAT.state, V.fanNext, V.kickAgain, ivar]
  omega

/-- A channel that stalls is STALLED, the event shows it, and it drives what it drove. -/
theorem fanStalls_stalls {s : State} (hs : s.Wf) {f : Nat} (hf : f < 20) (a : Nat) : (fanStalls f a s).rd (THM_CHSTAT.state f) = FanS.stalled ∧
    (fanStalls f a s).rd (V.fanNext f) = s.rd (V.fanNext f) ∧ (fanStalls f a s).rd THM_EVT.stall = 1 := by
  obtain ⟨hm, hprot⟩ : messageField (THM_CHSTAT.state f) = false ∧ (THM_CHSTAT.state f).key ≠ TIM_PROTSEQ.next.key :=
    thm_fan hf (by omega) (by omega) _ _
  unfold fanStalls holdFloors
  dsimp only
  rw [rd_protectHoldAll hm hprot, rd_protectHoldAll (messageField_fanNext f) (scalar_ne_protSeq _ _ _ _), rd_protectHoldAll (by decide) (by decide)]
  refine ⟨?_, ?_, ?_⟩
  · refine (rd_run_sets hs hm [] FanS.stalled ?_).trans rfl
    simp [stallRec, note, bump, Upd.clears, Fld.key, THM_CHSTAT.state, THM_CHSTALLS.count, THM_EVT.stall, V.fanAt, V.slowAt, V.stallCount, ivar]
    omega
  · refine rd_run_clear (messageField_fanNext f) ?_
    simp [fanTo, stallRec, note, bump, Upd.clears, Fld.key, V.fanNext, THM_CHSTAT.state, THM_CHSTALLS.count, THM_EVT.stall, V.fanAt, V.slowAt,
      V.stallCount, ivar]
    omega
  · rw [run_append]
    exact rd_run_sets (run_wf _ hs) (by decide) [_, _] 1 rfl

theorem fanStall_stalls {s : State} (hs : s.Wf) {f a : Nat} (hf : f < 20) (hzone : s.zoneOf? f = some a) (hrun : s.rd (THM_CHSTAT.state f) = FanS.run)
    (hslow : s.rd (V.slowAt f) ≠ 0) (hdue : s.rd (V.slowAt f) + 4000000000 ≤ s.now + 1) :
    Gives (.fanStall f) s (fun t => t.rd (THM_CHSTAT.state f) = FanS.stalled ∧ t.rd (V.fanNext f) = 0 ∧ t.rd THM_EVT.stall = 1) := by
  have hexec : exec (.fanStall f) s = .next (fanStalls f a (s.run [.set (V.fanNext f) 0])) := by
    show execFanStall f s = _
    rw [execFanStall, hzone]
    exact whenever_of (by simp [hf, hrun, hslow, hdue]) s _
  obtain ⟨hstate, hnext, hevent⟩ := fanStalls_stalls (run_wf [.set (V.fanNext f) 0] hs) hf a
  exact ⟨_, hexec, hstate, hnext.trans (rd_run_sets hs (messageField_fanNext f) [] 0 rfl), hevent⟩

/-- Settles O36, a clause for each form: TEMP_INPUT_FAULT, MAP_LOST, THERMAL_CEILING_STEP, TLATCH_CLEAR, FAN_KICK_END, FAN_STALL and FAN_RETRY
(R354, R355, R357, R358, R362). -/
theorem boardTemperaturesAndFans : Obligations.BoardTemperaturesAndFans := by
  unfold Obligations.BoardTemperaturesAndFans
  refine ⟨?_, ?_, ?_, ?_, ?_, ?_, ?_⟩
  · intro s i hs hi hen hopen hnew
    exact tempInputFault_reads hs hi hen hopen hnew
  · intro s n hs hn hen hnew hmissing hstate
    exact mapLost_marks hs hn hen hnew hmissing hstate
  · intro s n c hs hn hstep
    exact thermalCeilingStep_steps hs hn hstep
  · intro s req value i hw hs hreach hi hvalue hkept hcool
    exact tlatchClear_clears hs hreach hi hvalue hkept hcool
  · intro s f a hs hf hzone hkick hfast
    exact fanKickEnd_runs hs hf hzone hkick hfast
  · intro s f a hs hf hzone hrun hslow hdue
    exact fanStall_stalls hs hf hzone hrun hslow hdue
  · intro s f a hs hf hzone hstalled hdue hdemand
    exact fanRetry_kicks hs hf hzone hstalled hdue hdemand

end Sys2Proof.Machine
end

section
/-! What the commands of flow and leaks do: FLOW_WINDOW to LEAKMAP_CLEAR (R364-R366). -/

namespace Sys2Proof.Machine

/-! FLOW_WINDOW (R364). -/

/-- What a window's end does at one input: its rate is what it counted, and it counts from zero. -/
def flowTaken (s : State) (i : Nat) : List Upd := [.set (THM_FLOW.rate i) (min 0xFFFF (s.rd (V.flowCnt i))), .set (V.flowCnt i) 0]

/-- The inputs at the window's end. -/
def flowsTaken (s : State) : State := s.run (.set V.flowSecond (s.now / 4000000000) :: (List.range 8).flatMap (flowTaken s))

/-- The zones are judged by them. -/
def flowsJudged (s : State) : State := (flowsTaken s).fanItems.foldl (fun w a => flowJudge a w) (flowsTaken s)

theorem flowWindow_eq (s : State) : flowWindow s = gathered flowsJudged s := rfl

/-- The rates and the counts of the flow inputs. -/
def flowKey (k : Nat) : Bool :=
  decide (0xB0_0A00 * 64 ≤ k) && decide (k < 0xB0_0A20 * 64) || decide (0x1_0110_0000 * 64 ≤ k) && decide (k < 0x1_0111_0000 * 64)

@[simp] theorem flowKey_eq_false (k : Nat) : flowKey k = false ↔
    (k < 0xB0_0A00 * 64 ∨ 0xB0_0A20 * 64 ≤ k) ∧ (k < 0x1_0110_0000 * 64 ∨ 0x1_0111_0000 * 64 ≤ k) := by
  simp only [flowKey, Bool.or_eq_false_iff, Bool.and_eq_false_iff, decide_eq_false_iff_not, Nat.not_le, Nat.not_lt]

/-- Scalars after the flow counts. -/
theorem flowKey_later {id : Nat} (hid : 0x111 ≤ id) (i w reset : Nat) : flowKey (ivar id i w reset).key = false := by
  simp only [flowKey_eq_false, Fld.key, ivar]
  omega

theorem flowJudge_spares (a : Nat) {s₀ s : State} (h : Passing (Upd.spares flowKey) s₀ s) : Passing (Upd.spares flowKey) s₀ (flowJudge a s) := by
  unfold flowJudge
  extract_lets z t low was ok u
  have hrun (k : Nat) : flowKey (V.flowLowRun k).key = false := flowKey_later (by decide) _ _ _
  have hok : flowKey (V.flowOkRun z).key = false := flowKey_later (by decide) _ _ _
  have hlow : flowKey (V.flowLowAt z).key = false := flowKey_later (by decide) _ _ _
  have hoff : flowKey (V.flowOff z).key = false := flowKey_later (by decide) _ _ _
  have hzones : flowKey THM_FLOWLOW.zones.key = false := by decide
  have hevent : flowKey THM_EVT.flow.key = false := by decide
  have ht : Passing (Upd.spares flowKey) s₀ t := h.doEach fun i t => by simp [flowCount, Upd.spares, hrun]
  have hu : Passing (Upd.spares flowKey) s₀ u := ht.run (by simp [Upd.spares, hok, hzones, hlow])
  refine (protectHoldAll_spares rfl (ht.run ?_)).ite ((protectDropAll_spares rfl (hu.run ?_)).ite hu)
  · simp [flowRec, note, Upd.spares, hok, hzones, hlow, hevent]
  · simp [flowRec, note, Upd.spares, hoff]

theorem flowsJudged_spares (s : State) : Passing (Upd.spares flowKey) (flowsTaken s) (flowsJudged s) :=
  Passing.foldl (Via.refl _) fun a h => flowJudge_spares a h

/-- Another input's updates leave both. -/
theorem flowTaken_clears (s : State) {i k : Nat} (hi : i < 8) (hk : k < 8) (hne : i ≠ k) :
    (flowTaken s k).all (·.clears (THM_FLOW.rate i)) = true ∧ (flowTaken s k).all (·.clears (V.flowCnt i)) = true := by
  simp [flowTaken, Upd.clears, Fld.key, THM_FLOW.rate, V.flowCnt, ivar]
  omega

/-- Each input's own updates stand at the window's end. -/
theorem rd_flowsTaken {s : State} (hs : s.Wf) {i : Nat} (hi : i < 8) :
    (flowsTaken s).rd (THM_FLOW.rate i) = min 0xFFFF (s.rd (V.flowCnt i)) ∧ (flowsTaken s).rd (V.flowCnt i) = 0 := by
  obtain ⟨before, later, hsplit⟩ := List.append_of_mem (List.mem_range.mpr hi)
  have hclears (k : Nat) (hk : k ∈ later) := by
    have hnodup : (before ++ i :: later).Nodup := hsplit ▸ List.nodup_range
    have hne : i ≠ k := fun h => (List.nodup_cons.mp (List.nodup_append.mp hnodup).2.1).1 (h ▸ hk)
    have hlt : k < 8 := List.mem_range.mp (hsplit ▸ by simp [hk])
    exact flowTaken_clears s hi hlt hne
  have hrate : messageField (THM_FLOW.rate i) = false := messageField_register (by dsimp only [THM_FLOW.rate]; omega) (Nat.zero_lt_succ 63)
  have hcnt : messageField (V.flowCnt i) = false := messageField_scalar (by decide) (by omega) _ _
  unfold flowsTaken
  rw [hsplit, List.flatMap_append, List.flatMap_cons, flowTaken, List.cons_append, List.cons_append, List.nil_append, ← List.cons_append]
  constructor
  · refine (rd_run_sets hs hrate _ _ ?_).trans (Nat.mod_eq_of_lt (lt_of_le_of_lt (Nat.min_le_left _ _) (Nat.lt_succ_self _)))
    rw [List.all_cons, List.all_flatMap, Bool.and_eq_true_iff]
    refine ⟨?_, List.all_eq_true.mpr fun k hk => (hclears k hk).1⟩
    simp [Upd.clears, Fld.key, THM_FLOW.rate, V.flowCnt, ivar]
    omega
  · rw [run_append]
    refine rd_run_sets (run_wf _ hs) hcnt [_] 0 ?_
    rw [List.all_flatMap]
    exact List.all_eq_true.mpr fun k hk => (hclears k hk).2

theorem flowWindow_takes {s : State} (hs : s.Wf) {i : Nat} (hi : i < 8) (hdue : s.rd V.flowSecond < s.now / 4000000000) :
    Gives .flowWindow s (fun t => t.rd (THM_FLOW.rate i) = min 0xFFFF (s.rd (V.flowCnt i)) ∧ t.rd (V.flowCnt i) = 0) := by
  have hexec : exec .flowWindow s = .next (gathered flowsJudged s) := by
    show execFlowWindow s = _
    rw [execFlowWindow, flowWindow_eq]
    exact whenever_of (decide_eq_true hdue) s _
  obtain ⟨us, hsame, hgathered⟩ := rd_gathered flowsJudged s
  obtain ⟨hrate, hcnt⟩ := rd_flowsTaken (run_wf us hs) hi
  obtain ⟨hm, hprot⟩ : messageField (THM_FLOW.rate i) = false ∧ (THM_FLOW.rate i).key ≠ TIM_PROTSEQ.next.key :=
    thm_register (by dsimp only [THM_FLOW.rate]; omega) (Nat.zero_lt_succ 63)
  have hmCnt : messageField (V.flowCnt i) = false := messageField_scalar (by decide) (by omega) _ _
  have hspares := flowsJudged_spares (s.run us)
  refine ⟨_, hexec, ?_, ?_⟩
  · rw [hgathered _ hm hprot, hspares.rd_spares hm ?_, hrate, hsame]
    simp [flowKey, Fld.key, THM_FLOW.rate]
    omega
  · rw [hgathered _ hmCnt (scalar_ne_protSeq _ _ _ _), hspares.rd_spares hmCnt ?_, hcnt]
    simp [flowKey, Fld.key, V.flowCnt, ivar]
    omega

/-! FLOW_POWER_OFF (R364). -/

theorem flowPowerOff_off {s : State} (hs : s.Wf) {a : Nat} (hz : s.zNum a < 8) : (flowPowerOff a s).rd (V.flowOff (s.zNum a)) = 1 := by
  have hm : messageField (V.flowOff (s.zNum a)) = false := messageField_scalar (by decide) (by omega) _ _
  refine ((protectGroups_spares (p := (· == (V.flowOff (s.zNum a)).key)) (beq_false_of_ne (scalar_ne_protSeq _ _ _ _).symm)
    (Via.refl _)).rd_spares hm (beq_self_eq_true _)).trans ?_
  exact rd_run_sets hs hm [] 1 rfl

theorem flowPowerOff_stops {s : State} (hs : s.Wf) {z a : Nat} (hz : z < 8) (hfind : s.fanItems.find? (fun a => s.zNum a == z) = some a)
    (hact : s.rd (THM_ZCFG.flow_act z) = 1) (hzone : bit (s.rd THM_FLOWLOW.zones) z = true) (hon : s.rd (V.flowOff z) = 0)
    (hlow : s.rd (V.flowLowAt z) ≠ 0) (hdue : s.rd (V.flowLowAt z) + s.rd (THM_ZCFG.flow_to z) * 4000000000 ≤ s.now + 1) :
    Gives (.flowPowerOff z) s (fun t => t.rd (V.flowOff z) = 1 ∧ ∀ n ∈ bitsOf 8 (s.zSlots a), ⟨.flow z, Blk.seq, Tgt.groupPwr, n, 0⟩ ∈ t.orders.holds) := by
  have hexec : exec (.flowPowerOff z) s = .next (flowPowerOff a s) := by
    show execFlowPowerOff z s = _
    rw [execFlowPowerOff, hfind]
    exact whenever_of (by simp [State.on, hact, hzone, hon, hlow, hdue]) s _
  obtain rfl : s.zNum a = z := by simpa using List.find?_some hfind
  exact ⟨_, hexec, flowPowerOff_off hs hz, fun n hn => protectGroups_holds _ hn _⟩

/-! LEAK_WET and LEAK_OPEN (R365). -/

/-- The map in which a leak input shows what it reads. -/
def leakMap (wet : Bool) : Fld := if wet then THM_LEAKMAP.wet else THM_LEAKMAP.open_

theorem leakLatch_latches {s : State} (hs : s.Wf) {i : Nat} (hi : i < 8) (wet : Bool) : bit ((leakLatch i wet s).rd THM_LEAKMAP.latch) i = true ∧
    bit ((leakLatch i wet s).rd (leakMap wet)) i = true ∧ (leakLatch i wet s).rd THM_EVT.leak = 1 := by
  have hset (v : Nat) : bit (setBit v i % 2 ^ 8) i = true := by rw [bit_mod_two_pow hi, bit_setBit_same]
  have hm : messageField (leakMap wet) = false := by cases wet <;> decide
  have hprot : (leakMap wet).key ≠ TIM_PROTSEQ.next.key := by cases wet <;> decide
  unfold leakLatch
  dsimp only
  rw [rd_protectHoldAll (by decide) (by decide), rd_protectHoldAll hm hprot, rd_protectHoldAll (by decide) (by decide)]
  rw [List.append_assoc]
  refine ⟨?_, ?_, ?_⟩
  · refine (congrArg (bit · i) (rd_run_sets (g := THM_LEAKMAP.latch) hs (by decide) [] _ ?_)).trans (hset _)
    cases wet
    case true =>
      simp [note, Upd.clears, Fld.key, THM_LEAKMAP.latch, THM_LEAKMAP.wet, THM_EVT.leak, V.leakWas, ivar]
      omega
    case false => simp [note, Upd.clears, Fld.key, THM_LEAKMAP.latch, THM_LEAKMAP.open_, THM_EVT.leak]
  · cases wet
    case true =>
      refine (congrArg (bit · i) (rd_run_sets (g := THM_LEAKMAP.wet) hs (by decide) [_, _] _ ?_)).trans (hset _)
      simp [note, Upd.clears, Fld.key, THM_LEAKMAP.wet, V.leakWas, ivar]
      omega
    case false =>
      refine (congrArg (bit · i) (rd_run_sets (g := THM_LEAKMAP.open_) hs (by decide) [_, _] _ ?_)).trans (hset _)
      simp [note, Upd.clears]
  · refine rd_run_sets hs (by decide) [_] 1 ?_
    cases wet
    case true =>
      simp [note, Upd.clears, Fld.key, THM_LEAKMAP.wet, THM_EVT.leak, V.leakWas, ivar]
      omega
    case false => simp [note, Upd.clears, Fld.key, THM_LEAKMAP.open_, THM_EVT.leak]

theorem leakWet_latches {s : State} (hs : s.Wf) {i : Nat} (hi : i < 8) (hsince : s.rd (V.wetAt i) ≠ 0) (hdue : s.rd (V.wetAt i) + 400000000 ≤ s.now + 1)
    (hnew : bit (s.rd THM_LEAKMAP.wet) i = false) :
    Gives (.leakWet i) s (fun t => bit (t.rd THM_LEAKMAP.latch) i = true ∧ bit (t.rd THM_LEAKMAP.wet) i = true ∧ t.rd THM_EVT.leak = 1) := by
  have hexec : exec (.leakWet i) s = .next (leakLatch i true s) := by
    show execLeakWet i s = _
    exact whenever_of (by simp [hi, hsince, hdue, hnew]) s _
  exact ⟨_, hexec, leakLatch_latches hs hi true⟩

theorem leakOpen_latches {s : State} (hs : s.Wf) {i : Nat} (hi : i < 8) (hsince : s.rd (V.openAt i) ≠ 0)
    (hdue : s.rd (V.openAt i) + 4000000000 ≤ s.now + 1) (hnew : bit (s.rd THM_LEAKMAP.open_) i = false) :
    Gives (.leakOpen i) s (fun t => bit (t.rd THM_LEAKMAP.latch) i = true ∧ bit (t.rd THM_LEAKMAP.open_) i = true ∧ t.rd THM_EVT.leak = 1) := by
  have hexec : exec (.leakOpen i) s = .next (leakLatch i false s) := by
    show execLeakOpen i s = _
    exact whenever_of (by simp [hi, hsince, hdue, hnew]) s _
  exact ⟨_, hexec, leakLatch_latches hs hi false⟩

/-! LEAKMAP_CLEAR (R366). -/

/-- The latches that a write clears. -/
def leaksCleared (w : ClearWrite) (s : State) : State := (bitsOf 8 (clearBits w.value w.hw)).foldl (fun t i => leakClear i t) s

/-- What a leak input is sampled as stands. -/
theorem leakClear_sample {k : Nat} (hk : k < 8) (i : Nat) {s : State} (hs : s.Wf) : (leakClear k s).Wf ∧ (leakClear k s).rd (Sig.leak i) = s.rd (Sig.leak i) := by
  have hm : messageField (Sig.leak i) = false := messageField_above (by dsimp only [Sig.leak, isig]; omega)
  have hprot : (Sig.leak i).key ≠ TIM_PROTSEQ.next.key := by
    simp only [Fld.key, Sig.leak, isig, TIM_PROTSEQ.next]
    omega
  have hspares : Passing (Upd.spares (· == (Sig.leak i).key)) s (leakClear k s) := by
    refine (protectDropAll_spares (p := (· == (Sig.leak i).key)) (beq_false_of_ne hprot.symm) (Passing.run (Via.refl s) ?_)).ite (Via.refl s)
    simp [note, Upd.spares, Fld.key, Sig.leak, isig, THM_LEAKMAP.latch, V.leakWas, ivar]
    omega
  exact ⟨hspares.wf hs, hspares.rd_spares hm (beq_self_eq_true _)⟩

/-- The map loses the latch of a dry input that is cleared, and no other. -/
theorem leakClear_latch {s : State} (hs : s.Wf) (k : Nat) : (leakClear k s).rd THM_LEAKMAP.latch =
    if bit (s.rd THM_LEAKMAP.latch) k = true ∧ s.rd (Sig.leak k) = 0 then clearBit (s.rd THM_LEAKMAP.latch) k % 2 ^ 8 else s.rd THM_LEAKMAP.latch := by
  simp only [leakClear, Bool.and_eq_true, decide_eq_true_eq]
  split
  · rw [rd_protectDropAll (by decide) (by decide)]
    refine rd_run_sets hs (by decide) [] _ ?_
    simp [note, Upd.clears, Fld.key, THM_LEAKMAP.latch, V.leakWas, ivar]
    omega
  · rfl

theorem leaksCleared_clears {s : State} (hs : s.Wf) {value hw i : Nat} (hi : i < 8) (hvalue : bit value i = true) (hkept : bit hw i = false)
    (hdry : s.rd (Sig.leak i) = 0) : bit ((leaksCleared ⟨value, hw⟩ s).rd THM_LEAKMAP.latch) i = false := by
  refine latchEach_clears (Q := fun s => s.Wf ∧ s.rd (Sig.leak i) = 0) (fun s h => ?_) (fun k s h hclear => ?_) (fun k hk s h => ?_) ⟨hs, hdry⟩ fun _ => ?_
  · rw [leakClear_latch h.1]
    split
    · rw [bit_mod_two_pow hi, bit_clearBit_same]
    next hno => exact Bool.eq_false_iff.mpr fun hset => hno ⟨hset, h.2⟩
  · rw [leakClear_latch h.1]
    split
    next hk =>
      have hne : i ≠ k := by
        rintro rfl
        rw [hclear] at hk
        cases hk.1
      rwa [bit_mod_two_pow hi, bit_clearBit_ne hne]
    next => exact hclear
  · obtain ⟨hwf, hsample⟩ := leakClear_sample (List.mem_range.mp (List.mem_of_mem_filter hk)) i h.1
    exact ⟨hwf, hsample.trans h.2⟩
  · exact List.mem_filter.mpr ⟨List.mem_range.mpr hi, bit_clearBits_of hvalue hkept⟩

theorem leakmapClear_clears {s : State} (hs : s.Wf) {req value i hw : Nat} (hreach : s.Reaches req 0xB0_0024 4 value false) (hi : i < 8)
    (hvalue : bit value i = true) (hkept : bit hw i = false) (hdry : s.rd (Sig.leak i) = 0) :
    Gives (.leakmapClear req ⟨value, hw⟩) s (fun t => bit (t.rd THM_LEAKMAP.latch) i = false) := by
  have hexec : exec (.leakmapClear req ⟨value, hw⟩) s = .next ((gathered (leaksCleared ⟨value, hw⟩) s).run (hostTraffic req true 4)) := by
    show execLeakmapClear req ⟨value, hw⟩ s = _
    exact gated_of_reaches hreach _
  obtain ⟨us, hsame, hgathered⟩ := rd_gathered (leaksCleared ⟨value, hw⟩) s
  refine ⟨_, hexec, ?_⟩
  beta_reduce
  rw [rd_run_hostTraffic, hgathered _ (by decide) (by decide)]
  exact leaksCleared_clears (run_wf us hs) hi hvalue hkept ((hsame _).trans hdry)

/-- Settles O37, a clause for each form: FLOW_WINDOW, FLOW_POWER_OFF, LEAK_WET, LEAK_OPEN and LEAKMAP_CLEAR (R364-R366). -/
theorem flowAndLeaks : Obligations.FlowAndLeaks := by
  unfold Obligations.FlowAndLeaks
  refine ⟨?_, ?_, ?_, ?_, ?_⟩
  · intro s i hs hi hdue
    exact flowWindow_takes hs hi hdue
  · intro s z a hs hz hfind hact hzone hon hlow hdue
    exact flowPowerOff_stops hs hz hfind hact hzone hon hlow hdue
  · intro s i hs hi hsince hdue hnew
    exact leakWet_latches hs hi hsince hdue hnew
  · intro s i hs hi hsince hdue hnew
    exact leakOpen_latches hs hi hsince hdue hnew
  · intro s req value i hw hs hreach hi hvalue hkept hdry
    exact leakmapClear_clears hs hreach hi hvalue hkept hdry

end Sys2Proof.Machine
end

section
/-! SUPPORT. Fields that are no MSI-X message, and the frame of an access by which a host may have written (R463, R522). -/

namespace Sys2Proof.Machine

/-- The messages stand in two ranges of scalars and in HIF's pending bits; a field beside them is none. -/
theorem messageField_beside {f : Fld} (hl : f.lsb < 64) (hsent : f.addr < 0x1_0152_0000 ∨ 0x1_0153_0000 ≤ f.addr) (hnew : f.addr ≠ 0x1_0174_0000)
    (hpba : f.addr < 0xF8_4000 ∨ 0xF8_4080 ≤ f.addr) : messageField f = false := by
  have hkey : V.msixNew.key = 0x1_0174_0000 * 64 := rfl
  have hown : f.key = f.addr * 64 + f.lsb := rfl
  simp only [messageField, Bool.or_eq_false_iff, Bool.and_eq_false_iff, decide_eq_false_iff_not, beq_eq_false_iff_ne]
  omega

/-- A register beyond HIF's pending bits. -/
theorem messageField_later {f : Fld} (h : 0xF8_4080 ≤ f.addr) (hu : f.addr < 0x1_0000_0000) (hl : f.lsb < 64) : messageField f = false :=
  messageField_beside hl (.inl (by omega)) (by omega) (.inr h)

/-- A scalar that is no message. -/
theorem messageField_ivar {id i : Nat} (hi : i < 0x1_0000) (hsent : id ≠ 0x152) (hnew : id ≠ 0x174) (w reset : Nat) :
    messageField (ivar id i w reset) = false :=
  messageField_beside (by decide : 0 < 64) (by dsimp only [ivar]; omega) (by dsimp only [ivar]; omega) (.inr (by dsimp only [ivar]; omega))

/-- A field of an array of registers that are not the pending bits. -/
theorem messageField_array {o k n lsb : Nat} (h : o + k * n < 0xF8_4000 ∨ 0xF8_4080 ≤ o + k * n ∧ o + k * n < 2 ^ 32) (hl : lsb < 64)
    (w reset : Nat) : messageField ⟨o + k * n, lsb, w, reset⟩ = false :=
  messageField_beside hl (.inl (by dsimp only; omega)) (by dsimp only; omega) (by dsimp only; omega)

/-- What only a host's access counts besides is outside every frame. -/
theorem OnlyFields.traffic {fs : List Fld} {s t : State} (h : OnlyFields fs s t) (req : Nat) (isWrite : Bool) (n : Nat) :
    OnlyFields fs s (t.run (hostTraffic req isWrite n)) := by
  obtain ⟨p, hp⟩ := run_hostTraffic t req isWrite n
  rw [hp]
  exact h.trans (onlyFields_pmu fs t p)

/-- A record that ends a list of updates is the last raised. -/
theorem raised_run_note (us : List Upd) (typ src : Nat) (pay : List (Nat × Nat × Nat)) (s : State) : Raised typ (s.run (us ++ [note typ src pay])) := by
  rw [run_append]
  exact raised_emit (s.run us) { typ := typ, src := src, pay := pay }

end Sys2Proof.Machine
end

section
/-! What the reads of port 0's command set give (R483, R484). -/

namespace Sys2Proof.Machine

/-- What a read returns: its bytes, and a PEC where one is required or the controller acknowledges a further byte (R483). -/
def State.withPec (s : State) (code : Nat) (body data : List Nat) (more : Bool) : List Nat :=
  data ++ (if s.on TWI_TCFG.pec_req || more then [crc8 ([s.cmdAddr, code] ++ body ++ [s.cmdAddr + 1] ++ data)] else [])

/-- What the rack manager is given. -/
theorem rack_given (s : State) (bs : List Nat) : tableGet 0 (s.run [giveBytes bs s]).bus.data Req.rack = ofLe bs :=
  get_readAs s.bus.data Req.rack _

/-- A read gives its bytes, and moves nothing else. -/
theorem cmdRead_gives {s : State} (hrun : s.targetRuns = true) (code : Nat) (body data : List Nat) (more : Bool) :
    ∃ t, cmdRead code body data more s = .next t ∧
      (tableGet 0 t.bus.data Req.rack = ofLe (s.withPec code body data more) ∧ t.regs = s.regs ∧ t.mem = s.mem) :=
  ⟨_, whenever_of hrun s _, rack_given s _, rfl, rfl⟩

/-- Settles O50, a clause for each read: each is `cmdRead` of its code with the value of R484. -/
theorem commandSetReadsTakeEffect : Obligations.CommandSetReadsTakeEffect := by
  unfold Obligations.CommandSetReadsTakeEffect
  refine ⟨?_, ?_, ?_, ?_, ?_, ?_, ?_, ?_, ?_, ?_, ?_⟩
  · intro s more _ hrun
    exact cmdRead_gives hrun 0x19 [] [0xD0] more
  · intro s more _ hrun
    exact cmdRead_gives hrun 0x79 [] (leBytes 2 s.statusWord) more
  · intro s more _ hrun
    exact cmdRead_gives hrun 0x98 [] [0x44] more
  · intro s more _ hrun
    exact cmdRead_gives hrun 0x99 [] (blockOf (ascii "HZF")) more
  · intro s more _ hrun
    exact cmdRead_gives hrun 0x9A [] (blockOf (ascii "OR8")) more
  · intro s more _ hrun
    exact cmdRead_gives hrun 0x9B [] (blockOf (ascii "B1")) more
  · intro s more _ hrun
    exact cmdRead_gives hrun 0x9E [] (blockOf (leBytes 8 (s.rd V.fuseSerial))) more
  · intro s more _ hrun
    exact cmdRead_gives hrun 0xD1 [] (blockOf (leBytes 4 (s.rd V.orderSeq) ++
      [s.rd V.orderCode, s.rd V.orderBlk, s.rd V.orderTgt, s.rd V.orderScope] ++ leBytes 4 (s.rd V.orderVal))) more
  · intro s b k x more _ hrun hb
    have hexec : exec (.readInforce [b, k, x] more) s =
        cmdRead 0xD2 [3, b, k, x] (blockOf ([s.orders.source b k x, 0, 0, 0] ++ leBytes 4 (s.orders.value b k x))) more s := by
      show execReadInforce [b, k, x] more s = _
      simp [execReadInforce, hb, blockOf]
    rw [Gives, hexec]
    exact cmdRead_gives hrun 0xD2 [3, b, k, x] _ more
  · intro s more _ hrun
    exact cmdRead_gives hrun 0xD3 [] (leBytes 8 s.now) more
  · intro s more _ hrun hopen
    have hexec : exec (.rcvStat more) s = cmdRead 0xE4 [] (leBytes 2 s.rcvWord) more s := if_pos hopen
    rw [Gives, hexec]
    exact cmdRead_gives hrun 0xE4 [] (leBytes 2 s.rcvWord) more

end Sys2Proof.Machine
end

section
/-! What the tray window, the alert response and unknown commands do (R478-R484). -/

namespace Sys2Proof.Machine

theorem messageField_winPtr {port : Nat} (h : port < 2) : messageField (V.winPtr port) = false :=
  messageField_ivar (by omega) (by decide) (by decide) _ _

/-- The pointer moves on by the bytes read, modulo 256 (R478). -/
theorem trayWindowRead_gives {s : State} (hs : s.Wf) {port n : Nat} (hport : port < 2) (hrun : s.targetRuns = true) :
    Gives (.trayWindowRead port n) s (fun t =>
      tableGet 0 t.bus.data Req.rack = ofLe ((List.range n).map (fun i => s.trayWindow.getD ((s.rd (V.winPtr port) + i) % 256) 0)) ∧
        t.rd (V.winPtr port) = (s.rd (V.winPtr port) + n) % 256 ∧ OnlyFields [V.winPtr port] { s with bus := t.bus } t) := by
  have hexec : exec (.trayWindowRead port n) s = .next (s.run (windowRead port n s)) := whenever_of (by simp [hport, hrun]) s _
  refine ⟨_, hexec, get_readAs s.bus.data Req.rack _, ?_, onlyFields_run (by simp [windowRead, giveBytes, giveData, Upd.setsOnly]) s⟩
  exact rd_run_sets hs (messageField_winPtr hport) [_] _ rfl

/-- A write sets the pointer past its bytes; of those only port 0's at 48H and 49H are taken (R481). -/
theorem trayWindowWrite_takes {s : State} (hs : s.Wf) {port p : Nat} {rest : List Nat} (hport : port < 2) (hrun : s.targetRuns = true) :
    Gives (.trayWindowWrite port (p :: rest)) s (fun t => t.rd (V.winPtr port) = (p + rest.length) % 256 ∧
      (port = 1 → t.rd V.alertMask = s.rd V.alertMask) ∧ OnlyFields [V.winPtr port, V.alertMask, TWI_TWDISC.count] s t) := by
  have hexec : exec (.trayWindowWrite port (p :: rest)) s = .next (s.run (windowWrite port (p :: rest) s)) :=
    whenever_of (by simp [hport, hrun]) s _
  refine ⟨_, hexec, ?_, ?_, onlyFields_run_of_bus (by simp [windowWrite, Upd.setsOnly]) rfl⟩
  · refine rd_run_sets hs (messageField_winPtr hport) [] _ ?_
    simp [Upd.clears, Fld.key, V.winPtr, V.alertMask, TWI_TWDISC.count, ivar]
    omega
  · rintro rfl
    refine (rd_run_sets hs (g := V.alertMask) (by decide) [_] _ rfl).trans ?_
    simp [Nat.mod_eq_of_lt (rd_lt s V.alertMask)]

/-- Both bytes of the mask, written in one transaction (R482). -/
theorem trayWindowWrite_masks {s : State} (hs : s.Wf) {lo hi : Nat} (hlo : lo < 256) (hhi : hi < 256) (hrun : s.targetRuns = true) :
    Gives (.trayWindowWrite 0 [0x48, lo, hi]) s (fun t => t.rd V.alertMask = lo + 256 * hi ∧ t.rd TWI_TWDISC.count = s.rd TWI_TWDISC.count) := by
  have hexec : exec (.trayWindowWrite 0 [0x48, lo, hi]) s = .next (s.run (windowWrite 0 [0x48, lo, hi] s)) := whenever_of (by simp [hrun]) s _
  refine ⟨_, hexec, ?_, ?_⟩
  · refine (rd_run_sets hs (g := V.alertMask) (by decide) [_] _ rfl).trans ?_
    simp [V.alertMask, ivar]
    omega
  · refine (rd_run_sets hs (g := TWI_TWDISC.count) (by decide) [_, _] _ rfl).trans ?_
    simp [Nat.mod_eq_of_lt (rd_lt s TWI_TWDISC.count)]

theorem alertResponse_gives {s : State} (hrun : s.targetRuns = true) (halert : s.alertOn = true) :
    Gives .alertResponse s (fun t => tableGet 0 t.bus.data Req.rack = ofLe [s.cmdAddr] ∧ t.regs = s.regs ∧ t.mem = s.mem) :=
  ⟨_, whenever_of (by simp [hrun, halert]) s _, rack_given s _, rfl, rfl⟩

/-- A status bit that is set joins those that stand. -/
theorem rd_setStatus {s : State} (hs : s.Wf) {m : Nat} (hm : m < 8) : (s.run [setStatus m s]).rd V.twiStatus = s.rd V.twiStatus ||| m :=
  (rd_run_sets hs (by decide) [] _ rfl).trans (Nat.mod_eq_of_lt (Nat.or_lt_two_pow (rd_lt s V.twiStatus) hm))

theorem unknownCommand_shows {s : State} (hs : s.Wf) {code : Nat} (hrun : s.targetRuns = true) (hcode : commandCodes.contains code = false) :
    Gives (.unknownCommand code) s (fun t => t.rd V.twiStatus = s.rd V.twiStatus ||| 4 ∧ OnlyFields [V.twiStatus] s t) :=
  ⟨_, whenever_of (by simp only [hrun, hcode]; rfl) s _, rd_setStatus hs (by decide), onlyFields_run_of_bus (by simp [setStatus, Upd.setsOnly]) rfl⟩

/-- Settles O49, a clause for each form, two for a write of the window: TRAY_WINDOW_READ, TRAY_WINDOW_WRITE, ALERT_RESPONSE and UNKNOWN_COMMAND
(R478, R481, R482, R484). -/
theorem trayWindowCommandsTakeEffect : Obligations.TrayWindowCommandsTakeEffect := by
  unfold Obligations.TrayWindowCommandsTakeEffect
  refine ⟨?_, ?_, ?_, ?_, ?_⟩
  · intro s port n hs hport hrun
    exact trayWindowRead_gives hs hport hrun
  · intro s port p rest hs hport hrun
    exact trayWindowWrite_takes hs hport hrun
  · intro s lo hi hs hlo hhi hrun
    exact trayWindowWrite_masks hs hlo hhi hrun
  · intro s _ hrun halert
    exact alertResponse_gives hrun halert
  · intro s code hs hrun hcode
    exact unknownCommand_shows hs hrun hcode

end Sys2Proof.Machine
end

section
/-! What the writes of port 0's command set do (R483-R488). -/

namespace Sys2Proof.Machine

/-! Parts of the state that a list of updates leaves. -/

/-- What every update of a list leaves, the list leaves. -/
theorem run_leaves {α : Type} {π : State → α} {us : List Upd} (h : ∀ u ∈ us, ∀ s, π (s.apply u) = π s) (s : State) : π (s.run us) = π s := by
  induction us generalizing s with
  | nil => rfl
  | cons u us ih =>
    obtain ⟨hu, hus⟩ := List.forall_mem_cons.mp h
    rw [run_cons, ih hus, hu]

theorem orders_run {us : List Upd} (h : us.all Upd.leavesOrders = true) (s : State) : (s.run us).orders = s.orders :=
  Passing.orders ((Via.refl s).run (List.all_eq_true.mp h))

/-- The update leaves memory. -/
def Upd.noStore : Upd → Bool
  | .store _ _ | .wipe _ _ => false
  | _ => true

theorem mem_apply {u : Upd} (h : u.noStore = true) (s : State) : (s.apply u).mem = s.mem := by
  cases u
  case store | wipe => cases h
  case flushVectors => rw [apply_flush]
  all_goals rfl

theorem mem_run {us : List Upd} (h : us.all Upd.noStore = true) (s : State) : (s.run us).mem = s.mem :=
  run_leaves (fun _ hu => mem_apply (List.all_eq_true.mp h _ hu)) s

/-! A write whose count and PEC are right (R483). -/

theorem cmdWrite_of_right {s : State} {code : Nat} {body : List Nat} {good : Bool} {pec : Option Nat} (hrun : s.targetRuns = true)
    (hgood : good = true) (hnone : pec = none → s.rd TWI_TCFG.pec_req = 0) (hpec : ∀ x, pec = some x → x = crc8 (s.cmdAddr :: code :: body))
    (t : State) : cmdWrite code body good pec t s = .next t := by
  subst hgood
  cases pec with
  | none =>
    have hreq : s.on TWI_TCFG.pec_req = false := by simp [State.on, hnone rfl]
    simp [cmdWrite, hrun, hreq]
  | some x => simp [cmdWrite, hrun, hpec x rfl]

theorem clearFaults_clears {s : State} (hs : s.Wf) {pec : Option Nat} (hrun : s.targetRuns = true) (hnone : pec = none → s.rd TWI_TCFG.pec_req = 0)
    (hpec : ∀ x, pec = some x → x = crc8 (s.cmdAddr :: 0x03 :: [])) :
    Gives (.clearFaults pec) s (fun t => t.rd V.twiStatus = 0 ∧ OnlyFields [V.twiStatus] s t) :=
  ⟨_, cmdWrite_of_right hrun rfl hnone hpec _, rd_run_sets hs (by decide) [] 0 rfl, onlyFields_run_of_bus (by simp [Upd.setsOnly]) rfl⟩

/-! TRAY_ORDER (R485). -/

/-- An order that is accepted is defined, so its block is one of the five (R65). -/
theorem blk_of_accepted {s : State} {o : Order} (h : s.decodeResult o = 0) : o.blk < 5 := by
  by_contra hblk
  have hund : s.orderDefined o.src o.blk o.target o.scope o.window o.release = false := by
    unfold State.orderDefined Blk.cap Blk.seq Blk.thm Blk.fed Blk.acu
    rw [if_neg, if_neg, if_neg, if_neg, if_neg] <;> omega
  simp [State.decodeResult, hund] at h

theorem decodeResult_le (s : State) (o : Order) : s.decodeResult o ≤ 2 := by
  unfold State.decodeResult
  split_ifs <;> omega

theorem acceptOrder_pends (o : Order) (t : Nat) (s : State) : o ∈ (s.run (acceptOrder o t s)).orders.pend := by
  rw [acceptOrder, run_append]
  exact List.mem_append_right _ (List.mem_singleton.mpr rfl)

/-- A decoded order that is accepted waits; one that is not leaves the orders (R458, R485). -/
theorem decodeOrder_orders (o : Order) (s : State) : (s.decodeResult o = 0 → o ∈ (s.run (decodeOrder o s)).orders.pend) ∧
    (s.decodeResult o ≠ 0 → (s.run (decodeOrder o s)).orders = s.orders) := by
  refine ⟨fun h => ?_, fun h => ?_⟩
  · rw [decodeOrder, h]
    exact acceptOrder_pends o s.now s
  · simp only [decodeOrder, if_neg h]
    rfl

/-- The same where an order of no block is only recorded. -/
theorem decodeOrElse_orders (o : Order) (r : Rec) (s : State) {us : List Upd} (hus : us = if o.blk < 5 then decodeOrder o s else [.emit r]) :
    (s.decodeResult o = 0 → o ∈ (s.run us).orders.pend) ∧ (s.decodeResult o ≠ 0 → (s.run us).orders = s.orders) := by
  subst hus
  split
  next => exact decodeOrder_orders o s
  next hblk => exact ⟨fun h => absurd (blk_of_accepted h) hblk, fun _ => rfl⟩

theorem trayOrder_decodes {s : State} (hs : s.Wf) {body : List Nat} {pec : Option Nat} {acked : Bool} (hmgmt : s.mgmtRuns = true)
    (hrun : s.targetRuns = true) (hlen : body.length = 20) (hnone : pec = none → s.rd TWI_TCFG.pec_req = 0)
    (hpec : ∀ x, pec = some x → x = crc8 (s.cmdAddr :: 0xD0 :: blockOf body)) :
    Gives (.trayOrder body pec acked) s (fun t => t.rd TWI_ORDSEQ.next = (s.rd TWI_ORDSEQ.next + 1) % 2 ^ TWI_ORDSEQ.next.width ∧
      t.rd V.orderSeq = s.rd TWI_ORDSEQ.next ∧ t.rd V.orderCode = s.decodeResult (s.rackOrder body) ∧
      (s.decodeResult (s.rackOrder body) = 0 → s.rackOrder body ∈ t.orders.pend) ∧ (s.decodeResult (s.rackOrder body) ≠ 0 → t.orders = s.orders)) := by
  have hexec : exec (.trayOrder body pec acked) s = .next (s.run (trayOrderFx body s)) := by
    show execTrayOrder body pec acked s = _
    rw [execTrayOrder, if_pos hmgmt]
    exact cmdWrite_of_right hrun (by simp [hlen]) hnone hpec _
  refine ⟨_, hexec, ?_⟩
  beta_reduce
  obtain ⟨ds, hds⟩ : ∃ ds, ds = if (s.rackOrder body).blk < 5 then decodeOrder (s.rackOrder body) s
      else [.emit { s.orderRec (s.rackOrder body) 1 s.now with src := srcOf 0xD 0 }] := ⟨_, rfl⟩
  obtain ⟨haccept, hrefuse⟩ := decodeOrElse_orders (s.rackOrder body) _ s hds
  have hcode : s.decodeResult (s.rackOrder body) < 256 := (decodeResult_le s _).trans_lt (by decide)
  rw [trayOrderFx, ← hds, List.append_assoc, run_append]
  cases s.decodeResult (s.rackOrder body) != 0
  all_goals
    rw [orders_run rfl]
    refine ⟨rd_run_sets (run_wf _ hs) (g := TWI_ORDSEQ.next) (by decide) [] _ rfl, ?_, ?_, haccept, hrefuse⟩
    · exact (rd_run_sets (run_wf _ hs) (g := V.orderSeq) (by decide) [_] _ rfl).trans (Nat.mod_eq_of_lt (rd_lt s TWI_ORDSEQ.next))
    · exact (rd_run_sets (run_wf _ hs) (g := V.orderCode) (by decide) [_, _] _ rfl).trans (Nat.mod_eq_of_lt hcode)

/-! The recovery window (R488). -/

theorem rcvAddr_sets {s : State} (hs : s.Wf) {body : List Nat} {pec : Option Nat} (hrun : s.targetRuns = true) (hopen : s.rcvOpen = true)
    (hlen : body.length = 4) (hnone : pec = none → s.rd TWI_TCFG.pec_req = 0) (hpec : ∀ x, pec = some x → x = crc8 (s.cmdAddr :: 0xE0 :: body)) :
    Gives (.rcvAddr body pec) s (fun t => t.rd V.rcvOfs = ofLe body % 2 ^ 32 ∧ OnlyFields [V.rcvOfs] s t) := by
  have hexec : exec (.rcvAddr body pec) s = .next (s.run [.set V.rcvOfs (ofLe body)]) :=
    (if_pos hopen).trans (cmdWrite_of_right hrun (by simp [hlen]) hnone hpec _)
  exact ⟨_, hexec, rd_run_sets hs (by decide) [] _ rfl, onlyFields_run_of_bus (by simp [Upd.setsOnly]) rfl⟩

theorem rcvLen_sets {s : State} (hs : s.Wf) {body : List Nat} {pec : Option Nat} (hrun : s.targetRuns = true) (hopen : s.rcvOpen = true)
    (hlen : body.length = 4) (hnone : pec = none → s.rd TWI_TCFG.pec_req = 0) (hpec : ∀ x, pec = some x → x = crc8 (s.cmdAddr :: 0xE2 :: body)) :
    Gives (.rcvLen body pec) s (fun t => t.rd HIF_RCVLEN.len = ofLe body % 2 ^ HIF_RCVLEN.len.width ∧ OnlyFields [HIF_RCVLEN.len] s t) := by
  have hexec : exec (.rcvLen body pec) s = .next (s.run [.set HIF_RCVLEN.len (ofLe body)]) :=
    (if_pos hopen).trans (cmdWrite_of_right hrun (by simp [hlen]) hnone hpec _)
  exact ⟨_, hexec, rd_run_sets hs (by decide) [] _ rfl, onlyFields_run_of_bus (by simp [Upd.setsOnly]) rfl⟩

/-- The window never holds more than the largest image, so the offset does not wrap. -/
theorem recoveryRoom_lt (kind : Nat) : recoveryRoom kind < 2 ^ 32 := by
  unfold recoveryRoom
  split <;> decide

theorem rcvData_stores {s : State} (hs : s.Wf) {body : List Nat} {pec : Option Nat} (hrun : s.targetRuns = true) (hopen : s.rcvOpen = true)
    (hlo : 1 ≤ body.length) (hhi : body.length ≤ 240) (hroom : s.rd V.rcvOfs + body.length ≤ recoveryRoom (s.rd HIF_RCVSTAT.kind))
    (hnone : pec = none → s.rd TWI_TCFG.pec_req = 0) (hpec : ∀ x, pec = some x → x = crc8 (s.cmdAddr :: 0xE1 :: blockOf body)) :
    Gives (.rcvData body pec) s (fun t => memBytes t.mem (mgmtSram + s.rd V.rcvOfs) body.length = body.map (· % 256) ∧
      t.rd V.rcvOfs = s.rd V.rcvOfs + body.length ∧
      (∀ b, b < mgmtSram + s.rd V.rcvOfs ∨ mgmtSram + s.rd V.rcvOfs + body.length ≤ b → memByte t.mem b = memByte s.mem b)) := by
  have hexec : exec (.rcvData body pec) s =
      .next (s.run [.store (mgmtSram + s.rd V.rcvOfs) (body.map (· % 256)), .set V.rcvOfs (s.rd V.rcvOfs + body.length)]) :=
    (if_pos hopen).trans (cmdWrite_of_right hrun (by simp [hlo, hhi, hroom]) hnone hpec _)
  obtain ⟨-, hmem, -⟩ := id hs
  refine ⟨_, hexec, ?_, ?_, fun b hb => memByte_setBytes_out s.mem _ (by simpa using hb)⟩
  · have hback := memBytes_setBytes_same (bs := body.map (· % 256)) (mgmtSram + s.rd V.rcvOfs) hmem
      (List.forall_mem_map.mpr fun b _ => Nat.mod_lt b (by decide))
    rwa [List.length_map] at hback
  · exact (rd_run_sets hs (g := V.rcvOfs) (by decide) [_] _ rfl).trans (Nat.mod_eq_of_lt (hroom.trans_lt (recoveryRoom_lt _)))

/-- A go while the window stands open, or after a rejection, starts the check for the path that wrote it (R465). -/
theorem recoveryGo_starts {s : State} (hs : s.Wf) {path : Nat} (hpath : path < 2) (hstate : s.rd HIF_RCVSTAT.state = 1 ∨ s.rd HIF_RCVSTAT.state = 4) :
    (s.does (recoveryGo path)).rd HIF_RCVSTAT.state = 2 ∧ (s.does (recoveryGo path)).rd HIF_RCVSTAT.path = path ∧
      (s.does (recoveryGo path)).rd HIF_RCVSTAT.code = 0 ∧
      OnlyFields [HIF_RCVSTAT.state, HIF_RCVSTAT.path, HIF_RCVSTAT.code] s (s.does (recoveryGo path)) := by
  have hfx : recoveryGo path s = [.set HIF_RCVSTAT.state 2, .set HIF_RCVSTAT.path path, .set HIF_RCVSTAT.code 0] := by
    simp [recoveryGo, hstate]
  rw [does_eq, hfx]
  refine ⟨rd_run_sets hs (g := HIF_RCVSTAT.state) (by decide) [] 2 rfl, ?_, rd_run_sets hs (g := HIF_RCVSTAT.code) (by decide) [_, _] 0 rfl,
    onlyFields_run_of_bus (by simp [Upd.setsOnly]) rfl⟩
  exact (rd_run_sets hs (g := HIF_RCVSTAT.path) (by decide) [_] path rfl).trans (Nat.mod_eq_of_lt hpath)

theorem rcvGo_starts {s : State} (hs : s.Wf) {pec : Option Nat} (hrun : s.targetRuns = true) (hplane : s.rd (V.planeHeld 3) = 0)
    (hstate : s.rd HIF_RCVSTAT.state = 1 ∨ s.rd HIF_RCVSTAT.state = 4) (hnone : pec = none → s.rd TWI_TCFG.pec_req = 0)
    (hpec : ∀ x, pec = some x → x = crc8 (s.cmdAddr :: 0xE3 :: [])) :
    Gives (.rcvGo pec) s (fun t => t.rd HIF_RCVSTAT.state = 2 ∧ t.rd HIF_RCVSTAT.path = 1 ∧ t.rd HIF_RCVSTAT.code = 0 ∧
      OnlyFields [HIF_RCVSTAT.state, HIF_RCVSTAT.path, HIF_RCVSTAT.code] s t) := by
  have hopen : s.rcvOpen = true := by
    have hup : s.on (V.planeHeld 3) = false := by simp [State.on, hplane]
    simp only [State.rcvOpen, hup, Bool.not_false, Bool.and_true, Bool.and_eq_true, decide_eq_true_eq]
    omega
  have hexec : exec (.rcvGo pec) s = .next (s.does (recoveryGo 1)) := (if_pos hopen).trans (cmdWrite_of_right hrun rfl hnone hpec _)
  exact ⟨_, hexec, recoveryGo_starts hs (by decide) hstate⟩

/-- Settles O51, a clause for each form: CLEAR_FAULTS, TRAY_ORDER, RCV_ADDR, RCV_DATA, RCV_LEN and RCV_GO (R483-R488). -/
theorem commandSetWritesTakeEffect : Obligations.CommandSetWritesTakeEffect := by
  unfold Obligations.CommandSetWritesTakeEffect
  refine ⟨?_, ?_, ?_, ?_, ?_, ?_⟩
  · intro s pec hs hrun hnone hpec
    exact clearFaults_clears hs hrun hnone hpec
  · intro s body pec acked hs hmgmt hrun hlen hnone hpec
    exact trayOrder_decodes hs hmgmt hrun hlen hnone hpec
  · intro s body pec hs hrun hopen hlen hnone hpec
    exact rcvAddr_sets hs hrun hopen hlen hnone hpec
  · intro s body pec hs hrun hopen hlo hhi hroom hnone hpec
    exact rcvData_stores hs hrun hopen hlo hhi hroom hnone hpec
  · intro s body pec hs hrun hopen hlen hnone hpec
    exact rcvLen_sets hs hrun hopen hlen hnone hpec
  · intro s pec hs hrun hplane hstate hnone hpec
    exact rcvGo_starts hs hrun hplane hstate hnone hpec

end Sys2Proof.Machine
end

section
/-! What the two-wire ports do: timeouts, a stuck SDA, transfers and the identification (R475-R477, R489, R490). -/

namespace Sys2Proof.Machine

/-! The event of a port (R492). -/

/-- It moves a count of its own and the event bit alone. -/
theorem rd_portEvent {n what : Nat} (hn : n < 16) (hwhat : what < 8) {g : Fld} (hm : messageField g = false)
    (ha : 0x100_1000 ≤ g.addr ∧ (g.addr < 0x1_016A_0000 ∨ 0x1_016B_0000 ≤ g.addr)) (hl : g.lsb < 64) (s : State) :
    (s.does (portEvent n what)).rd g = s.rd g := by
  refine rd_run_clear hm ?_
  simp [portEvent, portNote, note, bump, Upd.clears, Fld.key, V.twiCount, TWI_EVT.bus, ivar]
  omega

theorem raised_portEvent (n what : Nat) (s : State) : Raised Ty.TWI_EVENT (s.does (portEvent n what)) :=
  raised_run_note [_, _] _ _ _ s

/-- A port that watches its bus is one of the sixteen (R471). -/
theorem port_lt_of_alive {s : State} {n : Nat} (h : s.portAlive n = true) : n < 16 := by
  unfold State.portAlive at h
  split at h
  next => omega
  next =>
    obtain ⟨hn, -⟩ := (Bool.and_eq_true _ _).mp h
    exact of_decide_eq_true hn

section
variable {s : State} {n : Nat}

/-! SCL_LOW_TIMEOUT and SDA_STUCK (R476, R477). -/

/-- What a timeout does before its event is raised. -/
def sclTimedOut (n : Nat) (s : State) : State :=
  s.run ([.set (TWI_PSTAT.scl_low n) 1, bump s (TWI_PTOUT.count n)] ++ onlyIf (s.on (TWI_CRES.busy n)) (transferEnd n 4 (Config.portBytes n s.now)))

theorem sclLowTimeout_ends (hs : s.Wf) (halive : s.portAlive n = true) :
    Gives (.sclLowTimeout n) s (fun t => t.rd (TWI_PSTAT.scl_low n) = 1 ∧
      t.rd (TWI_PTOUT.count n) = (s.rd (TWI_PTOUT.count n) + 1) % 2 ^ (TWI_PTOUT.count n).width ∧
      (s.rd (TWI_CRES.busy n) = 1 → t.rd (TWI_CRES.busy n) = 0 ∧ t.rd (TWI_CRES.code n) = 4) ∧ Raised Ty.TWI_EVENT t) := by
  have hn := port_lt_of_alive halive
  have hexec : exec (.sclLowTimeout n) s = .next ((sclTimedOut n s).does (portEvent n 1)) := whenever_of halive s _
  have hkeep {o lsb w reset : Nat} (ho : 0x100_1000 ≤ o ∧ o < 0x110_0000) (hl : lsb < 64) :
      ((sclTimedOut n s).does (portEvent n 1)).rd ⟨o + 0x100 * n, lsb, w, reset⟩ = (sclTimedOut n s).rd ⟨o + 0x100 * n, lsb, w, reset⟩ :=
    rd_portEvent hn (by decide) (messageField_array (by omega) hl _ _) (by dsimp only; omega) hl _
  refine ⟨_, hexec, ?_, ?_, fun hbusy => ?_, raised_portEvent n 1 _⟩
  · refine (hkeep (by decide) (by decide)).trans (rd_run_sets hs (messageField_array (by omega) (by decide) _ _) [] 1 ?_)
    simp [bump, transferEnd, Upd.clears, Fld.key, TWI_PTOUT.count, TWI_CRES.busy, TWI_CRES.count, TWI_CRES.code]
    omega
  · refine (hkeep (by decide) (by decide)).trans (rd_run_sets hs (messageField_array (by omega) (by decide) _ _) [_] _ ?_)
    simp [transferEnd, Upd.clears, Fld.key, TWI_CRES.busy, TWI_CRES.count, TWI_CRES.code]
    omega
  · have hend : sclTimedOut n s = s.run ([.set (TWI_PSTAT.scl_low n) 1, bump s (TWI_PTOUT.count n)] ++ transferEnd n 4 (Config.portBytes n s.now)) := by
      rw [sclTimedOut, State.on, hbusy]
      rfl
    refine ⟨(hkeep (by decide) (by decide)).trans ?_, (hkeep (by decide) (by decide)).trans ?_⟩
    · rw [hend]
      refine rd_run_sets hs (g := TWI_CRES.busy n) (messageField_array (by omega) (by decide) _ _) [_, _] 0 ?_
      simp [Upd.clears, Fld.key, TWI_CRES.busy, TWI_CRES.count, TWI_CRES.code]
    · rw [hend]
      exact rd_run_sets hs (g := TWI_CRES.code n) (messageField_array (by omega) (by decide) _ _) [_, _, _, _] 4 rfl

theorem sdaStuck_shows (hs : s.Wf) (halive : s.portAlive n = true) :
    Gives (.sdaStuck n) s (fun t => t.rd (TWI_PSTAT.sda_stuck n) = 1 ∧ (2 ≤ n → t.rd (V.sdaBad n) = 1) ∧ Raised Ty.TWI_EVENT t) := by
  have hn := port_lt_of_alive halive
  have hbad : messageField (V.sdaBad n) = false := messageField_ivar (by omega) (by decide) (by decide) _ _
  refine ⟨_, whenever_of halive s _, ?_, fun hctl => ?_, raised_portEvent n 2 _⟩
  · refine (rd_portEvent hn (by decide) (messageField_array (by omega) (by decide) _ _) (by dsimp only [TWI_PSTAT.sda_stuck]; omega) (by decide : 1 < 64) _).trans ?_
    refine rd_run_sets hs (messageField_array (by omega) (by decide) _ _) [] 1 ?_
    simp [Upd.clears, Fld.key, V.sdaBad, ivar]
    omega
  · rw [decide_eq_true hctl, onlyIf_true]
    refine (rd_portEvent hn (by decide) hbad (by dsimp only [V.sdaBad, ivar]; omega) (by decide : 0 < 64) _).trans ?_
    exact rd_run_sets hs hbad [_] 1 rfl

/-! CONTROLLER_TRANSFER (R489). -/

/-- The command's fields. -/
def ccmdTaken (n value : Nat) : List Upd :=
  [.set (TWI_CCMD.rstart n) (bits value 30 1), .set (TWI_CCMD.block n) (bits value 29 1), .set (TWI_CCMD.pec n) (bits value 28 1),
    .set (TWI_CCMD.addr n) (bits value 16 7), .set (TWI_CCMD.rd_len n) (bits value 8 6), .set (TWI_CCMD.wr_len n) (bits value 0 6)]

/-- On an enabled free port that nothing holds, the command's fields are taken and the port is busy. -/
theorem controllerStart_runs {req value recov : Nat} (hgo : bit value 31 = true) (hbusy : s.rd (TWI_CRES.busy n) = 0)
    (hen : s.rd (TWI_PCFG.en n) = 1) (hident : s.identHolds n = false) (hsda : s.rd (V.sdaBad n) = 0) :
    controllerStart req n value recov s = s.run (ccmdTaken n value ++ [.set (TWI_CRES.busy n) 1]) := by
  simp [controllerStart, ccmdTaken, State.on, hgo, hbusy, hen, hident, hsda]

theorem controllerTransfer_starts (hs : s.Wf) {req value recov : Nat} (hlo : 2 ≤ n) (hn : n < 16)
    (hreach : s.Reaches req (0x100_1020 + 0x100 * n) 4 value false) (hgo : bit value 31 = true) (hbusy : s.rd (TWI_CRES.busy n) = 0)
    (hen : s.rd (TWI_PCFG.en n) = 1) (hident : s.identHolds n = false) (hsda : s.rd (V.sdaBad n) = 0) :
    Gives (.controllerTransfer req n value recov) s (fun t => t.rd (TWI_CRES.busy n) = 1 ∧ t.rd (TWI_CCMD.addr n) = bits value 16 7 ∧
      t.rd (TWI_CCMD.rd_len n) = bits value 8 6 ∧ t.rd (TWI_CCMD.wr_len n) = bits value 0 6) := by
  have hexec : exec (.controllerTransfer req n value recov) s =
      .next ((s.run (ccmdTaken n value ++ [.set (TWI_CRES.busy n) 1])).run (hostTraffic req true 4)) := by
    show execControllerTransfer req n value recov s = _
    rw [execControllerTransfer, if_pos (by simp [hlo, hn]), gated_of_reaches hreach, controllerStart_runs hgo hbusy hen hident hsda]
  have hbits (o w : Nat) : bits value o w % 2 ^ w = bits value o w := by simp [bits]
  refine ⟨_, hexec, ?_, ?_, ?_, ?_⟩ <;> rw [rd_run_hostTraffic]
  · exact rd_run_sets hs (g := TWI_CRES.busy n) (messageField_array (by omega) (by decide) _ _) (ccmdTaken n value) 1 rfl
  · refine (rd_run_sets hs (g := TWI_CCMD.addr n) (messageField_array (by omega) (by decide) _ _) [_, _, _] _ ?_).trans (hbits 16 7)
    simp [Upd.clears, Fld.key, TWI_CCMD.addr, TWI_CCMD.rd_len, TWI_CCMD.wr_len, TWI_CRES.busy]
    omega
  · refine (rd_run_sets hs (g := TWI_CCMD.rd_len n) (messageField_array (by omega) (by decide) _ _) [_, _, _, _] _ ?_).trans (hbits 8 6)
    simp [Upd.clears, Fld.key, TWI_CCMD.rd_len, TWI_CCMD.wr_len, TWI_CRES.busy]
    omega
  · refine (rd_run_sets hs (g := TWI_CCMD.wr_len n) (messageField_array (by omega) (by decide) _ _) [_, _, _, _, _] _ ?_).trans (hbits 0 6)
    simp [Upd.clears, Fld.key, TWI_CCMD.wr_len, TWI_CRES.busy]
    omega

/-! TRANSFER_DONE (R475, R489). -/

theorem readCode_le (s : State) (n : Nat) (rx : List Nat) : s.readCode n rx ≤ 7 := by
  unfold State.readCode
  dsimp only
  split_ifs <;> omega

/-- The result that a transfer ends with: 6 on a port that the identification holds. -/
def State.transferCode (s : State) (n out : Nat) (rx : List Nat) : Nat :=
  if s.identHolds n = true then 6 else if out = 0 then s.readCode n rx else out

theorem transferCode_le {out : Nat} (hout : out ≤ 3) (n : Nat) (rx : List Nat) : s.transferCode n out rx ≤ 7 := by
  have hread := readCode_le s n rx
  unfold State.transferCode
  split_ifs <;> omega

/-- The bytes received stand at registers of their own. -/
theorem storeRx_clears {g : Fld} (ha : g.addr < 0x1001080 + 0x100 * n) (hl : g.lsb < 64) (rx : List Nat) :
    (storeRx n rx).all (·.clears g) = true := by
  rw [storeRx, List.all_map, List.all_eq_true]
  intro w _
  simp [Upd.clears, Fld.key, TWI_CRX.data]
  omega

/-- What a transfer's end leaves besides its result: the bytes received and the counts. -/
def transferCounts (n out lost : Nat) (rx : List Nat) (s : State) : List Upd :=
  onlyIf (out == 0 && s.rd (TWI_CCMD.rd_len n) != 0) (storeRx n rx) ++ (onlyIf (out == 1 || out == 2) [bump s (TWI_PNACK.count n)] ++
    [.set (TWI_PARB.count n) (s.rd (TWI_PARB.count n) + lost)])

theorem transferCounts_clears {g : Fld} (ha : g.addr = 0x1001024 + 0x100 * n) (hl : g.lsb < 64) (out lost : Nat) (rx : List Nat) :
    (transferCounts n out lost rx s).all (·.clears g) = true := by
  rw [transferCounts, List.all_append, all_onlyIf_eq, storeRx_clears (by omega) hl]
  simp [bump, Upd.clears, Fld.key, TWI_PNACK.count, TWI_PARB.count]
  omega

/-- A transfer's end but for the event of an arbitration that was lost for good (R475). -/
def transferEnded (n out sent lost : Nat) (rx : List Nat) (s : State) : List Upd :=
  transferEnd n (s.transferCode n out rx) (if out = 2 || out = 3 then sent else if out ≠ 0 then 0
      else if s.rd (TWI_CCMD.rd_len n) = 0 then s.rd (TWI_CCMD.wr_len n) else rx.length) ++ transferCounts n out lost rx s

theorem rd_transferDone (hn : n < 16) {out sent lost o lsb w reset : Nat} {rx : List Nat} (ho : 0x100_1000 ≤ o ∧ o < 0x110_0000) (hl : lsb < 64) :
    (transferDone n out sent lost rx s).rd ⟨o + 0x100 * n, lsb, w, reset⟩ =
      (s.run (transferEnded n out sent lost rx s)).rd ⟨o + 0x100 * n, lsb, w, reset⟩ := by
  have hdone : transferDone n out sent lost rx s = if s.transferCode n out rx = 3
      then (s.run (transferEnded n out sent lost rx s)).does (portEvent n 5) else s.run (transferEnded n out sent lost rx s) := by
    simp only [transferEnded, transferCounts, ← List.append_assoc]
    rfl
  rw [hdone]
  split
  · exact rd_portEvent hn (by decide) (messageField_array (by omega) hl _ _) (by dsimp only; omega) hl _
  · rfl

theorem transferDone_ends (hs : s.Wf) {out sent lost : Nat} {rx : List Nat} (hlo : 2 ≤ n) (halive : s.portAlive n = true)
    (hbusy : s.rd (TWI_CRES.busy n) = 1) (hout : out ≤ 3) (hloss : s.lossesFit n out lost = true) (hrx : rx.length ≤ 33) :
    Gives (.transferDone n out sent lost rx) s (fun t => t.rd (TWI_CRES.busy n) = 0 ∧ t.rd (TWI_CRES.code n) = s.transferCode n out rx ∧
      (out = 1 ∨ out = 2 → t.rd (TWI_PNACK.count n) = (s.rd (TWI_PNACK.count n) + 1) % 2 ^ (TWI_PNACK.count n).width)) := by
  have hn := port_lt_of_alive halive
  have hexec : exec (.transferDone n out sent lost rx) s = .next (transferDone n out sent lost rx s) :=
    whenever_of (by simp [State.on, hbusy, hlo, halive, hout, hloss, hrx]) s _
  have hcode : s.transferCode n out rx < 2 ^ 8 := (transferCode_le hout n rx).trans_lt (by decide)
  refine ⟨_, hexec, ?_, ?_, fun hnack => ?_⟩
  · refine (rd_transferDone hn (by decide) (by decide)).trans ?_
    refine rd_run_sets hs (g := TWI_CRES.busy n) (messageField_array (by omega) (by decide) _ _) []
      (vs := .set (TWI_CRES.count n) _ :: .set (TWI_CRES.code n) _ :: transferCounts n out lost rx s) 0 ?_
    rw [List.all_cons, List.all_cons, transferCounts_clears rfl (by decide : 31 < 64)]
    simp [Upd.clears, Fld.key, TWI_CRES.busy, TWI_CRES.count, TWI_CRES.code]
  · refine (rd_transferDone hn (by decide) (by decide)).trans ?_
    exact (rd_run_sets hs (g := TWI_CRES.code n) (messageField_array (by omega) (by decide) _ _) [_, _] _
      (transferCounts_clears rfl (by decide : 0 < 64) out lost rx)).trans (Nat.mod_eq_of_lt hcode)
  · refine (rd_transferDone hn (by decide) (by decide)).trans ?_
    have hcount : (out == 1 || out == 2) = true := by simpa using hnack
    rw [transferEnded, transferCounts, hcount, onlyIf_true, ← List.append_assoc]
    refine rd_run_sets hs (g := TWI_PNACK.count n) (messageField_array (by omega) (by decide) _ _) _ _ ?_
    simp [Upd.clears, Fld.key, TWI_PNACK.count, TWI_PARB.count]

/-! REGULATOR_IDENT (R490). -/

theorem regulatorIdent_ends (hs : s.Wf) (vals : List Nat) (hcommit : s.committed = true) (hfirst : s.rd V.identDone = 0)
    (hplane : s.rd (V.planeHeld 3) = 0) :
    Gives (.regulatorIdent vals) s (fun t => t.rd V.identDone = 1 ∧ t.rd V.identOwed = 0 ∧ t.rd TWI_EVT.ident = 1) := by
  have hread : (s.doEach (List.range 32) (identEntry vals)).Wf := (Via.doEach (Via.refl s) fun _ _ _ _ _ => trivial : Comes _ _).wf hs
  exact ⟨_, whenever_of (by simp [hcommit, State.on, hfirst, hplane]) s _, rd_run_sets hread (by decide) [] 1 rfl,
    rd_run_sets hread (by decide) [_] 0 rfl, rd_run_sets hread (by decide) [_, _] 1 rfl⟩

end

/-- Settles O52, a clause for each form: SCL_LOW_TIMEOUT, SDA_STUCK, CONTROLLER_TRANSFER, TRANSFER_DONE and REGULATOR_IDENT (R475-R477, R489, R490). -/
theorem portCommandsTakeEffect : Obligations.PortCommandsTakeEffect := by
  unfold Obligations.PortCommandsTakeEffect
  refine ⟨?_, ?_, ?_, ?_, ?_⟩
  · intro s n hs halive
    exact sclLowTimeout_ends hs halive
  · intro s n hs halive
    exact sdaStuck_shows hs halive
  · intro s req n value recov hs hlo hn hreach hgo hbusy hen hident hsda
    exact controllerTransfer_starts hs hlo hn hreach hgo hbusy hen hident hsda
  · intro s n out sent lost rx hs hlo halive hbusy hout hloss hrx
    exact transferDone_ends hs hlo halive hbusy hout hloss hrx
  · intro s vals hs hcommit hfirst hplane
    exact regulatorIdent_ends hs vals hcommit hfirst hplane

end Sys2Proof.Machine
end

section
/-! The statement on the host function fails: an uncorrectable PCI Express error that ends a transfer towards the host leaves error 5 where the word it
reads is uncorrectable (R496), where the clause has error 2. -/

namespace Sys2Proof.Machine

/-- Engine 3 reads towards the host from the second half of an uncorrectable word, in memory that is still being wiped: it has moved nothing yet. -/
def readingBadWord : State :=
  State.reset.run [.set (HIF_DMASTAT.state 3) 1, .set (HIF_DMASRC.addr 3) 0xF000_0004, .set (HIF_DMALEN.len 3) 64, .ue [0xF000_0000]]

/-- The transfer that the error ends has code 5, memory that cannot be read. -/
theorem readingBadWord_err :
    (stateAfter readingBadWord (exec (.pcieError true 0 3) readingBadWord)).rd (HIF_DMASTAT.err 3) = 5 := by decide +kernel

/-- Refutes O44: nothing in PCIE_ERROR's clause says that the engine's memory can be read, and where it cannot the engine's error is 5, not 2. -/
theorem not_hostFunctionCommandsTakeEffect : ¬ Obligations.HostFunctionCommandsTakeEffect := by
  unfold Obligations.HostFunctionCommandsTakeEffect
  rintro ⟨-, -, -, -, hunc, -⟩
  obtain ⟨t, hexec, -, -, -, hends, -⟩ := hunc readingBadWord 0 3 (by decide +kernel)
  obtain ⟨-, herr⟩ := hends (by decide) (by decide +kernel)
  have hfive : t.rd (HIF_DMASTAT.err 3) = 5 := by
    have h := readingBadWord_err
    rwa [hexec] at h
  rw [hfive] at herr
  exact absurd herr (by decide)

end Sys2Proof.Machine
end

section
/-! The statement on the counters fails at BWWIN_WRITE: where tray time stands so high that the first instant of the new windows wraps at 64 bits, the
write itself is the first traffic of a window that has begun (R523). -/

namespace Sys2Proof.Machine

/-- Tray time 2^64, as nothing in a state excludes. -/
def lateState : State := { State.reset with now := 2 ^ 64 }

/-- The host's write of 1 µs is counted at its port. -/
theorem lateState_bw : (stateAfter lateState (exec (.bwwinWrite Req.host 1) lateState)).pmu.bw ≠ [] := by decide +kernel

/-- Refutes O56: BWWIN_WRITE's clause bounds the length and not tray time, and past 2^64 the windows' first instant is behind it. -/
theorem not_counterCommandsTakeEffect : ¬ Obligations.CounterCommandsTakeEffect := by
  unfold Obligations.CounterCommandsTakeEffect
  rintro ⟨-, -, -, -, -, -, hwin⟩
  obtain ⟨t, hexec, -, -, hempty, -⟩ := hwin lateState Req.host 1 (by decide) (by decide +kernel) (by decide) (by decide)
  have hcounted := lateState_bw
  rw [hexec] at hcounted
  exact hcounted hempty

end Sys2Proof.Machine
end

section
/-! The statement on the reset gate fails at STRAP_WRITE: a write of ACU_SCFG by the keeper writes gold, verify_gate and auto_reflash too, as R9 lets it,
and the clause's frame has room for none of them. -/

namespace Sys2Proof.Machine

/-- The keeper's write of 0 to slot 1's configuration names golden entry 0, where the reset value names none. -/
theorem strapWrite_gold :
    (stateAfter State.reset (exec (.strapWrite Req.keeper 1 0) State.reset)).rd (ACU_SCFG.gold 1) ≠ State.reset.rd (ACU_SCFG.gold 1) := by
  decide +kernel

/-- Refutes O38: STRAP_WRITE's clause is for every requester, and the keeper's write of 0 at reset changes ACU_SCFG.gold. -/
theorem not_resetGateCommandsTakeEffect : ¬ Obligations.ResetGateCommandsTakeEffect := by
  unfold Obligations.ResetGateCommandsTakeEffect
  rintro ⟨-, -, -, -, -, hstrap, -⟩
  obtain ⟨t, hexec, -, -, -, hfields, -⟩ := hstrap State.reset Req.keeper 1 0 (by decide) (by decide) (by decide +kernel)
  have hgold := strapWrite_gold
  rw [hexec] at hgold
  exact hgold (hfields _ (by decide) (by decide))

end Sys2Proof.Machine
end

section
/-! The statement on IMAGE_STAGE fails at LEDGER_COMPACT: after a power-fail warning no record is begun (R440), and its clause does not ask for the
warning to be absent. -/

namespace Sys2Proof.Machine

/-- The keeper runs, its ledger half is full and a power-fail warning stands. -/
def fullAtPowerFail : State :=
  State.reset.run [.set KPR_BOOT.stage Stage.running, .set IMG_LEDGER.used 16384, .set CRP_PFSTAT.warn 1, .set (V.planeHeld 3) 0]

/-- The half in use stays in use. -/
theorem fullAtPowerFail_half :
    (stateAfter fullAtPowerFail (exec .ledgerCompact fullAtPowerFail)).rd IMG_LEDGER.half = fullAtPowerFail.rd IMG_LEDGER.half := by decide +kernel

/-- Refutes O42: LEDGER_COMPACT's clause holds of states in which a power-fail warning stands, and then the ledger is not compacted. -/
theorem not_imageStageCallsTakeEffect : ¬ Obligations.ImageStageCallsTakeEffect := by
  unfold Obligations.ImageStageCallsTakeEffect
  rintro ⟨-, -, -, -, -, hcompact⟩
  obtain ⟨t, hexec, hhalf, -⟩ := hcompact fullAtPowerFail (by decide +kernel) (by decide +kernel) (.inl (by decide +kernel)) (by decide +kernel) (by decide +kernel)
  have hstays : t.rd IMG_LEDGER.half = fullAtPowerFail.rd IMG_LEDGER.half := by
    have h := fullAtPowerFail_half
    rwa [hexec] at h
  rw [hhalf] at hstays
  exact absurd hstays (by decide +kernel)

end Sys2Proof.Machine
end

section
/-! BAR2's mapping and its accesses (R452). -/

namespace Sys2Proof.Machine

/-- A segment's mapping, as its write leaves it. -/
theorem segment_sets {s : State} (hs : s.Wf) {seg : Nat} (hseg : seg < 16) (v w b : Nat) :
    let t := s.run [.set (HIF_B2SEG.valid seg) v, .set (HIF_B2SEG.rw seg) w, .set (HIF_B2SEG.base seg) b]
    t.rd (HIF_B2SEG.valid seg) = v % 2 ∧ t.rd (HIF_B2SEG.rw seg) = w % 2 ∧ t.rd (HIF_B2SEG.base seg) = b % 2 ^ 10 ∧
      OnlyFields [HIF_B2SEG.valid seg, HIF_B2SEG.rw seg, HIF_B2SEG.base seg] s t :=
  ⟨rd_run_sets hs (messageField_array (by omega) (by decide) _ _) [] v (by simp [Upd.clears, Fld.key, HIF_B2SEG.rw, HIF_B2SEG.base]),
    rd_run_sets hs (messageField_array (by omega) (by decide) _ _) [_] w (by simp [Upd.clears, Fld.key, HIF_B2SEG.base]),
    rd_run_sets hs (messageField_array (by omega) (by decide) _ _) [_, _] b rfl,
    onlyFields_run_of_bus (by simp [Upd.setsOnly]) rfl⟩

theorem b2segWrite_maps {s : State} (hs : s.Wf) {req seg value : Nat} (hseg : seg < 16)
    (hreach : s.Reaches req (0xF0_0040 + 8 * seg) 8 value true) (hperm : s.segmentPermitted value = true) :
    Gives (.b2segWrite req seg value) s (fun t => t.rd (HIF_B2SEG.valid seg) = bits value 63 1 ∧ t.rd (HIF_B2SEG.rw seg) = bits value 62 1 ∧
      t.rd (HIF_B2SEG.base seg) = bits value 0 10 ∧ OnlyFields [HIF_B2SEG.valid seg, HIF_B2SEG.rw seg, HIF_B2SEG.base seg] s t) := by
  obtain ⟨hvalid, hrw, hbase, hframe⟩ := segment_sets hs hseg (bits value 63 1) (bits value 62 1) (bits value 0 10)
  refine ⟨_, (if_pos hseg).trans (gated_of_reaches hreach _), ?_⟩
  rw [if_pos hperm]
  simp only [rd_run_hostTraffic]
  refine ⟨hvalid.trans ?_, hrw.trans ?_, hbase.trans ?_, hframe.traffic req true 8⟩
  all_goals simp [bits]

/-- A store through channels that are alive stores its bytes, an empty one none. -/
theorem storeLive_mem {s : State} {a : Nat} {bs : List Nat} (hlive : ∀ x, a ≤ x → x < a + bs.length → s.channelDead x = false) :
    (s.run (storeLive a bs s)).mem = memSetBytes s.mem a bs ∧ (s.run (storeLive a bs s)).regs = s.regs := by
  cases bs with
  | cons b bs =>
    rw [storeLive_of_live (by simp) hlive]
    exact ⟨rfl, rfl⟩
  | nil =>
    have hempty : ∀ u ∈ storeLive a [] s, ∃ x, u = .store x [] := by
      unfold storeLive onlyIf
      extract_lets parts
      intro u hu
      split at hu
      · exact ⟨a, by simpa using hu⟩
      · simp only [List.mem_flatMap] at hu
        obtain ⟨x, -, hx⟩ := hu
        split at hx
        · exact ⟨x, by simpa using hx⟩
        · cases hx
    refine ⟨run_leaves (π := State.mem) (fun u hu t => ?_) s, run_leaves (π := State.regs) (fun u hu t => ?_) s⟩
    all_goals
      obtain ⟨x, rfl⟩ := hempty u hu
      rfl

/-- The bytes that a port's traffic counts move neither memory nor a register. -/
theorem bar2_counts (isWrite : Bool) (a n : Nat) (s : State) : ∀ u ∈ Upd.carry 12 isWrite n :: lpTraffic isWrite a n s, u.counts :=
  List.forall_mem_cons.mpr ⟨trivial, lpTraffic_counts isWrite a n s⟩

theorem bar2Write_stores {s : State} (hs : s.Wf) {a n : Nat} (data : Nat) (hlive : ∀ x, a ≤ x → x < a + n → s.channelDead x = false) :
    memBytes (bar2Mapped true a n data s).mem a n = leBytes n data ∧
      (∀ b, b < a ∨ a + n ≤ b → memByte (bar2Mapped true a n data s).mem b = memByte s.mem b) ∧ (bar2Mapped true a n data s).regs = s.regs := by
  have hlen := length_leBytes n data
  obtain ⟨hmem, hregs⟩ := storeLive_mem (s := s) (a := a) (bs := leBytes n data) (by rwa [hlen])
  obtain ⟨p, hp⟩ := run_counts (bar2_counts true a n s) (s.run (storeLive a (leBytes n data) s))
  have hrun : bar2Mapped true a n data s = { s.run (storeLive a (leBytes n data) s) with pmu := p } := by
    rw [← hp, ← run_append]
    simp [bar2Mapped]
  rw [hrun]
  dsimp only
  rw [hmem]
  obtain ⟨-, hwf, -⟩ := id hs
  refine ⟨?_, fun b hb => memByte_setBytes_out s.mem _ (by rwa [hlen]), hregs⟩
  have hback := memBytes_setBytes_same (m := s.mem) a hwf (fun b => lt_of_mem_leBytes (n := n) (v := data))
  rwa [hlen] at hback

theorem bar2Read_gives {s : State} {a n : Nat} (hce : wordsIn s.memu.ce a n = []) (hbad : s.badWord? a n = none) :
    tableGet 0 (bar2Mapped false a n 0 s).bus.data Req.host = ofLe (s.physBytes a n) ∧ (bar2Mapped false a n 0 s).mem = s.mem ∧
      (bar2Mapped false a n 0 s).regs = s.regs := by
  obtain ⟨p, hp⟩ := run_counts (bar2_counts false a n s) (s.apply (giveData Req.host (ofLe (s.physBytes a n)) s))
  have hrun : bar2Mapped false a n 0 s = { s.apply (giveData Req.host (ofLe (s.physBytes a n)) s) with pmu := p } := by
    rw [← hp]
    simp [bar2Mapped, checkRead_of_clean hce hbad, State.readable, hbad]
  rw [hrun]
  exact ⟨get_readAs _ _ _, rfl, rfl⟩

/-- Settles O47, a clause for each form: B2SEG_WRITE, and a write and a read of BAR2_ACCESS (R452). -/
theorem bar2Commands : Obligations.Bar2Commands := by
  unfold Obligations.Bar2Commands
  refine ⟨?_, ?_, ?_⟩
  · intro s req seg value hs hseg hreach hperm
    exact b2segWrite_maps hs hseg hreach hperm
  · intro s ofs n data a hs hseg ha hvalid hrw hwaits hunmapped hoff hpages hlive
    have hexec : exec (.bar2Access true ofs n data) s = .next (bar2Mapped true a n data s) := by
      show execBar2Access true ofs n data s = _
      simp [execBar2Access, ← ha, State.on, hvalid, hrw, hwaits, hunmapped, hoff, hpages, Nat.not_le.mpr hseg]
    exact ⟨_, hexec, bar2Write_stores hs data hlive⟩
  · intro s ofs n a hs hseg ha hvalid hwaits hunmapped hoff hpages hce hbad
    have hexec : exec (.bar2Access false ofs n 0) s = .next (bar2Mapped false a n 0 s) := by
      show execBar2Access false ofs n 0 s = _
      simp [execBar2Access, ← ha, State.on, hvalid, hwaits, hunmapped, hoff, hpages, Nat.not_le.mpr hseg]
    exact ⟨_, hexec, bar2Read_gives hce hbad⟩

end Sys2Proof.Machine
end

section
/-! SUPPORT. What the ROM and the starting keeper write (R403-R408, R426-R438): their own registers and IMG's, the recovery window, memory and records. -/

namespace Sys2Proof.Machine

/-! The keys. -/

/-- The registers of KPR and IMG, those of HIF below its rings but for the events, MEM_STAT.wipe, and the scalars of the keeper and of custody. -/
def bootKey (k : Nat) : Bool :=
  (decide (0xD0_0000 * 64 ≤ k) && decide (k < 0xF0_0300 * 64) && !(decide (0xF0_0004 * 64 ≤ k) && decide (k < 0xF0_000C * 64))) ||
    k == MEM_STAT.wipe.key || k == V.freeCtr.key || (decide (0x1_0120_0000 * 64 ≤ k) && decide (k < 0x1_0150_0000 * 64)) ||
    k == V.keeperVersion.key || k == V.structOwed.key || k == V.fuseWiped.key

/-- The update is one of the ROM's or of the starting keeper's. -/
def Upd.boots : Upd → Bool
  | .set f _ => bootKey f.key
  | .store _ _ | .wipe _ _ | .emit _ => true
  | .gq l => l.isEmpty
  | _ => false

/-- It leaves the stage and the gate as they are, and never closes the configuration space again. -/
def Upd.selects : Upd → Bool
  | .set f v => bootKey f.key && f.key != KPR_BOOT.stage.key && f.key != KPR_GQUEUE.gated.key && (f.key != HIF_CTL.cfg_ready.key || decide (f = HIF_CTL.cfg_ready ∧ v = 1))
  | .store _ _ | .wipe _ _ | .emit _ => true
  | _ => false

theorem Upd.boots_of_selects {u : Upd} (h : u.selects = true) : u.boots = true := by
  cases u
  case set f v =>
    simp only [Upd.selects, Bool.and_eq_true] at h
    obtain ⟨⟨⟨hkey, -⟩, -⟩, -⟩ := h
    exact hkey
  case store | wipe | emit => rfl
  all_goals cases h

theorem Upd.boots.keeps {u : Upd} (h : u.boots = true) {g : Fld} (hg : bootKey g.key = false) : u.keeps g := by
  cases u
  case set f v =>
    intro e
    rw [Upd.boots, ← e, hg] at h
    cases h
  case resetRegs | flushVectors => cases h
  all_goals trivial

theorem Upd.selects.keeps {u : Upd} (h : u.selects = true) {g : Fld} (hg : g = KPR_BOOT.stage ∨ g = KPR_GQUEUE.gated) : u.keeps g := by
  cases u
  case set f v =>
    simp only [Upd.selects, Bool.and_eq_true, bne_iff_ne] at h
    obtain ⟨⟨⟨-, hstage⟩, hgated⟩, -⟩ := h
    obtain rfl | rfl := hg
    · exact hstage.symm
    · exact hgated.symm
  case resetRegs | flushVectors => cases h
  all_goals trivial

theorem Upd.selects.opens {u : Upd} (h : u.selects = true) : Upd.puts HIF_CTL.cfg_ready 1 u := by
  cases u
  case set f v =>
    simp only [Upd.selects, Bool.and_eq_true, Bool.or_eq_true, bne_iff_ne, decide_eq_true_eq] at h
    obtain ⟨-, hother | ⟨rfl, rfl⟩⟩ := h
    · exact .inr hother.symm
    · exact .inl rfl
  case store | wipe | emit => exact .inr trivial
  all_goals cases h

/-- A field of IMG. -/
theorem Upd.selects_image {a lsb : Nat} (hlo : 0xE0_0000 ≤ a) (hhi : a < 0xE1_0000) (hl : lsb < 64) (w r v : Nat) :
    Upd.selects (.set ⟨a, lsb, w, r⟩ v) = true := by
  have hstage : KPR_BOOT.stage.key = 0xD0_0004 * 64 := rfl
  have hgated : KPR_GQUEUE.gated.key = 0xD0_00C4 * 64 + 31 := rfl
  have hready : HIF_CTL.cfg_ready.key = 0xF0_000C * 64 := rfl
  have hown : Fld.key ⟨a, lsb, w, r⟩ = a * 64 + lsb := rfl
  simp only [Upd.selects, bootKey, Bool.and_eq_true, Bool.or_eq_true, Bool.not_eq_true', Bool.and_eq_false_iff, decide_eq_true_eq, decide_eq_false_iff_not,
    beq_iff_eq, bne_iff_ne]
  exact ⟨⟨⟨by omega, by omega⟩, by omega⟩, .inl (by omega)⟩

/-- A field of KPR beyond its first page. -/
theorem Upd.selects_keeper {a lsb : Nat} (ha : 0xD0_0008 ≤ a ∧ a < 0xD0_00C0 ∨ 0xD0_1000 ≤ a ∧ a < 0xD0_2000) (hl : lsb < 64) (w r v : Nat) :
    Upd.selects (.set ⟨a, lsb, w, r⟩ v) = true := by
  have hstage : KPR_BOOT.stage.key = 0xD0_0004 * 64 := rfl
  have hgated : KPR_GQUEUE.gated.key = 0xD0_00C4 * 64 + 31 := rfl
  have hready : HIF_CTL.cfg_ready.key = 0xF0_000C * 64 := rfl
  have hown : Fld.key ⟨a, lsb, w, r⟩ = a * 64 + lsb := rfl
  simp only [Upd.selects, bootKey, Bool.and_eq_true, Bool.or_eq_true, Bool.not_eq_true', Bool.and_eq_false_iff, decide_eq_true_eq, decide_eq_false_iff_not,
    beq_iff_eq, bne_iff_ne]
  exact ⟨⟨⟨by omega, by omega⟩, by omega⟩, .inl (by omega)⟩

/-- A scalar of the keeper. -/
theorem Upd.selects_scalar {id i : Nat} (hid : 0x120 ≤ id ∧ id < 0x150) (hi : i < 0x1_0000) (w r v : Nat) :
    Upd.selects (.set (ivar id i w r) v) = true := by
  have hstage : KPR_BOOT.stage.key = 0xD0_0004 * 64 := rfl
  have hgated : KPR_GQUEUE.gated.key = 0xD0_00C4 * 64 + 31 := rfl
  have hready : HIF_CTL.cfg_ready.key = 0xF0_000C * 64 := rfl
  have hown : (ivar id i w r).key = (0x1_0000_0000 + id * 0x1_0000 + i) * 64 := rfl
  simp only [Upd.selects, bootKey, Bool.and_eq_true, Bool.or_eq_true, Bool.not_eq_true', Bool.and_eq_false_iff, decide_eq_true_eq, decide_eq_false_iff_not,
    beq_iff_eq, bne_iff_ne]
  exact ⟨⟨⟨by omega, by omega⟩, by omega⟩, .inl (by omega)⟩

/-! The ledger (R426-R428). -/

theorem ledgerWrite_selects (kind : Nat) (payload : List Nat) (s : State) : (ledgerWrite kind payload s).all Upd.selects = true := by
  unfold ledgerWrite
  split <;> rfl

theorem showSlots_selects {k : Nat} (hk : k < 3) (s : State) : (showSlots k s).all Upd.selects = true := by
  simp (disch := omega) [showSlots, setB, IMG_SDESC.state, IMG_SDESC.rejected, IMG_SDESC.trial, IMG_SDESC.suspect, IMG_SDESC.skipped, IMG_SCOUNT.counter,
    IMG_SVER.version, IMG_SSVN.svn, Upd.selects_image]

theorem showCopies_selects {e : Nat} (he : e < 128) (s : State) : (showCopies e s).all Upd.selects = true := by
  simp (disch := omega) [showCopies, setB, IMG_GDESC.state, IMG_GDESC.rejected, IMG_GDESC.suspect, IMG_GDESC.skipped, IMG_GDESC.valid, IMG_GCOUNT.counter,
    IMG_GVER.version, IMG_GSVN.svn, Upd.selects_image]

section
variable {s₀ s t : State}

/-- An item's move is its record and what IMG shows of it. -/
theorem moveItem_selects {k sl : Nat} (i : Item) (hsl : k < 3 ∨ sl < 256) (h : Passing Upd.selects s₀ s) :
    Passing Upd.selects s₀ (moveItem k sl i s) := by
  have hledger {r : Rec} : Passing Upd.selects s₀ ((s.does (ledgerWrite 1 (i.payload k sl))).run [.emit r]) := (h.does (ledgerWrite_selects _ _)).run rfl
  refine h.ite (Via.ite (fun hk => ?_) fun hk => ?_)
  · exact hledger.does (showSlots_selects hk)
  · exact hledger.does (showCopies_selects (by omega))

/-! The selection of an image (R431-R434). -/

theorem imageFailed_selects {k : Nat} (hk : k < 3) (sl code version svn : Nat) (s : State) :
    (imageFailed k sl code version svn s).all Upd.selects = true := by
  have hfail : Upd.selects (.set (V.selFail k) code) = true := Upd.selects_scalar (by decide) (by omega) _ _ _
  simp only [imageFailed, List.all_cons, all_onlyIf_eq, hfail, Bool.true_and, Bool.or_eq_true]
  exact .inr rfl

theorem trialCount_selects (k v : Nat) : Upd.selects (.set (trialCount k) v) = true := by
  unfold trialCount
  split
  · rfl
  · split <;> rfl

theorem rejectTrial_selects {k sl : Nat} (hk : k < 3) (h : Passing Upd.selects s₀ s) : Passing Upd.selects s₀ (rejectTrial k sl s) := by
  have hmark : Upd.selects (.set (V.selRejected k) 1) = true := Upd.selects_scalar (by decide) (by omega) _ _ _
  have hevent : Upd.selects (.set IMG_EVT.reject 1) = true := rfl
  refine (h.run ?_).ite ((moveItem_selects _ (.inl hk) h).run ?_)
  · simp [hmark, hevent]
  · simp [hmark, hevent, trialCount_selects]

theorem suspectsToo_selects {k : Nat} (hk : k < 3) (chk : State → Nat → Nat) (rest : List Nat) (h : Passing Upd.selects s₀ s) :
    Passing Upd.selects s₀ (suspectsToo k chk rest s) :=
  (h.foldl fun _ k => k.ite (k.does fun u => imageFailed_selects hk _ _ _ _ u)).ite h

theorem trySlots_selects {k : Nat} (hk : k < 3) (chk : State → Nat → Nat) (l : List Nat) (h : Passing Upd.selects s₀ s) :
    Passing Upd.selects s₀ (trySlots k chk l s).1 := by
  induction l generalizing s with
  | nil => exact h
  | cons sl l ih =>
    unfold trySlots
    extract_lets trial t c
    have ht : Passing Upd.selects s₀ t := (h.run (by simp [bumpSat, trialCount_selects])).ite h
    split
    · exact ih (rejectTrial_selects hk h)
    · split
      · dsimp only
        exact suspectsToo_selects hk chk l ht
      · exact ih (ht.does (imageFailed_selects hk _ _ _ _))

theorem recordSelect_selects {k : Nat} (hk : k < 3) (sl : Option Nat) (s : State) : (recordSelect k sl s).all Upd.selects = true := by
  have hnote (pay : List (Nat × Nat × Nat)) : Upd.selects (keeperNote Ty.IMG_SELECT pay) = true := rfl
  have hevent : Upd.selects (.set IMG_EVT.suspect 1) = true := rfl
  simp (disch := omega) [recordSelect, setB, hnote, hevent, IMG_SDESC.selected, Upd.selects_image]

theorem resolveSuspect_selects {k : Nat} (hk : k < 3) (sl : Option Nat) (h : Passing Upd.selects s₀ s) :
    Passing Upd.selects s₀ (resolveSuspect k sl s) := by
  unfold resolveSuspect
  cases sl
  case none => exact h
  case some x =>
    dsimp only
    split
    · exact moveItem_selects _ (.inl hk) h
    · exact h

theorem recoveryWindow_selects (kind : Nat) (s : State) : (recoveryWindow kind s).all Upd.selects = true := rfl

/-! The running keeper (R403, R407-R409, R432-R438). -/

theorem installService_selects (w : Place) (slot : Nat) (s : State) : (installService w slot s).all Upd.selects = true := by
  have hgrants : ((s.imageGrants w).zipIdx.map fun x => Upd.set (KPR_GRANT.entry x.2) x.1).all Upd.selects = true := by
    refine List.all_eq_true.mpr (List.forall_mem_map.mpr fun x hx => ?_)
    have hlt : x.2 < 48 := by simpa [State.imageGrants] using (List.mem_zipIdx' hx).1
    exact Upd.selects_keeper (by omega) (by decide) _ _ _
  have hvectors : ((List.range 4).map fun i => Upd.set (KPR_COREVEC.vec (i + 1)) (mgmtSram + s.num w 48 8)).all Upd.selects = true := rfl
  simp only [installService, List.all_append, hgrants, hvectors]
  rfl

theorem checkWritten_selects {k sl : Nat} (hsl : k < 3 ∨ sl < 256) (h : Passing Upd.selects s₀ s) :
    Passing Upd.selects s₀ (checkWritten k sl s) := by
  unfold checkWritten
  extract_lets i
  split
  · exact moveItem_selects _ hsl h
  · exact h

theorem selectService_selects (h : Passing Upd.selects s₀ s) : Passing Upd.selects s₀ (selectService s) := by
  unfold selectService
  have htry := trySlots_selects (k := 1) (by decide) (fun u sl => if u.on (Sig.bootErr sl) then 9 else u.serviceCheck (u.itemPlace 1 sl)) (s.candidates 1) h
  generalize trySlots 1 _ (s.candidates 1) s = x at htry ⊢
  obtain ⟨t, sel⟩ := x
  have hu := resolveSuspect_selects (k := 1) (by decide) sel (htry.does (recordSelect_selects (k := 1) (by decide) sel))
  cases sel
  case none => exact (hu.run rfl).does (recoveryWindow_selects 1)
  case some sl => exact hu.does (installService_selects _ _)

theorem selectStructure_selects (h : Passing Upd.selects s₀ s) : Passing Upd.selects s₀ (selectStructure s) := by
  unfold selectStructure
  have htry := trySlots_selects (k := 2) (by decide) (fun u sl => u.imageCode (u.itemPlace 2 sl) (u.item 2 sl).len) (s.candidates 2) h
  generalize trySlots 2 _ (s.candidates 2) s = x at htry ⊢
  obtain ⟨t, sel⟩ := x
  exact h.ite ((resolveSuspect_selects (k := 2) (by decide) sel (htry.does (recordSelect_selects (k := 2) (by decide) sel))).run rfl)

/-- The keeper that starts to run: its own image is recorded, its stage is RUNNING, and it selects the others. -/
theorem keeperRuns_selects (s : State) :
    ∃ t, Passing Upd.selects s t ∧ Passing Upd.selects (t.does (stageTo Stage.running)) (keeperRuns s) := by
  unfold keeperRuns
  extract_lets sel t u
  have ht : Passing Upd.selects s t :=
    (resolveSuspect_selects (by decide) sel (Passing.does (Via.refl s) (recordSelect_selects (by decide : 0 < 3) sel))).ite (Via.refl s)
  have hu : Passing Upd.selects (t.does (stageTo Stage.running)) u :=
    Passing.foldl_mem (Via.refl _) fun k hk _ h => by
      have hslot : k < 3 ∨ 1 < 256 := .inr (by decide)
      exact checkWritten_selects hslot (checkWritten_selects (.inr (by decide)) h)
  refine ⟨t, ht, selectStructure_selects (selectService_selects (Passing.foldl_mem hu fun c hc _ h => ?_))⟩
  exact checkWritten_selects (.inr (by have := List.mem_range.mp hc; omega)) h

end

end Sys2Proof.Machine
end

section
/-! SUPPORT. The ROM's start and the next keeper slot (R403, R405, R407). -/

namespace Sys2Proof.Machine

theorem Passing.boots {s t : State} (h : Passing Upd.selects s t) : Passing Upd.boots s t := h.mono fun _ => Upd.boots_of_selects

theorem Passing.rd_boots {s t : State} (h : Passing Upd.boots s t) {g : Fld} (hm : messageField g = false) (hg : bootKey g.key = false) : t.rd g = s.rd g :=
  Via.rd (h.mono fun _ hu => Upd.boots.keeps hu hg) hm

/-- The update is of a field, of memory, or a record. -/
def Upd.ordinary : Upd → Bool
  | .set _ _ | .store _ _ | .wipe _ _ | .emit _ | .gq _ => true
  | _ => false

theorem Upd.ordinary_of_boots {u : Upd} (h : u.boots = true) : u.ordinary = true := by
  cases u
  case set | store | wipe | emit | gq => rfl
  all_goals cases h

/-- The parts of the state that such updates leave alone. -/
theorem Passing.units {s t : State} (h : Passing Upd.ordinary s t) :
    t.now = s.now ∧ t.orders = s.orders ∧ t.staging = s.staging ∧ t.tx = s.tx := by
  obtain ⟨us, hu, rfl⟩ := h
  have hall (u : Upd) (hmem : u ∈ us) (t : State) :
      ((t.apply u).now, (t.apply u).orders, (t.apply u).staging, (t.apply u).tx) = (t.now, t.orders, t.staging, t.tx) := by
    have hordinary := hu u hmem
    cases u
    case set | store | wipe | emit | gq => rfl
    all_goals cases hordinary
  simpa using run_leaves (π := fun t : State => (t.now, t.orders, t.staging, t.tx)) hall s

/-- A start fills no queue. -/
theorem Passing.gq_boots {s t : State} (h : Passing Upd.boots s t) (hempty : s.gq = []) : t.gq = [] := by
  obtain ⟨us, hu, rfl⟩ := h
  induction us generalizing s with
  | nil => exact hempty
  | cons u us ih =>
    refine ih ?_ fun v hv => hu v (by simp [hv])
    have hboots := hu u (by simp)
    cases u
    case gq l => exact List.isEmpty_iff.mp hboots
    case set | store | wipe | emit => exact hempty
    all_goals cases hboots

section
variable {s₀ s : State}

theorem startGated_boots (w : Place) (slot : Nat) (s : State) : (startGated w slot s).all Upd.boots = true := rfl

theorem stageTo_boots (st : Nat) (s : State) : (stageTo st s).all Upd.boots = true := rfl

/-- What the trial of keeper slots leaves, and the slot it finds. -/
theorem nextKeeper_cases (s : State) : ∃ t, Passing Upd.selects s t ∧
    ((∃ v sl, nextKeeper s = (t.run [.set V.keeperNext v]).does (startGated (t.itemPlace 0 sl) sl)) ∨
      nextKeeper s = ((t.does (recordSelect 0 none)).does (stageTo Stage.waiting)).does (recoveryWindow 0)) := by
  unfold nextKeeper
  extract_lets todo
  have htry := trySlots_selects (k := 0) (by decide) (fun u sl => u.fwHead 0 (u.itemPlace 0 sl)) todo (Via.refl s)
  generalize trySlots 0 _ todo s = x at htry ⊢
  obtain ⟨t, sel⟩ := x
  refine ⟨t, htry, ?_⟩
  cases sel
  case none => exact .inr rfl
  case some sl => exact .inl ⟨_, sl, rfl⟩

theorem nextKeeper_boots (h : Passing Upd.boots s₀ s) : Passing Upd.boots s₀ (nextKeeper s) := by
  obtain ⟨t, ht, hcases⟩ := nextKeeper_cases s
  have hleft : Passing Upd.boots s₀ t := h.trans ht.boots
  obtain ⟨v, sl, hnext⟩ | hnext := hcases <;> rw [hnext]
  · exact (hleft.run rfl).does (startGated_boots _ _)
  · have hrecord : Passing Upd.boots s₀ (t.does (recordSelect 0 none)) :=
      hleft.trans (Passing.does (Via.refl t) (recordSelect_selects (by decide) none)).boots
    exact (hrecord.does (stageTo_boots _)).does fun _ => rfl

/-- The next slot starts gated, or the ROM waits for an image. -/
theorem nextKeeper_stage {s : State} (hs : s.Wf) (hgated : s.rd KPR_GQUEUE.gated = 0) :
    ((nextKeeper s).rd KPR_BOOT.stage = Stage.gated ∧ (nextKeeper s).rd KPR_GQUEUE.gated = 1) ∨
      ((nextKeeper s).rd KPR_BOOT.stage = Stage.waiting ∧ (nextKeeper s).rd KPR_GQUEUE.gated = 0) := by
  obtain ⟨t, ht, hcases⟩ := nextKeeper_cases s
  have htw := ht.wf hs
  obtain ⟨v, sl, hnext⟩ | hnext := hcases <;> rw [hnext]
  · refine .inl ⟨rd_run_lastSet (run_wf _ htw) (v := Stage.gated) (by decide) rfl, rd_run_lastSet (run_wf _ htw) (v := 1) (by decide) rfl⟩
  · have hrecord : Passing Upd.selects t (t.does (recordSelect 0 none)) := Passing.does (Via.refl t) (recordSelect_selects (by decide) none)
    refine .inr ⟨?_, ?_⟩
    · exact (rd_run_clear (us := recoveryWindow 0 _) (by decide) rfl).trans (rd_run_lastSet (hrecord.wf htw) (v := Stage.waiting) (by decide) rfl)
    · have hkeep := (ht.trans hrecord).mono fun _ hu => Upd.selects.keeps hu (g := KPR_GQUEUE.gated) (.inr rfl)
      exact ((rd_run_clear (us := recoveryWindow 0 _) (by decide) rfl).trans (rd_run_clear (us := stageTo _ _) (by decide) rfl)).trans
        ((hkeep.rd (by decide)).trans hgated)

/-! The ROM (R403). -/

theorem freshNonce_boots (s : State) : (freshNonce s).all Upd.boots = true := rfl

theorem owedWipe_boots (s : State) : (owedWipe s).all Upd.boots = true := by
  simp only [owedWipe, List.all_append, all_onlyIf_eq]
  cases s.lifecycle == 4 <;> rfl

theorem loadKey_boots {k : Nat} (hk : k < 8) (s : State) : (loadKey k s).all Upd.boots = true := by
  have hvalid (v : Nat) : Upd.boots (.set (KPR_KEYSLOT.valid k) v) = true := Upd.boots_of_selects (Upd.selects_keeper (by omega) (by decide) _ _ _)
  have htable (v : Nat) : Upd.boots (.set (V.keyTable k) v) = true := Upd.boots_of_selects (Upd.selects_scalar (by decide) (by omega) _ _ _)
  unfold loadKey
  extract_lets key
  split
  · simp [hvalid]
  · split
    · simp [hvalid, htable]
    · simp only [List.all_cons, hvalid]
      rfl

theorem readLedger_boots (s : State) : (readLedger s).all Upd.boots = true := by
  have hminima : ((List.range 4).map fun k => Upd.set (KPR_SVNMIN.min k) (s.svnMin k)).all Upd.boots = true := rfl
  have hslots : ((List.range 3).flatMap fun k => showSlots k s).all Upd.boots = true := by
    refine List.all_eq_true.mpr fun u hu => ?_
    obtain ⟨k, hk, hu⟩ := List.mem_flatMap.mp hu
    exact Upd.boots_of_selects (List.all_eq_true.mp (showSlots_selects (List.mem_range.mp hk) s) u hu)
  have hcopies : ((List.range 16).flatMap fun e => showCopies e s).all Upd.boots = true := by
    refine List.all_eq_true.mpr fun u hu => ?_
    obtain ⟨e, he, hu⟩ := List.mem_flatMap.mp hu
    exact Upd.boots_of_selects (List.all_eq_true.mp (showCopies_selects (by have := List.mem_range.mp he; omega) s) u hu)
  simp only [readLedger, List.all_append, hminima, hslots, hcopies]
  rfl

theorem romStart_boots {bad : Nat} (h : Passing Upd.boots s₀ s) : Passing Upd.boots s₀ (romStart bad s) := by
  unfold romStart
  extract_lets t
  have ht : Passing Upd.boots s₀ t := by
    refine h.run ?_
    have hcores (l : List Nat) : (l.map fun c => keeperNote Ty.CORE_EVENT [(24, 1, c), (25, 1, c), (26, 1, 2)]).all Upd.boots = true :=
      List.all_eq_true.mpr (List.forall_mem_map.mpr fun _ _ => rfl)
    simp only [List.all_append, hcores]
    rfl
  split
  · exact ht.does (stageTo_boots _)
  next c hc =>
    extract_lets u w x
    have hu : Passing Upd.boots s₀ u := by
      refine ht.run ?_
      simp only [List.all_cons, all_onlyIf_eq]
      exact (Bool.or_eq_true _ _).mpr (.inr rfl)
    have hw : Passing Upd.boots s₀ w := ((hu.does owedWipe_boots).ite hu).does freshNonce_boots
    have hx : Passing Upd.boots s₀ x :=
      Passing.run (Via.doEach hw fun y k hk => List.all_eq_true.mp (loadKey_boots (List.mem_range.mp hk) y)) rfl
    exact (hw.does (stageTo_boots _)).ite (nextKeeper_boots (hx.does readLedger_boots))

end

end Sys2Proof.Machine
end

section
/-! The keeper's start, the release of cores and the locks (R400, R403, R405, R408, R431). -/

namespace Sys2Proof.Machine

/-- A command that leaves memory. -/
theorem Passing.mem {s t : State} (h : Passing Upd.noStore s t) : t.mem = s.mem := by
  obtain ⟨us, hu, rfl⟩ := h
  exact mem_run (List.all_eq_true.mpr hu) s

theorem Passing.rd_clears {g : Fld} {s t : State} (h : Passing (Upd.clears g) s t) (hm : messageField g = false) : t.rd g = s.rd g :=
  Via.rd (h.mono fun _ => Upd.keeps_of_clears) hm

/-! The keeper runs (R405). -/

theorem keeperRuns_runs {s : State} (hs : s.Wf) (hgated : s.rd KPR_GQUEUE.gated = 0) (hq : s.gq = []) (hopen : s.rd HIF_CTL.cfg_ready = 1) :
    (keeperRuns s).rd KPR_GQUEUE.gated = 0 ∧ (keeperRuns s).gq = [] ∧ (keeperRuns s).rd KPR_BOOT.stage = Stage.running ∧
      (keeperRuns s).rd HIF_CTL.cfg_ready = 1 := by
  obtain ⟨t, ht, hrest⟩ := keeperRuns_selects s
  have htw := ht.wf hs
  have hstaged := run_wf (stageTo Stage.running t) htw
  have hkeep {x y : State} (h : Passing Upd.selects x y) {g : Fld} (hg : g = KPR_BOOT.stage ∨ g = KPR_GQUEUE.gated) (hm : messageField g = false) :
      y.rd g = x.rd g := Via.rd (h.mono fun _ hu => Upd.selects.keeps hu hg) hm
  have hopens {x y : State} (h : Passing Upd.selects x y) (hx : x.Wf) (hready : x.rd HIF_CTL.cfg_ready = 1) : y.rd HIF_CTL.cfg_ready = 1 :=
    Via.rd_puts (h.mono fun _ => Upd.selects.opens) hx (by decide) hready
  refine ⟨?_, hrest.boots.gq_boots (ht.boots.gq_boots hq), ?_, hopens hrest hstaged ?_⟩
  · rw [hkeep hrest (.inr rfl) (by decide), does_eq, rd_run_clear (by decide) rfl, hkeep ht (.inr rfl) (by decide), hgated]
  · rw [hkeep hrest (.inl rfl) (by decide)]
    exact rd_run_lastSet htw (v := Stage.running) (by decide) rfl
  · rw [does_eq, rd_run_clear (by decide) rfl]
    exact hopens ht hs hopen

theorem keeperChecksPass_runs {s : State} (hs : s.Wf) (hgated : s.rd KPR_GQUEUE.gated = 1) (hstage : s.rd KPR_BOOT.stage = Stage.gated)
    (hwipe : bit (s.rd MEM_STAT.wipe) 4 = false) (hwarn : s.rd CRP_PFSTAT.warn = 0) (hq : s.gq = []) :
    Gives .keeperChecksPass s (fun t => s.fwBody 0 s.keeperPlace = 0 → t.rd KPR_GQUEUE.gated = 0 ∧ t.gq = [] ∧ t.rd KPR_BOOT.stage = Stage.running ∧
      t.rd HIF_CTL.cfg_ready = 1) := by
  by_cases hbody : s.fwBody 0 s.keeperPlace = 0
  · have hexec : exec .keeperChecksPass s = .next (keeperRuns (s.run [.set KPR_GQUEUE.gated 0, .gq [], .set HIF_CTL.cfg_ready 1])) := by
      refine (whenever_of ?_ _ _).trans ?_
      · simp [State.keeperGated, State.on, hgated, hstage, hbody, hwipe, hwarn]
      · rw [hq]
        rfl
    exact ⟨_, hexec, fun _ => keeperRuns_runs (run_wf _ hs) (rd_run_lastSet hs (v := 0) (by decide) rfl) rfl (rd_run_lastSet hs (v := 1) (by decide) rfl)⟩
  · exact ⟨s, if_neg (by simp [hbody]), fun h => absurd h hbody⟩

/-! The gated keeper is rejected (R403, R405, R407). -/

theorem imageReject_tries {s : State} (hs : s.Wf) {readErr : Bool} (hgated : s.rd KPR_GQUEUE.gated = 1) (hstage : s.rd KPR_BOOT.stage = Stage.gated)
    (hfail : readErr = true ∨ s.fwBody 0 s.keeperPlace ≠ 0) :
    Gives (.imageReject readErr) s (fun t => t.gq = [] ∧ ((t.rd KPR_BOOT.stage = Stage.gated ∧ t.rd KPR_GQUEUE.gated = 1) ∨
      (t.rd KPR_BOOT.stage = Stage.waiting ∧ t.rd KPR_GQUEUE.gated = 0))) := by
  refine ⟨_, whenever_of ?_ _ _, ?_⟩
  · cases readErr
    · simpa [State.keeperGated, State.on, hgated, hstage] using hfail
    · simp [State.keeperGated, State.on, hgated, hstage]
  · unfold keeperRejected
    extract_lets w
    have hfailed : Passing Upd.selects (s.run [.gq [], .set KPR_GQUEUE.gated 0]) _ :=
      Passing.does (Via.refl _) (imageFailed_selects (k := 0) (by decide) (s.rd KPR_BOOT.keeper_slot)
        (if readErr then 9 else s.fwBody 0 s.keeperPlace) (s.imgVersion 0 w) (s.imgSvn 0 w))
    have hopen := Via.rd (hfailed.mono fun _ hu => Upd.selects.keeps hu (g := KPR_GQUEUE.gated) (.inr rfl)) (by decide)
    exact ⟨(nextKeeper_boots (Via.refl _)).gq_boots (hfailed.boots.gq_boots rfl),
      nextKeeper_stage (hfailed.wf (run_wf _ hs)) (hopen.trans (rd_run_lastSet hs (v := 0) (by decide) rfl))⟩

/-! The release of cores (R408). -/

/-- What a write of KPR_CORECTL asks of a core. -/
def releaseAsked (value n : Nat) (s : State) : List Upd := if bit value n then releaseCore n s else []

/-- A core's fitness is not for another's release to change. -/
theorem coreFit_releaseAsked (value m n : Nat) (s : State) : (s.does (releaseAsked value m)).coreFit n = s.coreFit n := by
  have hkeep (g : Fld) (hm : messageField g = false) (hclear : (releaseAsked value m s).all (·.clears g) = true) :
      (s.does (releaseAsked value m)).rd g = s.rd g := rd_run_clear hm hclear
  have hall (g : Fld) (hreleased : g.key ≠ KPR_CORES.released.key) (hcontrol : g.key ≠ KPR_CORECTL.release.key) (hspare : g.key ≠ KPR_CORES.spare_for.key)
      (hready : g.key ≠ HIF_STAT.ready.key) : (releaseAsked value m s).all (·.clears g) = true := by
    simp [releaseAsked, releaseCore, Upd.clears, keeperNote, note, hreleased, hcontrol, hspare, hready]
  have h (g : Fld) (hm : messageField g = false) (hreleased : g.key ≠ KPR_CORES.released.key) (hcontrol : g.key ≠ KPR_CORECTL.release.key)
      (hspare : g.key ≠ KPR_CORES.spare_for.key) (hready : g.key ≠ HIF_STAT.ready.key) := hkeep g hm (hall g hreleased hcontrol hspare hready)
  simp only [State.coreFit, State.physCore]
  rw [h V.fuseRetire (by decide) (by decide) (by decide) (by decide) (by decide), h V.coreBad (by decide) (by decide) (by decide) (by decide) (by decide),
    h KPR_CORESPARE.replace (by decide) (by decide) (by decide) (by decide) (by decide),
    h KPR_BOOT.keeper_core (by decide) (by decide) (by decide) (by decide) (by decide)]

/-- The mask of released cores after one core was asked for. -/
theorem released_releaseAsked {s : State} (hs : s.Wf) (value m : Nat) :
    (s.does (releaseAsked value m)).rd KPR_CORES.released =
      if bit value m && !bit (s.rd KPR_CORES.released) m && s.coreFit m then setBit (s.rd KPR_CORES.released) m % 2 ^ 6 else s.rd KPR_CORES.released := by
  rw [does_eq]
  unfold releaseAsked releaseCore
  cases hask : bit value m
  · rfl
  cases hrun : bit (s.rd KPR_CORES.released) m
  · cases hfit : s.coreFit m
    · rfl
    · simp only [Bool.not_true, Bool.or_false, if_true, Bool.false_eq_true, if_false, Bool.not_false, Bool.and_true]
      rw [List.append_assoc]
      refine rd_run_sets hs (by decide) [] _ ?_
      simp [onlyIf, Upd.clears, keeperNote, note]
      exact ⟨by decide, .inr (by decide), .inr (by decide)⟩
  · rfl

/-- A release takes no core back. -/
theorem released_stays {s : State} (hs : s.Wf) (value m : Nat) {n : Nat} (hn : n < 6) (hrun : bit (s.rd KPR_CORES.released) n = true) :
    bit ((s.does (releaseAsked value m)).rd KPR_CORES.released) n = true := by
  have hset : bit (setBit (s.rd KPR_CORES.released) m % 2 ^ 6) n = true := by
    rw [bit_mod_two_pow hn]
    simp only [bit] at hrun
    simp [bit, setBit, hrun]
  rw [released_releaseAsked hs]
  split
  · exact hset
  · exact hrun

/-- A fit core that is asked for is released. -/
theorem released_asked {s : State} (hs : s.Wf) {value n : Nat} (hn : n < 6) (hask : bit value n = true) (hfit : s.coreFit n = true) :
    bit ((s.does (releaseAsked value n)).rd KPR_CORES.released) n = true := by
  rw [released_releaseAsked hs]
  cases hrun : bit (s.rd KPR_CORES.released) n
  · rw [if_pos (by simp [hask, hfit]), bit_mod_two_pow hn]
    exact bit_setBit_same _ _
  · rw [if_neg (by simp)]
    exact hrun

/-- So it is where it is one of several that are asked for in turn. -/
theorem released_each {value n : Nat} (hn : n < 6) (hask : bit value n = true) (l : List Nat) {s : State} (hs : s.Wf) (hfit : s.coreFit n = true)
    (h : bit (s.rd KPR_CORES.released) n = true ∨ n ∈ l) : bit ((s.doEach l (releaseAsked value)).rd KPR_CORES.released) n = true := by
  induction l generalizing s with
  | nil => exact h.resolve_right (by simp)
  | cons m l ih =>
    refine ih (run_wf _ hs) ((coreFit_releaseAsked value m n s).trans hfit) ?_
    obtain hrun | hmem := h
    · exact .inl (released_stays hs value m hn hrun)
    · obtain rfl | hmem := List.mem_cons.mp hmem
      · exact .inl (released_asked hs hn hask hfit)
      · exact .inr hmem

theorem coreRelease_releases {s : State} (hs : s.Wf) {req value n : Nat} (hreach : s.Reaches req 0xD0_1000 4 value true) (hlo : 1 ≤ n) (hhi : n ≤ 4)
    (hask : bit value n = true) (hfit : s.coreFit n = true) :
    Gives (.coreRelease req value) s (fun t => bit (t.rd KPR_CORES.released) n = true) := by
  refine ⟨_, gated_of_reaches hreach _, ?_⟩
  beta_reduce
  rw [rd_run_hostTraffic]
  have hreleased := released_each (by omega) hask ((List.range 4).map (· + 1)) hs hfit
    (.inr (List.mem_map.mpr ⟨n - 1, List.mem_range.mpr (by omega), by omega⟩))
  unfold releaseCores
  extract_lets t
  split
  · rw [does_eq, rd_run_clear (by decide) rfl]
    exact hreleased
  · exact hreleased

/-! The locks (R400). -/

/-- A field that a condition has set. -/
theorem rd_run_onlyIf {s : State} (hs : s.Wf) {g : Fld} (hm : messageField g = false) {us vs : List Upd} (c : Bool) (v : Nat)
    (hus : us.all (·.clears g) = true) (hvs : vs.all (·.clears g) = true) :
    (s.run (us ++ onlyIf c [.set g v] ++ vs)).rd g = if c then v % 2 ^ g.width else s.rd g := by
  cases c
  · exact rd_run_clear hm (by simp [onlyIf, hus, hvs])
  · rw [List.append_assoc]
    exact rd_run_sets hs hm us v hvs

/-- A lock that is set stays, and one that is asked for is set. -/
theorem lock_max {r value i : Nat} (hr : r < 2) : (if bit value i then 1 % 2 ^ 1 else r) = max r (bits value i 1) := by
  rw [bit, bits, Nat.testBit_eq_decide_div_mod_eq]
  split
  next h =>
    have := of_decide_eq_true h
    omega
  next h =>
    have := of_decide_eq_false (Bool.not_eq_true _ ▸ h)
    omega

/-- The locks that a value asks for. -/
def locksAsked (value : Nat) : List Upd :=
  onlyIf (bit value 0) [.set KPR_KEYLOCK.ds_read 1] ++ onlyIf (bit value 1) [.set KPR_KEYLOCK.stor_use 1] ++
    onlyIf (bit value 2) [.set KPR_KEYLOCK.att_use 1] ++ onlyIf (bit value 3) [.set KPR_KEYLOCK.all_use 1]

theorem locksAsked_locks {s : State} (hs : s.Wf) (value : Nat) :
    (s.run (locksAsked value)).rd KPR_KEYLOCK.ds_read = max (s.rd KPR_KEYLOCK.ds_read) (bits value 0 1) ∧
      (s.run (locksAsked value)).rd KPR_KEYLOCK.stor_use = max (s.rd KPR_KEYLOCK.stor_use) (bits value 1 1) ∧
      (s.run (locksAsked value)).rd KPR_KEYLOCK.att_use = max (s.rd KPR_KEYLOCK.att_use) (bits value 2 1) ∧
      (s.run (locksAsked value)).rd KPR_KEYLOCK.all_use = max (s.rd KPR_KEYLOCK.all_use) (bits value 3 1) := by
  have hlock {us vs : List Upd} {g : Fld} {i : Nat} (heq : locksAsked value = us ++ onlyIf (bit value i) [.set g 1] ++ vs) (hm : messageField g = false)
      (hwidth : g.width = 1) (hus : us.all (·.clears g) = true) (hvs : vs.all (·.clears g) = true) :
      (s.run (locksAsked value)).rd g = max (s.rd g) (bits value i 1) := by
    rw [heq, rd_run_onlyIf hs hm _ _ hus hvs, hwidth]
    exact lock_max (by simpa [hwidth] using rd_lt s g)
  refine ⟨hlock (us := []) (i := 0) (by rw [locksAsked, List.append_assoc, List.append_assoc]; rfl) (by decide) rfl rfl ?_,
    hlock (i := 1) (by rw [locksAsked, List.append_assoc]) (by decide) rfl ?_ ?_, hlock (i := 2) rfl (by decide) rfl ?_ ?_,
    hlock (vs := []) (i := 3) (List.append_nil _).symm (by decide) rfl ?_ rfl⟩
  all_goals simp [Upd.clears, Fld.key, KPR_KEYLOCK.ds_read, KPR_KEYLOCK.stor_use, KPR_KEYLOCK.att_use, KPR_KEYLOCK.all_use]

theorem setLocks_locks {s : State} (hs : s.Wf) (value : Nat) :
    (setLocks value s).rd KPR_KEYLOCK.ds_read = max (s.rd KPR_KEYLOCK.ds_read) (bits value 0 1) ∧
      (setLocks value s).rd KPR_KEYLOCK.stor_use = max (s.rd KPR_KEYLOCK.stor_use) (bits value 1 1) ∧
      (setLocks value s).rd KPR_KEYLOCK.att_use = max (s.rd KPR_KEYLOCK.att_use) (bits value 2 1) ∧
      (setLocks value s).rd KPR_KEYLOCK.all_use = max (s.rd KPR_KEYLOCK.all_use) (bits value 3 1) ∧
      OnlyFields [KPR_KEYLOCK.ds_read, KPR_KEYLOCK.stor_use, KPR_KEYLOCK.att_use, KPR_KEYLOCK.all_use] s (setLocks value s) := by
  obtain ⟨hread, hstor, hatt, hall⟩ := locksAsked_locks hs value
  obtain ⟨r, hr⟩ : ∃ r, setLocks value s = (s.run (locksAsked value)).run [.emit r] := ⟨_, rfl⟩
  have hrecord (g : Fld) (hm : messageField g = false) : (setLocks value s).rd g = (s.run (locksAsked value)).rd g := by
    rw [hr]
    exact rd_run_clear hm rfl
  refine ⟨(hrecord _ (by decide)).trans hread, (hrecord _ (by decide)).trans hstor, (hrecord _ (by decide)).trans hatt, (hrecord _ (by decide)).trans hall, ?_⟩
  rw [hr]
  refine OnlyFields.trans (onlyFields_run_of_bus ?_ ?_) (onlyFields_run_of_bus (by simp [Upd.setsOnly]) rfl)
  · refine all_append (all_append (all_append ?_ ?_) ?_) ?_
    all_goals exact all_onlyIf fun _ => by simp [Upd.setsOnly]
  · unfold locksAsked onlyIf
    split_ifs <;> rfl

/-! The golden copies (R431). -/

theorem goldenChecks_ends {s : State} (hs : s.Wf) (bad : List Nat) : (goldenChecks bad s).rd V.goldDone = 1 ∧ (goldenChecks bad s).mem = s.mem := by
  unfold goldenChecks
  extract_lets t u
  have ht : Passing Upd.noStore s t := by
    refine Passing.foldl (Via.refl s) fun c h => ?_
    extract_lets i
    exact ((h.run rfl).ite (h.run rfl)).ite h
  have hu : Passing Upd.noStore s u := ht.run rfl
  refine ⟨?_, (hu.doEach fun e w => rfl).mem⟩
  have hselected : Passing (Upd.clears V.goldDone) u (u.doEach (List.range 16) fun e w => [0, 1].map fun c => setB (IMG_GDESC.selected e c) (w.goldCopy? e == some c)) := by
    refine Via.doEach (Via.refl u) fun w e he => List.all_eq_true.mp ?_
    have he := List.mem_range.mp he
    simp [setB, Upd.clears, Fld.key, V.goldDone, ivar, IMG_GDESC.selected]
    omega
  exact (hselected.rd_clears (by decide)).trans (rd_run_lastSet (ht.wf hs) (v := 1) (by decide) rfl)

/-- Settles O41, a clause for each form: KEEPER_CHECKS_PASS, IMAGE_REJECT, CORE_RELEASE, KEYLOCK and GOLDEN_CHECK_DONE (R400, R403, R405, R408, R431). -/
theorem keeperCommandsTakeEffect : Obligations.KeeperCommandsTakeEffect := by
  unfold Obligations.KeeperCommandsTakeEffect
  refine ⟨?_, ?_, ?_, ?_, ?_⟩
  · intro s hs hgated hstage hwipe hwarn hq
    exact keeperChecksPass_runs hs hgated hstage hwipe hwarn hq
  · intro s readErr hs hgated hstage hfail
    exact imageReject_tries hs hgated hstage hfail
  · intro s req value n hs hreach hlo hhi hask hfit
    exact coreRelease_releases hs hreach hlo hhi hask hfit
  · intro s req value hs hreach
    obtain ⟨hread, hstor, hatt, hall, hframe⟩ := setLocks_locks hs value
    refine ⟨_, gated_of_reaches hreach _, ?_⟩
    simp only [rd_run_hostTraffic]
    exact ⟨hread, hstor, hatt, hall, hframe.traffic _ _ _⟩
  · intro s bad hs hstage hfirst hup
    refine ⟨_, whenever_of ?_ _ _, goldenChecks_ends hs bad⟩
    simp [State.on, hstage, hfirst, hup]

end Sys2Proof.Machine
end

section
/-! SUPPORT. What a cold reset leaves (R40, R546, R547). -/

namespace Sys2Proof.Machine

theorem reflashPart_boots {s₀ s : State} {n : Nat} (h : Passing Upd.boots s₀ s) : Passing Upd.boots s₀ (reflashPart n s) := by
  have herased := h.does (fx := eraseManifest n) fun _ => rfl
  unfold reflashPart
  extract_lets t unit
  split
  · exact herased
  · exact (herased.does fun _ => rfl).doEach fun _ _ => rfl

theorem flashesStop_boots (s : State) : Passing Upd.boots s (flashesStop s) := Passing.foldl (Via.refl s) fun _ h => (reflashPart_boots h).ite h

/-! The planes return to reset. -/

/-- What PLANES_RESET does after the registers are reset and the units have restarted. -/
def planesKept (s : State) : List Upd :=
  [.wipe 0x10_0000 0x18_0000, .wipe 0x4000_0000 0x1_0000_0000] ++
  islandFields.map (fun f => .set f (s.rd f)) ++ [.set MEM_STAT.wipe 0x3F] ++
  s.returned.flatMap (fun c => [.set (chRole c) Role.bench, .set (chRail c) (s.rd (chRail c))]) ++
  ((s.returned.map s.railOf).dedup).map (fun r => .set (rNbench r) (s.returned.filter (fun c => s.railOf c == r)).length)

/-- The planes' registers and units at reset. -/
def State.restarted (s : State) : State := s.run [.resetRegs 0 0x140_0000, .resetRegs 0x1_0000_0000 0x1_0800_0000, .coldStart]

theorem does_planesReset (s : State) : s.does planesReset = s.restarted.run (planesKept s) := by
  rw [does_eq, State.restarted, ← run_append]
  simp only [planesReset, planesKept, List.append_assoc, List.cons_append, List.nil_append]

theorem restarted_units (s : State) : s.restarted.now = 0 ∧ s.restarted.orders = {} ∧ s.restarted.staging = {} ∧ s.restarted.tx = {} :=
  ⟨rfl, rfl, rfl, rfl⟩

theorem restarted_wf {s : State} (hs : s.Wf) : s.restarted.Wf := run_wf _ hs

theorem planesKept_ordinary (s : State) : (planesKept s).all Upd.ordinary = true := by
  simp [planesKept, islandFields, Upd.ordinary]

/-- The channels that return are at keys of the phase tiles. -/
theorem returned_clears (s : State) {g : Fld} (hg : 0x30_0000 * 64 ≤ g.key) :
    (s.returned.flatMap fun c => [Upd.set (chRole c) Role.bench, .set (chRail c) (s.rd (chRail c))]).all (·.clears g) = true ∧
      (((s.returned.map s.railOf).dedup).map fun r => Upd.set (rNbench r) (s.returned.filter fun c => s.railOf c == r).length).all (·.clears g) = true := by
  constructor
  · refine List.all_eq_true.mpr fun u hu => ?_
    obtain ⟨c, hc, hu⟩ := List.mem_flatMap.mp hu
    have hlt : c < 320 := List.mem_range.mp (List.mem_of_mem_filter hc)
    have hrole : (chRole c).key < 0x30_0000 * 64 := by simp only [chRole, PHT_CHCFG.role, Fld.key]; omega
    have hrail : (chRail c).key < 0x30_0000 * 64 := by simp only [chRail, PHT_CHCFG.rail, Fld.key]; omega
    simp only [List.mem_cons, List.not_mem_nil, or_false] at hu
    obtain rfl | rfl := hu <;> simp only [Upd.clears, bne_iff_ne] <;> omega
  · refine List.all_eq_true.mpr (List.forall_mem_map.mpr fun r _ => ?_)
    have htile : railTile r ≤ 3 := by unfold railTile; split_ifs <;> omega
    have hlocal : railLocal r ≤ 4 := by unfold railLocal; split_ifs <;> omega
    have hkey : (rNbench r).key < 0x30_0000 * 64 := by simp only [rNbench, PHT_RSTAT.nbench, Fld.key]; omega
    simp only [Upd.clears, bne_iff_ne]
    omega

/-- A field of the island's block that it does not keep, or one of the core's, is at its reset value. -/
theorem planesReset_resets {s : State} {g : Fld} (hm : messageField g = false) (hlo : 0x30_0000 * 64 ≤ g.key) (hhi : g.key < 0x140_0000 * 64)
    (hwipe : g.key ≠ MEM_STAT.wipe.key) (hisland : (islandFields.map fun f => Upd.set f (s.rd f)).all (·.clears g) = true) :
    (s.does planesReset).rd g = g.reset % 2 ^ g.width := by
  obtain ⟨hchannels, hrails⟩ := returned_clears s hlo
  have hreset : s.restarted.rd g = g.reset % 2 ^ g.width := by
    have hout := rd_reset_out (s.apply (.resetRegs 0 0x140_0000)) 0x1_0000_0000 0x1_0800_0000 (g := g) (.inl (by omega))
    exact hout.trans (rd_reset_in s 0 0x140_0000 (by omega) hhi)
  rw [does_planesReset, rd_run_clear hm, hreset]
  simp only [planesKept, List.all_append, hisland, hchannels, hrails]
  simp [Upd.clears, hwipe]

/-- A field that the island keeps stands. -/
theorem planesReset_keeps {s : State} (hs : s.Wf) {g : Fld} (hm : messageField g = false) (hlo : 0x30_0000 * 64 ≤ g.key) {fs gs : List Fld}
    (hisland : islandFields = fs ++ g :: gs) (hgs : (gs.map fun f => Upd.set f (s.rd f)).all (·.clears g) = true) (hwipe : g.key ≠ MEM_STAT.wipe.key) :
    (s.does planesReset).rd g = s.rd g := by
  obtain ⟨hchannels, hrails⟩ := returned_clears s hlo
  have hsplit : planesKept s = ([.wipe 0x10_0000 0x18_0000, .wipe 0x4000_0000 0x1_0000_0000] ++ fs.map fun f => .set f (s.rd f)) ++ .set g (s.rd g) ::
      ((gs.map fun f => .set f (s.rd f)) ++ [.set MEM_STAT.wipe 0x3F] ++
        s.returned.flatMap (fun c => [.set (chRole c) Role.bench, .set (chRail c) (s.rd (chRail c))]) ++
        ((s.returned.map s.railOf).dedup).map (fun r => .set (rNbench r) (s.returned.filter (fun c => s.railOf c == r)).length)) := by
    simp [planesKept, hisland]
  rw [does_planesReset, hsplit, rd_run_sets (restarted_wf hs) hm _ _ ?_, Nat.mod_eq_of_lt (rd_lt s g)]
  simp only [List.all_append, hgs, hchannels, hrails]
  simp [Upd.clears, hwipe]

/-- A field outside what is reset stands. -/
theorem planesReset_spares {s : State} {g : Fld} (hm : messageField g = false) (hg : 0x1_0800_0000 * 64 ≤ g.key)
    (hisland : (islandFields.map fun f => Upd.set f (s.rd f)).all (·.clears g) = true) :
    (s.does planesReset).rd g = s.rd g := by
  obtain ⟨hchannels, hrails⟩ := returned_clears s (g := g) (by omega)
  have hreset : s.restarted.rd g = s.rd g :=
    (rd_reset_out (s.apply (.resetRegs 0 0x140_0000)) 0x1_0000_0000 0x1_0800_0000 (.inr hg)).trans (rd_reset_out s 0 0x140_0000 (.inr (by omega)))
  have hwipe : MEM_STAT.wipe.key = 0x110_0000 * 64 := rfl
  rw [does_planesReset, rd_run_clear hm, hreset]
  simp only [planesKept, List.all_append, hisland, hchannels, hrails]
  simp only [List.all_cons, List.all_nil, Upd.clears, Bool.and_true, Bool.true_and, bne_iff_ne]
  omega

/-! What the reset itself marks. -/

/-- A thermal shutdown that the island has latched runs on through the reset (log 218). -/
def State.tripRuns (s : State) : Bool := s.rd V.thermAt != 0 && !s.on V.thermHold && s.on V.auxUp

/-- The marks beside the cause and the count. -/
def otherMarks (strap : Nat) (keep : Bool) (s : State) : List Upd :=
  [setB V.lpKeep keep, .set V.lpGoodOld (s.rd V.lpGood), .set MEM_STAT.lp_state 1, .set TWI_STRAP.strap strap, .set V.standby 0, .set V.thermHold 0,
    .set V.auxUp 1] ++
   onlyIf s.tripRuns [.set V.thermAt 1, .set V.thermGone (s.rd V.thermGone + s.now - (s.rd V.thermAt - 1))] ++
   (List.range 48).map (fun c => Upd.set (MEM_LPCH.state c) (if bit (s.rd V.lpFailed) c then 3 else 1))

/-- The marks of a cold reset before the ROM runs. -/
def coldMarks (cause strap : Nat) (keep : Bool) (s : State) : List Upd :=
  .set CRP_CAUSE.cold (if s.tripRuns then s.rd CRP_CAUSE.cold else cause) :: .set CRP_RSTCNT.cold (s.rd CRP_RSTCNT.cold + 1) :: otherMarks strap keep s

/-- The state in which the ROM starts. -/
def State.coldMarked (cause strap : Nat) (keep : Bool) (s : State) : State := ((flashesStop s).does planesReset).run (coldMarks cause strap keep s)

theorem coldReset_eq (cause bad strap : Nat) (lpHeld : Bool) (supplies : List Nat) (s : State) : ∃ keep,
    coldReset cause bad strap lpHeld supplies s = romStart bad ((s.coldMarked cause strap keep).does (surveySupplies supplies)) := ⟨_, rfl⟩

theorem coldMarks_ordinary (cause strap : Nat) (keep : Bool) (s : State) : (coldMarks cause strap keep s).all Upd.ordinary = true := by
  simp [coldMarks, otherMarks, setB, Upd.ordinary]

theorem surveySupplies_boots (supplies : List Nat) (s : State) : (surveySupplies supplies s).all Upd.boots = true := by
  simp [surveySupplies, Upd.boots]

/-- Tray time restarts, and no order, staged write or transaction stands. -/
theorem coldReset_restarts (cause bad strap : Nat) (lpHeld : Bool) (supplies : List Nat) (s : State) :
    (coldReset cause bad strap lpHeld supplies s).now = 0 ∧ (coldReset cause bad strap lpHeld supplies s).orders = {} ∧
      (coldReset cause bad strap lpHeld supplies s).staging = {} ∧ (coldReset cause bad strap lpHeld supplies s).tx = {} := by
  obtain ⟨keep, heq⟩ := coldReset_eq cause bad strap lpHeld supplies s
  have hmarked : Passing Upd.ordinary (flashesStop s).restarted (s.coldMarked cause strap keep) := by
    rw [State.coldMarked, does_planesReset]
    exact (Passing.run (Via.refl _) (planesKept_ordinary _)).run (coldMarks_ordinary cause strap keep s)
  have hrom : Passing Upd.boots (s.coldMarked cause strap keep) (coldReset cause bad strap lpHeld supplies s) :=
    heq ▸ romStart_boots (Passing.does (Via.refl _) (surveySupplies_boots supplies))
  obtain ⟨hnow, horders, hstaging, htx⟩ := Passing.units (hmarked.trans (hrom.mono fun _ => Upd.ordinary_of_boots))
  obtain ⟨know, korders, kstaging, ktx⟩ := restarted_units (flashesStop s)
  exact ⟨hnow.trans know, horders.trans korders, hstaging.trans kstaging, htx.trans ktx⟩

/-- A field that the ROM leaves alone reads what the marks make of it. -/
theorem rd_coldReset (cause bad strap : Nat) (lpHeld : Bool) (supplies : List Nat) (s : State) {g : Fld} (hm : messageField g = false)
    (hg : bootKey g.key = false) : ∃ keep, (coldReset cause bad strap lpHeld supplies s).rd g = (s.coldMarked cause strap keep).rd g := by
  obtain ⟨keep, heq⟩ := coldReset_eq cause bad strap lpHeld supplies s
  have hrom : Passing Upd.boots (s.coldMarked cause strap keep) (coldReset cause bad strap lpHeld supplies s) :=
    heq ▸ romStart_boots (Passing.does (Via.refl _) (surveySupplies_boots supplies))
  exact ⟨keep, hrom.rd_boots hm hg⟩

/-- The channels of LPDDR5X are at their own keys. -/
theorem channels_clears (s : State) {g : Fld} (hg : 0x120_0000 * 64 ≤ g.key) :
    ((List.range 48).map fun c => Upd.set (MEM_LPCH.state c) (if bit (s.rd V.lpFailed) c then 3 else 1)).all (·.clears g) = true := by
  refine List.all_eq_true.mpr (List.forall_mem_map.mpr fun c hc => ?_)
  have hlt := List.mem_range.mp hc
  have hkey : (MEM_LPCH.state c).key < 0x120_0000 * 64 := by simp only [MEM_LPCH.state, Fld.key]; omega
  simp only [Upd.clears, bne_iff_ne]
  omega

/-- A field beside the other marks. -/
theorem otherMarks_clears (strap : Nat) (keep : Bool) (s : State) {g : Fld} (hg : 0x120_0000 * 64 ≤ g.key)
    (hmarks : ∀ f ∈ [V.lpKeep, V.lpGoodOld, MEM_STAT.lp_state, TWI_STRAP.strap, V.standby, V.thermHold, V.auxUp, V.thermAt, V.thermGone], g.key ≠ f.key) :
    (otherMarks strap keep s).all (·.clears g) = true := by
  simp only [List.forall_mem_cons] at hmarks
  obtain ⟨h1, h2, h3, h4, h5, h6, h7, h8, h9, -⟩ := hmarks
  simp only [otherMarks, List.all_append, channels_clears s hg, all_onlyIf_eq]
  simp [setB, Upd.clears, h1, h2, h3, h4, h5, h6, h7, h8, h9]

/-- A field beside every mark. -/
theorem coldMarks_clears {cause strap : Nat} {keep : Bool} {s : State} {g : Fld} (hcause : g.key ≠ CRP_CAUSE.cold.key) (hcount : g.key ≠ CRP_RSTCNT.cold.key)
    (hother : (otherMarks strap keep s).all (·.clears g) = true) : (coldMarks cause strap keep s).all (·.clears g) = true := by
  simp only [coldMarks, List.all_cons, hother]
  simp [Upd.clears, hcause, hcount]

theorem tripRuns_iff (s : State) : s.tripRuns = true ↔ s.rd V.thermAt ≠ 0 ∧ s.rd V.thermHold = 0 ∧ s.rd V.auxUp = 1 := by
  have hhold : s.rd V.thermHold < 2 := rd_lt s V.thermHold
  simp [State.tripRuns, State.on, and_assoc]
  omega

theorem coldReset_cause {s : State} (hs : s.Wf) {cause : Nat} (bad strap : Nat) (lpHeld : Bool) (supplies : List Nat) (hcause : cause < 256) :
    (coldReset cause bad strap lpHeld supplies s).rd CRP_CAUSE.cold = s.causeAfter cause := by
  obtain ⟨keep, heq⟩ := rd_coldReset cause bad strap lpHeld supplies s (g := CRP_CAUSE.cold) (by decide) (by decide)
  have hrest : (.set CRP_RSTCNT.cold (s.rd CRP_RSTCNT.cold + 1) :: otherMarks strap keep s).all (·.clears CRP_CAUSE.cold) = true :=
    (Bool.and_eq_true _ _).mpr ⟨rfl, otherMarks_clears strap keep s (by decide) (by decide)⟩
  have hmarked : (s.coldMarked cause strap keep).rd CRP_CAUSE.cold = (if s.tripRuns then s.rd CRP_CAUSE.cold else cause) % 2 ^ 8 :=
    rd_run_sets (run_wf _ ((flashesStop_boots s).wf hs)) (by decide) [] _ hrest
  have hlt : s.rd CRP_CAUSE.cold < 256 := rd_lt s CRP_CAUSE.cold
  rw [heq, hmarked, State.causeAfter]
  simp only [tripRuns_iff]
  split
  · exact Nat.mod_eq_of_lt hlt
  · exact Nat.mod_eq_of_lt hcause

theorem coldReset_count {s : State} (hs : s.Wf) (cause bad strap : Nat) (lpHeld : Bool) (supplies : List Nat) :
    (coldReset cause bad strap lpHeld supplies s).rd CRP_RSTCNT.cold = (s.rd CRP_RSTCNT.cold + 1) % 2 ^ 16 := by
  obtain ⟨keep, heq⟩ := rd_coldReset cause bad strap lpHeld supplies s (g := CRP_RSTCNT.cold) (by decide) (by decide)
  exact heq.trans (rd_run_sets (run_wf _ ((flashesStop_boots s).wf hs)) (by decide) [_] _ (otherMarks_clears strap keep s (by decide) (by decide)))

/-- A field of the island's block that neither the marks nor the island hold is at its reset value. -/
theorem coldReset_resets (cause bad strap : Nat) (lpHeld : Bool) (supplies : List Nat) (s : State) {g : Fld} (hm : messageField g = false)
    (hlo : 0x130_0000 * 64 ≤ g.key) (hhi : g.key < 0x140_0000 * 64) (hmarks : g.key ≠ CRP_CAUSE.cold.key ∧ g.key ≠ CRP_RSTCNT.cold.key)
    (hisland : (islandFields.map fun f => Upd.set f ((flashesStop s).rd f)).all (·.clears g) = true) :
    (coldReset cause bad strap lpHeld supplies s).rd g = g.reset % 2 ^ g.width := by
  have hboot : bootKey g.key = false := by
    have h1 : MEM_STAT.wipe.key = 0x110_0000 * 64 := rfl
    have h2 : V.freeCtr.key = 0x1_0002_0000 * 64 := rfl
    have h3 : V.keeperVersion.key = 0x1_01C1_0000 * 64 := rfl
    have h4 : V.structOwed.key = 0x1_01C2_0000 * 64 := rfl
    have h5 : V.fuseWiped.key = 0x1_0801_0000 * 64 := rfl
    simp only [bootKey, Bool.or_eq_false_iff, Bool.and_eq_false_iff, decide_eq_false_iff_not, beq_eq_false_iff_ne]
    omega
  obtain ⟨keep, heq⟩ := rd_coldReset cause bad strap lpHeld supplies s hm hboot
  obtain ⟨hcause, hcount⟩ := hmarks
  have hother : (otherMarks strap keep s).all (·.clears g) = true := by
    refine otherMarks_clears strap keep s (by omega) ?_
    have hbeside : ∀ f ∈ [V.lpKeep, V.lpGoodOld, MEM_STAT.lp_state, TWI_STRAP.strap, V.standby, V.thermHold, V.auxUp, V.thermAt, V.thermGone],
      f.key < 0x130_0000 * 64 ∨ 0x140_0000 * 64 ≤ f.key := by decide
    intro f hf
    have := hbeside f hf
    omega
  rw [heq, State.coldMarked, rd_run_clear hm (coldMarks_clears hcause hcount hother)]
  refine planesReset_resets hm (by omega) hhi ?_ hisland
  have hwipe : MEM_STAT.wipe.key = 0x110_0000 * 64 := rfl
  omega

/-- A field that the island holds stands. -/
theorem coldReset_holds {s : State} (hs : s.Wf) (cause bad strap : Nat) (lpHeld : Bool) (supplies : List Nat) {g : Fld} (hm : messageField g = false)
    (hlo : 0x120_0000 * 64 ≤ g.key) (hboot : bootKey g.key = false) {fs gs : List Fld} (hisland : islandFields = fs ++ g :: gs)
    (hgs : (gs.map fun f => Upd.set f ((flashesStop s).rd f)).all (·.clears g) = true)
    (hmarks : ∀ f ∈ [CRP_CAUSE.cold, CRP_RSTCNT.cold, V.lpKeep, V.lpGoodOld, MEM_STAT.lp_state, TWI_STRAP.strap, V.standby, V.thermHold, V.auxUp,
      V.thermAt, V.thermGone], g.key ≠ f.key) :
    (coldReset cause bad strap lpHeld supplies s).rd g = s.rd g := by
  obtain ⟨keep, heq⟩ := rd_coldReset cause bad strap lpHeld supplies s hm hboot
  obtain ⟨hcause, hmarks⟩ := List.forall_mem_cons.mp hmarks
  obtain ⟨hcount, hmarks⟩ := List.forall_mem_cons.mp hmarks
  have hstops := flashesStop_boots s
  have hwipe : MEM_STAT.wipe.key = 0x110_0000 * 64 := rfl
  rw [heq, State.coldMarked, rd_run_clear hm (coldMarks_clears hcause hcount (otherMarks_clears strap keep s hlo hmarks)),
    planesReset_keeps (hstops.wf hs) hm (by omega) hisland hgs (by omega), hstops.rd_boots hm hboot]

/-- The reset ends standby and the thermal hold, and AUX12 is up. -/
theorem coldReset_wakes {s : State} (hs : s.Wf) (cause bad strap : Nat) (lpHeld : Bool) (supplies : List Nat) :
    (coldReset cause bad strap lpHeld supplies s).rd V.standby = 0 ∧ (coldReset cause bad strap lpHeld supplies s).rd V.thermHold = 0 ∧
      (coldReset cause bad strap lpHeld supplies s).rd V.auxUp = 1 := by
  have hwf := run_wf (planesReset (flashesStop s)) ((flashesStop_boots s).wf hs)
  have hlist (keep : Bool) : coldMarks cause strap keep s = [.set CRP_CAUSE.cold (if s.tripRuns then s.rd CRP_CAUSE.cold else cause),
      .set CRP_RSTCNT.cold (s.rd CRP_RSTCNT.cold + 1), setB V.lpKeep keep, .set V.lpGoodOld (s.rd V.lpGood), .set MEM_STAT.lp_state 1, .set TWI_STRAP.strap strap] ++
      .set V.standby 0 :: .set V.thermHold 0 :: .set V.auxUp 1 :: (onlyIf s.tripRuns [.set V.thermAt 1, .set V.thermGone (s.rd V.thermGone + s.now - (s.rd V.thermAt - 1))] ++
        (List.range 48).map fun c => Upd.set (MEM_LPCH.state c) (if bit (s.rd V.lpFailed) c then 3 else 1)) := rfl
  have hclears {g : Fld} (hg : 0x120_0000 * 64 ≤ g.key) (hat : g.key ≠ V.thermAt.key) (hgone : g.key ≠ V.thermGone.key) :
      (onlyIf s.tripRuns [.set V.thermAt 1, .set V.thermGone (s.rd V.thermGone + s.now - (s.rd V.thermAt - 1))] ++
        (List.range 48).map fun c => Upd.set (MEM_LPCH.state c) (if bit (s.rd V.lpFailed) c then 3 else 1)).all (·.clears g) = true := by
    simp only [List.all_append, channels_clears s hg, all_onlyIf_eq]
    simp [Upd.clears, hat, hgone]
  refine ⟨?_, ?_, ?_⟩
  · obtain ⟨keep, heq⟩ := rd_coldReset cause bad strap lpHeld supplies s (g := V.standby) (by decide) (by decide)
    rw [heq, State.coldMarked, hlist]
    exact rd_run_sets hwf (by decide) _ 0 (by simp only [List.all_cons, hclears (g := V.standby) (by decide) (by decide) (by decide)]; rfl)
  · obtain ⟨keep, heq⟩ := rd_coldReset cause bad strap lpHeld supplies s (g := V.thermHold) (by decide) (by decide)
    rw [heq, State.coldMarked, hlist, List.append_cons]
    exact rd_run_sets hwf (by decide) _ 0 (by simp only [List.all_cons, hclears (g := V.thermHold) (by decide) (by decide) (by decide)]; rfl)
  · obtain ⟨keep, heq⟩ := rd_coldReset cause bad strap lpHeld supplies s (g := V.auxUp) (by decide) (by decide)
    rw [heq, State.coldMarked, hlist, List.append_cons, List.append_cons]
    exact rd_run_sets hwf (by decide) _ 1 (hclears (by decide) (by decide) (by decide))

end Sys2Proof.Machine
end

section
/-! The causes of a cold reset (R537, R539, R546, R547, R553, R556). -/

namespace Sys2Proof.Machine

/-- What every cold reset leaves: its cause, the count, tray time at 0, and no order, staged write or transaction. -/
theorem coldReset_leaves {s : State} (hs : s.Wf) {cause : Nat} (bad strap : Nat) (lpHeld : Bool) (supplies : List Nat) (hcause : cause < 256) :
    (coldReset cause bad strap lpHeld supplies s).rd CRP_CAUSE.cold = s.causeAfter cause ∧
      (coldReset cause bad strap lpHeld supplies s).rd CRP_RSTCNT.cold = (s.rd CRP_RSTCNT.cold + 1) % 2 ^ 16 ∧
      (coldReset cause bad strap lpHeld supplies s).now = 0 ∧ (coldReset cause bad strap lpHeld supplies s).orders = {} ∧
      (coldReset cause bad strap lpHeld supplies s).staging = {} ∧ (coldReset cause bad strap lpHeld supplies s).tx = {} :=
  ⟨coldReset_cause hs bad strap lpHeld supplies hcause, coldReset_count hs cause bad strap lpHeld supplies,
    coldReset_restarts cause bad strap lpHeld supplies s⟩

/-- The cause that a reset leaves is told by the shutdown and the cause before. -/
theorem causeAfter_of {s t : State} (c : Nat) (hat : t.rd V.thermAt = s.rd V.thermAt) (hhold : t.rd V.thermHold = s.rd V.thermHold)
    (haux : t.rd V.auxUp = s.rd V.auxUp) (hcause : t.rd CRP_CAUSE.cold = s.rd CRP_CAUSE.cold) : t.causeAfter c = s.causeAfter c := by
  rw [State.causeAfter, State.causeAfter, hat, hhold, haux, hcause]

theorem auxPowerOn_resets {s : State} (hs : s.Wf) (r : Restart) (haux : s.rd V.auxUp = 0) :
    Gives (.auxPowerOn r) s (fun t => t.rd CRP_CAUSE.cold = 1 ∧ t.rd CRP_RSTCNT.cold = 1 ∧ t.now = 0 ∧ t.orders = {} ∧ t.rd V.auxUp = 1) := by
  have hwf : (islandReset s).Wf := run_wf _ hs
  have hdown : (islandReset s).rd V.auxUp = 0 := (rd_run_clear (by decide) rfl).trans haux
  have hzero : (islandReset s).rd CRP_RSTCNT.cold = 0 := rd_run_lastSet hs (v := 0) (by decide) rfl
  obtain ⟨hcause, hcount, hnow, horders, -, -⟩ := coldReset_leaves hwf r.bad r.strap false r.supplies (show 1 < 256 by decide)
  obtain ⟨-, -, hup⟩ := coldReset_wakes hwf 1 r.bad r.strap false r.supplies
  refine ⟨_, whenever_of (by simp [State.on, haux]) _ _, hcause.trans ?_, hcount.trans (by rw [hzero]; rfl), hnow, horders, hup⟩
  simp [State.causeAfter, hdown]

theorem coldReset_ordered {s : State} (hs : s.Wf) (r : Restart) (hask : s.rd CRP_RSTCTL.cold = 1) :
    Gives (.coldReset r) s (fun t => t.rd CRP_CAUSE.cold = s.causeAfter (if s.wipeOwed = true then 5 else 4) ∧
      t.rd CRP_RSTCNT.cold = (s.rd CRP_RSTCNT.cold + 1) % 2 ^ 16 ∧ t.now = 0 ∧ t.orders = {} ∧ t.staging = {} ∧ t.tx = {} ∧
      t.rd CRP_RTC.count = s.rd CRP_RTC.count ∧ t.rd CRP_RSTCTL.cold = 0) := by
  have hlt : (if s.wipeOwed = true then 5 else 4) < 256 := by split <;> decide
  obtain ⟨hcause, hcount, hnow, horders, hstaging, htx⟩ := coldReset_leaves hs r.bad r.strap r.lpHeld r.supplies hlt
  exact ⟨_, whenever_of (by simp [State.on, hask]) _ _, hcause, hcount, hnow, horders, hstaging, htx,
    coldReset_holds hs _ _ _ _ _ (by decide) (by decide) (by decide) (fs := []) rfl rfl (by decide),
    coldReset_resets _ _ _ _ _ s (by decide) (by decide) (by decide) (by decide) rfl⟩

theorem pfailRecovery_resets {s : State} (hs : s.Wf) (r : Restart) (hwarn : s.rd CRP_PFSTAT.warn = 1) (haux : s.rd V.auxUp = 1)
    (hhold : s.rd V.thermHold = 0) (hback : s.rd V.auxBack ≠ 0) (htime : max (s.rd V.auxBack) (s.rd V.pfAt) + 40000000 ≤ s.now + 1)
    (htherm : s.rd V.thermAt = 0 ∨ s.rd V.pfAt < s.rd V.thermAt) :
    Gives (.pfailRecovery r) s (fun t => t.rd CRP_CAUSE.cold = s.causeAfter 2 ∧ t.rd CRP_RSTCNT.cold = (s.rd CRP_RSTCNT.cold + 1) % 2 ^ 16 ∧
      t.now = 0 ∧ t.orders = {} ∧ t.staging = {} ∧ t.tx = {} ∧ t.rd CRP_PFSTAT.warn = 0) := by
  have hlater : (s.rd V.thermAt != 0 && decide (s.rd V.thermAt ≤ s.rd V.pfAt)) = false := by
    simp only [Bool.and_eq_false_iff, bne_eq_false_iff_eq, decide_eq_false_iff_not]
    omega
  have hexec : exec (.pfailRecovery r) s = .next (coldReset 2 r.bad r.strap r.lpHeld r.supplies s) := by
    refine (whenever_of ?_ _ _).trans (by rw [hlater]; rfl)
    simp [State.on, hwarn, haux, hhold, hback, htime]
  obtain ⟨hcause, hcount, hnow, horders, hstaging, htx⟩ := coldReset_leaves hs r.bad r.strap r.lpHeld r.supplies (show 2 < 256 by decide)
  exact ⟨_, hexec, hcause, hcount, hnow, horders, hstaging, htx,
    coldReset_resets _ _ _ _ _ s (by decide) (by decide) (by decide) (by decide) rfl⟩

theorem pllLockLost_resets {s : State} (hs : s.Wf) (r : Restart) (hlock : bit (s.rd V.pllLock) 0 = true) :
    Gives (.pllLockLost 0 r) s (fun t => t.rd CRP_CAUSE.cold = s.causeAfter 0xB ∧ t.rd CRP_RSTCNT.cold = (s.rd CRP_RSTCNT.cold + 1) % 2 ^ 16 ∧
      t.now = 0 ∧ t.orders = {} ∧ t.staging = {} ∧ t.tx = {}) :=
  ⟨_, whenever_of (by simp [hlock]) _ _, coldReset_leaves hs r.bad r.strap r.lpHeld r.supplies (by decide)⟩

theorem supplyPgLost_resets {s : State} (hs : s.Wf) (r : Restart) (hen : s.rd CRP_SUPSTAT.supply_en = 1) (hwarn : s.rd CRP_PFSTAT.warn = 0)
    (hlow : s.rd V.supLow ≠ 0) (htime : s.rd V.supLow + 8000 ≤ s.now + 1) :
    Gives (.supplyPgLost r) s (fun t => t.rd CRP_CAUSE.cold = s.causeAfter 0xA ∧ t.rd CRP_RSTCNT.cold = (s.rd CRP_RSTCNT.cold + 1) % 2 ^ 16 ∧
      t.now = 0 ∧ t.orders = {} ∧ t.staging = {} ∧ t.tx = {}) :=
  ⟨_, whenever_of (by simp [State.on, hen, hwarn, hlow, htime]) _ _, coldReset_leaves hs r.bad r.strap r.lpHeld r.supplies (by decide)⟩

/-- A crossing's measurement is no business of the reset. -/
theorem xingMeasure_clears {x : Nat} (hx : x < 6) (w : Int) (s : State) {g : Fld}
    (hg : g ∈ [V.thermAt, V.thermHold, V.auxUp, CRP_CAUSE.cold, CRP_RSTCNT.cold]) : (xingMeasure x w s).all (·.clears g) = true := by
  simp only [List.mem_cons, List.not_mem_nil, or_false] at hg
  obtain rfl | rfl | rfl | rfl | rfl := hg
  all_goals
    simp [xingMeasure, setISat, setB, crpNote, note, Upd.clears, Fld.key, CRP_XWANDER.peak, CRP_XWANDER.now, V.xingOn, CRP_EVT.xing, V.thermAt, V.thermHold, V.auxUp,
      CRP_CAUSE.cold, CRP_RSTCNT.cold, ivar]
    omega

theorem xingReset_resets {s : State} (hs : s.Wf) {x : Nat} {w : Int} (r : Restart) (hx : x < 6) (hw : 1100 ≤ w.natAbs)
    (hwarn : s.rd CRP_PFSTAT.warn = 0) :
    Gives (.xingReset x w r) s (fun t => t.rd CRP_CAUSE.cold = s.causeAfter 9 ∧ t.rd CRP_RSTCNT.cold = (s.rd CRP_RSTCNT.cold + 1) % 2 ^ 16 ∧
      t.now = 0 ∧ t.orders = {} ∧ t.staging = {} ∧ t.tx = {}) := by
  have hkeeps {g : Fld} (hg : g ∈ [V.thermAt, V.thermHold, V.auxUp, CRP_CAUSE.cold, CRP_RSTCNT.cold]) (hm : messageField g = false) :
      (s.does (xingMeasure x w)).rd g = s.rd g := rd_run_clear hm (xingMeasure_clears hx w s hg)
  have hup : ¬s.on CRP_PFSTAT.warn = true := by simp [State.on, hwarn]
  have hexec : exec (.xingReset x w r) s = .next (coldReset 9 r.bad r.strap r.lpHeld r.supplies (s.does (xingMeasure x w))) :=
    (whenever_of (by simp [hx, hw]) _ _).trans (congrArg _ (if_neg hup))
  obtain ⟨hcause, hcount, hrest⟩ := coldReset_leaves (run_wf (xingMeasure x w s) hs) r.bad r.strap r.lpHeld r.supplies (show 9 < 256 by decide)
  refine ⟨_, hexec, hcause.trans (causeAfter_of 9 (hkeeps ?_ ?_) (hkeeps ?_ ?_) (hkeeps ?_ ?_) (hkeeps ?_ ?_)), hcount.trans ?_, hrest⟩
  case refine_9 => exact congrArg (fun v => (v + 1) % 2 ^ 16) (hkeeps (by decide) (by decide))
  all_goals decide

theorem wake_resets {s : State} (hs : s.Wf) {src : Nat} (supplies : List Nat) (r : RomFind) (hstandby : s.rd V.standby = 1) (hsrc : src < 6)
    (hen : bit (s.rd CRP_WAKEEN.en) src = true) (hcalls : s.wakeCalls src = true) :
    Gives (.wake src supplies r) s (fun t => t.rd CRP_CAUSE.cold = s.causeAfter 8 ∧ t.rd CRP_RSTCNT.cold = (s.rd CRP_RSTCNT.cold + 1) % 2 ^ 16 ∧
      t.now = 0 ∧ t.orders = {} ∧ t.staging = {} ∧ t.tx = {} ∧ t.rd CRP_WAKESRC.src = 2 ^ src ∧ t.rd V.standby = 0) := by
  obtain ⟨u, hu⟩ : ∃ u, u = s.run [.set CRP_WAKESRC.src (2 ^ src), .set CRP_SUPSTAT.supply_en 1, .set CRP_SUPSTAT.supply_pg 1] := ⟨_, rfl⟩
  have huw : u.Wf := hu ▸ run_wf _ hs
  have hexec : exec (.wake src supplies r) s = .next (coldReset 8 r.bad r.strap false supplies u) :=
    (whenever_of (by simp [State.on, hstandby, hsrc, hen, hcalls]) _ _).trans (by rw [hu])
  have hkeeps {g : Fld} (hm : messageField g = false)
      (hclear : [Upd.set CRP_WAKESRC.src (2 ^ src), .set CRP_SUPSTAT.supply_en 1, .set CRP_SUPSTAT.supply_pg 1].all (·.clears g) = true) : u.rd g = s.rd g :=
    hu ▸ rd_run_clear hm hclear
  have hpow : 2 ^ src < 2 ^ 6 := Nat.pow_lt_pow_right (by decide) hsrc
  have hsource : u.rd CRP_WAKESRC.src = 2 ^ src := by
    rw [hu]
    exact (rd_run_sets hs (by decide) [] _ rfl).trans (Nat.mod_eq_of_lt hpow)
  obtain ⟨hcause, hcount, hnow, horders, hstaging, htx⟩ := coldReset_leaves huw r.bad r.strap false supplies (show 8 < 256 by decide)
  obtain ⟨hawake, -, -⟩ := coldReset_wakes huw 8 r.bad r.strap false supplies
  refine ⟨_, hexec, hcause.trans ?_, ?_, hnow, horders, hstaging, htx, ?_, hawake⟩
  · exact causeAfter_of 8 (hkeeps (by decide) rfl) (hkeeps (by decide) rfl) (hkeeps (by decide) rfl) (hkeeps (by decide) rfl)
  · rw [hcount, hkeeps (by decide) rfl]
  · rw [← hsource]
    exact coldReset_holds huw _ _ _ _ _ (by decide) (by decide) (by decide) (fs := [CRP_RTC.count, CRP_WAKEEN.en, CRP_WAKEAT.at_]) rfl rfl (by decide)

theorem thermalRelease_resets {s : State} (hs : s.Wf) (r : Restart) (hhold : s.rd V.thermHold = 1) (hcool : s.rd V.coolSince ≠ 0)
    (htime : s.rd V.coolSince + 4000000000 ≤ s.now + 1) :
    Gives (.thermalRelease r) s (fun t => t.rd CRP_CAUSE.cold = (if s.rd CRP_CAUSE.cold = 2 then 2 else 3) ∧
      t.rd CRP_RSTCNT.cold = (s.rd CRP_RSTCNT.cold + 1) % 2 ^ 16 ∧ t.now = 0 ∧ t.orders = {} ∧ t.staging = {} ∧ t.tx = {} ∧ t.rd V.thermHold = 0) := by
  obtain ⟨u, hu⟩ : ∃ u, u = if s.on V.lpKeep then s.run [.set MEM_STAT.lp_state 3, .set V.lpGood (s.rd V.lpGoodOld)] else s := ⟨_, rfl⟩
  have huw : u.Wf := by
    rw [hu]
    split
    · exact run_wf _ hs
    · exact hs
  have hkeeps {g : Fld} (hm : messageField g = false)
      (hclear : [Upd.set MEM_STAT.lp_state 3, .set V.lpGood (s.rd V.lpGoodOld)].all (·.clears g) = true) : u.rd g = s.rd g := by
    rw [hu]
    split
    · exact rd_run_clear hm hclear
    · rfl
  have hexec : exec (.thermalRelease r) s = .next (coldReset (if s.rd CRP_CAUSE.cold = 2 then 2 else 3) r.bad r.strap r.lpHeld r.supplies u) :=
    (whenever_of (by simp [State.on, hhold, hcool, htime]) _ _).trans (by rw [hu])
  have hlt : (if s.rd CRP_CAUSE.cold = 2 then 2 else 3) < 256 := by split <;> decide
  have hheld : u.rd V.thermHold = 1 := (hkeeps (by decide) rfl).trans hhold
  obtain ⟨hcause, hcount, hnow, horders, hstaging, htx⟩ := coldReset_leaves huw r.bad r.strap r.lpHeld r.supplies hlt
  obtain ⟨-, hfree, -⟩ := coldReset_wakes huw (if s.rd CRP_CAUSE.cold = 2 then 2 else 3) r.bad r.strap r.lpHeld r.supplies
  refine ⟨_, hexec, hcause.trans ?_, ?_, hnow, horders, hstaging, htx, hfree⟩
  · simp [State.causeAfter, hheld]
  · rw [hcount, hkeeps (by decide) rfl]

/-- Settles O58, a clause for each form: AUX_POWER_ON, COLD_RESET, PFAIL_RECOVERY, PLL_LOCK_LOST of PLL 0, SUPPLY_PG_LOST, XING_RESET, WAKE and
THERMAL_RELEASE (R537, R539, R546, R547, R553, R556). -/
theorem coldResetCommandsTakeEffect : Obligations.ColdResetCommandsTakeEffect := by
  unfold Obligations.ColdResetCommandsTakeEffect
  refine ⟨?_, ?_, ?_, ?_, ?_, ?_, ?_, ?_⟩
  · intro s r hs haux
    exact auxPowerOn_resets hs r haux
  · intro s r hs hask
    exact coldReset_ordered hs r hask
  · intro s r hs hwarn haux hhold hback htime htherm
    exact pfailRecovery_resets hs r hwarn haux hhold hback htime htherm
  · intro s r hs hlock
    exact pllLockLost_resets hs r hlock
  · intro s r hs hen hwarn hlow htime
    exact supplyPgLost_resets hs r hen hwarn hlow htime
  · intro s x w r hs hx hw hwarn
    exact xingReset_resets hs r hx hw hwarn
  · intro s src supplies r hs hstandby hsrc hen hcalls
    exact wake_resets hs supplies r hstandby hsrc hen hcalls
  · intro s r hs hhold hcool htime
    exact thermalRelease_resets hs r hhold hcool htime

end Sys2Proof.Machine
end

section
/-! Test access: the multiplexers, the unlock and the TAP controller (R524-R530). -/

namespace Sys2Proof.Machine

/-! The multiplexers (R524-R526). -/

/-- A digital pin takes the source that a permitted write selects. -/
theorem muxSelect_digital {s : State} (hs : s.Wf) {k value : Nat} (hk : k < 8) (hen : bit value 31 = true)
    (hok : s.sourceRefused (dtestClass (bits value 12 4) (bits value 0 12)) = 0) :
    (muxSelect k value s).rd (TAM_DSEL.en k) = 1 ∧ (muxSelect k value s).rd (TAM_DSEL.group k) = bits value 12 4 ∧
      (muxSelect k value s).rd (TAM_DSEL.index k) = bits value 0 12 := by
  obtain ⟨u, hu, hrun⟩ : ∃ u : State, u.Wf ∧ muxSelect k value s =
      u.run [.set (TAM_DSEL.en k) (bits value 31 1), .set (TAM_DSEL.group k) (bits value 12 4), .set (TAM_DSEL.index k) (bits value 0 12)] := by
    refine ⟨if bit value 31 && dtestClass (bits value 12 4) (bits value 0 12) == 2 then s.does privateUse else s, ?_, ?_⟩
    · split
      · exact run_wf _ hs
      · exact hs
    · simp [muxSelect, hk, hen, hok]
  have hone : bits value 31 1 = 1 := by
    rw [bit, Nat.testBit_eq_decide_div_mod_eq] at hen
    exact of_decide_eq_true hen
  rw [hrun]
  refine ⟨?_, ?_, ?_⟩
  · refine (rd_run_sets hu (messageField_array (by omega) (by decide) _ _) [] _ ?_).trans (by rw [hone]; rfl)
    simp [Upd.clears, Fld.key, TAM_DSEL.group, TAM_DSEL.index]
  · refine (rd_run_sets hu (messageField_array (by omega) (by decide) _ _) [_] _ ?_).trans (Nat.mod_eq_of_lt (bits_lt value 12 4))
    simp [Upd.clears, Fld.key, TAM_DSEL.index]
  · exact (rd_run_sets hu (messageField_array (by omega) (by decide) _ _) [_, _] _ rfl).trans (Nat.mod_eq_of_lt (bits_lt value 0 12))

/-- So does an analog pin. -/
theorem muxSelect_analog {s : State} (hs : s.Wf) {k value : Nat} (hk : k < 2) (hen : bit value 31 = true)
    (hok : s.sourceRefused (atestClass (bits value 0 8)) = 0) :
    (muxSelect (8 + k) value s).rd (TAM_ASEL.en k) = 1 ∧ (muxSelect (8 + k) value s).rd (TAM_ASEL.index k) = bits value 8 8 ∧
      (muxSelect (8 + k) value s).rd (TAM_ASEL.source k) = bits value 0 8 := by
  obtain ⟨u, hu, hrun⟩ : ∃ u : State, u.Wf ∧ muxSelect (8 + k) value s =
      u.run [.set (TAM_ASEL.en k) (bits value 31 1), .set (TAM_ASEL.index k) (bits value 8 8), .set (TAM_ASEL.source k) (bits value 0 8)] := by
    refine ⟨if bit value 31 && atestClass (bits value 0 8) == 2 then s.does privateUse else s, ?_, ?_⟩
    · split
      · exact run_wf _ hs
      · exact hs
    · simp [muxSelect, hen, hok]
  have hone : bits value 31 1 = 1 := by
    rw [bit, Nat.testBit_eq_decide_div_mod_eq] at hen
    exact of_decide_eq_true hen
  rw [hrun]
  refine ⟨?_, ?_, ?_⟩
  · refine (rd_run_sets hu (messageField_array (by omega) (by decide) _ _) [] _ ?_).trans (by rw [hone]; rfl)
    simp [Upd.clears, Fld.key, TAM_ASEL.index, TAM_ASEL.source]
  · refine (rd_run_sets hu (messageField_array (by omega) (by decide) _ _) [_] _ ?_).trans (Nat.mod_eq_of_lt (bits_lt value 8 8))
    simp [Upd.clears, Fld.key, TAM_ASEL.source]
  · exact (rd_run_sets hu (messageField_array (by omega) (by decide) _ _) [_, _] _ rfl).trans (Nat.mod_eq_of_lt (bits_lt value 0 8))

/-- The write's address names the pin. -/
theorem exec_testMuxSelect {s : State} {req pin value : Nat} (hpin : pin < 10) (hreach : s.Reaches req (0x128_0020 + 4 * pin) 4 value false) :
    exec (.testMuxSelect req (0x128_0020 + 4 * pin) value) s = .next ((muxSelect pin value s).run (hostTraffic req true 4)) := by
  have hnumber : (0x128_0020 + 4 * pin - 0x128_0020) / 4 = pin := by omega
  have hmap : (decide (0x128_0020 ≤ 0x128_0020 + 4 * pin) && decide (0x128_0020 + 4 * pin < 0x128_0048) && decide ((0x128_0020 + 4 * pin) % 4 = 0)) = true := by
    simp only [Bool.and_eq_true, decide_eq_true_eq]
    omega
  show execTestMuxSelect req (0x128_0020 + 4 * pin) value s = _
  rw [execTestMuxSelect, hnumber]
  exact (if_pos (by simpa using hmap)).trans (gated_of_reaches hreach _)

/-! The unlock (R528). -/

theorem unlockGo_holds {s : State} (hs : s.Wf) (path : Nat) (hpath : path < 2) (tok : List Nat) (hfree : s.rd TAM_STAT.busy = 0) :
    (unlockGo path tok s).rd TAM_STAT.busy = 1 ∧ (unlockGo path tok s).rd V.tokPath = path ∧
      (unlockGo path tok s).rd V.tokHeld = ofLe tok % 2 ^ V.tokHeld.width := by
  have hgo : unlockGo path tok s = s.run [.set TAM_STAT.busy 1, .set V.tokHeld (ofLe tok), .set V.tokPath path] := if_neg (by simp [State.on, hfree])
  rw [hgo]
  exact ⟨rd_run_sets hs (by decide) [] 1 rfl, (rd_run_sets hs (by decide) [_, _] _ rfl).trans (Nat.mod_eq_of_lt hpath),
    rd_run_sets hs (by decide) [_] _ rfl⟩

/-- The check ends; outside DEV and PROD it gives 5 and opens nothing. -/
theorem tokenDone_ends {s : State} (hs : s.Wf) : (tokenDone s).rd TAM_STAT.busy = 0 ∧ (tokenDone s).rd TAM_EVT.unlock = 1 ∧
    (s.lifecycle ≠ 1 → s.lifecycle ≠ 2 → (tokenDone s).rd TAM_STAT.code = 5 ∧ (tokenDone s).rd KPR_LCSTAT.unlocked = s.rd KPR_LCSTAT.unlocked) := by
  unfold tokenDone
  extract_lets tok code key t
  have hcleared {g : Fld} {x : State} (hx : x = if code = 0 then (t.run unlockNow).does freshNonce else t) (hm : messageField g = false)
      (hunlock : unlockNow.all (·.clears g) = true) (hnonce : (freshNonce (t.run unlockNow)).all (·.clears g) = true) : x.rd g = t.rd g := by
    rw [hx]
    split
    · exact (rd_run_clear hm hnonce).trans (rd_run_clear hm hunlock)
    · rfl
  refine ⟨(hcleared rfl (by decide) rfl rfl).trans (rd_run_sets hs (by decide) [] 0 rfl),
    (hcleared rfl (by decide) rfl rfl).trans (rd_run_sets hs (by decide) [_, _] 1 rfl), fun hdev hprod => ?_⟩
  have hfive : code = 5 := if_neg (by simp [hdev, hprod])
  rw [if_neg (by rw [hfive]; decide)]
  exact ⟨(rd_run_sets hs (by decide) [_] _ rfl).trans (by rw [hfive]; rfl), rd_run_clear (by decide) rfl⟩

/-! The TAP controller (R529, R530). -/

/-- What the TAP controller leaves: what a cold reset tells its cause by, and the instruction in force once it is loaded. -/
def tapKey (k : Nat) : Bool := k == TAM_STAT.ir.key || k == V.thermAt.key || k == V.thermHold.key || k == V.auxUp.key || k == CRP_CAUSE.cold.key

theorem tapProtect_spares (on : Bool) (s : State) : Passing (Upd.spares tapKey) s (tapProtect on s) := by
  cases on
  · exact protectDropAll_spares (by decide) (Via.refl s)
  · exact protectHoldAll_spares (by decide) (Via.refl s)

theorem privateUse_spares (s : State) : (privateUse s).all (Upd.spares tapKey) = true := by
  rw [privateUse, all_onlyIf_eq]
  exact (Bool.or_eq_true _ _).mpr (.inr rfl)

/-- An instruction that is loaded is in force, and little else is touched. -/
theorem tapLoad_loads {s : State} (hs : s.Wf) {ir : Nat} (hir : ir < 256) : (tapLoad ir s).1.rd TAM_STAT.ir = ir ∧ (tapLoad ir s).1.now = s.now ∧
    (tapLoad ir s).2 = ((s.rd TAM_STAT.ir == 0x30 || s.rd TAM_STAT.ir == 0x31) && ir != s.rd TAM_STAT.ir) ∧
    (∀ c, (tapLoad ir s).1.causeAfter c = s.causeAfter c) ∧ (tapLoad ir s).1.Wf := by
  have hload : (s.run [.set TAM_STAT.ir ir]).rd TAM_STAT.ir = ir := (rd_run_sets hs (by decide) [] _ rfl).trans (Nat.mod_eq_of_lt hir)
  unfold tapLoad
  extract_lets old t u
  have hu : Passing (Upd.spares tapKey) t u := Passing.ite (Via.refl t) (tapProtect_spares _ t)
  have hcalm : Calm t u := Calm.ite (Calm.refl t) (by
    unfold tapProtect
    split
    · exact (Calm.refl t).protectHoldAll
    · exact (Calm.refl t).protectDropAll)
  obtain ⟨hnow, -⟩ := hcalm
  have hkeeps {g : Fld} (hm : messageField g = false) (hg : tapKey g.key = true) (hir : g.key ≠ TAM_STAT.ir.key) : u.rd g = s.rd g :=
    (hu.rd_spares hm hg).trans (rd_run_clear hm (by simp [Upd.clears, hir]))
  exact ⟨(hu.rd_spares (by decide) (by decide)).trans hload, hnow, rfl, fun c => causeAfter_of c (hkeeps (by decide) (by decide) (by decide))
    (hkeeps (by decide) (by decide) (by decide)) (hkeeps (by decide) (by decide) (by decide)) (hkeeps (by decide) (by decide) (by decide)),
    hu.wf (run_wf _ hs)⟩

/-- An instruction that is shifted in loads itself or BYPASS, from a state in which at most a record and a use of codes outside the standard have been noted. -/
theorem tapInstruction_loads {s : State} (hs : s.Wf) (code : Nat) : ∃ (ir : Nat) (u : State), tapInstruction code s = tapLoad ir u ∧ (ir = 0xFF ∨ ir = code) ∧
    (tapKnown code = true → s.tapRefused code = 0 → ir = code) ∧ u.Wf ∧ u.rd TAM_STAT.ir = s.rd TAM_STAT.ir ∧ u.now = s.now ∧
    ∀ c, u.causeAfter c = s.causeAfter c := by
  have hnoted {us : List Upd} (hus : us.all (Upd.spares tapKey) = true) (htime : us.all Upd.timeless = true) :
      (s.run us).Wf ∧ (s.run us).rd TAM_STAT.ir = s.rd TAM_STAT.ir ∧ (s.run us).now = s.now ∧ ∀ c, (s.run us).causeAfter c = s.causeAfter c := by
    have hpass : Passing (Upd.spares tapKey) s (s.run us) := Passing.run (Via.refl s) hus
    exact ⟨run_wf _ hs, hpass.rd_spares (by decide) (by decide), now_run_timeless htime, fun c =>
      causeAfter_of c (hpass.rd_spares (by decide) (by decide)) (hpass.rd_spares (by decide) (by decide)) (hpass.rd_spares (by decide) (by decide))
        (hpass.rd_spares (by decide) (by decide))⟩
  unfold tapInstruction
  split
  next hunknown => exact ⟨0xFF, s, rfl, .inl rfl, fun hknown => by simp [hknown] at hunknown, hs, rfl, rfl, fun _ => rfl⟩
  next hknown =>
    extract_lets why
    split
    next hwhy => exact ⟨0xFF, _, rfl, .inl rfl, fun _ hok => absurd hok hwhy, hnoted rfl rfl⟩
    next =>
      refine ⟨code, _, rfl, .inr rfl, fun _ _ => rfl, ?_⟩
      split
      · refine hnoted (privateUse_spares s) ?_
        rw [privateUse, all_onlyIf_eq]
        exact (Bool.or_eq_true _ _).mpr (.inr rfl)
      · exact ⟨hs, rfl, rfl, fun _ => rfl⟩

theorem exec_jtagInstruction (code : Nat) (r : Restart) (s : State) : exec (.jtagInstruction code r) s =
    .next (if (tapInstruction (code % 256) s).2 then coldReset 7 r.bad r.strap r.lpHeld r.supplies (tapInstruction (code % 256) s).1
      else (tapInstruction (code % 256) s).1) := rfl

theorem jtagInstruction_loads {s : State} (hs : s.Wf) {code : Nat} (r : Restart) (hmbist : s.rd TAM_STAT.ir ≠ 0x30) (hscan : s.rd TAM_STAT.ir ≠ 0x31)
    (hknown : tapKnown (code % 256) = true) (hok : s.tapRefused (code % 256) = 0) :
    Gives (.jtagInstruction code r) s (fun t => t.rd TAM_STAT.ir = code % 256 ∧ t.now = s.now) := by
  obtain ⟨ir, u, hload, -, hcode, hu, hir, hnow, -⟩ := tapInstruction_loads hs (code % 256)
  obtain rfl := hcode hknown hok
  obtain ⟨hin, htime, hagain, -, -⟩ := tapLoad_loads hu (ir := code % 256) (by omega)
  have hstays : (tapInstruction (code % 256) s).2 = false := by rw [hload, hagain, hir]; simp [hmbist, hscan]
  refine ⟨_, exec_jtagInstruction code r s, ?_⟩
  rw [if_neg (by simp [hstays]), hload]
  exact ⟨hin, htime.trans hnow⟩

theorem jtagInstruction_leaves {s : State} (hs : s.Wf) {code : Nat} (r : Restart) (hin : s.rd TAM_STAT.ir = 0x30 ∨ s.rd TAM_STAT.ir = 0x31)
    (hne : code % 256 ≠ s.rd TAM_STAT.ir) (hmbist : code % 256 ≠ 0x30) (hscan : code % 256 ≠ 0x31) :
    Gives (.jtagInstruction code r) s (fun t => t.rd CRP_CAUSE.cold = s.causeAfter 7 ∧ t.now = 0) := by
  obtain ⟨ir, u, hload, hcode, -, hu, hir, -, hcause⟩ := tapInstruction_loads hs (code % 256)
  have hlt : ir < 256 := by omega
  obtain ⟨-, -, hagain, hafter, hwf⟩ := tapLoad_loads hu hlt
  have hleaves : (tapInstruction (code % 256) s).2 = true := by
    rw [hload, hagain, hir]
    simp only [Bool.and_eq_true, Bool.or_eq_true, beq_iff_eq, bne_iff_ne]
    exact ⟨hin, by omega⟩
  refine ⟨_, exec_jtagInstruction code r s, ?_⟩
  rw [if_pos hleaves, hload]
  obtain ⟨hcold, -, hnow, -⟩ := coldReset_leaves hwf r.bad r.strap r.lpHeld r.supplies (show 7 < 256 by decide)
  exact ⟨hcold.trans ((hafter 7).trans (hcause 7)), hnow⟩

theorem tapReset_loads {s : State} (hs : s.Wf) (r : Restart) (hmbist : s.rd TAM_STAT.ir ≠ 0x30) (hscan : s.rd TAM_STAT.ir ≠ 0x31) :
    Gives (.tapReset r) s (fun t => t.rd TAM_STAT.ir = 0xFF ∧ t.now = s.now) := by
  obtain ⟨hin, htime, hagain, -, -⟩ := tapLoad_loads hs (ir := 0xFF) (by decide)
  have hstays : ¬(tapLoad 0xFF s).2 = true := by rw [hagain]; simp [hmbist, hscan]
  have hexec : exec (.tapReset r) s = .next (tapLoad 0xFF s).1 := congrArg _ (if_neg hstays)
  exact ⟨_, hexec, hin, htime⟩

/-- Settles O57, a clause for each form: TEST_MUX_SELECT of a digital and of an analog pin, UNLOCK by either path, TOKEN_CHECK_DONE, JTAG_INSTRUCTION and
TAP_RESET (R524-R530). -/
theorem testAccessCommandsTakeEffect : Obligations.TestAccessCommandsTakeEffect := by
  unfold Obligations.TestAccessCommandsTakeEffect
  refine ⟨?_, ?_, ?_, ?_, ?_, ?_, ?_, ?_⟩
  · intro s req k value hs hk hreach hen hok
    obtain ⟨hon, hgroup, hindex⟩ := muxSelect_digital hs hk hen hok
    exact ⟨_, exec_testMuxSelect (by omega) hreach, by simpa using ⟨hon, hgroup, hindex⟩⟩
  · intro s req k value hs hk hreach hen hok
    obtain ⟨hon, hindex, hsource⟩ := muxSelect_analog hs hk hen hok
    exact ⟨_, exec_testMuxSelect (by omega) hreach, by simpa using ⟨hon, hindex, hsource⟩⟩
  · intro s req value hs hreach hgo hfree
    refine ⟨_, gated_of_reaches hreach _, ?_⟩
    rw [if_pos hgo]
    simp only [rd_run_hostTraffic]
    exact unlockGo_holds hs 0 (by decide) _ hfree
  · intro s req value tok hs hir hfree
    obtain ⟨hbusy, hpath, -⟩ := unlockGo_holds hs 1 (by decide) (sliceBytes tok 0 3076) hfree
    exact ⟨_, whenever_of (by simp [hir]) _ _, hbusy, hpath⟩
  · intro s hs hbusy hchecker
    exact ⟨_, whenever_of (by simp [State.on, hbusy, hchecker]) _ _, tokenDone_ends hs⟩
  · intro s code r hs hmbist hscan hknown hok
    exact jtagInstruction_loads hs r hmbist hscan hknown hok
  · intro s code r hs hin hne hmbist hscan
    exact jtagInstruction_leaves hs r hin hne hmbist hscan
  · intro s r hs hmbist hscan
    exact tapReset_loads hs r hmbist hscan

end Sys2Proof.Machine
end

section
/-! SUPPORT. What a check of read memory finds (R496, R498), and what a wipe leaves (R508). -/

namespace Sys2Proof.Machine

/-! Regions and channels. -/

theorem regionOf_lt {s : State} {a r : Nat} (h : s.regionOf a = some r) : r < 6 := by
  unfold State.regionOf at h
  split at h
  next x hx =>
    have hmem := List.mem_range.mp (List.mem_of_find?_eq_some hx)
    have heq := Option.some.inj h
    omega
  next =>
    split at h
    · have heq := Option.some.inj h
      omega
    · cases h

theorem lt_of_mem_goodChannels {s : State} {c : Nat} (h : c ∈ s.goodChannels) : c < 48 :=
  List.mem_range.mp (List.mem_of_mem_filter h)

theorem channelOf_lt (s : State) (a : Nat) : s.channelOf a < 48 := by
  unfold State.channelOf
  extract_lets g
  rw [List.getD_eq_getElem?_getD]
  cases hget : g[(a - 0x10_0000_0000) / 4096 % max 1 g.length]? with
  | none => decide
  | some c => exact lt_of_mem_goodChannels (List.mem_of_getElem? hget)

/-! What a check writes. -/

/-- The registers of errors found: MEM_EVT, and the counts and addresses of the regions and the channels. -/
def findKey (k : Nat) : Bool :=
  k == MEM_EVT.ue.key || k == MEM_EVT.ce.key ||
    (decide (0x110_0100 * 64 ≤ k) && decide (k < 0x110_0400 * 64) && decide (k / 64 % 0x20 < 0x10)) ||
    (decide (0x110_0400 * 64 ≤ k) && decide (k < 0x110_0700 * 64) && decide (0 < k / 64 % 0x10))

/-- The update is one of a check: of such a field, of the memory unit, or a record. -/
def Upd.finds : Upd → Bool
  | .set f _ => findKey f.key
  | .emit _ | .memu _ => true
  | _ => false

theorem Upd.finds.keeps {u : Upd} (h : u.finds = true) {g : Fld} (hg : findKey g.key = false) : u.keeps g := by
  cases u
  case set f v =>
    intro e
    rw [Upd.finds, ← e, hg] at h
    cases h
  case resetRegs | flushVectors => cases h
  all_goals trivial

theorem Upd.finds.noStore {u : Upd} (h : u.finds = true) : u.noStore = true := by
  cases u
  case store | wipe => cases h
  all_goals rfl

theorem findKey_region {r o lsb : Nat} (hr : r < 6) (ho : o < 0x10) (hl : lsb < 64) : findKey ((0x110_0100 + o + 0x20 * r) * 64 + lsb) = true := by
  simp only [findKey, Bool.or_eq_true, Bool.and_eq_true, decide_eq_true_eq]
  omega

theorem findKey_channel {c o lsb : Nat} (hc : c < 48) (hlo : 0 < o) (hhi : o < 0x10) (hl : lsb < 64) :
    findKey ((0x110_0400 + o + 0x10 * c) * 64 + lsb) = true := by
  simp only [findKey, Bool.or_eq_true, Bool.and_eq_true, decide_eq_true_eq]
  omega

theorem foundUe_finds (w : Nat) (s : State) : (foundUe w s).all Upd.finds = true := by
  unfold foundUe
  split
  · rfl
  next r hr =>
    have hregion := regionOf_lt hr
    have hcount (v : Nat) : Upd.finds (.set (MEM_RUE.count r) v) = true := findKey_region (o := 4) (lsb := 0) hregion (by decide) (by decide)
    have haddr (v : Nat) : Upd.finds (.set (MEM_RUEADDR.addr r) v) = true := findKey_region (o := 8) (lsb := 0) hregion (by decide) (by decide)
    have hchannel (v : Nat) : Upd.finds (.set (MEM_LPCHUE.count (s.channelOf w)) v) = true :=
      findKey_channel (o := 8) (lsb := 0) (channelOf_lt s w) (by decide) (by decide) (by decide)
    simp only [List.all_append, List.all_cons, hcount, haddr]
    split
    · rfl
    · simp only [bump, List.all_cons, hchannel]
      rfl

theorem foundCe_finds (w : Nat) (s : State) : (foundCe w s).all Upd.finds = true := by
  unfold foundCe
  split
  · rfl
  next r hr =>
    have hcount (v : Nat) : Upd.finds (.set (MEM_RCE.count r) v) = true := findKey_region (o := 0) (lsb := 0) (regionOf_lt hr) (by decide) (by decide)
    have hchannel (v : Nat) : Upd.finds (.set (MEM_LPCHCE.count (s.channelOf w)) v) = true :=
      findKey_channel (o := 4) (lsb := 0) (channelOf_lt s w) (by decide) (by decide) (by decide)
    have hmemu (m : MemUnit) : Upd.finds (.memu m) = true := rfl
    have hevent : Upd.finds (.set MEM_EVT.ce 1) = true := rfl
    have hnote (t x : Nat) (pay : List (Nat × Nat × Nat)) : Upd.finds (note t x pay) = true := rfl
    simp [bump, hcount, hchannel, hmemu, hevent, hnote]

theorem checkRead_finds (a n : Nat) (s : State) : Passing Upd.finds s (checkRead a n s) := by
  unfold checkRead
  extract_lets t
  have ht : Passing Upd.finds s t := Passing.doEach (Via.refl s) foundCe_finds
  split
  · split
    · exact Passing.does ht (foundUe_finds _)
    · exact ht
  · exact Passing.doEach ht foundUe_finds

theorem rd_checkRead (a n : Nat) (s : State) {g : Fld} (hm : messageField g = false) (hg : findKey g.key = false) : (checkRead a n s).rd g = s.rd g :=
  Via.rd ((checkRead_finds a n s).mono fun _ hu => Upd.finds.keeps hu hg) hm

theorem mem_checkRead (a n : Nat) (s : State) : (checkRead a n s).mem = s.mem :=
  Passing.mem ((checkRead_finds a n s).mono fun _ => Upd.finds.noStore)

theorem findKey_passes {r : Nat} (hr : r < 6) : findKey (MEM_RSCRUB.passes r).key = false := by
  have hkey : (MEM_RSCRUB.passes r).key = (0x110_0110 + 0x20 * r) * 64 := rfl
  have hue : MEM_EVT.ue.key = 0x110_0004 * 64 + 1 := rfl
  have hce : MEM_EVT.ce.key = 0x110_0004 * 64 := rfl
  simp only [findKey, hkey, hue, hce, Bool.or_eq_false_iff, Bool.and_eq_false_iff, decide_eq_false_iff_not, beq_eq_false_iff_ne]
  omega

/-! Memory. -/

/-- What a wipe leaves of a byte. -/
theorem memByte_wipe (m : List Host.Cell) (lo hi a : Nat) :
    memByte (tableDrop (fun x => decide (lo ≤ x) && decide (x < hi)) m) a = if lo ≤ a ∧ a < hi then 0 else memByte m a := by
  unfold memByte tableGet
  split
  next hin => rw [find_drop_in _ _ (by simpa using hin)]; rfl
  next hout => rw [find_drop_out _ _ (by simpa using hout)]

end Sys2Proof.Machine
end

section
/-! Scrubbing, row repair and wipes (R497-R499, R508). -/

namespace Sys2Proof.Machine

variable {s : State}

theorem idleCycleScrub_counts (hs : s.Wf) {r : Nat} (hr : r = 0 ∨ r = 4) (hdone : bit (s.rd MEM_STAT.wipe) r = false) :
    Gives (.idleCycleScrub r) s (fun t => t.rd (MEM_RSCRUB.passes r) = (s.rd (MEM_RSCRUB.passes r) + 1) % 2 ^ 32 ∧ t.mem = s.mem) := by
  have hexec : exec (.idleCycleScrub r) s = .next (scrubPass r s) := by
    change whenever ((r == 0 || r == 4) && !bit (s.rd MEM_STAT.wipe) r) s _ = _
    have hfixed : (r == 0 || r == 4) = true := by simpa using hr
    rw [hfixed, hdone]
    rfl
  have hfield : messageField (MEM_RSCRUB.passes r) = false := messageField_array (by omega) (by decide) _ _
  exact ⟨_, hexec, rd_run_sets ((checkRead_finds _ _ s).wf hs) hfield [] _ rfl, (mem_run rfl _).trans (mem_checkRead _ _ s)⟩

/-! Row repair. -/

/-- Updates of a repair: of the memory unit and of its two event bits, and records. -/
def Upd.mends : Upd → Bool
  | .set f _ => f.key == MEM_EVT.spare_out.key || f.key == MEM_EVT.repair.key
  | .memu _ | .emit _ => true
  | _ => false

theorem Upd.mends.noStore {u : Upd} (h : u.mends = true) : u.noStore = true := by
  cases u
  case store | wipe => cases h
  all_goals rfl

theorem Upd.mends.clears {u : Upd} (h : u.mends = true) {g : Fld} (hout : g.key ≠ MEM_EVT.spare_out.key) (hrep : g.key ≠ MEM_EVT.repair.key) :
    u.clears g = true := by
  cases u
  case set f v =>
    simp only [Upd.mends, Bool.or_eq_true, beq_iff_eq] at h
    obtain h | h := h <;> simpa [Upd.clears, h]
  case resetRegs | flushVectors => cases h
  all_goals rfl

theorem repairStart_mends (row : Nat) (s : State) : (repairStart row s).all Upd.mends = true := by
  unfold repairStart
  extract_lets rest
  split <;> rfl

theorem repairEnd_mends (what row : Nat) (s : State) : (repairEnd what row s).all Upd.mends = true := by
  simp only [repairEnd, List.all_append, all_onlyIf_eq]
  cases s.sparesTaken (macroOf row) == 3 <;> rfl

theorem rowRepair_exec {row : Nat} {rest : List Nat} (hdue : s.memu.due = row :: rest) : exec .rowRepair s = .next (s.does (repairStart row)) := by
  change execRowRepair s = _
  unfold execRowRepair
  rw [hdue]

theorem rowRepair_starts {row : Nat} {rest : List Nat} (hdue : s.memu.due = row :: rest) (hspare : s.spareLeft (macroOf row) = true) :
    Gives .rowRepair s (fun t => t.memu = { s.memu with due := s.memu.due.filter (· != row), copies := s.memu.copies ++ [(row, s.now)] } ∧
      t.regs = s.regs ∧ t.mem = s.mem) := by
  refine ⟨_, rowRepair_exec hdue, ?_⟩
  simp [repairStart, hspare, State.run]

theorem rowRepair_givesUp (hs : s.Wf) {row : Nat} {rest : List Nat} (hdue : s.memu.due = row :: rest) (hspare : s.spareLeft (macroOf row) = false) :
    Gives .rowRepair s (fun t => t.memu = { s.memu with due := s.memu.due.filter (· != row) } ∧ t.rd MEM_EVT.spare_out = 1 ∧ Raised Ty.MEM_REPAIR t ∧
      t.mem = s.mem) := by
  refine ⟨_, rowRepair_exec hdue, ?_⟩
  rw [does_eq, repairStart, if_neg (by simp [hspare])]
  exact ⟨rfl, rd_run_lastSet hs (v := 1) (by decide) rfl, raised_run_note [_, _] _ _ _ s, rfl⟩

theorem repairDone_maps (hs : s.Wf) {row : Nat} (hdone : s.copyDone row = true) :
    Gives (.repairDone row) s (fun t => t.memu.maps = s.memu.maps ++ [(row, s.sparesTaken (macroOf row))] ∧
      t.memu.copies.all (fun e => e.1 != row) = true ∧ t.rd MEM_EVT.repair = 1 ∧ Raised Ty.MEM_REPAIR t ∧
      OnlyFields [MEM_EVT.repair, MEM_EVT.spare_out] { s with memu := t.memu } t) := by
  have hexec : exec (.repairDone row) s = .next (s.does (repairEnd 1 row)) := by
    change whenever (s.copyDone row) s _ = _
    rw [hdone]
    rfl
  set full := s.sparesTaken (macroOf row) == 3 with hfull
  have hlist : repairEnd 1 row s = [.memu { s.memu with copies := s.memu.copies.filter (fun e => e.1 != row), maps := s.memu.maps ++ [(row, s.sparesTaken (macroOf row))] },
      .set MEM_EVT.repair 1, repairNote 1 row (s.sparesTaken (macroOf row)) s] ++ onlyIf full [.set MEM_EVT.spare_out 1] := rfl
  have hunit : (s.does (repairEnd 1 row)).memu =
      { s.memu with copies := s.memu.copies.filter (fun e => e.1 != row), maps := s.memu.maps ++ [(row, s.sparesTaken (macroOf row))] } := by
    rw [does_eq, hlist]
    cases full <;> rfl
  refine ⟨_, hexec, by rw [hunit], by rw [hunit]; simp [List.all_filter], ?_, ?_, ?_⟩
  · rw [does_eq, hlist]
    cases full <;> exact rd_run_lastSet hs (v := 1) (by decide) rfl
  · rw [does_eq, hlist, run_append]
    refine Via.raised ((Via.refl _).run (all_onlyIf fun _ => by simp [Upd.quiet])) ?_
    exact raised_run_note [_, _] _ _ _ s
  · rw [hunit, does_eq, hlist, List.cons_append, run_cons, apply_memu]
    refine onlyFields_run_of_bus ?_ (by cases full <;> rfl)
    cases full <;> simp [Upd.setsOnly, repairNote, note]

/-! Wipes. -/

/-- A region's wipe, before the rows that read back with an error are repaired. -/
def regionWiped (r : Nat) (s : State) : List Upd :=
  [.set V.powerWipe (clearBit (s.rd V.powerWipe) r), .wipe (regionBase r) (regionBase r + regionSize r),
    .set MEM_STAT.wipe (clearBit (s.rd MEM_STAT.wipe) r), .set MEM_EVT.wipe 1] ++
  onlyIf (r == 2) [.set V.windowWiped 1] ++ onlyIf (r == 1) (moraineWiped s)

/-- The repairs that follow a wipe change no byte, and neither what shows it. -/
theorem wipeEnd_mends (r : Nat) (rows : List Nat) (s : State) : Passing Upd.mends (s.run (regionWiped r s)) (wipeEnd r rows s) := by
  unfold wipeEnd
  extract_lets kind t
  refine Passing.foldl (Via.refl t) fun w h => Passing.ite h ?_
  have hstart := Passing.does h (repairStart_mends w)
  exact Passing.ite (Passing.does hstart (repairEnd_mends _ w)) hstart

theorem memByte_regionWiped (r a : Nat) (s : State) :
    memByte (s.run (regionWiped r s)).mem a = if regionBase r ≤ a ∧ a < regionBase r + regionSize r then 0 else memByte s.mem a := by
  obtain rfl | hr := eq_or_ne r 1
  · have hmem : (s.run (regionWiped 1 s)).mem = tableDrop (fun x => decide (0x4000_0000 ≤ x) && decide (x < 0xC000_0000))
        (tableDrop (fun x => decide (regionBase 1 ≤ x) && decide (x < regionBase 1 + regionSize 1)) s.mem) := rfl
    have hbase : regionBase 1 = 0x4000_0000 := rfl
    have hsize : regionSize 1 = 0x8000_0000 := rfl
    rw [hmem, memByte_wipe, memByte_wipe, hbase, hsize]
    split <;> rfl
  · have hmem : (s.run (regionWiped r s)).mem = tableDrop (fun x => decide (regionBase r ≤ x) && decide (x < regionBase r + regionSize r)) s.mem := by
      have hother : (r == 1) = false := by simpa using hr
      rw [regionWiped, hother]
      cases r == 2 <;> rfl
    rw [hmem, memByte_wipe]

theorem regionWiped_shows (hs : s.Wf) (r : Nat) :
    (s.run (regionWiped r s)).rd MEM_STAT.wipe = clearBit (s.rd MEM_STAT.wipe) r % 2 ^ 6 ∧ (s.run (regionWiped r s)).rd MEM_EVT.wipe = 1 := by
  obtain rfl | hr := eq_or_ne r 1
  · exact ⟨rd_run_append_lastSet hs (by decide) _ (v := clearBit (s.rd MEM_STAT.wipe) 1) rfl, rd_run_append_lastSet hs (by decide) _ (v := 1) rfl⟩
  · have hother : (r == 1) = false := by simpa using hr
    rw [regionWiped, hother]
    cases r == 2
    · exact ⟨rd_run_lastSet hs (v := clearBit (s.rd MEM_STAT.wipe) r) (by decide) rfl, rd_run_lastSet hs (v := 1) (by decide) rfl⟩
    · exact ⟨rd_run_lastSet hs (v := clearBit (s.rd MEM_STAT.wipe) r) (by decide) rfl, rd_run_lastSet hs (v := 1) (by decide) rfl⟩

theorem wipeDone_zeroes (hs : s.Wf) {r : Nat} (rows : List Nat) (hr : r < 5) (hwipe : bit (s.rd MEM_STAT.wipe) r = true)
    (hwarn : s.rd CRP_PFSTAT.warn = 0) :
    Gives (.wipeDone r rows) s (fun t => bit (t.rd MEM_STAT.wipe) r = false ∧ t.rd MEM_EVT.wipe = 1 ∧
      (∀ a, regionBase r ≤ a → a < regionBase r + regionSize r → memByte t.mem a = 0) ∧
      (∀ a, a < regionBase r ∨ regionBase r + regionSize r ≤ a → memByte t.mem a = memByte s.mem a)) := by
  have hexec : exec (.wipeDone r rows) s = .next (wipeEnd r rows s) := by
    change whenever (decide (r < 5) && bit (s.rd MEM_STAT.wipe) r && !s.on CRP_PFSTAT.warn) s _ = _
    simp [hr, hwipe, State.on, hwarn]
  have hmends := wipeEnd_mends r rows s
  obtain ⟨hstat, hevent⟩ := regionWiped_shows hs r
  have hmem := Passing.mem (hmends.mono fun _ => Upd.mends.noStore)
  have hwiped : (wipeEnd r rows s).rd MEM_STAT.wipe = clearBit (s.rd MEM_STAT.wipe) r % 2 ^ 6 :=
    (Passing.rd_clears (hmends.mono fun _ hu => Upd.mends.clears hu (by decide) (by decide)) (by decide)).trans hstat
  have hshown : (wipeEnd r rows s).rd MEM_EVT.wipe = 1 :=
    (Passing.rd_clears (hmends.mono fun _ hu => Upd.mends.clears hu (by decide) (by decide)) (by decide)).trans hevent
  refine ⟨_, hexec, ?_, hshown, fun a hlo hhi => ?_, fun a hout => ?_⟩
  · rw [hwiped, bit_mod_two_pow (by omega)]
    exact bit_clearBit_same _ r
  · rw [hmem, memByte_regionWiped, if_pos ⟨hlo, hhi⟩]
  · rw [hmem, memByte_regionWiped, if_neg (by omega)]

/-- Settles O54: each command's own updates. The repairs after a wipe move neither a byte nor what shows the wipe. -/
theorem memoryCareCommandsTakeEffect : Obligations.MemoryCareCommandsTakeEffect :=
  ⟨fun _ _ hs hr hdone => idleCycleScrub_counts hs hr hdone, fun _ _ _ _ hdue hspare => rowRepair_starts hdue hspare,
    fun _ _ _ hs hdue hspare => rowRepair_givesUp hs hdue hspare, fun _ _ hs hdone => repairDone_maps hs hdone,
    fun _ _ rows hs hr hwipe hwarn => wipeDone_zeroes hs rows hr hwipe hwarn⟩

end Sys2Proof.Machine
end

section
/-! LPDDR5X: training, initialisation, tracking, polling, the patrol and the loss of a channel (R501-R507). -/

namespace Sys2Proof.Machine

variable {s : State}

/-! Training and initialisation. -/

/-- What training found of the channels, as it is shown and recorded. -/
def channelsTrained (good rate : Nat) (kept : Bool) (at' : Nat → Trained) : List Upd :=
  (List.range 48).flatMap (fun c =>
    [Upd.set (MEM_LPCH.state c) (if bit good c then 2 else 3), .set (MEM_LPCH.attempts c) (at' c).attempts, .set (MEM_LPCHEYE.read c) (at' c).rdEye,
     .set (MEM_LPCHEYE.write c) (at' c).wrEye,
     note Ty.LP_TRAIN 0 [(24, 1, c), (25, 1, ofBool (!bit good c)), (26, 1, rate), (27, 1, (at' c).attempts), (28, 2, (at' c).rdEye), (30, 2, (at' c).wrEye),
       (32, 1, ofBool kept)]])

/-- Training without retention goes on to initialisation. -/
theorem trainingEnd_lost (hkeep : s.rd V.lpKeep = 0) (res : List Trained) : ∃ good rate at', trainingEnd res s =
    channelsTrained good rate false at' ++
      [.set V.lpGood good, .set MEM_STAT.good (popCount 48 good), .set MEM_STAT.rate rate, .set MEM_STAT.retained 0,
        .set MEM_LPTOP.top (0x10_0000_0000 + popCount 48 good * 0xE000_0000), .set MEM_EVT.train 1, .set MEM_STAT.lp_state 2] := by
  unfold trainingEnd
  extract_lets at' good g rate kept
  have hlost : kept = false := by simp [kept, State.on, hkeep]
  refine ⟨good, rate, at', ?_⟩
  rw [hlost, List.append_assoc]
  rfl

theorem lpTrainDone_goesOn (hs : s.Wf) (res : List (Nat × Nat × Nat × Nat)) (hstate : s.rd MEM_STAT.lp_state ≤ 1) (hplane : s.rd (V.planeHeld 2) = 0)
    (hwarn : s.rd CRP_PFSTAT.warn = 0) (hkeep : s.rd V.lpKeep = 0) :
    Gives (.lpTrainDone res) s (fun t => t.rd MEM_STAT.lp_state = 2 ∧ t.rd MEM_STAT.retained = 0 ∧ t.rd MEM_EVT.train = 1 ∧ t.mem = s.mem) := by
  have hexec : exec (.lpTrainDone res) s = .next (s.does (trainingEnd (res.map fun r => ⟨r.1, r.2.1, r.2.2.1, r.2.2.2⟩))) := by
    change whenever (decide (s.rd MEM_STAT.lp_state ≤ 1) && !s.on (V.planeHeld 2) && !s.on CRP_PFSTAT.warn) s _ = _
    simp [hstate, State.on, hplane, hwarn]
  refine ⟨_, hexec, ?_⟩
  obtain ⟨good, rate, at', hlist⟩ := trainingEnd_lost hkeep (res.map fun r => ⟨r.1, r.2.1, r.2.2.1, r.2.2.2⟩)
  rw [does_eq, hlist]
  refine ⟨rd_run_append_lastSet hs (by decide) _ (v := 2) rfl, rd_run_append_lastSet hs (by decide) _ (v := 0) rfl,
    rd_run_append_lastSet hs (by decide) _ (v := 1) rfl, mem_run ?_ s⟩
  rw [List.all_append, channelsTrained, List.all_flatMap]
  rfl

theorem lpInitDone_zeroes (hs : s.Wf) (hstate : s.rd MEM_STAT.lp_state = 2) :
    Gives .lpInitDone s (fun t => t.rd MEM_STAT.lp_state = 3 ∧ bit (t.rd MEM_STAT.wipe) 5 = false ∧
      (∀ a, 0x10_0000_0000 ≤ a → a < 0x3A_0000_0000 → memByte t.mem a = 0) ∧
      (∀ a, a < 0x10_0000_0000 ∨ 0x3A_0000_0000 ≤ a → memByte t.mem a = memByte s.mem a)) := by
  have hexec : exec .lpInitDone s = .next (s.does lpReady) := by
    change whenever (s.rd MEM_STAT.lp_state == 2) s _ = _
    rw [hstate]
    rfl
  have hwipe : (s.does lpReady).rd MEM_STAT.wipe = clearBit (s.rd MEM_STAT.wipe) 5 % 2 ^ 6 :=
    rd_run_lastSet hs (v := clearBit (s.rd MEM_STAT.wipe) 5) (by decide) rfl
  have hmem (a : Nat) : memByte (s.does lpReady).mem a = if 0x10_0000_0000 ≤ a ∧ a < 0x3A_0000_0000 then 0 else memByte s.mem a :=
    memByte_wipe s.mem 0x10_0000_0000 0x3A_0000_0000 a
  refine ⟨_, hexec, rd_run_lastSet hs (v := 3) (by decide) rfl, ?_, fun a hlo hhi => ?_, fun a hout => ?_⟩
  · rw [hwipe, bit_mod_two_pow (by decide)]
    exact bit_clearBit_same _ 5
  · rw [hmem, if_pos ⟨hlo, hhi⟩]
  · rw [hmem, if_neg (by omega)]

/-! Tracking and polling. -/

theorem wckTracking_sets (hs : s.Wf) (hstate : s.rd MEM_STAT.lp_state = 3) (hdue : s.rd V.wckDue = 1 ∨ s.rd V.wckAt + 400000000 ≤ s.now + 1) :
    Gives .wckTracking s (fun t => t.rd V.wckDue = 0 ∧ t.rd V.wckAt = (s.now + 1) % 2 ^ 64 ∧ OnlyFields [V.wckAt, V.wckDue] s t) := by
  have hexec : exec .wckTracking s = .next (s.run [.set V.wckAt (s.now + 1), .set V.wckDue 0]) := by
    change whenever (s.rd MEM_STAT.lp_state == 3 && (s.on V.wckDue || decide (s.rd V.wckAt + 400000000 ≤ s.now + 1))) s _ = _
    have hrun : (s.on V.wckDue || decide (s.rd V.wckAt + 400000000 ≤ s.now + 1)) = true := by simpa [State.on] using hdue
    rw [hstate, hrun]
    rfl
  exact ⟨_, hexec, rd_run_lastSet hs (v := 0) (by decide) rfl, rd_run_lastSet hs (v := s.now + 1) (by decide) rfl,
    onlyFields_run_of_bus (by simp [Upd.setsOnly]) rfl⟩

/-- What a channel's poll shows and records. -/
def channelPolled (vals : List Nat) (c : Nat) : List Upd :=
  Upd.set (MEM_LPCH.mr4 c) (vals.getD c 0) :: onlyIf (vals.getD c 0 % 32 == 31) [note Ty.MEM_ERROR 0 [(24, 1, 5), (25, 1, 4), (26, 1, c), (28, 4, 1)]]

/-- A poll of another channel does not touch a channel's code. -/
theorem channelPolled_clears {vals : List Nat} {c d : Nat} (h : d ≠ c) : (channelPolled vals d).all (·.clears (MEM_LPCH.mr4 c)) = true := by
  have hset (v : Nat) : Upd.clears (MEM_LPCH.mr4 c) (.set (MEM_LPCH.mr4 d) v) = true := by
    simp only [Upd.clears, Fld.key, MEM_LPCH.mr4, bne_iff_ne]
    omega
  rw [channelPolled, List.all_cons, hset, all_onlyIf_eq]
  exact (Bool.or_eq_true _ _).mpr (.inr rfl)

/-- The code of a channel that is polled, whatever other channels are. -/
theorem rd_channelsPolled {vals l : List Nat} {c : Nat} (hs : s.Wf) (hlt : c < 48) (hc : c ∈ l) :
    (s.run (l.flatMap (channelPolled vals))).rd (MEM_LPCH.mr4 c) = vals.getD c 0 % 2 ^ (MEM_LPCH.mr4 c).width := by
  have hm : messageField (MEM_LPCH.mr4 c) = false := messageField_array (k := 0x10) (n := c) (by omega) (by decide) _ _
  induction l generalizing s with
  | nil => cases hc
  | cons d l ih =>
    rw [List.flatMap_cons, run_append]
    by_cases hl : c ∈ l
    · exact ih (run_wf _ hs) hl
    · obtain rfl : c = d := (List.mem_cons.mp hc).resolve_right hl
      have hrest : (l.flatMap (channelPolled vals)).all (·.clears (MEM_LPCH.mr4 c)) = true := by
        rw [List.all_flatMap, List.all_eq_true]
        exact fun d hd => channelPolled_clears fun e => hl (e ▸ hd)
      refine (rd_run_clear hm hrest).trans (rd_run_sets hs hm [] _ ?_)
      rw [all_onlyIf_eq]
      exact (Bool.or_eq_true _ _).mpr (.inr rfl)

theorem mr4Poll_shows (hs : s.Wf) (vals : List Nat) {c : Nat} (hstate : s.rd MEM_STAT.lp_state = 3) (hgood : s.goodChannels.contains c = true) :
    Gives (.mr4Poll vals) s (fun t => t.rd (MEM_LPCH.mr4 c) = vals.getD c 0 % 2 ^ (MEM_LPCH.mr4 c).width ∧ t.mem = s.mem) := by
  have hexec : exec (.mr4Poll vals) s = .next (s.does (mr4Poll vals)) := by
    change whenever (s.rd MEM_STAT.lp_state == 3) s _ = _
    rw [hstate]
    rfl
  have hmem := List.contains_iff_mem.mp hgood
  have hlt := lt_of_mem_goodChannels hmem
  have hm : messageField (MEM_LPCH.mr4 c) = false := messageField_array (k := 0x10) (n := c) (by omega) (by decide) _ _
  refine ⟨_, hexec, ?_, ?_⟩
  · rw [does_eq, mr4Poll, run_append]
    refine (rd_run_clear hm ?_).trans (rd_channelsPolled hs hlt hmem)
    have hdue : Upd.clears (MEM_LPCH.mr4 c) (.set V.wckDue 1) = true := by
      have hkey : V.wckDue.key = V.wckDue.addr * 64 := rfl
      have haddr : 0x120_0000 ≤ V.wckDue.addr := by decide
      simp only [Upd.clears, Fld.key, MEM_LPCH.mr4, bne_iff_ne]
      omega
    simp [hdue]
  · refine mem_run ?_ s
    simp [mr4Poll, note, Upd.noStore]

/-! The patrol. -/

theorem patrol_moves (hs : s.Wf) (n : Nat) (hstate : s.rd MEM_STAT.lp_state = 3) (hen : s.rd MEM_LPCFG.scrub_en = 1) :
    Gives (.lpddr5xPatrolScrub n) s (fun t => t.mem = s.mem ∧
      (s.rd MEM_LPTOP.top ≤ max 0x10_0000_0000 (s.rd MEM_LPSCRUB.pos) + n →
        t.rd (MEM_RSCRUB.passes 5) = (s.rd (MEM_RSCRUB.passes 5) + 1) % 2 ^ 32 ∧ t.rd MEM_LPSCRUB.pos = 0x10_0000_0000 % 2 ^ MEM_LPSCRUB.pos.width) ∧
      (max 0x10_0000_0000 (s.rd MEM_LPSCRUB.pos) + n < s.rd MEM_LPTOP.top →
        t.rd MEM_LPSCRUB.pos = (max 0x10_0000_0000 (s.rd MEM_LPSCRUB.pos) + n) % 2 ^ MEM_LPSCRUB.pos.width)) := by
  have hexec : exec (.lpddr5xPatrolScrub n) s = .next (lpPatrol n s) := by
    change whenever (s.on MEM_LPCFG.scrub_en && s.rd MEM_STAT.lp_state == 3) s _ = _
    rw [State.on, hen, hstate]
    rfl
  refine ⟨_, hexec, ?_⟩
  unfold lpPatrol
  extract_lets base pos stop
  have hpos : pos = max 0x10_0000_0000 (s.rd MEM_LPSCRUB.pos) := rfl
  rw [← hpos]
  have hu : ((checkRead pos (stop - pos) s).does (lpTraffic false pos (stop - pos))).Wf := run_wf _ ((checkRead_finds _ _ s).wf hs)
  have hmem : ((checkRead pos (stop - pos) s).does (lpTraffic false pos (stop - pos))).mem = s.mem := by
    obtain ⟨p, hp⟩ := run_counts (lpTraffic_counts false pos (stop - pos) (checkRead pos (stop - pos) s)) (checkRead pos (stop - pos) s)
    rw [does_eq, hp]
    exact mem_checkRead pos (stop - pos) s
  generalize (checkRead pos (stop - pos) s).does (lpTraffic false pos (stop - pos)) = u at hu hmem ⊢
  by_cases hend : s.rd MEM_LPTOP.top ≤ pos + n
  · rw [if_pos (show s.rd MEM_LPTOP.top ≤ stop by omega)]
    refine ⟨(mem_run rfl u).trans hmem, fun _ => ⟨rd_run_lastSet hu (v := s.rd (MEM_RSCRUB.passes 5) + 1) (by decide) rfl,
      rd_run_lastSet hu (v := base) (by decide) rfl⟩, fun h => absurd h (by omega)⟩
  · have hstop : stop = pos + n := Nat.min_eq_left (by omega)
    rw [if_neg (by omega), hstop]
    exact ⟨(mem_run rfl u).trans hmem, fun h => absurd h hend, fun _ => rd_run_lastSet hu (v := pos + n) (by decide) rfl⟩

/-! The loss of a channel. -/

theorem channelFail_fails (hs : s.Wf) {c : Nat} (hstate : s.rd MEM_STAT.lp_state = 3) (hgood : s.goodChannels.contains c = true)
    (hrun : s.rd (MEM_LPCH.state c) = 2) (hcount : s.rd MEM_LPCFG.fail_ue ≤ s.lpUeCount c) :
    Gives (.channelFail c) s (fun t => t.rd (MEM_LPCH.state c) = 3 ∧ bit (t.rd V.lpFailed) c = true ∧ Raised Ty.MEM_ERROR t ∧
      OnlyFields [MEM_LPCH.state c, V.lpFailed, MEM_EVT.chan_fail] s t) := by
  have hexec : exec (.channelFail c) s = .next (s.does (channelFails c)) := by
    change whenever (s.rd MEM_STAT.lp_state == 3 && s.goodChannels.contains c && s.rd (MEM_LPCH.state c) == 2 &&
      decide (s.rd MEM_LPCFG.fail_ue ≤ s.lpUeCount c)) s _ = _
    simp [hstate, List.contains_iff_mem.mp hgood, hrun, hcount]
  have hc := lt_of_mem_goodChannels (List.contains_iff_mem.mp hgood)
  have hm : messageField (MEM_LPCH.state c) = false := messageField_array (k := 0x10) (n := c) (by omega) (by decide) _ _
  have hlist : channelFails c s = [.set (MEM_LPCH.state c) 3, .set V.lpFailed (setBit (s.rd V.lpFailed) c), .set MEM_EVT.chan_fail 1] ++
      [note Ty.MEM_ERROR 0 [(24, 1, 5), (25, 1, 3), (26, 1, c), (28, 4, s.lpUeCount c)]] := rfl
  have hfailed : (s.does (channelFails c)).rd V.lpFailed = setBit (s.rd V.lpFailed) c % 2 ^ 48 :=
    rd_run_lastSet hs (v := setBit (s.rd V.lpFailed) c) (by decide) rfl
  refine ⟨_, hexec, ?_, ?_, ?_, ?_⟩
  · refine (rd_run_sets hs hm [] 3 ?_).trans rfl
    have hkey : (MEM_LPCH.state c).key = (0x110_0400 + 0x10 * c) * 64 + 30 := rfl
    have hother : V.lpFailed.key = V.lpFailed.addr * 64 := rfl
    have haddr : 0x120_0000 ≤ V.lpFailed.addr := by decide
    have hevent : MEM_EVT.chan_fail.key = 0x110_0004 * 64 + 5 := rfl
    simp only [List.all_cons, List.all_nil, Upd.clears, note, Bool.and_eq_true, bne_iff_ne, Bool.and_true, hkey, hother, hevent]
    omega
  · rw [hfailed, bit_mod_two_pow hc]
    exact bit_setBit_same _ c
  · rw [does_eq, hlist]
    exact raised_run_note _ _ _ _ s
  · exact onlyFields_run_of_bus (by simp [channelFails, note, Upd.setsOnly]) rfl

/-- Settles O55: each command's own updates, the poll's code of a channel by induction on the channels polled. -/
theorem externalMemoryCommandsTakeEffect : Obligations.ExternalMemoryCommandsTakeEffect :=
  ⟨fun _ res hs hstate hplane hwarn hkeep => lpTrainDone_goesOn hs res hstate hplane hwarn hkeep, fun _ hs hstate => lpInitDone_zeroes hs hstate,
    fun _ hs hstate hdue => wckTracking_sets hs hstate hdue, fun _ vals _ hs hstate hgood => mr4Poll_shows hs vals hstate hgood,
    fun _ n hs hstate hen => patrol_moves hs n hstate hen,
    fun _ _ hs hstate hgood hrun hcount => channelFail_fails hs hstate hgood hrun hcount⟩

end Sys2Proof.Machine
end

section
/-! Management and prediction resets (R546-R550), and the test pins after one (R526). -/

namespace Sys2Proof.Machine

/-! The parts of the state that no such reset touches. -/

/-- The update leaves tray time, the orders, the links, the lanes and the fabric. -/
def Upd.leavesUnits : Upd → Bool
  | .clock _ | .coldStart | .orders _ | .lane _ _ | .link _ _ | .fab _ => false
  | _ => true

/-- Besides, it leaves the staging buffer and the count of management resets. -/
def Upd.managed : Upd → Bool
  | .set f _ => f.key != CRP_RSTCNT.mgmt.key
  | .resetRegs _ _ | .flushVectors | .staging _ => false
  | u => u.leavesUnits

theorem Upd.managed.leavesUnits {u : Upd} (h : u.managed = true) : u.leavesUnits = true := by
  cases u
  case clock | coldStart | orders | lane | link | fab => cases h
  all_goals rfl

theorem Upd.managed.keeps {u : Upd} (h : u.managed = true) : u.keeps CRP_RSTCNT.mgmt := by
  cases u
  case set f v => exact fun e => (bne_iff_ne.mp h) e.symm
  case resetRegs | flushVectors => cases h
  all_goals trivial

theorem units_run {us : List Upd} (h : us.all Upd.leavesUnits = true) (s : State) :
    (s.run us).now = s.now ∧ (s.run us).orders = s.orders ∧ (s.run us).links = s.links ∧ (s.run us).lanes = s.lanes ∧ (s.run us).fab = s.fab := by
  have hall (u : Upd) (hmem : u ∈ us) (t : State) : (fun t : State => (t.now, t.orders, t.links, t.lanes, t.fab)) (t.apply u) =
      (t.now, t.orders, t.links, t.lanes, t.fab) := by
    have hleaves := List.all_eq_true.mp h u hmem
    cases u
    case clock | coldStart | orders | lane | link | fab => cases hleaves
    case flushVectors => rw [apply_flush]
    all_goals rfl
  simpa using run_leaves (π := fun t : State => (t.now, t.orders, t.links, t.lanes, t.fab)) hall s

theorem Passing.units_kept {s t : State} (h : Passing Upd.leavesUnits s t) :
    t.now = s.now ∧ t.orders = s.orders ∧ t.links = s.links ∧ t.lanes = s.lanes ∧ t.fab = s.fab := by
  obtain ⟨us, hu, rfl⟩ := h
  exact units_run (List.all_eq_true.mpr hu) s

/-- The update leaves the staging buffer. -/
def Upd.leavesStaging : Upd → Bool
  | .staging _ | .coldStart => false
  | _ => true

theorem staging_run {us : List Upd} (h : us.all Upd.leavesStaging = true) (s : State) : (s.run us).staging = s.staging := by
  refine run_leaves (π := State.staging) (fun u hu t => ?_) s
  have hleaves := List.all_eq_true.mp h u hu
  cases u
  case staging | coldStart => cases hleaves
  case flushVectors => rw [apply_flush]
  all_goals rfl

theorem Upd.managed.leavesStaging {u : Upd} (h : u.managed = true) : u.leavesStaging = true := by
  cases u
  case staging | coldStart => cases h
  all_goals rfl

theorem Upd.managed_of_boots {u : Upd} (h : u.boots = true) : u.managed = true := by
  cases u
  case set f v =>
    refine bne_iff_ne.mpr fun e => ?_
    rw [Upd.boots, e] at h
    exact absurd h (by decide)
  case store | wipe | emit | gq => rfl
  all_goals cases h

theorem Upd.managed_of_mends {u : Upd} (h : u.mends = true) : u.managed = true := by
  cases u
  case set f v =>
    simp only [Upd.mends, Bool.or_eq_true, beq_iff_eq] at h
    refine bne_iff_ne.mpr ?_
    obtain h | h := h <;> rw [h] <;> decide
  case memu | emit => rfl
  all_goals cases h

theorem Upd.managed_of_finds {u : Upd} (h : u.finds = true) : u.managed = true := by
  cases u
  case set f v =>
    refine bne_iff_ne.mpr fun e => ?_
    rw [Upd.finds, e] at h
    exact absurd h (by decide)
  case memu | emit => rfl
  all_goals cases h

theorem Upd.managed_of_counts {u : Upd} (h : u.counts) : u.managed = true := by
  cases u
  case tally | carry => rfl
  all_goals exact h.elim

section
variable {s₀ s : State}

/-! Custody stops. -/

theorem retireDeferred_boots (h : Passing Upd.boots s₀ s) : Passing Upd.boots s₀ (retireDeferred s) := by
  have hbound : s.rd V.retireLater - 1 < 256 := by
    have := rd_lt s V.retireLater
    simp only [V.retireLater, ivar] at this ⊢
    omega
  exact h.ite (h.ite ((h.run rfl).trans (moveItem_selects _ (.inr hbound) (Via.refl _)).boots))

theorem custodyCode_managed {n : Nat} (hn : n < 8) (op code region core bytes : Nat) (s : State) :
    (custodyCode n op code region core bytes s).all Upd.managed = true := by
  simp [custodyCode, note, Upd.managed, Upd.leavesUnits, Fld.key, ACU_CMDSTAT.op, ACU_CMDSTAT.code, ACU_CMDSTAT.region, ACU_EVT.custody, CRP_RSTCNT.mgmt]
  omega

theorem custodyStop_managed {n : Nat} (hn : n < 8) (h : Passing Upd.managed s₀ s) : Passing Upd.managed s₀ (custodyStop n false s) := by
  have hfields (v : Nat) : [Upd.set (ACU_CMDSTAT.busy n) 0, .set (V.cusAuto n) 0, .set (ACU_PROG.bytes n) v].all Upd.managed = true := by
    simp [Upd.managed, Fld.key, ACU_CMDSTAT.busy, ACU_PROG.bytes, V.cusAuto, ivar, CRP_RSTCNT.mgmt]
    omega
  unfold custodyStop
  extract_lets u bytes t
  have hu : Passing Upd.managed s₀ u := Passing.ite (h.trans ((reflashPart_boots (Via.refl s)).mono fun _ => Upd.managed_of_boots)) h
  have hended := Passing.does (Passing.run hu (hfields bytes)) (custodyCode_managed hn (s.rd (V.cusOp n)) 12 0 (s.rd (V.cusCore n)) bytes)
  have ht : Passing Upd.managed s₀ t := Passing.ite (hended.trans ((retireDeferred_boots (Via.refl _)).mono fun _ => Upd.managed_of_boots)) h
  rwa [if_neg Bool.false_ne_true]

theorem custodyMgmtReset_managed (h : Passing Upd.managed s₀ s) : Passing Upd.managed s₀ (custodyMgmtReset s) := by
  refine Passing.foldl_mem h fun n hn t ht => ?_
  have hlt := List.mem_range.mp hn
  have habandoned : Upd.managed (.set (V.abandoned n) 1) = true := by
    simp [Upd.managed, Fld.key, V.abandoned, ivar, CRP_RSTCNT.mgmt]
    omega
  have howed : Upd.managed (.set (V.cusOwed n) 1) = true := by
    simp [Upd.managed, Fld.key, V.cusOwed, ivar, CRP_RSTCNT.mgmt]
    omega
  exact Passing.run (Passing.run (custodyStop_managed hlt ht) (by simp [habandoned])) (by simp [howed])

/-! The engines stop (R464). -/

theorem lpTraffic_managed (isWrite : Bool) (a n : Nat) (s : State) : (lpTraffic isWrite a n s).all Upd.managed = true :=
  List.all_eq_true.mpr fun u hu => Upd.managed_of_counts (lpTraffic_counts isWrite a n s u hu)

theorem storeLive_managed (a : Nat) (bs : List Nat) (s : State) : (storeLive a bs s).all Upd.managed = true := by
  have hstore (x : Nat) (l : List Nat) : Upd.managed (.store x l) = true := rfl
  unfold storeLive
  extract_lets parts
  split
  · rfl
  · simp [hstore]

theorem dmaEnd_managed {e : Nat} (he : e < 16) (st err bytes : Nat) : (dmaEnd e st err bytes).all Upd.managed = true := by
  simp [dmaEnd, Upd.managed, Fld.key, HIF_DMASTAT.state, HIF_DMASTAT.err, HIF_DMADONE.bytes, CRP_RSTCNT.mgmt]
  omega

theorem dmaDone_managed {e : Nat} (he : e < 16) (err n : Nat) (h : Passing Upd.managed s₀ s) : Passing Upd.managed s₀ (dmaDone e err n s) := by
  have hdiscarded (reason : Nat) (isRead : Bool) (a : Nat) : (dmaDiscarded reason isRead a).all Upd.managed = true := by
    have hrecord : Upd.managed (discardMem Req.dma reason isRead 0 0 a) = true := rfl
    simp [dmaDiscarded, hrecord]
  have hcarry (p n : Nat) (w : Bool) : Upd.managed (.carry p w n) = true := rfl
  have hstore (x : Nat) (l : List Nat) : Upd.managed (.store x l) = true := rfl
  unfold dmaDone
  extract_lets len src dst why why' bad m t
  split
  · refine Passing.run (Passing.run h ?_) (dmaEnd_managed he _ _ _)
    simp [List.all_append, -List.all_eq_true, hdiscarded, storeLive_managed, lpTraffic_managed, hcarry]
  · have ht : Passing Upd.managed s₀ t := Passing.ite (h.trans ((checkRead_finds _ _ s).mono fun _ => Upd.managed_of_finds)) h
    have hend : ∀ c : Bool, (if c then dmaEnd e 3 5 m else dmaEnd e (if err = 0 then 2 else 3) err len).all Upd.managed = true := by
      intro c
      cases c <;> exact dmaEnd_managed he _ _ _
    refine Passing.run (Passing.run ht ?_) (hend _)
    simp [List.all_append, -List.all_eq_true, hdiscarded, lpTraffic_managed, hcarry, hstore]

theorem stopEngines_managed (first : Nat) (h : Passing Upd.managed s₀ s) : Passing Upd.managed s₀ (stopEngines first s) := by
  refine Passing.foldl_mem h fun e he t ht => ?_
  have hlt : e < 16 := by
    have := List.mem_range'_1.mp he
    omega
  exact (dmaDone_managed hlt _ _ ht).ite ht

end

/-! Management resets. -/

/-- What a management reset shows of itself. -/
def mgmtMarks (cause bad : Nat) (w : State) : List Upd :=
  [.set CRP_CAUSE.mgmt cause, .set CRP_RSTCNT.mgmt (w.rd CRP_RSTCNT.mgmt + 1), .set CRP_EVT.mreset 1, .set CRP_WDOGCFG.en 0,
    .set CRP_RSTCTL.mgmt 0, .set CRP_RSTCTL.key_ 0, .set V.heldBad bad]

theorem mgmtReset_eq (cause bad : Nat) (s : State) :
    ∃ w, Passing Upd.managed s w ∧ mgmtReset cause bad s = ((w.does mgmtRegs).run (mgmtMarks cause bad w)).does (holdPlane 3 40000) := by
  unfold mgmtReset
  extract_lets t u writer v w
  refine ⟨w, ?_, by rw [mgmtMarks]⟩
  have ht : Passing Upd.managed s t := Passing.ite (Passing.does (Via.refl s) fun _ => rfl) (Via.refl s)
  have hv : Passing Upd.managed s v := Passing.run (stopEngines_managed 3 (custodyMgmtReset_managed ht)) rfl
  exact Passing.foldl hv fun e h => Passing.does h fun y => List.all_eq_true.mpr fun u hu => Upd.managed_of_mends (List.all_eq_true.mp (repairEnd_mends 1 e.1 y) u hu)

theorem mgmtReset_units (cause bad : Nat) (s : State) :
    ((mgmtReset cause bad s).now = s.now ∧ (mgmtReset cause bad s).orders = s.orders ∧ (mgmtReset cause bad s).links = s.links ∧
      (mgmtReset cause bad s).lanes = s.lanes ∧ (mgmtReset cause bad s).fab = s.fab) ∧ (mgmtReset cause bad s).staging = s.staging := by
  obtain ⟨w, hw, heq⟩ := mgmtReset_eq cause bad s
  rw [heq]
  constructor
  · exact Passing.units_kept (Passing.does (Passing.run (Passing.does (hw.mono fun _ => Upd.managed.leavesUnits) fun _ => rfl) rfl) fun _ => rfl)
  · obtain ⟨us, hu, hend⟩ := Passing.does (Passing.run (Passing.does (hw.mono fun _ => Upd.managed.leavesStaging) (fun _ => rfl : ∀ t, (mgmtRegs t).all Upd.leavesStaging = true))
      (rfl : (mgmtMarks cause bad w).all Upd.leavesStaging = true)) (fun _ => rfl : ∀ t, (holdPlane 3 40000 t).all Upd.leavesStaging = true)
    rw [hend]
    exact staging_run (List.all_eq_true.mpr hu) s

/-- A field that the marks set, and the hold of the plane does not touch. -/
theorem mgmtReset_shows {s : State} (hs : s.Wf) {cause : Nat} (bad : Nat) (hcause : cause < 256) :
    (mgmtReset cause bad s).rd CRP_CAUSE.mgmt = cause ∧ (mgmtReset cause bad s).rd CRP_RSTCNT.mgmt = (s.rd CRP_RSTCNT.mgmt + 1) % 2 ^ 16 ∧
      (mgmtReset cause bad s).rd CRP_EVT.mreset = 1 ∧ (mgmtReset cause bad s).rd CRP_WDOGCFG.en = 0 := by
  obtain ⟨w, hw, heq⟩ := mgmtReset_eq cause bad s
  have hwf : (w.does mgmtRegs).Wf := run_wf _ (hw.wf hs)
  rw [heq]
  have hmark {g : Fld} {v : Nat} (hm : messageField g = false) (hlast : lastSet g (mgmtMarks cause bad w) = some v)
      (hclear : ∀ y, (holdPlane 3 40000 y).all (·.clears g) = true) :
      (((w.does mgmtRegs).run (mgmtMarks cause bad w)).does (holdPlane 3 40000)).rd g = v % 2 ^ g.width :=
    (rd_run_clear hm (hclear _)).trans (rd_run_lastSet hwf hm hlast)
  refine ⟨?_, ?_, (hmark (g := CRP_EVT.mreset) (v := 1) (by decide) rfl fun _ => rfl).trans rfl,
    (hmark (g := CRP_WDOGCFG.en) (v := 0) (by decide) rfl fun _ => rfl).trans rfl⟩
  · exact (hmark (g := CRP_CAUSE.mgmt) (v := cause) (by decide) rfl fun _ => rfl).trans (Nat.mod_eq_of_lt hcause)
  · rw [hmark (g := CRP_RSTCNT.mgmt) (v := w.rd CRP_RSTCNT.mgmt + 1) (by decide) rfl fun _ => rfl,
      Via.rd (hw.mono fun _ => Upd.managed.keeps) (by decide)]
    rfl

/-- What a management reset does after the multiplexers are back at reset. -/
def afterPins (cause bad : Nat) (s : State) : List Upd :=
  [.resetRegs 0x1_0120_0000 0x1_0130_0000, .set V.pmcOff 0, .set V.snapOwed 0, .set V.bwFrom ((s.now / 4000000 + 1) * 4000000), .set V.tokHeld 0,
    .set V.tokPath 0, .set V.msixNew 0, .pmu { evts := [], seqSeen := s.firn.clsSeq, lostSeen := s.firn.lostEver, bw := [] }] ++
  (mgmtMarks cause bad s ++ [.set (V.planeHeld 3) 1])

theorem mgmtRegs_pins (cause bad : Nat) (s : State) : ∃ pre, mgmtRegs s ++ (mgmtMarks cause bad s ++ [.set (V.planeHeld 3) 1]) =
    pre ++ .resetRegs 0x128_0004 0x130_0000 :: afterPins cause bad s :=
  ⟨.resetRegs 0 0x10_0000 :: .resetRegs 0xC0_0000 0xC0_0008 :: ((List.range 8).flatMap mgmtCustody ++ mgmtKeeper s ++ mgmtHost ++
    [.resetRegs 0x120_0000 0x128_0000, .set TAM_STAT.busy 0, .set TAM_STAT.refused 0, .set TAM_STAT.code 0]),
    by simp only [mgmtRegs, mgmtTest, afterPins, List.append_assoc, List.cons_append, List.nil_append]⟩

/-- A field above TAM's is not one of TAM's. -/
def Upd.above : Upd → Bool
  | .set f _ => decide (0x130_0000 * 64 ≤ f.key)
  | .resetRegs lo _ => decide (0x130_0000 ≤ lo)
  | .flushVectors => false
  | _ => true

theorem Upd.above.clears {u : Upd} (h : u.above = true) {g : Fld} (hg : g.key < 0x130_0000 * 64) : u.clears g = true := by
  cases u
  case set f v =>
    have hf := of_decide_eq_true h
    exact bne_iff_ne.mpr (by omega)
  case resetRegs lo hi =>
    have hlo := of_decide_eq_true h
    simp only [Upd.clears, Bool.or_eq_true, decide_eq_true_eq]
    omega
  case flushVectors => cases h
  all_goals rfl

/-- The multiplexers are at reset after a management reset. -/
theorem mgmtReset_pins (cause bad : Nat) (s : State) {g : Fld} (hm : messageField g = false) (hlo : 0x128_0004 * 64 ≤ g.key)
    (hhi : g.key < 0x130_0000 * 64) : (mgmtReset cause bad s).rd g = g.reset % 2 ^ g.width := by
  obtain ⟨w, -, heq⟩ := mgmtReset_eq cause bad s
  have hclear {us : List Upd} (h : us.all Upd.above = true) : us.all (·.clears g) = true :=
    List.all_eq_true.mpr fun u hu => Upd.above.clears (List.all_eq_true.mp h u hu) hhi
  obtain ⟨pre, hsplit⟩ := mgmtRegs_pins cause bad w
  have hrun : mgmtReset cause bad s = ((w.run pre).apply (.resetRegs 0x128_0004 0x130_0000)).run
      (afterPins cause bad w ++ [.set (V.heldUntil 3) (((w.does mgmtRegs).run (mgmtMarks cause bad w)).now + 40000 + 1)]) := by
    have hall := congrArg w.run hsplit
    rw [run_append, run_append, run_append] at hall
    rw [heq, run_append, ← run_cons, ← hall]
    simp only [does_eq, holdPlane, run_cons, run_nil]
  rw [hrun, rd_run_clear hm (hclear rfl)]
  exact rd_reset_in _ _ _ hlo hhi

/-! Prediction resets. -/

/-- The update is of a register of PRD, or of a slot. -/
def Upd.models : Upd → Bool
  | .set f _ => decide (0x50_0000 * 64 ≤ f.key) && decide (f.key < 0x60_0000 * 64)
  | .prd _ _ => true
  | _ => false

theorem Upd.models_set {a lsb : Nat} (hlo : 0x50_0000 ≤ a) (hhi : a < 0x60_0000) (hl : lsb < 64) (w r v : Nat) :
    Upd.models (.set ⟨a, lsb, w, r⟩ v) = true := by
  have hkey : Fld.key ⟨a, lsb, w, r⟩ = a * 64 + lsb := rfl
  simp only [Upd.models, hkey, Bool.and_eq_true, decide_eq_true_eq]
  omega

theorem Upd.models.clears {u : Upd} (h : u.models = true) {g : Fld} (hg : 0x60_0000 * 64 ≤ g.key) : u.clears g = true := by
  cases u
  case set f v =>
    simp only [Upd.models, Bool.and_eq_true, decide_eq_true_eq] at h
    exact bne_iff_ne.mpr (by omega)
  case prd => rfl
  all_goals cases h

theorem Upd.models.leavesUnits {u : Upd} (h : u.models = true) : u.leavesUnits = true := by
  cases u
  case set | prd => rfl
  all_goals cases h

theorem beyondHorizon_models {n : Nat} (hn : n < 8) (H : Nat) : (beyondHorizon n H).all Upd.models = true := by
  rw [beyondHorizon, List.all_flatMap, List.all_eq_true]
  intro h hh
  have hlt : h < H + (200 - H) := (List.mem_range'_1.mp hh).2
  by_cases hH : H < 200
  · simp (disch := omega) [PRD_FCVEC.hi, PRD_FCVEC.mid, Upd.models_set]
  · simp [show 200 - H = 0 by omega] at hh

theorem modelCommit_models {n : Nat} (hn : n < 8) (old : Nat → Option (Nat × Nat)) (s : State) : (modelCommit old n s).all Upd.models = true := by
  have hcycles (v : Nat) : Upd.models (.set (tuCycles n) v) = true := by
    unfold tuCycles
    split
    · exact Upd.models_set (by omega) (by omega) (by decide) _ _ _
    · exact Upd.models_set (by omega) (by omega) (by decide) _ _ _
  have hslot (p : PrdSlot) : Upd.models (.prd n p) = true := rfl
  unfold modelCommit
  extract_lets p neutral
  have hneutral : neutral.all Upd.models = true := by
    simp (disch := omega) [neutral, PRD_OUT.f_fc, PRD_OUT.ramp_fc, PRD_OUT.g_fc, Upd.models_set]
  split
  · extract_lets keep
    simp (disch := omega) [-List.all_eq_true, List.all_append, hneutral, hcycles, hslot, beyondHorizon_models hn, PRD_SSTAT.model, PRD_SCFG.h, PRD_SCFG.decim,
      PRD_MACS.macs, PRD_WBYTES.bytes, PRD_SSTAT.idx, PRD_SCFG.j, PRD_SSTAT.steps, Upd.models_set]
  · simp (disch := omega) [-List.all_eq_true, List.all_append, hneutral, hcycles, hslot, beyondHorizon_models hn, PRD_SSTAT.model, PRD_SCFG.h, PRD_SCFG.decim,
      PRD_MACS.macs, PRD_WBYTES.bytes, PRD_SSTAT.idx, PRD_SCFG.j, PRD_SSTAT.steps, Upd.models_set]

/-- What a prediction reset does once PRD's staged writes are gone, but for the models of the committed image. -/
def predMarks (s : State) : List Upd :=
  [.set CRP_CAUSE.pred 0x40, .set CRP_RSTCTL.pred 0, .set CRP_RSTCTL.key_ 0, .resetRegs 0x50_0000 0x60_0000, .resetRegs 0x1_00D0_0000 0x1_00D1_0000,
    .wipe 0x4000_0000 0xC000_0000, .set MEM_STAT.wipe (setBit (s.rd MEM_STAT.wipe) 1)] ++ (List.range 8).map (fun n => .prd n {})

theorem cancelPrd_leavesUnits (s : State) : Passing Upd.leavesUnits s (cancelPrd s) := by
  unfold cancelPrd
  extract_lets gone t
  have ht : Passing Upd.leavesUnits s t := Passing.foldl (Via.refl s) fun e h => Passing.does h fun y => by
    unfold cancelStage
    extract_lets against
    split <;> rfl
  exact Passing.run ht rfl

/-- The records of a prediction reset: of its slots' states, and of itself. -/
def predRecords (s : State) : List Upd :=
  (List.range 8).flatMap (fun n => onlyIf (s.rd (PRD_SSTAT.state n) != PrdS.off) [prdStateRec n PrdS.off 5 s]) ++
    [crpNote Ty.RESET [(24, 1, 2), (25, 1, 0x40), (28, 4, s.rd V.predResets + 1)]]

theorem predRecords_leavesUnits (s : State) : (predRecords s).all Upd.leavesUnits = true := by
  have hrecord (n : Nat) : Upd.leavesUnits (prdStateRec n PrdS.off 5 s) = true := rfl
  have hreset (pay : List (Nat × Nat × Nat)) : Upd.leavesUnits (crpNote Ty.RESET pay) = true := rfl
  simp [predRecords, hrecord, hreset]

/-- PRD after a prediction reset, before the models of the committed image stand again. -/
def State.predMarked (s : State) : State := (cancelPrd s).run (predRecords s ++ bump s V.predResets :: predMarks s)

theorem predReset_eq (s : State) : ∃ t, Passing Upd.models s.predMarked t ∧ predReset s = t.does (holdPlane 1 (4000 - s.now % 4000)) := by
  refine ⟨(s.predMarked.doEach (List.range 8) (modelCommit fun _ => none)).does prdStat, ?_, ?_⟩
  · exact Passing.does (Via.doEach (Via.refl _) fun t n hn => List.all_eq_true.mp (modelCommit_models (List.mem_range.mp hn) _ t)) fun _ => rfl
  · simp only [predReset, State.predMarked, predRecords, predMarks, List.append_assoc, List.cons_append, List.nil_append]

theorem predictionReset_resets {s : State} (hs : s.Wf) (hask : s.rd CRP_RSTCTL.pred = 1) (hplane : s.rd (V.planeHeld 1) = 0) :
    Gives .predictionReset s (fun t => t.rd CRP_CAUSE.pred = 0x40 ∧ t.rd V.predResets = (s.rd V.predResets + 1) % 2 ^ 32 ∧
      bit (t.rd MEM_STAT.wipe) 1 = true ∧ t.now = s.now ∧ t.orders = s.orders ∧ t.fab = s.fab) := by
  obtain ⟨t, hmodels, heq⟩ := predReset_eq s
  have hcancel := cancelPrd_leavesUnits s
  have hkept {g : Fld} {v : Nat} (hm : messageField g = false) (hg : 0x60_0000 * 64 ≤ g.key) (hhold : ∀ y, (holdPlane 1 (4000 - s.now % 4000) y).all (·.clears g) = true)
      (hlast : lastSet g (bump s V.predResets :: predMarks s) = some v) : (predReset s).rd g = v % 2 ^ g.width := by
    rw [heq, does_eq, rd_run_clear hm (hhold t), Passing.rd_clears (hmodels.mono fun _ hu => Upd.models.clears hu hg) hm]
    exact rd_run_append_lastSet (hcancel.wf hs) hm _ hlast
  have hunits : Passing Upd.leavesUnits s (predReset s) := by
    rw [heq]
    have hmarks : (predRecords s ++ bump s V.predResets :: predMarks s).all Upd.leavesUnits = true := by
      rw [List.all_append, predRecords_leavesUnits]
      rfl
    exact Passing.does ((Passing.run hcancel hmarks).trans (hmodels.mono fun _ => Upd.models.leavesUnits)) fun _ => rfl
  obtain ⟨hnow, horders, -, -, hfab⟩ := Passing.units_kept hunits
  refine ⟨_, whenever_of (by simp [State.on, hask, hplane]) _ _, hkept (v := 0x40) (by decide) (by decide) (fun _ => rfl) rfl,
    hkept (v := s.rd V.predResets + 1) (by decide) (by decide) (fun _ => rfl) rfl, ?_, hnow, horders, hfab⟩
  rw [hkept (v := setBit (s.rd MEM_STAT.wipe) 1) (by decide) (by decide) (fun _ => rfl) rfl]
  exact (bit_mod_two_pow (by decide)).trans (bit_setBit_same _ 1)

/-! The commands. -/

theorem exec_managementReset {s : State} {halted : Bool} (bad : Nat) (hask : halted = true ∨ s.rd CRP_RSTCTL.mgmt = 1) (hplane : s.rd (V.planeHeld 3) = 0) :
    exec (.managementReset halted bad) s = .next (mgmtReset (if halted then 0x23 else 0x20) bad s) := by
  have hordered : (halted || s.on CRP_RSTCTL.mgmt) = true := by simpa [State.on] using hask
  exact whenever_of (by rw [hordered]; simp [State.on, hplane]) _ _

theorem exec_wdogExpire {s : State} (bad : Nat) (hen : s.rd CRP_WDOGCFG.en = 1) (hdue : s.rd V.wdogAt + s.rd CRP_WDOGCFG.period * 4000000 ≤ s.now) :
    exec (.wdogExpire bad) s = .next (mgmtReset 0x21 bad s) :=
  whenever_of (by simp [State.on, hen, hdue]) _ _

/-- Settles O59: a management reset is a part that spares its count and the units, the registers' reset, and its marks; a prediction reset
resets PRD between its marks. -/
theorem otherResetCommandsTakeEffect : Obligations.OtherResetCommandsTakeEffect := by
  unfold Obligations.OtherResetCommandsTakeEffect
  refine ⟨?_, ?_, fun _ hs hask hplane => predictionReset_resets hs hask hplane, ?_⟩
  · intro s halted bad hs hask hplane
    have hcause : (if halted then 0x23 else 0x20) < 256 := by cases halted <;> decide
    obtain ⟨hshown, hcount, hevent, -⟩ := mgmtReset_shows hs bad hcause
    obtain ⟨⟨hnow, horders, hlinks, hlanes, hfab⟩, hstaging⟩ := mgmtReset_units (if halted then 0x23 else 0x20) bad s
    exact ⟨_, exec_managementReset bad hask hplane, hshown, hcount, hevent, hnow, horders, hlinks, hlanes, hfab, hstaging⟩
  · intro s bad hs hen hdue
    obtain ⟨hshown, hcount, -, hoff⟩ := mgmtReset_shows hs bad (by decide : 0x21 < 256)
    obtain ⟨⟨hnow, horders, -, -, -⟩, -⟩ := mgmtReset_units 0x21 bad s
    exact ⟨_, exec_wdogExpire bad hen hdue, hshown, hcount, hoff, hnow, horders⟩
  · intro s req value hs hreach hvalue
    refine ⟨_, gated_of_reaches hreach _, ?_, OnlyFields.traffic ?_ _ _ _⟩
    · rw [if_pos hvalue, rd_run_hostTraffic]
      exact rd_run_sets hs (by decide) [] s.now rfl
    · rw [if_pos hvalue]
      exact onlyFields_run_of_bus (by simp [Upd.setsOnly]) rfl

/-- Settles O11: a refused write runs testRefuse alone, and a management reset resets the multiplexers and touches them no more. -/
theorem refusedTestSource : Obligations.RefusedTestSource := by
  unfold Obligations.RefusedTestSource
  have hpins (cause bad : Nat) (s : State) {k a : Nat} (hk : k < 8) (ha : a < 2) :
      (mgmtReset cause bad s).rd (TAM_DSEL.en k) = 0 ∧ (mgmtReset cause bad s).rd (TAM_ASEL.en a) = 0 := by
    have hdigital : (TAM_DSEL.en k).key = (0x128_0020 + 4 * k) * 64 + 31 := rfl
    have hanalog : (TAM_ASEL.en a).key = (0x128_0040 + 4 * a) * 64 + 31 := rfl
    exact ⟨mgmtReset_pins cause bad s (messageField_array (by omega) (by decide) _ _) (by omega) (by omega),
      mgmtReset_pins cause bad s (messageField_array (by omega) (by decide) _ _) (by omega) (by omega)⟩
  refine ⟨?_, fun s halted bad k a _ hask hplane hk ha => ⟨_, exec_managementReset bad hask hplane, hpins _ bad s hk ha⟩,
    fun s bad k a _ hen hdue hk ha => ⟨_, exec_wdogExpire bad hen hdue, hpins 0x21 bad s hk ha⟩⟩
  intro s req k value hs hk hreach hen hrefused
  have hrun : muxSelect k value s = s.run (testRefuse (s.sourceRefused (if k < 8 then dtestClass (bits value 12 4) (bits value 0 12) else atestClass (bits value 0 8)))
      k 0 value) := by
    simp only [muxSelect, hen, if_true]
    exact if_pos hrefused
  refine ⟨_, exec_testMuxSelect hk hreach, ?_, ?_, OnlyFields.traffic ?_ _ _ _⟩
  · rw [rd_run_hostTraffic, hrun]
    exact rd_run_lastSet hs (v := 1) (by decide) rfl
  · rw [Raised, hostTraffic_firn, hrun]
    exact raised_run_note [_, _] _ _ _ s
  · rw [hrun]
    exact onlyFields_run_of_bus (by simp [testRefuse, tamNote, note, Upd.setsOnly]) rfl

end Sys2Proof.Machine
end

section
/-! The custody engine's operations (R383-R389). -/

namespace Sys2Proof.Machine

variable {s : State} {n : Nat}

/-! The fields of a slot. -/

theorem messageField_slot (hn : n < 8) {o lsb : Nat} (ho : o < 0x100) (hl : lsb < 64) (w r : Nat) :
    messageField ⟨0xC0_1000 + o + 0x100 * n, lsb, w, r⟩ = false :=
  messageField_beside hl (.inl (by dsimp only; omega)) (by dsimp only; omega) (.inl (by dsimp only; omega))

theorem messageField_custody (hn : n < 8) : messageField (ACU_CMDSTAT.busy n) = false ∧ messageField (ACU_CMDSTAT.op n) = false ∧
    messageField (ACU_CMDSTAT.code n) = false ∧ messageField (ACU_SSTAT.owned n) = false ∧ messageField (ACU_SSTAT.attempts n) = false :=
  ⟨messageField_slot (o := 0x10) hn (by decide) (by decide) _ _, messageField_slot (o := 0x10) hn (by decide) (by decide) _ _,
    messageField_slot (o := 0x10) hn (by decide) (by decide) _ _, messageField_slot (o := 8) hn (by decide) (by decide) _ _,
    messageField_slot (o := 8) hn (by decide) (by decide) _ _⟩

/-- A bit that is not on reads 0. -/
theorem rd_zero_of_off {f : Fld} (hw : f.width = 1) (h : s.on f = false) : s.rd f = 0 := by
  have hlt := rd_lt s f
  rw [hw] at hlt
  have hne : s.rd f ≠ 1 := by simpa [State.on] using h
  omega

/-! An operation starts. -/

/-- What an operation that starts leaves in its fields, beside the taking of the flash. -/
def custodyRuns (n op keep skip core : Nat) : List Upd :=
  [.set (ACU_CMDSTAT.busy n) 1, .set (ACU_CMDSTAT.op n) op, .set (ACU_PROG.bytes n) 0, .set (V.cusOp n) op, .set (V.cusKeep n) keep, .set (V.cusSkip n) skip,
    .set (V.cusCore n) core] ++ onlyIf (op == CusOp.reflash) [.set (V.matched n) 0]

theorem custodyBegin_starts (hs : s.Wf) (hn : n < 8) (op keep skip core : Nat) :
    (s.does (custodyBegin n op keep skip core)).rd (ACU_CMDSTAT.busy n) = 1 ∧
      (s.does (custodyBegin n op keep skip core)).rd (ACU_CMDSTAT.op n) = op % 2 ^ 8 ∧
      (s.does (custodyBegin n op keep skip core)).rd (ACU_SSTAT.owned n) = 1 := by
  obtain ⟨hbusy, hop, -, howned, -⟩ := messageField_custody hn
  have hlist : custodyBegin n op keep skip core s =
      onlyIf (!s.on (ACU_SSTAT.owned n)) [.set (ACU_SSTAT.owned n) 1, .set (V.flashKnown n) 0] ++ custodyRuns n op keep skip core := by
    simp only [custodyBegin, custodyRuns, List.append_assoc]
  rw [does_eq, hlist, run_append]
  have hwf : (s.run (onlyIf (!s.on (ACU_SSTAT.owned n)) [.set (ACU_SSTAT.owned n) 1, .set (V.flashKnown n) 0])).Wf := run_wf _ hs
  refine ⟨(rd_run_sets hwf hbusy [] 1 ?_).trans rfl, rd_run_sets hwf hop [_] op ?_, (rd_run_clear howned ?_).trans ?_⟩
  · simp [Upd.clears, Fld.key, ACU_CMDSTAT.busy, ACU_CMDSTAT.op, ACU_PROG.bytes, V.cusOp, V.cusKeep, V.cusSkip, V.cusCore, V.matched, ivar]
    omega
  · simp [Upd.clears, Fld.key, ACU_CMDSTAT.op, ACU_PROG.bytes, V.cusOp, V.cusKeep, V.cusSkip, V.cusCore, V.matched, ivar]
    omega
  · simp [custodyRuns, Upd.clears, Fld.key, ACU_SSTAT.owned, ACU_CMDSTAT.busy, ACU_CMDSTAT.op, ACU_PROG.bytes, V.cusOp, V.cusKeep, V.cusSkip, V.cusCore, V.matched, ivar]
    omega
  · cases hfree : s.on (ACU_SSTAT.owned n) with
    | true => exact beq_iff_eq.mp hfree
    | false =>
      refine (rd_run_sets hs howned [] 1 ?_).trans rfl
      simp [Upd.clears, Fld.key, ACU_SSTAT.owned, V.flashKnown, ivar]
      omega

/-- A command whose operation starts. -/
theorem custodyCommand_starts {req op keep skip : Nat} (hn : n < 8)
    (hreach : s.Reaches req (0xC0_100C + 0x100 * n) 4 (op + keep % 2 * 128 + skip % 2 * 256) false) (hok : s.custodyRefusal n op = 0)
    (hop : op = CusOp.readId ∨ op = CusOp.verify ∨ op = CusOp.check ∨ op = CusOp.reflash) :
    custodyCommand req n op keep skip s =
      .next ((s.does (custodyBegin n op (keep % 2) (skip % 2) req)).run (hostTraffic req true 4)) := by
  have hother : op ≠ CusOp.release ∧ op ≠ CusOp.clear := by
    obtain rfl | rfl | rfl | rfl := hop <;> decide
  rw [custodyCommand, if_pos hn, gated_of_reaches hreach, custodyStart, if_neg (by simpa using hok), if_neg hother.1, if_neg hother.2]

theorem custodyBegin_gives (hs : s.Wf) (hn : n < 8) {op : Nat} (hop : op < 256) (keep skip req : Nat) :
    let t := (s.does (custodyBegin n op keep skip req)).run (hostTraffic req true 4)
    t.rd (ACU_CMDSTAT.busy n) = 1 ∧ t.rd (ACU_CMDSTAT.op n) = op ∧ t.rd (ACU_SSTAT.owned n) = 1 := by
  obtain ⟨hbusy, hshown, howned⟩ := custodyBegin_starts hs hn op keep skip req
  simp only [rd_run_hostTraffic]
  exact ⟨hbusy, hshown.trans (Nat.mod_eq_of_lt hop), howned⟩

/-- A REFLASH unmeets gate e. -/
theorem custodyBegin_unmatches (hs : s.Wf) (hn : n < 8) (keep skip core : Nat) :
    (s.does (custodyBegin n CusOp.reflash keep skip core)).rd (V.matched n) = 0 := by
  have hm : messageField (V.matched n) = false := messageField_ivar (by omega) (by decide) (by decide) _ _
  exact rd_run_sets hs hm _ 0 rfl

/-! RELEASE and CLEAR. -/

theorem custodyCode_shows (hs : s.Wf) (hn : n < 8) (op code region core bytes : Nat) :
    (s.does (custodyCode n op code region core bytes)).rd (ACU_CMDSTAT.op n) = op % 2 ^ 8 ∧
      (s.does (custodyCode n op code region core bytes)).rd (ACU_CMDSTAT.code n) = code % 2 ^ 8 := by
  obtain ⟨-, hop, hcode, -, -⟩ := messageField_custody hn
  refine ⟨rd_run_sets hs hop [] op ?_, rd_run_sets hs hcode [_] code ?_⟩
  · simp [Upd.clears, Fld.key, note, ACU_CMDSTAT.op, ACU_CMDSTAT.code, ACU_CMDSTAT.region, ACU_EVT.custody]
    omega
  · simp [Upd.clears, Fld.key, note, ACU_CMDSTAT.code, ACU_CMDSTAT.region, ACU_EVT.custody]
    omega

/-- The engine's answer touches no field of the slot but the command's. -/
theorem custodyCode_clears {g : Fld} (hg : 0xC0_1000 * 64 ≤ g.key) (hop : g.key ≠ (ACU_CMDSTAT.op n).key) (hcode : g.key ≠ (ACU_CMDSTAT.code n).key)
    (hregion : g.key ≠ (ACU_CMDSTAT.region n).key) (op code region core bytes : Nat) (t : State) :
    (custodyCode n op code region core bytes t).all (·.clears g) = true := by
  have hevent : g.key ≠ ACU_EVT.custody.key := by
    have : ACU_EVT.custody.key < 0xC0_1000 * 64 := by decide
    omega
  simp [custodyCode, note, Upd.clears, hop, hcode, hregion, hevent]

theorem custodyFree_frees (hs : s.Wf) (hn : n < 8) : (s.does (custodyFree n)).rd (ACU_SSTAT.owned n) = 0 := by
  obtain ⟨-, -, -, howned, -⟩ := messageField_custody hn
  rw [does_eq, custodyFree]
  cases hon : s.on (ACU_SSTAT.owned n) with
  | true =>
    refine (rd_run_sets hs howned [] 0 ?_).trans rfl
    simp [Upd.clears, Fld.key, ACU_SSTAT.owned, V.fselAt, V.flashKnown, ivar]
    omega
  | false => exact rd_zero_of_off rfl hon

theorem custodyFree_clears (hn : n < 8) {g : Fld} (hg : g.key < 0x100_0000 * 64) (hne : g.key ≠ (ACU_SSTAT.owned n).key) (t : State) :
    (custodyFree n t).all (·.clears g) = true := by
  have hscalar (id w r v : Nat) : Upd.clears g (.set (ivar id n w r) v) = true := by
    have hkey : (ivar id n w r).key = (0x1_0000_0000 + id * 0x1_0000 + n) * 64 := rfl
    exact bne_iff_ne.mpr (by omega)
  have howned : Upd.clears g (.set (ACU_SSTAT.owned n) 0) = true := bne_iff_ne.mpr hne
  simp [custodyFree, V.fselAt, V.flashKnown, hscalar, howned]

theorem release_frees (hs : s.Wf) {req : Nat} (hn : n < 8) (hreach : s.Reaches req (0xC0_100C + 0x100 * n) 4 (CusOp.release + 0 % 2 * 128 + 0 % 2 * 256) false)
    (hbusy : s.rd (ACU_CMDSTAT.busy n) = 0) :
    Gives (.release req n) s (fun t => t.rd (ACU_SSTAT.owned n) = 0 ∧ t.rd (ACU_CMDSTAT.op n) = CusOp.release ∧ t.rd (ACU_CMDSTAT.code n) = 0) := by
  have hok : s.custodyRefusal n CusOp.release = 0 := by simp [State.custodyRefusal, State.on, hbusy]
  have hexec : exec (.release req n) s =
      .next ((((s.does (custodyFree n)).run [.set (V.abandoned n) 0]).does (custodyCode n CusOp.release 0 0 req 0)).run (hostTraffic req true 4)) := by
    change custodyCommand req n CusOp.release 0 0 s = _
    rw [custodyCommand, if_pos hn, gated_of_reaches hreach, custodyStart, if_neg (by simpa using hok), if_pos rfl]
  obtain ⟨-, -, -, howned, -⟩ := messageField_custody hn
  have hu : ((s.does (custodyFree n)).run [.set (V.abandoned n) 0]).Wf := run_wf _ (run_wf _ hs)
  obtain ⟨hop, hcode⟩ := custodyCode_shows hu hn CusOp.release 0 0 req 0
  refine ⟨_, hexec, ?_⟩
  simp only [rd_run_hostTraffic]
  refine ⟨?_, hop, hcode⟩
  have hkey : (ACU_SSTAT.owned n).key = (0xC0_1008 + 0x100 * n) * 64 + 25 := rfl
  have hclear : (custodyCode n CusOp.release 0 0 req 0 ((s.does (custodyFree n)).run [.set (V.abandoned n) 0])).all (·.clears (ACU_SSTAT.owned n)) = true := by
    refine custodyCode_clears ?_ ?_ ?_ ?_ _ _ _ _ _ _ <;> simp only [Fld.key, ACU_SSTAT.owned, ACU_CMDSTAT.op, ACU_CMDSTAT.code, ACU_CMDSTAT.region] <;> omega
  refine ((rd_run_clear howned hclear).trans (rd_run_clear howned ?_)).trans (custodyFree_frees hs hn)
  simp [Upd.clears, Fld.key, ACU_SSTAT.owned, V.abandoned, ivar]
  omega

theorem clear_clears (hs : s.Wf) {req : Nat} (hn : n < 8) (hreach : s.Reaches req (0xC0_100C + 0x100 * n) 4 (CusOp.clear + 0 % 2 * 128 + 0 % 2 * 256) false)
    (hbusy : s.rd (ACU_CMDSTAT.busy n) = 0) :
    Gives (.clear req n) s (fun t => t.rd (ACU_SSTAT.attempts n) = 0 ∧ t.rd (V.bootFailed n) = 0 ∧ t.rd (ACU_CMDSTAT.op n) = CusOp.clear ∧
      t.rd (ACU_CMDSTAT.code n) = 0) := by
  have hok : s.custodyRefusal n CusOp.clear = 0 := by simp [State.custodyRefusal, State.on, hbusy]
  have hexec : exec (.clear req n) s =
      .next (((s.does (bootCleared n)).does (custodyCode n CusOp.clear 0 0 req 0)).run (hostTraffic req true 4)) := by
    change custodyCommand req n CusOp.clear 0 0 s = _
    rw [custodyCommand, if_pos hn, gated_of_reaches hreach, custodyStart, if_neg (by simpa using hok), if_neg (by decide), if_pos rfl]
  obtain ⟨-, -, -, -, hattempts⟩ := messageField_custody hn
  have hfailed : messageField (V.bootFailed n) = false := messageField_ivar (by omega) (by decide) (by decide) _ _
  have hu : (s.does (bootCleared n)).Wf := run_wf _ hs
  obtain ⟨hop, hcode⟩ := custodyCode_shows hu hn CusOp.clear 0 0 req 0
  refine ⟨_, hexec, ?_⟩
  simp only [rd_run_hostTraffic]
  refine ⟨(rd_run_clear hattempts (custodyCode_clears ?_ ?_ ?_ ?_ _ _ _ _ _ _)).trans ?_,
    (rd_run_clear hfailed (custodyCode_clears ?_ ?_ ?_ ?_ _ _ _ _ _ _)).trans ?_, hop, hcode⟩
  · simp only [Fld.key, ACU_SSTAT.attempts]; omega
  · simp only [Fld.key, ACU_SSTAT.attempts, ACU_CMDSTAT.op]; omega
  · simp only [Fld.key, ACU_SSTAT.attempts, ACU_CMDSTAT.code]; omega
  · simp only [Fld.key, ACU_SSTAT.attempts, ACU_CMDSTAT.region]; omega
  · refine (rd_run_sets hs hattempts _ 0 ?_).trans rfl
    simp [Upd.clears, Fld.key, ACU_SSTAT.attempts, V.failTried, ivar]
    omega
  · simp only [Fld.key, V.bootFailed, ivar]; omega
  · simp only [Fld.key, V.bootFailed, ivar, ACU_CMDSTAT.op]; omega
  · simp only [Fld.key, V.bootFailed, ivar, ACU_CMDSTAT.code]; omega
  · simp only [Fld.key, V.bootFailed, ivar, ACU_CMDSTAT.region]; omega
  · have hanew : (attemptsAnew n).all (·.clears (V.bootFailed n)) = true := by
      simp [attemptsAnew, Upd.clears, Fld.key, ACU_SSTAT.attempts, V.bootFailed, V.failTried, ivar]
      omega
    rw [does_eq, bootCleared, run_append]
    refine (rd_run_clear hfailed hanew).trans ?_
    cases hon : s.on (V.bootFailed n) with
    | true => exact (rd_run_sets hs hfailed [_] 0 rfl).trans rfl
    | false => exact rd_zero_of_off rfl hon

/-! An operation ends. -/

theorem bootKey_slot (hn : n < 8) {o lsb : Nat} (ho : o < 0x100) (hl : lsb < 64) : bootKey ((0xC0_1000 + o + 0x100 * n) * 64 + lsb) = false := by
  have hwipe : MEM_STAT.wipe.key = 0x110_0000 * 64 := rfl
  have hfree : 0x1_0000_0000 * 64 ≤ V.freeCtr.key := by decide
  have hversion : 0x1_0000_0000 * 64 ≤ V.keeperVersion.key := by decide
  have howed : 0x1_0000_0000 * 64 ≤ V.structOwed.key := by decide
  have hfuse : 0x1_0000_0000 * 64 ≤ V.fuseWiped.key := by decide
  simp only [bootKey, hwipe, Bool.or_eq_false_iff, Bool.and_eq_false_iff, decide_eq_false_iff_not, beq_eq_false_iff_ne]
  omega

theorem custodyDone_ends (hs : s.Wf) (hn : n < 8) {id kib unit err bytes : Nat} (hbusy : s.rd (ACU_CMDSTAT.busy n) = 1)
    (herr : errPossible (s.rd (V.cusOp n)) err = true) (hauto : s.rd (V.cusAuto n) = 0) (hkeep : s.rd (V.cusKeep n) = 0) :
    Gives (.custodyOpDone n id kib unit err bytes) s (fun t => t.rd (ACU_CMDSTAT.busy n) = 0 ∧ t.rd (ACU_SSTAT.owned n) = 0 ∧
      t.rd (ACU_CMDSTAT.code n) = (s.custodyResult n kib err).1 % 2 ^ (ACU_CMDSTAT.code n).width) := by
  refine ⟨_, whenever_of (by simp [hn, State.on, hbusy, herr]) _ _, ?_⟩
  obtain ⟨hmbusy, -, hmcode, hmowned, -⟩ := messageField_custody hn
  unfold custodyDone
  extract_lets op res step t0 t1 t2
  have hkept : s.on (V.cusKeep n) = false := by simp [State.on, hkeep]
  rw [if_pos hauto, hkept, if_neg Bool.false_ne_true]
  have ht0 : t0.Wf := Made.here.reflashEffect.wf hs
  have ht1 : t1.Wf := run_wf _ (run_wf _ (run_wf _ ht0))
  have hidle : t1.rd (ACU_CMDSTAT.busy n) = 0 := by
    refine (rd_run_sets (run_wf _ (run_wf _ ht0)) hmbusy [] 0 ?_).trans rfl
    simp [Upd.clears, Fld.key, ACU_CMDSTAT.busy, ACU_PROG.bytes, V.matched, V.abandoned, ivar]
    omega
  have ht2 : Passing Upd.boots (t1.does (custodyCode n op res.1 res.2 (s.rd (V.cusCore n)) bytes)) t2 := retireDeferred_boots (Via.refl _)
  have hwf2 : t2.Wf := ht2.wf (run_wf _ ht1)
  refine ⟨?_, custodyFree_frees hwf2 hn, ?_⟩
  · refine (rd_run_clear hmbusy (custodyFree_clears hn ?_ ?_ _)).trans ((ht2.rd_boots hmbusy (bootKey_slot (o := 0x10) (lsb := 31) hn (by decide) (by decide))).trans
      ((rd_run_clear hmbusy (custodyCode_clears ?_ ?_ ?_ ?_ _ _ _ _ _ _)).trans hidle))
    · simp only [Fld.key, ACU_CMDSTAT.busy]; omega
    · simp only [Fld.key, ACU_CMDSTAT.busy, ACU_SSTAT.owned]; omega
    · simp only [Fld.key, ACU_CMDSTAT.busy]; omega
    · simp only [Fld.key, ACU_CMDSTAT.busy, ACU_CMDSTAT.op]; omega
    · simp only [Fld.key, ACU_CMDSTAT.busy, ACU_CMDSTAT.code]; omega
    · simp only [Fld.key, ACU_CMDSTAT.busy, ACU_CMDSTAT.region]; omega
  · refine (rd_run_clear hmcode (custodyFree_clears hn ?_ ?_ _)).trans ((ht2.rd_boots hmcode (bootKey_slot (o := 0x10) (lsb := 0) hn (by decide) (by decide))).trans
      (custodyCode_shows ht1 hn op res.1 res.2 (s.rd (V.cusCore n)) bytes).2)
    · simp only [Fld.key, ACU_CMDSTAT.code]; omega
    · simp only [Fld.key, ACU_CMDSTAT.code, ACU_SSTAT.owned]; omega

/-! The engine starts by itself. -/

theorem messageField_copy {e c o lsb : Nat} (he : e < 256) (hc : c < 2) (ho : o < 0x10) (hl : lsb < 64) (w r : Nat) :
    messageField ⟨0xE0_0200 + o + 0x20 * e + 0x10 * c, lsb, w, r⟩ = false :=
  messageField_beside hl (.inl (by dsimp only; omega)) (by dsimp only; omega) (.inl (by dsimp only; omega))

/-- What is owed decides no refusal. -/
theorem custodyRefusal_owed (hn : n < 8) (op : Nat) : (s.run [.set (V.cusOwed n) 0]).custodyRefusal n op = s.custodyRefusal n op := by
  have hkey : (V.cusOwed n).key = (0x1_0141_0000 + n) * 64 := rfl
  have hlow {g : Fld} (hm : messageField g = false) (hg : g.key < 0x1_0141_0000 * 64) : (s.run [.set (V.cusOwed n) 0]).rd g = s.rd g :=
    rd_run_clear hm (by simp [Upd.clears]; omega)
  obtain ⟨hmbusy, -, -, hmowned, -⟩ := messageField_custody hn
  have hbusy : (s.run [.set (V.cusOwed n) 0]).rd (ACU_CMDSTAT.busy n) = s.rd (ACU_CMDSTAT.busy n) :=
    hlow hmbusy (by simp only [Fld.key, ACU_CMDSTAT.busy]; omega)
  have hrst : (s.run [.set (V.cusOwed n) 0]).rd (ACU_SSTAT.rst n) = s.rd (ACU_SSTAT.rst n) :=
    hlow (messageField_slot (o := 8) hn (by decide) (by decide) _ _) (by simp only [Fld.key, ACU_SSTAT.rst]; omega)
  have hpresent : (s.run [.set (V.cusOwed n) 0]).rd (ACU_SSTAT.present n) = s.rd (ACU_SSTAT.present n) :=
    hlow (messageField_slot (o := 8) hn (by decide) (by decide) _ _) (by simp only [Fld.key, ACU_SSTAT.present]; omega)
  have hgold : (s.run [.set (V.cusOwed n) 0]).rd (ACU_SCFG.gold n) = s.rd (ACU_SCFG.gold n) :=
    hlow (messageField_slot (o := 0) hn (by decide) (by decide) _ _) (by simp only [Fld.key, ACU_SCFG.gold]; omega)
  have hrstAt : (s.run [.set (V.cusOwed n) 0]).rd (V.rstAt n) = s.rd (V.rstAt n) :=
    hlow (messageField_ivar (by omega) (by decide) (by decide) _ _) (by simp only [Fld.key, V.rstAt, ivar]; omega)
  have hgroup : (s.run [.set (V.cusOwed n) 0]).rd (SEQ_GSTAT.state n) = s.rd (SEQ_GSTAT.state n) :=
    hlow (messageField_array (k := 0x10) (n := n) (by omega) (by decide) _ _) (by simp only [Fld.key, SEQ_GSTAT.state]; omega)
  have hdelay : (s.run [.set (V.cusOwed n) 0]).rd ACU_TIMING.own_delay = s.rd ACU_TIMING.own_delay := hlow (by decide) (by decide)
  have hdone : (s.run [.set (V.cusOwed n) 0]).rd V.goldDone = s.rd V.goldDone := hlow (by decide) (by decide)
  have hentry : s.rd (ACU_SCFG.gold n) < 256 := rd_lt s (ACU_SCFG.gold n)
  have hvalid : (s.run [.set (V.cusOwed n) 0]).goldValid (s.rd (ACU_SCFG.gold n)) = s.goldValid (s.rd (ACU_SCFG.gold n)) := by
    generalize s.rd (ACU_SCFG.gold n) = e at hentry
    have hcopy (c : Nat) (hc : c < 2) : (s.run [.set (V.cusOwed n) 0]).rd (IMG_GDESC.valid e c) = s.rd (IMG_GDESC.valid e c) ∧
        (s.run [.set (V.cusOwed n) 0]).rd (IMG_GDESC.state e c) = s.rd (IMG_GDESC.state e c) := by
      constructor
      · exact hlow (messageField_copy hentry hc (o := 0) (lsb := 25) (by decide) (by decide) _ _)
          (by simp only [Fld.key, IMG_GDESC.valid]; omega)
      · exact hlow (messageField_copy hentry hc (o := 0) (lsb := 29) (by decide) (by decide) _ _)
          (by simp only [Fld.key, IMG_GDESC.state]; omega)
    simp only [State.goldValid, State.on, hdone, List.any_cons, List.any_nil, hcopy 0 (by decide), hcopy 1 (by decide)]
  have hnow : (s.run [.set (V.cusOwed n) 0]).boundary = s.boundary := rfl
  unfold State.custodyRefusal State.on State.sinceMark State.groupUp
  rw [hbusy, hrst, hpresent, hgold, hrstAt, hgroup, hdelay, hvalid, hnow]

theorem custodyAuto_verifies (hs : s.Wf) (hn : n < 8) (hdue : s.autoDue n = true) (howed : s.rd (V.cusOwed n) = 1)
    (hok : s.custodyRefusal n CusOp.verify = 0) :
    Gives (.custodyAuto n) s (fun t => t.rd (ACU_CMDSTAT.busy n) = 1 ∧ t.rd (ACU_CMDSTAT.op n) = CusOp.verify ∧ t.rd (V.cusOwed n) = 0 ∧
      t.rd (V.cusAuto n) = 1) := by
  have hrun : custodyAuto n s = ((s.run [.set (V.cusOwed n) 0]).run [.set (V.cusAuto n) 1]).does (custodyBegin n CusOp.verify 0 0 0) := by
    rw [custodyAuto]
    simp only [howed, if_true, custodyRefusal_owed hn, hok]
  have hmowed : messageField (V.cusOwed n) = false := messageField_ivar (by omega) (by decide) (by decide) _ _
  have hmauto : messageField (V.cusAuto n) = false := messageField_ivar (by omega) (by decide) (by decide) _ _
  have hwf : ((s.run [.set (V.cusOwed n) 0]).run [.set (V.cusAuto n) 1]).Wf := run_wf _ (run_wf _ hs)
  have hclear {g : Fld} (hg : g = V.cusOwed n ∨ g = V.cusAuto n) (t : State) : (custodyBegin n CusOp.verify 0 0 0 t).all (·.clears g) = true := by
    obtain rfl | rfl := hg <;>
      (simp [custodyBegin, Upd.clears, Fld.key, ACU_SSTAT.owned, V.flashKnown, ACU_CMDSTAT.busy, ACU_CMDSTAT.op, ACU_PROG.bytes, V.cusOp, V.cusKeep, V.cusSkip, V.cusCore,
        V.matched, V.cusOwed, V.cusAuto, ivar]; omega)
  obtain ⟨hbusy, hop, -⟩ := custodyBegin_starts hwf hn CusOp.verify 0 0 0
  refine ⟨_, whenever_of (by simp [hn, hdue]) _ _, ?_⟩
  rw [hrun]
  refine ⟨hbusy, hop, ?_, ?_⟩
  · refine (rd_run_clear hmowed (hclear (.inl rfl) _)).trans ((rd_run_clear hmowed ?_).trans ((rd_run_sets hs hmowed [] 0 rfl).trans rfl))
    simp [Upd.clears, Fld.key, V.cusOwed, V.cusAuto, ivar]
  · exact (rd_run_clear hmauto (hclear (.inr rfl) _)).trans ((rd_run_sets (run_wf _ hs) hmauto [] 1 rfl).trans rfl)

/-- Settles O39: an operation that nothing refuses runs custodyBegin; its end leaves the command's fields to custodyCode and the flash to custodyFree. -/
theorem custodyOperationsTakeEffect : Obligations.CustodyOperationsTakeEffect := by
  unfold Obligations.CustodyOperationsTakeEffect
  refine ⟨?_, ?_, ?_, ?_, fun _ _ _ hs hn hreach hbusy => release_frees hs hn hreach hbusy, fun _ _ _ hs hn hreach hbusy => clear_clears hs hn hreach hbusy,
    fun _ _ _ _ _ _ _ hs hn hbusy herr hauto hkeep => custodyDone_ends hs hn hbusy herr hauto hkeep,
    fun _ _ hs hn hdue howed hok => custodyAuto_verifies hs hn hdue howed hok⟩
  · intro s req n keep hs hn hreach hok
    exact ⟨_, custodyCommand_starts hn hreach hok (by decide), custodyBegin_gives hs hn (by decide) _ _ _⟩
  · intro s req n keep hs hn hreach hok
    exact ⟨_, custodyCommand_starts hn hreach hok (by decide), custodyBegin_gives hs hn (by decide) _ _ _⟩
  · intro s req n keep hs hn hreach hok
    exact ⟨_, custodyCommand_starts hn hreach hok (by decide), custodyBegin_gives hs hn (by decide) _ _ _⟩
  · intro s req n keep skip hs hn hreach hok
    obtain ⟨hbusy, hop, howned⟩ := custodyBegin_gives hs hn (by decide : CusOp.reflash < 256) (keep % 2) (skip % 2) req
    refine ⟨_, custodyCommand_starts hn hreach hok (by decide), hbusy, hop, howned, ?_⟩
    rw [rd_run_hostTraffic]
    exact custodyBegin_unmatches hs hn _ _ _

end Sys2Proof.Machine
end

section
/-! Recovery and DMA (R464, R465). -/

namespace Sys2Proof.Machine

variable {s : State}

/-! Recovery. -/

theorem recoveryGo_checks (hs : s.Wf) {req value : Nat} (hreach : s.Reaches req 0xF0_0200 4 value false) (hgo : bit value 0 = true)
    (hstate : s.rd HIF_RCVSTAT.state = 1 ∨ s.rd HIF_RCVSTAT.state = 4) :
    Gives (.recoveryGo req value) s (fun t => t.rd HIF_RCVSTAT.state = 2 ∧ t.rd HIF_RCVSTAT.path = 0 ∧ t.rd HIF_RCVSTAT.code = 0 ∧
      OnlyFields [HIF_RCVSTAT.state, HIF_RCVSTAT.path, HIF_RCVSTAT.code] s t) := by
  obtain ⟨hchecking, hpath, hcode, hframe⟩ := recoveryGo_starts hs (by decide : 0 < 2) hstate
  refine ⟨_, gated_of_reaches hreach _, ?_⟩
  rw [if_pos hgo]
  simp only [rd_run_hostTraffic]
  exact ⟨hchecking, hpath, hcode, hframe.traffic _ _ _⟩

theorem keeperRuns_boots (s : State) : Passing Upd.boots s (keeperRuns s) := by
  obtain ⟨t, ht, hrest⟩ := keeperRuns_selects s
  exact (Passing.does ht.boots fun y => stageTo_boots _ y).trans hrest.boots

/-- The image's start leaves the event of its acceptance. -/
theorem recoveryAccept_shows (hs : s.Wf) : (recoveryAccept s).rd HIF_EVT.recovery = 1 := by
  unfold recoveryAccept
  extract_lets k t
  have hevent : t.rd HIF_EVT.recovery = 1 := rd_run_lastSet hs (v := 1) (by decide) rfl
  have hgated : Passing Upd.boots t ((t.does (startGated (memPlace mgmtSram) 2)).run [.set KPR_GQUEUE.gated 0]) :=
    Passing.run (Passing.does (Via.refl t) (startGated_boots _ _)) rfl
  have hservice : Passing Upd.boots t (t.does (installService (memPlace mgmtSram) 2)) :=
    (Passing.does (Via.refl t) (installService_selects _ _)).boots
  split
  · exact (Passing.rd_boots (hgated.trans (keeperRuns_boots _)) (by decide) rfl).trans hevent
  · exact (hservice.rd_boots (by decide) rfl).trans hevent

theorem recoveryCheckDone_ends (hs : s.Wf) (hstate : s.rd HIF_RCVSTAT.state = 2) (hplane : s.rd (V.planeHeld 3) = 0) :
    Gives .recoveryCheckDone s (fun t => t.rd HIF_EVT.recovery = 1 ∧
      (s.recoveryCode ≠ 0 → t.rd HIF_RCVSTAT.state = 4 ∧ t.rd HIF_RCVSTAT.code = s.recoveryCode % 2 ^ HIF_RCVSTAT.code.width ∧ t.mem = s.mem)) := by
  refine ⟨_, whenever_of (by simp [hstate, State.on, hplane]) _ _, ?_⟩
  unfold recoveryDone
  extract_lets code t
  have ht : t.Wf := run_wf _ hs
  by_cases hcode : code = 0
  · rw [if_pos hcode]
    exact ⟨recoveryAccept_shows ht, fun h => absurd hcode h⟩
  · rw [if_neg hcode]
    exact ⟨rd_run_lastSet ht (v := 1) (by decide) rfl, fun _ => ⟨rd_run_lastSet ht (v := 4) (by decide) rfl,
      rd_run_lastSet ht (v := code) (by decide) rfl, rfl⟩⟩

/-! DMA. -/

/-- A grant decides by the grant entries alone. -/
theorem granted_of_entries {t : State} (h : ∀ g < 64, t.rd (KPR_GRANT.entry g) = s.rd (KPR_GRANT.entry g)) (core kind a len : Nat) :
    t.granted core kind a len = s.granted core kind a len :=
  List.foldl_ext _ _ _ fun best g hg => by rw [h g (List.mem_range.mp hg)]

theorem dmaGranted_of_entries {t : State} (h : ∀ g < 64, t.rd (KPR_GRANT.entry g) = s.rd (KPR_GRANT.entry g)) (req a n : Nat) (isWrite : Bool) :
    t.dmaGranted req a n isWrite = s.dmaGranted req a n isWrite := by
  have hown : ∀ g ∈ List.range 16, t.rd (KPR_GRANT.entry (48 + g)) = s.rd (KPR_GRANT.entry (48 + g)) := fun g hg =>
    h _ (by have := List.mem_range.mp hg; omega)
  have hkeeper : ((List.range 16).any fun g =>
      let e := t.rd (KPR_GRANT.entry (48 + g))
      bit e 63 && bit e 62 && decide (bits e 30 26 * 4096 ≤ a) && decide (a + n ≤ bits e 30 26 * 4096 + bits e 4 26 * 4096) && (!isWrite || decide (1 ≤ bits e 60 2))) =
      (List.range 16).any fun g =>
      let e := s.rd (KPR_GRANT.entry (48 + g))
      bit e 63 && bit e 62 && decide (bits e 30 26 * 4096 ≤ a) && decide (a + n ≤ bits e 30 26 * 4096 + bits e 4 26 * 4096) && (!isWrite || decide (1 ≤ bits e 60 2)) := by
    rw [Bool.eq_iff_iff, List.any_eq_true, List.any_eq_true]
    exact ⟨fun ⟨g, hg, hok⟩ => ⟨g, hg, hown g hg ▸ hok⟩, fun ⟨g, hg, hok⟩ => ⟨g, hg, (hown g hg).symm ▸ hok⟩⟩
  unfold State.dmaGranted
  rw [hkeeper, granted_of_entries h]

/-- An engine's fields stand above the grants. -/
theorem messageField_engine {e o lsb : Nat} (he : e < 16) (ho : o < 0x40) (hl : lsb < 64) (w r : Nat) :
    messageField ⟨0xF0_4000 + o + 0x40 * e, lsb, w, r⟩ = false :=
  messageField_beside hl (.inl (by dsimp only; omega)) (by dsimp only; omega) (.inl (by dsimp only; omega))

/-- What a go writes of the engine before it is judged. -/
def dmaAsked (req e value : Nat) : List Upd :=
  [.set (HIF_DMACTL.relax e) (bits value 2 1), .set (HIF_DMACTL.dir e) (bits value 1 1), .set (HIF_DMASTAT.owner e) req]

theorem rd_dmaAsked {req e value : Nat} {g : Fld} (hm : messageField g = false) (hrelax : g.key ≠ (HIF_DMACTL.relax e).key)
    (hdir : g.key ≠ (HIF_DMACTL.dir e).key) (howner : g.key ≠ (HIF_DMASTAT.owner e).key) : (s.run (dmaAsked req e value)).rd g = s.rd g :=
  rd_run_clear hm (by simp [dmaAsked, Upd.clears, hrelax, hdir, howner])

theorem dmaStart_runs (hs : s.Wf) {req e value : Nat} (hlo : 3 ≤ e) (he : e < 16) (hcore : isCore req = true)
    (hreach : s.Reaches req (0xF0_4014 + 0x40 * e) 4 value false) (hgo : bit value 0 = true) (hidle : s.rd (HIF_DMASTAT.state e) ≠ 1)
    (hgrant : s.dmaGranted req (if bits value 1 1 = 1 then s.rd (HIF_DMADST.addr e) else s.rd (HIF_DMASRC.addr e)) (s.rd (HIF_DMALEN.len e))
      (bit value 1) = true) (hbme : s.rd HIF_STAT.bme = 1) :
    Gives (.dmaStart req e value) s (fun t => t.rd (HIF_DMASTAT.state e) = 1 ∧ t.rd (HIF_DMASTAT.owner e) = req ∧ t.rd (HIF_DMADONE.bytes e) = 0 ∧
      t.mem = s.mem) := by
  have hreq : req < 16 := by
    simp only [isCore, decide_eq_true_eq] at hcore
    omega
  have hmdir : messageField (HIF_DMACTL.dir e) = false := messageField_engine (o := 0x14) he (by decide) (by decide) _ _
  have hmowner : messageField (HIF_DMASTAT.owner e) = false := messageField_engine (o := 0x18) he (by decide) (by decide) _ _
  have hmstate : messageField (HIF_DMASTAT.state e) = false := messageField_engine (o := 0x18) he (by decide) (by decide) _ _
  have hmbytes : messageField (HIF_DMADONE.bytes e) = false := messageField_engine (o := 0x20) he (by decide) (by decide) _ _
  set u := s.run (dmaAsked req e value) with hu
  have hwf : u.Wf := run_wf _ hs
  have hdir : u.rd (HIF_DMACTL.dir e) = bits value 1 1 := by
    refine (rd_run_sets hs hmdir [_] (bits value 1 1) ?_).trans (Nat.mod_eq_of_lt (bits_lt value 1 1))
    simp [Upd.clears, Fld.key, HIF_DMACTL.dir, HIF_DMASTAT.owner]
    omega
  have howner : u.rd (HIF_DMASTAT.owner e) = req := (rd_run_sets hs hmowner [_, _] req rfl).trans (Nat.mod_eq_of_lt hreq)
  have hsrc : u.rd (HIF_DMASRC.addr e) = s.rd (HIF_DMASRC.addr e) := by
    apply rd_dmaAsked (messageField_engine (o := 0) he (by decide) (by decide) _ _) <;>
      simp only [Fld.key, HIF_DMACTL.relax, HIF_DMACTL.dir, HIF_DMASTAT.owner] <;> omega
  have hdst : u.rd (HIF_DMADST.addr e) = s.rd (HIF_DMADST.addr e) := by
    apply rd_dmaAsked (messageField_engine (o := 8) he (by decide) (by decide) _ _) <;>
      simp only [Fld.key, HIF_DMACTL.relax, HIF_DMACTL.dir, HIF_DMASTAT.owner] <;> omega
  have hlen : u.rd (HIF_DMALEN.len e) = s.rd (HIF_DMALEN.len e) := by
    apply rd_dmaAsked (messageField_engine (o := 0x10) he (by decide) (by decide) _ _) <;>
      simp only [Fld.key, HIF_DMACTL.relax, HIF_DMACTL.dir, HIF_DMASTAT.owner] <;> omega
  have hmaster : u.rd HIF_STAT.bme = 1 := by
    refine Eq.trans ?_ hbme
    apply rd_dmaAsked (by decide) <;> simp only [Fld.key, HIF_STAT.bme, HIF_DMACTL.relax, HIF_DMACTL.dir, HIF_DMASTAT.owner] <;> omega
  have hentries : ∀ g < 64, u.rd (KPR_GRANT.entry g) = s.rd (KPR_GRANT.entry g) := by
    intro g hg
    apply rd_dmaAsked (messageField_array (k := 8) (n := g) (.inl (by omega)) (by decide) _ _) <;>
      simp only [Fld.key, HIF_DMACTL.relax, HIF_DMACTL.dir, HIF_DMASTAT.owner] <;> omega
  have hbit : bit value 1 = (bits value 1 1 == 1) := by
    rw [bit, Nat.testBit_eq_decide_div_mod_eq]
    rfl
  have hdevice : u.dmaDevice e = if bits value 1 1 = 1 then s.rd (HIF_DMADST.addr e) else s.rd (HIF_DMASRC.addr e) := by
    simp only [State.dmaDevice, State.on, hdir, hsrc, hdst, beq_iff_eq]
  have hgranted : u.dmaGranted req (u.dmaDevice e) (u.rd (HIF_DMALEN.len e)) (u.on (HIF_DMACTL.dir e)) = true := by
    rw [dmaGranted_of_entries hentries, hdevice, hlen, State.on, hdir, ← hbit]
    exact hgrant
  have hrun : dmaStart req e value s = u.run (dmaEnd e 1 0 0) := by
    unfold dmaStart
    extract_lets t x
    have hx : x = u := rfl
    rw [hgo, hx, hgranted, State.on, hmaster]
    rfl
  have hexec : exec (.dmaStart req e value) s = .next ((u.run (dmaEnd e 1 0 0)).run (hostTraffic req true 4)) := by
    change execDmaStart req e value s = _
    have hmay : (!isCore req || decide (e < 3)) = false := by simp [hcore, hlo]
    rw [execDmaStart, if_neg (by omega), gated_of_reaches hreach, hmay, if_neg Bool.false_ne_true, if_neg hidle, hrun]
  refine ⟨_, hexec, ?_⟩
  simp only [rd_run_hostTraffic]
  refine ⟨(rd_run_sets hwf hmstate [] 1 ?_).trans rfl, (rd_run_clear hmowner ?_).trans howner, (rd_run_sets hwf hmbytes [_, _] 0 rfl).trans rfl, ?_⟩
  · simp [Upd.clears, Fld.key, HIF_DMASTAT.state, HIF_DMASTAT.err, HIF_DMADONE.bytes]
    omega
  · simp [dmaEnd, Upd.clears, Fld.key, HIF_DMASTAT.owner, HIF_DMASTAT.state, HIF_DMASTAT.err, HIF_DMADONE.bytes]
  · obtain ⟨p, hp⟩ := run_hostTraffic (u.run (dmaEnd e 1 0 0)) req true 4
    rw [hp]
    rfl

/-- A transfer towards the device that nothing discards stores what host memory held, and its engine is done. -/
theorem dmaDone_stores (hs : s.Wf) {e n : Nat} (hlo : 3 ≤ e) (he : e < 16) (hstate : s.rd (HIF_DMASTAT.state e) = 1) (hdstate : s.rd HIF_STAT.dstate = 0)
    (hwarn : s.rd CRP_PFSTAT.warn = 0) (hdir : s.rd (HIF_DMACTL.dir e) = 1) (hwaits : s.memWaits (s.rd (HIF_DMADST.addr e)) = false)
    (hwhy : s.dmaDiscards true (s.rd (HIF_DMADST.addr e)) (s.rd (HIF_DMALEN.len e)) = 0)
    (hlive : ∀ x, s.rd (HIF_DMADST.addr e) ≤ x → x < s.rd (HIF_DMADST.addr e) + s.rd (HIF_DMALEN.len e) → s.channelDead x = false) :
    Gives (.dmaDone e 0 n) s (fun t => t.rd (HIF_DMASTAT.state e) = 2 ∧
      memBytes t.mem (s.rd (HIF_DMADST.addr e)) (s.rd (HIF_DMALEN.len e)) =
        memBytes s.mem (inSpace Sp.host (s.rd (HIF_DMASRC.addr e))) (s.rd (HIF_DMALEN.len e)) ∧
      (∀ b, b < s.rd (HIF_DMADST.addr e) ∨ s.rd (HIF_DMADST.addr e) + s.rd (HIF_DMALEN.len e) ≤ b → memByte t.mem b = memByte s.mem b)) := by
  have hexec : exec (.dmaDone e 0 n) s = .next (dmaDone e 0 n s) :=
    whenever_of (by simp [hlo, he, hstate, hdstate, State.on, hwarn, State.dmaDevice, hdir, hwaits]) _ _
  refine ⟨_, hexec, ?_⟩
  generalize hdst : s.rd (HIF_DMADST.addr e) = dst at *
  generalize hlen : s.rd (HIF_DMALEN.len e) = len at *
  set bs := memBytes s.mem (inSpace Sp.host (s.rd (HIF_DMASRC.addr e))) len with hbs
  have hlength : bs.length = len := by simp [hbs, memBytes]
  have hbytes : ∀ b ∈ bs, b < 256 := by
    intro b hb
    obtain ⟨i, -, rfl⟩ := List.mem_map.mp hb
    exact UInt8.toNat_lt _
  obtain ⟨hmem, -⟩ := storeLive_mem (s := s) (a := dst) (bs := bs) (by rwa [hlength])
  have htraffic : ∀ u ∈ lpTraffic true dst len s ++ [.carry (14 + e) false len, .carry (14 + e) true len], u.counts :=
    all_append (lpTraffic_counts true dst len s) (by simp [Upd.counts])
  obtain ⟨p, hp⟩ := run_counts htraffic (s.run (storeLive dst bs s))
  have hrun : dmaDone e 0 n s = ({ s.run (storeLive dst bs s) with pmu := p } : State).run (dmaEnd e 2 0 len) := by
    rw [← hp]
    simp [dmaDone, State.on, hdir, hdst, hlen, hwhy, dmaDiscarded, ← hbs, run_append]
  have hend : (dmaDone e 0 n s).mem = memSetBytes s.mem dst bs := by
    rw [hrun]
    exact hmem
  obtain ⟨-, hwf, -⟩ := id hs
  refine ⟨?_, ?_, fun b hb => ?_⟩
  · have hm : messageField (HIF_DMASTAT.state e) = false := messageField_engine (o := 0x18) he (by decide) (by decide) _ _
    have hwfRun : ({ s.run (storeLive dst bs s) with pmu := p } : State).Wf := hp ▸ run_wf _ (run_wf _ hs)
    rw [hrun]
    refine (rd_run_sets hwfRun hm [] 2 ?_).trans rfl
    simp [Upd.clears, Fld.key, HIF_DMASTAT.state, HIF_DMASTAT.err, HIF_DMADONE.bytes]
    omega
  · rw [hend]
    have hback := memBytes_setBytes_same (m := s.mem) dst hwf hbytes
    rwa [hlength] at hback
  · rw [hend]
    exact memByte_setBytes_out s.mem bs (by rwa [hlength])

/-- Settles O48: recovery's go and its end, whose start of an image keeps its event; a DMA's go reads its grants as before, and its end is one store. -/
theorem recoveryAndDma : Obligations.RecoveryAndDma :=
  ⟨fun _ _ _ hs hreach hgo hstate => recoveryGo_checks hs hreach hgo hstate, fun _ hs hstate hplane => recoveryCheckDone_ends hs hstate hplane,
    fun _ _ _ _ hs hlo he hcore hreach hgo hidle hgrant hbme => dmaStart_runs hs hlo he hcore hreach hgo hidle hgrant hbme,
    fun _ _ _ hs hlo he hstate hdstate hwarn hdir hwaits hwhy hlive => dmaDone_stores hs hlo he hstate hdstate hwarn hdir hwaits hwhy hlive⟩

end Sys2Proof.Machine
end

section
/-! SUPPORT. A ring pair's fields, and what the decoder's look at it, its responses and its consumption of a request leave (R454-R461). -/

namespace Sys2Proof.Machine

variable {s t : State} {p : Nat}

/-! The fields of a ring pair. -/

theorem messageField_ring (hp : p < 64) {o lsb : Nat} (ho : o < 0x40) (hl : lsb < 64) (w r : Nat) :
    messageField ⟨0xF0_1000 + o + 0x40 * p, lsb, w, r⟩ = false :=
  messageField_beside hl (.inl (by dsimp only; omega)) (by dsimp only; omega) (.inl (by dsimp only; omega))

theorem messageField_ringState (hp : p < 64) : messageField (HIF_RSTAT.state p) = false := messageField_ring (o := 0x28) hp (by decide) (by decide) _ _
theorem messageField_ringEn (hp : p < 64) : messageField (HIF_RCTL.en p) = false := messageField_ring (o := 0x24) hp (by decide) (by decide) _ _
theorem messageField_ringDue (hp : p < 64) : messageField (V.ringDue p) = false := messageField_ivar (by omega) (by decide) (by decide) _ _
theorem messageField_rqSeq (hp : p < 64) : messageField (V.rqSeq p) = false := messageField_ivar (by omega) (by decide) (by decide) _ _
theorem messageField_rsSeq (hp : p < 64) : messageField (V.rsSeq p) = false := messageField_ivar (by omega) (by decide) (by decide) _ _

/-- What the decoder's look at a ring is decided by, beside its state and memory. -/
def ringFields (p : Nat) : List Fld :=
  [HIF_RQBASE.base p, HIF_RCB.base p, HIF_RCFG.rq_log p, HIF_RCFG.rs_log p, HIF_RCFG.role p, V.rqSeq p, V.rsSeq p, HIF_SVCQPTR.tail, HIF_SVCQPTR.head]

theorem messageField_ringFields (hp : p < 64) {g : Fld} (hg : g ∈ ringFields p) : messageField g = false := by
  simp only [ringFields, List.mem_cons, List.not_mem_nil, or_false] at hg
  obtain rfl | rfl | rfl | rfl | rfl | rfl | rfl | rfl | rfl := hg
  · exact messageField_ring (o := 0) hp (by decide) (by decide) _ _
  · exact messageField_ring (o := 0x10) hp (by decide) (by decide) _ _
  · exact messageField_ring (o := 0x20) hp (by decide) (by decide) _ _
  · exact messageField_ring (o := 0x20) hp (by decide) (by decide) _ _
  · exact messageField_ring (o := 0x20) hp (by decide) (by decide) _ _
  · exact messageField_rqSeq hp
  · exact messageField_rsSeq hp
  · decide
  · decide

/-! The decoder's look at a ring (R456, R459, R460). -/

/-- The fields that a look may set. -/
def lookFields (p : Nat) : List Fld := [HIF_RSTAT.err p, HIF_RERRSEQ.seq p, HIF_EVT.ring_err, HIF_RSTAT.state p, V.ringDue p]

theorem ringError_setsOnly (p code seq : Nat) (halt : Bool) : ∀ u ∈ ringError p code seq halt, u.setsOnly (lookFields p) := by
  cases halt <;> simp [ringError, ringEvent, hostNote, note, lookFields, Upd.setsOnly]

theorem examine_setsOnly (p : Nat) (s : State) : ∀ u ∈ examine p s, u.setsOnly (lookFields p) := by
  unfold examine
  split
  · simp
  · split
    · exact ringError_setsOnly _ _ _ _
    · split
      · simp [lookFields, Upd.setsOnly]
      · split
        · exact ringError_setsOnly _ _ _ _
        · split <;> simp [ringEvent, hostNote, note, lookFields, Upd.setsOnly]

/-- Sets and records leave the bus. -/
theorem bus_run_looks {fs : List Fld} {us : List Upd} (h : ∀ u ∈ us, u.setsOnly fs ∧ Upd.ordinary u = true) (s : State) : (s.run us).bus = s.bus := by
  refine run_leaves (π := State.bus) (fun u hu t => ?_) s
  obtain ⟨-, hordinary⟩ := h u hu
  cases u
  case set | store | wipe | emit | gq => rfl
  all_goals cases hordinary

theorem ringError_ordinary (p code seq : Nat) (halt : Bool) : ∀ u ∈ ringError p code seq halt, Upd.ordinary u = true := by
  cases halt <;> simp [ringError, ringEvent, hostNote, note, Upd.ordinary]

theorem examine_ordinary (p : Nat) (s : State) : ∀ u ∈ examine p s, Upd.ordinary u = true := by
  unfold examine
  split
  · simp
  · split
    · exact ringError_ordinary _ _ _ _
    · split
      · simp [Upd.ordinary]
      · split
        · exact ringError_ordinary _ _ _ _
        · split <;> simp [ringEvent, hostNote, note, Upd.ordinary]

theorem examine_onlyFields (p : Nat) (s : State) : OnlyFields (lookFields p) s (s.does (examine p)) :=
  onlyFields_run_of_bus (examine_setsOnly p s) (bus_run_looks (fun u hu => ⟨examine_setsOnly p s u hu, examine_ordinary p s u hu⟩) s)

/-- The next request of a ring is there, and may be decoded where the ring runs. -/
structure State.ringWaiting (s : State) (p : Nat) : Prop where
  tail : s.ringIndex p 0 < s.rqSize p
  head : s.ringIndex p 12 < s.rsSize p
  more : s.ringIndex p 0 ≠ s.rd (V.rqSeq p) % s.rqSize p
  seq : s.reqField p 8 4 = s.rd (V.rqSeq p)
  goes : s.mustPause p = false

theorem examine_of_waiting (h : s.ringWaiting p) (hruns : s.rd (HIF_RSTAT.state p) = RingS.run) : examine p s = [.set (V.ringDue p) 1] := by
  have hindices : (decide (s.rqSize p ≤ s.ringIndex p 0) || decide (s.rsSize p ≤ s.ringIndex p 12)) = false := by
    simpa using ⟨h.tail, h.head⟩
  unfold examine
  rw [if_neg (by simpa using hruns), if_neg (by simpa using hindices), if_neg h.more, if_neg (by simpa using h.seq), if_neg (by simp [h.goes])]

theorem ringWaiting_of_same (h : s.ringWaiting p) (hmem : t.mem = s.mem) (hfields : ∀ g ∈ ringFields p, t.rd g = s.rd g) : t.ringWaiting p := by
  simp only [ringFields, List.mem_cons, List.not_mem_nil, or_false, forall_eq_or_imp, forall_eq] at hfields
  obtain ⟨hbase, hcb, hrq, hrs, hrole, hseq, hrseq, htail, hhead⟩ := hfields
  have hindex (o : Nat) : t.ringIndex p o = s.ringIndex p o := by rw [State.ringIndex, State.ringIndex, hmem, hcb]
  have hrqSize : t.rqSize p = s.rqSize p := by rw [State.rqSize, State.rqSize, hrq]
  have hrsSize : t.rsSize p = s.rsSize p := by rw [State.rsSize, State.rsSize, hrs]
  have hrequest (o n : Nat) : t.reqField p o n = s.reqField p o n := by
    rw [State.reqField, State.reqField, State.request, State.request, hmem, hbase, hseq, hrqSize]
  have hpause : t.mustPause p = s.mustPause p := by
    rw [State.mustPause, State.mustPause, State.respFull, State.respFull, State.serviceFull, State.serviceFull, hrequest, hrequest, hrole, hrseq, hrsSize,
      hindex, htail, hhead]
  exact ⟨by rw [hindex, hrqSize]; exact h.tail, by rw [hindex, hrsSize]; exact h.head, by rw [hindex, hseq, hrqSize]; exact h.more,
    by rw [hrequest, hseq]; exact h.seq, by rw [hpause]; exact h.goes⟩

theorem lookFields_key {q : Nat} {f : Fld} (hf : f ∈ lookFields q) :
    f.key = 0xF0_0004 * 64 + 3 ∨ (0xF0_1028 + 0x40 * q) * 64 ≤ f.key ∧ f.key < (0xF0_1030 + 0x40 * q) * 64 ∨ f.key = (0x1_0153_0000 + q) * 64 := by
  simp only [lookFields, List.mem_cons, List.not_mem_nil, or_false] at hf
  obtain rfl | rfl | rfl | rfl | rfl := hf <;> dsimp only [Fld.key, HIF_RSTAT.err, HIF_RERRSEQ.seq, HIF_EVT.ring_err, HIF_RSTAT.state, V.ringDue, ivar] <;> omega

theorem ringFields_key {g : Fld} (hg : g ∈ ringFields p) :
    (0xF0_1000 + 0x40 * p) * 64 ≤ g.key ∧ g.key < (0xF0_1028 + 0x40 * p) * 64 ∨ g.key = (0x1_0155_0000 + p) * 64 ∨ g.key = (0x1_0156_0000 + p) * 64 ∨
      0xF0_0350 * 64 ≤ g.key ∧ g.key < 0xF0_0351 * 64 := by
  simp only [ringFields, List.mem_cons, List.not_mem_nil, or_false] at hg
  obtain rfl | rfl | rfl | rfl | rfl | rfl | rfl | rfl | rfl := hg <;>
    dsimp only [Fld.key, HIF_RQBASE.base, HIF_RCB.base, HIF_RCFG.rq_log, HIF_RCFG.rs_log, HIF_RCFG.role, V.rqSeq, V.rsSeq, HIF_SVCQPTR.tail, HIF_SVCQPTR.head,
      ivar] <;> omega

/-- What a look at a ring leaves: every field but the look's own. -/
theorem rd_look {q : Nat} {g : Fld} (hm : messageField g = false) (hevent : g.key ≠ 0xF0_0004 * 64 + 3)
    (hstat : g.key < (0xF0_1028 + 0x40 * q) * 64 ∨ (0xF0_1030 + 0x40 * q) * 64 ≤ g.key) (hdue : g.key ≠ (0x1_0153_0000 + q) * 64) (s : State) :
    (s.does (examine q)).rd g = s.rd g := by
  refine (examine_onlyFields q s).1 g hm fun f hf => ?_
  have := lookFields_key hf
  omega

/-- A look at any ring leaves what waits in a ring. -/
theorem ringWaiting_after_look {q : Nat} (hp : p < 64) (hq : q < 64) (h : s.ringWaiting p) : (s.does (examine q)).ringWaiting p := by
  obtain ⟨-, hmem, -⟩ := examine_onlyFields q s
  refine ringWaiting_of_same h hmem fun g hg => rd_look (messageField_ringFields hp hg) ?_ ?_ ?_ s
  all_goals
    have := ringFields_key hg
    omega

/-! Responses (R460, R463). -/

/-- The write-back of a response's tail, and how the response counts in the ring's coalescing. -/
def writtenBack (p : Nat) (s : State) : List Upd :=
  onlyIf (s.rd (HIF_RTWB.addr p) != 0 && s.on HIF_STAT.bme) [.store (inSpace Sp.host (s.rd (HIF_RTWB.addr p))) (leBytes 4 ((s.rd (V.rsSeq p) + 1) % s.rsSize p))]

def coalesced (p : Nat) (s : State) : List Upd :=
  if s.rd (HIF_RCTL.coal_us p) = 0 || s.rd (HIF_RCTL.coal_n p) ≤ s.rd (V.coalCount p) + 1 then
    [.vector (s.rd (HIF_RCFG.vector p)), .set (V.coalCount p) 0, .set (V.coalAt p) 0]
  else [.set (V.coalCount p) (s.rd (V.coalCount p) + 1)] ++ onlyIf (s.rd (V.coalCount p) + 1 == 1) [.set (V.coalAt p) (s.now + 1)]

theorem postWith_eq (p : Nat) (head : List Nat) (len tag : Nat) (payload : List Nat) (s : State) : ∃ a bs a' bs',
    postWith p head len tag payload s = [.store a bs, .store a' bs'] ++ .set (V.rsSeq p) (s.rd (V.rsSeq p) + 1) :: (writtenBack p s ++ coalesced p s) :=
  ⟨_, _, _, _, by rw [postWith, List.append_assoc]; rfl⟩

theorem writtenBack_stores {u : Upd} (hu : u ∈ writtenBack p s) : ∃ x l, u = .store x l :=
  all_onlyIf (P := fun u => ∃ x l, u = .store x l) (fun _ => by simp) u hu

theorem coalesced_counts {u : Upd} (hu : u ∈ coalesced p s) : (∃ v, u = .vector v) ∨ ∃ f v, u = .set f v ∧ (f = V.coalCount p ∨ f = V.coalAt p) := by
  unfold coalesced at hu
  split at hu
  · simp only [List.mem_cons, List.not_mem_nil, or_false] at hu
    obtain rfl | rfl | rfl := hu
    · exact .inl ⟨_, rfl⟩
    · exact .inr ⟨_, _, rfl, .inl rfl⟩
    · exact .inr ⟨_, _, rfl, .inr rfl⟩
  · rw [List.mem_append, List.mem_singleton] at hu
    obtain rfl | hu := hu
    · exact .inr ⟨_, _, rfl, .inl rfl⟩
    · exact .inr (all_onlyIf (P := fun u => ∃ f v, u = .set f v ∧ (f = V.coalCount p ∨ f = V.coalAt p)) (fun _ => by simp) u hu)

/-- A response sets only its ring's sequence and coalescing. -/
theorem postWith_clears {g : Fld} (hseq : g.key ≠ (V.rsSeq p).key) (hcount : g.key ≠ (V.coalCount p).key) (hat : g.key ≠ (V.coalAt p).key)
    (head : List Nat) (len tag : Nat) (payload : List Nat) (s : State) : (postWith p head len tag payload s).all (·.clears g) = true := by
  obtain ⟨a, bs, a', bs', hlist⟩ := postWith_eq p head len tag payload s
  rw [hlist, List.all_eq_true]
  intro u hu
  simp only [List.cons_append, List.nil_append, List.mem_cons, List.mem_append] at hu
  obtain rfl | rfl | rfl | hu | hu := hu
  · rfl
  · rfl
  · exact bne_iff_ne.mpr hseq
  · obtain ⟨x, l, rfl⟩ := writtenBack_stores hu
    rfl
  · obtain ⟨v, rfl⟩ | ⟨f, v, rfl, rfl | rfl⟩ := coalesced_counts hu
    · rfl
    · exact bne_iff_ne.mpr hcount
    · exact bne_iff_ne.mpr hat

/-- It takes the ring's next sequence number. -/
theorem rd_postWith {u : State} (hu : u.Wf) (hp : p < 64) (head : List Nat) (len tag : Nat) (payload : List Nat) (s : State) :
    (u.run (postWith p head len tag payload s)).rd (V.rsSeq p) = (s.rd (V.rsSeq p) + 1) % 2 ^ 32 := by
  obtain ⟨a, bs, a', bs', hlist⟩ := postWith_eq p head len tag payload s
  rw [hlist]
  refine rd_run_sets hu (messageField_rsSeq hp) [_, _] _ (List.all_eq_true.mpr fun x hx => ?_)
  obtain hx | hx := List.mem_append.mp hx
  · obtain ⟨y, l, rfl⟩ := writtenBack_stores hx
    rfl
  · have hcount : (V.rsSeq p).key ≠ (V.coalCount p).key := by dsimp only [Fld.key, V.rsSeq, V.coalCount, ivar]; omega
    have hat : (V.rsSeq p).key ≠ (V.coalAt p).key := by dsimp only [Fld.key, V.rsSeq, V.coalAt, ivar]; omega
    obtain ⟨v, rfl⟩ | ⟨f, v, rfl, rfl | rfl⟩ := coalesced_counts hx
    · rfl
    · exact bne_iff_ne.mpr hcount
    · exact bne_iff_ne.mpr hat

/-- It is no matter of the orders, nor of the buffers. -/
theorem postWith_leaves (p : Nat) (head : List Nat) (len tag : Nat) (payload : List Nat) (s u : State) :
    (u.run (postWith p head len tag payload s)).orders = u.orders ∧ (u.run (postWith p head len tag payload s)).bufs = u.bufs := by
  obtain ⟨a, bs, a', bs', hlist⟩ := postWith_eq p head len tag payload s
  have hall : ∀ x ∈ postWith p head len tag payload s, x.leavesOrders = true ∧ x.leavesBufs = true := by
    rw [hlist]
    intro x hx
    simp only [List.cons_append, List.nil_append, List.mem_cons, List.mem_append] at hx
    obtain rfl | rfl | rfl | hx | hx := hx
    · exact ⟨rfl, rfl⟩
    · exact ⟨rfl, rfl⟩
    · exact ⟨rfl, rfl⟩
    · obtain ⟨y, l, rfl⟩ := writtenBack_stores hx
      exact ⟨rfl, rfl⟩
    · obtain ⟨v, rfl⟩ | ⟨f, v, rfl, -⟩ := coalesced_counts hx <;> exact ⟨rfl, rfl⟩
  exact ⟨orders_run (List.all_eq_true.mpr fun x hx => (hall x hx).1) u, bufs_run (List.all_eq_true.mpr fun x hx => (hall x hx).2)⟩

end Sys2Proof.Machine
end

section
/-! Ring pairs are enabled, examined, resumed and disabled (R455-R463). -/

namespace Sys2Proof.Machine

variable {s t : State} {p : Nat}

/-! The control register (R455). -/

/-- The ring's coalescing, as a write of its control register sets it. -/
def ringCoalesced (p value : Nat) : List Upd := [.set (HIF_RCTL.coal_n p) (bits value 24 8), .set (HIF_RCTL.coal_us p) (bits value 16 8)]

theorem rd_ringCoalesced {value : Nat} {g : Fld} (hm : messageField g = false) (hg : ∀ lsb, lsb = 24 ∨ lsb = 16 → g.key ≠ (0xF0_1024 + 0x40 * p) * 64 + lsb) :
    (s.run (ringCoalesced p value)).rd g = s.rd g := by
  have hn : g.key ≠ (HIF_RCTL.coal_n p).key := hg 24 (.inl rfl)
  have hus : g.key ≠ (HIF_RCTL.coal_us p).key := hg 16 (.inr rfl)
  exact rd_run_clear hm (by simp [ringCoalesced, Upd.clears, hn, hus])

theorem ringConfigOk_coalesced (hp : p < 64) (value : Nat) : (s.run (ringCoalesced p value)).ringConfigOk p = s.ringConfigOk p := by
  have hfield {o lsb : Nat} (ho : o < 0x40) (hne : o ≠ 0x24) (hl : lsb < 64) (w r : Nat) :
      (s.run (ringCoalesced p value)).rd ⟨0xF0_1000 + o + 0x40 * p, lsb, w, r⟩ = s.rd ⟨0xF0_1000 + o + 0x40 * p, lsb, w, r⟩ := by
    refine rd_ringCoalesced (messageField_ring hp ho hl w r) fun l hl' => ?_
    simp only [Fld.key]
    omega
  have hrole : (s.run (ringCoalesced p value)).rd (HIF_RCFG.role p) = s.rd (HIF_RCFG.role p) := hfield (o := 0x20) (by decide) (by decide) (by decide) _ _
  have hclass : (s.run (ringCoalesced p value)).rd (HIF_RCFG.class_ p) = s.rd (HIF_RCFG.class_ p) := hfield (o := 0x20) (by decide) (by decide) (by decide) _ _
  have hrq : (s.run (ringCoalesced p value)).rd (HIF_RCFG.rq_log p) = s.rd (HIF_RCFG.rq_log p) := hfield (o := 0x20) (by decide) (by decide) (by decide) _ _
  have hrs : (s.run (ringCoalesced p value)).rd (HIF_RCFG.rs_log p) = s.rd (HIF_RCFG.rs_log p) := hfield (o := 0x20) (by decide) (by decide) (by decide) _ _
  have hrqBase : (s.run (ringCoalesced p value)).rd (HIF_RQBASE.base p) = s.rd (HIF_RQBASE.base p) := hfield (o := 0) (by decide) (by decide) (by decide) _ _
  have hrsBase : (s.run (ringCoalesced p value)).rd (HIF_RSBASE.base p) = s.rd (HIF_RSBASE.base p) := hfield (o := 8) (by decide) (by decide) (by decide) _ _
  have hcb : (s.run (ringCoalesced p value)).rd (HIF_RCB.base p) = s.rd (HIF_RCB.base p) := hfield (o := 0x10) (by decide) (by decide) (by decide) _ _
  have harea : (s.run (ringCoalesced p value)).rd HIF_HABASE.base = s.rd HIF_HABASE.base :=
    rd_ringCoalesced (by decide) fun l hl => by simp only [Fld.key, HIF_HABASE.base]; omega
  have hsize : (s.run (ringCoalesced p value)).rd HIF_HASIZE.size = s.rd HIF_HASIZE.size :=
    rd_ringCoalesced (by decide) fun l hl => by simp only [Fld.key, HIF_HASIZE.size]; omega
  unfold State.ringConfigOk State.inHostArea State.rqSize State.rsSize
  rw [hrole, hclass, hrq, hrs, hrqBase, hrsBase, hcb, harea, hsize]

theorem rd_en_coalesced (hp : p < 64) (value : Nat) : (s.run (ringCoalesced p value)).rd (HIF_RCTL.en p) = s.rd (HIF_RCTL.en p) :=
  rd_ringCoalesced (messageField_ringEn hp) fun l hl => by simp only [Fld.key, HIF_RCTL.en]; omega

theorem exec_ringEnable {req value : Nat} (hp : p < 64) (hreach : s.Reaches req (0xF0_1024 + 0x40 * p) 4 value false) :
    exec (.ringEnable req p value) s = .next ((ringControl p value s).run (hostTraffic req true 4)) := by
  change execRingEnable req p value s = _
  rw [execRingEnable, if_pos hp, gated_of_reaches hreach]

theorem off_of_zero {f : Fld} (h : s.rd f = 0) : s.on f = false := by simp [State.on, h]

/-- A write that enables a ring that is off. -/
theorem ringControl_enables {value : Nat} (hon : bit value 0 = true) (hoff : s.rd (HIF_RCTL.en p) = 0) :
    ringControl p value s = (s.run (ringCoalesced p value)).does (ringOn p) := by
  unfold ringControl
  rw [if_pos hon, off_of_zero hoff]
  rfl

theorem ringOn_runs (hs : s.Wf) (hp : p < 64) (hok : s.ringConfigOk p = true) :
    (s.does (ringOn p)).rd (HIF_RCTL.en p) = 1 ∧ (s.does (ringOn p)).rd (HIF_RSTAT.state p) = RingS.run ∧ (s.does (ringOn p)).rd (V.rqSeq p) = 0 ∧
      (s.does (ringOn p)).rd (V.rsSeq p) = 0 ∧ Raised Ty.RING_EVENT (s.does (ringOn p)) := by
  have hclass : s.rd (HIF_RCFG.class_ p) < 4 := rd_lt s (HIF_RCFG.class_ p)
  set c := s.rd (HIF_RCFG.class_ p) with hc
  set drains := onlyIf (s.rd (HIF_RCFG.role p) == 2) [.set (HIF_DRPOS.pos c) (s.rd (JRN_ACK.ack c)), .set (V.drained c) 0] with hdrains
  have hlist : ringOn p s = [.set (HIF_RCTL.en p) 1, .store (s.rd (HIF_RCB.base p)) (List.replicate 16 0), .set (V.rqSeq p) 0, .set (V.rsSeq p) 0,
      .set (V.coalCount p) 0, .set (V.coalAt p) 0, .set (V.ringDue p) 0, .set (HIF_RSTAT.state p) RingS.run, .set (HIF_RSTAT.starved p) 0] ++ drains ++
      [ringEvent p 1 0 0] := if_pos hok
  have hdrained {g : Fld} (hpos : g.key ≠ (HIF_DRPOS.pos c).key) (hdone : g.key ≠ (V.drained c).key) : drains.all (·.clears g) = true := by
    rw [hdrains, all_onlyIf_eq]
    simp [Upd.clears, hpos, hdone]
  have hring (o lsb w r : Nat) (hl : lsb < 64) : drains.all (·.clears ⟨0xF0_1000 + o + 0x40 * p, lsb, w, r⟩) = true ∨ 0x1_0000 ≤ o := by
    by_cases ho : o < 0x1_0000
    · refine .inl (hdrained ?_ ?_) <;> simp only [Fld.key, HIF_DRPOS.pos, V.drained, ivar] <;> omega
    · exact .inr (by omega)
  have hscalar (id w r : Nat) (hid : id < 0x15C) : drains.all (·.clears (ivar id p w r)) = true := by
    refine hdrained ?_ ?_ <;> simp only [Fld.key, HIF_DRPOS.pos, V.drained, ivar] <;> omega
  have hnote (g : Fld) : Upd.clears g (ringEvent p 1 0 0) = true := rfl
  rw [does_eq, hlist, List.append_assoc]
  refine ⟨(rd_run_sets hs (messageField_ringEn hp) [] 1 ?_).trans rfl, (rd_run_sets hs (messageField_ringState hp) [_, _, _, _, _, _, _] RingS.run ?_).trans rfl,
    (rd_run_sets hs (messageField_rqSeq hp) [_, _] 0 ?_).trans rfl, (rd_run_sets hs (messageField_rsSeq hp) [_, _, _] 0 ?_).trans rfl, ?_⟩
  · have hclear : drains.all (·.clears (HIF_RCTL.en p)) = true := (hring 0x24 0 1 0 (by decide)).resolve_right (by decide)
    simp only [List.append_eq, List.cons_append, List.nil_append, List.all_cons, List.all_append, List.all_nil, hclear, hnote, Bool.and_true]
    simp [Upd.clears, Fld.key, HIF_RCTL.en, V.rqSeq, V.rsSeq, V.coalCount, V.coalAt, V.ringDue, HIF_RSTAT.state, HIF_RSTAT.starved, ivar]
    omega
  · have hclear : drains.all (·.clears (HIF_RSTAT.state p)) = true := (hring 0x28 29 3 0 (by decide)).resolve_right (by decide)
    simp only [List.append_eq, List.cons_append, List.nil_append, List.all_cons, List.all_append, List.all_nil, hclear, hnote, Bool.and_true]
    simp [Upd.clears, Fld.key, HIF_RSTAT.state, HIF_RSTAT.starved]
  · have hclear : drains.all (·.clears (V.rqSeq p)) = true := hscalar 0x155 32 0 (by decide)
    simp only [List.append_eq, List.cons_append, List.nil_append, List.all_cons, List.all_append, List.all_nil, hclear, hnote, Bool.and_true]
    simp [Upd.clears, Fld.key, V.rqSeq, V.rsSeq, V.coalCount, V.coalAt, V.ringDue, HIF_RSTAT.state, HIF_RSTAT.starved, ivar]
    omega
  · have hclear : drains.all (·.clears (V.rsSeq p)) = true := hscalar 0x156 32 0 (by decide)
    simp only [List.append_eq, List.cons_append, List.nil_append, List.all_cons, List.all_append, List.all_nil, hclear, hnote, Bool.and_true]
    simp [Upd.clears, Fld.key, V.rsSeq, V.coalCount, V.coalAt, V.ringDue, HIF_RSTAT.state, HIF_RSTAT.starved, ivar]
    omega
  · rw [← List.append_assoc]
    exact raised_run_note _ _ _ _ s

theorem ringEnable_runs (hs : s.Wf) {req value : Nat} (hp : p < 64) (hreach : s.Reaches req (0xF0_1024 + 0x40 * p) 4 value false)
    (hon : bit value 0 = true) (hoff : s.rd (HIF_RCTL.en p) = 0) (hok : s.ringConfigOk p = true) :
    Gives (.ringEnable req p value) s (fun t => t.rd (HIF_RCTL.en p) = 1 ∧ t.rd (HIF_RSTAT.state p) = RingS.run ∧ t.rd (V.rqSeq p) = 0 ∧
      t.rd (V.rsSeq p) = 0 ∧ Raised Ty.RING_EVENT t) := by
  refine ⟨_, exec_ringEnable hp hreach, ?_⟩
  rw [ringControl_enables hon hoff]
  simp only [rd_run_hostTraffic, Raised, hostTraffic_firn]
  exact ringOn_runs (run_wf _ hs) hp ((ringConfigOk_coalesced hp value).trans hok)

/-- What an error that does not halt shows of its ring. -/
theorem ringError_shows (hs : s.Wf) (hp : p < 64) {code : Nat} (hcode : code < 256) (seq : Nat) :
    (s.run (ringError p code seq false)).rd (HIF_RSTAT.err p) = code ∧ (s.run (ringError p code seq false)).rd HIF_EVT.ring_err = 1 := by
  have hm : messageField (HIF_RSTAT.err p) = false := messageField_ring (o := 0x28) hp (by decide) (by decide) _ _
  refine ⟨(rd_run_sets hs hm [] code ?_).trans (Nat.mod_eq_of_lt hcode), (rd_run_sets hs (by decide) [_, _] 1 rfl).trans rfl⟩
  simp [ringEvent, hostNote, note, Upd.clears, Fld.key, HIF_RSTAT.err, HIF_RERRSEQ.seq, HIF_EVT.ring_err]
  omega

theorem ringEnable_fails (hs : s.Wf) {req value : Nat} (hp : p < 64) (hreach : s.Reaches req (0xF0_1024 + 0x40 * p) 4 value false)
    (hon : bit value 0 = true) (hoff : s.rd (HIF_RCTL.en p) = 0) (hbad : s.ringConfigOk p = false) :
    Gives (.ringEnable req p value) s (fun t => t.rd (HIF_RCTL.en p) = 0 ∧ t.rd (HIF_RSTAT.err p) = 1 ∧ t.rd HIF_EVT.ring_err = 1 ∧ t.mem = s.mem) := by
  set u := s.run (ringCoalesced p value) with hu
  have hlist : ringOn p u = ringError p 1 0 false := if_neg (by rw [ringConfigOk_coalesced hp value, hbad]; decide)
  obtain ⟨herr, hevent⟩ := ringError_shows (s := u) (run_wf _ hs) hp (by decide : 1 < 256) 0
  refine ⟨_, exec_ringEnable hp hreach, ?_⟩
  rw [ringControl_enables hon hoff, does_eq, hlist]
  simp only [rd_run_hostTraffic]
  refine ⟨(rd_run_clear (messageField_ringEn hp) ?_).trans ((rd_en_coalesced hp value).trans hoff), herr, hevent, ?_⟩
  · simp [ringError, ringEvent, hostNote, note, Upd.clears, Fld.key, HIF_RCTL.en, HIF_RSTAT.err, HIF_RERRSEQ.seq, HIF_EVT.ring_err]
    omega
  · obtain ⟨x, hx⟩ := run_hostTraffic (u.run (ringError p 1 0 false)) req true 4
    rw [hx]
    rfl

theorem ringEnable_disables (hs : s.Wf) {req value : Nat} (hp : p < 64) (hreach : s.Reaches req (0xF0_1024 + 0x40 * p) 4 value false)
    (hoff : bit value 0 = false) (hon : s.rd (HIF_RCTL.en p) = 1) :
    Gives (.ringEnable req p value) s (fun t => t.rd (HIF_RCTL.en p) = 0 ∧ t.rd (HIF_RSTAT.state p) = RingS.off ∧ (∀ b ∈ t.bufs, b.ring ≠ p) ∧
      t.mem = s.mem) := by
  set u := s.run (ringCoalesced p value) with hu
  have hwf : u.Wf := run_wf _ hs
  have hlist : ringOff p u = [.set (HIF_RCTL.en p) 0, .set (HIF_RSTAT.state p) RingS.off, .set (HIF_RSTAT.starved p) 0, .set (V.ringDue p) 0,
      .set (V.coalCount p) 0, .set (V.coalAt p) 0, .bufs (u.bufs.filter (fun b => b.ring != p)), ringEvent p 2 0 (u.rd (V.rqSeq p))] := by
    rw [ringOff, State.on, rd_en_coalesced hp value, hon]
    rfl
  have hrun : ringControl p value s = u.does (ringOff p) := by
    unfold ringControl
    rw [if_neg (by simp [hoff])]
    rfl
  refine ⟨_, exec_ringEnable hp hreach, ?_⟩
  obtain ⟨x, hx⟩ := run_hostTraffic (u.does (ringOff p)) req true 4
  rw [hrun]
  refine ⟨?_, ?_, ?_, ?_⟩
  · rw [rd_run_hostTraffic, does_eq, hlist]
    refine (rd_run_sets hwf (messageField_ringEn hp) [] 0 ?_).trans rfl
    simp [ringEvent, hostNote, note, Upd.clears, Fld.key, HIF_RCTL.en, V.coalCount, V.coalAt, V.ringDue, HIF_RSTAT.state, HIF_RSTAT.starved, ivar]
    omega
  · rw [rd_run_hostTraffic, does_eq, hlist]
    refine (rd_run_sets hwf (messageField_ringState hp) [_] RingS.off ?_).trans rfl
    simp [ringEvent, hostNote, note, Upd.clears, Fld.key, V.coalCount, V.coalAt, V.ringDue, HIF_RSTAT.state, HIF_RSTAT.starved, ivar]
    omega
  · rw [hx, does_eq, hlist]
    intro b hb
    simpa using (List.mem_filter.mp hb).2
  · rw [hx, does_eq, hlist]
    rfl

/-! The doorbell, the poll and the resume (R459, R460). -/

theorem examine_marks (hs : s.Wf) (hp : p < 64) (hwaiting : s.ringWaiting p) (hruns : s.rd (HIF_RSTAT.state p) = RingS.run) :
    (s.does (examine p)).rd (V.ringDue p) = 1 ∧ OnlyFields [V.ringDue p] s (s.does (examine p)) := by
  rw [does_eq, examine_of_waiting hwaiting hruns]
  exact ⟨(rd_run_sets hs (messageField_ringDue hp) [] 1 rfl).trans rfl, onlyFields_run_of_bus (by simp [Upd.setsOnly]) rfl⟩

theorem doorbell_marks (hs : s.Wf) {req value : Nat} (hp : p < 64) (hreach : s.Reaches req (0xF0_1030 + 0x40 * p) 4 value false)
    (hbell : bit value 0 = true) (hdecode : s.decoding = true) (hwaiting : s.ringWaiting p) (hruns : s.rd (HIF_RSTAT.state p) = RingS.run) :
    Gives (.doorbell req p value) s (fun t => t.rd (V.ringDue p) = 1 ∧ OnlyFields [V.ringDue p] s t) := by
  have hexec : exec (.doorbell req p value) s = .next ((s.does (examine p)).run (hostTraffic req true 4)) := by
    change execDoorbell req p value s = _
    rw [execDoorbell, if_pos hp, gated_of_reaches hreach, if_pos (by simp [hbell, hdecode])]
  obtain ⟨hmarked, hframe⟩ := examine_marks hs hp hwaiting hruns
  exact ⟨_, hexec, (rd_run_hostTraffic _ _ _ _ _).trans hmarked, hframe.traffic _ _ _⟩

/-- The poll looks at a ring that waits and runs: it is marked in the end, however it stood. -/
theorem poll_marks (hp : p < 64) (l : List Nat) (hl : ∀ q ∈ l, q < 64) (hs : s.Wf) (hwaiting : s.ringWaiting p)
    (hruns : s.rd (HIF_RSTAT.state p) = RingS.run) (hdue : p ∈ l ∨ s.rd (V.ringDue p) = 1) : (s.doEach l examine).rd (V.ringDue p) = 1 := by
  induction l generalizing s with
  | nil => exact hdue.resolve_left (by simp)
  | cons q l ih =>
    have hq := hl q (by simp)
    have hstate : (HIF_RSTAT.state p).key = (0xF0_1028 + 0x40 * p) * 64 + 29 := rfl
    have hmark : (V.ringDue p).key = (0x1_0153_0000 + p) * 64 := rfl
    refine ih (fun x hx => hl x (by simp [hx])) (run_wf _ hs) (ringWaiting_after_look hp hq hwaiting) ?_ ?_
    · by_cases hpq : q = p
      · subst hpq
        exact ((examine_marks hs hp hwaiting hruns).2.1 _ (messageField_ringState hp) (by simp [Fld.key, HIF_RSTAT.state, V.ringDue, ivar]; omega)).trans hruns
      · exact (rd_look (messageField_ringState hp) (by omega) (by omega) (by omega) s).trans hruns
    · by_cases hpq : q = p
      · subst hpq
        exact .inr (examine_marks hs hp hwaiting hruns).1
      · refine hdue.imp (fun hmem => (List.mem_cons.mp hmem).resolve_left (Ne.symm hpq)) fun hmarked => ?_
        exact (rd_look (messageField_ringDue hp) (by omega) (by omega) (by omega) s).trans hmarked

/-- The poll leaves memory, and the releases that a reset of the function owes. -/
theorem poll_leaves (l : List Nat) (hl : ∀ q ∈ l, q < 64) : (s.doEach l examine).rd V.flrOwed = s.rd V.flrOwed ∧ (s.doEach l examine).mem = s.mem := by
  induction l generalizing s with
  | nil => exact ⟨rfl, rfl⟩
  | cons q l ih =>
    have hq := hl q (by simp)
    have hkey : V.flrOwed.key = 0x1_0159_0000 * 64 := rfl
    obtain ⟨-, hmem, -⟩ := examine_onlyFields q s
    obtain ⟨howed, hlater⟩ := ih (s := s.does (examine q)) fun x hx => hl x (by simp [hx])
    exact ⟨howed.trans (rd_look (by decide) (by omega) (by omega) (by omega) s), hlater.trans hmem⟩

theorem ringResume_marks (hs : s.Wf) (hp : p < 64) (hdecode : s.decoding = true) (hpaused : s.rd (HIF_RSTAT.state p) = RingS.paused)
    (hwaiting : s.ringWaiting p) :
    Gives (.ringResume p) s (fun t => t.rd (HIF_RSTAT.state p) = RingS.run ∧ t.rd (V.ringDue p) = 1 ∧ OnlyFields [HIF_RSTAT.state p, V.ringDue p] s t) := by
  set u := s.run [.set (HIF_RSTAT.state p) RingS.run] with hu
  have hruns : u.rd (HIF_RSTAT.state p) = RingS.run := (rd_run_sets hs (messageField_ringState hp) [] RingS.run rfl).trans rfl
  have hstill : u.ringWaiting p := by
    refine ringWaiting_of_same hwaiting rfl fun g hg => rd_run_clear (messageField_ringFields hp hg) ?_
    have hkey : (HIF_RSTAT.state p).key = (0xF0_1028 + 0x40 * p) * 64 + 29 := rfl
    have := ringFields_key hg
    simp only [List.all_cons, List.all_nil, Upd.clears, Bool.and_true, bne_iff_ne]
    omega
  refine ⟨_, whenever_of (by simp [hdecode, hp, hpaused, hwaiting.goes]) _ _, ?_⟩
  obtain ⟨hmarked, hframe⟩ := examine_marks (run_wf _ hs) hp hstill hruns
  refine ⟨(hframe.1 _ (messageField_ringState hp) (by simp [Fld.key, HIF_RSTAT.state, V.ringDue, ivar]; omega)).trans hruns, hmarked, ?_⟩
  rw [does_eq, examine_of_waiting hstill hruns, ← run_append]
  exact onlyFields_run_of_bus (by simp [Upd.setsOnly]) rfl

/-! Coalescing and the service core's responses (R461, R463). -/

theorem interruptCoalesce_clears (hs : s.Wf) (hp : p < 64) (hat : s.rd (V.coalAt p) ≠ 0)
    (hdue : s.rd (V.coalAt p) - 1 + 4000 * s.rd (HIF_RCTL.coal_us p) ≤ s.now) :
    Gives (.interruptCoalesce p) s (fun t => t.rd (V.coalCount p) = 0 ∧ t.rd (V.coalAt p) = 0 ∧ OnlyFields [V.coalCount p, V.coalAt p] s t) := by
  have hmcount : messageField (V.coalCount p) = false := messageField_ivar (by omega) (by decide) (by decide) _ _
  have hmat : messageField (V.coalAt p) = false := messageField_ivar (by omega) (by decide) (by decide) _ _
  have hvector (v : Nat) : OnlyFields [V.coalCount p, V.coalAt p] s (s.apply (.vector v)) := by
    refine ⟨fun g hm _ => rd_vector s v hm, ?_⟩
    simp [State.apply]
  refine ⟨_, whenever_of (by simp [hp, hat, hdue]) _ _, (rd_run_sets hs hmcount [_] 0 ?_).trans rfl, (rd_run_sets hs hmat [_, _] 0 rfl).trans rfl,
    (hvector _).trans (onlyFields_run_of_bus (by simp [Upd.setsOnly]) rfl)⟩
  simp [Upd.clears, Fld.key, V.coalCount, V.coalAt, ivar]

theorem servicePush_of_full {value : Nat} (hpush : bit value 6 = true) (hen : s.rd (HIF_RCTL.en (bits value 0 6)) = 1)
    (hfull : s.respFull (bits value 0 6) = true) : servicePush value s = [.set HIF_SVCSTAT.full 1] := by
  simp [servicePush, hpush, State.on, hen, hfull]

theorem svcpush_posts (hs : s.Wf) {req value : Nat} (hreach : s.Reaches req 0xF0_0340 4 value false) (hpush : bit value 6 = true)
    (hen : s.rd (HIF_RCTL.en (bits value 0 6)) = 1) (hroom : s.respFull (bits value 0 6) = false) :
    Gives (.svcpush req value) s (fun t => t.rd (V.rsSeq (bits value 0 6)) = (s.rd (V.rsSeq (bits value 0 6)) + 1) % 2 ^ 32 ∧ t.rd HIF_SVCSTAT.full = 0) := by
  have hp : bits value 0 6 < 64 := bits_lt value 0 6
  have hlist : servicePush value s = .set HIF_SVCSTAT.full 0 :: postWith (bits value 0 6) (s.serviceResponse.take 4) (leAt s.serviceResponse 4 2)
      (leAt s.serviceResponse 12 4) (s.serviceResponse.drop 24) s := by
    simp [servicePush, hpush, State.on, hen, hroom]
  refine ⟨_, gated_of_reaches hreach _, ?_, ?_⟩
  · rw [rd_run_hostTraffic, does_eq, hlist, run_cons]
    exact rd_postWith (apply_wf _ hs) hp _ _ _ _ s
  · rw [rd_run_hostTraffic, does_eq, hlist]
    have hclear := postWith_clears (p := bits value 0 6) (g := HIF_SVCSTAT.full) (by dsimp only [Fld.key, HIF_SVCSTAT.full, V.rsSeq, ivar]; omega)
      (by dsimp only [Fld.key, HIF_SVCSTAT.full, V.coalCount, ivar]; omega) (by dsimp only [Fld.key, HIF_SVCSTAT.full, V.coalAt, ivar]; omega)
    exact (rd_run_sets hs (by decide) [] 0 (hclear _ _ _ _ s)).trans rfl

/-- Settles O45: each write's own updates; the decoder's look at a ring is decided by fields that no look sets. -/
theorem ringCommandsTakeEffect : Obligations.RingCommandsTakeEffect := by
  unfold Obligations.RingCommandsTakeEffect
  refine ⟨fun _ _ _ _ hs hp hreach hon hoff hok => ringEnable_runs hs hp hreach hon hoff hok,
    fun _ _ _ _ hs hp hreach hon hoff hbad => ringEnable_fails hs hp hreach hon hoff hbad,
    fun _ _ _ _ hs hp hreach hoff hon => ringEnable_disables hs hp hreach hoff hon,
    fun _ _ _ _ hs hreach hbell hdecode hp hruns htail hhead hmore hseq hgoes =>
      doorbell_marks hs hp hreach hbell hdecode ⟨htail, hhead, hmore, hseq, hgoes⟩ hruns, ?_,
    fun _ _ hs hdecode hp hpaused hgoes htail hhead hmore hseq => ringResume_marks hs hp hdecode hpaused ⟨htail, hhead, hmore, hseq, hgoes⟩,
    fun _ _ hs hp hat hdue => interruptCoalesce_clears hs hp hat hdue, ?_, ?_⟩
  · intro s p hs hdecode hp hruns htail hhead hmore hseq hgoes
    have hrange : ∀ q ∈ List.range 64, q < 64 := fun q hq => List.mem_range.mp hq
    exact ⟨_, whenever_of hdecode _ _, poll_marks hp _ hrange hs ⟨htail, hhead, hmore, hseq, hgoes⟩ hruns (.inl (List.mem_range.mpr hp)), poll_leaves _ hrange⟩
  · intro s req value hs hreach hpush hen hfull
    exact svcpush_posts hs hreach hpush hen hfull
  · intro s req value hs hreach hpush hen hfull
    refine ⟨_, gated_of_reaches hreach _, ?_, OnlyFields.traffic ?_ _ _ _⟩
    · rw [rd_run_hostTraffic, does_eq, servicePush_of_full hpush hen hfull]
      exact (rd_run_sets hs (by decide) [] 1 rfl).trans rfl
    · rw [does_eq, servicePush_of_full hpush hen hfull]
      exact onlyFields_run_of_bus (by simp [Upd.setsOnly]) rfl

end Sys2Proof.Machine
end

section
/-! The decoder takes a request from a ring (R456-R462). -/

namespace Sys2Proof.Machine

variable {s u : State} {p : Nat}

/-! A request is consumed (R456). -/

/-- What a request comes to after its own effect: it is consumed, and the decoder looks at its ring again. -/
def State.consumed (u : State) (p : Nat) : State := (u.does (consume p)).does (examine p)

theorem decodeRequest_wellFormed {typ : Nat} (fx : State → List Upd) (hdecode : s.decoding = true) (hp : p < 64) (hnext : s.nextRing = some p)
    (hcode : s.unaccepted p = 0) (htyp : s.reqField p 2 1 = typ) (hone : typ ≠ 0) (hwell : s.malformed p = false) :
    decodeRequest p typ fx s = .next ((s.does fx).consumed p) := by
  unfold decodeRequest
  extract_lets code t
  have ht : t = s.does fx := by simp [t, code, hcode, hwell]
  rw [whenever_of (by simp [code, hdecode, hp, hnext, hcode, htyp, hone]), ht]
  rfl

theorem decodeRequest_unaccepted (fx : State → List Upd) (hdecode : s.decoding = true) (hp : p < 64) (hnext : s.nextRing = some p)
    (hcode : s.unaccepted p ≠ 0) : decodeRequest p 0 fx s = .next ((s.does (answerError p (s.unaccepted p))).consumed p) := by
  unfold decodeRequest
  extract_lets code t
  have ht : t = s.does (answerError p (s.unaccepted p)) := if_pos hcode
  rw [whenever_of (by simp [code, hdecode, hp, hnext, hcode]), ht]
  rfl

theorem consumed_counts (hu : u.Wf) (hp : p < 64) : (u.consumed p).rd (V.rqSeq p) = (u.rd (V.rqSeq p) + 1) % 2 ^ 32 ∧
    (u.consumed p).rd V.ringLast = (p + 1) % 64 ∧ (u.consumed p).orders = u.orders ∧ (u.consumed p).bufs = u.bufs := by
  have hseq : (V.rqSeq p).key = (0x1_0155_0000 + p) * 64 := rfl
  have hlast : V.ringLast.key = 0x1_0154_0000 * 64 := rfl
  obtain ⟨-, -, -, horders, -, -, -, -, -, -, -, -, -, -, hbufs, -⟩ := examine_onlyFields p (u.does (consume p))
  refine ⟨(rd_look (messageField_rqSeq hp) (by omega) (by omega) (by omega) _).trans (rd_run_sets hu (messageField_rqSeq hp) [_] _ ?_),
    (rd_look (by decide) (by omega) (by omega) (by omega) _).trans ((rd_run_sets hu (by decide) [_, _, _] _ rfl).trans ?_), horders, hbufs⟩
  · have hother : Upd.clears (V.rqSeq p) (.set V.ringLast ((p + 1) % 64)) = true := bne_iff_ne.mpr (by omega)
    simp only [List.all_cons, List.all_nil, hother, Bool.and_true]
    rfl
  · exact Nat.mod_eq_of_lt ((Nat.mod_lt _ (by decide)).trans (by decide))

/-- Every field but those of the consumption and of the look. -/
theorem rd_consumed (hp : p < 64) {g : Fld} (hm : messageField g = false) (hevent : g.key ≠ 0xF0_0004 * 64 + 3)
    (hring : g.key < (0xF0_1028 + 0x40 * p) * 64 ∨ (0xF0_1030 + 0x40 * p) * 64 ≤ g.key)
    (hscalar : g.key < 0x1_0153_0000 * 64 ∨ 0x1_0156_0000 * 64 ≤ g.key) (u : State) : (u.consumed p).rd g = u.rd g := by
  have hseq : g.key ≠ (V.rqSeq p).key := by dsimp only [Fld.key, V.rqSeq, ivar]; simp only [Fld.key] at hscalar; omega
  have hlast : g.key ≠ V.ringLast.key := by dsimp only [Fld.key, V.ringLast, ivar]; simp only [Fld.key] at hscalar; omega
  refine (rd_look hm hevent hring (by omega) _).trans (rd_run_clear hm ?_)
  simp [consume, Upd.clears, hseq, hlast]

/-! The requests. -/

theorem decoded_clears {g : Fld} (o : Order) (r : Rec) (s : State) : (if o.blk < 5 then decodeOrder o s else [.emit r]).all (·.clears g) = true := by
  split
  · unfold decodeOrder
    extract_lets code
    split
    · simp [acceptOrder, Upd.clears]
    · rfl
  · rfl

/-- An ORDER takes a HOST number and is answered; what it does to the orders is decodeOrder's. -/
theorem hostOrderFx_takes (hs : s.Wf) (hp : p < 64) :
    (s.does (hostOrderFx p)).rd (V.rqSeq p) = s.rd (V.rqSeq p) ∧
      (s.does (hostOrderFx p)).rd HIF_ORDSEQ.next = (s.rd HIF_ORDSEQ.next + 1) % 2 ^ 32 ∧
      (s.does (hostOrderFx p)).rd (V.rsSeq p) = (s.rd (V.rsSeq p) + 1) % 2 ^ 32 ∧
      (s.decodeResult (s.hostOrder p) = 0 → s.hostOrder p ∈ (s.does (hostOrderFx p)).orders.pend) ∧
      (s.decodeResult (s.hostOrder p) ≠ 0 → (s.does (hostOrderFx p)).orders = s.orders) := by
  set decoded : List Upd := if (s.hostOrder p).blk < 5 then decodeOrder (s.hostOrder p) s
      else [.emit { s.orderRec (s.hostOrder p) 1 s.now with src := srcOf 0xC p }] with hdecoded
  obtain ⟨haccept, hrefuse⟩ := decodeOrElse_orders (s.hostOrder p) _ s hdecoded
  have hclear (g : Fld) : decoded.all (·.clears g) = true := decoded_clears _ _ s
  set us := decoded ++ [bump s HIF_ORDSEQ.next] with hus
  obtain ⟨head, len, tag, payload, hlist⟩ : ∃ head len tag payload, hostOrderFx p s = us ++ postWith p head len tag payload s := ⟨_, _, _, _, rfl⟩
  have hwf : (s.run us).Wf := run_wf us hs
  have horders : (s.run us).orders = (s.run decoded).orders := by
    rw [hus, run_append]
    rfl
  rw [does_eq, hlist, run_append, (postWith_leaves p head len tag payload s (s.run us)).1, horders]
  have hnumber : HIF_ORDSEQ.next.key = 0xF0_001C * 64 := rfl
  have hrq : (V.rqSeq p).key = (0x1_0155_0000 + p) * 64 := rfl
  have hrs : (V.rsSeq p).key = (0x1_0156_0000 + p) * 64 := rfl
  have hcount : (V.coalCount p).key = (0x1_0157_0000 + p) * 64 := rfl
  have hat : (V.coalAt p).key = (0x1_0158_0000 + p) * 64 := rfl
  refine ⟨?_, ?_, rd_postWith hwf hp _ _ _ _ s, haccept, hrefuse⟩
  · refine (rd_run_clear (messageField_rqSeq hp) (postWith_clears (by omega) (by omega) (by omega) _ _ _ _ s)).trans (rd_run_clear (messageField_rqSeq hp) ?_)
    have hbump : Upd.clears (V.rqSeq p) (bump s HIF_ORDSEQ.next) = true := bne_iff_ne.mpr (by omega)
    rw [hus, List.all_append, hclear]
    simp [hbump]
  · exact (rd_run_clear (by decide) (postWith_clears (by omega) (by omega) (by omega) _ _ _ _ s)).trans (rd_run_sets hs (by decide) decoded _ rfl)

theorem order_waits (hs : s.Wf) (hp : p < 64) (hdecode : s.decoding = true) (hnext : s.nextRing = some p) (hcode : s.unaccepted p = 0)
    (htyp : s.reqField p 2 1 = 1) (hwell : s.malformed p = false) :
    Gives (.order p) s (fun t => t.rd (V.rqSeq p) = (s.rd (V.rqSeq p) + 1) % 2 ^ 32 ∧ t.rd V.ringLast = (p + 1) % 64 ∧
      t.rd HIF_ORDSEQ.next = (s.rd HIF_ORDSEQ.next + 1) % 2 ^ HIF_ORDSEQ.next.width ∧ t.rd (V.rsSeq p) = (s.rd (V.rsSeq p) + 1) % 2 ^ 32 ∧
      ((s.hostOrder p).blk < 5 → s.decodeResult (s.hostOrder p) = 0 → s.hostOrder p ∈ t.orders.pend) ∧
      (s.decodeResult (s.hostOrder p) ≠ 0 → t.orders = s.orders)) := by
  obtain ⟨hrq, hnumber, hrs, haccept, hrefuse⟩ := hostOrderFx_takes hs hp
  obtain ⟨hseq, hlast, horders, -⟩ := consumed_counts (run_wf (hostOrderFx p s) hs) hp
  have hkey : HIF_ORDSEQ.next.key = 0xF0_001C * 64 := rfl
  have hrsKey : (V.rsSeq p).key = (0x1_0156_0000 + p) * 64 := rfl
  refine ⟨_, decodeRequest_wellFormed _ hdecode hp hnext hcode htyp (by decide) hwell, hseq.trans ?_, hlast, ?_, ?_, fun _ h => ?_, fun h => ?_⟩
  · rw [does_eq] at hrq
    rw [hrq]
  · exact (rd_consumed hp (by decide) (by omega) (by omega) (by omega) _).trans hnumber
  · exact (rd_consumed hp (messageField_rsSeq hp) (by omega) (by omega) (by omega) _).trans hrs
  · rw [does_eq, horders]
    exact haccept h
  · exact horders.trans (hrefuse h)

theorem buffer_waits (hs : s.Wf) (hp : p < 64) (hdecode : s.decoding = true) (hnext : s.nextRing = some p) (hcode : s.unaccepted p = 0)
    (htyp : s.reqField p 2 1 = 2) (hwell : s.malformed p = false) :
    Gives (.buffer p) s (fun t => t.rd (V.rqSeq p) = (s.rd (V.rqSeq p) + 1) % 2 ^ 32 ∧ t.rd V.ringLast = (p + 1) % 64 ∧
      t.bufs = s.bufs ++ [⟨p, s.reqField p 8 4, s.reqField p 12 4, s.reqField p 24 8, s.reqField p 32 4⟩] ∧ t.orders = s.orders) := by
  obtain ⟨hseq, hlast, horders, hbufs⟩ := consumed_counts (run_wf (bufferFx p s) hs) hp
  have hrq : (s.run (bufferFx p s)).rd (V.rqSeq p) = s.rd (V.rqSeq p) := by
    refine rd_run_clear (messageField_rqSeq hp) ?_
    simp [bufferFx, Upd.clears, Fld.key, V.rqSeq, HIF_RSTAT.starved, ivar]
    omega
  refine ⟨_, decodeRequest_wellFormed _ hdecode hp hnext hcode htyp (by decide) hwell, hseq.trans (by rw [hrq]), hlast, hbufs.trans rfl, horders.trans rfl⟩

theorem service_enters (hs : s.Wf) (hp : p < 64) (hdecode : s.decoding = true) (hnext : s.nextRing = some p) (hcode : s.unaccepted p = 0)
    (htyp : s.reqField p 2 1 = 3) (hwell : s.malformed p = false) :
    Gives (.service p) s (fun t => t.rd (V.rqSeq p) = (s.rd (V.rqSeq p) + 1) % 2 ^ 32 ∧ t.rd V.ringLast = (p + 1) % 64 ∧
      t.rd HIF_SVCQPTR.tail = (s.rd HIF_SVCQPTR.tail + 1) % 256 ∧ t.orders = s.orders) := by
  obtain ⟨hseq, hlast, horders, -⟩ := consumed_counts (run_wf (serviceFx p s) hs) hp
  have hkey : HIF_SVCQPTR.tail.key = 0xF0_0350 * 64 + 16 := rfl
  have hrq : (s.run (serviceFx p s)).rd (V.rqSeq p) = s.rd (V.rqSeq p) := by
    refine rd_run_clear (messageField_rqSeq hp) ?_
    simp [serviceFx, bump, Upd.clears, Fld.key, V.rqSeq, HIF_SVCQPTR.tail, ivar]
    omega
  refine ⟨_, decodeRequest_wellFormed _ hdecode hp hnext hcode htyp (by decide) hwell, hseq.trans (by rw [hrq]), hlast, ?_, horders.trans rfl⟩
  exact (rd_consumed hp (by decide) (by omega) (by omega) (by omega) _).trans (rd_run_sets hs (by decide) [_] _ rfl)

/-- A response leaves the requests' sequence. -/
theorem rd_rqSeq_posted (hp : p < 64) (head : List Nat) (len tag : Nat) (payload : List Nat) :
    (s.run (postWith p head len tag payload s)).rd (V.rqSeq p) = s.rd (V.rqSeq p) := by
  have hrq : (V.rqSeq p).key = (0x1_0155_0000 + p) * 64 := rfl
  have hrs : (V.rsSeq p).key = (0x1_0156_0000 + p) * 64 := rfl
  have hcount : (V.coalCount p).key = (0x1_0157_0000 + p) * 64 := rfl
  have hat : (V.coalAt p).key = (0x1_0158_0000 + p) * 64 := rfl
  exact rd_run_clear (messageField_rqSeq hp) (postWith_clears (by omega) (by omega) (by omega) _ _ _ _ s)

theorem ping_answers (hs : s.Wf) (hp : p < 64) (hdecode : s.decoding = true) (hnext : s.nextRing = some p) (hcode : s.unaccepted p = 0)
    (htyp : s.reqField p 2 1 = 4) (hwell : s.malformed p = false) :
    Gives (.ping p) s (fun t => t.rd (V.rqSeq p) = (s.rd (V.rqSeq p) + 1) % 2 ^ 32 ∧ t.rd V.ringLast = (p + 1) % 64 ∧
      t.rd (V.rsSeq p) = (s.rd (V.rsSeq p) + 1) % 2 ^ 32 ∧ t.orders = s.orders ∧ t.bufs = s.bufs ∧ t.rd HIF_SVCQPTR.tail = s.rd HIF_SVCQPTR.tail) := by
  obtain ⟨head, len, tag, payload, hlist⟩ : ∃ head len tag payload, pingFx p s = postWith p head len tag payload s := ⟨_, _, _, _, rfl⟩
  obtain ⟨hseq, hlast, horders, hbufs⟩ := consumed_counts (run_wf (pingFx p s) hs) hp
  obtain ⟨hposted, hkept⟩ := postWith_leaves p head len tag payload s s
  have hrs : (V.rsSeq p).key = (0x1_0156_0000 + p) * 64 := rfl
  have hcount : (V.coalCount p).key = (0x1_0157_0000 + p) * 64 := rfl
  have hat : (V.coalAt p).key = (0x1_0158_0000 + p) * 64 := rfl
  have htail : HIF_SVCQPTR.tail.key = 0xF0_0350 * 64 + 16 := rfl
  refine ⟨_, decodeRequest_wellFormed _ hdecode hp hnext hcode htyp (by decide) hwell, ?_⟩
  rw [does_eq, hlist] at *
  refine ⟨hseq.trans (by rw [rd_rqSeq_posted hp]), hlast, ?_, horders.trans hposted, hbufs.trans hkept, ?_⟩
  · exact (rd_consumed hp (messageField_rsSeq hp) (by omega) (by omega) (by omega) _).trans (rd_postWith hs hp _ _ _ _ s)
  · exact (rd_consumed hp (by decide) (by omega) (by omega) (by omega) _).trans
      (rd_run_clear (by decide) (postWith_clears (by omega) (by omega) (by omega) _ _ _ _ s))

theorem ringError_onlyFields (code seq : Nat) (halt : Bool) (u : State) : OnlyFields (lookFields p) u (u.run (ringError p code seq halt)) :=
  onlyFields_run_of_bus (ringError_setsOnly p code seq halt)
    (bus_run_looks (fun x hx => ⟨ringError_setsOnly p code seq halt x hx, ringError_ordinary p code seq halt x hx⟩) u)

theorem unacceptedRequest_answers (hs : s.Wf) (hp : p < 64) (hdecode : s.decoding = true) (hnext : s.nextRing = some p) (hcode : s.unaccepted p ≠ 0) :
    Gives (.unacceptedRequest p) s (fun t => t.rd (V.rqSeq p) = (s.rd (V.rqSeq p) + 1) % 2 ^ 32 ∧
      t.rd (V.rsSeq p) = (s.rd (V.rsSeq p) + 1) % 2 ^ 32 ∧ t.orders = s.orders ∧ t.bufs = s.bufs) := by
  obtain ⟨head, len, tag, payload, hlist⟩ : ∃ head len tag payload, answerError p (s.unaccepted p) s =
      postWith p head len tag payload s ++ ringError p (s.unaccepted p) (s.reqField p 8 4) false := ⟨_, _, _, _, rfl⟩
  obtain ⟨hposted, hkept⟩ := postWith_leaves p head len tag payload s s
  set v := s.run (postWith p head len tag payload s) with hv
  have hvwf : v.Wf := run_wf _ hs
  obtain ⟨hfields, -, -, herrOrders, -, -, -, -, -, -, -, -, -, -, herrBufs, -⟩ := ringError_onlyFields (p := p) (s.unaccepted p) (s.reqField p 8 4) false v
  have hrun : s.does (answerError p (s.unaccepted p)) = v.run (ringError p (s.unaccepted p) (s.reqField p 8 4) false) := by
    rw [does_eq, hlist, run_append]
  obtain ⟨hseq, -, horders, hbufs⟩ := consumed_counts (run_wf (ringError p (s.unaccepted p) (s.reqField p 8 4) false) hvwf) hp
  have hrq : (V.rqSeq p).key = (0x1_0155_0000 + p) * 64 := rfl
  have hrs : (V.rsSeq p).key = (0x1_0156_0000 + p) * 64 := rfl
  refine ⟨_, decodeRequest_unaccepted _ hdecode hp hnext hcode, ?_⟩
  rw [hrun]
  refine ⟨hseq.trans ?_, ?_, horders.trans (herrOrders.trans hposted), hbufs.trans (herrBufs.trans hkept)⟩
  · rw [hfields _ (messageField_rqSeq hp) fun f hf => by have := lookFields_key hf; omega, hv, rd_rqSeq_posted hp]
  · rw [rd_consumed hp (messageField_rsSeq hp) (by omega) (by omega) (by omega),
      hfields _ (messageField_rsSeq hp) fun f hf => by have := lookFields_key hf; omega]
    exact rd_postWith hs hp _ _ _ _ s

/-- Settles O46: each request's own updates, then its consumption and a look at its ring, which set only their own fields. -/
theorem ringRequestsTakeEffect : Obligations.RingRequestsTakeEffect :=
  ⟨fun _ _ hs hdecode hp hnext hcode htyp hwell => order_waits hs hp hdecode hnext hcode htyp hwell,
    fun _ _ hs hdecode hp hnext hcode htyp hwell => buffer_waits hs hp hdecode hnext hcode htyp hwell,
    fun _ _ hs hdecode hp hnext hcode htyp hwell => service_enters hs hp hdecode hnext hcode htyp hwell,
    fun _ _ hs hdecode hp hnext hcode htyp hwell => ping_answers hs hp hdecode hnext hcode htyp hwell,
    fun _ _ hs hdecode hp hnext hcode => unacceptedRequest_answers hs hp hdecode hnext hcode⟩

end Sys2Proof.Machine
end

section
/-! SUPPORT. A gate call is taken, and its answer (R411). -/

namespace Sys2Proof.Machine

variable {s : State} {n core : Nat}

/-! What a call that is taken leaves. -/

/-- A field that raises no event line changes itself alone. -/
theorem rd_set_beside {f g : Fld} (hline : lineOf f.addr = none) (h : g.key ≠ f.key) (v : Nat) (s : State) : (s.apply (.set f v)).rd g = s.rd g := by
  have hregs : regsWrite s.regs f v = regsSet s.regs f v := by rw [regsWrite, hline]
  show regsRd (regsWrite s.regs f v) g = regsRd s.regs g
  rw [hregs, regsRd_set_ne s.regs v h]

/-- A call that is taken moves the pending calls and their order. -/
theorem rd_taken {g : Fld} (hpend : g.key ≠ KPR_GATEPEND.pend.key) (horder : g.key ≠ V.gateOrder.key) :
    (s.does (gateTaken n)).rd g = s.rd g :=
  (rd_set_beside rfl horder _ _).trans (rd_set_beside rfl hpend _ _)

theorem mem_taken : (s.does (gateTaken n)).mem = s.mem := rfl

theorem gateTaken_frees (hs : s.Wf) (hcore : 1 ≤ core ∧ core ≤ 4) : bit ((s.does (gateTaken core)).rd KPR_GATEPEND.pend) (core - 1) = false := by
  have hread : (s.does (gateTaken core)).rd KPR_GATEPEND.pend = clearBit (s.rd KPR_GATEPEND.pend) (core - 1) % 2 ^ 4 :=
    rd_run_sets hs (by decide) [] _ rfl
  rw [hread, bit_mod_two_pow (by omega), bit_clearBit_same]

/-- A field between two addresses below the pending calls, or above them. -/
theorem keeper_beside {f : Fld} (h : f.addr < 0xD0_1300 ∨ 0xD0_1300 < f.addr ∧ f.addr < 0x1_0147_0000 ∨ 0x1_0147_0000 < f.addr) (hl : f.lsb < 64) :
    f.key ≠ KPR_GATEPEND.pend.key ∧ f.key ≠ V.gateOrder.key := by
  have hpend : KPR_GATEPEND.pend.key = 0xD0_1300 * 64 := rfl
  have horder : V.gateOrder.key = 0x1_0147_0000 * 64 := rfl
  rw [hpend, horder, Fld.key]
  omega

/-- A field of the keeper's table or of the fuses is beside them. -/
theorem rd_taken_beside {f : Fld} (h : f.addr < 0xD0_1300 ∨ 0xD0_1300 < f.addr ∧ f.addr < 0x1_0147_0000 ∨ 0x1_0147_0000 < f.addr) (hl : f.lsb < 64) :
    (s.does (gateTaken n)).rd f = s.rd f := by
  obtain ⟨hpend, horder⟩ := keeper_beside h hl
  exact rd_taken hpend horder

theorem gateArg_taken (c o k : Nat) : (s.does (gateTaken n)).gateArg c o k = s.gateArg c o k := rfl
theorem gateSeq_taken (c : Nat) : (s.does (gateTaken n)).gateSeq c = s.gateSeq c := rfl
theorem tokenAt_taken (a : Nat) : (s.does (gateTaken n)).tokenAt a = s.tokenAt a := rfl

theorem granted_taken (c kind a len : Nat) : (s.does (gateTaken n)).granted c kind a len = s.granted c kind a len :=
  granted_of_entries (fun g hg => rd_taken_beside (.inl (by dsimp only [KPR_GRANT.entry]; omega)) (show 0 < 64 by decide)) c kind a len

theorem callerReads_taken (c a len : Nat) : (s.does (gateTaken n)).callerReads c a len = s.callerReads c a len := by
  rw [State.callerReads, State.callerReads, granted_taken]

theorem callerWrites_taken (c a len : Nat) : (s.does (gateTaken n)).callerWrites c a len = s.callerWrites c a len := by
  rw [State.callerWrites, State.callerWrites, granted_taken]

theorem on_taken {g : Fld} (hpend : g.key ≠ KPR_GATEPEND.pend.key) (horder : g.key ≠ V.gateOrder.key) :
    (s.does (gateTaken n)).on g = s.on g := by
  rw [State.on, State.on, rd_taken hpend horder]

theorem lifecycle_taken : (s.does (gateTaken n)).lifecycle = s.lifecycle := by
  rw [State.lifecycle, State.lifecycle, rd_taken (by decide) (by decide)]

theorem storeOpen_taken : (s.does (gateTaken n)).storeOpen = s.storeOpen := by
  simp (disch := decide) only [State.storeOpen, on_taken]

theorem attOpen_taken : (s.does (gateTaken n)).attOpen = s.attOpen := by
  simp (disch := decide) only [State.attOpen, on_taken]

theorem txBusy_taken : (s.does (gateTaken n)).txBusy = s.txBusy := by
  simp (disch := decide) only [State.txBusy, rd_taken]

theorem physCore_taken (c : Nat) : (s.does (gateTaken n)).physCore c = s.physCore c := by
  unfold State.physCore
  rw [rd_taken (by decide) (by decide), rd_taken (by decide) (by decide)]

theorem minOf_taken {k : Nat} (hk : k < 4) : (s.does (gateTaken n)).minOf k = s.minOf k :=
  rd_taken_beside (.inl (by dsimp only [KPR_SVNMIN.min]; omega)) (show 0 < 64 by decide)

theorem glbId_taken : (s.does (gateTaken n)).glbId = s.glbId := by
  simp (disch := decide) only [State.glbId, rd_taken]

/-! The ledger and the keys. -/

/-- The ledger's records stand in memory, and their tags are the storage key's. -/
theorem ledger_of_mem {t : State} (hmem : t.mem = s.mem) (hkey : t.storageKey = s.storageKey) : t.ledger = s.ledger := by
  unfold State.ledger State.ledgerTag State.flash
  rw [hmem, hkey]

theorem ledger_taken : (s.does (gateTaken n)).ledger = s.ledger :=
  ledger_of_mem rfl (by rw [State.storageKey, State.storageKey, rd_taken (by decide) (by decide)])

theorem standing_taken (p : List Nat → Bool) : (s.does (gateTaken n)).standing p = s.standing p := by
  unfold State.standing
  rw [ledger_taken]

theorem item_taken (k sl : Nat) : (s.does (gateTaken n)).item k sl = s.item k sl := by
  unfold State.item
  rw [standing_taken]

/-- A scalar of the fuses. -/
theorem rd_taken_fuse {id i w reset : Nat} (hid : 0x148 ≤ id) : (s.does (gateTaken n)).rd (ivar id i w reset) = s.rd (ivar id i w reset) :=
  rd_taken_beside (.inr (.inr (by dsimp only [ivar]; omega))) (show 0 < 64 by decide)

/-- A key slot's mark stands within its word. -/
theorem rd_taken_valid (k : Nat) : (s.does (gateTaken n)).rd (KPR_KEYSLOT.valid k) = s.rd (KPR_KEYSLOT.valid k) := by
  have hpend : KPR_GATEPEND.pend.key = 0xD0_1300 * 64 := rfl
  have horder : V.gateOrder.key = 0x1_0147_0000 * 64 := rfl
  apply rd_taken <;> simp only [Fld.key, KPR_KEYSLOT.valid] at * <;> omega

theorem keyUsable_taken (usage k : Nat) : (s.does (gateTaken n)).keyUsable usage k = s.keyUsable usage k := by
  have husage : (s.does (gateTaken n)).rd (V.fuseUsage k) = s.rd (V.fuseUsage k) := rd_taken_fuse (by decide)
  have hrevoked : (s.does (gateTaken n)).rd (V.fuseRevoked k) = s.rd (V.fuseRevoked k) := rd_taken_fuse (by decide)
  unfold State.keyUsable State.slotPermitted State.on
  rw [rd_taken_valid, hrevoked, husage, lifecycle_taken]

theorem keyId_taken (k : Nat) : (s.does (gateTaken n)).keyId k = s.keyId k := by
  have hkey : (s.does (gateTaken n)).rd (V.fuseKey k) = s.rd (V.fuseKey k) := rd_taken_fuse (by decide)
  rw [State.keyId, State.keyId, hkey]

theorem signedBy_taken {k : Nat} (hk : k < 8) (msg sig : List Nat) : (s.does (gateTaken n)).signedBy k msg sig = s.signedBy k msg sig := by
  have htable : (s.does (gateTaken n)).rd (V.keyTable k) = s.rd (V.keyTable k) :=
    rd_taken_beside (.inr (.inl (by dsimp only [V.keyTable, ivar]; omega))) (show 0 < 64 by decide)
  rw [State.signedBy, State.signedBy, htable]

theorem tokenCode_taken (tok : List Nat) (purpose : Nat) (keyOk : Nat → Bool) :
    (s.does (gateTaken n)).tokenCode tok purpose keyOk = s.tokenCode tok purpose keyOk := by
  have hnonce : ((List.range 8).flatMap fun w => leBytes 4 ((s.does (gateTaken n)).rd (KPR_LCNONCE.nonce w))) =
      (List.range 8).flatMap fun w => leBytes 4 (s.rd (KPR_LCNONCE.nonce w)) :=
    List.flatMap_congr fun w hw => by
      have hlt := List.mem_range.mp hw
      rw [rd_taken_beside (.inl (by dsimp only [KPR_LCNONCE.nonce]; omega)) (show 0 < 64 by decide)]
  have hserial : (s.does (gateTaken n)).rd V.fuseSerial = s.rd V.fuseSerial := rd_taken (by decide) (by decide)
  unfold State.tokenCode
  rw [hnonce, hserial, glbId_taken]
  simp only [keyUsable_taken, keyId_taken]
  split
  · rfl
  · split
    · rfl
    · split
      · rfl
      next k hk => rw [signedBy_taken (List.mem_range.mp (List.mem_of_find?_eq_some hk))]

/-! The svn of what runs. -/

/-- A copy's field in IMG. -/
theorem rd_taken_copy {e c o lsb w reset : Nat} (he : e < 256) (hc : c < 2) (ho : o < 0x10) (hl : lsb < 64) :
    (s.does (gateTaken n)).rd ⟨0xE0_0200 + o + 0x20 * e + 0x10 * c, lsb, w, reset⟩ = s.rd ⟨0xE0_0200 + o + 0x20 * e + 0x10 * c, lsb, w, reset⟩ :=
  rd_taken_beside (.inr (.inl (by dsimp only; omega))) hl

/-- The marks of an entry's two copies. -/
theorem copy_taken {e c : Nat} (he : e < 256) (hc : c < 2) : (s.does (gateTaken n)).rd (IMG_GDESC.valid e c) = s.rd (IMG_GDESC.valid e c) ∧
    (s.does (gateTaken n)).rd (IMG_GDESC.state e c) = s.rd (IMG_GDESC.state e c) ∧
    (s.does (gateTaken n)).rd (IMG_GDESC.rejected e c) = s.rd (IMG_GDESC.rejected e c) ∧
    (s.does (gateTaken n)).rd (IMG_GCOUNT.counter e c) = s.rd (IMG_GCOUNT.counter e c) :=
  ⟨rd_taken_copy (o := 0) he hc (by decide) (by decide), rd_taken_copy (o := 0) he hc (by decide) (by decide),
    rd_taken_copy (o := 0) he hc (by decide) (by decide), rd_taken_copy (o := 4) he hc (by decide) (by decide)⟩

theorem goldSvn_taken : (s.does (gateTaken n)).goldSvn = s.goldSvn := by
  have hslot : (s.does (gateTaken n)).rd (ACU_SCFG.gold 0) = s.rd (ACU_SCFG.gold 0) := rd_taken (by decide) (by decide)
  have hentry : s.rd (ACU_SCFG.gold 0) < 256 := rd_lt s (ACU_SCFG.gold 0)
  have hdone : (s.does (gateTaken n)).rd V.goldDone = s.rd V.goldDone := rd_taken (by decide) (by decide)
  unfold State.goldSvn
  rw [hslot]
  generalize s.rd (ACU_SCFG.gold 0) = e at hentry
  obtain ⟨hvalid0, hstate0, hrejected0, hcount0⟩ := copy_taken (s := s) (n := n) hentry (by decide : 0 < 2)
  obtain ⟨hvalid1, hstate1, hrejected1, hcount1⟩ := copy_taken (s := s) (n := n) hentry (by decide : 1 < 2)
  have hvalid : (s.does (gateTaken n)).goldValid e = s.goldValid e := by
    simp only [State.goldValid, State.on, List.any_cons, List.any_nil, hdone, hvalid0, hvalid1, hstate0, hstate1]
  have hcopy : (s.does (gateTaken n)).goldCopy? e = s.goldCopy? e := by
    simp only [State.goldCopy?, State.on, List.filter_cons, List.filter_nil, hvalid0, hvalid1, hstate0, hstate1, hrejected0, hrejected1, hcount0, hcount1]
  simp only [hvalid, hcopy, item_taken]

theorem svnNow_taken (k : Nat) : (s.does (gateTaken n)).svnNow k = s.svnNow k := by
  unfold State.svnNow
  split
  · exact rd_taken_beside (.inl (by dsimp only [KPR_SVN.svn]; omega)) (show 0 < 64 by decide)
  · exact goldSvn_taken

end Sys2Proof.Machine
end

section
/-! SUPPORT. The answer of a gate call (R411). -/

namespace Sys2Proof.Machine

variable {s : State} {core code : Nat}

/-- The pending calls and the count of the calls served, which a call's own effect leaves. -/
def callKey (k : Nat) : Bool := k == KPR_GATEPEND.pend.key || k == KPR_GATESTAT.served.key

/-- What KPR shows of an answer. -/
def replyKey (k : Nat) : Bool := k == KPR_GATESTAT.call.key || k == KPR_GATESTAT.status.key || k == KPR_GATESTAT.served.key

/-- KPR shows the call and its status, counts it, and the caller has no call pending. -/
def Answered (s : State) (core code status : Nat) (t : State) : Prop :=
  t.rd KPR_GATESTAT.status = status % 2 ^ 8 ∧ t.rd KPR_GATESTAT.call = code % 2 ^ 8 ∧
    t.rd KPR_GATESTAT.served = (s.rd KPR_GATESTAT.served + 1) % 2 ^ KPR_GATESTAT.served.width ∧ bit (t.rd KPR_GATEPEND.pend) (core - 1) = false

theorem gateReply_clears {status seq : Nat} {res : List (Nat × List Nat)} {g : Fld} (hg : replyKey g.key = false) (t : State) :
    (gateReply core code status seq res t).all (·.clears g) = true := by
  simp only [replyKey, Bool.or_eq_false_iff, beq_eq_false_iff_ne] at hg
  obtain ⟨⟨hcall, hstatus⟩, hserved⟩ := hg
  simp [gateReply, bump, Upd.clears, hcall, hstatus, hserved]

/-- A call's answer after its effect, which leaves the pending calls and the count. -/
theorem gateReply_answers {x : State} (hs : s.Wf) (hcore : 1 ≤ core ∧ core ≤ 4) (hx : Passing (Upd.spares callKey) (s.does (gateTaken core)) x)
    (status seq : Nat) (res : List (Nat × List Nat)) : Answered s core code status (x.does (gateReply core code status seq res)) := by
  have hwf : x.Wf := hx.wf (run_wf _ hs)
  have hserved : x.rd KPR_GATESTAT.served = s.rd KPR_GATESTAT.served :=
    (hx.rd_spares (by decide) (by decide)).trans (rd_taken (by decide) (by decide))
  have hpend : bit (x.rd KPR_GATEPEND.pend) (core - 1) = false := by
    rw [hx.rd_spares (by decide) (by decide), gateTaken_frees hs hcore]
  refine ⟨rd_run_append_lastSet hwf (by decide) _ rfl, rd_run_append_lastSet hwf (by decide) _ rfl, ?_, ?_⟩
  · rw [← hserved]
    exact rd_run_append_lastSet hwf (by decide) _ rfl
  · exact (congrArg (bit · _) (rd_run_clear (by decide) (gateReply_clears (by decide) x))).trans hpend

/-- The core whose call is served next is one of the four. -/
theorem nextCall_core (h : s.nextCall = some core) : 1 ≤ core ∧ core ≤ 4 := by
  have hfound := List.find?_some h
  simp only [Bool.and_eq_true, bne_iff_ne] at hfound
  obtain ⟨hne, hbit⟩ := hfound
  have hpend : s.rd KPR_GATEPEND.pend < 2 ^ 4 := rd_lt s KPR_GATEPEND.pend
  refine ⟨by omega, ?_⟩
  by_contra hfar
  have hhigh : s.rd KPR_GATEPEND.pend < 2 ^ (core - 1) := hpend.trans_le (Nat.pow_le_pow_right (by decide) (by omega))
  rw [bit, Nat.testBit_lt_two_pow hhigh] at hbit
  cases hbit

/-- A call that is served answers as its effect says. -/
theorem serveCall_answers (hs : s.Wf) (hserving : s.serving = true) (hnext : s.nextCall = some core) (hcode : s.gateCode core = code) {fits : Bool}
    (hfits : fits = true) {f : State → State × Answer} {x : State} {a : Answer} (hf : f (s.does (gateTaken core)) = (x, a))
    (hx : Passing (Upd.spares callKey) (s.does (gateTaken core)) x) :
    ∃ t, serveCall core code fits f s = .next t ∧ Answered s core code a.status t ∧
      ∀ g, messageField g = false → replyKey g.key = false → t.rd g = x.rd g := by
  refine ⟨x.does (gateReply core code a.status (s.gateSeq core) a.res), ?_, gateReply_answers hs (nextCall_core hnext) hx _ _ _,
    fun g hm hg => rd_run_clear hm (gateReply_clears hg x)⟩
  refine (whenever_of (by simp [hserving, hnext, hcode, hfits]) _ _).trans ?_
  rw [hf]

/-- A record in the ledger leaves the calls. -/
theorem ledgerWrite_spares (kind : Nat) (payload : List Nat) (s : State) : (ledgerWrite kind payload s).all (Upd.spares callKey) = true := by
  unfold ledgerWrite
  split <;> rfl

/-- A scalar of the fuses is beside the calls and their answers. -/
theorem callKey_fuse {id i w reset : Nat} (hid : 0x148 ≤ id) :
    callKey (ivar id i w reset).key = false ∧ replyKey (ivar id i w reset).key = false := by
  have hpend : KPR_GATEPEND.pend.key = 0xD0_1300 * 64 := rfl
  have hserved : KPR_GATESTAT.served.key = 0xD0_00C0 * 64 := rfl
  have hstatus : KPR_GATESTAT.status.key = 0xD0_00C0 * 64 + 16 := rfl
  have hcall : KPR_GATESTAT.call.key = 0xD0_00C0 * 64 + 24 := rfl
  have hown : (ivar id i w reset).key = (0x1_0000_0000 + id * 0x1_0000 + i) * 64 := rfl
  simp only [callKey, replyKey, hpend, hserved, hstatus, hcall, hown, Bool.or_eq_false_iff, beq_eq_false_iff_ne]
  omega

/-- A minimum svn too. -/
theorem callKey_minimum {k : Nat} (hk : k < 4) :
    callKey (KPR_SVNMIN.min k).key = false ∧ replyKey (KPR_SVNMIN.min k).key = false := by
  have hpend : KPR_GATEPEND.pend.key = 0xD0_1300 * 64 := rfl
  have hserved : KPR_GATESTAT.served.key = 0xD0_00C0 * 64 := rfl
  have hstatus : KPR_GATESTAT.status.key = 0xD0_00C0 * 64 + 16 := rfl
  have hcall : KPR_GATESTAT.call.key = 0xD0_00C0 * 64 + 24 := rfl
  have hown : (KPR_SVNMIN.min k).key = (0xD0_0020 + 4 * k) * 64 := rfl
  simp only [callKey, replyKey, hpend, hserved, hstatus, hcall, hown, Bool.or_eq_false_iff, beq_eq_false_iff_ne]
  omega

/-! The arguments. -/

theorem ofLe_lt {l : List Nat} (h : ∀ b ∈ l, b < 256) : ofLe l < 256 ^ l.length := by
  induction l with
  | nil => exact Nat.one_pos
  | cons b bs ih =>
    have hb := h b (by simp)
    have hbs := ih fun c hc => h c (by simp [hc])
    rw [ofLe, List.length_cons, pow_succ]
    omega

/-- An argument is as wide as its bytes. -/
theorem gateArg_lt (s : State) (n o k : Nat) : s.gateArg n o k < 256 ^ k := by
  have hbytes : ∀ b ∈ memBytes s.mem (gatePage n + o) k, b < 256 := by
    intro b hb
    obtain ⟨i, -, rfl⟩ := List.mem_map.mp hb
    exact BitVec.isLt _
  have hlt := ofLe_lt hbytes
  rwa [memBytes, List.length_map, List.length_range] at hlt

end Sys2Proof.Machine
end

section
/-! The other gate calls (R406, R408, R411-R413). -/

namespace Sys2Proof.Machine

variable {s : State} {core : Nat}

theorem grantQuery_answers (hs : s.Wf) (hserving : s.serving = true) (hnext : s.nextCall = some core) (hcode : s.gateCode core = 1) :
    Gives (.grantQuery core) s (Answered s core 1 GateS.done) := by
  obtain ⟨t, hexec, hanswer, -⟩ := serveCall_answers hs hserving hnext hcode rfl (f := grantQuery core) rfl (Via.refl _)
  exact ⟨t, hexec, hanswer⟩

theorem on_of_rd {f : Fld} {v : Nat} (h : s.rd f = v) : s.on f = (v == 1) := by rw [State.on, h]

/-! ATTEST (R413). -/

/-- The next block of indices is reserved where the last one is used up. -/
def indexReserved (s : State) : State := if s.rd V.attEnd ≤ s.rd KPR_ATTIDX.next then s.does reserveBlock else s

/-- What a report leaves. -/
def reportMade (core buf : Nat) (s : State) : List Upd :=
  let index := s.rd KPR_ATTIDX.next
  let body := s.report core index
  [.store buf (body ++ sliceBytes (Config.xmssSign s.attSeeds index body) 0 2820), .set KPR_ATTIDX.next (index + 1), .set KPR_ATTLEFT.left (1048576 - (index + 1)),
    keeperNote Ty.ATTEST [(24, 4, index), (28, 4, index / 256), (32, 8, ofLe (s.gateBytes core 8 8))]]

theorem attest_of_fit (hreads : s.callerReads core (s.gateArg core 40 8) 256 = true) (hwrites : s.callerWrites core (s.gateArg core 48 8) 4096 = true)
    (hlife : s.lifecycle < 3) (hatt : s.attOpen = true) (hstore : s.storeOpen = true) (hleft : s.rd KPR_ATTIDX.next < 1048576)
    (hwarn : s.on CRP_PFSTAT.warn = false) :
    attest core s = ((indexReserved s).does (reportMade core (s.gateArg core 48 8)), ⟨GateS.done, [(72, leBytes 4 ((indexReserved s).rd KPR_ATTIDX.next))]⟩) := by
  have hargs : ¬(!s.callerReads core (s.gateArg core 40 8) 256 || !s.callerWrites core (s.gateArg core 48 8) 4096) = true := by simp [hreads, hwrites]
  have hnow : ¬(decide (3 ≤ s.lifecycle) || !s.attOpen || (decide (s.rd V.attEnd ≤ s.rd KPR_ATTIDX.next) && !s.storeOpen)) = true := by
    simp [hatt, hstore, hlife]
  have hcalm : ¬(decide (s.rd V.attEnd ≤ s.rd KPR_ATTIDX.next) && s.on CRP_PFSTAT.warn) = true := by simp [hwarn]
  exact (if_neg hargs).trans ((if_neg hnow).trans ((if_neg (Nat.not_le.mpr hleft)).trans ((if_neg hcalm).trans rfl)))

theorem reserveBlock_spares (s : State) : (reserveBlock s).all (Upd.spares callKey) = true := by
  rw [reserveBlock, List.all_append, ledgerWrite_spares]
  rfl

theorem indexReserved_next (s : State) : (indexReserved s).rd KPR_ATTIDX.next = s.rd KPR_ATTIDX.next := by
  have hblock : (reserveBlock s).all (·.clears KPR_ATTIDX.next) = true := by
    unfold reserveBlock ledgerWrite
    split <;> rfl
  unfold indexReserved
  split
  · exact rd_run_clear (by decide) hblock
  · rfl

theorem attest_takes_index (hs : s.Wf) (hserving : s.serving = true) (hnext : s.nextCall = some core) (hcode : s.gateCode core = 4)
    (hreads : s.callerReads core (s.gateArg core 40 8) 256 = true) (hwrites : s.callerWrites core (s.gateArg core 48 8) 4096 = true)
    (hlife : s.lifecycle < 3) (hatt : s.attOpen = true) (hstore : s.storeOpen = true) (hleft : s.rd KPR_ATTIDX.next < 1048576)
    (hwarn : s.rd CRP_PFSTAT.warn = 0) :
    Gives (.attest core) s (fun t => Answered s core 4 GateS.done t ∧ t.rd KPR_ATTIDX.next = s.rd KPR_ATTIDX.next + 1) := by
  have hindex : (s.does (gateTaken core)).rd KPR_ATTIDX.next = s.rd KPR_ATTIDX.next := rd_taken (by decide) (by decide)
  have hf := attest_of_fit (s := s.does (gateTaken core)) (core := core) ((callerReads_taken ..).trans hreads) ((callerWrites_taken ..).trans hwrites)
    (lifecycle_taken.trans_lt hlife) (attOpen_taken.trans hatt) (storeOpen_taken.trans hstore) (by rwa [hindex]) ((on_taken (by decide) (by decide)).trans (on_of_rd hwarn))
  set u := s.does (gateTaken core) with hu
  have hv : Passing (Upd.spares callKey) u (indexReserved u) := (Passing.does (Via.refl u) reserveBlock_spares).ite (Via.refl u)
  have hvindex : (indexReserved u).rd KPR_ATTIDX.next = s.rd KPR_ATTIDX.next := (indexReserved_next u).trans hindex
  obtain ⟨t, hexec, hanswer, hrest⟩ := serveCall_answers hs hserving hnext hcode rfl hf (Passing.does hv fun _ => rfl)
  refine ⟨t, hexec, hanswer, ?_⟩
  calc t.rd KPR_ATTIDX.next
      = ((indexReserved u).does (reportMade core (u.gateArg core 48 8))).rd KPR_ATTIDX.next := hrest _ (by decide) (by decide)
    _ = ((indexReserved u).rd KPR_ATTIDX.next + 1) % 2 ^ 64 := rd_run_lastSet (hv.wf (run_wf _ hs)) (by decide) rfl
    _ = s.rd KPR_ATTIDX.next + 1 := by rw [hvindex]; omega

/-! Security versions (R406). -/

/-- What SVN_RAISE leaves of the state after its record. -/
def minimumRaised (k v old : Nat) : List Upd :=
  [.set (KPR_SVNMIN.min k) v, keeperNote Ty.SVN_MIN [(24, 1, k), (25, 1, 1), (28, 4, old), (32, 4, v)]]

theorem svnRaise_of_fit {k v : Nat} (hkind : s.gateArg core 8 1 = k) (hvalue : s.gateArg core 12 4 = v) (hk : k < 4) (hnow : v ≤ s.svnNow k) (hmin : s.minOf k < v)
    (hstore : s.storeOpen = true) (hwarn : s.on CRP_PFSTAT.warn = false) :
    svnRaise core s = ((s.does (ledgerWrite 2 ([k, 0, 0, 0] ++ leBytes 4 v))).run (minimumRaised k v (s.minOf k)), ⟨GateS.done, [(72, leBytes 4 v)]⟩) := by
  subst hkind hvalue
  have hargs : ¬(decide (3 < s.gateArg core 8 1) || decide (s.svnNow (s.gateArg core 8 1) < s.gateArg core 12 4) ||
      decide (s.gateArg core 12 4 ≤ s.minOf (s.gateArg core 8 1))) = true := by
    simp only [Bool.or_eq_true, decide_eq_true_eq]
    omega
  exact (if_neg hargs).trans ((if_neg (by simp [hstore])).trans ((if_neg (by simp [hwarn])).trans rfl))

theorem svnRaise_raises (hs : s.Wf) (hserving : s.serving = true) (hnext : s.nextCall = some core) (hcode : s.gateCode core = 5) {k v : Nat}
    (hkind : s.gateArg core 8 1 = k) (hvalue : s.gateArg core 12 4 = v) (hk : k < 4) (hnow : v ≤ s.svnNow k) (hmin : s.minOf k < v)
    (hstore : s.storeOpen = true) (hwarn : s.rd CRP_PFSTAT.warn = 0) :
    Gives (.svnRaise core) s (fun t => Answered s core 5 GateS.done t ∧ t.rd (KPR_SVNMIN.min k) = v) := by
  have hv : v < 2 ^ 32 := hvalue ▸ gateArg_lt s core 12 4
  obtain ⟨hcall, hreply⟩ := callKey_minimum hk
  have hf := svnRaise_of_fit (s := s.does (gateTaken core)) hkind hvalue hk (by rwa [svnNow_taken]) (by rwa [minOf_taken hk])
    (storeOpen_taken.trans hstore) ((on_taken (by decide) (by decide)).trans (on_of_rd hwarn))
  have hrecord := Passing.does (Via.refl (s.does (gateTaken core))) (ledgerWrite_spares 2 ([k, 0, 0, 0] ++ leBytes 4 v))
  obtain ⟨t, hexec, hanswer, hrest⟩ := serveCall_answers hs hserving hnext hcode rfl hf
    (Passing.run hrecord (by simp [minimumRaised, keeperNote, note, Upd.spares, hcall]))
  have hm : messageField (KPR_SVNMIN.min k) = false := messageField_array (k := 4) (.inl (by omega)) (by decide) _ _
  exact ⟨t, hexec, hanswer, (hrest _ hm hreply).trans ((rd_run_sets (hrecord.wf (run_wf _ hs)) hm [] _ rfl).trans (Nat.mod_eq_of_lt hv))⟩

/-- What SVN_FUSE leaves. -/
def floorFused (k v old : Nat) : List Upd :=
  [.set (V.fuseFloor k) v, keeperNote Ty.SVN_MIN [(24, 1, k), (25, 1, 2), (28, 4, old), (32, 4, v)]]

/-- The minimum of a kind in the ledger. -/
def State.ledgerMin (s : State) (k : Nat) : Nat :=
  ((s.standing (fun r => r.getD 0 0 == 2 && r.getD 8 0 == k)).map (fun r => leAt r 12 4)).getD 0

theorem svnFuse_of_fit {k v : Nat} (hkind : s.gateArg core 8 1 = k) (hvalue : s.gateArg core 12 4 = v) (hstore : s.storeOpen = true) (hk : k < 4) (hv : v ≤ 32)
    (hmin : v ≤ s.ledgerMin k) (hold : s.rd (V.fuseFloor k) ≤ v) (hwarn : s.on CRP_PFSTAT.warn = false) :
    svnFuse core s = (s.run (floorFused k v (s.rd (V.fuseFloor k))), ⟨GateS.done, [(72, leBytes 4 v)]⟩) := by
  subst hkind hvalue
  have hargs : ¬(decide (3 < s.gateArg core 8 1) || decide (32 < s.gateArg core 12 4) || decide (s.ledgerMin (s.gateArg core 8 1) < s.gateArg core 12 4) ||
      decide (s.gateArg core 12 4 < s.rd (V.fuseFloor (s.gateArg core 8 1)))) = true := by
    simp only [Bool.or_eq_true, decide_eq_true_eq]
    omega
  exact (if_neg (by simp [hstore])).trans ((if_neg hargs).trans ((if_neg (by simp [hwarn])).trans rfl))

theorem svnFuse_fuses (hs : s.Wf) (hserving : s.serving = true) (hnext : s.nextCall = some core) (hcode : s.gateCode core = 6) (hstore : s.storeOpen = true)
    {k v : Nat} (hkind : s.gateArg core 8 1 = k) (hvalue : s.gateArg core 12 4 = v) (hk : k < 4) (hv : v ≤ 32) (hmin : v ≤ s.ledgerMin k)
    (hold : s.rd (V.fuseFloor k) ≤ v) (hwarn : s.rd CRP_PFSTAT.warn = 0) :
    Gives (.svnFuse core) s (fun t => Answered s core 6 GateS.done t ∧ t.rd (V.fuseFloor k) = v) := by
  have hmin' : v ≤ (s.does (gateTaken core)).ledgerMin k := by
    rw [State.ledgerMin, standing_taken]
    exact hmin
  have hf := svnFuse_of_fit (s := s.does (gateTaken core)) hkind hvalue (storeOpen_taken.trans hstore) hk hv hmin'
    ((rd_taken_fuse (by decide)).trans_le hold) ((on_taken (by decide) (by decide)).trans (on_of_rd hwarn))
  obtain ⟨hcall, hreply⟩ := callKey_fuse (id := 0x808) (i := k) (w := 8) (reset := 0) (by decide)
  obtain ⟨t, hexec, hanswer, hrest⟩ := serveCall_answers hs hserving hnext hcode rfl hf
    (Passing.run (Via.refl _) (by simp [floorFused, keeperNote, note, Upd.spares, V.fuseFloor, hcall]))
  have hm : messageField (V.fuseFloor k) = false := messageField_ivar (by omega) (by decide) (by decide) _ _
  exact ⟨t, hexec, hanswer, (hrest _ hm hreply).trans ((rd_run_sets (run_wf _ hs) hm [] _ rfl).trans (Nat.mod_eq_of_lt (show v < 2 ^ 8 by omega)))⟩

/-! Keys (R398, R411). -/

/-- Fuse scalars of two numbers. -/
theorem fuse_apart {id id' i i' w w' r r' : Nat} (h : id ≠ id') (hi : i < 0x1_0000) (hi' : i' < 0x1_0000) : (ivar id i w r).key ≠ (ivar id' i' w' r').key := by
  simp only [Fld.key, ivar]
  omega

/-- What KEY_ENROLL leaves of the state after its record. -/
def keyEnrolled (k usage locks : Nat) (key : List Nat) : List Upd :=
  [.set (V.fuseKey k) (ofLe (digest key)), .set (V.fuseUsage k) usage, .set (V.fuseEnrolled k) 1, flashStore Sp.boot (64 * k) key,
    keeperNote Ty.KEY_EVENT [(24, 1, k), (25, 1, 1), (28, 4, locks)]]

theorem keyEnroll_of_fit {k usage : Nat} (hslot : s.gateArg core 8 1 = k) (huse : s.gateArg core 9 1 = usage) (hlo : 4 ≤ k) (hhi : k < 8)
    (hnew : s.on (V.fuseEnrolled k) = false) (hkeeper : bit usage 0 = false) (htest : bit usage 5 = false) (husage : usage < 64)
    (hreads : s.callerReads core (s.gateArg core 16 8) 64 = true) (hlife : s.lifecycle = 1 ∨ s.lifecycle = 2) (hstore : s.storeOpen = true)
    (hwarn : s.on CRP_PFSTAT.warn = false) :
    ∃ key, keyEnroll core s = ((s.does (ledgerWrite 5 ([k, 1] ++ List.replicate 6 0 ++ digest key))).run (keyEnrolled k usage s.locks key),
      ⟨GateS.done, [(72, (digest key).take 16)]⟩) := by
  subst hslot huse
  have hargs : ¬(decide (s.gateArg core 8 1 < 4) || decide (7 < s.gateArg core 8 1) || s.on (V.fuseEnrolled (s.gateArg core 8 1)) || bit (s.gateArg core 9 1) 0 ||
      bit (s.gateArg core 9 1) 5 || decide (64 ≤ s.gateArg core 9 1) || !s.callerReads core (s.gateArg core 16 8) 64) = true := by
    simp only [hnew, hkeeper, htest, hreads, Bool.not_true, Bool.or_false, Bool.or_eq_true, decide_eq_true_eq]
    omega
  have hnow : ¬(!(decide (s.lifecycle = 1) || decide (s.lifecycle = 2)) || !s.storeOpen) = true := by simpa [hstore, or_iff_not_imp_left] using hlife
  exact ⟨memBytes s.mem (s.gateArg core 16 8) 64, (if_neg hargs).trans ((if_neg hnow).trans ((if_neg (by simp [hwarn])).trans rfl))⟩

theorem keyEnroll_fills (hs : s.Wf) (hserving : s.serving = true) (hnext : s.nextCall = some core) (hcode : s.gateCode core = 8) {k usage : Nat}
    (hslot : s.gateArg core 8 1 = k) (huse : s.gateArg core 9 1 = usage) (hlo : 4 ≤ k) (hhi : k < 8) (hnew : s.rd (V.fuseEnrolled k) = 0)
    (hkeeper : bit usage 0 = false) (htest : bit usage 5 = false) (husage : usage < 64) (hreads : s.callerReads core (s.gateArg core 16 8) 64 = true)
    (hlife : s.lifecycle = 1 ∨ s.lifecycle = 2) (hstore : s.storeOpen = true) (hwarn : s.rd CRP_PFSTAT.warn = 0) :
    Gives (.keyEnroll core) s (fun t => Answered s core 8 GateS.done t ∧ t.rd (V.fuseEnrolled k) = 1 ∧ t.rd (V.fuseUsage k) = usage) := by
  have hnew' : (s.does (gateTaken core)).on (V.fuseEnrolled k) = false := on_of_rd ((rd_taken_fuse (by decide)).trans hnew)
  obtain ⟨key, hf⟩ := keyEnroll_of_fit (s := s.does (gateTaken core)) hslot huse hlo hhi hnew' hkeeper htest husage
    ((callerReads_taken ..).trans hreads) (by rwa [lifecycle_taken]) (storeOpen_taken.trans hstore)
    ((on_taken (by decide) (by decide)).trans (on_of_rd hwarn))
  have hrecord := Passing.does (Via.refl (s.does (gateTaken core))) (ledgerWrite_spares 5 ([k, 1] ++ List.replicate 6 0 ++ digest key))
  have hcall {id w r : Nat} (hid : 0x148 ≤ id) : callKey (ivar id k w r).key = false := (callKey_fuse hid).1
  obtain ⟨t, hexec, hanswer, hrest⟩ := serveCall_answers hs hserving hnext hcode rfl hf (Passing.run hrecord (by
    simp [keyEnrolled, keeperNote, note, flashStore, Upd.spares, V.fuseKey, V.fuseUsage, V.fuseEnrolled, hcall]))
  have hm {id w r : Nat} (hid : 0x800 ≤ id) : messageField (ivar id k w r) = false := messageField_ivar (by omega) (by omega) (by omega) _ _
  have hwf := hrecord.wf (run_wf _ hs)
  refine ⟨t, hexec, hanswer, (hrest _ (hm (by decide)) (callKey_fuse (by decide)).2).trans ((rd_run_sets hwf (hm (by decide)) [_, _] 1 rfl).trans rfl),
    (hrest _ (hm (by decide)) (callKey_fuse (by decide)).2).trans ((rd_run_sets hwf (hm (by decide)) [_] usage ?_).trans (Nat.mod_eq_of_lt (show usage < 2 ^ 8 by omega)))⟩
  have hapart : (ivar 0x805 k 8 0).key ≠ (V.fuseEnrolled k).key := fuse_apart (by decide) (by omega) (by omega)
  simpa [Upd.clears, flashStore, keeperNote, note] using hapart

/-- What KEY_REVOKE leaves of the state after its record. -/
def keyRevoked (k locks : Nat) : List Upd := [.set (V.fuseRevoked k) 1, keeperNote Ty.KEY_EVENT [(24, 1, k), (25, 1, 2), (28, 4, locks)]]

theorem keyRevoke_of_fit {k : Nat} (hslot : s.gateArg core 8 1 = k) (hk : k < 8) (henrolled : s.on (V.fuseEnrolled k) = true)
    (hrevoked : s.on (V.fuseRevoked k) = false) (hleft : ((List.range 4).any fun j => j != k && s.keyUsable 0 j) = true)
    (hreads : s.callerReads core (s.gateArg core 16 8) 3076 = true) (hstore : s.storeOpen = true) (hwarn : s.on CRP_PFSTAT.warn = false) :
    keyRevoke core s = if s.tokenCode (s.tokenAt (s.gateArg core 16 8)) 4 (fun j => j != k) ≠ 0 then refuse GateS.badToken s
      else (((s.does (ledgerWrite 5 ([k, 2] ++ List.replicate 6 0 ++ leBytes 32 (s.rd (V.fuseKey k))))).run (keyRevoked k s.locks)).does freshNonce,
        ⟨GateS.done, []⟩) := by
  subst hslot
  have hargs : ¬(decide (7 < s.gateArg core 8 1) || !s.on (V.fuseEnrolled (s.gateArg core 8 1)) || s.on (V.fuseRevoked (s.gateArg core 8 1)) ||
      !((List.range 4).any fun j => j != s.gateArg core 8 1 && s.keyUsable 0 j) || !s.callerReads core (s.gateArg core 16 8) 3076) = true := by
    rw [henrolled, hrevoked, hleft, hreads]
    simpa using Nat.le_of_lt_succ hk
  exact (if_neg hargs).trans ((if_neg (by simp [hstore])).trans ((if_neg (by simp [hwarn])).trans rfl))

theorem keyRevoke_revokes (hs : s.Wf) (hserving : s.serving = true) (hnext : s.nextCall = some core) (hcode : s.gateCode core = 9) {k : Nat}
    (hslot : s.gateArg core 8 1 = k) (hk : k < 8) (henrolled : s.rd (V.fuseEnrolled k) = 1) (hrevoked : s.rd (V.fuseRevoked k) = 0)
    (hleft : ((List.range 4).any fun j => j != k && s.keyUsable 0 j) = true) (hreads : s.callerReads core (s.gateArg core 16 8) 3076 = true)
    (hstore : s.storeOpen = true) (hwarn : s.rd CRP_PFSTAT.warn = 0) :
    Gives (.keyRevoke core) s (fun t => ∃ status, Answered s core 9 status t ∧
      (s.tokenCode (s.tokenAt (s.gateArg core 16 8)) 4 (fun j => j != k) = 0 → status = GateS.done ∧ t.rd (V.fuseRevoked k) = 1) ∧
      (s.tokenCode (s.tokenAt (s.gateArg core 16 8)) 4 (fun j => j != k) ≠ 0 → status = GateS.badToken ∧ t.rd (V.fuseRevoked k) = 0)) := by
  have henrolled' : (s.does (gateTaken core)).on (V.fuseEnrolled k) = true := on_of_rd ((rd_taken_fuse (by decide)).trans henrolled)
  have hkept : (s.does (gateTaken core)).rd (V.fuseRevoked k) = 0 := (rd_taken_fuse (by decide)).trans hrevoked
  have hrevoked' : (s.does (gateTaken core)).on (V.fuseRevoked k) = false := on_of_rd hkept
  have hleft' : ((List.range 4).any fun j => j != k && (s.does (gateTaken core)).keyUsable 0 j) = true := by
    simpa only [keyUsable_taken] using hleft
  have hf := keyRevoke_of_fit (s := s.does (gateTaken core)) hslot hk henrolled' hrevoked' hleft' ((callerReads_taken ..).trans hreads)
    (storeOpen_taken.trans hstore) ((on_taken (by decide) (by decide)).trans (on_of_rd hwarn))
  rw [tokenCode_taken, tokenAt_taken, gateArg_taken] at hf
  have hm : messageField (V.fuseRevoked k) = false := messageField_ivar (by omega) (by decide) (by decide) _ _
  obtain ⟨hcall, hreply⟩ := callKey_fuse (id := 0x807) (i := k) (w := 1) (reset := 0) (by decide)
  by_cases htoken : s.tokenCode (s.tokenAt (s.gateArg core 16 8)) 4 (fun j => j != k) = 0
  · rw [if_neg (not_not.mpr htoken)] at hf
    have hrecord := Passing.does (Via.refl (s.does (gateTaken core)))
      (ledgerWrite_spares 5 ([k, 2] ++ List.replicate 6 0 ++ leBytes 32 ((s.does (gateTaken core)).rd (V.fuseKey k))))
    have hmarked := Passing.run hrecord (us := keyRevoked k (s.does (gateTaken core)).locks) (by
      simp [keyRevoked, keeperNote, note, Upd.spares, V.fuseRevoked, hcall])
    obtain ⟨t, hexec, hanswer, hrest⟩ := serveCall_answers hs hserving hnext hcode rfl hf (Passing.does hmarked fun _ => rfl)
    have hnonce (u : State) : (u.does freshNonce).rd (V.fuseRevoked k) = u.rd (V.fuseRevoked k) :=
      Passing.rd_boots (Passing.does (Via.refl u) freshNonce_boots) hm (by
        have hown : (V.fuseRevoked k).key = (0x1_0807_0000 + k) * 64 := rfl
        have hwipe : MEM_STAT.wipe.key = 0x110_0000 * 64 := rfl
        have hctr : V.freeCtr.key = 0x1_0002_0000 * 64 := rfl
        have hversion : V.keeperVersion.key = 0x1_01C1_0000 * 64 := rfl
        have howed : V.structOwed.key = 0x1_01C2_0000 * 64 := rfl
        have hwiped : V.fuseWiped.key = 0x1_0801_0000 * 64 := rfl
        simp only [bootKey, Bool.or_eq_false_iff, Bool.and_eq_false_iff, decide_eq_false_iff_not, beq_eq_false_iff_ne]
        omega)
    refine ⟨t, hexec, _, hanswer, fun _ => ⟨rfl, ?_⟩, fun h => absurd htoken h⟩
    exact (hrest _ hm hreply).trans ((hnonce _).trans ((rd_run_sets (hrecord.wf (run_wf _ hs)) hm [] 1 rfl).trans rfl))
  · rw [if_pos htoken] at hf
    obtain ⟨t, hexec, hanswer, hrest⟩ := serveCall_answers hs hserving hnext hcode rfl hf (Via.refl _)
    exact ⟨t, hexec, _, hanswer, fun h => absurd h htoken, fun _ => ⟨rfl, (hrest _ hm hreply).trans hkept⟩⟩

/-! Cores, the public key, and calls of no code (R408, R411, R412). -/

theorem coreRetire_of_fit {c : Nat} (hc : s.gateArg core 8 1 = c) (hlo : 1 ≤ c) (hhi : c ≤ 4) (hwarn : s.on CRP_PFSTAT.warn = false) :
    coreRetire core s = (s.run [.set V.fuseRetire (setBit (s.rd V.fuseRetire) (s.physCore c)),
      keeperNote Ty.CORE_EVENT [(24, 1, c), (25, 1, s.physCore c), (26, 1, 3)]], ⟨GateS.done, []⟩) := by
  subst hc
  have hargs : ¬(decide (s.gateArg core 8 1 = 0) || decide (4 < s.gateArg core 8 1)) = true := by
    simp only [Bool.or_eq_true, decide_eq_true_eq]
    omega
  exact (if_neg hargs).trans ((if_neg (by simp [hwarn])).trans rfl)

theorem physCore_le {c : Nat} (hc : c ≤ 4) : s.physCore c ≤ 5 := by
  unfold State.physCore
  split <;> omega

theorem coreRetire_retires (hs : s.Wf) (hserving : s.serving = true) (hnext : s.nextCall = some core) (hcode : s.gateCode core = 10)
    {c : Nat} (hc : s.gateArg core 8 1 = c) (hlo : 1 ≤ c) (hhi : c ≤ 4) (hwarn : s.rd CRP_PFSTAT.warn = 0) :
    Gives (.coreRetire core) s (fun t => Answered s core 10 GateS.done t ∧ bit (t.rd V.fuseRetire) (s.physCore c) = true) := by
  have hf := coreRetire_of_fit (s := s.does (gateTaken core)) hc hlo hhi ((on_taken (by decide) (by decide)).trans (on_of_rd hwarn))
  obtain ⟨t, hexec, hanswer, hrest⟩ := serveCall_answers hs hserving hnext hcode rfl hf (Passing.run (Via.refl _) rfl)
  refine ⟨t, hexec, hanswer, ?_⟩
  have hread : t.rd V.fuseRetire = setBit ((s.does (gateTaken core)).rd V.fuseRetire) ((s.does (gateTaken core)).physCore c) % 2 ^ 6 :=
    (hrest V.fuseRetire (by decide) (by decide)).trans (rd_run_sets (g := V.fuseRetire) (run_wf _ hs) (by decide) [] _ rfl)
  rw [hread, physCore_taken, bit_mod_two_pow (Nat.lt_succ_of_le (physCore_le hhi)), bit_setBit_same]

theorem attPublic_answers (hs : s.Wf) (hserving : s.serving = true) (hnext : s.nextCall = some core) (hcode : s.gateCode core = 11)
    (hwrites : s.callerWrites core (s.gateArg core 16 8) 2884 = true) : Gives (.attPublic core) s (Answered s core 11 GateS.done) := by
  have hwrites' : (s.does (gateTaken core)).callerWrites core ((s.does (gateTaken core)).gateArg core 16 8) 2884 = true :=
    (callerWrites_taken ..).trans hwrites
  obtain ⟨t, hexec, hanswer, -⟩ := serveCall_answers hs hserving hnext hcode rfl (f := attPublic core) (if_neg (by simp only [hwrites']; decide))
    (Passing.run (Via.refl _) rfl)
  exact ⟨t, hexec, hanswer⟩

/-- A call of no code answers 1, and an IMAGE_STAGE of no operation 2. -/
theorem unknownGateCall_answers (hs : s.Wf) (hserving : s.serving = true) (hnext : s.nextCall = some core) {badOp : Bool}
    (hop : (s.gateCode core == 2 && !(decide (1 ≤ s.gateArg core 8 1) && decide (s.gateArg core 8 1 ≤ 4))) = badOp)
    (hfits : (!gateCallKnown (s.gateCode core) || badOp) = true) :
    Gives (.unknownGateCall core) s (fun t => Answered s core (s.gateCode core) (if badOp then GateS.badArg else GateS.unknown) t ∧
      t.rd IMG_STAT.busy = s.rd IMG_STAT.busy) := by
  subst hop
  obtain ⟨t, hexec, hanswer, hrest⟩ := serveCall_answers hs hserving hnext rfl hfits (f := refuse _) rfl (Via.refl _)
  exact ⟨t, hexec, hanswer, (hrest _ (by decide) (by decide)).trans (rd_taken (by decide) (by decide))⟩

end Sys2Proof.Machine
end

section
/-! STRUCT_COMMIT and LC_REQUEST (R254, R256, R411, R418). -/

namespace Sys2Proof.Machine

variable {s : State} {core : Nat}

/-! A load. -/

theorem lpTraffic_spares {p : Nat → Bool} (isWrite : Bool) (a n : Nat) (s : State) : (lpTraffic isWrite a n s).all (Upd.spares p) = true := by
  unfold lpTraffic
  split
  · rfl
  · simp [List.all_flatMap, Upd.spares]

theorem loadReport_spares (code item : Nat) (s : State) : (loadReport code item s).all (Upd.spares callKey) = true := by
  unfold loadReport
  split <;> rfl

theorem loadStart_spares (addr len : Nat) (s : State) : Passing (Upd.spares callKey) s (loadStart addr len s) := by
  refine Via.ite (fun _ => Passing.does (Via.refl s) (loadReport_spares 13 0)) fun _ => ?_
  exact Passing.run (Passing.run (Via.refl s) (lpTraffic_spares ..)) rfl

theorem loadEnd_spares (s : State) : Passing (Upd.spares callKey) s (loadEnd s) := by
  unfold loadEnd
  cases (s.imageBad s.idleImg (s.rd V.loadLen)).or (failIf 12 (s.on V.loadUe)) with
  | none => exact Passing.does (Passing.run (Via.refl s) rfl) (loadReport_spares 0 0)
  | some e => exact Passing.does (Passing.run (Via.refl s) rfl) (loadReport_spares e.1 e.2)

/-- A load ends VERIFIED or FAILED. -/
theorem loadEnd_decides (hs : s.Wf) : (loadEnd s).rd FAB_STAT.load = LoadS.verified ∨ (loadEnd s).rd FAB_STAT.load = LoadS.failed := by
  obtain ⟨hload, -⟩ := loadEnd_judges hs
  rw [hload]
  split
  · exact .inl rfl
  · exact .inr rfl

/-! STRUCT_COMMIT. -/

/-- The state in which a STRUCT_COMMIT's load has ended. -/
def structLoaded (a len : Nat) (s : State) : State := loadEnd (loadStart a len (s.run [.set FAB_LOADADDR.addr a, .set FAB_LOADLEN.len len]))

theorem structLoaded_spares (a len : Nat) (s : State) : Passing (Upd.spares callKey) s (structLoaded a len s) := by
  have hstart : Passing (Upd.spares callKey) s (s.run [.set FAB_LOADADDR.addr a, .set FAB_LOADLEN.len len]) := Passing.run (Via.refl s) rfl
  exact (hstart.trans (loadStart_spares ..)).trans (loadEnd_spares _)

/-- A verified image is committed by the keeper's own transaction, for its caller. -/
def structCommitting (core live seed seq : Nat) (s : State) : State := (s.does (structTx live seed)).run [.set V.structCore core, .set V.structSeq seq]

theorem structStart_of_fit (hreads : s.callerReads core (s.gateArg core 16 8) (s.gateArg core 24 4) = true) (hfree : s.txBusy = false) {t : State}
    (ht : structLoaded (s.gateArg core 16 8) (s.gateArg core 24 4) s = t) :
    structStart core s = if t.rd FAB_STAT.load ≠ LoadS.verified then
        (t, some ⟨GateS.checkFailed, [(72, leBytes 4 (t.rd FAB_LOADERR.code * 2 ^ 24 + t.rd FAB_LOADERR.item)), (76, [0])]⟩)
      else (structCommitting core (s.gateArg core 8 1 % 2) (s.gateArg core 32 8) (s.gateSeq core) t, none) := by
  subst ht
  exact (if_neg (by simp [hreads])).trans ((if_neg (by simp [hfree])).trans rfl)

theorem structCommit_loads (hs : s.Wf) (hserving : s.serving = true) (hnext : s.nextCall = some core) (hcode : s.gateCode core = 3)
    (hreads : s.callerReads core (s.gateArg core 16 8) (s.gateArg core 24 4) = true) (hfree : s.txBusy = false) :
    Gives (.structCommit core) s (fun t => ((t.rd FAB_STAT.load = LoadS.verified ∧ t.rd V.structCore = core ∧ t.rd TIM_TXSTAT.state = TxS.committing ∧
      t.rd TIM_TXSTAT.owner = Req.keeper) ∨ (t.rd FAB_STAT.load = LoadS.failed ∧ t.rd KPR_GATESTAT.status = GateS.checkFailed ∧ t.rd KPR_GATESTAT.call = 3)) ∧
      bit (t.rd KPR_GATEPEND.pend) (core - 1) = false) := by
  have hcore := nextCall_core hnext
  obtain ⟨t, ht⟩ : ∃ t, structLoaded (s.gateArg core 16 8) (s.gateArg core 24 4) (s.does (gateTaken core)) = t := ⟨_, rfl⟩
  have hpass : Passing (Upd.spares callKey) (s.does (gateTaken core)) t := ht ▸ structLoaded_spares ..
  have hwf : t.Wf := hpass.wf (run_wf _ hs)
  have hpend : bit (t.rd KPR_GATEPEND.pend) (core - 1) = false := by
    rw [hpass.rd_spares (by decide) (by decide), gateTaken_frees hs hcore]
  have hstart := structStart_of_fit (s := s.does (gateTaken core)) ((callerReads_taken ..).trans hreads) (txBusy_taken.trans hfree) ht
  have hexec : exec (.structCommit core) s = .next (match structStart core (s.does (gateTaken core)) with
     | (t, some a) => t.does (gateReply core 3 a.status (s.gateSeq core) a.res)
     | (t, none) => t) := whenever_of (by simp [hserving, hnext, hcode]) _ _
  refine ⟨_, hexec, ?_⟩
  have hends : t.rd FAB_STAT.load = LoadS.verified ∨ t.rd FAB_STAT.load = LoadS.failed := by
    have hloading : (loadStart (s.gateArg core 16 8) (s.gateArg core 24 4) ((s.does (gateTaken core)).run
      [.set FAB_LOADADDR.addr (s.gateArg core 16 8), .set FAB_LOADLEN.len (s.gateArg core 24 4)])).Wf := (loadStart_spares ..).wf (run_wf _ (run_wf _ hs))
    exact ht ▸ loadEnd_decides hloading
  obtain hverified | hfailed := hends
  · rw [hstart, if_neg (not_not.mpr hverified)]
    refine ⟨.inl ⟨?_, ?_, ?_, ?_⟩, ?_⟩
    · exact ((rd_run_clear (by decide) rfl).trans (rd_run_clear (us := structTx _ _ t) (by decide) rfl)).trans hverified
    · exact (rd_run_sets (run_wf _ hwf) (by decide) [] core rfl).trans (Nat.mod_eq_of_lt (show core < 2 ^ 4 by omega))
    · exact (rd_run_clear (by decide) rfl).trans (rd_run_lastSet hwf (v := TxS.committing) (by decide) rfl)
    · exact (rd_run_clear (by decide) rfl).trans (rd_run_lastSet hwf (v := Req.keeper) (by decide) rfl)
    · exact (congrArg (bit · _) ((rd_run_clear (by decide) rfl).trans (rd_run_clear (us := structTx _ _ t) (by decide) rfl))).trans hpend
  · rw [hstart, if_pos (by rw [hfailed]; decide)]
    obtain ⟨hstatus, hcall, -, hfreed⟩ := gateReply_answers (code := 3) hs hcore hpass GateS.checkFailed (s.gateSeq core)
      [(72, leBytes 4 (t.rd FAB_LOADERR.code * 2 ^ 24 + t.rd FAB_LOADERR.item)), (76, [0])]
    exact ⟨.inr ⟨(rd_run_clear (by decide) (gateReply_clears (by decide) t)).trans hfailed, hstatus, hcall⟩, hfreed⟩

end Sys2Proof.Machine
end

section
/-! LC_REQUEST (R411, R418). -/

namespace Sys2Proof.Machine

variable {s : State} {core n : Nat}

theorem trayIdle_taken : (s.does (gateTaken n)).trayIdle = s.trayIdle := by
  have hgroup (g : Nat) (hg : g ∈ List.range 16) : ((s.does (gateTaken n)).rd (SEQ_GSTAT.state g) == 0) = (s.rd (SEQ_GSTAT.state g) == 0) := by
    have hlt := List.mem_range.mp hg
    rw [rd_taken_beside (.inl (by dsimp only [SEQ_GSTAT.state]; omega)) (show 29 < 64 by decide)]
  have hslot (k : Nat) (hk : k ∈ List.range 8) : (s.does (gateTaken n)).on (ACU_SSTAT.rst k) = s.on (ACU_SSTAT.rst k) := by
    have hlt := List.mem_range.mp hk
    rw [State.on, State.on, rd_taken_beside (.inl (by dsimp only [ACU_SSTAT.rst]; omega)) (show 26 < 64 by decide)]
  rw [Bool.eq_iff_iff]
  simp only [State.trayIdle, Bool.and_eq_true, List.all_eq_true]
  exact and_congr (forall₂_congr fun g hg => by rw [hgroup g hg]) (forall₂_congr fun k hk => by rw [hslot k hk])

theorem lcRefusal_taken (c target token : Nat) : (s.does (gateTaken n)).lcRefusal c target token = s.lcRefusal c target token := by
  unfold State.lcRefusal
  rw [on_taken (by decide) (by decide), on_taken (by decide) (by decide), lifecycle_taken, storeOpen_taken, trayIdle_taken, callerReads_taken, tokenAt_taken]
  simp only [tokenCode_taken]

/-- A status of R411. -/
theorem lcRefusal_lt (c target token : Nat) : s.lcRefusal c target token < 256 := by
  unfold State.lcRefusal
  split
  · decide
  · split
    · decide
    · split_ifs <;> decide

/-- A refusal's record. -/
def refusalNoted (target why : Nat) (s : State) : List Upd := [keeperNote Ty.LIFECYCLE [(24, 1, s.lifecycle), (25, 1, target), (26, 1, 4), (27, 1, why)]]

/-- A refused transition is answered, and the fuses stand. -/
theorem lcRequest_refuses (hs : s.Wf) (hserving : s.serving = true) (hnext : s.nextCall = some core) (hcode : s.gateCode core = 7) (r : Restart) {why : Nat}
    (hwhy : s.lcRefusal core (s.gateArg core 8 1) (s.gateArg core 16 8) = why) (hrefused : why ≠ 0) :
    Gives (.lcRequest core r) s (fun t => t.rd KPR_GATESTAT.status = why ∧ t.rd V.fuseState = s.rd V.fuseState) := by
  have hwhy' : (s.does (gateTaken core)).lcRefusal core (s.gateArg core 8 1) (s.gateArg core 16 8) = why := (lcRefusal_taken ..).trans hwhy
  have hnoted : Passing (Upd.spares callKey) (s.does (gateTaken core)) ((s.does (gateTaken core)).does (refusalNoted (s.gateArg core 8 1) why)) :=
    Passing.does (Via.refl _) fun _ => rfl
  have hexec : exec (.lcRequest core r) s = .next (((s.does (gateTaken core)).does (refusalNoted (s.gateArg core 8 1) why)).does
      (gateReply core 7 why (s.gateSeq core) [])) := by
    refine (whenever_of (by simp [hserving, hnext, hcode]) _ _).trans (congrArg _ ?_)
    dsimp only
    rw [gateArg_taken, hwhy', if_pos hrefused]
    rfl
  obtain ⟨hstatus, -⟩ := gateReply_answers (code := 7) hs (nextCall_core hnext) hnoted why (s.gateSeq core) []
  refine ⟨_, hexec, hstatus.trans (Nat.mod_eq_of_lt (hwhy ▸ lcRefusal_lt ..)), ?_⟩
  exact (rd_run_clear (by decide) (gateReply_clears (by decide) _)).trans ((rd_run_clear (by decide) rfl).trans (rd_taken (by decide) (by decide)))

/-! A transition that goes on. -/

/-- A transition leads to a state of R418. -/
theorem lcTransition_target {a b p : Nat} (h : lcTransition a b = some p) : b ≤ 4 := by
  by_contra hfar
  have hnone : b ≠ 1 ∧ b ≠ 2 ∧ b ≠ 3 ∧ b ≠ 4 := by omega
  simp [lcTransition, hnone] at h

theorem target_of_accepted {target token : Nat} (h : s.lcRefusal core target token = 0) : target ≤ 4 := by
  unfold State.lcRefusal at h
  split at h
  · cases h
  · split at h
    · cases h
    next p hp => exact lcTransition_target hp

/-- A field of the supply domain beside what a cold reset marks. -/
theorem coldReset_fuses (cause bad strap : Nat) (lpHeld : Bool) (supplies : List Nat) (s : State) :
    (coldReset cause bad strap lpHeld supplies s).rd V.fuseState = s.rd V.fuseState := by
  obtain ⟨keep, heq⟩ := rd_coldReset cause bad strap lpHeld supplies s (g := V.fuseState) (by decide) (by decide)
  rw [heq, State.coldMarked, rd_run_clear (by decide) (coldMarks_clears (by decide) (by decide) (otherMarks_clears strap keep s (by decide) (by decide))),
    planesReset_spares (by decide) (by decide) rfl, (flashesStop_boots s).rd_boots (by decide) (by decide)]

/-- The program of a transition leaves the marks that tell a reset's cause. -/
theorem lcProgram_keeps (target : Nat) (s : State) {g : Fld} (hm : messageField g = false) (hfuse : g.key ≠ V.fuseState.key)
    (hused : g.key ≠ IMG_LEDGER.used.key) (hnext : g.key ≠ IMG_LSEQ.next.key) : (lcProgram target s).rd g = s.rd g := by
  have hrecord (kind : Nat) (payload : List Nat) : (ledgerWrite kind payload s).all (·.clears g) = true := by
    unfold ledgerWrite
    split
    · rfl
    · simp [flashStore, bump, Upd.clears, hused, hnext]
  refine (rd_run_clear hm ?_).trans (rd_run_clear hm (hrecord _ _))
  simp [keeperNote, note, Upd.clears, hfuse]

theorem lcProgram_fuses (hs : s.Wf) {target : Nat} (ht : target ≤ 4) : bit ((lcProgram target s).rd V.fuseState) target = true := by
  have hread : (lcProgram target s).rd V.fuseState = setBit (s.rd V.fuseState) target % 2 ^ 8 := by
    unfold lcProgram
    exact rd_run_lastSet (run_wf _ hs) (by decide) rfl
  rw [hread, bit_mod_two_pow (by omega), bit_setBit_same]

theorem lcRequest_resets (hs : s.Wf) (hserving : s.serving = true) (hnext : s.nextCall = some core) (hcode : s.gateCode core = 7) (r : Restart)
    (hwhy : s.lcRefusal core (s.gateArg core 8 1) (s.gateArg core 16 8) = 0) :
    Gives (.lcRequest core r) s (fun t => t.rd CRP_CAUSE.cold = s.causeAfter 5 ∧ bit (t.rd V.fuseState) (s.gateArg core 8 1) = true ∧ t.now = 0) := by
  have hwhy' : (s.does (gateTaken core)).lcRefusal core (s.gateArg core 8 1) (s.gateArg core 16 8) = 0 := (lcRefusal_taken ..).trans hwhy
  set u := lcProgram (s.gateArg core 8 1) (s.does (gateTaken core)) with hu
  have hexec : exec (.lcRequest core r) s = .next (coldReset 5 r.bad r.strap r.lpHeld r.supplies u) :=
    (whenever_of (by simp [hserving, hnext, hcode]) _ _).trans (congrArg _ (if_neg (not_not.mpr hwhy')))
  have hwf : u.Wf := run_wf _ (run_wf _ (run_wf _ hs))
  have hkeep {g : Fld} (hm : messageField g = false) (hfuse : g.key ≠ V.fuseState.key) (hused : g.key ≠ IMG_LEDGER.used.key)
      (hlast : g.key ≠ IMG_LSEQ.next.key) (hpend : g.key ≠ KPR_GATEPEND.pend.key) (horder : g.key ≠ V.gateOrder.key) : u.rd g = s.rd g :=
    (lcProgram_keeps _ _ hm hfuse hused hlast).trans (rd_taken hpend horder)
  obtain ⟨hcause, -, hnow, -⟩ := coldReset_leaves hwf r.bad r.strap r.lpHeld r.supplies (show 5 < 256 by decide)
  refine ⟨_, hexec, hcause.trans (causeAfter_of 5 ?_ ?_ ?_ ?_), ?_, hnow⟩
  · exact hkeep (by decide) (by decide) (by decide) (by decide) (by decide) (by decide)
  · exact hkeep (by decide) (by decide) (by decide) (by decide) (by decide) (by decide)
  · exact hkeep (by decide) (by decide) (by decide) (by decide) (by decide) (by decide)
  · exact hkeep (by decide) (by decide) (by decide) (by decide) (by decide) (by decide)
  · rw [coldReset_fuses]
    exact lcProgram_fuses (run_wf _ hs) (target_of_accepted hwhy)

/-- Settles O43: each call leaves the pending ones and answers as its effect says (serveCall_answers). -/
theorem gateCallsTakeEffect : Obligations.GateCallsTakeEffect := by
  unfold Obligations.GateCallsTakeEffect
  refine ⟨?_, fun _ _ hs hserving hnext hcode hreads hfree => structCommit_loads hs hserving hnext hcode hreads hfree, ?_, ?_, ?_, ?_, ?_, ?_, ?_, ?_, ?_,
    fun _ _ r hs hserving hnext hcode hwhy => lcRequest_refuses hs hserving hnext hcode r rfl hwhy,
    fun _ _ r hs hserving hnext hcode hwhy => lcRequest_resets hs hserving hnext hcode r hwhy⟩
  · intro s core hs hserving hnext hcode
    exact grantQuery_answers hs hserving hnext hcode
  · intro s core hs hserving hnext hcode hreads hwrites hlife hatt hstore hleft hwarn
    obtain ⟨t, hexec, ⟨hstatus, hrest⟩, hindex⟩ := attest_takes_index hs hserving hnext hcode hreads hwrites hlife hatt hstore hleft hwarn
    exact ⟨t, hexec, hstatus, hindex, hrest⟩
  · intro s core hs hserving hnext hcode hk hnow hmin hstore hwarn
    obtain ⟨t, hexec, ⟨hstatus, hrest⟩, hmin⟩ := svnRaise_raises hs hserving hnext hcode rfl rfl hk hnow hmin hstore hwarn
    exact ⟨t, hexec, hstatus, hmin, hrest⟩
  · intro s core hs hserving hnext hcode hstore hk hv hmin hold hwarn
    obtain ⟨t, hexec, ⟨hstatus, hrest⟩, hfloor⟩ := svnFuse_fuses hs hserving hnext hcode hstore rfl rfl hk hv hmin hold hwarn
    exact ⟨t, hexec, hstatus, hfloor, hrest⟩
  · intro s core hs hserving hnext hcode hlo hhi hnew hkeeper htest husage hreads hlife hstore hwarn
    obtain ⟨t, hexec, ⟨hstatus, hrest⟩, henrolled, huse⟩ :=
      keyEnroll_fills hs hserving hnext hcode rfl rfl hlo hhi hnew hkeeper htest husage hreads hlife hstore hwarn
    exact ⟨t, hexec, hstatus, henrolled, huse, hrest⟩
  · intro s core hs hserving hnext hcode hk henrolled hrevoked hleft hreads hstore hwarn
    obtain ⟨t, hexec, status, ⟨hstatus, hrest⟩, hgood, hbad⟩ := keyRevoke_revokes hs hserving hnext hcode rfl hk henrolled hrevoked hleft hreads hstore hwarn
    refine ⟨t, hexec, fun htoken => ?_, fun htoken => ?_, hrest⟩
    · obtain ⟨rfl, hmark⟩ := hgood htoken
      exact ⟨hstatus, hmark⟩
    · obtain ⟨rfl, hmark⟩ := hbad htoken
      exact ⟨hstatus, hmark⟩
  · intro s core hs hserving hnext hcode hlo hhi hwarn
    obtain ⟨t, hexec, ⟨hstatus, hrest⟩, hretired⟩ := coreRetire_retires hs hserving hnext hcode rfl hlo hhi hwarn
    exact ⟨t, hexec, hstatus, hretired, hrest⟩
  · intro s core hs hserving hnext hcode hwrites
    exact attPublic_answers hs hserving hnext hcode hwrites
  · intro s core hs hserving hnext hunknown
    have hop : (s.gateCode core == 2 && !(decide (1 ≤ s.gateArg core 8 1) && decide (s.gateArg core 8 1 ≤ 4))) = false := by
      refine Bool.and_eq_false_imp.mpr fun htwo => ?_
      rw [beq_iff_eq.mp htwo] at hunknown
      cases hunknown
    obtain ⟨t, hexec, ⟨hstatus, -, hserved, hpend⟩, -⟩ := unknownGateCall_answers hs hserving hnext hop (by rw [hunknown]; rfl)
    exact ⟨t, hexec, hstatus, hpend, hserved⟩
  · intro s core hs hserving hnext hcode harg
    have hop : (s.gateCode core == 2 && !(decide (1 ≤ s.gateArg core 8 1) && decide (s.gateArg core 8 1 ≤ 4))) = true := by
      simp only [hcode, beq_self_eq_true, Bool.true_and, Bool.not_eq_true', Bool.and_eq_false_iff, decide_eq_false_iff_not]
      omega
    obtain ⟨t, hexec, ⟨hstatus, -, -, hpend⟩, hbusy⟩ := unknownGateCall_answers hs hserving hnext hop (by simp)
    exact ⟨t, hexec, hstatus, hpend, hbusy⟩

end Sys2Proof.Machine
end
